-- ==== Sys2Proof/Word.lean ====
section
/-!
DEFINITION. Words and the plainest arithmetic: saturating and two's complement integers over `Nat`.

Values that the spec counts, compares or adds are natural numbers or integers here; a register field keeps the
unsigned reading of its bits, and `toInt`/`ofInt` pass between that and a signed value.
-/

namespace Sys2Proof

/-- A 32-bit register word. -/
abbrev Word := BitVec 32

/-- A byte of memory. -/
abbrev Byte := BitVec 8

/-- The signed value of `v` read as a `w`-bit two's complement number. -/
def toInt (w v : Nat) : Int :=
  if v % 2 ^ w < 2 ^ (w - 1) then ((v % 2 ^ w : Nat) : Int) else ((v % 2 ^ w : Nat) : Int) - ((2 ^ w : Nat) : Int)

/-- The `w`-bit two's complement representation of `x`, wrapping. -/
def ofInt (w : Nat) (x : Int) : Nat := (x % ((2 ^ w : Nat) : Int)).toNat

/-- `x` limited to `lo … hi`: the value that acts where a field's stored value lies outside its range (R648). -/
def clampNat (lo hi x : Nat) : Nat := if x < lo then lo else if hi < x then hi else x

/-- The same for integers. -/
def clampInt (lo hi x : Int) : Int := if x < lo then lo else if hi < x then hi else x

/-- Addition that stops at the largest `w`-bit value: every counter of the spec that saturates. -/
def satAdd (w a b : Nat) : Nat := if a + b < 2 ^ w then a + b else 2 ^ w - 1

/-- Bit `i` of `v`. -/
def bitAt (v i : Nat) : Bool := v / 2 ^ i % 2 == 1

/-- Bits `lo … lo + w − 1` of `v`. -/
def bitsAt (v lo w : Nat) : Nat := v / 2 ^ lo % 2 ^ w

/-- A Boolean as one bit. -/
def b2n (b : Bool) : Nat := if b then 1 else 0

/-- `v` with bit `i` set to `b`. -/
def setBit (v i : Nat) (b : Bool) : Nat := v - b2n (bitAt v i) * 2 ^ i + b2n b * 2 ^ i

/-- The little-endian bytes of `v`, `n` of them (R11). -/
def bytesLE : Nat → Nat → List Byte
  | 0, _ => []
  | n + 1, v => BitVec.ofNat 8 v :: bytesLE n (v / 256)

/-- The number whose little-endian bytes are given. -/
def ofBytesLE : List Byte → Nat
  | [] => 0
  | b :: r => b.toNat + 256 * ofBytesLE r

/-- The big-endian bytes of `v`, `n` of them: structures recorded on the disc (R11). -/
def bytesBE (n v : Nat) : List Byte := (bytesLE n v).reverse

/-- The number whose big-endian bytes are given. -/
def ofBytesBE (l : List Byte) : Nat := ofBytesLE l.reverse

/-- The number of set bits among the lowest `n` bits of `v`. -/
def popCount : Nat → Nat → Nat
  | 0, _ => 0
  | n + 1, v => v % 2 + popCount n (v / 2)

end Sys2Proof
end

