-- ==== Sys2Proof/Syntax.lean ====
section
/-!
DEFINITION. The commands the controller takes: one constructor of `Instr` per row of the opcode table, with the data
the row's sender supplies.  A bay command names its bay by number; data that comes from outside the controller (a
frame's payload, what a disc or a measurement showed) stands in the operands.
-/

namespace Sys2Proof

/-! ## Operand types -/

/-- An upstream Bay Link frame as received (R62): header fields, payload blocks, and whether the blocks were cut short
or interrupted (R63). -/
structure UpFrame where
  seq  : Nat
  len  : Nat
  arg  : Nat
  crc  : Nat
  data : List (BitVec 64)
  cut  : Bool
  deriving DecidableEq, Repr

/-- A waybill (R347), its PARAM bytes 32–63 as a list of 32 bytes. -/
structure Waybill where
  opcode : Nat
  flags  : Nat
  prio   : Nat
  bay    : Nat
  cid    : Nat
  rring  : Nat
  dform  : Nat
  daddr  : Nat
  dlen   : Nat
  rcap   : Nat
  raddr  : Nat
  param  : List Byte
  deriving DecidableEq, Repr

/-- How a host read failed (R356, causes 1 to 3). -/
inductive HostFault where
  | ur | ca | poison
  deriving DecidableEq, Repr

/-- Which events of R341 reset Porter. -/
inductive PcieResetKind where
  | functionLevel | hot | linkDown
  deriving DecidableEq, Repr

/-- What ended the masking of vectors (R359): one table mask bit, MSI-X Enable, or the Function Mask. -/
inductive Unmask where
  | vector (v : Nat) | enable | functionMask
  deriving DecidableEq, Repr

/-- Why bus mastering ended (R340). -/
inductive BusMasterLoss where
  | busMasterEnable | d3hot
  deriving DecidableEq, Repr


/-- Statistics of one beam over the qualified sectors of one revolution (R322): sectors framed and found written, those
that qualify, counted bits; sums of w, w² and y − ŷ (Q2.13); sum and number of the long-run extremes of w on marks and on
spaces, and of |y| at them; sum and number of x + 32 over written payload blocks; the 15 taps after the revolution. -/
structure BeamStats where
  found   : Nat
  sect    : Nat
  bits    : Nat
  w       : Int
  ww      : Int
  err     : Int
  mark    : Int × Nat
  space   : Int × Nat
  extreme : Int × Nat
  refl    : Int × Nat
  taps    : List Int
  deriving DecidableEq, Repr

/-- One side of a detector instance over a revolution (R322 item 6): whether it was a member and not blank; the sums of
r × sv (2^-25) and sv² (2^-24) at m = −1, 0, 1; and over its wedges, the number, and the sums of d_x (nm), of the wedge's
X0[s][0] (Q1.14), of their product and of d_x². -/
structure SideStats where
  avail : Bool
  num   : List Int
  den   : List Int
  wedge : Int × Int × Int × Int × Int
  deriving DecidableEq, Repr

/-- A detector instance: whether both sides were members of its groups, its two sides, and the sum (2^-26) and number of
(y − ŷ)² under the full model. -/
structure CrossStats where
  both  : Bool
  sides : List SideStats
  noise : Int × Nat
  deriving DecidableEq, Repr

/-- What one run of a calibration item measured (R322, R324 to R326): the beams I, C and O; the detector instances; the
parameter and SNR (1/1,000 dB) of each sector swept; the β (1/1,000) of the nine test writes; or what the blank tests that
look for the cursor found: the lowest written track, if any, and its slots, written or blank. -/
inductive CalStats where
  | beams (l : List BeamStats)
  | cross (l : List CrossStats)
  | sweep (pts : List (Int × Int))
  | power (betas : List Int)
  | cursor (lowest : Option Int) (scan : List Bool)
  deriving DecidableEq, Repr

/-- What the block that receives an event takes its ACTION code to mean (R98), the codes not being given (DESIGN CHOICE, log entry 15):
an advance of beam C while reading, the frame start of a slot, the end of a calibration run, or nothing that this model
has. -/
inductive EventAction where
  | advance
  | frameStart
  | calRun (c : CalStats)
  | other
  deriving DecidableEq, Repr

/-- What the check bits of DRAM and of the cache arrays showed while an access or a pass ran (R450, R451, R459): corrected
reads as (address, device), bursts found uncorrectable, corrected array errors, and sectors whose array error could not be
corrected. -/
structure MemSeen where
  corrected : List (Nat × Nat) := []
  uncorr    : List Nat := []
  cacheCorr : Nat := 0
  cacheBad  : List Nat := []
  deriving DecidableEq, Repr

/-- An Ethernet frame that carries an IPv6 packet with a UDP datagram (R522, R523): its addresses, tag, IPv6 and UDP fields,
and the datagram's payload. -/
structure FabPacket where
  dstMac  : Nat
  srcMac  : Nat
  vid     : Option Nat
  pcp     : Nat
  hop     : Nat
  tclass  : Nat
  flow    : Nat
  srcIp   : Nat
  dstIp   : Nat
  sport   : Nat
  dport   : Nat
  payload : List Byte
  deriving DecidableEq, Repr

/-- A frame that a fabric port received (R522): its packet, and whether it is intact: FCS and UDP checksum right, an IPv6
packet of at most 9,216 bytes with no extension header and no fragment. -/
structure FabFrame where
  packet : FabPacket
  intact : Bool
  deriving DecidableEq, Repr

/-- A management-chain frame's bytes. -/
abbrev ChainFrame := List Byte

/-- What the reads of R278 gave for a position of an extent: a sector accepted by its syndrome, a blank slot, or a failed
read. -/
inductive PosSeen where
  | sector (bytes : List Byte) | blank | failed
  deriving DecidableEq, Repr

/-- What a start of the controller meets outside it (R583 to R586): whether the main supplies were off, and whether AON had lost all
power, since the last run; the level of `LSR_INTLK_N` as low; whether the crystal runs by the end of its wait; `VDD_CORE` in mV; the
`REFCLK` cycles in 2,048 `RTCCLK` cycles; the die temperature, signed, in 1/128 °C; which of logic and memory BIST of SYS and PCIE fail; the
milliseconds from the rise of `RST_N` to `CONFIGURE`; and the microseconds of the RTC's second that have passed then. -/
structure StartSeen where
  cycled    : Bool := false
  aonLost   : Bool := false
  intlkLow  : Bool := false
  running   : Bool := true
  vdd       : Nat := 750
  ref       : Nat := 9765625
  temp      : Int := 0
  lbistSys  : Bool := false
  lbistPcie : Bool := false
  mbistSys  : Bool := false
  mbistPcie : Bool := false
  ms        : Nat := 0
  sub       : Nat := 0
  deriving DecidableEq, Repr

/-- What the self-test of `SHUTDOWN` measured (R590 to R592): the parts of the environment check, as for a start; whether the die reached
CURFEW_T; the durations of the logic and memory tests in ms; the domains tested and failed, by bits; the first failure, and the logic
signatures of its domain; memories that failed after repair; and whether the luggage bank came back changed. -/
structure TestSeen where
  running  : Bool := true
  vdd      : Nat := 750
  ref      : Nat := 9765625
  temp     : Int := 0
  hot      : Bool := false
  lbistMs  : Nat := 0
  mbistMs  : Nat := 0
  tested   : Nat := 0
  failed   : Nat := 0
  firstDom : Nat := 0xFFFF
  kind     : Nat := 0
  memFails : Nat := 0
  sigExp   : Nat := 0
  sigGot   : Nat := 0
  changed  : Bool := false
  deriving DecidableEq, Repr

/-- How a call of a customer hook ended (R501, R502): with its return values G0 to G3, or with a fault: its cause, and the first 16 bytes of
the trap frame as two words. -/
inductive HookEnd where
  | returned (g0 g1 g2 g3 : Nat) | fault (cause w0 w1 : Nat)
  deriving DecidableEq, Repr

/-- What a control-store fetch showed (R498): no error, an error that was corrected, or an uncorrectable one. -/
inductive FetchSeen where
  | clean | corrected | uncorrectable
  deriving DecidableEq, Repr

/-! ## The commands -/

/-- The commands of the controller: one constructor per row of the opcode table. -/
inductive Instr where
  /-- BAD_WIDTH_ACCESS (R12). -/
  | badWidthAccess (write : Bool) (offset : Nat) (width : Nat)
  /-- PAIR_LO_WRITE (R12). -/
  | pairLoWrite (offset : Nat) (value : Nat)
  /-- PAIR_HI_WRITE (R12). -/
  | pairHiWrite (offset : Nat) (value : Nat)
  /-- PAIR_LO_READ (R12). -/
  | pairLoRead (offset : Nat)
  /-- RC_FIELD_READ (R13). -/
  | rcFieldRead (offset : Nat)
  /-- REGISTER_WRITE (R13). -/
  | registerWrite (offset : Nat) (value : Nat)
  /-- ANGLE_EVENT_FIRE (R98). -/
  | angleEventFire (bay : Nat) (index : Nat) (now : Nat) (action : EventAction)
  /-- RF_FRAME_RECEIVE (R66). -/
  | rfFrameReceive (bay : Nat) (f : UpFrame)
  /-- SERVO_FRAME_RECEIVE (R67). -/
  | servoFrameReceive (bay : Nat) (f : UpFrame)
  /-- MOTOR_FRAME_RECEIVE (R177). -/
  | motorFrameReceive (bay : Nat) (f : UpFrame) (tpwm : Nat) (now : Nat) (theta : Nat) (emf : Nat)
  /-- MOTOR_FRAME_MISSING (R179). -/
  | motorFrameMissing (bay : Nat) (tpwm : Nat) (theta : Nat) (emf : Nat)
  /-- ENCODER_FRAME_RECEIVE (R215). -/
  | encoderFrameReceive (bay : Nat) (f : UpFrame)
  /-- STATUS_FRAME_RECEIVE (R68). -/
  | statusFrameReceive (bay : Nat) (f : UpFrame)
  /-- ALERT_FRAME_RECEIVE (R84). -/
  | alertFrameReceive (bay : Nat) (f : UpFrame)
  /-- CFG_RSP_RECEIVE (R81). -/
  | cfgRspReceive (bay : Nat) (f : UpFrame)
  /-- ECHO_RESPONSE_RECEIVE (R75). -/
  | echoResponseReceive (bay : Nat) (f : UpFrame) (ps : Nat)
  /-- PRESENCE_SAMPLE (R75). -/
  | presenceSample (bay : Nat) (alertHigh : Bool)
  /-- BAY_RESET_RELEASE (R75). -/
  | bayResetRelease (bay : Nat)
  /-- UPSTREAM_BLOCK_LOCK (R75). -/
  | upstreamBlockLock (bay : Nat)
  /-- TRAIN_TIMEOUT (R75). -/
  | trainTimeout (bay : Nat)
  /-- TRAIN_RETRY (R76). -/
  | trainRetry (bay : Nat)
  /-- LINK_LOSS_SYNC_ERRORS (R85). -/
  | linkLossSyncErrors (bay : Nat)
  /-- LINK_LOSS_STATUS_TIMEOUT (R85). -/
  | linkLossStatusTimeout (bay : Nat)
  /-- LINK_WITHDRAW (R86). -/
  | linkWithdraw (bay : Nat)
  /-- DRAIN_TIMEOUT (R86). -/
  | drainTimeout (bay : Nat)
  /-- BAY_HOST_RESET (R77). -/
  | bayHostReset (bay : Nat)
  /-- FE_ACCESS_GO (R81). -/
  | feAccessGo (bay : Nat)
  /-- FE_ACCESS_TIMEOUT (R81). -/
  | feAccessTimeout (bay : Nat)
  /-- ALERT_PIN_TIMEOUT (R84). -/
  | alertPinTimeout (bay : Nat)
  /-- INTERLOCK_FALL (R82). -/
  | interlockFall
  /-- LOFF_REPEAT (R82). -/
  | loffRepeat
  /-- ADC_RATE_WRITE (R232). -/
  | adcRateWrite (bay : Nat) (rate : Nat)
  /-- WEDGE_DETECTION (R92). -/
  | wedgeDetection (bay : Nat) (tau : Nat) (bits : Nat) (wobble : List (Int × Int))
  /-- WEDGE_DECISION (R93). -/
  | wedgeDecision (bay : Nat) (now : Nat)
  /-- TOOTH_REPORT (R95). -/
  | toothReport (bay : Nat) (tau : Nat) (agrees : Bool)
  /-- TOOTH_SYNTHESIS (R95). -/
  | toothSynthesis (bay : Nat) (now : Nat)
  /-- ACQ_TIMEOUT (R97). -/
  | acqTimeout (bay : Nat)
  /-- BRIDGE_EXPIRE (R94). -/
  | bridgeExpire (bay : Nat)
  /-- SERVO_UPDATE (R117). -/
  | servoUpdate (bay : Nat) (slot : Nat)
  /-- LOOP_COMMIT (R114). -/
  | loopCommit (bay : Nat) (mask : Nat)
  /-- LOOP_COMMIT_APPLY (R114). -/
  | loopCommitApply (bay : Nat) (slot : Nat)
  /-- SRV_EN_WRITE (R115). -/
  | srvEnWrite (bay : Nat) (mask : Nat)
  /-- SRV_AUTO_WRITE (R119). -/
  | srvAutoWrite (bay : Nat) (mask : Nat)
  /-- SRV_MAN_WRITE (R115). -/
  | srvManWrite (bay : Nat) (slot : Nat) (value : Nat)
  /-- REP_TABLE_CLEAR (R122). -/
  | repTableClear (bay : Nat)
  /-- DEFECT_HOLD_OVERRUN (R124). -/
  | defectHoldOverrun (bay : Nat)
  /-- TRACE_ARM (R125). -/
  | traceArm (bay : Nat)
  /-- TRACE_FORCE (R126). -/
  | traceForce (bay : Nat)
  /-- INFUSION_START (R127). -/
  | infusionStart (bay : Nat)
  /-- INFUSION_STOP (R130). -/
  | infusionStop (bay : Nat)
  /-- FOCUS_SWEEP_END (R151). -/
  | focusSweepEnd (bay : Nat)
  /-- FOCUS_SETTLE_END (R151). -/
  | focusSettleEnd (bay : Nat)
  /-- LAYER_PROBE_FAIL (R152). -/
  | layerProbeFail (bay : Nat)
  /-- TRACKING_CLOSE_TIMEOUT (R151). -/
  | trackingCloseTimeout (bay : Nat)
  /-- LJ_KICK_END (R154). -/
  | ljKickEnd (bay : Nat)
  /-- LJ_BRAKE_END (R154). -/
  | ljBrakeEnd (bay : Nat)
  /-- LJ_CLOSE_TIMEOUT (R155). -/
  | ljCloseTimeout (bay : Nat)
  /-- LJ_SETTLE_END (R154). -/
  | ljSettleEnd (bay : Nat)
  /-- TJ_KICK_END (R156). -/
  | tjKickEnd (bay : Nat)
  /-- TJ_BRAKE_END (R156). -/
  | tjBrakeEnd (bay : Nat)
  /-- TJ_SETTLE_END (R156). -/
  | tjSettleEnd (bay : Nat)
  /-- FALLBACK_CLEAR_WRITE (R160). -/
  | fallbackClearWrite (bay : Nat) (mask : Nat)
  /-- RECOVERY_TIMEOUT (R163). -/
  | recoveryTimeout (bay : Nat)
  /-- SPIN_ALIGN_END (R183). -/
  | spinAlignEnd (bay : Nat)
  /-- SPIN_HANDOVER_TIMEOUT (R183). -/
  | spinHandoverTimeout (bay : Nat)
  /-- SPIN_SPEED_STEP_TIMEOUT (R183). -/
  | spinSpeedStepTimeout (bay : Nat)
  /-- SPIN_DIR_WRITE (R187). -/
  | spinDirWrite (bay : Nat) (dir : Nat)
  /-- ZERO_CROSSING_TIMEOUT (R189). -/
  | zeroCrossingTimeout (bay : Nat)
  /-- COAST_STOPPED_TIMEOUT (R190). -/
  | coastStoppedTimeout (bay : Nat)
  /-- SPEED_REGULATION_TIMEOUT (R192). -/
  | speedRegulationTimeout (bay : Nat)
  /-- STEPPER_GO (R208). -/
  | stepperGo (bay : Nat) (sa : Bool) (host : Bool)
  /-- STEPPER_OFF (R207). -/
  | stepperOff (bay : Nat) (sa : Bool) (host : Bool)
  /-- STEPPER_HOLD (R207). -/
  | stepperHold (bay : Nat) (sa : Bool) (host : Bool)
  /-- STEPPER_FOLLOW (R211). -/
  | stepperFollow (bay : Nat) (sa : Bool) (host : Bool)
  /-- STEPPER_HOME (R213). -/
  | stepperHome (bay : Nat) (sa : Bool) (host : Bool)
  /-- STEPPER_PARK (R214). -/
  | stepperPark (bay : Nat) (sa : Bool)
  /-- PLANNER_TICK (R209). -/
  | plannerTick (bay : Nat)
  /-- STEPPER_ARRIVED (R212). -/
  | stepperArrived (bay : Nat) (sa : Bool)
  /-- HOME_HOLD_END (R213). -/
  | homeHoldEnd (bay : Nat) (sa : Bool)
  /-- STALL_RESYNC (R218). -/
  | stallResync (bay : Nat)
  /-- ENC_FAULT_CLEAR (R217). -/
  | encFaultClear (bay : Nat)
  /-- ZONE_ENTRY_FETCH_DONE (R235). -/
  | zoneEntryFetchDone (bay : Nat) (seen : MemSeen)
  /-- SECTOR_PREAMBLE_START (R234). -/
  | sectorPreambleStart (bay : Nat) (pos : List Int)
  /-- DETECTOR_PASS_DONE (R252). -/
  | detectorPassDone (bay : Nat)
  /-- OTF_DECODE_DONE (R270). -/
  | otfDecodeDone (bay : Nat)
  /-- SECTOR_CRC_CHECK (R20). -/
  | sectorCrcCheck (bay : Nat)
  /-- CAPTURE_GRANT_TIMEOUT (R272). -/
  | captureGrantTimeout (bay : Nat) (psa : Nat)
  /-- RECOVERY_DECODE_START (R271). -/
  | recoveryDecodeStart (bay : Nat)
  /-- RECOVERY_DECODE_DONE (R273). -/
  | recoveryDecodeDone (bay : Nat)
  /-- EXTENT_RECON_DONE (R279). -/
  | extentReconDone (bay : Nat) (x : Nat) (reads : List (Nat × PosSeen))
  /-- LADDER_TIMEOUT (R285). -/
  | ladderTimeout (bay : Nat) (tag : Nat) (item : Nat)
  /-- DMA_READ_DONE (R303). -/
  | dmaReadDone (bay : Nat) (tag : Nat) (data : List Byte)
  /-- DL_COMMIT_AGE_TIMER (R305). -/
  | dlCommitAgeTimer (bay : Nat)
  /-- DL_COMMIT_REQUEST (R305). -/
  | dlCommitRequest (bay : Nat)
  /-- DL_COMMIT_DONE (R305). -/
  | dlCommitDone (bay : Nat) (full : Bool) (sectors : List Nat) (sysNext : Nat)
  /-- JOURNAL_RELEASE (R317). -/
  | journalRelease (bay : Nat)
  /-- JOURNAL_RELEASE_ALL (R317). -/
  | journalReleaseAll (bay : Nat)
  /-- CAL_REQUEST (R328). -/
  | calRequest (bay : Nat)
  /-- CAL_TIMEOUT (R332). -/
  | calTimeout (bay : Nat)
  /-- CAL_TEMP_CHECK (R330). -/
  | calTempCheck (bay : Nat)
  /-- DOORBELL_WAKE (R343). -/
  | doorbellWake
  /-- DOORBELL_POLL_TIMER (R343). -/
  | doorbellPollTimer
  /-- DOORBELL_FETCH_DONE (R343). -/
  | doorbellFetchDone (tails : List Nat) (heads : List Nat)
  /-- WAYBILL_READ_DONE (R346). -/
  | waybillReadDone (ring : Nat) (wbs : List Waybill)
  /-- WAYBILL_ADMIT (R346). -/
  | waybillAdmit (ring : Nat) (list : List (Nat × Nat × Nat))
  /-- HOST_READ_FAIL (R356). -/
  | hostReadFail (channel : Nat) (fault : HostFault) (addr : Nat) (id : Nat) (bufs : List Nat)
  /-- HOST_READ_CPL_TIMEOUT (R356). -/
  | hostReadCplTimeout (channel : Nat) (addr : Nat) (id : Nat) (bufs : List Nat)
  /-- DMA_RESTART (R358). -/
  | dmaRestart (channel : Nat)
  /-- RECEIPT_WRITE (R353). -/
  | receiptWrite
  /-- COALESCE_TIMER (R359). -/
  | coalesceTimer (ring : Nat)
  /-- VECTOR_UNMASK (R359). -/
  | vectorUnmask (how : Unmask)
  /-- BUS_MASTER_ENABLE (R340). -/
  | busMasterEnable
  /-- PCIE_RESET (R341). -/
  | pcieReset (kind : PcieResetKind)
  /-- SUB_RING_ENABLE (R367). -/
  | subRingEnable (ring : Nat)
  /-- SUB_RING_DISABLE (R361). -/
  | subRingDisable (ring : Nat)
  /-- RCP_RING_ENABLE (R368). -/
  | rcpRingEnable (ring : Nat)
  /-- RCP_RING_DISABLE (R361). -/
  | rcpRingDisable (ring : Nat)
  /-- MOUNT (R382). -/
  | mount (bay : Nat) (tag : Nat) (copies : List (Option (List Byte))) (anchors : List (Option (List Byte))) (dir : Option (List Byte)) (dl : List (Nat × Option (List Byte)))
  /-- UNMOUNT (R383). -/
  | unmount (bay : Nat) (tag : Nat) (reads : List (Nat × Nat × PosSeen)) (full : Bool) (sectors : List Nat) (sysNext : Nat)
  /-- READ (R387). -/
  | read (bay : Nat) (tag : Nat)
  /-- WRITE (R388). -/
  | write (bay : Nat) (tag : Nat) (written : List Nat) (reads : List (Nat × Nat × PosSeen))
  /-- VERIFY_RANGE (R389). -/
  | verifyRange (bay : Nat) (tag : Nat)
  /-- VERIFY_JOURNAL (R311). -/
  | verifyJournal (bay : Nat) (tag : Nat) (full : Bool) (sectors : List Nat) (sysNext : Nat)
  /-- FLUSH (R379). -/
  | flush (bay : Nat) (tag : Nat) (full : Bool) (sectors : List Nat) (sysNext : Nat)
  /-- CLOSE_EXTENT (R390). -/
  | closeExtent (bay : Nat) (tag : Nat) (written : List Nat) (reads : List (Nat × Nat × PosSeen))
  /-- CLOSE_EXTENT_ABANDON (R390). -/
  | closeExtentAbandon (bay : Nat) (tag : Nat)
  /-- MEDIA_SCAN (R391). -/
  | mediaScan (bay : Nat) (tag : Nat)
  /-- PARTITION_CREATE (R392). -/
  | partitionCreate (bay : Nat) (tag : Nat) (full : Bool) (dirPsa : Nat) (sectors : List Nat) (sysNext : Nat)
  /-- PARTITION_RETIRE (R393). -/
  | partitionRetire (bay : Nat) (tag : Nat) (full : Bool) (dirPsa : Nat) (sectors : List Nat) (sysNext : Nat)
  /-- KEY_BIND (R394). -/
  | keyBind (bay : Nat) (tag : Nat)
  /-- TABLE_LOAD_RAW (R395). -/
  | tableLoadRaw (id : Nat) (data : List Byte) (seen : MemSeen)
  /-- TABLE_LOAD_ZONE (R395). -/
  | tableLoadZone (id : Nat) (data : List Byte) (seen : MemSeen)
  /-- TABLE_READ_DRAM (R395). -/
  | tableReadDram (id : Nat) (seen : MemSeen)
  /-- TABLE_READ_RAW_SLOT (R395). -/
  | tableReadRawSlot (bay : Nat) (tag : Nat)
  /-- STRIPE_ENCODE (R423). -/
  | stripeEncode (id : Nat) (table : List Byte)
  /-- STRIPE_REBUILD (R423). -/
  | stripeRebuild (id : Nat) (table : List Byte)
  /-- FIXITY (R430). -/
  | fixity (id : Nat) (data : List Byte) (old : List Byte) (seen : MemSeen)
  /-- FABRIC_SEND (R538). -/
  | fabricSend (id : Nat) (data : List Byte) (seen : MemSeen)
  /-- MODE (R397). -/
  | mode (cmd : Nat)
  /-- MODE_SYSTEM_PROPOSAL (R540). -/
  | modeSystemProposal (cmd : Nat)
  /-- CUSTOMER_OPCODE (R398). -/
  | customerOpcode (bay : Nat) (id : Nat) (ret : HookEnd)
  /-- RANGE_LOCK_GRANT (R381). -/
  | rangeLockGrant (bay : Nat) (tag : Nat)
  /-- SCHED_DECISION (R406). -/
  | schedDecision (bay : Nat)
  /-- AGE_DEADLINE (R409). -/
  | ageDeadline (bay : Nat) (item : Nat)
  /-- STRIPE_SEGMENT_DONE (R425). -/
  | stripeSegmentDone (id : Nat) (data : List (Nat × List Byte)) (seen : MemSeen)
  /-- KEY_LOAD (R432). -/
  | keyLoad
  /-- KEY_CLEAR (R432). -/
  | keyClear
  /-- KEY_CLEAR_ALL (R435). -/
  | keyClearAll
  /-- DRAM_TRAIN (R447). -/
  | dramTrain
  /-- DRAM_RESUME (R448). -/
  | dramResume
  /-- DRAM_TRAIN_DONE (R447). -/
  | dramTrainDone (channel : Nat) (failed : Nat)
  /-- DRAM_FILL_DONE (R453). -/
  | dramFillDone (channel : Nat)
  /-- DRAM_CFG_WRITE (R472). -/
  | dramCfgWrite (channel : Nat) (value : Nat)
  /-- SCRUB_GO (R454). -/
  | scrubGo
  /-- SCRUB_STOP (R454). -/
  | scrubStop (pos : Nat) (seen : MemSeen)
  /-- SCRUB_PASS_END (R454). -/
  | scrubPassEnd (seen : MemSeen)
  /-- DRAM_RETIRE (R456). -/
  | dramRetire
  /-- DRAM_RETIRE_DONE (R456). -/
  | dramRetireDone
  /-- CACHE_WAY_DISABLE (R461). -/
  | cacheWayDisable (mask : Nat)
  /-- CACHE_WAY_CLEAN_DONE (R461). -/
  | cacheWayCleanDone (way : Nat)
  /-- SCRATCH_ENABLE (R462). -/
  | scratchEnable (slot : Nat)
  /-- SCRATCH_FILL_DONE (R462). -/
  | scratchFillDone (slot : Nat)
  /-- SCRATCH_DISABLE (R462). -/
  | scratchDisable (slot : Nat)
  /-- CACHE_CLEAN (R460). -/
  | cacheClean
  /-- CACHE_CLEAN_INV (R460). -/
  | cacheCleanInv
  /-- CACHE_ZERO_LINE (R460). -/
  | cacheZeroLine
  /-- EVICTION_WRITEBACK (R458). -/
  | evictionWriteback
  /-- CADDY_ENABLE (R465). -/
  | caddyEnable (on : Bool)
  /-- CADDY_REGION_ENABLE (R464). -/
  | caddyRegionEnable (region : Nat)
  /-- CADDY_REQUEST (R465). -/
  | caddyRequest (id : Nat) (cls : Nat)
  /-- CADDY_GRANT (R465). -/
  | caddyGrant
  /-- CADDY_SHARE (R467). -/
  | caddyShare (id : Nat) (newId : Nat) (cls : Nat) (ptr : Nat)
  /-- CADDY_RELEASE (R467). -/
  | caddyRelease (id : Nat) (cls : Nat) (ptr : Nat)
  /-- CADDY_RECLAIM (R470). -/
  | caddyReclaim
  /-- MICROWORD_EXECUTE (R493). -/
  | microwordExecute (seq : Nat) (fetch : FetchSeen) (seen : MemSeen)
  /-- MEM_PORT_ANSWER (R492). -/
  | memPortAnswer (seq : Nat)
  /-- CP_PORT_ANSWER (R492). -/
  | cpPortAnswer (seq : Nat)
  /-- BAY_SEQ_MOVE (R485). -/
  | baySeqMove (bay : Nat)
  /-- SEQ_RELEASE (R509). -/
  | seqRelease (seq : Nat)
  /-- SEQ_RESET (R509). -/
  | seqReset (seq : Nat)
  /-- SEQ_DIAG_HALT (R509). -/
  | seqDiagHalt (seq : Nat)
  /-- SEQ_STEP (R509). -/
  | seqStep (seq : Nat) (fetch : FetchSeen) (seen : MemSeen)
  /-- SEQ_RESUME (R509). -/
  | seqResume (seq : Nat)
  /-- CS_LOAD (R505). -/
  | csLoad (cluster : Nat)
  /-- CS_LOAD_DONE (R505). -/
  | csLoadDone (cluster : Nat) (seen : MemSeen)
  /-- CS_VERIFY (R506). -/
  | csVerify (cluster : Nat)
  /-- CS_VERIFY_DONE (R506). -/
  | csVerifyDone (cluster : Nat) (undecoded : List Nat)
  /-- CS_ACTIVATE (R510). -/
  | csActivate (cluster : Nat)
  /-- ACTIVATE_TIMEOUT (R510). -/
  | activateTimeout (cluster : Nat)
  /-- CS_CONFIRM (R511). -/
  | csConfirm (cluster : Nat)
  /-- CS_REVERT (R511). -/
  | csRevert (cluster : Nat)
  /-- CONFIRM_TIMEOUT (R511). -/
  | confirmTimeout (cluster : Nat)
  /-- CS_WINDOW_WRITE (R507). -/
  | csWindowWrite (cluster : Nat) (bank : Nat) (addr : Nat) (value : Nat)
  /-- USTORE_SEL_WRITE (R516). -/
  | ustoreSelWrite (cluster : Nat) (value : Nat)
  /-- FABRIC_PORT_ENABLE (R539). -/
  | fabricPortEnable (mask : Nat)
  /-- FABRIC_LINK_CHANGE (R524). -/
  | fabricLinkChange (port : Nat) (up : Bool) (seen : MemSeen)
  /-- ST_OPEN_RECEIVE (R532). -/
  | stOpenReceive (port : Nat) (f : FabFrame) (seen : MemSeen)
  /-- ST_ACCEPT_RECEIVE (R533). -/
  | stAcceptReceive (port : Nat) (f : FabFrame) (seen : MemSeen)
  /-- ST_REFUSE_RECEIVE (R533). -/
  | stRefuseReceive (port : Nat) (f : FabFrame)
  /-- ST_DATA_RECEIVE (R533). -/
  | stDataReceive (port : Nat) (f : FabFrame) (seen : MemSeen)
  /-- ST_ACK_RECEIVE (R533). -/
  | stAckReceive (port : Nat) (f : FabFrame) (seen : MemSeen)
  /-- ST_STALE_RECEIVE (R542). -/
  | stStaleReceive (port : Nat) (f : FabFrame)
  /-- ST_ABORT_RECEIVE (R533). -/
  | stAbortReceive (port : Nat) (f : FabFrame)
  /-- NEIGHBOR_SOLICITATION (R522). -/
  | neighborSolicitation (port : Nat) (f : FabFrame) (target : Nat)
  /-- ICMP_ECHO_REQUEST (R522). -/
  | icmpEchoRequest (port : Nat) (f : FabFrame)
  /-- RTO_EXPIRE (R533). -/
  | rtoExpire (own : Bool) (peer : Nat) (xid : Nat) (seen : MemSeen)
  /-- ACK_DELAY_TIMER (R533). -/
  | ackDelayTimer (own : Bool) (peer : Nat) (xid : Nat)
  /-- PEER_TIMEOUT (R533). -/
  | peerTimeout (own : Bool) (peer : Nat) (xid : Nat)
  /-- EPOCH_HOLD_EXPIRE (R542). -/
  | epochHoldExpire (k : Nat)
  /-- ROLL_CALL_RECEIVE (R528). -/
  | rollCallReceive (f : ChainFrame)
  /-- MODE_PROPOSE_RECEIVE (R541). -/
  | modeProposeReceive (f : ChainFrame)
  /-- MODE_ACK_RECEIVE (R540). -/
  | modeAckReceive (f : ChainFrame)
  /-- CHAIN_ALERT_RECEIVE (R526). -/
  | chainAlertReceive (f : ChainFrame)
  /-- CHAIN_FRAME_BAD_CRC (R526). -/
  | chainFrameBadCrc
  /-- PROPOSER_DEADLINE (R540). -/
  | proposerDeadline (cmd : Nat)
  /-- MODE_PROPOSAL_DEADLINE (R541). -/
  | modeProposalDeadline
  /-- STALE_EPOCH_WAYBILL_TIMEOUT (R541). -/
  | staleEpochWaybillTimeout (bay : Nat)
  /-- MC_CLEAR_ID (R529). -/
  | mcClearId
  /-- EPOCH_WRITE (R539). -/
  | epochWrite (value : Nat)
  /-- EPOCH_CANCEL (R541). -/
  | epochCancel
  /-- FAB_KEY_LOAD (R551). -/
  | fabKeyLoad
  /-- FAB_KEY_CLEAR (R551). -/
  | fabKeyClear
  /-- FAB_WINDOW_ENABLE (R532). -/
  | fabWindowEnable (window : Nat) (on : Bool)
  /-- DIE_TEMP_CURFEW (R558). -/
  | dieTempCurfew (temp : Int)
  /-- DIE_TEMP_CLEAR (R558). -/
  | dieTempClear (temp : Int)
  /-- TEMP_WARN (R577). -/
  | tempWarn (temp : Int)
  /-- MAINLOSS (R558). -/
  | mainloss (midTest : Bool)
  /-- MAINLOSS_CLEAR (R558). -/
  | mainlossClear
  /-- MAIN_POWER_RETURN (R567). -/
  | mainPowerReturn
  /-- HEARTBEAT_EXPIRE (R561). -/
  | heartbeatExpire
  /-- HB_KICK (R561). -/
  | hbKick
  /-- CURFEW_CAUSE_CLEAR_WRITE (R558). -/
  | curfewCauseClearWrite (value : Nat) (high : Bool)
  /-- SELFTEST_DONE (R590). -/
  | selftestDone (seen : TestSeen)
  /-- POWER_REQUEST (R563). -/
  | powerRequest (domain : Nat) (value : Nat)
  /-- POWER_STAGE_READY (R565). -/
  | powerStageReady (domain : Nat)
  /-- POWER_STAGE_TIMEOUT (R565). -/
  | powerStageTimeout (domain : Nat)
  /-- POWER_ENTRY_DRAIN_DONE (R566). -/
  | powerEntryDrainDone (domain : Nat)
  /-- VBAK_RETENTION_LOW (R568). -/
  | vbakRetentionLow
  /-- VBAK_MEASURE (R579). -/
  | vbakMeasure (mv : Nat)
  /-- LUGGAGE_SEAL_REQUEST (R570). -/
  | luggageSealRequest
  /-- LUGGAGE_SEAL_DONE (R570). -/
  | luggageSealDone
  /-- LUGGAGE_RESEAL_TIMER (R570). -/
  | luggageResealTimer
  /-- LUG_DATA_READ (R572). -/
  | lugDataRead
  /-- LUG_DATA_WRITE (R572). -/
  | lugDataWrite (value : Nat)
  /-- RTC_SECOND (R573). -/
  | rtcSecond
  /-- RTC_CAL_COMMIT (R574). -/
  | rtcCalCommit
  /-- RTC_SEC_LO_READ (R581). -/
  | rtcSecLoRead
  /-- RESET_RISE (R583). -/
  | resetRise (seen : StartSeen)
  /-- RESET_FALL (R633). -/
  | resetFall (midTest : Bool)
  /-- RESTART_FULL (R586). -/
  | restartFull (seen : StartSeen)
  /-- BAY_ENABLE (R589). -/
  | bayEnable (bay : Nat)
  /-- TAP_INTERNAL_SCAN (R593). -/
  | tapInternalScan
  /-- TAP_BOUNDARY_INSTRUCTION (R593). -/
  | tapBoundaryInstruction
  /-- LEDGER_WRITE_DONE (R603). -/
  | ledgerWriteDone
  /-- LEDGER_HOLD_EXPIRE (R605). -/
  | ledgerHoldExpire
  /-- LEDGER_HEAD_WRITE (R604). -/
  | ledgerHeadWrite (value : Nat)
  /-- LEDGER_ENABLE (R606). -/
  | ledgerEnable
  /-- LEDGER_DISABLE (R606). -/
  | ledgerDisable
  /-- GTRC_ARM (R610). -/
  | gtrcArm
  /-- GTRC_FORCE (R610). -/
  | gtrcForce
  /-- GTRC_CAPTURE_DONE (R610). -/
  | gtrcCaptureDone
  /-- UPSTREAM_BLOCK_LOCK_LOSS (R85). -/
  | upstreamBlockLockLoss (bay : Nat)
  /-- FE_TEMP_VALID_EXPIRE (R80). -/
  | feTempValidExpire (bay : Nat)
  /-- BAY_PORT_ANSWER (R492). -/
  | bayPortAnswer (seq : Nat)
  /-- GAP_REVOLUTION_ELAPSED (R409). -/
  | gapRevolutionElapsed (bay : Nat)
  /-- PRIORITY_FLOW_CONTROL_RECEIVE (R522). -/
  | priorityFlowControlReceive (port : Nat) (pause : Bool)
  /-- MC_IN_SYMBOL_LOCK (R545). -/
  | mcInSymbolLock (lock : Bool)
  /-- REFERENCE_CLOCK_STOP (R632). -/
  | referenceClockStop
  /-- BUS_MASTER_ENABLE_CLEAR (R340). -/
  | busMasterEnableClear (cause : BusMasterLoss)
  deriving DecidableEq, Repr

end Sys2Proof
end

