-- ==== Sys2Proof/Decode.lean ====
section
/-!
DEFINITION. The command a word spells by the table's bits.  The table gives no row any bits: a command comes to the block as an access
to a register, a frame or an event, not as a word, so no word spells one.
-/

namespace Sys2Proof

/-- The command that a word of the opcode table spells: none, since no row has bits. -/
def decodeTableWord (nbits w : Nat) : Option Instr :=
  match nbits, w with
  | _, _ => none

end Sys2Proof
end

