-- ==== Sys2Proof/Machine/Cipher.lean ====
section
/-!
DEFINITION. The named algorithms that the spec takes from other standards: SHA-256 (R427), AES-256-XTS of IEEE 1619 (R431) and
AES-GMAC of NIST SP 800-38D (R535).  What those standards define is taken from them (PRESUMED, log entry 4).
-/

namespace Sys2Proof.Machine

/-! ## SHA-256 -/

/-- The initial hash value. -/
def shaInit : List (BitVec 32) :=
  [0x6a09e667, 0xbb67ae85, 0x3c6ef372, 0xa54ff53a, 0x510e527f, 0x9b05688c, 0x1f83d9ab, 0x5be0cd19]

/-- The round constants, first half. -/
def shaK1 : List (BitVec 32) :=
  [0x428a2f98, 0x71374491, 0xb5c0fbcf, 0xe9b5dba5, 0x3956c25b, 0x59f111f1, 0x923f82a4, 0xab1c5ed5,
   0xd807aa98, 0x12835b01, 0x243185be, 0x550c7dc3, 0x72be5d74, 0x80deb1fe, 0x9bdc06a7, 0xc19bf174,
   0xe49b69c1, 0xefbe4786, 0x0fc19dc6, 0x240ca1cc, 0x2de92c6f, 0x4a7484aa, 0x5cb0a9dc, 0x76f988da,
   0x983e5152, 0xa831c66d, 0xb00327c8, 0xbf597fc7, 0xc6e00bf3, 0xd5a79147, 0x06ca6351, 0x14292967]

/-- The round constants, second half. -/
def shaK2 : List (BitVec 32) :=
  [0x27b70a85, 0x2e1b2138, 0x4d2c6dfc, 0x53380d13, 0x650a7354, 0x766a0abb, 0x81c2c92e, 0x92722c85,
   0xa2bfe8a1, 0xa81a664b, 0xc24b8b70, 0xc76c51a3, 0xd192e819, 0xd6990624, 0xf40e3585, 0x106aa070,
   0x19a4c116, 0x1e376c08, 0x2748774c, 0x34b0bcb5, 0x391c0cb3, 0x4ed8aa4a, 0x5b9cca4f, 0x682e6ff3,
   0x748f82ee, 0x78a5636f, 0x84c87814, 0x8cc70208, 0x90befffa, 0xa4506ceb, 0xbef9a3f7, 0xc67178f2]

/-- The four mixing functions. -/
def shaMix (a b c : Nat) (x : BitVec 32) : BitVec 32 := x.rotateRight a ^^^ x.rotateRight b ^^^ x.rotateRight c
@[inherit_doc shaMix] def shaShift (a b c : Nat) (x : BitVec 32) : BitVec 32 := x.rotateRight a ^^^ x.rotateRight b ^^^ (x >>> c)

/-- The message schedule, newest word first: `n` more words after those given. -/
def shaSchedule : Nat → List (BitVec 32) → List (BitVec 32)
  | 0, w => w
  | n + 1, w =>
    shaSchedule n ((shaShift 17 19 10 (w.getD 1 0) + w.getD 6 0 + shaShift 7 18 3 (w.getD 14 0) + w.getD 15 0) :: w)

/-- One round over the eight working variables. -/
def shaRound (v : List (BitVec 32)) (k w : BitVec 32) : List (BitVec 32) :=
  match v with
  | [a, b, c, d, e, f, g, h] =>
    let t1 := h + shaMix 6 11 25 e + ((e &&& f) ^^^ (~~~e &&& g)) + k + w
    let t2 := shaMix 2 13 22 a + ((a &&& b) ^^^ (a &&& c) ^^^ (b &&& c))
    [t1 + t2, a, b, c, d + t1, e, f, g]
  | v => v

/-- The big-endian words of a string, `n` of them. -/
def wordsBE : Nat → List Byte → List (BitVec 32)
  | 0, _ => []
  | n + 1, l => BitVec.ofNat 32 (ofBytesBE (l.take 4)) :: wordsBE n (l.drop 4)

/-- The hash value after one block of 64 bytes. -/
def shaBlock (h : List (BitVec 32)) (block : List Byte) : List (BitVec 32) :=
  let w := (shaSchedule 48 (wordsBE 16 block).reverse).reverse
  let v := ((shaK1 ++ shaK2).zip w).foldl (fun v e => shaRound v e.1 e.2) h
  List.zipWith (· + ·) h v

/-- The blocks of a padded message, `n` of them. -/
def shaBlocks : Nat → List Byte → List (BitVec 32) → List (BitVec 32)
  | 0, _, h => h
  | n + 1, l, h => shaBlocks n (l.drop 64) (shaBlock h (l.take 64))

/-- The 32-byte digest of a string (R427). -/
def sha256 (l : List Byte) : List Byte :=
  let zeros := (119 - l.length % 64) % 64
  let m := l ++ [0x80#8] ++ List.replicate zeros 0 ++ bytesBE 8 (8 * l.length)
  (shaBlocks (m.length / 64) m shaInit).flatMap fun x => bytesBE 4 x.toNat

/-! ## AES-256 -/

/-- The substitution box, 32 bytes a row, the first byte lowest. -/
def aesBox : List Nat :=
  [0xc072a49cafa2d4adf04759fa7dc982ca76abd7fe2b670130c56f6bf27b777c63,
   0x75b227ebe28012079a059618c323c7041531d871f1e5a534ccf73f362693fdb7,
   0xcf584c4a39becb6a5bb1fc20ed00d153842fe329b3d63b52a05a6e1b1a2c8309,
   0xd2f3ff1021dab6bcf5389d928f40a351a89f3c507f02f94585334d43fbaaefd0,
   0xdb0b5ede14b8ee4688902a22dc4f816073195d643d7ea7c41744975fec130ccd,
   0x08ae7a65eaf4566ca94ed58d6d37c8e779e4959162acd3c25c2406490a3a32e0,
   0x9e1dc186b95735610ef6034866b53e708a8bbd4b1f74dde8c6b4a61c2e2578ba,
   0x16bb54b00f2d99416842e6bf0d89a18cdf2855cee9871e9b948ed9691198f8e1]

/-- The inverse box. -/
def aesUnbox : List Nat :=
  [0xcbe9dec444438e3487ff2f9b8239e37cfbd7f3819ea340bf38a53630d56a0952,
   0x25d18b6d49a25b76b224d92866a12e084ec3fa420b954cee3d23c2a632947b54,
   0x849d8da75746155edab9edfd5048706c92b6655dcc5ca4d41698688664f6f872,
   0x6b8a130103bdafc1020f3fca8f1e2cd00645b3b80558e4f70ad3bc8c00abd890,
   0x6edf751ce837f9e28535ade72274ac9673e6b4f0cecff297eadc674f4111913a,
   0xf45acd78fec0db9a2079d2c64b3e56fc1bbe18aa0e62b76f89c5291d711af147,
   0xef9cc9939f7ae52d0d4ab519a97f51605fec8027591012b131c7078833a8dd1f,
   0x7d0c2155631469e126d677ba7e042b17619953833cbbebc8b0f52aae4d3be0a0]

/-- A byte of a box. -/
def boxAt (box : List Nat) (b : Byte) : Byte := BitVec.ofNat 8 (box.getD (b.toNat / 32) 0 >>> (8 * (b.toNat % 32)))

/-- Exclusive or of two strings. -/
def xorBytes (a b : List Byte) : List Byte := List.zipWith (· ^^^ ·) a b

/-- Twice a byte in the field of AES. -/
def aesTwice (b : Byte) : Byte := (b <<< 1) ^^^ (if b.msb then 0x1B#8 else 0#8)

/-- A product in that field, the second factor below 16. -/
def aesTimes (b : Byte) (k : Nat) : Byte :=
  let b2 := aesTwice b
  let b4 := aesTwice b2
  let b8 := aesTwice b4
  (if bitAt k 0 then b else 0) ^^^ (if bitAt k 1 then b2 else 0) ^^^ (if bitAt k 2 then b4 else 0) ^^^ (if bitAt k 3 then b8 else 0)

/-- The next word of the key schedule at place `i`, from the words before it, newest first. -/
def aesNextWord (i : Nat) (w : List (List Byte)) : List Byte :=
  let p := w.getD 0 []
  let t := if i % 8 = 0 then
      xorBytes ((p.drop 1 ++ p.take 1).map (boxAt aesBox)) [BitVec.ofNat 8 (2 ^ (i / 8 - 1)), 0, 0, 0]
    else if i % 8 = 4 then p.map (boxAt aesBox)
    else p
  xorBytes (w.getD 7 []) t

/-- A string cut into pieces of `k` bytes, `n` of them. -/
def chunks (k : Nat) : Nat → List Byte → List (List Byte)
  | 0, _ => []
  | n + 1, l => l.take k :: chunks k n (l.drop k)

/-- The fifteen round keys of a 32-byte key. -/
def aesKeys (key : List Byte) : List (List Byte) :=
  let w := (List.range' 8 52).foldl (fun w i => aesNextWord i w :: w) (chunks 4 8 key).reverse
  chunks 16 15 w.reverse.flatten

/-- Row `r` of the state turned left by `d r` places; the state is column by column. -/
def aesRows (d : Nat → Nat) (s : List Byte) : List Byte :=
  (List.range 16).map fun i => s.getD ((4 * (i / 4 + d (i % 4)) + i % 4) % 16) 0

/-- Every column times the circulant of four coefficients. -/
def aesColumns (k : List Nat) (s : List Byte) : List Byte :=
  (List.range 16).map fun i =>
    let c := (s.drop (4 * (i / 4))).take 4
    (List.range 4).foldl (fun a j => a ^^^ aesTimes (c.getD j 0) (k.getD ((j + 4 - i % 4) % 4) 0)) 0

/-- One block under round keys: the middle rounds, then the last. -/
def aesRounds : List (List Byte) → List Byte → List Byte
  | [], s => s
  | [k], s => xorBytes (aesRows (fun r => r) (s.map (boxAt aesBox))) k
  | k :: rest, s => aesRounds rest (xorBytes (aesColumns [2, 3, 1, 1] (aesRows (fun r => r) (s.map (boxAt aesBox)))) k)

/-- The encryption of one block. -/
def aesEncrypt (keys : List (List Byte)) (block : List Byte) : List Byte := aesRounds (keys.drop 1) (xorBytes block (keys.getD 0 []))

/-- One block back through round keys, last first. -/
def aesUnrounds : List (List Byte) → List Byte → List Byte
  | [], s => s
  | [k], s => xorBytes ((aesRows (fun r => 4 - r) s).map (boxAt aesUnbox)) k
  | k :: rest, s => aesUnrounds rest (aesColumns [14, 11, 13, 9] (xorBytes ((aesRows (fun r => 4 - r) s).map (boxAt aesUnbox)) k))

/-- The decryption of one block. -/
def aesDecrypt (keys : List (List Byte)) (block : List Byte) : List Byte :=
  let k := keys.reverse
  aesUnrounds (k.drop 1) (xorBytes block (k.getD 0 []))

/-! ## AES-256-XTS (R431) -/

/-- The tweak of the next block. -/
def xtsNext (t : Nat) : Nat := (2 * t) % 2 ^ 128 ^^^ (if 2 ^ 127 ≤ t then 0x87 else 0)

/-- Every block of a data unit through a block cipher, each with its tweak. -/
def xtsBlocks (cipher : List Byte → List Byte) : Nat → Nat → List Byte → List Byte
  | 0, _, _ => []
  | n + 1, t, l =>
    let k := bytesLE 16 t
    xorBytes (cipher (xorBytes (l.take 16) k)) k ++ xtsBlocks cipher n (xtsNext t) (l.drop 16)

/-- The tweak of a data unit's first block. -/
def xtsTweak (key : List Byte) (unit : Nat) : Nat := ofBytesLE (aesEncrypt (aesKeys ((key.drop 32).take 32)) (bytesLE 16 unit))

/-- The encryption of a sector's user bytes under a slot's 64 key bytes, the PSN its data unit number. -/
def xtsEncrypt (key : List Byte) (unit : Nat) (l : List Byte) : List Byte :=
  let k := aesKeys (key.take 32)
  xtsBlocks (aesEncrypt k) (l.length / 16) (xtsTweak key unit) l

/-- The decryption. -/
def xtsDecrypt (key : List Byte) (unit : Nat) (l : List Byte) : List Byte :=
  let k := aesKeys (key.take 32)
  xtsBlocks (aesDecrypt k) (l.length / 16) (xtsTweak key unit) l

/-! ## AES-GMAC (R535) -/

/-- A product in GF(2^128): the factor `x` bit by bit from its most significant, `v` divided by two each time. -/
def ghashMul : Nat → Nat → Nat → Nat → Nat
  | 0, _, _, z => z
  | n + 1, x, v, z => ghashMul n x (v / 2 ^^^ (if v % 2 = 1 then 0xE1 * 2 ^ 120 else 0)) (if bitAt x n then z ^^^ v else z)

/-- GHASH over `n` blocks under the hash subkey `h`. -/
def ghash (h : Nat) : Nat → List Byte → Nat → Nat
  | 0, _, y => y
  | n + 1, l, y => ghash h n (l.drop 16) (ghashMul 128 (y ^^^ ofBytesBE (l.take 16)) h 0)

/-- The tag of a string under a 32-byte key and a 12-byte IV, with an empty plaintext. -/
def gmac (key iv l : List Byte) : List Byte :=
  let k := aesKeys key
  let h := ofBytesBE (aesEncrypt k (List.replicate 16 0))
  let body := l ++ List.replicate ((16 - l.length % 16) % 16) 0 ++ bytesBE 8 (8 * l.length) ++ List.replicate 8 0
  xorBytes (bytesBE 16 (ghash h (body.length / 16) body 0)) (aesEncrypt k (iv ++ [0, 0, 0, 1]))

end Sys2Proof.Machine
end

