-- ==== Sys2Proof/Config.lean ====
section
/-!
DEFINITION. What the spec leaves open and no command reports: free values.

Every constant here is opaque: nothing in Lean can evaluate it or prove a value of it, so a theorem about the model
holds whatever the hardware produces there.
-/

namespace Sys2Proof

/-- The `n`-th free value of width `w`.  `n` is the state's own counter, so that each use is a fresh value
(DESIGN CHOICE, log entry 3). -/
opaque Config.free (w n : Nat) : BitVec w

/-- Whether `num / den` is rounded up in the read channel's arithmetic, whose rounding the spec does not give (DESIGN CHOICE, log entry 12). -/
opaque Config.roundUp (num : Int) (den : Nat) : BitVec 1

/-- Which of two equal path metrics a detector keeps, at bit `k` and state `st` (DESIGN CHOICE, log entry 12). -/
opaque Config.tie (k st : Nat) : BitVec 1

/-- A minimum of magnitudes over no variable of check `r` of row block `i`: R267 leaves variables out of the minima and
does not say what remains when all are left out (DESIGN CHOICE, log entry 3). -/
opaque Config.emptyMinimum (i r : Nat) : BitVec 8

/-- The number by which a ledger record's DETAIL names the case at a place of a rule's list, where the spec lists the cases and gives
them no numbers (DESIGN CHOICE, log entry 18). -/
opaque Config.code (rule place : Nat) : BitVec 32

end Sys2Proof
end

