-- ==== Sys2Proof/Machine/Sparse.lean ====
section
/-!
DEFINITION. Sparse stores: a list of (key, value) pairs with strictly rising keys.  An unlisted key reads as a default
the reader supplies.  `Sparse.put` inserts in order; `Sparse.putNorm` also removes an entry equal to the default, so
that equal memories are equal lists.
-/
namespace Sys2Proof.Machine

/-- A store from `Nat` keys to `α`. -/
abbrev Sparse (α : Type) := List (Nat × α)

/-- The value at `k`, or `d` where none is listed. -/
def Sparse.get {α : Type} (d : α) : Sparse α → Nat → α
  | [], _ => d
  | (j, v) :: r, k => if j = k then v else Sparse.get d r k

/-- Whether `k` is listed. -/
def Sparse.has {α : Type} : Sparse α → Nat → Bool
  | [], _ => false
  | (j, _) :: r, k => if j = k then true else Sparse.has r k

/-- Write `v` at `k`, keeping the keys rising. -/
def Sparse.put {α : Type} : Sparse α → Nat → α → Sparse α
  | [], k, v => [(k, v)]
  | (j, u) :: r, k, v =>
    if k < j then (k, v) :: (j, u) :: r
    else if k = j then (k, v) :: r
    else (j, u) :: Sparse.put r k v

/-- Remove `k`. -/
def Sparse.erase {α : Type} : Sparse α → Nat → Sparse α
  | [], _ => []
  | (j, u) :: r, k => if j = k then r else (j, u) :: Sparse.erase r k

/-- Write `v` at `k`, listing nothing where `v` is the default `d`. -/
def Sparse.putNorm {α : Type} [DecidableEq α] (d : α) (m : Sparse α) (k : Nat) (v : α) : Sparse α :=
  if v = d then m.erase k else m.put k v

/-- Remove every key `k` with `lo ≤ k < hi`. -/
def Sparse.clear {α : Type} (m : Sparse α) (lo hi : Nat) : Sparse α :=
  m.filter fun e => decide (e.1 < lo) || decide (hi ≤ e.1)

/-- Every key of the list is above `k`. -/
def Sparse.above {α : Type} (k : Nat) : Sparse α → Bool
  | [] => true
  | (j, _) :: r => decide (k < j) && Sparse.above k r

/-- The keys rise strictly. -/
def Sparse.rising {α : Type} : Sparse α → Bool
  | [] => true
  | (j, _) :: r => Sparse.above j r && Sparse.rising r

/-- No entry holds the default. -/
def Sparse.noDefault {α : Type} [DecidableEq α] (d : α) : Sparse α → Bool
  | [] => true
  | (_, v) :: r => decide (v ≠ d) && Sparse.noDefault d r

/-- The canonical form of a memory: rising keys, no entry equal to the default. -/
def Sparse.wf {α : Type} [DecidableEq α] (d : α) (m : Sparse α) : Bool := m.rising && m.noDefault d

/-- Bytes `k … k + n − 1`, each `d` where not listed. -/
def Sparse.bytes {α : Type} (d : α) (m : Sparse α) : Nat → Nat → List α
  | 0, _ => []
  | n + 1, k => m.get d k :: Sparse.bytes d m n (k + 1)

/-- Write consecutive values from `k` on. -/
def Sparse.putAll {α : Type} [DecidableEq α] (d : α) (m : Sparse α) (k : Nat) : List α → Sparse α
  | [] => m
  | v :: r => Sparse.putAll d (m.putNorm d k v) (k + 1) r

end Sys2Proof.Machine
end

