-- ==== Sys2Proof/Machine/Disc.lean ====
section
/-!
DEFINITION. The Tamivo ML16 disc format (02_ml16_medium.md) as functions: CRCs, slot addresses, zones, the wedge and
channel layout, extents and their parity, defect-list, Anchor, information-block and directory structures.
-/

namespace Sys2Proof.Machine

/-! ## Checks -/

/-- One bit step of a reflected CRC with polynomial `p` (already reflected). -/
def crcReflStep (p c : Nat) : Nat := if c % 2 = 1 then (c / 2) ^^^ p else c / 2

/-- One byte of a reflected CRC. -/
def crcReflByte (p c : Nat) (b : Byte) : Nat :=
  let c0 := c ^^^ b.toNat
  crcReflStep p (crcReflStep p (crcReflStep p (crcReflStep p
    (crcReflStep p (crcReflStep p (crcReflStep p (crcReflStep p c0)))))))

/-- The CRC-32 of R32: polynomial 0x04C1_1DB7 bit-reflected, initial value and final XOR 0xFFFF_FFFF. -/
def crc32 (l : List Byte) : Nat := (l.foldl (crcReflByte 0xEDB88320) 0xFFFFFFFF) ^^^ 0xFFFFFFFF

/-- One bit step of the CRC-16 of R62 (polynomial 0x1021, not reflected). -/
def crc16Step (c : Nat) : Nat := if 0x8000 ≤ c then (c * 2 % 0x10000) ^^^ 0x1021 else c * 2 % 0x10000

/-- One byte of the CRC-16 of R62. -/
def crc16Byte (c : Nat) (b : Byte) : Nat :=
  let c0 := c ^^^ (b.toNat * 256)
  crc16Step (crc16Step (crc16Step (crc16Step (crc16Step (crc16Step (crc16Step (crc16Step c0)))))))

/-- The CRC-16 of R62: initial value 0xFFFF, no final XOR. -/
def crc16 (l : List Byte) : Nat := l.foldl crc16Byte 0xFFFF

/-! ## Zones and slots (R34 to R37, R45) -/

/-- Slots per track of zone `z` (R36). -/
def slotsPerTrack (z : Nat) : Nat := 70 + 3 * z

/-- Data slots of a layer before zone `z` (R37). -/
def zoneStart (z : Nat) : Nat := 4410 * (70 * z + 3 * (z * (z - 1)) / 2)

/-- The zone of a track; the lead-in has the layout of zone 0 (R36). -/
def zoneOfTrack (t : Int) : Nat := if t < 0 then 0 else min 31 (t.toNat / 4500)

/-- A slot of the disc. -/
structure SlotAddr where
  layer : Nat
  track : Int
  slot  : Nat
  deriving DecidableEq, Repr

/-- The physical slot address of R35. -/
def SlotAddr.psa (a : SlotAddr) : Nat := a.layer % 16 * 2 ^ 28 + ofInt 18 a.track * 256 + a.slot % 256

/-- The track an 18-bit track field names (R34, R35, R39).  The field holds the track modulo 2^18: tracks above 131,071 do not fit
18-bit two's complement proper, and the cut stands midway in the values that name no track (DEDUCED, log entry 92). -/
def trackOfBits (v : Nat) : Int := if v % 2 ^ 18 < 202572 then ((v % 2 ^ 18 : Nat) : Int) else ((v % 2 ^ 18 : Nat) : Int) - 262144

/-- The slot a PSA names. -/
def slotOfPsa (p : Nat) : SlotAddr := ⟨bitsAt p 28 4, trackOfBits (bitsAt p 8 18), bitsAt p 0 8⟩

/-- "No slot" (R35). -/
def noPsa : Nat := 0xFFFFFFFF

/-- A PSA is well formed when its reserved bits are zero, its track exists and its slot lies on the track. -/
def psaOk (p : Nat) : Bool :=
  let a := slotOfPsa p
  decide (bitsAt p 26 2 = 0) && decide (-1000 ≤ a.track) && decide (a.track ≤ 143999)
    && decide (a.slot < slotsPerTrack (zoneOfTrack a.track))

/-- Start angle of slot `k` in zone `z` (R37). -/
def slotAngle (z k : Nat) : Nat := 16777216 * k / slotsPerTrack z

/-- The largest zone whose first data slot index is at most `v` (R45), searching below `n`. -/
def zoneOfIndex (v : Nat) : Nat → Nat
  | 0 => 0
  | n + 1 => if zoneStart (n + 1) ≤ v then n + 1 else zoneOfIndex v n

/-- The slot of layer slot index `v` (R45). -/
def slotOfIndex (layer v : Nat) : SlotAddr :=
  let z := zoneOfIndex v 31
  let off := v - zoneStart z
  ⟨layer, ((4500 * z + off / slotsPerTrack z : Nat) : Int), off % slotsPerTrack z⟩

/-- The layer slot index of a data slot (R45). -/
def indexOfSlot (a : SlotAddr) : Nat :=
  let z := zoneOfTrack a.track
  zoneStart z + (a.track.toNat - 4500 * z) * slotsPerTrack z + a.slot

/-- Extents of a layer (R45). -/
def extentsPerLayer : Nat := 256882

/-- The last disc extent number (R45). -/
def lastExtent : Nat := 4110111

/-- The slot at position `pos` of disc extent `x` (R45). -/
def extentSlot (x pos : Nat) : SlotAddr :=
  slotOfIndex (x / extentsPerLayer) (64 * (x % extentsPerLayer) + pos)

/-- The slot of partition sector `n` of a partition that begins at extent `first` (R59). -/
def sectorSlot (first n : Nat) : SlotAddr := extentSlot (first + n / 56) (n % 56)

/-- The disc extent number of a data slot. -/
def extentOfSlot (a : SlotAddr) : Nat := extentsPerLayer * a.layer + indexOfSlot a / 64

/-! ## Wedges (R38, R39) -/

/-- A wedge address decoded: track, wedge number, layer, and whether its parity checks. -/
structure WedgeAddr where
  track  : Nat
  wedge  : Nat
  layer  : Nat
  parity : Bool
  deriving DecidableEq, Repr

/-- Gray decoding of an 18-bit value, most significant bit first (R39). -/
def grayDecode (g : Nat) : Nat → Nat
  | 0 => 0
  | k + 1 => g / 2 ^ k ^^^ grayDecode g k

/-- Gray encoding of R39. -/
def grayEncode (b : Nat) : Nat := b ^^^ b / 2

/-- XOR of the address bits a_k with 4 ≤ k ≤ 35 and k mod 4 = i (R39). -/
def wedgeParity (a i : Nat) : Bool :=
  ((List.range 8).foldl (fun p j => xor p (bitAt a (4 * (j + 1) + i))) false)

/-- The 36 address bits decoded (R39). -/
def decodeWedge (a : Nat) : WedgeAddr :=
  ⟨bitsAt (grayDecode (bitsAt a 18 18) 18) 0 18, bitsAt a 8 10, bitsAt a 4 4,
   (List.range 4).all fun i => wedgeParity a i == bitAt a i⟩

/-! ## Channel layout of a slot (R41, R42) -/

/-- Channel-bit periods of a revolution. -/
def periodsPerRev (z : Nat) : Nat := slotsPerTrack z * 42000

/-- First period of the window of wedge `w`, before reduction modulo the revolution (R42). -/
def windowFirst (z w : Nat) : Int := ((w * periodsPerRev z / 1024 : Nat) : Int) - 1

/-- Last period of the window of wedge `w` (R42): the ceiling of (16,384 w + 416) × N / 16,777,216. -/
def windowLast (z w : Nat) : Nat := ((16384 * w + 416) * periodsPerRev z + 16777215) / 16777216

/-- The wedges whose windows may meet the periods from `p` on: the first one ending at or after `p`. -/
def wedgeAt (z p : Nat) : Nat :=
  let w := 1024 * p / periodsPerRev z
  if p ≤ windowLast z w ∧ windowFirst z w ≤ p then w
  else w + 1

/-- One stretch of a slot: periods `first … last` carry field periods, a wedge window or a re-sync field. -/
inductive Stretch where
  | field (first count : Nat)
  | window (wedge first last : Nat)
  | resync (first : Nat)
  deriving DecidableEq, Repr

/-- The placement loop of R42 run stretch by stretch: `p` the present period (absolute), `rem` field periods left. -/
def layoutFrom (z : Nat) : Nat → Nat → Nat → Bool → List Stretch
  | 0, _, _, _ => []
  | fuel + 1, p, rem, started =>
    if rem = 0 then [] else
    let w := wedgeAt z p
    let first := windowFirst z w
    if first ≤ (p : Int) then
      let last := windowLast z w
      .window (w % 1024) p last ::
        (if started then .resync (last + 1) :: layoutFrom z fuel (last + 65) rem started
         else layoutFrom z fuel (last + 1) rem started)
    else
      let n := min rem (first.toNat - p)
      .field p n :: layoutFrom z fuel (p + n) (rem - n) true

/-- The layout of slot `k` of zone `z` (R42), absolute periods. -/
def slotLayout (z k : Nat) : List Stretch := layoutFrom z 64 (42000 * k) 39832 false

/-- The wedge windows inside a slot, in order (R42, R102). -/
def slotWedges (z k : Nat) : List Nat :=
  (slotLayout z k).filterMap fun | .window w _ _ => some w | _ => none

/-- The period after the last placed field period of a slot: its trailing gap begins there. -/
def slotEnd (z k : Nat) : Nat :=
  (slotLayout z k).foldl (fun e s => match s with
    | .field f n => f + n | .window _ _ l => max e (l + 1) | .resync f => f + 64) (42000 * k)

/-- Angle at which period `j` of a revolution begins (R37). -/
def periodAngle (z j : Nat) : Nat := 16777216 * j / periodsPerRev z

/-! ## GF(2^8) and extent parity (R46) -/

/-- Multiplication by α in GF(2^8) with field polynomial 0x11D. -/
def gfTimes2 (a : Nat) : Nat := if a < 128 then 2 * a else (2 * a) ^^^ 0x11D

/-- α^k. -/
def gfPow2 : Nat → Nat
  | 0 => 1
  | k + 1 => gfTimes2 (gfPow2 k)

/-- a × α^k. -/
def gfShift (a : Nat) : Nat → Nat
  | 0 => a
  | k + 1 => gfTimes2 (gfShift a k)

/-- Multiplication in GF(2^8): the sum of a × α^i over the set bits i of b. -/
def gfMul (a b : Nat) : Nat :=
  (List.range 8).foldl (fun s i => if bitAt b i then s ^^^ gfShift a i else s) 0

/-- a^(2^8 − 2), the inverse in GF(2^8) (0 for 0). -/
def gfInv (a : Nat) : Nat :=
  let a2 := gfMul a a
  let a4 := gfMul a2 a2
  let a8 := gfMul a4 a4
  let a16 := gfMul a8 a8
  let a32 := gfMul a16 a16
  let a64 := gfMul a32 a32
  let a128 := gfMul a64 a64
  gfMul a2 (gfMul a4 (gfMul a8 (gfMul a16 (gfMul a32 (gfMul a64 a128)))))

/-- The generator polynomial g(x) = Π (x − α^i), i = 0 … 7, coefficients of x^7 … x^0 (the leading 1 left out). -/
def rsGenerator : List Nat :=
  ((List.range 8).foldl (fun p i =>
    let r := gfPow2 i
    (p ++ [0]).zipWith (fun a b => a ^^^ b) (0 :: p.map (gfMul r))) [1]).drop 1

/-- One step of the division by g(x): the remainder after a further data byte. -/
def rsStep (r : List Nat) (d : Nat) : List Nat :=
  let f := d ^^^ r.headD 0
  (r.drop 1 ++ [0]).zipWith (fun a g => a ^^^ gfMul f g) rsGenerator

/-- Parity bytes of one column of 56 data bytes, position 56 first (R46). -/
def rsParity (col : List Nat) : List Nat := col.foldl rsStep (List.replicate 8 0)

/-- Syndrome i of a 64-byte column: C(α^i), byte k being the coefficient of x^(63−k). -/
def rsSyndrome (col : List Nat) (i : Nat) : Nat :=
  let r := gfPow2 i
  col.foldl (fun s b => gfMul s r ^^^ b) 0

/-! ## Structures recorded on the disc, big-endian (R32) -/

/-- A big-endian field of a byte list. -/
def beField (l : List Byte) (off size : Nat) : Nat := ofBytesBE ((l.drop off).take size)

/-- Sector metadata (R43). -/
structure SectorMeta where
  partId  : Nat
  flags   : Nat
  psn     : Nat
  wtime   : Nat
  fmt     : Nat
  writer  : Nat
  home    : Nat
  dataCrc : Nat
  deriving DecidableEq, Repr

/-- The 32 metadata bytes of R43. -/
def SectorMeta.bytes (m : SectorMeta) : List Byte :=
  bytesBE 2 m.partId ++ bytesBE 2 m.flags ++ bytesBE 8 m.psn ++ bytesBE 5 m.wtime ++ bytesBE 1 m.fmt ++
  bytesBE 2 m.writer ++ bytesBE 4 m.home ++ bytesBE 4 0 ++ bytesBE 4 m.dataCrc

/-- Metadata read from 32 bytes. -/
def SectorMeta.ofBytes (l : List Byte) : SectorMeta :=
  ⟨beField l 0 2, beField l 2 2, beField l 4 8, beField l 12 5, beField l 17 1, beField l 18 2, beField l 20 4,
   beField l 28 4⟩

/-- A defect-list record (R50). -/
structure DefectRec where
  home   : Nat
  spare  : Nat
  wtime  : Nat
  reason : Nat
  writer : Nat
  deriving DecidableEq, Repr

/-- The 16 bytes of a defect-list record (R50). -/
def DefectRec.bytes (d : DefectRec) : List Byte :=
  bytesBE 4 d.home ++ bytesBE 4 d.spare ++ bytesBE 5 d.wtime ++ bytesBE 1 d.reason ++ bytesBE 2 d.writer

/-- A defect-list record read from 16 bytes. -/
def DefectRec.ofBytes (l : List Byte) : DefectRec :=
  ⟨beField l 0 4, beField l 4 4, beField l 8 5, beField l 13 1, beField l 14 2⟩

/-- A defect-list sector read (R50): PREV and its records, or `none` where MAGIC, COUNT or CRC is wrong. -/
def parseDefectSector (l : List Byte) : Option (Nat × List DefectRec) :=
  let n := beField l 8 2
  if beField l 0 4 = 0x4D4C444C ∧ crc32 (l.take 4080) = beField l 4080 4 ∧ 1 ≤ n ∧ n ≤ 254 then
    some (beField l 4 4, (List.range n).map fun i => DefectRec.ofBytes ((l.drop (16 + 16 * i)).take 16))
  else none

/-- The user bytes of a defect-list sector (R50). -/
def defectSectorBytes (prev : Nat) (recs : List DefectRec) : List Byte :=
  let body := bytesBE 4 0x4D4C444C ++ bytesBE 4 prev ++ bytesBE 2 recs.length ++ bytesBE 6 0 ++
    recs.flatMap DefectRec.bytes ++ List.replicate (4064 - 16 * recs.length) 0
  body ++ bytesBE 4 (crc32 body) ++ bytesBE 12 0

/-- The authoritative record for `home` (R51): the list is held newest first. -/
def defectFor (recs : List DefectRec) (home : Nat) : Option DefectRec := recs.find? fun d => d.home == home

/-- The disc information block (R53): identity and limits. -/
structure DiscInfo where
  discId   : Nat
  mfr      : Nat
  lot      : Nat
  made     : Nat
  wrRpmMax : Nat
  hints    : List (List Byte)
  deriving DecidableEq, Repr

/-- Whether the CRC of an information-block copy checks (R53, R54). -/
def infoCrcOk (l : List Byte) : Bool := decide (crc32 (l.take 320) = beField l 320 4)

/-- The first copy that decodes and whose CRC checks decides (R54): `none` when none does or when its MAGIC, VERSION or
LAYERS differs. -/
def parseInfo (copies : List (Option (List Byte))) : Option DiscInfo :=
  match copies.findSome? (fun c => c.bind fun l => if infoCrcOk l then some l else none) with
  | none => none
  | some l =>
    if beField l 0 4 = 0x4D4C3136 ∧ beField l 4 2 = 1 ∧ beField l 6 1 = 16 then
      some ⟨beField l 8 16, beField l 24 2, beField l 26 2, beField l 28 5, beField l 34 2,
        (List.range 16).map fun i => (l.drop (64 + 16 * i)).take 16⟩
    else none

/-- An Anchor record (R55). -/
structure Anchor where
  seq     : Nat
  discId  : Nat
  wtime   : Nat
  writer  : Nat
  dir     : Nat
  dlHead  : Nat
  dlTotal : Nat
  sysNext : Nat
  deriving DecidableEq, Repr

/-- Bytes 0–59 of an Anchor record. -/
def Anchor.body (a : Anchor) : List Byte :=
  bytesBE 4 0x4D4C414E ++ bytesBE 2 1 ++ bytesBE 2 0 ++ bytesBE 8 a.seq ++ bytesBE 16 a.discId ++ bytesBE 5 a.wtime ++
  bytesBE 1 0 ++ bytesBE 2 a.writer ++ bytesBE 4 a.dir ++ bytesBE 4 a.dlHead ++ bytesBE 4 a.dlTotal ++
  bytesBE 4 a.sysNext ++ bytesBE 4 0

/-- The user bytes of an Anchor record (R55). -/
def Anchor.bytes (a : Anchor) : List Byte :=
  a.body ++ bytesBE 4 (crc32 a.body) ++ List.replicate 4032 0

/-- A valid Anchor record of this disc (R55). -/
def parseAnchor (discId : Nat) (l : List Byte) : Option Anchor :=
  if beField l 0 4 = 0x4D4C414E ∧ beField l 4 2 = 1 ∧ beField l 16 16 = discId ∧ crc32 (l.take 60) = beField l 60 4 then
    some ⟨beField l 8 8, beField l 16 16, beField l 32 5, beField l 38 2, beField l 40 4, beField l 44 4,
      beField l 48 4, beField l 52 4⟩
  else none

/-- The Anchor in force (R57): the valid record of highest SEQ. -/
def anchorInForce (discId : Nat) (sectors : List (Option (List Byte))) : Option Anchor :=
  sectors.foldl (fun best c => match c.bind (parseAnchor discId) with
    | none => best
    | some a => match best with
      | none => some a
      | some b => if b.seq < a.seq then some a else some b) none

/-- A partition directory entry (R58). -/
structure PartEntry where
  state    : Nat
  flags    : Nat
  firstExt : Nat
  extCount : Nat
  created  : Nat
  retired  : Nat
  creator  : Nat
  label    : Nat
  keyTag   : Nat
  deriving DecidableEq, Repr

/-- The 48 bytes of entry `p`. -/
def PartEntry.bytes (p : Nat) (e : PartEntry) : List Byte :=
  bytesBE 1 e.state ++ bytesBE 1 e.flags ++ bytesBE 2 p ++ bytesBE 4 e.firstExt ++ bytesBE 4 e.extCount ++
  bytesBE 5 e.created ++ bytesBE 5 e.retired ++ bytesBE 2 e.creator ++ bytesBE 16 e.label ++ bytesBE 8 e.keyTag

/-- An entry read from 48 bytes. -/
def PartEntry.ofBytes (l : List Byte) : PartEntry :=
  ⟨beField l 0 1, beField l 1 1, beField l 4 4, beField l 8 4, beField l 12 5, beField l 17 5, beField l 22 2,
   beField l 24 16, beField l 40 8⟩

/-- A partition directory valid under an Anchor of SEQ `seq` (R58): the entries ever used. -/
def parseDirectory (seq : Nat) (l : List Byte) : Option (List PartEntry) :=
  if beField l 0 4 = 0x4D4C5044 ∧ beField l 4 2 = 1 ∧ beField l 8 8 ≤ seq ∧ crc32 (l.take 3136) = beField l 3136 4 then
    some ((List.range (min 64 (beField l 6 2))).map fun p => PartEntry.ofBytes ((l.drop (64 + 48 * p)).take 48))
  else none

/-- The user bytes of a directory sector (R58). -/
def directoryBytes (seq : Nat) (parts : List PartEntry) : List Byte :=
  let body := bytesBE 4 0x4D4C5044 ++ bytesBE 2 1 ++ bytesBE 2 parts.length ++ bytesBE 8 seq ++ bytesBE 48 0 ++
    (parts.zipIdx.flatMap fun (e, p) => e.bytes p) ++ List.replicate (3072 - 48 * parts.length) 0
  body ++ bytesBE 4 (crc32 body) ++ bytesBE 956 0

/-- Whether extents `f … f + n − 1` meet an active or retired entry (R59). -/
def partOverlap (parts : List PartEntry) (f n : Nat) : Bool :=
  parts.any fun e => e.state != 0 && decide (f < e.firstExt + e.extCount) && decide (e.firstExt < f + n)

/-- Sectors of a partition (R59). -/
def PartEntry.sectors (e : PartEntry) : Nat := e.extCount * 56

/-! ## Spare slots (R48, R49) -/

/-- Spare slot number `i` of zone `z` on a layer, in the order of use (R48). -/
def spareSlot (layer z i : Nat) : SlotAddr :=
  ⟨layer, ((4500 * z + 4410 + i / slotsPerTrack z : Nat) : Int), i % slotsPerTrack z⟩

/-- Spare slots of a zone on one layer. -/
def sparesOf (z : Nat) : Nat := 90 * slotsPerTrack z

/-- The number of a spare slot of zone `z`, `none` for any other slot. -/
def spareNumber (layer z p : Nat) : Option Nat :=
  let a := slotOfPsa p
  if a.layer = layer ∧ zoneOfTrack a.track = z ∧ ((4500 * z + 4410 : Nat) : Int) ≤ a.track then
    some ((a.track.toNat - (4500 * z + 4410)) * slotsPerTrack z + a.slot)
  else none

/-- The next free spare of a zone (R48): beyond the highest spare slot named by a record or found written.  Track 143,999 has
no free spares (R300). -/
def nextSpareInZone (used : List Nat) (layer z : Nat) : Option Nat :=
  let hi := used.foldl (fun m p => match spareNumber layer z p with | some i => max m (i + 1) | none => m) 0
  if hi < sparesOf z - (if z = 31 then slotsPerTrack z else 0) then some (spareSlot layer z hi).psa else none

/-- Zones in the order of R49: nearest first, the outer one first among equals. -/
def zonesByDistance (z : Nat) : List Nat :=
  z :: (List.range 32).flatMap fun d =>
    (if z + (d + 1) < 32 then [z + (d + 1)] else []) ++ (if d + 1 ≤ z then [z - (d + 1)] else [])

/-- The spare slot a relocation of a sector of zone `z` takes (R48, R49), or `none` where the layer has none. -/
def nextSpare (used : List Nat) (layer z : Nat) : Option Nat :=
  (zonesByDistance z).findSome? fun z' => nextSpareInZone used layer z'

/-! ## Data of the read channel -/

/-- A sample or a value formed from samples, with its erasure mark. -/
structure Sig where
  v   : Int
  era : Bool
  deriving DecidableEq, Repr

/-- A soft byte of R253: the erasure mark and the LLR field. -/
structure Soft where
  era : Bool
  llr : Int
  deriving DecidableEq, Repr

/-- A decoder between passes: posteriors by bit, check messages by (i × 97 + j) × 384 + r. -/
structure Ldpc where
  post : Array Int
  msg  : Array Int
  deriving DecidableEq, Repr

/-- Extent and position of a data slot that belongs to an extent (R45). -/
def extentPos (psa : Nat) : Option (Nat × Nat) :=
  let a := slotOfPsa psa
  if a.track < 0 ∨ 143999 < a.track then none
  else
    let z := zoneOfTrack a.track
    if 4500 * z + 4410 ≤ a.track.toNat then none
    else
      let v := indexOfSlot a
      if v / 64 < extentsPerLayer then some (extentsPerLayer * a.layer + v / 64, v % 64) else none

end Sys2Proof.Machine
end

