-- ==== Sys2Proof/Machine/Code.lean ====
section
/-!
DEFINITION. The sector code and the way to and from channel bits: the LDPC code (R265, R266), its decoder (R267, R268),
scrambling (R294), modulation (R295), soft demodulation (R296), the combination of reads (R276), erasure decoding of an
extent (R279), the fields of a slot (R41, R42) and write-strategy records (R297, R70).  Soft values are in units of 1/2.
-/

namespace Sys2Proof.Machine

/-! ## The code (R265, R266) -/

/-- The shift of submatrix (i, j), absent where it is zero (R265). -/
def circulant (i j : Nat) : Option Nat :=
  if j < 86 then
    if i = j % 11 ∨ i = (j + 4) % 11 ∨ i = (j + 8) % 11 then some (((i + 1) * (j + 1) * (j + 5) + 17 * i) % 384) else none
  else if j = 86 then (if i = 0 ∨ i = 10 then some 1 else if i = 5 then some 0 else none)
  else if i + 87 = j ∨ i + 86 = j then some 0
  else none

/-- The nonzero submatrices of row block `i`: column block and shift. -/
def rowBlocks (i : Nat) : List (Nat × Nat) :=
  (List.range 97).filterMap fun j => (circulant i j).map fun s => (j, s)

/-- The codeword bits that check `r` of row block `i` covers. -/
def checkBits (i r : Nat) : List Nat := (rowBlocks i).map fun (j, s) => 384 * j + (r + s) % 384

/-- Whether a word (bit v of it given by `c`) satisfies check `r` of row block `i`. -/
def checkHolds (c : Nat → Bool) (i r : Nat) : Bool := !((checkBits i r).foldl (fun a v => xor a (c v)) false)

/-- Whether a word is a codeword (R266). -/
def isCodeword (c : Nat → Bool) : Bool :=
  (List.range 11).all fun i => (List.range 384).all fun r => checkHolds c i r

/-- Bit `r` of λ_i, the sum of the information blocks of row block `i` (R266). -/
def lambdaBit (c : Array Bool) (i r : Nat) : Bool :=
  (rowBlocks i).foldl (fun a (j, s) => if j < 86 then xor a (c.getD (384 * j + (r + s) % 384) false) else a) false

/-- λ_i as a block. -/
def lambdaBlock (c : Array Bool) (i : Nat) : List Bool := (List.range 384).map (lambdaBit c i)

/-- Sum of two blocks. -/
def xorBlock (a b : List Bool) : List Bool := a.zipWith xor b

/-- Parity blocks p_1 … from p_i on: p_(i+1) = λ_i + p_i, with p_0 added at i = 5 (R266). -/
def parityFrom (p0 : List Bool) : Nat → List (List Bool) → List Bool → List (List Bool)
  | _, [], p => [p]
  | i, l :: rest, p => p :: parityFrom p0 (i + 1) rest (xorBlock (if i = 5 then xorBlock l p0 else l) p)

/-- The 37,248 codeword bits of 33,024 information bits (R266). -/
def ldpcEncode (info : List Bool) : List Bool :=
  let c := info.toArray
  let ls := (List.range 11).map (lambdaBlock c)
  let p0 := ls.foldl xorBlock (List.replicate 384 false)
  let p1 := xorBlock (ls.headD []) (p0.drop 1 ++ p0.take 1)
  info ++ p0 ++ (parityFrom p0 1 ((ls.drop 1).take 9) p1).flatten

/-- Bits of a byte string, most significant bit of each byte first (R40). -/
def bitsOfBytes (l : List Byte) : List Bool := l.flatMap fun b => (List.range 8).map fun k => bitAt b.toNat (7 - k)

/-- The byte string of bits. -/
def bytesOfBits : List Bool → List Byte
  | a :: b :: c :: d :: e :: f :: g :: h :: r =>
    BitVec.ofNat 8 (128 * b2n a + 64 * b2n b + 32 * b2n c + 16 * b2n d + 8 * b2n e + 4 * b2n f + 2 * b2n g + b2n h) :: bytesOfBits r
  | _ => []

/-! ## The decoder (R267, R268) -/

/-- Saturation to 9 bits, to 6 bits. -/
def sat9 (x : Int) : Int := clampInt (-255) 255 x
@[inherit_doc sat9] def sat6 (x : Int) : Int := clampInt (-31) 31 x

/-- The sign of R267: sign(0) is +1. -/
def sign1 (x : Int) : Int := if 0 ≤ x then 1 else -1

/-- All messages zero: the start of a sector (R267). -/
def Ldpc.start : Ldpc := ⟨Array.replicate 37248 0, Array.replicate 409728 0⟩

/-- Set the posteriors from new channel values: L[v] := λ[v] + Σ R (R268 step 1). -/
def Ldpc.load (d : Ldpc) (lam : Array Int) : Ldpc :=
  let sums := (List.range 11).foldl (fun (a : Array Int) i => (rowBlocks i).foldl (fun a (j, s) =>
    (List.range 384).foldl (fun a r =>
      let v := 384 * j + (r + s) % 384
      a.setIfInBounds v (a.getD v 0 + d.msg.getD ((i * 97 + j) * 384 + r) 0)) a) a) lam
  { d with post := sums }

/-- The two smallest magnitudes of a row and the place of the first that has the smallest. -/
def twoMinima (l : List (Nat × Int)) : Option (Nat × Nat × Option Nat) :=
  l.foldl (fun acc (v, t) =>
    let a := t.natAbs
    match acc with
    | none => some (v, a, none)
    | some (w, m1, m2) =>
      if a < m1 then some (v, a, some m1)
      else some (w, m1, some (match m2 with | none => a | some m => min m a))) none

/-- One row of a layer (R267).  `era` tells the erased bits that the erasure-aware rule leaves out where |t| = 0; a
minimum over no variable is a free value (DESIGN CHOICE, log entry 3). -/
def ldpcRow (ofs : Nat) (era : Nat → Bool) (d : Ldpc) (i r : Nat) : Ldpc :=
  let es := (rowBlocks i).map fun (j, s) => ((i * 97 + j) * 384 + r, 384 * j + (r + s) % 384)
  let ts := es.map fun (e, v) => (v, sat9 (d.post.getD v 0 - d.msg.getD e 0))
  let kept := ts.filter fun (v, t) => !(era v && t == 0)
  let sg := ts.foldl (fun a (_, t) => a * sign1 t) 1
  let m := twoMinima kept
  let hole := (Config.emptyMinimum i r).toNat
  let put := fun (d : Ldpc) (x : (Nat × Nat) × (Nat × Int)) =>
    let ((e, v), (_, t)) := x
    let mag := match m with
      | some (w, m1, m2) => if w = v then m2.getD hole else m1
      | none => hole
    let q := sat6 (sg * sign1 t * ((mag - ofs : Nat) : Int))
    { post := d.post.setIfInBounds v (sat9 (t + q)), msg := d.msg.setIfInBounds e q }
  (es.zip ts).foldl put d

/-- One iteration: layers 0 to 10 in order. -/
def ldpcIterate (ofs : Nat) (era : Nat → Bool) (d : Ldpc) : Ldpc :=
  (List.range 11).foldl (fun d i => (List.range 384).foldl (fun d r => ldpcRow ofs era d i r) d) d

/-- Hard decisions: bit 0 for L ≥ 0 (R268). -/
def Ldpc.hard (d : Ldpc) (v : Nat) : Bool := decide (d.post.getD v 0 < 0)

/-- Up to `n` iterations, ending at a zero syndrome: iterations made, whether converged, and the decoder. -/
def ldpcRun (ofs : Nat) (era : Nat → Bool) : Nat → Nat → Ldpc → Nat × Bool × Ldpc
  | 0, k, d => (k, false, d)
  | n + 1, k, d =>
    let d' := ldpcIterate ofs era d
    if isCodeword d'.hard then (k + 1, true, d') else ldpcRun ofs era n (k + 1) d'

/-- The codeword decided. -/
def Ldpc.word (d : Ldpc) : List Bool := (List.range 37248).map d.hard

/-! ## Scrambling and modulation (R294, R295) -/

/-- The scrambling sequence from a shift register (R294). -/
def scrambleFrom : Nat → Nat → List Bool
  | 0, _ => []
  | n + 1, r =>
    let fb := (r ^^^ (r / 4) ^^^ (r / 8) ^^^ (r / 32)) % 2
    decide (r % 2 = 1) :: scrambleFrom n (r / 2 + fb * 2 ^ 15)

/-- The seed of the slot physically written (R294). -/
def scrambleSeed (psa : Nat) : Nat :=
  let r := (psa % 2 ^ 16) ^^^ 0x9D2B
  if r = 0 then 0x9D2B else r

/-- s[0] … s[37,247] of a slot. -/
def scramble (psa : Nat) : List Bool := scrambleFrom 37248 (scrambleSeed psa)

/-- The channel bits of scrambled bits, 16 to 17 (R295). -/
def modulate : List Bool → List Bool
  | a :: b :: c :: d :: e :: f :: g :: h :: i :: j :: k :: l :: m :: n :: o :: p :: r =>
    a :: b :: c :: d :: e :: f :: g :: h :: (!h) :: i :: j :: k :: l :: m :: n :: o :: p :: modulate r
  | _ => []

/-- The payload of a slot (R293): 4,128 bytes encoded, scrambled by the slot written and modulated. -/
def payloadBits (psa : Nat) (bytes : List Byte) : List Bool :=
  modulate ((ldpcEncode (bitsOfBytes bytes)).zipWith xor (scramble psa))

/-! ## Soft demodulation (R296) -/

/-- Its byte. -/
def Soft.byte (x : Soft) : Byte := BitVec.ofNat 8 (b2n x.era * 128 + ofInt 6 x.llr)

/-- Channel values of one 17-bit word. -/
def demodWord (l : List Soft) : List Soft :=
  (List.range 16).map fun k =>
    let x := l.getD (if k < 8 then k else k + 1) ⟨true, 0⟩
    let y := l.getD 8 ⟨true, 0⟩
    if k = 7 then ⟨x.era && y.era, sat6 (x.llr - y.llr)⟩ else x

/-- Channel values of a list of words. -/
def demodWords : Nat → List Soft → List Soft
  | 0, _ => []
  | n + 1, l => demodWord (l.take 17) ++ demodWords n (l.drop 17)

/-- The 37,248 channel values of a payload, descrambled (R296). -/
def demodulate (psa : Nat) (l : List Soft) : List Soft :=
  (demodWords 2328 l).zipWith (fun x s => if s then { x with llr := -x.llr } else x) (scramble psa)

/-- A-priori values of the channel bits from extrinsic values of the codeword bits (R296). -/
def remodulate : List Int → List Int
  | a :: b :: c :: d :: e :: f :: g :: h :: i :: j :: k :: l :: m :: n :: o :: p :: r =>
    a :: b :: c :: d :: e :: f :: g :: h :: -h :: i :: j :: k :: l :: m :: n :: o :: p :: remodulate r
  | _ => []

/-- The a-priori values that a decoder hands back (R268 step 3, R296). -/
def Ldpc.apriori (d : Ldpc) (psa : Nat) (lam : Array Int) : List Int :=
  remodulate (((List.range 37248).zip (scramble psa)).map fun (v, s) =>
    let e := sat6 (d.post.getD v 0 - lam.getD v 0)
    if s then -e else e)

/-- One channel bit of combined reads (R276). -/
def combineBit (lim : Nat) (q : List Soft) : Soft :=
  let live := q.filter fun x => !x.era
  let sum := sat6 (live.foldl (fun a x => a + x.llr) 0)
  let split := live.any (fun x => decide (x.llr < 0)) && live.any (fun x => decide (0 ≤ x.llr))
  if live.isEmpty || (split && decide (sum.natAbs < lim)) then ⟨true, sum⟩ else ⟨false, sum⟩

/-- Step 4's combined channel bits (R276). -/
def combineReads (lim n : Nat) (sets : List (List Soft)) : List Soft :=
  match n, sets with
  | 0, _ => []
  | k + 1, l => combineBit lim (l.map fun s => s.headD ⟨true, 0⟩) :: combineReads lim k (l.map (·.drop 1))

/-! ## Erasures of an extent (R279) -/

/-- Inverse elimination over GF(2^8): solve rows (coefficients, right-hand side) for `n` unknowns. -/
def gfSolve : Nat → List (List Nat × Nat) → Option (List Nat)
  | 0, _ => some []
  | n + 1, rows =>
    match rows.find? fun r => r.1.headD 0 != 0 with
    | none => none
    | some p =>
      let inv := gfInv (p.1.headD 0)
      let pr := p.1.map (gfMul inv)
      let pv := gfMul inv p.2
      let rest := (rows.erase p).map fun r =>
        let f := r.1.headD 0
        ((r.1.zipWith (fun a b => a ^^^ gfMul f b) pr).drop 1, r.2 ^^^ gfMul f pv)
      (gfSolve n rest).map fun xs =>
        ((pr.drop 1).zipWith gfMul xs).foldl (· ^^^ ·) pv :: xs

/-- α^k for any k. -/
def gfPow (k : Nat) : Nat := gfPow2 (k % 255)

/-- The erased bytes of one column: positions erased, the 64 bytes with erased ones 0.  `none` where the equations have
no solution; the flag tells that every unused check is zero. -/
def solveColumn (erased : List Nat) (col : List Nat) : Option (List Nat × Bool) :=
  let rows := (List.range 8).map fun i => (erased.map fun p => gfPow (i * (63 - p)), rsSyndrome col i)
  (gfSolve erased.length (rows.take erased.length)).map fun xs =>
    (xs, (rows.drop erased.length).all fun (c, y) => (c.zipWith gfMul xs).foldl (· ^^^ ·) 0 == y)

/-- Column `k` of an extent's 64 positions, erased ones 0. -/
def extentColumn (bytes : List (Option (List Byte))) (k : Nat) : List Nat :=
  bytes.map fun b => match b with | some l => (l.getD k 0).toNat | none => 0

/-- Reconstruct an extent of 64 positions (R279): the bytes of the erased positions, in order, and whether every unused
check of every column was zero.  `none` with more than 8 erasures. -/
def reconstruct (bytes : List (Option (List Byte))) : Option (List (List Byte) × Bool) :=
  let erased := (List.range 64).filter fun p => (bytes.getD p none).isNone
  if 8 < erased.length then none
  else
    let cols := (List.range 4128).map fun k => (solveColumn erased (extentColumn bytes k)).getD ([], false)
    some ((List.range erased.length).map fun e => cols.map fun c => BitVec.ofNat 8 (c.1.getD e 0), cols.all (·.2))

/-! ## The fields of a slot (R41, R42) -/

/-- The pattern 0, 0, 1, 1. -/
def tone (n : Nat) : List Bool := (List.range n).map fun k => decide (2 ≤ k % 4)

/-- The 48-bit sync pattern and the 24-bit re-sync mark, most significant bit first (R41). -/
def syncBits : List Bool := (List.range 48).map fun k => bitAt 0xF3C0CF0F3CC3 (47 - k)
@[inherit_doc syncBits] def resyncMark : List Bool := (List.range 24).map fun k => bitAt 0xF0CF33 (23 - k)

/-- The 64 bits of a re-sync field. -/
def resyncBits : List Bool := tone 40 ++ resyncMark

/-- The 39,832 field bits of a sector, without splits. -/
def fieldBits (payload : List Bool) : List Bool := tone 192 ++ syncBits ++ payload ++ tone 16

/-- The periods of a gate run: bits, and `none` inside a wedge window. -/
def placeBits : List Stretch → List Bool → List (Option Bool)
  | [], _ => []
  | .field _ n :: r, l => (l.take n).map some ++ placeBits r (l.drop n)
  | .window _ a b :: r, l => List.replicate (b + 1 - a) none ++ placeBits r l
  | .resync _ :: r, l => resyncBits.map some ++ placeBits r l

/-- The periods of a gate run of slot `k` of zone `z`, from its first preamble period to its last postamble period (R70). -/
def gatePeriods (z k : Nat) (payload : List Bool) : List (Option Bool) :=
  (placeBits (slotLayout z k) (fieldBits payload)).dropWhile fun x => x.isNone

/-! ## Write strategy (R297, R70) -/

/-- Levels of R70. -/
inductive WLevel where
  | cool | bias | write | read
  deriving DecidableEq, Repr

/-- Its two bits. -/
def WLevel.code : WLevel → Nat
  | .cool => 0 | .bias => 1 | .write => 2 | .read => 3

/-- A record: level and length in 1/32 channel bit. -/
structure WRec where
  level : WLevel
  dur   : Nat
  deriving DecidableEq, Repr

/-- Pulse widths in force (R297). -/
structure Pulses where
  top  : Nat
  mp   : Nat
  last : Nat
  cool : Nat
  deriving DecidableEq, Repr

/-- Widths within their ranges (R297). -/
def Pulses.limit (p : Pulses) : Pulses :=
  let l := clampNat 4 32 p.last
  ⟨clampNat 4 32 p.top, clampNat 4 32 p.mp, l, min (64 - l) (clampNat 0 32 p.cool)⟩

/-- Records of a mark of `n` periods with `room` of 1/32 bit of space after it (up to the next mark, window or end): the
last COOL and BIAS included; a cooling that reaches beyond is cut. -/
def markRecords (p : Pulses) (n room : Nat) : List WRec :=
  let width := fun k => if k = 0 then p.top else if k + 1 = n then p.last else p.mp
  let pulse := fun k =>
    if k + 1 = n then [⟨.write, width k⟩] else [⟨.write, width k⟩, ⟨.cool, 32 - width k⟩]
  let tail := 32 - width (n - 1) + room
  (List.range n).flatMap pulse ++ [⟨.cool, min p.cool tail⟩, ⟨.bias, tail - min p.cool tail⟩]

/-- Split off the leading periods equal to `x`. -/
def runLength (x : Option Bool) : List (Option Bool) → Nat × List (Option Bool)
  | [] => (0, [])
  | y :: r => if y = x then ((runLength x r).1 + 1, (runLength x r).2) else (0, y :: r)

/-- The records of a gate run's periods (R297), not yet merged.  `fuel` is the number of periods. -/
def runRecords (p : Pulses) : Nat → List (Option Bool) → List WRec
  | 0, _ => []
  | fuel + 1, l =>
    match l with
    | [] => []
    | none :: _ =>
      let (n, r) := runLength none l
      ⟨.read, 32 * n⟩ :: runRecords p fuel r
    | some true :: _ =>
      let (n, r) := runLength (some true) l
      let (m, r') := runLength (some false) r
      markRecords p n (32 * m) ++ runRecords p fuel r'
    | some false :: _ =>
      let (n, r) := runLength (some false) l
      ⟨.bias, 32 * n⟩ :: runRecords p fuel r

/-- Merge adjacent records of one level and drop empty ones (R297). -/
def mergeRecords : List WRec → List WRec
  | [] => []
  | a :: r =>
    if a.dur = 0 then mergeRecords r
    else match mergeRecords r with
      | b :: t => if a.level = b.level then ⟨a.level, a.dur + b.dur⟩ :: t else a :: b :: t
      | [] => [a]

/-- A record longer than DUR can say goes out as several (R70). -/
def splitRecord (r : WRec) : List WRec :=
  List.replicate (r.dur / 16383) ⟨r.level, 16383⟩ ++ (if r.dur % 16383 = 0 then [] else [⟨r.level, r.dur % 16383⟩])

/-- The records of a gate run, 16-bit words of R70. -/
def gateRecords (p : Pulses) (periods : List (Option Bool)) : List Nat :=
  ((mergeRecords (runRecords p.limit periods.length periods)).flatMap splitRecord).map fun r => r.level.code * 2 ^ 14 + r.dur

end Sys2Proof.Machine
end

