-- ==== Sys2Proof/Machine/Regs.lean ====
section
/-!
DEFINITION. Every register field of the controller, by name: where it lies (R617, R624, R625 for offsets;
the rule in its docstring for its bits), its width and its reset value.  A field is named REGISTER.FIELD; its
arguments are the indices of the register, outermost first (bay, ring, cluster, sequencer, region, …).
A reset value that depends on an index is given by one of the functions before the fields.
-/

namespace Sys2Proof.Machine

/-- One register field: `key` is 32 × (BAR 0 offset of its register) + its lowest bit, `width` its bits, and
`reset` its value after reset. -/
structure Field where
  key   : Nat
  width : Nat
  reset : Nat
  deriving DecidableEq, Repr

/-- Access types of R13.  `own` marks a field whose host write is a command of its own (its row of the command
table): a plain register write leaves it alone. -/
inductive Acc where
  | rw | ro | wo | w1c | w1s | rc | own
  deriving DecidableEq, Repr

namespace R

/-- Reset domain state and request of R563: SYS (161), PCIE (152) and AON (162) are `ON` = 2, every other 0. -/
def pwrReset (d : Nat) : Nat := if d = 161 ∨ d = 152 ∨ d = 162 then 2 else 0

/-- Reset quota of 1 MiB buffers (R483). -/
def quota1M (id : Nat) : Nat := if id < 128 then 8 else if id < 160 then 2 else 0

/-- Reset quota of 64 KiB buffers (R483). -/
def quota64K (id : Nat) : Nat :=
  if id < 128 then 72 else if id < 160 then 8 else if id = 160 then 120 else if id = 162 ∨ id = 163 then 128 else 0

/-- Reset quota of 4 KiB buffers (R483). -/
def quota4K (id : Nat) : Nat :=
  if id < 128 then 32 else if id < 160 then 16 else if id = 161 then 16
  else if id = 162 ∨ id = 163 then 128 else if id = 164 then 64 else 0

/-- Reset age deadlines of R414, ms. -/
def schedAgeReset (c : Nat) : Nat := ([100, 250, 1000, 4000, 30000] : List Nat).getD c 0

/-- Reset biases of R415, µs. -/
def schedBiasReset (c : Nat) : Nat := ([0, 5000, 20000, 60000] : List Nat).getD c 0

/-- Reset focus deltas of `DR_OFS` (R289). -/
def ofsFocReset (k : Nat) : Nat := ([0x0200, 0xFE00] : List Nat).getD k 0

/-- Reset SA deltas of `DR_OFS` (R289). -/
def ofsSaReset (k : Nat) : Nat := ([0, 0, 0x04, 0xFC] : List Nat).getD k 0

/-- R204, entries 0 to 63. -/
def cosTab0 : List Nat :=
  [32767, 32766, 32765, 32761, 32757, 32752, 32745, 32737, 32728, 32717, 32705, 32692, 32678, 32663, 32646, 32628,
   32609, 32589, 32567, 32545, 32521, 32495, 32469, 32441, 32412, 32382, 32351, 32318, 32285, 32250, 32213, 32176,
   32137, 32098, 32057, 32014, 31971, 31926, 31880, 31833, 31785, 31736, 31685, 31633, 31580, 31526, 31470, 31414,
   31356, 31297, 31237, 31176, 31113, 31050, 30985, 30919, 30852, 30783, 30714, 30643, 30571, 30498, 30424, 30349]

/-- R204, entries 64 to 127. -/
def cosTab1 : List Nat :=
  [30273, 30195, 30117, 30037, 29956, 29874, 29791, 29706, 29621, 29534, 29447, 29358, 29268, 29177, 29085, 28992,
   28898, 28803, 28706, 28609, 28510, 28411, 28310, 28208, 28105, 28001, 27896, 27790, 27683, 27575, 27466, 27356,
   27245, 27133, 27019, 26905, 26790, 26674, 26556, 26438, 26319, 26198, 26077, 25955, 25832, 25708, 25582, 25456,
   25329, 25201, 25072, 24942, 24811, 24680, 24547, 24413, 24279, 24143, 24007, 23870, 23731, 23592, 23452, 23311]

/-- R204, entries 128 to 191. -/
def cosTab2 : List Nat :=
  [23170, 23027, 22884, 22739, 22594, 22448, 22301, 22154, 22005, 21856, 21705, 21554, 21403, 21250, 21096, 20942,
   20787, 20631, 20475, 20317, 20159, 20000, 19841, 19680, 19519, 19357, 19195, 19032, 18868, 18703, 18537, 18371,
   18204, 18037, 17869, 17700, 17530, 17360, 17189, 17018, 16846, 16673, 16499, 16325, 16151, 15976, 15800, 15623,
   15446, 15269, 15090, 14912, 14732, 14553, 14372, 14191, 14010, 13828, 13645, 13462, 13279, 13094, 12910, 12725]

/-- R204, entries 192 to 255. -/
def cosTab3 : List Nat :=
  [12539, 12353, 12167, 11980, 11793, 11605, 11417, 11228, 11039, 10849, 10659, 10469, 10278, 10087, 9896, 9704,
   9512, 9319, 9126, 8933, 8739, 8545, 8351, 8157, 7962, 7767, 7571, 7375, 7179, 6983, 6786, 6590,
   6393, 6195, 5998, 5800, 5602, 5404, 5205, 5007, 4808, 4609, 4410, 4210, 4011, 3811, 3612, 3412,
   3212, 3012, 2811, 2611, 2410, 2210, 2009, 1809, 1608, 1407, 1206, 1005, 804, 603, 402, 201]

/-- R204, entries 0 to 63. -/
def sinTab0 : List Nat :=
  [0, 201, 402, 603, 804, 1005, 1206, 1407, 1608, 1809, 2009, 2210, 2410, 2611, 2811, 3012,
   3212, 3412, 3612, 3811, 4011, 4210, 4410, 4609, 4808, 5007, 5205, 5404, 5602, 5800, 5998, 6195,
   6393, 6590, 6786, 6983, 7179, 7375, 7571, 7767, 7962, 8157, 8351, 8545, 8739, 8933, 9126, 9319,
   9512, 9704, 9896, 10087, 10278, 10469, 10659, 10849, 11039, 11228, 11417, 11605, 11793, 11980, 12167, 12353]

/-- R204, entries 64 to 127. -/
def sinTab1 : List Nat :=
  [12539, 12725, 12910, 13094, 13279, 13462, 13645, 13828, 14010, 14191, 14372, 14553, 14732, 14912, 15090, 15269,
   15446, 15623, 15800, 15976, 16151, 16325, 16499, 16673, 16846, 17018, 17189, 17360, 17530, 17700, 17869, 18037,
   18204, 18371, 18537, 18703, 18868, 19032, 19195, 19357, 19519, 19680, 19841, 20000, 20159, 20317, 20475, 20631,
   20787, 20942, 21096, 21250, 21403, 21554, 21705, 21856, 22005, 22154, 22301, 22448, 22594, 22739, 22884, 23027]

/-- R204, entries 128 to 191. -/
def sinTab2 : List Nat :=
  [23170, 23311, 23452, 23592, 23731, 23870, 24007, 24143, 24279, 24413, 24547, 24680, 24811, 24942, 25072, 25201,
   25329, 25456, 25582, 25708, 25832, 25955, 26077, 26198, 26319, 26438, 26556, 26674, 26790, 26905, 27019, 27133,
   27245, 27356, 27466, 27575, 27683, 27790, 27896, 28001, 28105, 28208, 28310, 28411, 28510, 28609, 28706, 28803,
   28898, 28992, 29085, 29177, 29268, 29358, 29447, 29534, 29621, 29706, 29791, 29874, 29956, 30037, 30117, 30195]

/-- R204, entries 192 to 255. -/
def sinTab3 : List Nat :=
  [30273, 30349, 30424, 30498, 30571, 30643, 30714, 30783, 30852, 30919, 30985, 31050, 31113, 31176, 31237, 31297,
   31356, 31414, 31470, 31526, 31580, 31633, 31685, 31736, 31785, 31833, 31880, 31926, 31971, 32014, 32057, 32098,
   32137, 32176, 32213, 32250, 32285, 32318, 32351, 32382, 32412, 32441, 32469, 32495, 32521, 32545, 32567, 32589,
   32609, 32628, 32646, 32663, 32678, 32692, 32705, 32717, 32728, 32737, 32745, 32752, 32757, 32761, 32765, 32766]

/-- round(32,767 × cos(π i / 512)), the reset A of entry i (R204). -/
def sineA (i : Nat) : Nat := (cosTab0 ++ cosTab1 ++ cosTab2 ++ cosTab3).getD i 0

/-- round(32,767 × sin(π i / 512)), the reset B of entry i (R204). -/
def sineB (i : Nat) : Nat := (sinTab0 ++ sinTab1 ++ sinTab2 ++ sinTab3).getD i 0

/-- R623: `IDENT` [31:16]. -/
def IDENT.VENDOR : Field := ⟨0x10, 16, 18252⟩
/-- R623: `IDENT` [15:0]. -/
def IDENT.FAMILY : Field := ⟨0x0, 16, 19289⟩

/-- R1: `CAP` [31:24]. -/
def CAP.STEP : Field := ⟨0x218, 8, 0xA0⟩
/-- R1: `CAP` [16]. -/
def CAP.UCODE_CUST : Field := ⟨0x210, 1, 1⟩
/-- R1: `CAP` [13:12]. -/
def CAP.FAB_PORTS : Field := ⟨0x20c, 2, 2⟩
/-- R1: `CAP` [11]. -/
def CAP.CRYPTO : Field := ⟨0x20b, 1, 1⟩
/-- R1: `CAP` [10]. -/
def CAP.STRIPE : Field := ⟨0x20a, 1, 1⟩
/-- R1: `CAP` [7:0]. -/
def CAP.BAYS : Field := ⟨0x200, 8, 128⟩

/-- R576: `MODE_STAT` [31]. -/
def MODE_STAT.PENDING : Field := ⟨0x41f, 1, 0⟩
/-- R576: `MODE_STAT` [30]. -/
def MODE_STAT.SD_DONE : Field := ⟨0x41e, 1, 0⟩
/-- R576: `MODE_STAT` [15:12]. -/
def MODE_STAT.TARGET : Field := ⟨0x40c, 4, 0⟩
/-- R576: `MODE_STAT` [11:8]. -/
def MODE_STAT.PREV : Field := ⟨0x408, 4, 0⟩
/-- R576: `MODE_STAT` [7:4]. -/
def MODE_STAT.CHG_COUNT : Field := ⟨0x404, 4, 0⟩
/-- R576: `MODE_STAT` [3:0]. -/
def MODE_STAT.MODE : Field := ⟨0x400, 4, 0⟩

/-- R576: `MODE_CFG` [31]. -/
def MODE_CFG.QPARK : Field := ⟨0x49f, 1, 1⟩

/-- R576: `CURFEW_CAUSE` [4:0]. -/
def CURFEW_CAUSE.CAUSE : Field := ⟨0x500, 5, 0⟩

/-- R577: `HB_KICK` [31:0]. -/
def HB_KICK.KICK : Field := ⟨0x580, 32, 0⟩

/-- R577: `HB_CTL` [31]. -/
def HB_CTL.ARMED : Field := ⟨0x61f, 1, 0⟩
/-- R577: `HB_CTL` [15:0]. -/
def HB_CTL.HB_TMO : Field := ⟨0x600, 16, 200⟩

/-- R577: `DIE_TEMP` [31:16]. -/
def DIE_TEMP.PEAK : Field := ⟨0x690, 16, 0⟩
/-- R577: `DIE_TEMP` [15:0]. -/
def DIE_TEMP.TEMP : Field := ⟨0x680, 16, 0⟩

/-- R577: `TEMP_LIM` [31:24]. -/
def TEMP_LIM.CURFEW_T : Field := ⟨0x718, 8, 112⟩
/-- R577: `TEMP_LIM` [23:16]. -/
def TEMP_LIM.WARN_T : Field := ⟨0x710, 8, 105⟩
/-- R577: `TEMP_LIM` [15:8]. -/
def TEMP_LIM.HYST : Field := ⟨0x708, 8, 10⟩

/-- R385: `MT_BASE_LO` [31:12]. -/
def MT_BASE_LO.ADDR : Field := ⟨0x80c, 20, 0⟩

/-- R385: `MT_BASE_HI` [31:0]. -/
def MT_BASE_HI.ADDR : Field := ⟨0x880, 32, 0⟩

/-- R385: `MT_COUNT` [31]. -/
def MT_COUNT.CFG_REJ : Field := ⟨0x91f, 1, 0⟩
/-- R385: `MT_COUNT` [20:0]. -/
def MT_COUNT.COUNT : Field := ⟨0x900, 21, 0⟩

/-- R362: `PORTER_CTL` [31]. -/
def PORTER_CTL.ENABLE : Field := ⟨0x20001f, 1, 0⟩
/-- R362: `PORTER_CTL` [10:0]. -/
def PORTER_CTL.EVT_VECTOR : Field := ⟨0x200000, 11, 0⟩

/-- R363: `DB_BASE_LO` [31:12]. -/
def DB_BASE_LO.ADDR : Field := ⟨0x20008c, 20, 0⟩

/-- R363: `DB_BASE_HI` [31:0]. -/
def DB_BASE_HI.ADDR : Field := ⟨0x200100, 32, 0⟩

/-- R364: `WAKE` [31:0]. -/
def WAKE.WAKE : Field := ⟨0x200180, 32, 0⟩

/-- R364: `POLL` [31:16]. -/
def POLL.IDLE : Field := ⟨0x200210, 16, 100⟩
/-- R364: `POLL` [15:0]. -/
def POLL.BUSY : Field := ⟨0x200200, 16, 20⟩

/-- R365: `PORTER_STAT` [31]. -/
def PORTER_STAT.BUSY : Field := ⟨0x20029f, 1, 0⟩
/-- R365: `PORTER_STAT` [30]. -/
def PORTER_STAT.DB_HALT : Field := ⟨0x20029e, 1, 0⟩
/-- R365: `PORTER_STAT` [29]. -/
def PORTER_STAT.CFG_REJ : Field := ⟨0x20029d, 1, 0⟩
/-- R365: `PORTER_STAT` [28]. -/
def PORTER_STAT.RST_ERR : Field := ⟨0x20029c, 1, 0⟩
/-- R365: `PORTER_STAT` [15:0]. -/
def PORTER_STAT.LOST : Field := ⟨0x200280, 16, 0⟩

/-- R365: `DMA_RESTART` [8:0]. -/
def DMA_RESTART.CHAN : Field := ⟨0x200300, 9, 0⟩

/-- R366: `DMA_HALT_SUM` [31:0]. -/
def DMA_HALT_SUM.HALTED (i : Nat) : Field := ⟨32 * (0x10040 + 4 * i) + 0, 32, 0⟩

/-- R367: `SUB_BASE_LO` [31:12]. -/
def SUB_BASE_LO.ADDR (i : Nat) : Field := ⟨32 * (0x11000 + 0x20 * i) + 12, 20, 0⟩

/-- R367: `SUB_BASE_HI` [31:0]. -/
def SUB_BASE_HI.ADDR (i : Nat) : Field := ⟨32 * (0x11004 + 0x20 * i) + 0, 32, 0⟩

/-- R367: `SUB_CFG` [31]. -/
def SUB_CFG.EN (i : Nat) : Field := ⟨32 * (0x11008 + 0x20 * i) + 31, 1, 0⟩
/-- R367: `SUB_CFG` [30:24]. -/
def SUB_CFG.BURST (i : Nat) : Field := ⟨32 * (0x11008 + 0x20 * i) + 24, 7, 8⟩
/-- R367: `SUB_CFG` [23:16]. -/
def SUB_CFG.ERR_RRING (i : Nat) : Field := ⟨32 * (0x11008 + 0x20 * i) + 16, 8, 0⟩
/-- R367: `SUB_CFG` [15:0]. -/
def SUB_CFG.SIZE_M1 (i : Nat) : Field := ⟨32 * (0x11008 + 0x20 * i) + 0, 16, 15⟩

/-- R367: `SUB_HEAD` [15:0]. -/
def SUB_HEAD.HEAD (i : Nat) : Field := ⟨32 * (0x1100C + 0x20 * i) + 0, 16, 0⟩

/-- R367: `SUB_TAIL` [15:0]. -/
def SUB_TAIL.TAIL (i : Nat) : Field := ⟨32 * (0x11010 + 0x20 * i) + 0, 16, 0⟩

/-- R367: `SUB_STAT` [31]. -/
def SUB_STAT.HALTED (i : Nat) : Field := ⟨32 * (0x11014 + 0x20 * i) + 31, 1, 0⟩
/-- R367: `SUB_STAT` [30]. -/
def SUB_STAT.CFG_REJ (i : Nat) : Field := ⟨32 * (0x11014 + 0x20 * i) + 30, 1, 0⟩
/-- R367: `SUB_STAT` [29]. -/
def SUB_STAT.STALLED (i : Nat) : Field := ⟨32 * (0x11014 + 0x20 * i) + 29, 1, 0⟩

/-- R367: `RCP_BASE_LO` [31:12]. -/
def RCP_BASE_LO.ADDR (i : Nat) : Field := ⟨32 * (0x13000 + 0x20 * i) + 12, 20, 0⟩

/-- R367: `RCP_BASE_HI` [31:0]. -/
def RCP_BASE_HI.ADDR (i : Nat) : Field := ⟨32 * (0x13004 + 0x20 * i) + 0, 32, 0⟩

/-- R368: `RCP_CFG` [31]. -/
def RCP_CFG.EN (i : Nat) : Field := ⟨32 * (0x13008 + 0x20 * i) + 31, 1, 0⟩
/-- R368: `RCP_CFG` [30]. -/
def RCP_CFG.DRAINING (i : Nat) : Field := ⟨32 * (0x13008 + 0x20 * i) + 30, 1, 0⟩
/-- R368: `RCP_CFG` [26:16]. -/
def RCP_CFG.VECTOR (i : Nat) : Field := ⟨32 * (0x13008 + 0x20 * i) + 16, 11, 0⟩
/-- R368: `RCP_CFG` [15:0]. -/
def RCP_CFG.SIZE_M1 (i : Nat) : Field := ⟨32 * (0x13008 + 0x20 * i) + 0, 16, 15⟩

/-- R368: `RCP_COAL` [31]. -/
def RCP_COAL.ERR_NOW (i : Nat) : Field := ⟨32 * (0x1300C + 0x20 * i) + 31, 1, 1⟩
/-- R368: `RCP_COAL` [23:16]. -/
def RCP_COAL.COUNT (i : Nat) : Field := ⟨32 * (0x1300C + 0x20 * i) + 16, 8, 1⟩
/-- R368: `RCP_COAL` [15:0]. -/
def RCP_COAL.TIME (i : Nat) : Field := ⟨32 * (0x1300C + 0x20 * i) + 0, 16, 0⟩

/-- R368: `RCP_HEAD` [15:0]. -/
def RCP_HEAD.HEAD (i : Nat) : Field := ⟨32 * (0x13010 + 0x20 * i) + 0, 16, 0⟩

/-- R368: `RCP_TAIL` [16]. -/
def RCP_TAIL.PHASE (i : Nat) : Field := ⟨32 * (0x13014 + 0x20 * i) + 16, 1, 0⟩
/-- R368: `RCP_TAIL` [15:0]. -/
def RCP_TAIL.TAIL (i : Nat) : Field := ⟨32 * (0x13014 + 0x20 * i) + 0, 16, 0⟩

/-- R368: `RCP_STAT` [31]. -/
def RCP_STAT.BAD_HEAD (i : Nat) : Field := ⟨32 * (0x13018 + 0x20 * i) + 31, 1, 0⟩
/-- R368: `RCP_STAT` [30]. -/
def RCP_STAT.CFG_REJ (i : Nat) : Field := ⟨32 * (0x13018 + 0x20 * i) + 30, 1, 0⟩
/-- R368: `RCP_STAT` [16:0]. -/
def RCP_STAT.RESERVED (i : Nat) : Field := ⟨32 * (0x13018 + 0x20 * i) + 0, 17, 0⟩

/-- R357: `HALT_W0` [31:16]. -/
def HALT_W0.CID (i : Nat) : Field := ⟨32 * (0x16000 + 0x10 * i) + 16, 16, 0⟩
/-- R357: `HALT_W0` [15:8]. -/
def HALT_W0.SRING (i : Nat) : Field := ⟨32 * (0x16000 + 0x10 * i) + 8, 8, 0⟩
/-- R357: `HALT_W0` [7:0]. -/
def HALT_W0.CAUSE (i : Nat) : Field := ⟨32 * (0x16000 + 0x10 * i) + 0, 8, 0⟩

/-- R357: `HALT_ADDR_LO` [31:0]. -/
def HALT_ADDR_LO.ADDR (i : Nat) : Field := ⟨32 * (0x16008 + 0x10 * i) + 0, 32, 0⟩

/-- R357: `HALT_ADDR_HI` [31:0]. -/
def HALT_ADDR_HI.ADDR (i : Nat) : Field := ⟨32 * (0x1600C + 0x10 * i) + 0, 32, 0⟩

/-- R620: `MSIX_ADDR_LO` [31:0]. -/
def MSIX_ADDR_LO.ADDR (i : Nat) : Field := ⟨32 * (0x30000 + 0x10 * i) + 0, 32, 0⟩

/-- R620: `MSIX_ADDR_HI` [31:0]. -/
def MSIX_ADDR_HI.ADDR (i : Nat) : Field := ⟨32 * (0x30004 + 0x10 * i) + 0, 32, 0⟩

/-- R620: `MSIX_DATA` [31:0]. -/
def MSIX_DATA.DATA (i : Nat) : Field := ⟨32 * (0x30008 + 0x10 * i) + 0, 32, 0⟩

/-- R620: `MSIX_CTL` [0]. -/
def MSIX_CTL.MASK (i : Nat) : Field := ⟨32 * (0x3000C + 0x10 * i) + 0, 1, 1⟩

/-- R620: `MSIX_PBA` [31:0]. -/
def MSIX_PBA.PEND (i : Nat) : Field := ⟨32 * (0x38000 + 4 * i) + 0, 32, 0⟩

/-- R481: `CADDY_CTL` [31]. -/
def CADDY_CTL.EN : Field := ⟨0x80001f, 1, 0⟩
/-- R481: `CADDY_CTL` [30]. -/
def CADDY_CTL.REJ : Field := ⟨0x80001e, 1, 0⟩

/-- R481: `CADDY_STAT` [15:0]. -/
def CADDY_STAT.WAITING : Field := ⟨0x800080, 16, 0⟩

/-- R481: `CADDY_RECLAIM` [31]. -/
def CADDY_RECLAIM.GO : Field := ⟨0x80011f, 1, 0⟩
/-- R481: `CADDY_RECLAIM` [30]. -/
def CADDY_RECLAIM.REJ : Field := ⟨0x80011e, 1, 0⟩
/-- R481: `CADDY_RECLAIM` [7:0]. -/
def CADDY_RECLAIM.ID : Field := ⟨0x800100, 8, 0⟩

/-- R482: `CADDY_RGN_CFG` [31]. -/
def CADDY_RGN_CFG.EN (i : Nat) : Field := ⟨32 * (0x40100 + 0x20 * i) + 31, 1, 0⟩
/-- R482: `CADDY_RGN_CFG` [30]. -/
def CADDY_RGN_CFG.FENCE (i : Nat) : Field := ⟨32 * (0x40100 + 0x20 * i) + 30, 1, 0⟩
/-- R482: `CADDY_RGN_CFG` [29:28]. -/
def CADDY_RGN_CFG.CLASS (i : Nat) : Field := ⟨32 * (0x40100 + 0x20 * i) + 28, 2, 0⟩
/-- R482: `CADDY_RGN_CFG` [27:24]. -/
def CADDY_RGN_CFG.USERS (i : Nat) : Field := ⟨32 * (0x40100 + 0x20 * i) + 24, 4, 15⟩
/-- R482: `CADDY_RGN_CFG` [17:0]. -/
def CADDY_RGN_CFG.COUNT (i : Nat) : Field := ⟨32 * (0x40100 + 0x20 * i) + 0, 18, 0⟩

/-- R482: `CADDY_RGN_BASE_LO` [31:12]. -/
def CADDY_RGN_BASE_LO.ADDR (i : Nat) : Field := ⟨32 * (0x40104 + 0x20 * i) + 12, 20, 0⟩

/-- R482: `CADDY_RGN_BASE_HI` [8:0]. -/
def CADDY_RGN_BASE_HI.ADDR (i : Nat) : Field := ⟨32 * (0x40108 + 0x20 * i) + 0, 9, 0⟩

/-- R482: `CADDY_RGN_TAG` [16:0]. -/
def CADDY_RGN_TAG.FIRST (i : Nat) : Field := ⟨32 * (0x4010C + 0x20 * i) + 0, 17, 0⟩

/-- R482: `CADDY_RGN_FREE` [17:0]. -/
def CADDY_RGN_FREE.FREE (i : Nat) : Field := ⟨32 * (0x40110 + 0x20 * i) + 0, 18, 0⟩

/-- R482: `CADDY_RGN_HELD` [17:0]. -/
def CADDY_RGN_HELD.HELD (i : Nat) : Field := ⟨32 * (0x40114 + 0x20 * i) + 0, 18, 0⟩

/-- R482: `CADDY_RGN_FLAGS` [31]. -/
def CADDY_RGN_FLAGS.CFG_REJ (i : Nat) : Field := ⟨32 * (0x40118 + 0x20 * i) + 31, 1, 0⟩

/-- R483: `CADDY_QUOTA` [31:24]. -/
def CADDY_QUOTA.Q16M (i : Nat) : Field := ⟨32 * (0x41000 + 4 * i) + 24, 8, 0⟩
/-- R483: `CADDY_QUOTA` [23:16]. -/
def CADDY_QUOTA.Q1M (i : Nat) : Field := ⟨32 * (0x41000 + 4 * i) + 16, 8, quota1M i⟩
/-- R483: `CADDY_QUOTA` [15:8]. -/
def CADDY_QUOTA.Q64K (i : Nat) : Field := ⟨32 * (0x41000 + 4 * i) + 8, 8, quota64K i⟩
/-- R483: `CADDY_QUOTA` [7:0]. -/
def CADDY_QUOTA.Q4K (i : Nat) : Field := ⟨32 * (0x41000 + 4 * i) + 0, 8, quota4K i⟩

/-- R483: `CADDY_HELD` [31:24]. -/
def CADDY_HELD.H16M (i : Nat) : Field := ⟨32 * (0x41400 + 4 * i) + 24, 8, 0⟩
/-- R483: `CADDY_HELD` [23:16]. -/
def CADDY_HELD.H1M (i : Nat) : Field := ⟨32 * (0x41400 + 4 * i) + 16, 8, 0⟩
/-- R483: `CADDY_HELD` [15:8]. -/
def CADDY_HELD.H64K (i : Nat) : Field := ⟨32 * (0x41400 + 4 * i) + 8, 8, 0⟩
/-- R483: `CADDY_HELD` [7:0]. -/
def CADDY_HELD.H4K (i : Nat) : Field := ⟨32 * (0x41400 + 4 * i) + 0, 8, 0⟩

/-- R483: `CADDY_FAULT` [15:0]. -/
def CADDY_FAULT.COUNT (i : Nat) : Field := ⟨32 * (0x41800 + 4 * i) + 0, 16, 0⟩

/-- R471: `DRAM_CTL` [31]. -/
def DRAM_CTL.TRAIN : Field := ⟨0xa0001f, 1, 0⟩
/-- R471: `DRAM_CTL` [30]. -/
def DRAM_CTL.FILL_DONE : Field := ⟨0xa0001e, 1, 0⟩
/-- R471: `DRAM_CTL` [29]. -/
def DRAM_CTL.TRAIN_REJ : Field := ⟨0xa0001d, 1, 0⟩
/-- R471: `DRAM_CTL` [28]. -/
def DRAM_CTL.RESUME : Field := ⟨0xa0001c, 1, 0⟩
/-- R471: `DRAM_CTL` [7:0]. -/
def DRAM_CTL.MASK : Field := ⟨0xa00000, 8, 0⟩

/-- R472: `DRAM_CFG` [31]. -/
def DRAM_CFG.PRESENT (i : Nat) : Field := ⟨32 * (0x50010 + 4 * i) + 31, 1, 0⟩
/-- R472: `DRAM_CFG` [25:24]. -/
def DRAM_CFG.RANKS (i : Nat) : Field := ⟨32 * (0x50010 + 4 * i) + 24, 2, 0⟩
/-- R472: `DRAM_CFG` [21:20]. -/
def DRAM_CFG.DENS (i : Nat) : Field := ⟨32 * (0x50010 + 4 * i) + 20, 2, 0⟩
/-- R472: `DRAM_CFG` [17:16]. -/
def DRAM_CFG.RATE (i : Nat) : Field := ⟨32 * (0x50010 + 4 * i) + 16, 2, 0⟩

/-- R473: `DRAM_STAT` [31:28]. -/
def DRAM_STAT.STATE (i : Nat) : Field := ⟨32 * (0x50030 + 4 * i) + 28, 4, 0⟩
/-- R473: `DRAM_STAT` [27]. -/
def DRAM_STAT.CFG_REJ (i : Nat) : Field := ⟨32 * (0x50030 + 4 * i) + 27, 1, 0⟩
/-- R473: `DRAM_STAT` [26]. -/
def DRAM_STAT.HELD (i : Nat) : Field := ⟨32 * (0x50030 + 4 * i) + 26, 1, 0⟩
/-- R473: `DRAM_STAT` [23:16]. -/
def DRAM_STAT.SIZE (i : Nat) : Field := ⟨32 * (0x50030 + 4 * i) + 16, 8, 0⟩
/-- R473: `DRAM_STAT` [15:8]. -/
def DRAM_STAT.FAIL_STEP (i : Nat) : Field := ⟨32 * (0x50030 + 4 * i) + 8, 8, 0⟩

/-- R474: `DRAM_ECC` [31:16]. -/
def DRAM_ECC.CORR (i : Nat) : Field := ⟨32 * (0x50050 + 4 * i) + 16, 16, 0⟩
/-- R474: `DRAM_ECC` [15:0]. -/
def DRAM_ECC.UNCORR (i : Nat) : Field := ⟨32 * (0x50050 + 4 * i) + 0, 16, 0⟩

/-- R474: `DRAM_DEV` [31]. -/
def DRAM_DEV.VALID (i : Nat) : Field := ⟨32 * (0x50070 + 4 * i) + 31, 1, 0⟩
/-- R474: `DRAM_DEV` [30]. -/
def DRAM_DEV.SUB (i : Nat) : Field := ⟨32 * (0x50070 + 4 * i) + 30, 1, 0⟩
/-- R474: `DRAM_DEV` [29]. -/
def DRAM_DEV.RANK (i : Nat) : Field := ⟨32 * (0x50070 + 4 * i) + 29, 1, 0⟩
/-- R474: `DRAM_DEV` [28:25]. -/
def DRAM_DEV.DEV (i : Nat) : Field := ⟨32 * (0x50070 + 4 * i) + 25, 4, 0⟩

/-- R475: `DRAM_RETIRE` [31]. -/
def DRAM_RETIRE.GO : Field := ⟨0xa0121f, 1, 0⟩
/-- R475: `DRAM_RETIRE` [30]. -/
def DRAM_RETIRE.REJ : Field := ⟨0xa0121e, 1, 0⟩
/-- R475: `DRAM_RETIRE` [29:27]. -/
def DRAM_RETIRE.REASON : Field := ⟨0xa0121b, 3, 0⟩
/-- R475: `DRAM_RETIRE` [2:0]. -/
def DRAM_RETIRE.CHAN : Field := ⟨0xa01200, 3, 0⟩

/-- R476: `SCRUB_CTL` [31]. -/
def SCRUB_CTL.GO : Field := ⟨0xa0141f, 1, 0⟩
/-- R476: `SCRUB_CTL` [30]. -/
def SCRUB_CTL.STOP : Field := ⟨0xa0141e, 1, 0⟩
/-- R476: `SCRUB_CTL` [29]. -/
def SCRUB_CTL.DONE : Field := ⟨0xa0141d, 1, 0⟩
/-- R476: `SCRUB_CTL` [28]. -/
def SCRUB_CTL.ERR : Field := ⟨0xa0141c, 1, 0⟩
/-- R476: `SCRUB_CTL` [27]. -/
def SCRUB_CTL.VEC_EN : Field := ⟨0xa0141b, 1, 0⟩
/-- R476: `SCRUB_CTL` [26:16]. -/
def SCRUB_CTL.VECTOR : Field := ⟨0xa01410, 11, 0⟩
/-- R476: `SCRUB_CTL` [6:0]. -/
def SCRUB_CTL.RATE : Field := ⟨0xa01400, 7, 8⟩

/-- R476: `SCRUB_START_LO` [31:0]. -/
def SCRUB_START_LO.ADDR : Field := ⟨0xa01480, 32, 0⟩

/-- R476: `SCRUB_START_HI` [8:0]. -/
def SCRUB_START_HI.ADDR : Field := ⟨0xa01500, 9, 0⟩

/-- R476: `SCRUB_LAST_LO` [31:0]. -/
def SCRUB_LAST_LO.ADDR : Field := ⟨0xa01580, 32, 0⟩

/-- R476: `SCRUB_LAST_HI` [8:0]. -/
def SCRUB_LAST_HI.ADDR : Field := ⟨0xa01600, 9, 0⟩

/-- R476: `SCRUB_POS_LO` [31:0]. -/
def SCRUB_POS_LO.ADDR : Field := ⟨0xa01680, 32, 0⟩

/-- R476: `SCRUB_POS_HI` [8:0]. -/
def SCRUB_POS_HI.ADDR : Field := ⟨0xa01700, 9, 0⟩

/-- R476: `SCRUB_CORR` [31:0]. -/
def SCRUB_CORR.COUNT : Field := ⟨0xa01780, 32, 0⟩

/-- R476: `SCRUB_UNCORR` [31:0]. -/
def SCRUB_UNCORR.COUNT : Field := ⟨0xa01800, 32, 0⟩

/-- R476: `SCRUB_FIRST_UC_LO` [31:0]. -/
def SCRUB_FIRST_UC_LO.ADDR : Field := ⟨0xa01880, 32, 4294967295⟩

/-- R476: `SCRUB_FIRST_UC_HI` [31:0]. -/
def SCRUB_FIRST_UC_HI.ADDR : Field := ⟨0xa01900, 32, 4294967295⟩

/-- R476: `SCRUB_LAST_UC_LO` [31:0]. -/
def SCRUB_LAST_UC_LO.ADDR : Field := ⟨0xa01980, 32, 4294967295⟩

/-- R476: `SCRUB_LAST_UC_HI` [31:0]. -/
def SCRUB_LAST_UC_HI.ADDR : Field := ⟨0xa01a00, 32, 4294967295⟩

/-- R476: `SCRUB_TIME` [31:0]. -/
def SCRUB_TIME.COUNT : Field := ⟨0xa01a80, 32, 0⟩

/-- R477: `CACHE_WAY_EN` [31]. -/
def CACHE_WAY_EN.REJ : Field := ⟨0xc0001f, 1, 0⟩
/-- R477: `CACHE_WAY_EN` [15:0]. -/
def CACHE_WAY_EN.EN : Field := ⟨0xc00000, 16, 65535⟩

/-- R477: `CACHE_WAY_STAT` [31:16]. -/
def CACHE_WAY_STAT.CLEANING : Field := ⟨0xc00090, 16, 0⟩
/-- R477: `CACHE_WAY_STAT` [15:0]. -/
def CACHE_WAY_STAT.ACTIVE : Field := ⟨0xc00080, 16, 65535⟩

/-- R478: `CACHE_SCRATCH` [31]. -/
def CACHE_SCRATCH.EN (i : Nat) : Field := ⟨32 * (0x60010 + 4 * i) + 31, 1, 0⟩
/-- R478: `CACHE_SCRATCH` [30]. -/
def CACHE_SCRATCH.READY (i : Nat) : Field := ⟨32 * (0x60010 + 4 * i) + 30, 1, 0⟩
/-- R478: `CACHE_SCRATCH` [29]. -/
def CACHE_SCRATCH.REJ (i : Nat) : Field := ⟨32 * (0x60010 + 4 * i) + 29, 1, 0⟩
/-- R478: `CACHE_SCRATCH` [3:0]. -/
def CACHE_SCRATCH.WAY (i : Nat) : Field := ⟨32 * (0x60010 + 4 * i) + 0, 4, 0⟩

/-- R479: `CACHE_OP` [31]. -/
def CACHE_OP.GO : Field := ⟨0xc0081f, 1, 0⟩
/-- R479: `CACHE_OP` [30]. -/
def CACHE_OP.ERR : Field := ⟨0xc0081e, 1, 0⟩
/-- R479: `CACHE_OP` [25:24]. -/
def CACHE_OP.OP : Field := ⟨0xc00818, 2, 0⟩

/-- R479: `CACHE_OP_ADDR_LO` [31:8]. -/
def CACHE_OP_ADDR_LO.ADDR : Field := ⟨0xc00888, 24, 0⟩

/-- R479: `CACHE_OP_ADDR_HI` [8:0]. -/
def CACHE_OP_ADDR_HI.ADDR : Field := ⟨0xc00900, 9, 0⟩

/-- R480: `CACHE_HIT` [31:0]. -/
def CACHE_HIT.COUNT : Field := ⟨0xc00a00, 32, 0⟩

/-- R480: `CACHE_MISS` [31:0]. -/
def CACHE_MISS.COUNT : Field := ⟨0xc00a80, 32, 0⟩

/-- R480: `CACHE_WB` [31:0]. -/
def CACHE_WB.COUNT : Field := ⟨0xc00b00, 32, 0⟩

/-- R480: `CACHE_ECC` [31:16]. -/
def CACHE_ECC.CORR : Field := ⟨0xc00b90, 16, 0⟩
/-- R480: `CACHE_ECC` [15:0]. -/
def CACHE_ECC.UNCORR : Field := ⟨0xc00b80, 16, 0⟩

/-- R480: `CACHE_EVB` [15:8]. -/
def CACHE_EVB.PEAK : Field := ⟨0xc00c08, 8, 0⟩
/-- R480: `CACHE_EVB` [6:0]. -/
def CACHE_EVB.FILL : Field := ⟨0xc00c00, 7, 0⟩

/-- R438: `STRIPE_STAT` [31]. -/
def STRIPE_STAT.BUSY : Field := ⟨0xe0001f, 1, 0⟩
/-- R438: `STRIPE_STAT` [15:0]. -/
def STRIPE_STAT.QUEUED : Field := ⟨0xe00000, 16, 0⟩

/-- R439: `STRIPE_CNT` [31:16]. -/
def STRIPE_CNT.ENCODED : Field := ⟨0xe00090, 16, 0⟩
/-- R439: `STRIPE_CNT` [15:0]. -/
def STRIPE_CNT.REBUILT : Field := ⟨0xe00080, 16, 0⟩

/-- R439: `STRIPE_BYTES_LO` [31:0]. -/
def STRIPE_BYTES_LO.BYTES : Field := ⟨0xe00100, 32, 0⟩

/-- R439: `STRIPE_BYTES_HI` [31:0]. -/
def STRIPE_BYTES_HI.BYTES : Field := ⟨0xe00180, 32, 0⟩

/-- R440: `FIX_STAT` [31]. -/
def FIX_STAT.BUSY : Field := ⟨0x100001f, 1, 0⟩
/-- R440: `FIX_STAT` [8:0]. -/
def FIX_STAT.WAITING : Field := ⟨0x1000000, 9, 0⟩

/-- R440: `FIX_CNT` [31:16]. -/
def FIX_CNT.RECORDS : Field := ⟨0x1000090, 16, 0⟩
/-- R440: `FIX_CNT` [15:0]. -/
def FIX_CNT.MISMATCH : Field := ⟨0x1000080, 16, 0⟩

/-- R441: `KEY_DATA` [31:0]. -/
def KEY_DATA.DATA (i : Nat) : Field := ⟨32 * (0x80100 + 4 * i) + 0, 32, 0⟩

/-- R442: `KEY_CTL` [31]. -/
def KEY_CTL.LOAD : Field := ⟨0x100281f, 1, 0⟩
/-- R442: `KEY_CTL` [30]. -/
def KEY_CTL.CLEAR : Field := ⟨0x100281e, 1, 0⟩
/-- R442: `KEY_CTL` [29]. -/
def KEY_CTL.CLEAR_ALL : Field := ⟨0x100281d, 1, 0⟩
/-- R442: `KEY_CTL` [11:0]. -/
def KEY_CTL.SLOT : Field := ⟨0x1002800, 12, 0⟩

/-- R442: `KEY_STAT` [31]. -/
def KEY_STAT.FULL : Field := ⟨0x100289f, 1, 0⟩
/-- R442: `KEY_STAT` [30]. -/
def KEY_STAT.KEY_REJ : Field := ⟨0x100289e, 1, 0⟩
/-- R442: `KEY_STAT` [29]. -/
def KEY_STAT.CLEARED : Field := ⟨0x100289d, 1, 0⟩
/-- R442: `KEY_STAT` [28:26]. -/
def KEY_STAT.CLEAR_CAUSE : Field := ⟨0x100289a, 3, 0⟩
/-- R442: `KEY_STAT` [12:0]. -/
def KEY_STAT.FULL_COUNT : Field := ⟨0x1002880, 13, 0⟩

/-- R443: `CRYPTO_CNT` [31:16]. -/
def CRYPTO_CNT.MISSING : Field := ⟨0x1002910, 16, 0⟩
/-- R443: `CRYPTO_CNT` [15:0]. -/
def CRYPTO_CNT.SUSPECT : Field := ⟨0x1002900, 16, 0⟩

/-- R545: `MC_CTL` [31]. -/
def MC_CTL.CLEAR_ID : Field := ⟨0x120001f, 1, 0⟩
/-- R545: `MC_CTL` [30]. -/
def MC_CTL.ROLL_EN : Field := ⟨0x120001e, 1, 1⟩
/-- R545: `MC_CTL` [10:0]. -/
def MC_CTL.VECTOR : Field := ⟨0x1200000, 11, 0⟩

/-- R545: `MC_UID` [31]. -/
def MC_UID.VALID : Field := ⟨0x120009f, 1, 0⟩
/-- R545: `MC_UID` [15:0]. -/
def MC_UID.ID : Field := ⟨0x1200080, 16, 0⟩

/-- R545: `MC_STAT` [31]. -/
def MC_STAT.LOCK : Field := ⟨0x120011f, 1, 0⟩
/-- R545: `MC_STAT` [15:0]. -/
def MC_STAT.CRC_ERR : Field := ⟨0x1200100, 16, 0⟩

/-- R545: `MC_UNITS` [8:0]. -/
def MC_UNITS.UNITS : Field := ⟨0x1200180, 9, 0⟩

/-- R546: `EPOCH` [31:0]. -/
def EPOCH.EPOCH : Field := ⟨0x1200200, 32, 0⟩

/-- R546: `EPOCH_CTL` [31]. -/
def EPOCH_CTL.VALID : Field := ⟨0x120029f, 1, 0⟩
/-- R546: `EPOCH_CTL` [30]. -/
def EPOCH_CTL.PENDING : Field := ⟨0x120029e, 1, 0⟩
/-- R546: `EPOCH_CTL` [29]. -/
def EPOCH_CTL.CANCEL : Field := ⟨0x120029d, 1, 0⟩
/-- R546: `EPOCH_CTL` [28]. -/
def EPOCH_CTL.REJ : Field := ⟨0x120029c, 1, 0⟩
/-- R546: `EPOCH_CTL` [27:24]. -/
def EPOCH_CTL.PEND_TARGET : Field := ⟨0x1200298, 4, 0⟩
/-- R546: `EPOCH_CTL` [23:20]. -/
def EPOCH_CTL.PREV_MODE : Field := ⟨0x1200294, 4, 0⟩

/-- R546: `EPOCH_PEND` [31:0]. -/
def EPOCH_PEND.E : Field := ⟨0x1200300, 32, 0⟩

/-- R546: `MODE_DL` [15:0]. -/
def MODE_DL.DEADLINE : Field := ⟨0x1200380, 16, 10000⟩

/-- R547: `FAB_CTL` [31:30]. -/
def FAB_CTL.EN : Field := ⟨0x122001e, 2, 0⟩
/-- R547: `FAB_CTL` [29]. -/
def FAB_CTL.AUTH : Field := ⟨0x122001d, 1, 1⟩
/-- R547: `FAB_CTL` [28]. -/
def FAB_CTL.KEY : Field := ⟨0x122001c, 1, 0⟩
/-- R547: `FAB_CTL` [27:26]. -/
def FAB_CTL.SEG : Field := ⟨0x122001a, 2, 0⟩
/-- R547: `FAB_CTL` [25]. -/
def FAB_CTL.REJ : Field := ⟨0x1220019, 1, 0⟩
/-- R547: `FAB_CTL` [10:0]. -/
def FAB_CTL.VECTOR : Field := ⟨0x1220000, 11, 0⟩

/-- R547: `FAB_NET` [31:20]. -/
def FAB_NET.VID : Field := ⟨0x1220094, 12, 1⟩
/-- R547: `FAB_NET` [19:17]. -/
def FAB_NET.PCP : Field := ⟨0x1220091, 3, 3⟩
/-- R547: `FAB_NET` [16]. -/
def FAB_NET.PFC_EN : Field := ⟨0x1220090, 1, 1⟩
/-- R547: `FAB_NET` [15:8]. -/
def FAB_NET.HOP : Field := ⟨0x1220088, 8, 64⟩
/-- R547: `FAB_NET` [7:0]. -/
def FAB_NET.TCLASS : Field := ⟨0x1220080, 8, 0⟩

/-- R547: `FAB_UDP` [15:0]. -/
def FAB_UDP.DPORT : Field := ⟨0x1220100, 16, 19256⟩

/-- R547: `FAB_IID` [31:0]. -/
def FAB_IID.IID_HI : Field := ⟨0x1220180, 32, 1264138289⟩

/-- R547: `FAB_SESSION` [15:0]. -/
def FAB_SESSION.SESSION : Field := ⟨0x1220200, 16, 0⟩

/-- R548: `FAB_TMO` [31:16]. -/
def FAB_TMO.RTO : Field := ⟨0x1220290, 16, 200⟩
/-- R548: `FAB_TMO` [15:0]. -/
def FAB_TMO.PEER_TMO : Field := ⟨0x1220280, 16, 1000⟩

/-- R548: `FAB_LIM` [31:24]. -/
def FAB_LIM.RETRY_MAX : Field := ⟨0x1220318, 8, 16⟩
/-- R548: `FAB_LIM` [23:16]. -/
def FAB_LIM.AUTH_MAX : Field := ⟨0x1220310, 8, 16⟩
/-- R548: `FAB_LIM` [15:8]. -/
def FAB_LIM.HOLD_T : Field := ⟨0x1220308, 8, 10⟩
/-- R548: `FAB_LIM` [7:0]. -/
def FAB_LIM.WIN_FRAMES : Field := ⟨0x1220300, 8, 64⟩

/-- R549: `FP_PREFIX_HI` [31:0]. -/
def FP_PREFIX_HI.ADDR (i : Nat) : Field := ⟨32 * (0x91100 + 0x40 * i) + 0, 32, 0⟩

/-- R549: `FP_PREFIX_LO` [31:0]. -/
def FP_PREFIX_LO.ADDR (i : Nat) : Field := ⟨32 * (0x91104 + 0x40 * i) + 0, 32, 0⟩

/-- R549: `FP_MAC_HI` [15:0]. -/
def FP_MAC_HI.ADDR (i : Nat) : Field := ⟨32 * (0x91108 + 0x40 * i) + 0, 16, 0⟩

/-- R549: `FP_MAC_LO` [31:0]. -/
def FP_MAC_LO.ADDR (i : Nat) : Field := ⟨32 * (0x9110C + 0x40 * i) + 0, 32, 0⟩

/-- R549: `FP_NH_HI` [15:0]. -/
def FP_NH_HI.ADDR (i : Nat) : Field := ⟨32 * (0x91110 + 0x40 * i) + 0, 16, 0⟩

/-- R549: `FP_NH_LO` [31:0]. -/
def FP_NH_LO.ADDR (i : Nat) : Field := ⟨32 * (0x91114 + 0x40 * i) + 0, 32, 0⟩

/-- R549: `FP_STAT` [31]. -/
def FP_STAT.LINK (i : Nat) : Field := ⟨32 * (0x91118 + 0x40 * i) + 31, 1, 0⟩
/-- R549: `FP_STAT` [30]. -/
def FP_STAT.PFC_RX (i : Nat) : Field := ⟨32 * (0x91118 + 0x40 * i) + 30, 1, 0⟩
/-- R549: `FP_STAT` [15:0]. -/
def FP_STAT.LINK_DOWNS (i : Nat) : Field := ⟨32 * (0x91118 + 0x40 * i) + 0, 16, 0⟩

/-- R549: `FP_TX` [31:0]. -/
def FP_TX.COUNT (i : Nat) : Field := ⟨32 * (0x9111C + 0x40 * i) + 0, 32, 0⟩

/-- R549: `FP_RX` [31:0]. -/
def FP_RX.COUNT (i : Nat) : Field := ⟨32 * (0x91120 + 0x40 * i) + 0, 32, 0⟩

/-- R549: `FP_RETX` [31:0]. -/
def FP_RETX.COUNT (i : Nat) : Field := ⟨32 * (0x91124 + 0x40 * i) + 0, 32, 0⟩

/-- R549: `FP_DROP` [31:16]. -/
def FP_DROP.AUTH (i : Nat) : Field := ⟨32 * (0x91128 + 0x40 * i) + 16, 16, 0⟩
/-- R549: `FP_DROP` [15:0]. -/
def FP_DROP.STALE (i : Nat) : Field := ⟨32 * (0x91128 + 0x40 * i) + 0, 16, 0⟩

/-- R549: `FP_XFERS` [8:0]. -/
def FP_XFERS.INUSE (i : Nat) : Field := ⟨32 * (0x9112C + 0x40 * i) + 0, 9, 0⟩

/-- R550: `FW_CFG` [31]. -/
def FW_CFG.EN (i : Nat) : Field := ⟨32 * (0x91200 + 0x20 * i) + 31, 1, 0⟩
/-- R550: `FW_CFG` [30]. -/
def FW_CFG.PUT (i : Nat) : Field := ⟨32 * (0x91200 + 0x20 * i) + 30, 1, 0⟩
/-- R550: `FW_CFG` [29]. -/
def FW_CFG.GET (i : Nat) : Field := ⟨32 * (0x91200 + 0x20 * i) + 29, 1, 0⟩
/-- R550: `FW_CFG` [28]. -/
def FW_CFG.REJ (i : Nat) : Field := ⟨32 * (0x91200 + 0x20 * i) + 28, 1, 0⟩

/-- R550: `FW_BASE_LO` [31:12]. -/
def FW_BASE_LO.ADDR (i : Nat) : Field := ⟨32 * (0x91204 + 0x20 * i) + 12, 20, 0⟩

/-- R550: `FW_BASE_HI` [7:0]. -/
def FW_BASE_HI.ADDR (i : Nat) : Field := ⟨32 * (0x91208 + 0x20 * i) + 0, 8, 0⟩

/-- R550: `FW_SIZE` [31:0]. -/
def FW_SIZE.PAGES (i : Nat) : Field := ⟨32 * (0x9120C + 0x20 * i) + 0, 32, 0⟩

/-- R550: `FW_WKEY` [31:0]. -/
def FW_WKEY.WKEY (i : Nat) : Field := ⟨32 * (0x91210 + 0x20 * i) + 0, 32, 0⟩

/-- R551: `FAB_KEY_DATA` [31:0]. -/
def FAB_KEY_DATA.DATA (i : Nat) : Field := ⟨32 * (0x91400 + 4 * i) + 0, 32, 0⟩

/-- R551: `FAB_KEY_CTL` [31]. -/
def FAB_KEY_CTL.LOAD : Field := ⟨0x122841f, 1, 0⟩
/-- R551: `FAB_KEY_CTL` [30]. -/
def FAB_KEY_CTL.CLEAR : Field := ⟨0x122841e, 1, 0⟩
/-- R551: `FAB_KEY_CTL` [29]. -/
def FAB_KEY_CTL.REJ : Field := ⟨0x122841d, 1, 0⟩
/-- R551: `FAB_KEY_CTL` [28]. -/
def FAB_KEY_CTL.FULL1 : Field := ⟨0x122841c, 1, 0⟩
/-- R551: `FAB_KEY_CTL` [27]. -/
def FAB_KEY_CTL.FULL0 : Field := ⟨0x122841b, 1, 0⟩
/-- R551: `FAB_KEY_CTL` [0]. -/
def FAB_KEY_CTL.SLOT : Field := ⟨0x1228400, 1, 0⟩

/-- R579: `SUP_STAT` [31]. -/
def SUP_STAT.SRC : Field := ⟨0x140001f, 1, 0⟩
/-- R579: `SUP_STAT` [30]. -/
def SUP_STAT.VBAK_LOW : Field := ⟨0x140001e, 1, 0⟩
/-- R579: `SUP_STAT` [29]. -/
def SUP_STAT.LATCH : Field := ⟨0x140001d, 1, 0⟩
/-- R579: `SUP_STAT` [28]. -/
def SUP_STAT.INTLK : Field := ⟨0x140001c, 1, 0⟩
/-- R579: `SUP_STAT` [11:0]. -/
def SUP_STAT.VBAK_MV : Field := ⟨0x1400000, 12, 0⟩

/-- R579: `LUGGAGE_STATUS` [1:0]. -/
def LUGGAGE_STATUS.OUTCOME : Field := ⟨0x1400080, 2, 3⟩

/-- R580: `LUG_CTL` [31]. -/
def LUG_CTL.SEAL : Field := ⟨0x140011f, 1, 0⟩
/-- R580: `LUG_CTL` [30]. -/
def LUG_CTL.SEALED : Field := ⟨0x140011e, 1, 0⟩
/-- R580: `LUG_CTL` [29]. -/
def LUG_CTL.REJ : Field := ⟨0x140011d, 1, 0⟩

/-- R580: `LUG_ADDR` [20:2]. -/
def LUG_ADDR.ADDR : Field := ⟨0x1400182, 19, 0⟩

/-- R580: `LUG_DATA` [31:0]. -/
def LUG_DATA.DATA : Field := ⟨0x1400200, 32, 0⟩

/-- R581: `RTC_SEC_LO` [31:0]. -/
def RTC_SEC_LO.SEC : Field := ⟨0x1402000, 32, 0⟩

/-- R581: `RTC_SEC_HI` [7:0]. -/
def RTC_SEC_HI.SEC : Field := ⟨0x1402080, 8, 0⟩

/-- R581: `RTC_SUB` [19:0]. -/
def RTC_SUB.SUB : Field := ⟨0x1402100, 20, 0⟩

/-- R581: `RTC_DATE` [31:20]. -/
def RTC_DATE.YEAR : Field := ⟨0x1402194, 12, 2000⟩
/-- R581: `RTC_DATE` [19:16]. -/
def RTC_DATE.MONTH : Field := ⟨0x1402190, 4, 1⟩
/-- R581: `RTC_DATE` [15:11]. -/
def RTC_DATE.DAY : Field := ⟨0x140218b, 5, 1⟩
/-- R581: `RTC_DATE` [10:8]. -/
def RTC_DATE.WDAY : Field := ⟨0x1402188, 3, 6⟩

/-- R581: `RTC_TIME` [20:16]. -/
def RTC_TIME.HOUR : Field := ⟨0x1402210, 5, 0⟩
/-- R581: `RTC_TIME` [13:8]. -/
def RTC_TIME.MIN : Field := ⟨0x1402208, 6, 0⟩
/-- R581: `RTC_TIME` [5:0]. -/
def RTC_TIME.SEC : Field := ⟨0x1402200, 6, 0⟩

/-- R581: `CAL_SET_DATE` [31:20]. -/
def CAL_SET_DATE.YEAR : Field := ⟨0x1402294, 12, 0⟩
/-- R581: `CAL_SET_DATE` [19:16]. -/
def CAL_SET_DATE.MONTH : Field := ⟨0x1402290, 4, 0⟩
/-- R581: `CAL_SET_DATE` [15:11]. -/
def CAL_SET_DATE.DAY : Field := ⟨0x140228b, 5, 0⟩
/-- R581: `CAL_SET_DATE` [10:8]. -/
def CAL_SET_DATE.WDAY : Field := ⟨0x1402288, 3, 0⟩

/-- R581: `CAL_SET_TIME` [20:16]. -/
def CAL_SET_TIME.HOUR : Field := ⟨0x1402310, 5, 0⟩
/-- R581: `CAL_SET_TIME` [13:8]. -/
def CAL_SET_TIME.MIN : Field := ⟨0x1402308, 6, 0⟩
/-- R581: `CAL_SET_TIME` [5:0]. -/
def CAL_SET_TIME.SEC : Field := ⟨0x1402300, 6, 0⟩

/-- R581: `RTC_CTL` [31]. -/
def RTC_CTL.CAL_COMMIT : Field := ⟨0x140239f, 1, 0⟩

/-- R581: `RTC_STAT` [31]. -/
def RTC_STAT.VALID : Field := ⟨0x140241f, 1, 0⟩
/-- R581: `RTC_STAT` [30]. -/
def RTC_STAT.CAL_LIMIT : Field := ⟨0x140241e, 1, 0⟩
/-- R581: `RTC_STAT` [29]. -/
def RTC_STAT.CAL_REJECT : Field := ⟨0x140241d, 1, 0⟩
/-- R581: `RTC_STAT` [28]. -/
def RTC_STAT.RUNNING : Field := ⟨0x140241c, 1, 0⟩

/-- R578: `PWR_REQ` [1:0]. -/
def PWR_REQ.REQ (i : Nat) : Field := ⟨32 * (0xA1000 + 4 * i) + 0, 2, pwrReset i⟩

/-- R578: `PWR_STAT` [31:30]. -/
def PWR_STAT.STATE (i : Nat) : Field := ⟨32 * (0xA1400 + 4 * i) + 30, 2, pwrReset i⟩
/-- R578: `PWR_STAT` [29]. -/
def PWR_STAT.BUSY (i : Nat) : Field := ⟨32 * (0xA1400 + 4 * i) + 29, 1, 0⟩
/-- R578: `PWR_STAT` [28]. -/
def PWR_STAT.REJ (i : Nat) : Field := ⟨32 * (0xA1400 + 4 * i) + 28, 1, 0⟩
/-- R578: `PWR_STAT` [27]. -/
def PWR_STAT.FAIL (i : Nat) : Field := ⟨32 * (0xA1400 + 4 * i) + 27, 1, 0⟩
/-- R578: `PWR_STAT` [26:24]. -/
def PWR_STAT.FAIL_STAGE (i : Nat) : Field := ⟨32 * (0xA1400 + 4 * i) + 24, 3, 0⟩
/-- R578: `PWR_STAT` [23:20]. -/
def PWR_STAT.RDY (i : Nat) : Field := ⟨32 * (0xA1400 + 4 * i) + 20, 4, pwrReset i * 7 + pwrReset i / 2⟩
/-- R578: `PWR_STAT` [15:0]. -/
def PWR_STAT.ABORTS (i : Nat) : Field := ⟨32 * (0xA1400 + 4 * i) + 0, 16, 0⟩

/-- R595: `ST_CTL` [31]. -/
def ST_CTL.RESTART_FULL : Field := ⟨0x160001f, 1, 0⟩
/-- R595: `ST_CTL` [30]. -/
def ST_CTL.NEXT_FULL : Field := ⟨0x160001e, 1, 0⟩
/-- R595: `ST_CTL` [29]. -/
def ST_CTL.REJ : Field := ⟨0x160001d, 1, 0⟩

/-- R596: `ST_STAT` [31:30]. -/
def ST_STAT.START : Field := ⟨0x160009e, 2, 1⟩
/-- R596: `ST_STAT` [29:27]. -/
def ST_STAT.WHY_FULL : Field := ⟨0x160009b, 3, 1⟩
/-- R596: `ST_STAT` [26]. -/
def ST_STAT.FAIL_SYS : Field := ⟨0x160009a, 1, 0⟩
/-- R596: `ST_STAT` [25]. -/
def ST_STAT.FAIL_PCIE : Field := ⟨0x1600099, 1, 0⟩
/-- R596: `ST_STAT` [24]. -/
def ST_STAT.MBIST_FAIL : Field := ⟨0x1600098, 1, 0⟩
/-- R596: `ST_STAT` [15:0]. -/
def ST_STAT.START_MS : Field := ⟨0x1600080, 16, 929⟩

/-- R596: `ST_ENV` [31:16]. -/
def ST_ENV.REF_PPM : Field := ⟨0x1600110, 16, 0⟩
/-- R596: `ST_ENV` [15:0]. -/
def ST_ENV.VDD_MV : Field := ⟨0x1600100, 16, 0⟩

/-- R596: `ST_REC` [31]. -/
def ST_REC.PRESENT : Field := ⟨0x160019f, 1, 0⟩
/-- R596: `ST_REC` [30]. -/
def ST_REC.PASS : Field := ⟨0x160019e, 1, 0⟩
/-- R596: `ST_REC` [29]. -/
def ST_REC.RESTORE_FAIL : Field := ⟨0x160019d, 1, 0⟩

/-- R612: `LEDGER_CTL` [31]. -/
def LEDGER_CTL.EN : Field := ⟨0x180001f, 1, 0⟩
/-- R612: `LEDGER_CTL` [30]. -/
def LEDGER_CTL.IRQ_EN : Field := ⟨0x180001e, 1, 0⟩
/-- R612: `LEDGER_CTL` [26:16]. -/
def LEDGER_CTL.VECTOR : Field := ⟨0x1800010, 11, 0⟩
/-- R612: `LEDGER_CTL` [15:0]. -/
def LEDGER_CTL.HOLD : Field := ⟨0x1800000, 16, 100⟩

/-- R612: `LEDGER_BASE_LO` [31:12]. -/
def LEDGER_BASE_LO.ADDR : Field := ⟨0x180008c, 20, 0⟩

/-- R612: `LEDGER_BASE_HI` [31:0]. -/
def LEDGER_BASE_HI.ADDR : Field := ⟨0x1800100, 32, 0⟩

/-- R613: `LEDGER_SIZE` [20:0]. -/
def LEDGER_SIZE.SIZE : Field := ⟨0x1800180, 21, 256⟩

/-- R613: `LEDGER_HEAD` [19:0]. -/
def LEDGER_HEAD.HEAD : Field := ⟨0x1800200, 20, 0⟩

/-- R613: `LEDGER_TAIL` [20]. -/
def LEDGER_TAIL.PHASE : Field := ⟨0x1800294, 1, 0⟩
/-- R613: `LEDGER_TAIL` [19:0]. -/
def LEDGER_TAIL.TAIL : Field := ⟨0x1800280, 20, 0⟩

/-- R614: `LEDGER_STAT` [31]. -/
def LEDGER_STAT.OVERRUN : Field := ⟨0x180031f, 1, 0⟩
/-- R614: `LEDGER_STAT` [30]. -/
def LEDGER_STAT.BAD_HEAD : Field := ⟨0x180031e, 1, 0⟩
/-- R614: `LEDGER_STAT` [29]. -/
def LEDGER_STAT.EARLY_LOST : Field := ⟨0x180031d, 1, 0⟩
/-- R614: `LEDGER_STAT` [28]. -/
def LEDGER_STAT.FULL : Field := ⟨0x180031c, 1, 0⟩
/-- R614: `LEDGER_STAT` [27]. -/
def LEDGER_STAT.CFG_REJ : Field := ⟨0x180031b, 1, 0⟩
/-- R614: `LEDGER_STAT` [24:16]. -/
def LEDGER_STAT.SLOTS : Field := ⟨0x1800310, 9, 0⟩

/-- R614: `LEDGER_DROPS` [31:0]. -/
def LEDGER_DROPS.DROPS : Field := ⟨0x1800380, 32, 0⟩

/-- R614: `LEDGER_COAL` [31:0]. -/
def LEDGER_COAL.COAL : Field := ⟨0x1800400, 32, 0⟩

/-- R614: `LEDGER_SEQ` [30:0]. -/
def LEDGER_SEQ.SEQ : Field := ⟨0x1800480, 31, 1⟩

/-- R615: `GTRC_CTL` [20:16]. -/
def GTRC_CTL.STREAMS : Field := ⟨0x1802010, 5, 1⟩
/-- R615: `GTRC_CTL` [6:0]. -/
def GTRC_CTL.BAY : Field := ⟨0x1802000, 7, 0⟩

/-- R615: `GTRC_ARM` [31]. -/
def GTRC_ARM.ARM : Field := ⟨0x180209f, 1, 0⟩
/-- R615: `GTRC_ARM` [30]. -/
def GTRC_ARM.FORCE : Field := ⟨0x180209e, 1, 0⟩
/-- R615: `GTRC_ARM` [28:24]. -/
def GTRC_ARM.TRIG_MASK : Field := ⟨0x1802098, 5, 0⟩
/-- R615: `GTRC_ARM` [7:0]. -/
def GTRC_ARM.FORCE_PRE : Field := ⟨0x1802080, 8, 0⟩

/-- R615: `GTRC_STAT` [31]. -/
def GTRC_STAT.ACTIVE : Field := ⟨0x180211f, 1, 0⟩
/-- R615: `GTRC_STAT` [30]. -/
def GTRC_STAT.TRIGGERED : Field := ⟨0x180211e, 1, 0⟩
/-- R615: `GTRC_STAT` [29]. -/
def GTRC_STAT.DONE : Field := ⟨0x180211d, 1, 0⟩
/-- R615: `GTRC_STAT` [27:14]. -/
def GTRC_STAT.FIRST : Field := ⟨0x180210e, 14, 0⟩
/-- R615: `GTRC_STAT` [13:0]. -/
def GTRC_STAT.TRIG_IDX : Field := ⟨0x1802100, 14, 0⟩

/-- R615: `GTRC_PAGE` [3:0]. -/
def GTRC_PAGE.PAGE : Field := ⟨0x1802180, 4, 0⟩

/-- R615: `GTRC_LOST` [31:0]. -/
def GTRC_LOST.LOST : Field := ⟨0x1802200, 32, 0⟩

/-- R616: `GTRC_CMP` [31]. -/
def GTRC_CMP.EN (i : Nat) : Field := ⟨32 * (0xC0120 + 8 * i) + 31, 1, 0⟩
/-- R616: `GTRC_CMP` [30:28]. -/
def GTRC_CMP.STREAM (i : Nat) : Field := ⟨32 * (0xC0120 + 8 * i) + 28, 3, 0⟩
/-- R616: `GTRC_CMP` [27]. -/
def GTRC_CMP.STREAM_ANY (i : Nat) : Field := ⟨32 * (0xC0120 + 8 * i) + 27, 1, 0⟩
/-- R616: `GTRC_CMP` [23:16]. -/
def GTRC_CMP.SOURCE (i : Nat) : Field := ⟨32 * (0xC0120 + 8 * i) + 16, 8, 0⟩
/-- R616: `GTRC_CMP` [15:0]. -/
def GTRC_CMP.CODE (i : Nat) : Field := ⟨32 * (0xC0120 + 8 * i) + 0, 16, 0⟩

/-- R616: `GTRC_MASK` [31:24]. -/
def GTRC_MASK.PRE (i : Nat) : Field := ⟨32 * (0xC0124 + 8 * i) + 24, 8, 0⟩
/-- R616: `GTRC_MASK` [23:16]. -/
def GTRC_MASK.SRC_MASK (i : Nat) : Field := ⟨32 * (0xC0124 + 8 * i) + 16, 8, 0⟩
/-- R616: `GTRC_MASK` [15:0]. -/
def GTRC_MASK.CODE_MASK (i : Nat) : Field := ⟨32 * (0xC0124 + 8 * i) + 0, 16, 0⟩

/-- R514: `CS_CTL` [31]. -/
def CS_CTL.LOAD (i : Nat) : Field := ⟨32 * (0xD0000 + 0x100 * i) + 31, 1, 0⟩
/-- R514: `CS_CTL` [30]. -/
def CS_CTL.VERIFY (i : Nat) : Field := ⟨32 * (0xD0000 + 0x100 * i) + 30, 1, 0⟩
/-- R514: `CS_CTL` [29]. -/
def CS_CTL.ACTIVATE (i : Nat) : Field := ⟨32 * (0xD0000 + 0x100 * i) + 29, 1, 0⟩
/-- R514: `CS_CTL` [28]. -/
def CS_CTL.CONFIRM (i : Nat) : Field := ⟨32 * (0xD0000 + 0x100 * i) + 28, 1, 0⟩
/-- R514: `CS_CTL` [27]. -/
def CS_CTL.REVERT (i : Nat) : Field := ⟨32 * (0xD0000 + 0x100 * i) + 27, 1, 0⟩
/-- R514: `CS_CTL` [0]. -/
def CS_CTL.BANK (i : Nat) : Field := ⟨32 * (0xD0000 + 0x100 * i) + 0, 1, 0⟩

/-- R514: `CS_SRC_LO` [31:6]. -/
def CS_SRC_LO.ADDR (i : Nat) : Field := ⟨32 * (0xD0004 + 0x100 * i) + 6, 26, 0⟩

/-- R514: `CS_SRC_HI` [7:0]. -/
def CS_SRC_HI.ADDR (i : Nat) : Field := ⟨32 * (0xD0008 + 0x100 * i) + 0, 8, 0⟩

/-- R515: `CS_STAT` [31:29]. -/
def CS_STAT.STATE_B (i : Nat) : Field := ⟨32 * (0xD000C + 0x100 * i) + 29, 3, 0⟩
/-- R515: `CS_STAT` [28:26]. -/
def CS_STAT.STATE_A (i : Nat) : Field := ⟨32 * (0xD000C + 0x100 * i) + 26, 3, 0⟩
/-- R515: `CS_STAT` [25:24]. -/
def CS_STAT.UPD (i : Nat) : Field := ⟨32 * (0xD000C + 0x100 * i) + 24, 2, 0⟩
/-- R515: `CS_STAT` [23]. -/
def CS_STAT.CONFIRMED (i : Nat) : Field := ⟨32 * (0xD000C + 0x100 * i) + 23, 1, 0⟩
/-- R515: `CS_STAT` [22]. -/
def CS_STAT.REVERTED (i : Nat) : Field := ⟨32 * (0xD000C + 0x100 * i) + 22, 1, 0⟩
/-- R515: `CS_STAT` [21]. -/
def CS_STAT.REJ (i : Nat) : Field := ⟨32 * (0xD000C + 0x100 * i) + 21, 1, 0⟩
/-- R515: `CS_STAT` [20:16]. -/
def CS_STAT.REASON (i : Nat) : Field := ⟨32 * (0xD000C + 0x100 * i) + 16, 5, 0⟩
/-- R515: `CS_STAT` [15:8]. -/
def CS_STAT.SWITCHED (i : Nat) : Field := ⟨32 * (0xD000C + 0x100 * i) + 8, 8, 0⟩

/-- R516: `USTORE_SEL` [15:8]. -/
def USTORE_SEL.PREV (i : Nat) : Field := ⟨32 * (0xD0010 + 0x100 * i) + 8, 8, 0⟩
/-- R516: `USTORE_SEL` [7:0]. -/
def USTORE_SEL.BANK (i : Nat) : Field := ⟨32 * (0xD0010 + 0x100 * i) + 0, 8, 0⟩

/-- R516: `CS_TMO` [31:16]. -/
def CS_TMO.CONFIRM_TMO (i : Nat) : Field := ⟨32 * (0xD0014 + 0x100 * i) + 16, 16, 30⟩
/-- R516: `CS_TMO` [15:0]. -/
def CS_TMO.ACT_TMO (i : Nat) : Field := ⟨32 * (0xD0014 + 0x100 * i) + 0, 16, 100⟩

/-- R516: `CS_ERR` [31:16]. -/
def CS_ERR.CORR (i : Nat) : Field := ⟨32 * (0xD0018 + 0x100 * i) + 16, 16, 0⟩
/-- R516: `CS_ERR` [15:0]. -/
def CS_ERR.UNCORR (i : Nat) : Field := ⟨32 * (0xD0018 + 0x100 * i) + 0, 16, 0⟩

/-- R516: `CS_BAD` [31]. -/
def CS_BAD.VALID (i : Nat) : Field := ⟨32 * (0xD001C + 0x100 * i) + 31, 1, 0⟩
/-- R516: `CS_BAD` [15]. -/
def CS_BAD.BANK (i : Nat) : Field := ⟨32 * (0xD001C + 0x100 * i) + 15, 1, 0⟩
/-- R516: `CS_BAD` [14:0]. -/
def CS_BAD.ADDR (i : Nat) : Field := ⟨32 * (0xD001C + 0x100 * i) + 0, 15, 0⟩

/-- R517: `HOOK_LO` [31:0]. -/
def HOOK_LO.MASK (i j : Nat) : Field := ⟨32 * (0xD0020 + 0x100 * i + 8 * j) + 0, 32, 0⟩

/-- R517: `HOOK_HI` [31:0]. -/
def HOOK_HI.MASK (i j : Nat) : Field := ⟨32 * (0xD0024 + 0x100 * i + 8 * j) + 0, 32, 0⟩

/-- R517: `VREV` [31:0]. -/
def VREV.VENDOR_REV (i j : Nat) : Field := ⟨32 * (0xD0030 + 0x100 * i + 4 * j) + 0, 32, 0⟩

/-- R517: `STATE_FMT` [31:16]. -/
def STATE_FMT.FMT_B (i : Nat) : Field := ⟨32 * (0xD0038 + 0x100 * i) + 16, 16, 0⟩
/-- R517: `STATE_FMT` [15:0]. -/
def STATE_FMT.FMT_A (i : Nat) : Field := ⟨32 * (0xD0038 + 0x100 * i) + 0, 16, 0⟩

/-- R518: `SEQ_CTL` [31]. -/
def SEQ_CTL.RELEASE (i : Nat) : Field := ⟨32 * (0xD1000 + 0x80 * i) + 31, 1, 0⟩
/-- R518: `SEQ_CTL` [30]. -/
def SEQ_CTL.RESET (i : Nat) : Field := ⟨32 * (0xD1000 + 0x80 * i) + 30, 1, 0⟩
/-- R518: `SEQ_CTL` [29]. -/
def SEQ_CTL.HALT (i : Nat) : Field := ⟨32 * (0xD1000 + 0x80 * i) + 29, 1, 0⟩
/-- R518: `SEQ_CTL` [28]. -/
def SEQ_CTL.STEP (i : Nat) : Field := ⟨32 * (0xD1000 + 0x80 * i) + 28, 1, 0⟩
/-- R518: `SEQ_CTL` [27]. -/
def SEQ_CTL.RESUME (i : Nat) : Field := ⟨32 * (0xD1000 + 0x80 * i) + 27, 1, 0⟩
/-- R518: `SEQ_CTL` [26]. -/
def SEQ_CTL.REJ (i : Nat) : Field := ⟨32 * (0xD1000 + 0x80 * i) + 26, 1, 0⟩

/-- R518: `SEQ_STAT` [31:30]. -/
def SEQ_STAT.STATE (i : Nat) : Field := ⟨32 * (0xD1004 + 0x80 * i) + 30, 2, 0⟩
/-- R518: `SEQ_STAT` [29]. -/
def SEQ_STAT.FRAME_BUSY (i : Nat) : Field := ⟨32 * (0xD1004 + 0x80 * i) + 29, 1, 0⟩
/-- R518: `SEQ_STAT` [28]. -/
def SEQ_STAT.BANK (i : Nat) : Field := ⟨32 * (0xD1004 + 0x80 * i) + 28, 1, 0⟩
/-- R518: `SEQ_STAT` [27:24]. -/
def SEQ_STAT.SP (i : Nat) : Field := ⟨32 * (0xD1004 + 0x80 * i) + 24, 4, 0⟩
/-- R518: `SEQ_STAT` [23:19]. -/
def SEQ_STAT.LAST_CAUSE (i : Nat) : Field := ⟨32 * (0xD1004 + 0x80 * i) + 19, 5, 0⟩
/-- R518: `SEQ_STAT` [18]. -/
def SEQ_STAT.DOUBLE (i : Nat) : Field := ⟨32 * (0xD1004 + 0x80 * i) + 18, 1, 0⟩
/-- R518: `SEQ_STAT` [14:0]. -/
def SEQ_STAT.UPC (i : Nat) : Field := ⟨32 * (0xD1004 + 0x80 * i) + 0, 15, 0⟩

/-- R518: `SEQ_TRAPS` [31:16]. -/
def SEQ_TRAPS.TRAPS (i : Nat) : Field := ⟨32 * (0xD1008 + 0x80 * i) + 16, 16, 0⟩
/-- R518: `SEQ_TRAPS` [15:0]. -/
def SEQ_TRAPS.HOOK_FAULTS (i : Nat) : Field := ⟨32 * (0xD1008 + 0x80 * i) + 0, 16, 0⟩

/-- R495: `SEQ_FRAME` [31:0]. -/
def SEQ_FRAME.DATA (i j : Nat) : Field := ⟨32 * (0xD1040 + 0x80 * i + 4 * j) + 0, 32, 0⟩

/-- R519: `BAY_SEQ` [31]. -/
def BAY_SEQ.GO (i : Nat) : Field := ⟨32 * (0xD2000 + 4 * i) + 31, 1, 0⟩
/-- R519: `BAY_SEQ` [30]. -/
def BAY_SEQ.REJ (i : Nat) : Field := ⟨32 * (0xD2000 + 4 * i) + 30, 1, 0⟩
/-- R519: `BAY_SEQ` [23:19]. -/
def BAY_SEQ.CUR_SEQ (i : Nat) : Field := ⟨32 * (0xD2000 + 4 * i) + 19, 5, i / 4⟩
/-- R519: `BAY_SEQ` [18:16]. -/
def BAY_SEQ.CUR_POS (i : Nat) : Field := ⟨32 * (0xD2000 + 4 * i) + 16, 3, i % 4⟩
/-- R519: `BAY_SEQ` [12:8]. -/
def BAY_SEQ.SEQ (i : Nat) : Field := ⟨32 * (0xD2000 + 4 * i) + 8, 5, i / 4⟩
/-- R519: `BAY_SEQ` [2:0]. -/
def BAY_SEQ.POS (i : Nat) : Field := ⟨32 * (0xD2000 + 4 * i) + 0, 3, i % 4⟩

/-- R519: `SEQ_UNIT` [4:0]. -/
def SEQ_UNIT.SEQ : Field := ⟨0x1a44000, 5, 0⟩

/-- R24: `STATE` [31:24]. -/
def STATE.CHG_COUNT (i : Nat) : Field := ⟨32 * (0x1000000 + 0x10000 * i) + 24, 8, 0⟩
/-- R24: `STATE` [15:8]. -/
def STATE.PREV (i : Nat) : Field := ⟨32 * (0x1000000 + 0x10000 * i) + 8, 8, 1⟩
/-- R24: `STATE` [7:0]. -/
def STATE.STATE (i : Nat) : Field := ⟨32 * (0x1000000 + 0x10000 * i) + 0, 8, 1⟩

/-- R589: `BAY_CTL` [31]. -/
def BAY_CTL.ENABLE (i : Nat) : Field := ⟨32 * (0x1000004 + 0x10000 * i) + 31, 1, 0⟩
/-- R589: `BAY_CTL` [30]. -/
def BAY_CTL.REJ (i : Nat) : Field := ⟨32 * (0x1000004 + 0x10000 * i) + 30, 1, 0⟩
/-- R589: `BAY_CTL` [7]. -/
def BAY_CTL.SUSP (i : Nat) : Field := ⟨32 * (0x1000004 + 0x10000 * i) + 7, 1, 0⟩
/-- R589: `BAY_CTL` [6]. -/
def BAY_CTL.MODE (i : Nat) : Field := ⟨32 * (0x1000004 + 0x10000 * i) + 6, 1, 0⟩
/-- R589: `BAY_CTL` [5]. -/
def BAY_CTL.CADDY (i : Nat) : Field := ⟨32 * (0x1000004 + 0x10000 * i) + 5, 1, 1⟩
/-- R589: `BAY_CTL` [4]. -/
def BAY_CTL.SEQ (i : Nat) : Field := ⟨32 * (0x1000004 + 0x10000 * i) + 4, 1, 1⟩
/-- R589: `BAY_CTL` [3]. -/
def BAY_CTL.ZT (i : Nat) : Field := ⟨32 * (0x1000004 + 0x10000 * i) + 3, 1, 1⟩
/-- R589: `BAY_CTL` [2]. -/
def BAY_CTL.PARAMS (i : Nat) : Field := ⟨32 * (0x1000004 + 0x10000 * i) + 2, 1, 1⟩
/-- R589: `BAY_CTL` [1]. -/
def BAY_CTL.TABLES (i : Nat) : Field := ⟨32 * (0x1000004 + 0x10000 * i) + 1, 1, 1⟩
/-- R589: `BAY_CTL` [0]. -/
def BAY_CTL.LOOPS (i : Nat) : Field := ⟨32 * (0x1000004 + 0x10000 * i) + 0, 1, 1⟩

/-- R77: `LINK_CTL` [31]. -/
def LINK_CTL.WITHDRAW (i : Nat) : Field := ⟨32 * (0x1000040 + 0x10000 * i) + 31, 1, 0⟩
/-- R77: `LINK_CTL` [30]. -/
def LINK_CTL.BAY_RESET (i : Nat) : Field := ⟨32 * (0x1000040 + 0x10000 * i) + 30, 1, 0⟩
/-- R77: `LINK_CTL` [25:16]. -/
def LINK_CTL.DRAIN_TMO (i : Nat) : Field := ⟨32 * (0x1000040 + 0x10000 * i) + 16, 10, 20⟩
/-- R77: `LINK_CTL` [13:12]. -/
def LINK_CTL.ADC_RATE (i : Nat) : Field := ⟨32 * (0x1000040 + 0x10000 * i) + 12, 2, 0⟩
/-- R77: `LINK_CTL` [9:0]. -/
def LINK_CTL.TRAIN_TMO (i : Nat) : Field := ⟨32 * (0x1000040 + 0x10000 * i) + 0, 10, 50⟩

/-- R78: `LINK_STAT` [31]. -/
def LINK_STAT.PRESENT (i : Nat) : Field := ⟨32 * (0x1000044 + 0x10000 * i) + 31, 1, 0⟩
/-- R78: `LINK_STAT` [30]. -/
def LINK_STAT.BLOCK_LOCK (i : Nat) : Field := ⟨32 * (0x1000044 + 0x10000 * i) + 30, 1, 0⟩
/-- R78: `LINK_STAT` [29]. -/
def LINK_STAT.UP (i : Nat) : Field := ⟨32 * (0x1000044 + 0x10000 * i) + 29, 1, 0⟩
/-- R78: `LINK_STAT` [28]. -/
def LINK_STAT.LOFF (i : Nat) : Field := ⟨32 * (0x1000044 + 0x10000 * i) + 28, 1, 0⟩
/-- R78: `LINK_STAT` [27]. -/
def LINK_STAT.WD_REJ (i : Nat) : Field := ⟨32 * (0x1000044 + 0x10000 * i) + 27, 1, 0⟩
/-- R78: `LINK_STAT` [23:16]. -/
def LINK_STAT.FE_REV (i : Nat) : Field := ⟨32 * (0x1000044 + 0x10000 * i) + 16, 8, 0⟩
/-- R78: `LINK_STAT` [15:0]. -/
def LINK_STAT.LOSS_COUNT (i : Nat) : Field := ⟨32 * (0x1000044 + 0x10000 * i) + 0, 16, 0⟩

/-- R79: `LINK_ERR` [31:16]. -/
def LINK_ERR.CRC_UP (i : Nat) : Field := ⟨32 * (0x1000048 + 0x10000 * i) + 16, 16, 0⟩
/-- R79: `LINK_ERR` [15:0]. -/
def LINK_ERR.SEQ_GAP (i : Nat) : Field := ⟨32 * (0x1000048 + 0x10000 * i) + 0, 16, 0⟩

/-- R79: `LINK_RTT` [19:0]. -/
def LINK_RTT.RTT (i : Nat) : Field := ⟨32 * (0x100004C + 0x10000 * i) + 0, 20, 0⟩

/-- R80: `FE_TEMP` [31]. -/
def FE_TEMP.VALID (i : Nat) : Field := ⟨32 * (0x1000050 + 0x10000 * i) + 31, 1, 0⟩
/-- R80: `FE_TEMP` [15:0]. -/
def FE_TEMP.TEMP (i : Nat) : Field := ⟨32 * (0x1000050 + 0x10000 * i) + 0, 16, 0⟩

/-- R80: `FE_ALERT` [11:0]. -/
def FE_ALERT.ALERT (i : Nat) : Field := ⟨32 * (0x1000054 + 0x10000 * i) + 0, 12, 0⟩

/-- R81: `FE_ACC` [31]. -/
def FE_ACC.GO (i : Nat) : Field := ⟨32 * (0x1000058 + 0x10000 * i) + 31, 1, 0⟩
/-- R81: `FE_ACC` [30]. -/
def FE_ACC.WRITE (i : Nat) : Field := ⟨32 * (0x1000058 + 0x10000 * i) + 30, 1, 0⟩
/-- R81: `FE_ACC` [29]. -/
def FE_ACC.ERR (i : Nat) : Field := ⟨32 * (0x1000058 + 0x10000 * i) + 29, 1, 0⟩
/-- R81: `FE_ACC` [15:0]. -/
def FE_ACC.ADDR (i : Nat) : Field := ⟨32 * (0x1000058 + 0x10000 * i) + 0, 16, 0⟩

/-- R81: `FE_DATA` [31:0]. -/
def FE_DATA.DATA (i : Nat) : Field := ⟨32 * (0x100005C + 0x10000 * i) + 0, 32, 0⟩

/-- R104: `ANG_CTL` [27:24]. -/
def ANG_CTL.TKI_SHIFT (i : Nat) : Field := ⟨32 * (0x1000080 + 0x10000 * i) + 24, 4, 4⟩
/-- R104: `ANG_CTL` [23:20]. -/
def ANG_CTL.TKP_SHIFT (i : Nat) : Field := ⟨32 * (0x1000080 + 0x10000 * i) + 20, 4, 1⟩
/-- R104: `ANG_CTL` [19:16]. -/
def ANG_CTL.KI_SHIFT (i : Nat) : Field := ⟨32 * (0x1000080 + 0x10000 * i) + 16, 4, 5⟩
/-- R104: `ANG_CTL` [15:12]. -/
def ANG_CTL.KP_SHIFT (i : Nat) : Field := ⟨32 * (0x1000080 + 0x10000 * i) + 12, 4, 2⟩
/-- R104: `ANG_CTL` [11:8]. -/
def ANG_CTL.ACQ_NEED (i : Nat) : Field := ⟨32 * (0x1000080 + 0x10000 * i) + 8, 4, 4⟩
/-- R104: `ANG_CTL` [7:0]. -/
def ANG_CTL.ACQ_TMO (i : Nat) : Field := ⟨32 * (0x1000080 + 0x10000 * i) + 0, 8, 8⟩

/-- R105: `ANG_STAT` [31:29]. -/
def ANG_STAT.STATE (i : Nat) : Field := ⟨32 * (0x1000084 + 0x10000 * i) + 29, 3, 0⟩
/-- R105: `ANG_STAT` [28]. -/
def ANG_STAT.ALIGNED (i : Nat) : Field := ⟨32 * (0x1000084 + 0x10000 * i) + 28, 1, 0⟩
/-- R105: `ANG_STAT` [27]. -/
def ANG_STAT.ACQ (i : Nat) : Field := ⟨32 * (0x1000084 + 0x10000 * i) + 27, 1, 0⟩
/-- R105: `ANG_STAT` [26]. -/
def ANG_STAT.BRIDGE (i : Nat) : Field := ⟨32 * (0x1000084 + 0x10000 * i) + 26, 1, 0⟩
/-- R105: `ANG_STAT` [23:20]. -/
def ANG_STAT.MISS_RUN (i : Nat) : Field := ⟨32 * (0x1000084 + 0x10000 * i) + 20, 4, 0⟩
/-- R105: `ANG_STAT` [19:16]. -/
def ANG_STAT.GOOD_RUN (i : Nat) : Field := ⟨32 * (0x1000084 + 0x10000 * i) + 16, 4, 0⟩
/-- R105: `ANG_STAT` [13:10]. -/
def ANG_STAT.LAYER (i : Nat) : Field := ⟨32 * (0x1000084 + 0x10000 * i) + 10, 4, 0⟩
/-- R105: `ANG_STAT` [9:0]. -/
def ANG_STAT.LAST_W (i : Nat) : Field := ⟨32 * (0x1000084 + 0x10000 * i) + 0, 10, 0⟩

/-- R106: `ANG_NOW` [31:24]. -/
def ANG_NOW.REV (i : Nat) : Field := ⟨32 * (0x1000088 + 0x10000 * i) + 24, 8, 0⟩
/-- R106: `ANG_NOW` [23:0]. -/
def ANG_NOW.ANGLE (i : Nat) : Field := ⟨32 * (0x1000088 + 0x10000 * i) + 0, 24, 0⟩

/-- R106: `ANG_RATE` [31:0]. -/
def ANG_RATE.RATE (i : Nat) : Field := ⟨32 * (0x100008C + 0x10000 * i) + 0, 32, 0⟩

/-- R107: `ANG_ERR` [31:16]. -/
def ANG_ERR.PEAK (i : Nat) : Field := ⟨32 * (0x1000090 + 0x10000 * i) + 16, 16, 0⟩
/-- R107: `ANG_ERR` [15:0]. -/
def ANG_ERR.LAST (i : Nat) : Field := ⟨32 * (0x1000090 + 0x10000 * i) + 0, 16, 0⟩

/-- R108: `ANG_MISS` [31:16]. -/
def ANG_MISS.MISSED (i : Nat) : Field := ⟨32 * (0x1000094 + 0x10000 * i) + 16, 16, 0⟩
/-- R108: `ANG_MISS` [15:0]. -/
def ANG_MISS.FALSE (i : Nat) : Field := ⟨32 * (0x1000094 + 0x10000 * i) + 0, 16, 0⟩

/-- R108: `ANG_TOOTH` [31:16]. -/
def ANG_TOOTH.SHORT (i : Nat) : Field := ⟨32 * (0x1000098 + 0x10000 * i) + 16, 16, 0⟩
/-- R108: `ANG_TOOTH` [15:0]. -/
def ANG_TOOTH.SYNTH (i : Nat) : Field := ⟨32 * (0x1000098 + 0x10000 * i) + 0, 16, 0⟩

/-- R108: `ANG_WR` [31:16]. -/
def ANG_WR.WITHHELD (i : Nat) : Field := ⟨32 * (0x100009C + 0x10000 * i) + 16, 16, 0⟩
/-- R108: `ANG_WR` [15:8]. -/
def ANG_WR.VCRIT (i : Nat) : Field := ⟨32 * (0x100009C + 0x10000 * i) + 8, 8, 0⟩
/-- R108: `ANG_WR` [7:0]. -/
def ANG_WR.ABORTED (i : Nat) : Field := ⟨32 * (0x100009C + 0x10000 * i) + 0, 8, 0⟩

/-- R132: `SRV_CTL` [23:16]. -/
def SRV_CTL.COMMIT (i : Nat) : Field := ⟨32 * (0x1000100 + 0x10000 * i) + 16, 8, 0⟩
/-- R132: `SRV_CTL` [15:8]. -/
def SRV_CTL.AUTO (i : Nat) : Field := ⟨32 * (0x1000100 + 0x10000 * i) + 8, 8, 0⟩
/-- R132: `SRV_CTL` [7:0]. -/
def SRV_CTL.EN (i : Nat) : Field := ⟨32 * (0x1000100 + 0x10000 * i) + 0, 8, 0⟩

/-- R133: `SRV_STAT` [31:24]. -/
def SRV_STAT.REC_VALID (i : Nat) : Field := ⟨32 * (0x1000104 + 0x10000 * i) + 24, 8, 0⟩
/-- R133: `SRV_STAT` [23:16]. -/
def SRV_STAT.HELD (i : Nat) : Field := ⟨32 * (0x1000104 + 0x10000 * i) + 16, 8, 0⟩
/-- R133: `SRV_STAT` [15]. -/
def SRV_STAT.DEF_HOLD (i : Nat) : Field := ⟨32 * (0x1000104 + 0x10000 * i) + 15, 1, 0⟩
/-- R133: `SRV_STAT` [14]. -/
def SRV_STAT.DEF_OVR (i : Nat) : Field := ⟨32 * (0x1000104 + 0x10000 * i) + 14, 1, 0⟩
/-- R133: `SRV_STAT` [13]. -/
def SRV_STAT.BUMP_SAT (i : Nat) : Field := ⟨32 * (0x1000104 + 0x10000 * i) + 13, 1, 0⟩
/-- R133: `SRV_STAT` [12]. -/
def SRV_STAT.EN_REJ (i : Nat) : Field := ⟨32 * (0x1000104 + 0x10000 * i) + 12, 1, 0⟩
/-- R133: `SRV_STAT` [11]. -/
def SRV_STAT.COMMIT_REJ (i : Nat) : Field := ⟨32 * (0x1000104 + 0x10000 * i) + 11, 1, 0⟩
/-- R133: `SRV_STAT` [7:0]. -/
def SRV_STAT.OUT_SAT (i : Nat) : Field := ⟨32 * (0x1000104 + 0x10000 * i) + 0, 8, 0⟩

/-- R134: `SRV_REF_RATE` [31:0]. -/
def SRV_REF_RATE.REF_RATE (i : Nat) : Field := ⟨32 * (0x1000108 + 0x10000 * i) + 0, 32, 0⟩

/-- R134: `SRV_NODE_SAT` [11:0]. -/
def SRV_NODE_SAT.FLAGS (i : Nat) : Field := ⟨32 * (0x100010C + 0x10000 * i) + 0, 12, 0⟩

/-- R135: `SRV_REP_CTL` [31]. -/
def SRV_REP_CTL.LEARN (i : Nat) : Field := ⟨32 * (0x1000110 + 0x10000 * i) + 31, 1, 0⟩
/-- R135: `SRV_REP_CTL` [30]. -/
def SRV_REP_CTL.CLEAR (i : Nat) : Field := ⟨32 * (0x1000110 + 0x10000 * i) + 30, 1, 0⟩
/-- R135: `SRV_REP_CTL` [21:16]. -/
def SRV_REP_CTL.LEAD (i : Nat) : Field := ⟨32 * (0x1000110 + 0x10000 * i) + 16, 6, 4⟩
/-- R135: `SRV_REP_CTL` [11:8]. -/
def SRV_REP_CTL.QSHIFT (i : Nat) : Field := ⟨32 * (0x1000110 + 0x10000 * i) + 8, 4, 0⟩
/-- R135: `SRV_REP_CTL` [7:0]. -/
def SRV_REP_CTL.KR (i : Nat) : Field := ⟨32 * (0x1000110 + 0x10000 * i) + 0, 8, 0⟩

/-- R135: `SRV_DEF` [31:16]. -/
def SRV_DEF.HOLD_COUNT (i : Nat) : Field := ⟨32 * (0x1000114 + 0x10000 * i) + 16, 16, 0⟩
/-- R135: `SRV_DEF` [8]. -/
def SRV_DEF.EN (i : Nat) : Field := ⟨32 * (0x1000114 + 0x10000 * i) + 8, 1, 1⟩
/-- R135: `SRV_DEF` [5:0]. -/
def SRV_DEF.HOLD_MAX (i : Nat) : Field := ⟨32 * (0x1000114 + 0x10000 * i) + 0, 6, 32⟩

/-- R136: `SRV_MAN` [31:0]. -/
def SRV_MAN.Q (i j : Nat) : Field := ⟨32 * (0x1000120 + 0x10000 * i + 4 * j) + 0, 32, 0⟩

/-- R136: `SRV_FF` [31:0]. -/
def SRV_FF.Q (i j : Nat) : Field := ⟨32 * (0x1000140 + 0x10000 * i + 4 * j) + 0, 32, 0⟩

/-- R137: `TRC_CTL` [26:24]. -/
def TRC_CTL.LOOP (i : Nat) : Field := ⟨32 * (0x1000160 + 0x10000 * i) + 24, 3, 0⟩
/-- R137: `TRC_CTL` [23:20]. -/
def TRC_CTL.DECIM (i : Nat) : Field := ⟨32 * (0x1000160 + 0x10000 * i) + 20, 4, 0⟩
/-- R137: `TRC_CTL` [19:16]. -/
def TRC_CTL.SHIFT (i : Nat) : Field := ⟨32 * (0x1000160 + 0x10000 * i) + 16, 4, 0⟩
/-- R137: `TRC_CTL` [15:12]. -/
def TRC_CTL.NODE3 (i : Nat) : Field := ⟨32 * (0x1000160 + 0x10000 * i) + 12, 4, 0⟩
/-- R137: `TRC_CTL` [11:8]. -/
def TRC_CTL.NODE2 (i : Nat) : Field := ⟨32 * (0x1000160 + 0x10000 * i) + 8, 4, 0⟩
/-- R137: `TRC_CTL` [7:4]. -/
def TRC_CTL.NODE1 (i : Nat) : Field := ⟨32 * (0x1000160 + 0x10000 * i) + 4, 4, 0⟩
/-- R137: `TRC_CTL` [3:0]. -/
def TRC_CTL.NODE0 (i : Nat) : Field := ⟨32 * (0x1000160 + 0x10000 * i) + 0, 4, 0⟩

/-- R138: `TRC_ARM` [31]. -/
def TRC_ARM.ARM (i : Nat) : Field := ⟨32 * (0x1000164 + 0x10000 * i) + 31, 1, 0⟩
/-- R138: `TRC_ARM` [30]. -/
def TRC_ARM.FORCE (i : Nat) : Field := ⟨32 * (0x1000164 + 0x10000 * i) + 30, 1, 0⟩
/-- R138: `TRC_ARM` [28:24]. -/
def TRC_ARM.TRIG_MASK (i : Nat) : Field := ⟨32 * (0x1000164 + 0x10000 * i) + 24, 5, 0⟩
/-- R138: `TRC_ARM` [7:0]. -/
def TRC_ARM.FORCE_PRE (i : Nat) : Field := ⟨32 * (0x1000164 + 0x10000 * i) + 0, 8, 0⟩

/-- R138: `TRC_STAT` [31]. -/
def TRC_STAT.ACTIVE (i : Nat) : Field := ⟨32 * (0x1000168 + 0x10000 * i) + 31, 1, 0⟩
/-- R138: `TRC_STAT` [30]. -/
def TRC_STAT.TRIGGERED (i : Nat) : Field := ⟨32 * (0x1000168 + 0x10000 * i) + 30, 1, 0⟩
/-- R138: `TRC_STAT` [29]. -/
def TRC_STAT.DONE (i : Nat) : Field := ⟨32 * (0x1000168 + 0x10000 * i) + 29, 1, 0⟩
/-- R138: `TRC_STAT` [25:13]. -/
def TRC_STAT.FIRST (i : Nat) : Field := ⟨32 * (0x1000168 + 0x10000 * i) + 13, 13, 0⟩
/-- R138: `TRC_STAT` [12:0]. -/
def TRC_STAT.TRIG_IDX (i : Nat) : Field := ⟨32 * (0x1000168 + 0x10000 * i) + 0, 13, 0⟩

/-- R139: `TRC_PAGE` [3:0]. -/
def TRC_PAGE.PAGE (i : Nat) : Field := ⟨32 * (0x100016C + 0x10000 * i) + 0, 4, 0⟩

/-- R139: `TRC_CMP` [31:16]. -/
def TRC_CMP.THR (i j : Nat) : Field := ⟨32 * (0x1000170 + 0x10000 * i + 4 * j) + 16, 16, 0⟩
/-- R139: `TRC_CMP` [15:8]. -/
def TRC_CMP.PRE (i j : Nat) : Field := ⟨32 * (0x1000170 + 0x10000 * i + 4 * j) + 8, 8, 0⟩
/-- R139: `TRC_CMP` [7:4]. -/
def TRC_CMP.NODE (i j : Nat) : Field := ⟨32 * (0x1000170 + 0x10000 * i + 4 * j) + 4, 4, 0⟩
/-- R139: `TRC_CMP` [2:0]. -/
def TRC_CMP.COND (i j : Nat) : Field := ⟨32 * (0x1000170 + 0x10000 * i + 4 * j) + 0, 3, 0⟩

/-- R141: `INF_CTL` [31]. -/
def INF_CTL.START (i : Nat) : Field := ⟨32 * (0x1000180 + 0x10000 * i) + 31, 1, 0⟩
/-- R141: `INF_CTL` [30]. -/
def INF_CTL.STOP (i : Nat) : Field := ⟨32 * (0x1000180 + 0x10000 * i) + 30, 1, 0⟩
/-- R141: `INF_CTL` [29:28]. -/
def INF_CTL.MODE (i : Nat) : Field := ⟨32 * (0x1000180 + 0x10000 * i) + 28, 2, 0⟩
/-- R141: `INF_CTL` [26:24]. -/
def INF_CTL.LOOP (i : Nat) : Field := ⟨32 * (0x1000180 + 0x10000 * i) + 24, 3, 0⟩
/-- R141: `INF_CTL` [23]. -/
def INF_CTL.POINT (i : Nat) : Field := ⟨32 * (0x1000180 + 0x10000 * i) + 23, 1, 0⟩
/-- R141: `INF_CTL` [19:16]. -/
def INF_CTL.NODE_A (i : Nat) : Field := ⟨32 * (0x1000180 + 0x10000 * i) + 16, 4, 0⟩
/-- R141: `INF_CTL` [15:12]. -/
def INF_CTL.NODE_B (i : Nat) : Field := ⟨32 * (0x1000180 + 0x10000 * i) + 12, 4, 0⟩
/-- R141: `INF_CTL` [11:8]. -/
def INF_CTL.PRBS_N (i : Nat) : Field := ⟨32 * (0x1000180 + 0x10000 * i) + 8, 4, 7⟩
/-- R141: `INF_CTL` [7:0]. -/
def INF_CTL.HOLD (i : Nat) : Field := ⟨32 * (0x1000180 + 0x10000 * i) + 0, 8, 1⟩

/-- R142: `INF_STAT` [31]. -/
def INF_STAT.BUSY (i : Nat) : Field := ⟨32 * (0x1000184 + 0x10000 * i) + 31, 1, 0⟩
/-- R142: `INF_STAT` [30]. -/
def INF_STAT.DONE (i : Nat) : Field := ⟨32 * (0x1000184 + 0x10000 * i) + 30, 1, 0⟩
/-- R142: `INF_STAT` [29]. -/
def INF_STAT.REJ (i : Nat) : Field := ⟨32 * (0x1000184 + 0x10000 * i) + 29, 1, 0⟩
/-- R142: `INF_STAT` [28]. -/
def INF_STAT.ABORT (i : Nat) : Field := ⟨32 * (0x1000184 + 0x10000 * i) + 28, 1, 0⟩
/-- R142: `INF_STAT` [27:24]. -/
def INF_STAT.CAUSE (i : Nat) : Field := ⟨32 * (0x1000184 + 0x10000 * i) + 24, 4, 0⟩
/-- R142: `INF_STAT` [23:16]. -/
def INF_STAT.STEP (i : Nat) : Field := ⟨32 * (0x1000184 + 0x10000 * i) + 16, 8, 0⟩
/-- R142: `INF_STAT` [15:0]. -/
def INF_STAT.SKIPPED (i : Nat) : Field := ⟨32 * (0x1000184 + 0x10000 * i) + 0, 16, 0⟩

/-- R143: `INF_AMP` [31:0]. -/
def INF_AMP.AMP (i : Nat) : Field := ⟨32 * (0x1000188 + 0x10000 * i) + 0, 32, 0⟩

/-- R143: `INF_START` [31:0]. -/
def INF_START.INC (i : Nat) : Field := ⟨32 * (0x100018C + 0x10000 * i) + 0, 32, 0⟩

/-- R143: `INF_STOP` [31:0]. -/
def INF_STOP.INC (i : Nat) : Field := ⟨32 * (0x1000190 + 0x10000 * i) + 0, 32, 0⟩

/-- R143: `INF_CYC` [31:24]. -/
def INF_CYC.STEPS (i : Nat) : Field := ⟨32 * (0x1000194 + 0x10000 * i) + 24, 8, 0⟩
/-- R143: `INF_CYC` [23:12]. -/
def INF_CYC.SETTLE (i : Nat) : Field := ⟨32 * (0x1000194 + 0x10000 * i) + 12, 12, 0⟩
/-- R143: `INF_CYC` [11:0]. -/
def INF_CYC.MEAS (i : Nat) : Field := ⟨32 * (0x1000194 + 0x10000 * i) + 0, 12, 0⟩

/-- R144: `INF_AI` [31:0]. -/
def INF_AI.Q (i : Nat) : Field := ⟨32 * (0x1000198 + 0x10000 * i) + 0, 32, 0⟩

/-- R144: `INF_AQ` [31:0]. -/
def INF_AQ.Q (i : Nat) : Field := ⟨32 * (0x100019C + 0x10000 * i) + 0, 32, 0⟩

/-- R144: `INF_BI` [31:0]. -/
def INF_BI.Q (i : Nat) : Field := ⟨32 * (0x10001A0 + 0x10000 * i) + 0, 32, 0⟩

/-- R144: `INF_BQ` [31:0]. -/
def INF_BQ.Q (i : Nat) : Field := ⟨32 * (0x10001A4 + 0x10000 * i) + 0, 32, 0⟩

/-- R166: `FT_CTL` [31]. -/
def FT_CTL.TABLES_OK (i : Nat) : Field := ⟨32 * (0x1000200 + 0x10000 * i) + 31, 1, 0⟩
/-- R166: `FT_CTL` [30]. -/
def FT_CTL.FALLBACK_EN (i : Nat) : Field := ⟨32 * (0x1000200 + 0x10000 * i) + 30, 1, 1⟩

/-- R167: `FOC_SRCH` [31:16]. -/
def FOC_SRCH.SRCH_HI (i : Nat) : Field := ⟨32 * (0x1000204 + 0x10000 * i) + 16, 16, 16384⟩
/-- R167: `FOC_SRCH` [15:0]. -/
def FOC_SRCH.SRCH_LO (i : Nat) : Field := ⟨32 * (0x1000204 + 0x10000 * i) + 0, 16, 49152⟩

/-- R167: `FOC_ACQ` [31:24]. -/
def FOC_ACQ.SRCH_T (i : Nat) : Field := ⟨32 * (0x1000208 + 0x10000 * i) + 24, 8, 20⟩
/-- R167: `FOC_ACQ` [23:20]. -/
def FOC_ACQ.TRIES (i : Nat) : Field := ⟨32 * (0x1000208 + 0x10000 * i) + 20, 4, 3⟩

/-- R168: `FOC_LVL` [31:16]. -/
def FOC_LVL.SUM_ON (i : Nat) : Field := ⟨32 * (0x100020C + 0x10000 * i) + 16, 16, 4096⟩
/-- R168: `FOC_LVL` [15:0]. -/
def FOC_LVL.SC_MIN (i : Nat) : Field := ⟨32 * (0x100020C + 0x10000 * i) + 0, 16, 2048⟩

/-- R168: `FOC_LOSS` [31:16]. -/
def FOC_LOSS.SUM_LOSS (i : Nat) : Field := ⟨32 * (0x1000210 + 0x10000 * i) + 16, 16, 2048⟩
/-- R168: `FOC_LOSS` [15:8]. -/
def FOC_LOSS.LOSS_N (i : Nat) : Field := ⟨32 * (0x1000210 + 0x10000 * i) + 8, 8, 8⟩

/-- R168: `FOC_NORM` [31:16]. -/
def FOC_NORM.NORM (i : Nat) : Field := ⟨32 * (0x1000214 + 0x10000 * i) + 16, 16, 16384⟩
/-- R168: `FOC_NORM` [15:0]. -/
def FOC_NORM.P_READ (i : Nat) : Field := ⟨32 * (0x1000214 + 0x10000 * i) + 0, 16, 0⟩

/-- R169: `LJ_KICK` [31:16]. -/
def LJ_KICK.AMP (i : Nat) : Field := ⟨32 * (0x1000218 + 0x10000 * i) + 16, 16, 0⟩
/-- R169: `LJ_KICK` [15:0]. -/
def LJ_KICK.KICK_T (i : Nat) : Field := ⟨32 * (0x1000218 + 0x10000 * i) + 0, 16, 0⟩

/-- R169: `LJ_BRAKE` [31:16]. -/
def LJ_BRAKE.AMP (i : Nat) : Field := ⟨32 * (0x100021C + 0x10000 * i) + 16, 16, 0⟩
/-- R169: `LJ_BRAKE` [15:0]. -/
def LJ_BRAKE.BRAKE_T (i : Nat) : Field := ⟨32 * (0x100021C + 0x10000 * i) + 0, 16, 0⟩

/-- R169: `LJ_CTL` [31:20]. -/
def LJ_CTL.CLOSE_TMO (i : Nat) : Field := ⟨32 * (0x1000220 + 0x10000 * i) + 20, 12, 500⟩
/-- R169: `LJ_CTL` [19:16]. -/
def LJ_CTL.PROBE_N (i : Nat) : Field := ⟨32 * (0x1000220 + 0x10000 * i) + 16, 4, 4⟩
/-- R169: `LJ_CTL` [15:8]. -/
def LJ_CTL.SA_START (i : Nat) : Field := ⟨32 * (0x1000220 + 0x10000 * i) + 8, 8, 50⟩
/-- R169: `LJ_CTL` [7:0]. -/
def LJ_CTL.SETTLE (i : Nat) : Field := ⟨32 * (0x1000220 + 0x10000 * i) + 0, 8, 20⟩

/-- R170: `TRK_SCALE` [31:16]. -/
def TRK_SCALE.TE_SCALE (i : Nat) : Field := ⟨32 * (0x1000224 + 0x10000 * i) + 16, 16, 120⟩
/-- R170: `TRK_SCALE` [15:8]. -/
def TRK_SCALE.TRK_OFF (i : Nat) : Field := ⟨32 * (0x1000224 + 0x10000 * i) + 8, 8, 80⟩
/-- R170: `TRK_SCALE` [7:0]. -/
def TRK_SCALE.WR_OFF (i : Nat) : Field := ⟨32 * (0x1000224 + 0x10000 * i) + 0, 8, 40⟩

/-- R170: `TRK_SIDE` [31:24]. -/
def TRK_SIDE.SIDE_LIM (i : Nat) : Field := ⟨32 * (0x1000228 + 0x10000 * i) + 24, 8, 35⟩
/-- R170: `TRK_SIDE` [9:0]. -/
def TRK_SIDE.SIDE_RUN (i : Nat) : Field := ⟨32 * (0x1000228 + 0x10000 * i) + 0, 10, 64⟩

/-- R170: `TRK_ADV` [7:0]. -/
def TRK_ADV.TJ_SETTLE (i : Nat) : Field := ⟨32 * (0x100022C + 0x10000 * i) + 0, 8, 10⟩

/-- R171: `FT_REC` [31:16]. -/
def FT_REC.REC_TMO (i : Nat) : Field := ⟨32 * (0x1000230 + 0x10000 * i) + 16, 16, 200⟩
/-- R171: `FT_REC` [3:0]. -/
def FT_REC.REC_MAX (i : Nat) : Field := ⟨32 * (0x1000230 + 0x10000 * i) + 0, 4, 4⟩

/-- R171: `FT_BIAS` [31:16]. -/
def FT_BIAS.FOC_BIAS (i : Nat) : Field := ⟨32 * (0x1000234 + 0x10000 * i) + 16, 16, 0⟩
/-- R171: `FT_BIAS` [15:0]. -/
def FT_BIAS.TILT_BIAS (i : Nat) : Field := ⟨32 * (0x1000234 + 0x10000 * i) + 0, 16, 0⟩

/-- R172: `FT_STAT` [31:30]. -/
def FT_STAT.FOCUS (i : Nat) : Field := ⟨32 * (0x1000238 + 0x10000 * i) + 30, 2, 0⟩
/-- R172: `FT_STAT` [29]. -/
def FT_STAT.SINGLE (i : Nat) : Field := ⟨32 * (0x1000238 + 0x10000 * i) + 29, 1, 0⟩
/-- R172: `FT_STAT` [27:24]. -/
def FT_STAT.LAYER (i : Nat) : Field := ⟨32 * (0x1000238 + 0x10000 * i) + 24, 4, 0⟩
/-- R172: `FT_STAT` [17:0]. -/
def FT_STAT.TRACK (i : Nat) : Field := ⟨32 * (0x1000238 + 0x10000 * i) + 0, 18, 0⟩

/-- R172: `TRK_SIDE_OFS` [31:16]. -/
def TRK_SIDE_OFS.D_O (i : Nat) : Field := ⟨32 * (0x100023C + 0x10000 * i) + 16, 16, 0⟩
/-- R172: `TRK_SIDE_OFS` [15:0]. -/
def TRK_SIDE_OFS.D_I (i : Nat) : Field := ⟨32 * (0x100023C + 0x10000 * i) + 0, 16, 0⟩

/-- R173: `TRK_FALLBACK` [15:0]. -/
def TRK_FALLBACK.LAYERS (i : Nat) : Field := ⟨32 * (0x1000240 + 0x10000 * i) + 0, 16, 0⟩

/-- R173: `FT_COUNT` [31:24]. -/
def FT_COUNT.FOC_LOSS (i : Nat) : Field := ⟨32 * (0x1000244 + 0x10000 * i) + 24, 8, 0⟩
/-- R173: `FT_COUNT` [23:16]. -/
def FT_COUNT.TRK_OFF (i : Nat) : Field := ⟨32 * (0x1000244 + 0x10000 * i) + 16, 8, 0⟩
/-- R173: `FT_COUNT` [15:8]. -/
def FT_COUNT.SLIP (i : Nat) : Field := ⟨32 * (0x1000244 + 0x10000 * i) + 8, 8, 0⟩
/-- R173: `FT_COUNT` [7:0]. -/
def FT_COUNT.WR_OFF (i : Nat) : Field := ⟨32 * (0x1000244 + 0x10000 * i) + 0, 8, 0⟩

/-- R174: `TJ_TAB` [31:24]. -/
def TJ_TAB.AMP (i j : Nat) : Field := ⟨32 * (0x1000280 + 0x10000 * i + 4 * j) + 24, 8, 0⟩
/-- R174: `TJ_TAB` [23:12]. -/
def TJ_TAB.KICK_T (i j : Nat) : Field := ⟨32 * (0x1000280 + 0x10000 * i + 4 * j) + 12, 12, 0⟩
/-- R174: `TJ_TAB` [11:0]. -/
def TJ_TAB.BRAKE_T (i j : Nat) : Field := ⟨32 * (0x1000280 + 0x10000 * i + 4 * j) + 0, 12, 0⟩

/-- R175: `SA_PRESET` [15:0]. -/
def SA_PRESET.PRESET (i j : Nat) : Field := ⟨32 * (0x10002C0 + 0x10000 * i + 4 * j) + 0, 16, 0⟩

/-- R194: `SPIN_CTL` [31]. -/
def SPIN_CTL.PARAMS_OK (i : Nat) : Field := ⟨32 * (0x1000300 + 0x10000 * i) + 31, 1, 0⟩
/-- R194: `SPIN_CTL` [30]. -/
def SPIN_CTL.DIR (i : Nat) : Field := ⟨32 * (0x1000300 + 0x10000 * i) + 30, 1, 0⟩
/-- R194: `SPIN_CTL` [29]. -/
def SPIN_CTL.DECOUPLE (i : Nat) : Field := ⟨32 * (0x1000300 + 0x10000 * i) + 29, 1, 1⟩

/-- R195: `SPIN_MOTOR` [31:16]. -/
def SPIN_MOTOR.KE_NOM (i : Nat) : Field := ⟨32 * (0x1000304 + 0x10000 * i) + 16, 16, 0⟩
/-- R195: `SPIN_MOTOR` [15:0]. -/
def SPIN_MOTOR.R_PH (i : Nat) : Field := ⟨32 * (0x1000304 + 0x10000 * i) + 0, 16, 0⟩

/-- R195: `SPIN_SENSE` [31:16]. -/
def SPIN_SENSE.ISENSE_FS (i : Nat) : Field := ⟨32 * (0x1000308 + 0x10000 * i) + 16, 16, 0⟩
/-- R195: `SPIN_SENSE` [15:0]. -/
def SPIN_SENSE.L_PH (i : Nat) : Field := ⟨32 * (0x1000308 + 0x10000 * i) + 0, 16, 0⟩

/-- R195: `SPIN_VBUS` [31:16]. -/
def SPIN_VBUS.VBUS_FS (i : Nat) : Field := ⟨32 * (0x100030C + 0x10000 * i) + 16, 16, 0⟩
/-- R195: `SPIN_VBUS` [15:0]. -/
def SPIN_VBUS.VBUS_MAX (i : Nat) : Field := ⟨32 * (0x100030C + 0x10000 * i) + 0, 16, 28672⟩

/-- R196: `SPIN_START` [31:16]. -/
def SPIN_START.ALIGN_I (i : Nat) : Field := ⟨32 * (0x1000310 + 0x10000 * i) + 16, 16, 8192⟩
/-- R196: `SPIN_START` [15:8]. -/
def SPIN_START.OBS_MIN (i : Nat) : Field := ⟨32 * (0x1000310 + 0x10000 * i) + 8, 8, 15⟩
/-- R196: `SPIN_START` [7:4]. -/
def SPIN_START.TRIES (i : Nat) : Field := ⟨32 * (0x1000310 + 0x10000 * i) + 4, 4, 3⟩

/-- R196: `SPIN_OPEN` [31:16]. -/
def SPIN_OPEN.OL_I (i : Nat) : Field := ⟨32 * (0x1000314 + 0x10000 * i) + 16, 16, 8192⟩
/-- R196: `SPIN_OPEN` [15:8]. -/
def SPIN_OPEN.ALIGN_T (i : Nat) : Field := ⟨32 * (0x1000314 + 0x10000 * i) + 8, 8, 10⟩
/-- R196: `SPIN_OPEN` [7:0]. -/
def SPIN_OPEN.OL_ACCEL (i : Nat) : Field := ⟨32 * (0x1000314 + 0x10000 * i) + 0, 8, 60⟩

/-- R196: `SPIN_RAMP` [31:16]. -/
def SPIN_RAMP.ACCEL (i : Nat) : Field := ⟨32 * (0x1000318 + 0x10000 * i) + 16, 16, 4000⟩
/-- R196: `SPIN_RAMP` [15:0]. -/
def SPIN_RAMP.DECEL (i : Nat) : Field := ⟨32 * (0x1000318 + 0x10000 * i) + 0, 16, 4000⟩

/-- R197: `SPIN_SPEED` [31:16]. -/
def SPIN_SPEED.RD_RPM (i : Nat) : Field := ⟨32 * (0x100031C + 0x10000 * i) + 16, 16, 10000⟩
/-- R197: `SPIN_SPEED` [15:0]. -/
def SPIN_SPEED.WR_RPM (i : Nat) : Field := ⟨32 * (0x100031C + 0x10000 * i) + 0, 16, 6000⟩

/-- R197: `SPIN_TOL` [31:22]. -/
def SPIN_TOL.REV_THR (i : Nat) : Field := ⟨32 * (0x1000320 + 0x10000 * i) + 22, 10, 60⟩
/-- R197: `SPIN_TOL` [21:16]. -/
def SPIN_TOL.WR_TOL (i : Nat) : Field := ⟨32 * (0x1000320 + 0x10000 * i) + 16, 6, 10⟩
/-- R197: `SPIN_TOL` [15:8]. -/
def SPIN_TOL.RD_TOL (i : Nat) : Field := ⟨32 * (0x1000320 + 0x10000 * i) + 8, 8, 20⟩
/-- R197: `SPIN_TOL` [7:0]. -/
def SPIN_TOL.KE_TOL (i : Nat) : Field := ⟨32 * (0x1000320 + 0x10000 * i) + 0, 8, 15⟩

/-- R197: `SPIN_MON` [31:24]. -/
def SPIN_MON.KE_REVS (i : Nat) : Field := ⟨32 * (0x1000324 + 0x10000 * i) + 24, 8, 50⟩
/-- R197: `SPIN_MON` [15:0]. -/
def SPIN_MON.OVS_RPM (i : Nat) : Field := ⟨32 * (0x1000324 + 0x10000 * i) + 0, 16, 10800⟩

/-- R198: `SPIN_COAST` [31:16]. -/
def SPIN_COAST.COAST_T (i : Nat) : Field := ⟨32 * (0x1000328 + 0x10000 * i) + 16, 16, 300⟩
/-- R198: `SPIN_COAST` [15:0]. -/
def SPIN_COAST.COAST_FULL_T (i : Nat) : Field := ⟨32 * (0x1000328 + 0x10000 * i) + 0, 16, 900⟩

/-- R198: `SPIN_TGT` [31:16]. -/
def SPIN_TGT.MOUNT_RPM (i : Nat) : Field := ⟨32 * (0x100032C + 0x10000 * i) + 16, 16, 4000⟩
/-- R198: `SPIN_TGT` [15:0]. -/
def SPIN_TGT.TGT (i : Nat) : Field := ⟨32 * (0x100032C + 0x10000 * i) + 0, 16, 0⟩

/-- R199: `SPIN_STAT` [31:28]. -/
def SPIN_STAT.PHASE (i : Nat) : Field := ⟨32 * (0x1000330 + 0x10000 * i) + 28, 4, 0⟩
/-- R199: `SPIN_STAT` [27]. -/
def SPIN_STAT.STOPPED (i : Nat) : Field := ⟨32 * (0x1000330 + 0x10000 * i) + 27, 1, 1⟩
/-- R199: `SPIN_STAT` [26]. -/
def SPIN_STAT.AT_SPEED (i : Nat) : Field := ⟨32 * (0x1000330 + 0x10000 * i) + 26, 1, 0⟩
/-- R199: `SPIN_STAT` [25]. -/
def SPIN_STAT.WR_OK (i : Nat) : Field := ⟨32 * (0x1000330 + 0x10000 * i) + 25, 1, 0⟩
/-- R199: `SPIN_STAT` [24]. -/
def SPIN_STAT.RAMP (i : Nat) : Field := ⟨32 * (0x1000330 + 0x10000 * i) + 24, 1, 0⟩
/-- R199: `SPIN_STAT` [23]. -/
def SPIN_STAT.PRED_HOLD (i : Nat) : Field := ⟨32 * (0x1000330 + 0x10000 * i) + 23, 1, 0⟩
/-- R199: `SPIN_STAT` [22]. -/
def SPIN_STAT.VSAT (i : Nat) : Field := ⟨32 * (0x1000330 + 0x10000 * i) + 22, 1, 0⟩
/-- R199: `SPIN_STAT` [21]. -/
def SPIN_STAT.REV_REJ (i : Nat) : Field := ⟨32 * (0x1000330 + 0x10000 * i) + 21, 1, 0⟩
/-- R199: `SPIN_STAT` [20]. -/
def SPIN_STAT.KE_ABN (i : Nat) : Field := ⟨32 * (0x1000330 + 0x10000 * i) + 20, 1, 0⟩

/-- R200: `SPIN_RPM` [31:16]. -/
def SPIN_RPM.RPM (i : Nat) : Field := ⟨32 * (0x1000334 + 0x10000 * i) + 16, 16, 0⟩
/-- R200: `SPIN_RPM` [15:0]. -/
def SPIN_RPM.REF (i : Nat) : Field := ⟨32 * (0x1000334 + 0x10000 * i) + 0, 16, 0⟩

/-- R200: `SPIN_KE` [31:16]. -/
def SPIN_KE.KE_EST (i : Nat) : Field := ⟨32 * (0x1000338 + 0x10000 * i) + 16, 16, 0⟩
/-- R200: `SPIN_KE` [15:8]. -/
def SPIN_KE.KE_RUN (i : Nat) : Field := ⟨32 * (0x1000338 + 0x10000 * i) + 8, 8, 0⟩

/-- R200: `SPIN_COUNT` [31:16]. -/
def SPIN_COUNT.PRED (i : Nat) : Field := ⟨32 * (0x100033C + 0x10000 * i) + 16, 16, 0⟩
/-- R200: `SPIN_COUNT` [15:8]. -/
def SPIN_COUNT.START_FAIL (i : Nat) : Field := ⟨32 * (0x100033C + 0x10000 * i) + 8, 8, 0⟩
/-- R200: `SPIN_COUNT` [7:0]. -/
def SPIN_COUNT.REV_REF (i : Nat) : Field := ⟨32 * (0x100033C + 0x10000 * i) + 0, 8, 0⟩

/-- R221: `SLED_TGT` [31]. -/
def SLED_TGT.GO (i : Nat) : Field := ⟨32 * (0x1000380 + 0x10000 * i) + 31, 1, 0⟩
/-- R221: `SLED_TGT` [15:0]. -/
def SLED_TGT.POS (i : Nat) : Field := ⟨32 * (0x1000380 + 0x10000 * i) + 0, 16, 0⟩

/-- R222: `SLED_VMAX` [19:0]. -/
def SLED_VMAX.VMAX (i : Nat) : Field := ⟨32 * (0x1000384 + 0x10000 * i) + 0, 20, 170000⟩

/-- R222: `SLED_ACC` [23:0]. -/
def SLED_ACC.ACCEL (i : Nat) : Field := ⟨32 * (0x1000388 + 0x10000 * i) + 0, 24, 1700⟩

/-- R223: `SLED_JERK` [31:24]. -/
def SLED_JERK.HOME_V (i : Nat) : Field := ⟨32 * (0x100038C + 0x10000 * i) + 24, 8, 34⟩
/-- R223: `SLED_JERK` [23:0]. -/
def SLED_JERK.JERK (i : Nat) : Field := ⟨32 * (0x100038C + 0x10000 * i) + 0, 24, 85⟩

/-- R223: `SLED_LIM` [31:16]. -/
def SLED_LIM.POS_MAX (i : Nat) : Field := ⟨32 * (0x1000390 + 0x10000 * i) + 16, 16, 60416⟩
/-- R223: `SLED_LIM` [15:0]. -/
def SLED_LIM.POS_MIN (i : Nat) : Field := ⟨32 * (0x1000390 + 0x10000 * i) + 0, 16, 1024⟩

/-- R224: `SLED_MISC` [31:16]. -/
def SLED_MISC.MOUNT_POS (i : Nat) : Field := ⟨32 * (0x1000394 + 0x10000 * i) + 16, 16, 2048⟩
/-- R224: `SLED_MISC` [15:8]. -/
def SLED_MISC.SETTLE (i : Nat) : Field := ⟨32 * (0x1000394 + 0x10000 * i) + 8, 8, 20⟩
/-- R224: `SLED_MISC` [7:0]. -/
def SLED_MISC.FOLLOW_V (i : Nat) : Field := ⟨32 * (0x1000394 + 0x10000 * i) + 0, 8, 200⟩

/-- R225: `SLED_POS` [31:16]. -/
def SLED_POS.CMD (i : Nat) : Field := ⟨32 * (0x1000398 + 0x10000 * i) + 16, 16, 0⟩
/-- R225: `SLED_POS` [15:0]. -/
def SLED_POS.VEL (i : Nat) : Field := ⟨32 * (0x1000398 + 0x10000 * i) + 0, 16, 0⟩

/-- R221: `SA_TGT` [31]. -/
def SA_TGT.GO (i : Nat) : Field := ⟨32 * (0x10003A0 + 0x10000 * i) + 31, 1, 0⟩
/-- R221: `SA_TGT` [15:0]. -/
def SA_TGT.POS (i : Nat) : Field := ⟨32 * (0x10003A0 + 0x10000 * i) + 0, 16, 0⟩

/-- R222: `SA_VMAX` [19:0]. -/
def SA_VMAX.VMAX (i : Nat) : Field := ⟨32 * (0x10003A4 + 0x10000 * i) + 0, 20, 256000⟩

/-- R222: `SA_ACC` [23:0]. -/
def SA_ACC.ACCEL (i : Nat) : Field := ⟨32 * (0x10003A8 + 0x10000 * i) + 0, 24, 128000⟩

/-- R223: `SA_JERK` [31:24]. -/
def SA_JERK.HOME_V (i : Nat) : Field := ⟨32 * (0x10003AC + 0x10000 * i) + 24, 8, 64⟩
/-- R223: `SA_JERK` [23:0]. -/
def SA_JERK.JERK (i : Nat) : Field := ⟨32 * (0x10003AC + 0x10000 * i) + 0, 24, 128000⟩

/-- R223: `SA_LIM` [31:16]. -/
def SA_LIM.POS_MAX (i : Nat) : Field := ⟨32 * (0x10003B0 + 0x10000 * i) + 16, 16, 29696⟩
/-- R223: `SA_LIM` [15:0]. -/
def SA_LIM.POS_MIN (i : Nat) : Field := ⟨32 * (0x10003B0 + 0x10000 * i) + 0, 16, 1024⟩

/-- R224: `SA_MISC` [15:8]. -/
def SA_MISC.SETTLE (i : Nat) : Field := ⟨32 * (0x10003B4 + 0x10000 * i) + 8, 8, 0⟩
/-- R224: `SA_MISC` [7:0]. -/
def SA_MISC.FOLLOW_V (i : Nat) : Field := ⟨32 * (0x10003B4 + 0x10000 * i) + 0, 8, 50⟩

/-- R225: `SA_POS` [31:16]. -/
def SA_POS.CMD (i : Nat) : Field := ⟨32 * (0x10003B8 + 0x10000 * i) + 16, 16, 0⟩
/-- R225: `SA_POS` [15:0]. -/
def SA_POS.VEL (i : Nat) : Field := ⟨32 * (0x10003B8 + 0x10000 * i) + 0, 16, 0⟩

/-- R225: `SA_ERR` [31:0]. -/
def SA_ERR.ERR (i : Nat) : Field := ⟨32 * (0x10003BC + 0x10000 * i) + 0, 32, 0⟩

/-- R226: `STEP_CTL` [10]. -/
def STEP_CTL.ENC_DIR (i : Nat) : Field := ⟨32 * (0x10003C0 + 0x10000 * i) + 10, 1, 0⟩
/-- R226: `STEP_CTL` [9]. -/
def STEP_CTL.SA_PROF (i : Nat) : Field := ⟨32 * (0x10003C0 + 0x10000 * i) + 9, 1, 0⟩
/-- R226: `STEP_CTL` [8]. -/
def STEP_CTL.SLED_PROF (i : Nat) : Field := ⟨32 * (0x10003C0 + 0x10000 * i) + 8, 1, 1⟩
/-- R226: `STEP_CTL` [6:4]. -/
def STEP_CTL.SA_MODE (i : Nat) : Field := ⟨32 * (0x10003C0 + 0x10000 * i) + 4, 3, 0⟩
/-- R226: `STEP_CTL` [2:0]. -/
def STEP_CTL.SLED_MODE (i : Nat) : Field := ⟨32 * (0x10003C0 + 0x10000 * i) + 0, 3, 0⟩

/-- R227: `STEP_STAT` [31]. -/
def STEP_STAT.SLED_HOMED (i : Nat) : Field := ⟨32 * (0x10003C4 + 0x10000 * i) + 31, 1, 0⟩
/-- R227: `STEP_STAT` [30]. -/
def STEP_STAT.SA_HOMED (i : Nat) : Field := ⟨32 * (0x10003C4 + 0x10000 * i) + 30, 1, 0⟩
/-- R227: `STEP_STAT` [29]. -/
def STEP_STAT.SLED_ARRIVED (i : Nat) : Field := ⟨32 * (0x10003C4 + 0x10000 * i) + 29, 1, 0⟩
/-- R227: `STEP_STAT` [28]. -/
def STEP_STAT.SA_ARRIVED (i : Nat) : Field := ⟨32 * (0x10003C4 + 0x10000 * i) + 28, 1, 0⟩
/-- R227: `STEP_STAT` [27]. -/
def STEP_STAT.ENC_FAULT (i : Nat) : Field := ⟨32 * (0x10003C4 + 0x10000 * i) + 27, 1, 0⟩
/-- R227: `STEP_STAT` [26]. -/
def STEP_STAT.ENC_ILL (i : Nat) : Field := ⟨32 * (0x10003C4 + 0x10000 * i) + 26, 1, 0⟩
/-- R227: `STEP_STAT` [25]. -/
def STEP_STAT.SLED_STALL (i : Nat) : Field := ⟨32 * (0x10003C4 + 0x10000 * i) + 25, 1, 0⟩
/-- R227: `STEP_STAT` [24]. -/
def STEP_STAT.SLED_LIM (i : Nat) : Field := ⟨32 * (0x10003C4 + 0x10000 * i) + 24, 1, 0⟩
/-- R227: `STEP_STAT` [23]. -/
def STEP_STAT.SA_LIM (i : Nat) : Field := ⟨32 * (0x10003C4 + 0x10000 * i) + 23, 1, 0⟩
/-- R227: `STEP_STAT` [22]. -/
def STEP_STAT.WR_REJ (i : Nat) : Field := ⟨32 * (0x10003C4 + 0x10000 * i) + 22, 1, 0⟩
/-- R227: `STEP_STAT` [21:19]. -/
def STEP_STAT.STALL_RUN (i : Nat) : Field := ⟨32 * (0x10003C4 + 0x10000 * i) + 19, 3, 0⟩

/-- R228: `ENC_POS` [31:12]. -/
def ENC_POS.COUNT (i : Nat) : Field := ⟨32 * (0x10003C8 + 0x10000 * i) + 12, 20, 0⟩
/-- R228: `ENC_POS` [11:0]. -/
def ENC_POS.DEV (i : Nat) : Field := ⟨32 * (0x10003C8 + 0x10000 * i) + 0, 12, 0⟩

/-- R228: `ENC_CFG` [31:24]. -/
def ENC_CFG.WINDOW (i : Nat) : Field := ⟨32 * (0x10003CC + 0x10000 * i) + 24, 8, 16⟩
/-- R228: `ENC_CFG` [23:16]. -/
def ENC_CFG.DEV_N (i : Nat) : Field := ⟨32 * (0x10003CC + 0x10000 * i) + 16, 8, 8⟩
/-- R228: `ENC_CFG` [15:8]. -/
def ENC_CFG.TRIES (i : Nat) : Field := ⟨32 * (0x10003CC + 0x10000 * i) + 8, 8, 3⟩

/-- R228: `ENC_COUNT` [31:16]. -/
def ENC_COUNT.ILLEGAL (i : Nat) : Field := ⟨32 * (0x10003D0 + 0x10000 * i) + 16, 16, 0⟩
/-- R228: `ENC_COUNT` [15:8]. -/
def ENC_COUNT.STALLS (i : Nat) : Field := ⟨32 * (0x10003D0 + 0x10000 * i) + 8, 8, 0⟩

/-- R257: `RC_CTL` [31]. -/
def RC_CTL.ZT_OK (i : Nat) : Field := ⟨32 * (0x1000400 + 0x10000 * i) + 31, 1, 0⟩
/-- R257: `RC_CTL` [30]. -/
def RC_CTL.SIDE_EN (i : Nat) : Field := ⟨32 * (0x1000400 + 0x10000 * i) + 30, 1, 1⟩
/-- R257: `RC_CTL` [23:16]. -/
def RC_CTL.PREFETCH (i : Nat) : Field := ⟨32 * (0x1000400 + 0x10000 * i) + 16, 8, 16⟩

/-- R258: `RC_ZT_BASE_LO` [31:17]. -/
def RC_ZT_BASE_LO.ADDR (i : Nat) : Field := ⟨32 * (0x1000404 + 0x10000 * i) + 17, 15, 0⟩

/-- R258: `RC_ZT_BASE_HI` [7:0]. -/
def RC_ZT_BASE_HI.ADDR (i : Nat) : Field := ⟨32 * (0x1000408 + 0x10000 * i) + 0, 8, 0⟩

/-- R259: `RC_SYNC` [27:24]. -/
def RC_SYNC.SYNC_TOL (i : Nat) : Field := ⟨32 * (0x100040C + 0x10000 * i) + 24, 4, 4⟩
/-- R259: `RC_SYNC` [23:16]. -/
def RC_SYNC.SYNC_WIN (i : Nat) : Field := ⟨32 * (0x100040C + 0x10000 * i) + 16, 8, 16⟩
/-- R259: `RC_SYNC` [11:8]. -/
def RC_SYNC.RESYNC_TOL (i : Nat) : Field := ⟨32 * (0x100040C + 0x10000 * i) + 8, 4, 2⟩
/-- R259: `RC_SYNC` [2:0]. -/
def RC_SYNC.RESYNC_WIN (i : Nat) : Field := ⟨32 * (0x100040C + 0x10000 * i) + 0, 3, 3⟩

/-- R260: `RC_DEF` [31:24]. -/
def RC_DEF.REFL_THR (i : Nat) : Field := ⟨32 * (0x1000410 + 0x10000 * i) + 24, 8, 50⟩
/-- R260: `RC_DEF` [23:20]. -/
def RC_DEF.REFL_ON (i : Nat) : Field := ⟨32 * (0x1000410 + 0x10000 * i) + 20, 4, 2⟩
/-- R260: `RC_DEF` [19:16]. -/
def RC_DEF.REFL_OFF (i : Nat) : Field := ⟨32 * (0x1000410 + 0x10000 * i) + 16, 4, 4⟩

/-- R260: `RC_ERA` [31:24]. -/
def RC_ERA.ENV_THR (i : Nat) : Field := ⟨32 * (0x1000414 + 0x10000 * i) + 24, 8, 40⟩
/-- R260: `RC_ERA` [23:16]. -/
def RC_ERA.ENV_ON (i : Nat) : Field := ⟨32 * (0x1000414 + 0x10000 * i) + 16, 8, 8⟩
/-- R260: `RC_ERA` [15:8]. -/
def RC_ERA.ENV_OFF (i : Nat) : Field := ⟨32 * (0x1000414 + 0x10000 * i) + 8, 8, 16⟩
/-- R260: `RC_ERA` [7:0]. -/
def RC_ERA.EXT (i : Nat) : Field := ⟨32 * (0x1000414 + 0x10000 * i) + 0, 8, 16⟩

/-- R260: `RC_BLANK` [5:0]. -/
def RC_BLANK.BLANK_THR (i : Nat) : Field := ⟨32 * (0x1000418 + 0x10000 * i) + 0, 6, 8⟩

/-- R261: `RC_SKEW` [31:16]. -/
def RC_SKEW.SKEW_O (i : Nat) : Field := ⟨32 * (0x100041C + 0x10000 * i) + 16, 16, 0⟩
/-- R261: `RC_SKEW` [15:0]. -/
def RC_SKEW.SKEW_I (i : Nat) : Field := ⟨32 * (0x100041C + 0x10000 * i) + 0, 16, 0⟩

/-- R261: `RC_SKEW_MEAS` [31:16]. -/
def RC_SKEW_MEAS.MEAS_O (i : Nat) : Field := ⟨32 * (0x1000420 + 0x10000 * i) + 16, 16, 0⟩
/-- R261: `RC_SKEW_MEAS` [15:0]. -/
def RC_SKEW_MEAS.MEAS_I (i : Nat) : Field := ⟨32 * (0x1000420 + 0x10000 * i) + 0, 16, 0⟩

/-- R262: `RC_STAT` [31:23]. -/
def RC_STAT.ENTRY (i : Nat) : Field := ⟨32 * (0x1000424 + 0x10000 * i) + 23, 9, 0⟩
/-- R262: `RC_STAT` [22:21]. -/
def RC_STAT.ENTRY_STATE (i : Nat) : Field := ⟨32 * (0x1000424 + 0x10000 * i) + 21, 2, 0⟩
/-- R262: `RC_STAT` [20]. -/
def RC_STAT.ENTRY_OK (i : Nat) : Field := ⟨32 * (0x1000424 + 0x10000 * i) + 20, 1, 0⟩
/-- R262: `RC_STAT` [19]. -/
def RC_STAT.VERIFY (i : Nat) : Field := ⟨32 * (0x1000424 + 0x10000 * i) + 19, 1, 0⟩
/-- R262: `RC_STAT` [18:16]. -/
def RC_STAT.FRAMING (i : Nat) : Field := ⟨32 * (0x1000424 + 0x10000 * i) + 16, 3, 0⟩
/-- R262: `RC_STAT` [15:0]. -/
def RC_STAT.GEN (i : Nat) : Field := ⟨32 * (0x1000424 + 0x10000 * i) + 0, 16, 0⟩

/-- R263: `RC_FRAMED` [31:0]. -/
def RC_FRAMED.COUNT (i j : Nat) : Field := ⟨32 * (0x1000440 + 0x10000 * i + 0x20 * j) + 0, 32, 0⟩

/-- R263: `RC_SYNC_CNT` [31:16]. -/
def RC_SYNC_CNT.SYNC_PRED (i j : Nat) : Field := ⟨32 * (0x1000444 + 0x10000 * i + 0x20 * j) + 16, 16, 0⟩
/-- R263: `RC_SYNC_CNT` [15:0]. -/
def RC_SYNC_CNT.RESYNC_MISS (i j : Nat) : Field := ⟨32 * (0x1000444 + 0x10000 * i + 0x20 * j) + 0, 16, 0⟩

/-- R263: `RC_DEF_CNT` [31:16]. -/
def RC_DEF_CNT.DEFECTS (i j : Nat) : Field := ⟨32 * (0x1000448 + 0x10000 * i + 0x20 * j) + 16, 16, 0⟩
/-- R263: `RC_DEF_CNT` [15:0]. -/
def RC_DEF_CNT.BLANK (i j : Nat) : Field := ⟨32 * (0x1000448 + 0x10000 * i + 0x20 * j) + 0, 16, 0⟩

/-- R263: `RC_ERASED` [31:0]. -/
def RC_ERASED.COUNT (i j : Nat) : Field := ⟨32 * (0x100044C + 0x10000 * i + 0x20 * j) + 0, 32, 0⟩

/-- R263: `RC_MISC_CNT` [31:24]. -/
def RC_MISC_CNT.ENTRY_LATE (i j : Nat) : Field := ⟨32 * (0x1000450 + 0x10000 * i + 0x20 * j) + 24, 8, 0⟩
/-- R263: `RC_MISC_CNT` [23:16]. -/
def RC_MISC_CNT.ABANDON (i j : Nat) : Field := ⟨32 * (0x1000450 + 0x10000 * i + 0x20 * j) + 16, 8, 0⟩
/-- R263: `RC_MISC_CNT` [15:0]. -/
def RC_MISC_CNT.TL_SLIP (i j : Nat) : Field := ⟨32 * (0x1000450 + 0x10000 * i + 0x20 * j) + 0, 16, 0⟩

/-- R287: `DEC_CTL` [31:29]. -/
def DEC_CTL.OTF_ITER (i : Nat) : Field := ⟨32 * (0x1000500 + 0x10000 * i) + 29, 3, 4⟩
/-- R287: `DEC_CTL` [28:27]. -/
def DEC_CTL.OTF_XCH (i : Nat) : Field := ⟨32 * (0x1000500 + 0x10000 * i) + 27, 2, 2⟩
/-- R287: `DEC_CTL` [26:22]. -/
def DEC_CTL.REC_ITER1 (i : Nat) : Field := ⟨32 * (0x1000500 + 0x10000 * i) + 22, 5, 10⟩
/-- R287: `DEC_CTL` [21:18]. -/
def DEC_CTL.REC_ITER (i : Nat) : Field := ⟨32 * (0x1000500 + 0x10000 * i) + 18, 4, 5⟩
/-- R287: `DEC_CTL` [17:15]. -/
def DEC_CTL.REC_XCH (i : Nat) : Field := ⟨32 * (0x1000500 + 0x10000 * i) + 15, 3, 6⟩
/-- R287: `DEC_CTL` [7:4]. -/
def DEC_CTL.OFFSET (i : Nat) : Field := ⟨32 * (0x1000500 + 0x10000 * i) + 4, 4, 1⟩
/-- R287: `DEC_CTL` [3:0]. -/
def DEC_CTL.OFFSET_R (i : Nat) : Field := ⟨32 * (0x1000500 + 0x10000 * i) + 0, 4, 1⟩

/-- R288: `DR_CTL` [31:22]. -/
def DR_CTL.DR_TMO (i : Nat) : Field := ⟨32 * (0x1000504 + 0x10000 * i) + 22, 10, 50⟩
/-- R288: `DR_CTL` [14:9]. -/
def DR_CTL.STEP_EN (i : Nat) : Field := ⟨32 * (0x1000504 + 0x10000 * i) + 9, 6, 63⟩
/-- R288: `DR_CTL` [8:7]. -/
def DR_CTL.REREAD_N (i : Nat) : Field := ⟨32 * (0x1000504 + 0x10000 * i) + 7, 2, 2⟩
/-- R288: `DR_CTL` [6:4]. -/
def DR_CTL.OFS_N (i : Nat) : Field := ⟨32 * (0x1000504 + 0x10000 * i) + 4, 3, 4⟩
/-- R288: `DR_CTL` [3:0]. -/
def DR_CTL.ERA_LIM (i : Nat) : Field := ⟨32 * (0x1000504 + 0x10000 * i) + 0, 4, 4⟩

/-- R289: `DR_OFS` [31:16]. -/
def DR_OFS.FOC_DELTA (i j : Nat) : Field := ⟨32 * (0x1000508 + 0x10000 * i + 4 * j) + 16, 16, ofsFocReset j⟩
/-- R289: `DR_OFS` [15:8]. -/
def DR_OFS.SA_DELTA (i j : Nat) : Field := ⟨32 * (0x1000508 + 0x10000 * i + 4 * j) + 8, 8, ofsSaReset j⟩
/-- R289: `DR_OFS` [7:0]. -/
def DR_OFS.TILT_DELTA (i j : Nat) : Field := ⟨32 * (0x1000508 + 0x10000 * i + 4 * j) + 0, 8, 0⟩

/-- R290: `DEC_RQ` [31:24]. -/
def DEC_RQ.QUEUED (i : Nat) : Field := ⟨32 * (0x1000518 + 0x10000 * i) + 24, 8, 0⟩
/-- R290: `DEC_RQ` [23:16]. -/
def DEC_RQ.LADDER (i : Nat) : Field := ⟨32 * (0x1000518 + 0x10000 * i) + 16, 8, 0⟩

/-- R291: `DEC_OTF_OK` [31:0]. -/
def DEC_OTF_OK.COUNT (i : Nat) : Field := ⟨32 * (0x1000520 + 0x10000 * i) + 0, 32, 0⟩

/-- R291: `DEC_OTF_FAIL` [31:0]. -/
def DEC_OTF_FAIL.COUNT (i : Nat) : Field := ⟨32 * (0x1000524 + 0x10000 * i) + 0, 32, 0⟩

/-- R291: `DEC_CHK` [31:16]. -/
def DEC_CHK.CRC_FAIL (i : Nat) : Field := ⟨32 * (0x1000528 + 0x10000 * i) + 16, 16, 0⟩
/-- R291: `DEC_CHK` [15:0]. -/
def DEC_CHK.ID_FAIL (i : Nat) : Field := ⟨32 * (0x1000528 + 0x10000 * i) + 0, 16, 0⟩

/-- R291: `DEC_REC` [31:16]. -/
def DEC_REC.RECOVERED (i : Nat) : Field := ⟨32 * (0x100052C + 0x10000 * i) + 16, 16, 0⟩
/-- R291: `DEC_REC` [15:0]. -/
def DEC_REC.RECON (i : Nat) : Field := ⟨32 * (0x100052C + 0x10000 * i) + 0, 16, 0⟩

/-- R291: `DEC_UNC` [31:16]. -/
def DEC_UNC.UNCORR (i : Nat) : Field := ⟨32 * (0x1000530 + 0x10000 * i) + 16, 16, 0⟩
/-- R291: `DEC_UNC` [15:8]. -/
def DEC_UNC.CAPT_MISS (i : Nat) : Field := ⟨32 * (0x1000530 + 0x10000 * i) + 8, 8, 0⟩
/-- R291: `DEC_UNC` [7:0]. -/
def DEC_UNC.RECON_CHK (i : Nat) : Field := ⟨32 * (0x1000530 + 0x10000 * i) + 0, 8, 0⟩

/-- R313: `WR_CTL` [31:24]. -/
def WR_CTL.OPEN_MAX (i : Nat) : Field := ⟨32 * (0x1000600 + 0x10000 * i) + 24, 8, 16⟩
/-- R313: `WR_CTL` [23:16]. -/
def WR_CTL.RELOC_BATCH (i : Nat) : Field := ⟨32 * (0x1000600 + 0x10000 * i) + 16, 8, 8⟩
/-- R313: `WR_CTL` [15:12]. -/
def WR_CTL.VFY_ITER (i : Nat) : Field := ⟨32 * (0x1000600 + 0x10000 * i) + 12, 4, 6⟩
/-- R313: `WR_CTL` [9:8]. -/
def WR_CTL.VFY_RETRY (i : Nat) : Field := ⟨32 * (0x1000600 + 0x10000 * i) + 8, 2, 2⟩
/-- R313: `WR_CTL` [7:0]. -/
def WR_CTL.VFY_ERA (i : Nat) : Field := ⟨32 * (0x1000600 + 0x10000 * i) + 0, 8, 64⟩

/-- R314: `WR_LIM` [31:16]. -/
def WR_LIM.PW_MAX (i : Nat) : Field := ⟨32 * (0x1000604 + 0x10000 * i) + 16, 16, 65535⟩
/-- R314: `WR_LIM` [15:0]. -/
def WR_LIM.PB_MAX (i : Nat) : Field := ⟨32 * (0x1000604 + 0x10000 * i) + 0, 16, 65535⟩

/-- R314: `DL_CTL` [31]. -/
def DL_CTL.COMMIT (i : Nat) : Field := ⟨32 * (0x1000608 + 0x10000 * i) + 31, 1, 0⟩
/-- R314: `DL_CTL` [30]. -/
def DL_CTL.BUSY (i : Nat) : Field := ⟨32 * (0x1000608 + 0x10000 * i) + 30, 1, 0⟩
/-- R314: `DL_CTL` [29]. -/
def DL_CTL.FAIL (i : Nat) : Field := ⟨32 * (0x1000608 + 0x10000 * i) + 29, 1, 0⟩
/-- R314: `DL_CTL` [11:0]. -/
def DL_CTL.COMMIT_T (i : Nat) : Field := ⟨32 * (0x1000608 + 0x10000 * i) + 0, 12, 300⟩

/-- R315: `WR_STAT` [31:24]. -/
def WR_STAT.OPEN (i : Nat) : Field := ⟨32 * (0x100060C + 0x10000 * i) + 24, 8, 0⟩
/-- R315: `WR_STAT` [23:16]. -/
def WR_STAT.RELOC_PEND (i : Nat) : Field := ⟨32 * (0x100060C + 0x10000 * i) + 16, 8, 0⟩
/-- R315: `WR_STAT` [15:8]. -/
def WR_STAT.DL_STAGED (i : Nat) : Field := ⟨32 * (0x100060C + 0x10000 * i) + 8, 8, 0⟩
/-- R315: `WR_STAT` [7]. -/
def WR_STAT.PCLAMP (i : Nat) : Field := ⟨32 * (0x100060C + 0x10000 * i) + 7, 1, 0⟩
/-- R315: `WR_STAT` [6]. -/
def WR_STAT.SPARES_FULL (i : Nat) : Field := ⟨32 * (0x100060C + 0x10000 * i) + 6, 1, 0⟩

/-- R316: `WR_SECT` [31:0]. -/
def WR_SECT.COUNT (i : Nat) : Field := ⟨32 * (0x1000610 + 0x10000 * i) + 0, 32, 0⟩

/-- R316: `WR_VFY` [31:16]. -/
def WR_VFY.FAIL (i : Nat) : Field := ⟨32 * (0x1000614 + 0x10000 * i) + 16, 16, 0⟩
/-- R316: `WR_VFY` [15:0]. -/
def WR_VFY.REDO (i : Nat) : Field := ⟨32 * (0x1000614 + 0x10000 * i) + 0, 16, 0⟩

/-- R316: `WR_RELOC` [31:16]. -/
def WR_RELOC.RELOC (i : Nat) : Field := ⟨32 * (0x1000618 + 0x10000 * i) + 16, 16, 0⟩
/-- R316: `WR_RELOC` [15:8]. -/
def WR_RELOC.ABORT (i : Nat) : Field := ⟨32 * (0x1000618 + 0x10000 * i) + 8, 8, 0⟩
/-- R316: `WR_RELOC` [7:0]. -/
def WR_RELOC.FOUND_WRITTEN (i : Nat) : Field := ⟨32 * (0x1000618 + 0x10000 * i) + 0, 8, 0⟩

/-- R317: `WJ_STAT` [31:24]. -/
def WJ_STAT.LIVE (i : Nat) : Field := ⟨32 * (0x1000620 + 0x10000 * i) + 24, 8, 0⟩
/-- R317: `WJ_STAT` [23:16]. -/
def WJ_STAT.STALE (i : Nat) : Field := ⟨32 * (0x1000620 + 0x10000 * i) + 16, 8, 0⟩
/-- R317: `WJ_STAT` [15:8]. -/
def WJ_STAT.FREE (i : Nat) : Field := ⟨32 * (0x1000620 + 0x10000 * i) + 8, 8, 64⟩

/-- R317: `WJ_RELEASE` [31]. -/
def WJ_RELEASE.GO (i : Nat) : Field := ⟨32 * (0x1000624 + 0x10000 * i) + 31, 1, 0⟩
/-- R317: `WJ_RELEASE` [30]. -/
def WJ_RELEASE.ALL (i : Nat) : Field := ⟨32 * (0x1000624 + 0x10000 * i) + 30, 1, 0⟩
/-- R317: `WJ_RELEASE` [29]. -/
def WJ_RELEASE.ERR (i : Nat) : Field := ⟨32 * (0x1000624 + 0x10000 * i) + 29, 1, 0⟩
/-- R317: `WJ_RELEASE` [5:0]. -/
def WJ_RELEASE.INDEX (i : Nat) : Field := ⟨32 * (0x1000624 + 0x10000 * i) + 0, 6, 0⟩

/-- R318: `WJ_STALE_LO` [31:0]. -/
def WJ_STALE_LO.STALE (i : Nat) : Field := ⟨32 * (0x1000628 + 0x10000 * i) + 0, 32, 0⟩

/-- R318: `WJ_STALE_HI` [31:0]. -/
def WJ_STALE_HI.STALE (i : Nat) : Field := ⟨32 * (0x100062C + 0x10000 * i) + 0, 32, 0⟩

/-- R334: `CAL_CTL` [31]. -/
def CAL_CTL.REQ (i : Nat) : Field := ⟨32 * (0x1000700 + 0x10000 * i) + 31, 1, 0⟩
/-- R334: `CAL_CTL` [30]. -/
def CAL_CTL.KEEP (i : Nat) : Field := ⟨32 * (0x1000700 + 0x10000 * i) + 30, 1, 0⟩
/-- R334: `CAL_CTL` [29]. -/
def CAL_CTL.DEFER (i : Nat) : Field := ⟨32 * (0x1000700 + 0x10000 * i) + 29, 1, 0⟩
/-- R334: `CAL_CTL` [28]. -/
def CAL_CTL.SCOPE (i : Nat) : Field := ⟨32 * (0x1000700 + 0x10000 * i) + 28, 1, 0⟩
/-- R334: `CAL_CTL` [24:16]. -/
def CAL_CTL.INDEX (i : Nat) : Field := ⟨32 * (0x1000700 + 0x10000 * i) + 16, 9, 0⟩
/-- R334: `CAL_CTL` [15:8]. -/
def CAL_CTL.TEMP_DELTA (i : Nat) : Field := ⟨32 * (0x1000700 + 0x10000 * i) + 8, 8, 40⟩
/-- R334: `CAL_CTL` [7:0]. -/
def CAL_CTL.MIN_SECT (i : Nat) : Field := ⟨32 * (0x1000700 + 0x10000 * i) + 0, 8, 16⟩

/-- R335: `CAL_STEP` [31:24]. -/
def CAL_STEP.VEXP (i : Nat) : Field := ⟨32 * (0x1000704 + 0x10000 * i) + 24, 8, 128⟩
/-- R335: `CAL_STEP` [23:16]. -/
def CAL_STEP.FOC_STEP (i : Nat) : Field := ⟨32 * (0x1000704 + 0x10000 * i) + 16, 8, 16⟩
/-- R335: `CAL_STEP` [15:8]. -/
def CAL_STEP.TILT_STEP (i : Nat) : Field := ⟨32 * (0x1000704 + 0x10000 * i) + 8, 8, 32⟩
/-- R335: `CAL_STEP` [7:4]. -/
def CAL_STEP.SA_STEP (i : Nat) : Field := ⟨32 * (0x1000704 + 0x10000 * i) + 4, 4, 4⟩

/-- R335: `CAL_LIM` [31:24]. -/
def CAL_LIM.TOL_SCALE (i : Nat) : Field := ⟨32 * (0x1000708 + 0x10000 * i) + 24, 8, 16⟩
/-- R335: `CAL_LIM` [23:16]. -/
def CAL_LIM.CAL_TMO (i : Nat) : Field := ⟨32 * (0x1000708 + 0x10000 * i) + 16, 8, 50⟩
/-- R335: `CAL_LIM` [15:0]. -/
def CAL_LIM.RETRY_T (i : Nat) : Field := ⟨32 * (0x1000708 + 0x10000 * i) + 0, 16, 60⟩

/-- R336: `CAL_STAT` [31]. -/
def CAL_STAT.BUSY (i : Nat) : Field := ⟨32 * (0x100070C + 0x10000 * i) + 31, 1, 0⟩
/-- R336: `CAL_STAT` [30]. -/
def CAL_STAT.W_CAL (i : Nat) : Field := ⟨32 * (0x100070C + 0x10000 * i) + 30, 1, 0⟩
/-- R336: `CAL_STAT` [29:26]. -/
def CAL_STAT.ITEM (i : Nat) : Field := ⟨32 * (0x100070C + 0x10000 * i) + 26, 4, 0⟩
/-- R336: `CAL_STAT` [25:24]. -/
def CAL_STAT.RUN (i : Nat) : Field := ⟨32 * (0x100070C + 0x10000 * i) + 24, 2, 0⟩
/-- R336: `CAL_STAT` [23:15]. -/
def CAL_STAT.INDEX (i : Nat) : Field := ⟨32 * (0x100070C + 0x10000 * i) + 15, 9, 0⟩
/-- R336: `CAL_STAT` [14:12]. -/
def CAL_STAT.LAST (i : Nat) : Field := ⟨32 * (0x100070C + 0x10000 * i) + 12, 3, 0⟩

/-- R336: `CAL_COUNT` [31:16]. -/
def CAL_COUNT.DONE (i : Nat) : Field := ⟨32 * (0x1000710 + 0x10000 * i) + 16, 16, 0⟩
/-- R336: `CAL_COUNT` [15:8]. -/
def CAL_COUNT.UNSETTLED (i : Nat) : Field := ⟨32 * (0x1000710 + 0x10000 * i) + 8, 8, 0⟩
/-- R336: `CAL_COUNT` [7:0]. -/
def CAL_COUNT.TEMP_TRIG (i : Nat) : Field := ⟨32 * (0x1000710 + 0x10000 * i) + 0, 8, 0⟩

/-- R337: `CAL_PCA` [31]. -/
def CAL_PCA.VALID (i j : Nat) : Field := ⟨32 * (0x1000740 + 0x10000 * i + 4 * j) + 31, 1, 0⟩
/-- R337: `CAL_PCA` [25:8]. -/
def CAL_PCA.TRACK (i j : Nat) : Field := ⟨32 * (0x1000740 + 0x10000 * i + 4 * j) + 8, 18, 0⟩
/-- R337: `CAL_PCA` [7:0]. -/
def CAL_PCA.SLOT (i j : Nat) : Field := ⟨32 * (0x1000740 + 0x10000 * i + 4 * j) + 0, 8, 0⟩

/-- R413: `SCHED_CTL` [31:28]. -/
def SCHED_CTL.URG_GAP (i : Nat) : Field := ⟨32 * (0x1000800 + 0x10000 * i) + 28, 4, 4⟩
/-- R413: `SCHED_CTL` [27:24]. -/
def SCHED_CTL.SEG_REVS (i : Nat) : Field := ⟨32 * (0x1000800 + 0x10000 * i) + 24, 4, 4⟩
/-- R413: `SCHED_CTL` [23:16]. -/
def SCHED_CTL.SEG_PASSES (i : Nat) : Field := ⟨32 * (0x1000800 + 0x10000 * i) + 16, 8, 8⟩
/-- R413: `SCHED_CTL` [15]. -/
def SCHED_CTL.BG_EN (i : Nat) : Field := ⟨32 * (0x1000800 + 0x10000 * i) + 15, 1, 1⟩

/-- R414: `SCHED_AGE` [15:0]. -/
def SCHED_AGE.DEADLINE (i j : Nat) : Field := ⟨32 * (0x1000804 + 0x10000 * i + 4 * j) + 0, 16, schedAgeReset j⟩

/-- R415: `SCHED_BIAS` [23:0]. -/
def SCHED_BIAS.BIAS (i j : Nat) : Field := ⟨32 * (0x1000818 + 0x10000 * i + 4 * j) + 0, 24, schedBiasReset j⟩

/-- R416: `SCHED_COST` [31:16]. -/
def SCHED_COST.LJ_COST (i : Nat) : Field := ⟨32 * (0x1000828 + 0x10000 * i) + 16, 16, 1300⟩
/-- R416: `SCHED_COST` [15:8]. -/
def SCHED_COST.TJ_COST (i : Nat) : Field := ⟨32 * (0x1000828 + 0x10000 * i) + 8, 8, 50⟩
/-- R416: `SCHED_COST` [7:0]. -/
def SCHED_COST.SEEK_SETTLE (i : Nat) : Field := ⟨32 * (0x1000828 + 0x10000 * i) + 0, 8, 20⟩

/-- R417: `SCHED_STAT` [31:25]. -/
def SCHED_STAT.QUEUED (i : Nat) : Field := ⟨32 * (0x100082C + 0x10000 * i) + 25, 7, 0⟩
/-- R417: `SCHED_STAT` [24:18]. -/
def SCHED_STAT.ELIGIBLE (i : Nat) : Field := ⟨32 * (0x100082C + 0x10000 * i) + 18, 7, 0⟩
/-- R417: `SCHED_STAT` [17:11]. -/
def SCHED_STAT.URGENT (i : Nat) : Field := ⟨32 * (0x100082C + 0x10000 * i) + 11, 7, 0⟩
/-- R417: `SCHED_STAT` [10]. -/
def SCHED_STAT.GAP (i : Nat) : Field := ⟨32 * (0x100082C + 0x10000 * i) + 10, 1, 0⟩
/-- R417: `SCHED_STAT` [9]. -/
def SCHED_STAT.IDLE (i : Nat) : Field := ⟨32 * (0x100082C + 0x10000 * i) + 9, 1, 1⟩
/-- R417: `SCHED_STAT` [8]. -/
def SCHED_STAT.CUR_TAG_VALID (i : Nat) : Field := ⟨32 * (0x100082C + 0x10000 * i) + 8, 1, 0⟩
/-- R417: `SCHED_STAT` [7]. -/
def SCHED_STAT.CUR_BG (i : Nat) : Field := ⟨32 * (0x100082C + 0x10000 * i) + 7, 1, 0⟩
/-- R417: `SCHED_STAT` [5:0]. -/
def SCHED_STAT.CUR_TAG (i : Nat) : Field := ⟨32 * (0x100082C + 0x10000 * i) + 0, 6, 0⟩

/-- R418: `SCHED_CNT` [31:16]. -/
def SCHED_CNT.PROMOTED (i : Nat) : Field := ⟨32 * (0x1000830 + 0x10000 * i) + 16, 16, 0⟩
/-- R418: `SCHED_CNT` [15:8]. -/
def SCHED_CNT.INHERITED (i : Nat) : Field := ⟨32 * (0x1000830 + 0x10000 * i) + 8, 8, 0⟩
/-- R418: `SCHED_CNT` [7:0]. -/
def SCHED_CNT.GAP_HELD (i : Nat) : Field := ⟨32 * (0x1000830 + 0x10000 * i) + 0, 8, 0⟩

/-- R418: `SCHED_MAXAGE` [15:0]. -/
def SCHED_MAXAGE.MAXAGE (i : Nat) : Field := ⟨32 * (0x1000834 + 0x10000 * i) + 0, 16, 0⟩

/-- R113: `REC` [31:0]. -/
def REC.DATA (i j : Nat) : Field := ⟨32 * (0x1001000 + 0x10000 * i + 4 * j) + 0, 32, 0⟩

/-- R122: `REP` [31:0]. -/
def REP.DATA (i j : Nat) : Field := ⟨32 * (0x1002000 + 0x10000 * i + 4 * j) + 0, 32, 0⟩

/-- R204: `SLED_SINE` [31:16]. -/
def SLED_SINE.B (i j : Nat) : Field := ⟨32 * (0x1004000 + 0x10000 * i + 4 * j) + 16, 16, sineB j⟩
/-- R204: `SLED_SINE` [15:0]. -/
def SLED_SINE.A (i j : Nat) : Field := ⟨32 * (0x1004000 + 0x10000 * i + 4 * j) + 0, 16, sineA j⟩

/-- R204: `SA_SINE` [31:16]. -/
def SA_SINE.B (i j : Nat) : Field := ⟨32 * (0x1004400 + 0x10000 * i + 4 * j) + 16, 16, sineB j⟩
/-- R204: `SA_SINE` [15:0]. -/
def SA_SINE.A (i j : Nat) : Field := ⟨32 * (0x1004400 + 0x10000 * i + 4 * j) + 0, 16, sineA j⟩

end R

/-- A field as its register's table row gives it: the field, its access type, and the values whose write leaves it
unchanged (R648, last sentence). -/
structure FieldRow where
  field : Field
  acc   : Acc
  keep  : List Nat

/-- A register, or an array of registers in at most two dimensions: the offset of its first instance, the stride and
count of each dimension, and its fields. -/
structure RegRow where
  base    : Nat
  stride1 : Nat
  count1  : Nat
  stride2 : Nat
  count2  : Nat
  fields  : Nat → Nat → List FieldRow

/-- Registers IDENT to SUB_HEAD (R624, R625). -/
def regRows0 : List RegRow := open R in
  [⟨0x0, 0x0, 1, 0x0, 1, fun _ _ => [⟨IDENT.VENDOR, .ro, []⟩, ⟨IDENT.FAMILY, .ro, []⟩]⟩,
   ⟨0x10, 0x0, 1, 0x0, 1, fun _ _ => [⟨CAP.STEP, .ro, []⟩, ⟨CAP.UCODE_CUST, .ro, []⟩, ⟨CAP.FAB_PORTS, .ro, []⟩, ⟨CAP.CRYPTO, .ro, []⟩, ⟨CAP.STRIPE, .ro, []⟩, ⟨CAP.BAYS, .ro, []⟩]⟩,
   ⟨0x20, 0x0, 1, 0x0, 1, fun _ _ => [⟨MODE_STAT.PENDING, .ro, []⟩, ⟨MODE_STAT.SD_DONE, .ro, []⟩, ⟨MODE_STAT.TARGET, .ro, []⟩, ⟨MODE_STAT.PREV, .ro, []⟩, ⟨MODE_STAT.CHG_COUNT, .ro, []⟩, ⟨MODE_STAT.MODE, .ro, []⟩]⟩,
   ⟨0x24, 0x0, 1, 0x0, 1, fun _ _ => [⟨MODE_CFG.QPARK, .rw, []⟩]⟩,
   ⟨0x28, 0x0, 1, 0x0, 1, fun _ _ => [⟨CURFEW_CAUSE.CAUSE, .own, []⟩]⟩,
   ⟨0x2C, 0x0, 1, 0x0, 1, fun _ _ => [⟨HB_KICK.KICK, .own, []⟩]⟩,
   ⟨0x30, 0x0, 1, 0x0, 1, fun _ _ => [⟨HB_CTL.ARMED, .ro, []⟩, ⟨HB_CTL.HB_TMO, .rw, []⟩]⟩,
   ⟨0x34, 0x0, 1, 0x0, 1, fun _ _ => [⟨DIE_TEMP.PEAK, .rc, []⟩, ⟨DIE_TEMP.TEMP, .ro, []⟩]⟩,
   ⟨0x38, 0x0, 1, 0x0, 1, fun _ _ => [⟨TEMP_LIM.CURFEW_T, .rw, []⟩, ⟨TEMP_LIM.WARN_T, .rw, []⟩, ⟨TEMP_LIM.HYST, .rw, []⟩]⟩,
   ⟨0x40, 0x0, 1, 0x0, 1, fun _ _ => [⟨MT_BASE_LO.ADDR, .rw, []⟩]⟩,
   ⟨0x44, 0x0, 1, 0x0, 1, fun _ _ => [⟨MT_BASE_HI.ADDR, .rw, []⟩]⟩,
   ⟨0x48, 0x0, 1, 0x0, 1, fun _ _ => [⟨MT_COUNT.CFG_REJ, .w1c, []⟩, ⟨MT_COUNT.COUNT, .rw, []⟩]⟩,
   ⟨0x10000, 0x0, 1, 0x0, 1, fun _ _ => [⟨PORTER_CTL.ENABLE, .rw, []⟩, ⟨PORTER_CTL.EVT_VECTOR, .rw, []⟩]⟩,
   ⟨0x10004, 0x0, 1, 0x0, 1, fun _ _ => [⟨DB_BASE_LO.ADDR, .rw, []⟩]⟩,
   ⟨0x10008, 0x0, 1, 0x0, 1, fun _ _ => [⟨DB_BASE_HI.ADDR, .rw, []⟩]⟩,
   ⟨0x1000C, 0x0, 1, 0x0, 1, fun _ _ => [⟨WAKE.WAKE, .own, []⟩]⟩,
   ⟨0x10010, 0x0, 1, 0x0, 1, fun _ _ => [⟨POLL.IDLE, .rw, []⟩, ⟨POLL.BUSY, .rw, []⟩]⟩,
   ⟨0x10014, 0x0, 1, 0x0, 1, fun _ _ => [⟨PORTER_STAT.BUSY, .ro, []⟩, ⟨PORTER_STAT.DB_HALT, .ro, []⟩, ⟨PORTER_STAT.CFG_REJ, .w1c, []⟩, ⟨PORTER_STAT.RST_ERR, .w1c, []⟩, ⟨PORTER_STAT.LOST, .rc, []⟩]⟩,
   ⟨0x10018, 0x0, 1, 0x0, 1, fun _ _ => [⟨DMA_RESTART.CHAN, .own, []⟩]⟩,
   ⟨0x10040, 0x4, 13, 0x0, 1, fun i _ => [⟨DMA_HALT_SUM.HALTED i, .ro, []⟩]⟩,
   ⟨0x11000, 0x20, 256, 0x0, 1, fun i _ => [⟨SUB_BASE_LO.ADDR i, .rw, []⟩]⟩,
   ⟨0x11004, 0x20, 256, 0x0, 1, fun i _ => [⟨SUB_BASE_HI.ADDR i, .rw, []⟩]⟩,
   ⟨0x11008, 0x20, 256, 0x0, 1, fun i _ => [⟨SUB_CFG.EN i, .own, []⟩, ⟨SUB_CFG.BURST i, .rw, []⟩, ⟨SUB_CFG.ERR_RRING i, .rw, []⟩, ⟨SUB_CFG.SIZE_M1 i, .rw, []⟩]⟩,
   ⟨0x1100C, 0x20, 256, 0x0, 1, fun i _ => [⟨SUB_HEAD.HEAD i, .ro, []⟩]⟩]

/-- Registers SUB_TAIL to CADDY_RGN_TAG (R624, R625). -/
def regRows1 : List RegRow := open R in
  [⟨0x11010, 0x20, 256, 0x0, 1, fun i _ => [⟨SUB_TAIL.TAIL i, .ro, []⟩]⟩,
   ⟨0x11014, 0x20, 256, 0x0, 1, fun i _ => [⟨SUB_STAT.HALTED i, .ro, []⟩, ⟨SUB_STAT.CFG_REJ i, .w1c, []⟩, ⟨SUB_STAT.STALLED i, .ro, []⟩]⟩,
   ⟨0x13000, 0x20, 256, 0x0, 1, fun i _ => [⟨RCP_BASE_LO.ADDR i, .rw, []⟩]⟩,
   ⟨0x13004, 0x20, 256, 0x0, 1, fun i _ => [⟨RCP_BASE_HI.ADDR i, .rw, []⟩]⟩,
   ⟨0x13008, 0x20, 256, 0x0, 1, fun i _ => [⟨RCP_CFG.EN i, .own, []⟩, ⟨RCP_CFG.DRAINING i, .ro, []⟩, ⟨RCP_CFG.VECTOR i, .rw, []⟩, ⟨RCP_CFG.SIZE_M1 i, .rw, []⟩]⟩,
   ⟨0x1300C, 0x20, 256, 0x0, 1, fun i _ => [⟨RCP_COAL.ERR_NOW i, .rw, []⟩, ⟨RCP_COAL.COUNT i, .rw, []⟩, ⟨RCP_COAL.TIME i, .rw, []⟩]⟩,
   ⟨0x13010, 0x20, 256, 0x0, 1, fun i _ => [⟨RCP_HEAD.HEAD i, .ro, []⟩]⟩,
   ⟨0x13014, 0x20, 256, 0x0, 1, fun i _ => [⟨RCP_TAIL.PHASE i, .ro, []⟩, ⟨RCP_TAIL.TAIL i, .ro, []⟩]⟩,
   ⟨0x13018, 0x20, 256, 0x0, 1, fun i _ => [⟨RCP_STAT.BAD_HEAD i, .w1c, []⟩, ⟨RCP_STAT.CFG_REJ i, .w1c, []⟩, ⟨RCP_STAT.RESERVED i, .ro, []⟩]⟩,
   ⟨0x16000, 0x10, 389, 0x0, 1, fun i _ => [⟨HALT_W0.CAUSE i, .ro, []⟩, ⟨HALT_W0.SRING i, .ro, []⟩, ⟨HALT_W0.CID i, .ro, []⟩]⟩,
   ⟨0x16008, 0x10, 389, 0x0, 1, fun i _ => [⟨HALT_ADDR_LO.ADDR i, .ro, []⟩]⟩,
   ⟨0x1600C, 0x10, 389, 0x0, 1, fun i _ => [⟨HALT_ADDR_HI.ADDR i, .ro, []⟩]⟩,
   ⟨0x30000, 0x10, 2048, 0x0, 1, fun i _ => [⟨MSIX_ADDR_LO.ADDR i, .rw, []⟩]⟩,
   ⟨0x30004, 0x10, 2048, 0x0, 1, fun i _ => [⟨MSIX_ADDR_HI.ADDR i, .rw, []⟩]⟩,
   ⟨0x30008, 0x10, 2048, 0x0, 1, fun i _ => [⟨MSIX_DATA.DATA i, .rw, []⟩]⟩,
   ⟨0x3000C, 0x10, 2048, 0x0, 1, fun i _ => [⟨MSIX_CTL.MASK i, .rw, []⟩]⟩,
   ⟨0x38000, 0x4, 64, 0x0, 1, fun i _ => [⟨MSIX_PBA.PEND i, .ro, []⟩]⟩,
   ⟨0x40000, 0x0, 1, 0x0, 1, fun _ _ => [⟨CADDY_CTL.EN, .own, []⟩, ⟨CADDY_CTL.REJ, .w1c, []⟩]⟩,
   ⟨0x40004, 0x0, 1, 0x0, 1, fun _ _ => [⟨CADDY_STAT.WAITING, .ro, []⟩]⟩,
   ⟨0x40008, 0x0, 1, 0x0, 1, fun _ _ => [⟨CADDY_RECLAIM.GO, .own, []⟩, ⟨CADDY_RECLAIM.REJ, .w1c, []⟩, ⟨CADDY_RECLAIM.ID, .rw, []⟩]⟩,
   ⟨0x40100, 0x20, 16, 0x0, 1, fun i _ => [⟨CADDY_RGN_CFG.EN i, .own, []⟩, ⟨CADDY_RGN_CFG.FENCE i, .rw, []⟩, ⟨CADDY_RGN_CFG.CLASS i, .rw, []⟩, ⟨CADDY_RGN_CFG.USERS i, .rw, []⟩, ⟨CADDY_RGN_CFG.COUNT i, .rw, []⟩]⟩,
   ⟨0x40104, 0x20, 16, 0x0, 1, fun i _ => [⟨CADDY_RGN_BASE_LO.ADDR i, .rw, []⟩]⟩,
   ⟨0x40108, 0x20, 16, 0x0, 1, fun i _ => [⟨CADDY_RGN_BASE_HI.ADDR i, .rw, []⟩]⟩,
   ⟨0x4010C, 0x20, 16, 0x0, 1, fun i _ => [⟨CADDY_RGN_TAG.FIRST i, .rw, []⟩]⟩]

/-- Registers CADDY_RGN_FREE to SCRUB_LAST_UC_LO (R624, R625). -/
def regRows2 : List RegRow := open R in
  [⟨0x40110, 0x20, 16, 0x0, 1, fun i _ => [⟨CADDY_RGN_FREE.FREE i, .ro, []⟩]⟩,
   ⟨0x40114, 0x20, 16, 0x0, 1, fun i _ => [⟨CADDY_RGN_HELD.HELD i, .ro, []⟩]⟩,
   ⟨0x40118, 0x20, 16, 0x0, 1, fun i _ => [⟨CADDY_RGN_FLAGS.CFG_REJ i, .w1c, []⟩]⟩,
   ⟨0x41000, 0x4, 256, 0x0, 1, fun i _ => [⟨CADDY_QUOTA.Q16M i, .rw, []⟩, ⟨CADDY_QUOTA.Q1M i, .rw, []⟩, ⟨CADDY_QUOTA.Q64K i, .rw, []⟩, ⟨CADDY_QUOTA.Q4K i, .rw, []⟩]⟩,
   ⟨0x41400, 0x4, 256, 0x0, 1, fun i _ => [⟨CADDY_HELD.H16M i, .ro, []⟩, ⟨CADDY_HELD.H1M i, .ro, []⟩, ⟨CADDY_HELD.H64K i, .ro, []⟩, ⟨CADDY_HELD.H4K i, .ro, []⟩]⟩,
   ⟨0x41800, 0x4, 256, 0x0, 1, fun i _ => [⟨CADDY_FAULT.COUNT i, .rc, []⟩]⟩,
   ⟨0x50000, 0x0, 1, 0x0, 1, fun _ _ => [⟨DRAM_CTL.TRAIN, .own, []⟩, ⟨DRAM_CTL.FILL_DONE, .ro, []⟩, ⟨DRAM_CTL.TRAIN_REJ, .w1c, []⟩, ⟨DRAM_CTL.RESUME, .rw, []⟩, ⟨DRAM_CTL.MASK, .rw, []⟩]⟩,
   ⟨0x50010, 0x4, 8, 0x0, 1, fun i _ => [⟨DRAM_CFG.PRESENT i, .own, []⟩, ⟨DRAM_CFG.RANKS i, .own, []⟩, ⟨DRAM_CFG.DENS i, .own, []⟩, ⟨DRAM_CFG.RATE i, .own, []⟩]⟩,
   ⟨0x50030, 0x4, 8, 0x0, 1, fun i _ => [⟨DRAM_STAT.STATE i, .ro, []⟩, ⟨DRAM_STAT.CFG_REJ i, .w1c, []⟩, ⟨DRAM_STAT.HELD i, .ro, []⟩, ⟨DRAM_STAT.SIZE i, .ro, []⟩, ⟨DRAM_STAT.FAIL_STEP i, .ro, []⟩]⟩,
   ⟨0x50050, 0x4, 8, 0x0, 1, fun i _ => [⟨DRAM_ECC.CORR i, .rc, []⟩, ⟨DRAM_ECC.UNCORR i, .rc, []⟩]⟩,
   ⟨0x50070, 0x4, 8, 0x0, 1, fun i _ => [⟨DRAM_DEV.VALID i, .ro, []⟩, ⟨DRAM_DEV.SUB i, .ro, []⟩, ⟨DRAM_DEV.RANK i, .ro, []⟩, ⟨DRAM_DEV.DEV i, .ro, []⟩]⟩,
   ⟨0x50090, 0x0, 1, 0x0, 1, fun _ _ => [⟨DRAM_RETIRE.GO, .own, []⟩, ⟨DRAM_RETIRE.REJ, .w1c, []⟩, ⟨DRAM_RETIRE.REASON, .ro, []⟩, ⟨DRAM_RETIRE.CHAN, .rw, []⟩]⟩,
   ⟨0x500A0, 0x0, 1, 0x0, 1, fun _ _ => [⟨SCRUB_CTL.GO, .own, []⟩, ⟨SCRUB_CTL.STOP, .own, []⟩, ⟨SCRUB_CTL.DONE, .w1c, []⟩, ⟨SCRUB_CTL.ERR, .w1c, []⟩, ⟨SCRUB_CTL.VEC_EN, .rw, []⟩, ⟨SCRUB_CTL.VECTOR, .rw, []⟩, ⟨SCRUB_CTL.RATE, .rw, []⟩]⟩,
   ⟨0x500A4, 0x0, 1, 0x0, 1, fun _ _ => [⟨SCRUB_START_LO.ADDR, .rw, []⟩]⟩,
   ⟨0x500A8, 0x0, 1, 0x0, 1, fun _ _ => [⟨SCRUB_START_HI.ADDR, .rw, []⟩]⟩,
   ⟨0x500AC, 0x0, 1, 0x0, 1, fun _ _ => [⟨SCRUB_LAST_LO.ADDR, .rw, []⟩]⟩,
   ⟨0x500B0, 0x0, 1, 0x0, 1, fun _ _ => [⟨SCRUB_LAST_HI.ADDR, .rw, []⟩]⟩,
   ⟨0x500B4, 0x0, 1, 0x0, 1, fun _ _ => [⟨SCRUB_POS_LO.ADDR, .ro, []⟩]⟩,
   ⟨0x500B8, 0x0, 1, 0x0, 1, fun _ _ => [⟨SCRUB_POS_HI.ADDR, .ro, []⟩]⟩,
   ⟨0x500BC, 0x0, 1, 0x0, 1, fun _ _ => [⟨SCRUB_CORR.COUNT, .ro, []⟩]⟩,
   ⟨0x500C0, 0x0, 1, 0x0, 1, fun _ _ => [⟨SCRUB_UNCORR.COUNT, .ro, []⟩]⟩,
   ⟨0x500C4, 0x0, 1, 0x0, 1, fun _ _ => [⟨SCRUB_FIRST_UC_LO.ADDR, .ro, []⟩]⟩,
   ⟨0x500C8, 0x0, 1, 0x0, 1, fun _ _ => [⟨SCRUB_FIRST_UC_HI.ADDR, .ro, []⟩]⟩,
   ⟨0x500CC, 0x0, 1, 0x0, 1, fun _ _ => [⟨SCRUB_LAST_UC_LO.ADDR, .ro, []⟩]⟩]

/-- Registers SCRUB_LAST_UC_HI to MC_CTL (R624, R625). -/
def regRows3 : List RegRow := open R in
  [⟨0x500D0, 0x0, 1, 0x0, 1, fun _ _ => [⟨SCRUB_LAST_UC_HI.ADDR, .ro, []⟩]⟩,
   ⟨0x500D4, 0x0, 1, 0x0, 1, fun _ _ => [⟨SCRUB_TIME.COUNT, .ro, []⟩]⟩,
   ⟨0x60000, 0x0, 1, 0x0, 1, fun _ _ => [⟨CACHE_WAY_EN.REJ, .w1c, []⟩, ⟨CACHE_WAY_EN.EN, .own, []⟩]⟩,
   ⟨0x60004, 0x0, 1, 0x0, 1, fun _ _ => [⟨CACHE_WAY_STAT.CLEANING, .ro, []⟩, ⟨CACHE_WAY_STAT.ACTIVE, .ro, []⟩]⟩,
   ⟨0x60010, 0x4, 8, 0x0, 1, fun i _ => [⟨CACHE_SCRATCH.EN i, .own, []⟩, ⟨CACHE_SCRATCH.READY i, .ro, []⟩, ⟨CACHE_SCRATCH.REJ i, .w1c, []⟩, ⟨CACHE_SCRATCH.WAY i, .rw, []⟩]⟩,
   ⟨0x60040, 0x0, 1, 0x0, 1, fun _ _ => [⟨CACHE_OP.GO, .own, []⟩, ⟨CACHE_OP.ERR, .w1c, []⟩, ⟨CACHE_OP.OP, .rw, []⟩]⟩,
   ⟨0x60044, 0x0, 1, 0x0, 1, fun _ _ => [⟨CACHE_OP_ADDR_LO.ADDR, .rw, []⟩]⟩,
   ⟨0x60048, 0x0, 1, 0x0, 1, fun _ _ => [⟨CACHE_OP_ADDR_HI.ADDR, .rw, []⟩]⟩,
   ⟨0x60050, 0x0, 1, 0x0, 1, fun _ _ => [⟨CACHE_HIT.COUNT, .rc, []⟩]⟩,
   ⟨0x60054, 0x0, 1, 0x0, 1, fun _ _ => [⟨CACHE_MISS.COUNT, .rc, []⟩]⟩,
   ⟨0x60058, 0x0, 1, 0x0, 1, fun _ _ => [⟨CACHE_WB.COUNT, .rc, []⟩]⟩,
   ⟨0x6005C, 0x0, 1, 0x0, 1, fun _ _ => [⟨CACHE_ECC.CORR, .rc, []⟩, ⟨CACHE_ECC.UNCORR, .rc, []⟩]⟩,
   ⟨0x60060, 0x0, 1, 0x0, 1, fun _ _ => [⟨CACHE_EVB.PEAK, .rc, []⟩, ⟨CACHE_EVB.FILL, .ro, []⟩]⟩,
   ⟨0x70000, 0x0, 1, 0x0, 1, fun _ _ => [⟨STRIPE_STAT.BUSY, .ro, []⟩, ⟨STRIPE_STAT.QUEUED, .ro, []⟩]⟩,
   ⟨0x70004, 0x0, 1, 0x0, 1, fun _ _ => [⟨STRIPE_CNT.ENCODED, .rc, []⟩, ⟨STRIPE_CNT.REBUILT, .rc, []⟩]⟩,
   ⟨0x70008, 0x0, 1, 0x0, 1, fun _ _ => [⟨STRIPE_BYTES_LO.BYTES, .ro, []⟩]⟩,
   ⟨0x7000C, 0x0, 1, 0x0, 1, fun _ _ => [⟨STRIPE_BYTES_HI.BYTES, .ro, []⟩]⟩,
   ⟨0x80000, 0x0, 1, 0x0, 1, fun _ _ => [⟨FIX_STAT.BUSY, .ro, []⟩, ⟨FIX_STAT.WAITING, .ro, []⟩]⟩,
   ⟨0x80004, 0x0, 1, 0x0, 1, fun _ _ => [⟨FIX_CNT.RECORDS, .rc, []⟩, ⟨FIX_CNT.MISMATCH, .rc, []⟩]⟩,
   ⟨0x80100, 0x4, 16, 0x0, 1, fun i _ => [⟨KEY_DATA.DATA i, .wo, []⟩]⟩,
   ⟨0x80140, 0x0, 1, 0x0, 1, fun _ _ => [⟨KEY_CTL.LOAD, .own, []⟩, ⟨KEY_CTL.CLEAR, .own, []⟩, ⟨KEY_CTL.CLEAR_ALL, .own, []⟩, ⟨KEY_CTL.SLOT, .rw, []⟩]⟩,
   ⟨0x80144, 0x0, 1, 0x0, 1, fun _ _ => [⟨KEY_STAT.FULL, .ro, []⟩, ⟨KEY_STAT.KEY_REJ, .w1c, []⟩, ⟨KEY_STAT.CLEARED, .w1c, []⟩, ⟨KEY_STAT.CLEAR_CAUSE, .ro, []⟩, ⟨KEY_STAT.FULL_COUNT, .ro, []⟩]⟩,
   ⟨0x80148, 0x0, 1, 0x0, 1, fun _ _ => [⟨CRYPTO_CNT.MISSING, .rc, []⟩, ⟨CRYPTO_CNT.SUSPECT, .rc, []⟩]⟩,
   ⟨0x90000, 0x0, 1, 0x0, 1, fun _ _ => [⟨MC_CTL.CLEAR_ID, .own, []⟩, ⟨MC_CTL.ROLL_EN, .rw, []⟩, ⟨MC_CTL.VECTOR, .rw, []⟩]⟩]

/-- Registers MC_UID to FP_RETX (R624, R625). -/
def regRows4 : List RegRow := open R in
  [⟨0x90004, 0x0, 1, 0x0, 1, fun _ _ => [⟨MC_UID.VALID, .ro, []⟩, ⟨MC_UID.ID, .ro, []⟩]⟩,
   ⟨0x90008, 0x0, 1, 0x0, 1, fun _ _ => [⟨MC_STAT.LOCK, .ro, []⟩, ⟨MC_STAT.CRC_ERR, .rc, []⟩]⟩,
   ⟨0x9000C, 0x0, 1, 0x0, 1, fun _ _ => [⟨MC_UNITS.UNITS, .rw, []⟩]⟩,
   ⟨0x90010, 0x0, 1, 0x0, 1, fun _ _ => [⟨EPOCH.EPOCH, .own, []⟩]⟩,
   ⟨0x90014, 0x0, 1, 0x0, 1, fun _ _ => [⟨EPOCH_CTL.VALID, .ro, []⟩, ⟨EPOCH_CTL.PENDING, .ro, []⟩, ⟨EPOCH_CTL.CANCEL, .own, []⟩, ⟨EPOCH_CTL.REJ, .w1c, []⟩, ⟨EPOCH_CTL.PEND_TARGET, .ro, []⟩, ⟨EPOCH_CTL.PREV_MODE, .ro, []⟩]⟩,
   ⟨0x90018, 0x0, 1, 0x0, 1, fun _ _ => [⟨EPOCH_PEND.E, .ro, []⟩]⟩,
   ⟨0x9001C, 0x0, 1, 0x0, 1, fun _ _ => [⟨MODE_DL.DEADLINE, .rw, []⟩]⟩,
   ⟨0x91000, 0x0, 1, 0x0, 1, fun _ _ => [⟨FAB_CTL.EN, .own, []⟩, ⟨FAB_CTL.AUTH, .rw, []⟩, ⟨FAB_CTL.KEY, .rw, []⟩, ⟨FAB_CTL.SEG, .rw, [3]⟩, ⟨FAB_CTL.REJ, .w1c, []⟩, ⟨FAB_CTL.VECTOR, .rw, []⟩]⟩,
   ⟨0x91004, 0x0, 1, 0x0, 1, fun _ _ => [⟨FAB_NET.VID, .rw, []⟩, ⟨FAB_NET.PCP, .rw, []⟩, ⟨FAB_NET.PFC_EN, .rw, []⟩, ⟨FAB_NET.HOP, .rw, []⟩, ⟨FAB_NET.TCLASS, .rw, []⟩]⟩,
   ⟨0x91008, 0x0, 1, 0x0, 1, fun _ _ => [⟨FAB_UDP.DPORT, .rw, []⟩]⟩,
   ⟨0x9100C, 0x0, 1, 0x0, 1, fun _ _ => [⟨FAB_IID.IID_HI, .rw, []⟩]⟩,
   ⟨0x91010, 0x0, 1, 0x0, 1, fun _ _ => [⟨FAB_SESSION.SESSION, .rw, []⟩]⟩,
   ⟨0x91014, 0x0, 1, 0x0, 1, fun _ _ => [⟨FAB_TMO.RTO, .rw, []⟩, ⟨FAB_TMO.PEER_TMO, .rw, []⟩]⟩,
   ⟨0x91018, 0x0, 1, 0x0, 1, fun _ _ => [⟨FAB_LIM.RETRY_MAX, .rw, []⟩, ⟨FAB_LIM.AUTH_MAX, .rw, []⟩, ⟨FAB_LIM.HOLD_T, .rw, []⟩, ⟨FAB_LIM.WIN_FRAMES, .rw, []⟩]⟩,
   ⟨0x91100, 0x40, 2, 0x0, 1, fun i _ => [⟨FP_PREFIX_HI.ADDR i, .rw, []⟩]⟩,
   ⟨0x91104, 0x40, 2, 0x0, 1, fun i _ => [⟨FP_PREFIX_LO.ADDR i, .rw, []⟩]⟩,
   ⟨0x91108, 0x40, 2, 0x0, 1, fun i _ => [⟨FP_MAC_HI.ADDR i, .rw, []⟩]⟩,
   ⟨0x9110C, 0x40, 2, 0x0, 1, fun i _ => [⟨FP_MAC_LO.ADDR i, .rw, []⟩]⟩,
   ⟨0x91110, 0x40, 2, 0x0, 1, fun i _ => [⟨FP_NH_HI.ADDR i, .rw, []⟩]⟩,
   ⟨0x91114, 0x40, 2, 0x0, 1, fun i _ => [⟨FP_NH_LO.ADDR i, .rw, []⟩]⟩,
   ⟨0x91118, 0x40, 2, 0x0, 1, fun i _ => [⟨FP_STAT.LINK i, .ro, []⟩, ⟨FP_STAT.PFC_RX i, .ro, []⟩, ⟨FP_STAT.LINK_DOWNS i, .rc, []⟩]⟩,
   ⟨0x9111C, 0x40, 2, 0x0, 1, fun i _ => [⟨FP_TX.COUNT i, .rc, []⟩]⟩,
   ⟨0x91120, 0x40, 2, 0x0, 1, fun i _ => [⟨FP_RX.COUNT i, .rc, []⟩]⟩,
   ⟨0x91124, 0x40, 2, 0x0, 1, fun i _ => [⟨FP_RETX.COUNT i, .rc, []⟩]⟩]

/-- Registers FP_DROP to PWR_REQ (R624, R625). -/
def regRows5 : List RegRow := open R in
  [⟨0x91128, 0x40, 2, 0x0, 1, fun i _ => [⟨FP_DROP.AUTH i, .rc, []⟩, ⟨FP_DROP.STALE i, .rc, []⟩]⟩,
   ⟨0x9112C, 0x40, 2, 0x0, 1, fun i _ => [⟨FP_XFERS.INUSE i, .ro, []⟩]⟩,
   ⟨0x91200, 0x20, 16, 0x0, 1, fun i _ => [⟨FW_CFG.EN i, .own, []⟩, ⟨FW_CFG.PUT i, .rw, []⟩, ⟨FW_CFG.GET i, .rw, []⟩, ⟨FW_CFG.REJ i, .w1c, []⟩]⟩,
   ⟨0x91204, 0x20, 16, 0x0, 1, fun i _ => [⟨FW_BASE_LO.ADDR i, .rw, []⟩]⟩,
   ⟨0x91208, 0x20, 16, 0x0, 1, fun i _ => [⟨FW_BASE_HI.ADDR i, .rw, []⟩]⟩,
   ⟨0x9120C, 0x20, 16, 0x0, 1, fun i _ => [⟨FW_SIZE.PAGES i, .rw, []⟩]⟩,
   ⟨0x91210, 0x20, 16, 0x0, 1, fun i _ => [⟨FW_WKEY.WKEY i, .rw, []⟩]⟩,
   ⟨0x91400, 0x4, 8, 0x0, 1, fun i _ => [⟨FAB_KEY_DATA.DATA i, .wo, []⟩]⟩,
   ⟨0x91420, 0x0, 1, 0x0, 1, fun _ _ => [⟨FAB_KEY_CTL.LOAD, .own, []⟩, ⟨FAB_KEY_CTL.CLEAR, .own, []⟩, ⟨FAB_KEY_CTL.REJ, .w1c, []⟩, ⟨FAB_KEY_CTL.FULL1, .ro, []⟩, ⟨FAB_KEY_CTL.FULL0, .ro, []⟩, ⟨FAB_KEY_CTL.SLOT, .rw, []⟩]⟩,
   ⟨0xA0000, 0x0, 1, 0x0, 1, fun _ _ => [⟨SUP_STAT.SRC, .ro, []⟩, ⟨SUP_STAT.VBAK_LOW, .w1c, []⟩, ⟨SUP_STAT.LATCH, .ro, []⟩, ⟨SUP_STAT.INTLK, .ro, []⟩, ⟨SUP_STAT.VBAK_MV, .ro, []⟩]⟩,
   ⟨0xA0004, 0x0, 1, 0x0, 1, fun _ _ => [⟨LUGGAGE_STATUS.OUTCOME, .ro, []⟩]⟩,
   ⟨0xA0008, 0x0, 1, 0x0, 1, fun _ _ => [⟨LUG_CTL.SEAL, .own, []⟩, ⟨LUG_CTL.SEALED, .ro, []⟩, ⟨LUG_CTL.REJ, .w1c, []⟩]⟩,
   ⟨0xA000C, 0x0, 1, 0x0, 1, fun _ _ => [⟨LUG_ADDR.ADDR, .rw, []⟩]⟩,
   ⟨0xA0010, 0x0, 1, 0x0, 1, fun _ _ => [⟨LUG_DATA.DATA, .own, []⟩]⟩,
   ⟨0xA0100, 0x0, 1, 0x0, 1, fun _ _ => [⟨RTC_SEC_LO.SEC, .ro, []⟩]⟩,
   ⟨0xA0104, 0x0, 1, 0x0, 1, fun _ _ => [⟨RTC_SEC_HI.SEC, .ro, []⟩]⟩,
   ⟨0xA0108, 0x0, 1, 0x0, 1, fun _ _ => [⟨RTC_SUB.SUB, .ro, []⟩]⟩,
   ⟨0xA010C, 0x0, 1, 0x0, 1, fun _ _ => [⟨RTC_DATE.YEAR, .ro, []⟩, ⟨RTC_DATE.MONTH, .ro, []⟩, ⟨RTC_DATE.DAY, .ro, []⟩, ⟨RTC_DATE.WDAY, .ro, []⟩]⟩,
   ⟨0xA0110, 0x0, 1, 0x0, 1, fun _ _ => [⟨RTC_TIME.HOUR, .ro, []⟩, ⟨RTC_TIME.MIN, .ro, []⟩, ⟨RTC_TIME.SEC, .ro, []⟩]⟩,
   ⟨0xA0114, 0x0, 1, 0x0, 1, fun _ _ => [⟨CAL_SET_DATE.YEAR, .rw, []⟩, ⟨CAL_SET_DATE.MONTH, .rw, []⟩, ⟨CAL_SET_DATE.DAY, .rw, []⟩, ⟨CAL_SET_DATE.WDAY, .rw, []⟩]⟩,
   ⟨0xA0118, 0x0, 1, 0x0, 1, fun _ _ => [⟨CAL_SET_TIME.HOUR, .rw, []⟩, ⟨CAL_SET_TIME.MIN, .rw, []⟩, ⟨CAL_SET_TIME.SEC, .rw, []⟩]⟩,
   ⟨0xA011C, 0x0, 1, 0x0, 1, fun _ _ => [⟨RTC_CTL.CAL_COMMIT, .own, []⟩]⟩,
   ⟨0xA0120, 0x0, 1, 0x0, 1, fun _ _ => [⟨RTC_STAT.VALID, .ro, []⟩, ⟨RTC_STAT.CAL_LIMIT, .ro, []⟩, ⟨RTC_STAT.CAL_REJECT, .w1c, []⟩, ⟨RTC_STAT.RUNNING, .ro, []⟩]⟩,
   ⟨0xA1000, 0x4, 163, 0x0, 1, fun i _ => [⟨PWR_REQ.REQ i, .own, []⟩]⟩]

/-- Registers PWR_STAT to CS_SRC_LO (R624, R625). -/
def regRows6 : List RegRow := open R in
  [⟨0xA1400, 0x4, 163, 0x0, 1, fun i _ => [⟨PWR_STAT.STATE i, .ro, []⟩, ⟨PWR_STAT.BUSY i, .ro, []⟩, ⟨PWR_STAT.REJ i, .w1c, []⟩, ⟨PWR_STAT.FAIL i, .w1c, []⟩, ⟨PWR_STAT.FAIL_STAGE i, .ro, []⟩, ⟨PWR_STAT.RDY i, .ro, []⟩, ⟨PWR_STAT.ABORTS i, .rc, []⟩]⟩,
   ⟨0xB0000, 0x0, 1, 0x0, 1, fun _ _ => [⟨ST_CTL.RESTART_FULL, .own, []⟩, ⟨ST_CTL.NEXT_FULL, .rw, []⟩, ⟨ST_CTL.REJ, .w1c, []⟩]⟩,
   ⟨0xB0004, 0x0, 1, 0x0, 1, fun _ _ => [⟨ST_STAT.START, .ro, []⟩, ⟨ST_STAT.WHY_FULL, .ro, []⟩, ⟨ST_STAT.FAIL_SYS, .ro, []⟩, ⟨ST_STAT.FAIL_PCIE, .ro, []⟩, ⟨ST_STAT.MBIST_FAIL, .ro, []⟩, ⟨ST_STAT.START_MS, .ro, []⟩]⟩,
   ⟨0xB0008, 0x0, 1, 0x0, 1, fun _ _ => [⟨ST_ENV.REF_PPM, .ro, []⟩, ⟨ST_ENV.VDD_MV, .ro, []⟩]⟩,
   ⟨0xB000C, 0x0, 1, 0x0, 1, fun _ _ => [⟨ST_REC.PRESENT, .ro, []⟩, ⟨ST_REC.PASS, .ro, []⟩, ⟨ST_REC.RESTORE_FAIL, .ro, []⟩]⟩,
   ⟨0xC0000, 0x0, 1, 0x0, 1, fun _ _ => [⟨LEDGER_CTL.EN, .own, []⟩, ⟨LEDGER_CTL.IRQ_EN, .rw, []⟩, ⟨LEDGER_CTL.VECTOR, .rw, []⟩, ⟨LEDGER_CTL.HOLD, .rw, []⟩]⟩,
   ⟨0xC0004, 0x0, 1, 0x0, 1, fun _ _ => [⟨LEDGER_BASE_LO.ADDR, .rw, []⟩]⟩,
   ⟨0xC0008, 0x0, 1, 0x0, 1, fun _ _ => [⟨LEDGER_BASE_HI.ADDR, .rw, []⟩]⟩,
   ⟨0xC000C, 0x0, 1, 0x0, 1, fun _ _ => [⟨LEDGER_SIZE.SIZE, .rw, []⟩]⟩,
   ⟨0xC0010, 0x0, 1, 0x0, 1, fun _ _ => [⟨LEDGER_HEAD.HEAD, .own, []⟩]⟩,
   ⟨0xC0014, 0x0, 1, 0x0, 1, fun _ _ => [⟨LEDGER_TAIL.PHASE, .ro, []⟩, ⟨LEDGER_TAIL.TAIL, .ro, []⟩]⟩,
   ⟨0xC0018, 0x0, 1, 0x0, 1, fun _ _ => [⟨LEDGER_STAT.OVERRUN, .w1c, []⟩, ⟨LEDGER_STAT.BAD_HEAD, .w1c, []⟩, ⟨LEDGER_STAT.EARLY_LOST, .w1c, []⟩, ⟨LEDGER_STAT.FULL, .ro, []⟩, ⟨LEDGER_STAT.CFG_REJ, .w1c, []⟩, ⟨LEDGER_STAT.SLOTS, .ro, []⟩]⟩,
   ⟨0xC001C, 0x0, 1, 0x0, 1, fun _ _ => [⟨LEDGER_DROPS.DROPS, .rc, []⟩]⟩,
   ⟨0xC0020, 0x0, 1, 0x0, 1, fun _ _ => [⟨LEDGER_COAL.COAL, .rc, []⟩]⟩,
   ⟨0xC0024, 0x0, 1, 0x0, 1, fun _ _ => [⟨LEDGER_SEQ.SEQ, .ro, []⟩]⟩,
   ⟨0xC0100, 0x0, 1, 0x0, 1, fun _ _ => [⟨GTRC_CTL.STREAMS, .rw, []⟩, ⟨GTRC_CTL.BAY, .rw, []⟩]⟩,
   ⟨0xC0104, 0x0, 1, 0x0, 1, fun _ _ => [⟨GTRC_ARM.ARM, .own, []⟩, ⟨GTRC_ARM.FORCE, .own, []⟩, ⟨GTRC_ARM.TRIG_MASK, .ro, []⟩, ⟨GTRC_ARM.FORCE_PRE, .rw, []⟩]⟩,
   ⟨0xC0108, 0x0, 1, 0x0, 1, fun _ _ => [⟨GTRC_STAT.ACTIVE, .ro, []⟩, ⟨GTRC_STAT.TRIGGERED, .ro, []⟩, ⟨GTRC_STAT.DONE, .ro, []⟩, ⟨GTRC_STAT.FIRST, .ro, []⟩, ⟨GTRC_STAT.TRIG_IDX, .ro, []⟩]⟩,
   ⟨0xC010C, 0x0, 1, 0x0, 1, fun _ _ => [⟨GTRC_PAGE.PAGE, .rw, []⟩]⟩,
   ⟨0xC0110, 0x0, 1, 0x0, 1, fun _ _ => [⟨GTRC_LOST.LOST, .rc, []⟩]⟩,
   ⟨0xC0120, 0x8, 4, 0x0, 1, fun i _ => [⟨GTRC_CMP.EN i, .rw, []⟩, ⟨GTRC_CMP.STREAM i, .rw, []⟩, ⟨GTRC_CMP.STREAM_ANY i, .rw, []⟩, ⟨GTRC_CMP.SOURCE i, .rw, []⟩, ⟨GTRC_CMP.CODE i, .rw, []⟩]⟩,
   ⟨0xC0124, 0x8, 4, 0x0, 1, fun i _ => [⟨GTRC_MASK.PRE i, .rw, []⟩, ⟨GTRC_MASK.SRC_MASK i, .rw, []⟩, ⟨GTRC_MASK.CODE_MASK i, .rw, []⟩]⟩,
   ⟨0xD0000, 0x100, 4, 0x0, 1, fun i _ => [⟨CS_CTL.LOAD i, .own, []⟩, ⟨CS_CTL.VERIFY i, .own, []⟩, ⟨CS_CTL.ACTIVATE i, .own, []⟩, ⟨CS_CTL.CONFIRM i, .own, []⟩, ⟨CS_CTL.REVERT i, .own, []⟩, ⟨CS_CTL.BANK i, .rw, []⟩]⟩,
   ⟨0xD0004, 0x100, 4, 0x0, 1, fun i _ => [⟨CS_SRC_LO.ADDR i, .rw, []⟩]⟩]

/-- Registers CS_SRC_HI to FE_ALERT (R624, R625). -/
def regRows7 : List RegRow := open R in
  [⟨0xD0008, 0x100, 4, 0x0, 1, fun i _ => [⟨CS_SRC_HI.ADDR i, .rw, []⟩]⟩,
   ⟨0xD000C, 0x100, 4, 0x0, 1, fun i _ => [⟨CS_STAT.STATE_B i, .ro, []⟩, ⟨CS_STAT.STATE_A i, .ro, []⟩, ⟨CS_STAT.UPD i, .ro, []⟩, ⟨CS_STAT.CONFIRMED i, .w1c, []⟩, ⟨CS_STAT.REVERTED i, .w1c, []⟩, ⟨CS_STAT.REJ i, .w1c, []⟩, ⟨CS_STAT.REASON i, .ro, []⟩, ⟨CS_STAT.SWITCHED i, .ro, []⟩]⟩,
   ⟨0xD0010, 0x100, 4, 0x0, 1, fun i _ => [⟨USTORE_SEL.PREV i, .ro, []⟩, ⟨USTORE_SEL.BANK i, .own, []⟩]⟩,
   ⟨0xD0014, 0x100, 4, 0x0, 1, fun i _ => [⟨CS_TMO.CONFIRM_TMO i, .rw, []⟩, ⟨CS_TMO.ACT_TMO i, .rw, []⟩]⟩,
   ⟨0xD0018, 0x100, 4, 0x0, 1, fun i _ => [⟨CS_ERR.CORR i, .rc, []⟩, ⟨CS_ERR.UNCORR i, .rc, []⟩]⟩,
   ⟨0xD001C, 0x100, 4, 0x0, 1, fun i _ => [⟨CS_BAD.VALID i, .ro, []⟩, ⟨CS_BAD.BANK i, .ro, []⟩, ⟨CS_BAD.ADDR i, .ro, []⟩]⟩,
   ⟨0xD0020, 0x100, 4, 0x8, 2, fun i j => [⟨HOOK_LO.MASK i j, .ro, []⟩]⟩,
   ⟨0xD0024, 0x100, 4, 0x8, 2, fun i j => [⟨HOOK_HI.MASK i j, .ro, []⟩]⟩,
   ⟨0xD0030, 0x100, 4, 0x4, 2, fun i j => [⟨VREV.VENDOR_REV i j, .ro, []⟩]⟩,
   ⟨0xD0038, 0x100, 4, 0x0, 1, fun i _ => [⟨STATE_FMT.FMT_B i, .ro, []⟩, ⟨STATE_FMT.FMT_A i, .ro, []⟩]⟩,
   ⟨0xD1000, 0x80, 32, 0x0, 1, fun i _ => [⟨SEQ_CTL.RELEASE i, .own, []⟩, ⟨SEQ_CTL.RESET i, .own, []⟩, ⟨SEQ_CTL.HALT i, .own, []⟩, ⟨SEQ_CTL.STEP i, .own, []⟩, ⟨SEQ_CTL.RESUME i, .own, []⟩, ⟨SEQ_CTL.REJ i, .w1c, []⟩]⟩,
   ⟨0xD1004, 0x80, 32, 0x0, 1, fun i _ => [⟨SEQ_STAT.STATE i, .ro, []⟩, ⟨SEQ_STAT.FRAME_BUSY i, .ro, []⟩, ⟨SEQ_STAT.BANK i, .ro, []⟩, ⟨SEQ_STAT.SP i, .ro, []⟩, ⟨SEQ_STAT.LAST_CAUSE i, .ro, []⟩, ⟨SEQ_STAT.DOUBLE i, .ro, []⟩, ⟨SEQ_STAT.UPC i, .ro, []⟩]⟩,
   ⟨0xD1008, 0x80, 32, 0x0, 1, fun i _ => [⟨SEQ_TRAPS.TRAPS i, .rc, []⟩, ⟨SEQ_TRAPS.HOOK_FAULTS i, .rc, []⟩]⟩,
   ⟨0xD1040, 0x80, 32, 0x4, 16, fun i j => [⟨SEQ_FRAME.DATA i j, .ro, []⟩]⟩,
   ⟨0xD2000, 0x4, 128, 0x0, 1, fun i _ => [⟨BAY_SEQ.GO i, .own, []⟩, ⟨BAY_SEQ.REJ i, .w1c, []⟩, ⟨BAY_SEQ.CUR_SEQ i, .ro, []⟩, ⟨BAY_SEQ.CUR_POS i, .ro, []⟩, ⟨BAY_SEQ.SEQ i, .rw, []⟩, ⟨BAY_SEQ.POS i, .rw, []⟩]⟩,
   ⟨0xD2200, 0x0, 1, 0x0, 1, fun _ _ => [⟨SEQ_UNIT.SEQ, .rw, []⟩]⟩,
   ⟨0x1000000, 0x10000, 128, 0x0, 1, fun i _ => [⟨STATE.CHG_COUNT i, .ro, []⟩, ⟨STATE.PREV i, .ro, []⟩, ⟨STATE.STATE i, .ro, []⟩]⟩,
   ⟨0x1000004, 0x10000, 128, 0x0, 1, fun i _ => [⟨BAY_CTL.ENABLE i, .own, []⟩, ⟨BAY_CTL.REJ i, .w1c, []⟩, ⟨BAY_CTL.SUSP i, .ro, []⟩, ⟨BAY_CTL.MODE i, .ro, []⟩, ⟨BAY_CTL.CADDY i, .ro, []⟩, ⟨BAY_CTL.SEQ i, .ro, []⟩, ⟨BAY_CTL.ZT i, .ro, []⟩, ⟨BAY_CTL.PARAMS i, .ro, []⟩, ⟨BAY_CTL.TABLES i, .ro, []⟩, ⟨BAY_CTL.LOOPS i, .ro, []⟩]⟩,
   ⟨0x1000040, 0x10000, 128, 0x0, 1, fun i _ => [⟨LINK_CTL.WITHDRAW i, .own, []⟩, ⟨LINK_CTL.BAY_RESET i, .own, []⟩, ⟨LINK_CTL.DRAIN_TMO i, .rw, []⟩, ⟨LINK_CTL.ADC_RATE i, .own, []⟩, ⟨LINK_CTL.TRAIN_TMO i, .rw, []⟩]⟩,
   ⟨0x1000044, 0x10000, 128, 0x0, 1, fun i _ => [⟨LINK_STAT.PRESENT i, .ro, []⟩, ⟨LINK_STAT.BLOCK_LOCK i, .ro, []⟩, ⟨LINK_STAT.UP i, .ro, []⟩, ⟨LINK_STAT.LOFF i, .ro, []⟩, ⟨LINK_STAT.WD_REJ i, .w1c, []⟩, ⟨LINK_STAT.FE_REV i, .ro, []⟩, ⟨LINK_STAT.LOSS_COUNT i, .ro, []⟩]⟩,
   ⟨0x1000048, 0x10000, 128, 0x0, 1, fun i _ => [⟨LINK_ERR.CRC_UP i, .rc, []⟩, ⟨LINK_ERR.SEQ_GAP i, .rc, []⟩]⟩,
   ⟨0x100004C, 0x10000, 128, 0x0, 1, fun i _ => [⟨LINK_RTT.RTT i, .ro, []⟩]⟩,
   ⟨0x1000050, 0x10000, 128, 0x0, 1, fun i _ => [⟨FE_TEMP.VALID i, .ro, []⟩, ⟨FE_TEMP.TEMP i, .ro, []⟩]⟩,
   ⟨0x1000054, 0x10000, 128, 0x0, 1, fun i _ => [⟨FE_ALERT.ALERT i, .w1c, []⟩]⟩]

/-- Registers FE_ACC to INF_CTL (R624, R625). -/
def regRows8 : List RegRow := open R in
  [⟨0x1000058, 0x10000, 128, 0x0, 1, fun i _ => [⟨FE_ACC.GO i, .own, []⟩, ⟨FE_ACC.WRITE i, .rw, []⟩, ⟨FE_ACC.ERR i, .w1c, []⟩, ⟨FE_ACC.ADDR i, .rw, []⟩]⟩,
   ⟨0x100005C, 0x10000, 128, 0x0, 1, fun i _ => [⟨FE_DATA.DATA i, .rw, []⟩]⟩,
   ⟨0x1000080, 0x10000, 128, 0x0, 1, fun i _ => [⟨ANG_CTL.TKI_SHIFT i, .rw, []⟩, ⟨ANG_CTL.TKP_SHIFT i, .rw, []⟩, ⟨ANG_CTL.KI_SHIFT i, .rw, []⟩, ⟨ANG_CTL.KP_SHIFT i, .rw, []⟩, ⟨ANG_CTL.ACQ_NEED i, .rw, []⟩, ⟨ANG_CTL.ACQ_TMO i, .rw, []⟩]⟩,
   ⟨0x1000084, 0x10000, 128, 0x0, 1, fun i _ => [⟨ANG_STAT.STATE i, .ro, []⟩, ⟨ANG_STAT.ALIGNED i, .ro, []⟩, ⟨ANG_STAT.ACQ i, .ro, []⟩, ⟨ANG_STAT.BRIDGE i, .ro, []⟩, ⟨ANG_STAT.MISS_RUN i, .ro, []⟩, ⟨ANG_STAT.GOOD_RUN i, .ro, []⟩, ⟨ANG_STAT.LAYER i, .ro, []⟩, ⟨ANG_STAT.LAST_W i, .ro, []⟩]⟩,
   ⟨0x1000088, 0x10000, 128, 0x0, 1, fun i _ => [⟨ANG_NOW.REV i, .ro, []⟩, ⟨ANG_NOW.ANGLE i, .ro, []⟩]⟩,
   ⟨0x100008C, 0x10000, 128, 0x0, 1, fun i _ => [⟨ANG_RATE.RATE i, .ro, []⟩]⟩,
   ⟨0x1000090, 0x10000, 128, 0x0, 1, fun i _ => [⟨ANG_ERR.PEAK i, .rc, []⟩, ⟨ANG_ERR.LAST i, .ro, []⟩]⟩,
   ⟨0x1000094, 0x10000, 128, 0x0, 1, fun i _ => [⟨ANG_MISS.MISSED i, .rc, []⟩, ⟨ANG_MISS.FALSE i, .rc, []⟩]⟩,
   ⟨0x1000098, 0x10000, 128, 0x0, 1, fun i _ => [⟨ANG_TOOTH.SHORT i, .rc, []⟩, ⟨ANG_TOOTH.SYNTH i, .rc, []⟩]⟩,
   ⟨0x100009C, 0x10000, 128, 0x0, 1, fun i _ => [⟨ANG_WR.WITHHELD i, .rc, []⟩, ⟨ANG_WR.VCRIT i, .rc, []⟩, ⟨ANG_WR.ABORTED i, .rc, []⟩]⟩,
   ⟨0x1000100, 0x10000, 128, 0x0, 1, fun i _ => [⟨SRV_CTL.COMMIT i, .own, []⟩, ⟨SRV_CTL.AUTO i, .own, []⟩, ⟨SRV_CTL.EN i, .own, []⟩]⟩,
   ⟨0x1000104, 0x10000, 128, 0x0, 1, fun i _ => [⟨SRV_STAT.REC_VALID i, .ro, []⟩, ⟨SRV_STAT.HELD i, .ro, []⟩, ⟨SRV_STAT.DEF_HOLD i, .ro, []⟩, ⟨SRV_STAT.DEF_OVR i, .w1c, []⟩, ⟨SRV_STAT.BUMP_SAT i, .w1c, []⟩, ⟨SRV_STAT.EN_REJ i, .w1c, []⟩, ⟨SRV_STAT.COMMIT_REJ i, .w1c, []⟩, ⟨SRV_STAT.OUT_SAT i, .w1c, []⟩]⟩,
   ⟨0x1000108, 0x10000, 128, 0x0, 1, fun i _ => [⟨SRV_REF_RATE.REF_RATE i, .rw, []⟩]⟩,
   ⟨0x100010C, 0x10000, 128, 0x0, 1, fun i _ => [⟨SRV_NODE_SAT.FLAGS i, .w1c, []⟩]⟩,
   ⟨0x1000110, 0x10000, 128, 0x0, 1, fun i _ => [⟨SRV_REP_CTL.LEARN i, .rw, []⟩, ⟨SRV_REP_CTL.CLEAR i, .own, []⟩, ⟨SRV_REP_CTL.LEAD i, .rw, []⟩, ⟨SRV_REP_CTL.QSHIFT i, .rw, []⟩, ⟨SRV_REP_CTL.KR i, .rw, []⟩]⟩,
   ⟨0x1000114, 0x10000, 128, 0x0, 1, fun i _ => [⟨SRV_DEF.HOLD_COUNT i, .rc, []⟩, ⟨SRV_DEF.EN i, .rw, []⟩, ⟨SRV_DEF.HOLD_MAX i, .rw, []⟩]⟩,
   ⟨0x1000120, 0x10000, 128, 0x4, 8, fun i j => [⟨SRV_MAN.Q i j, .own, []⟩]⟩,
   ⟨0x1000140, 0x10000, 128, 0x4, 8, fun i j => [⟨SRV_FF.Q i j, .rw, []⟩]⟩,
   ⟨0x1000160, 0x10000, 128, 0x0, 1, fun i _ => [⟨TRC_CTL.LOOP i, .rw, []⟩, ⟨TRC_CTL.DECIM i, .rw, []⟩, ⟨TRC_CTL.SHIFT i, .rw, []⟩, ⟨TRC_CTL.NODE3 i, .rw, []⟩, ⟨TRC_CTL.NODE2 i, .rw, []⟩, ⟨TRC_CTL.NODE1 i, .rw, []⟩, ⟨TRC_CTL.NODE0 i, .rw, []⟩]⟩,
   ⟨0x1000164, 0x10000, 128, 0x0, 1, fun i _ => [⟨TRC_ARM.ARM i, .own, []⟩, ⟨TRC_ARM.FORCE i, .own, []⟩, ⟨TRC_ARM.TRIG_MASK i, .ro, []⟩, ⟨TRC_ARM.FORCE_PRE i, .rw, []⟩]⟩,
   ⟨0x1000168, 0x10000, 128, 0x0, 1, fun i _ => [⟨TRC_STAT.ACTIVE i, .ro, []⟩, ⟨TRC_STAT.TRIGGERED i, .ro, []⟩, ⟨TRC_STAT.DONE i, .ro, []⟩, ⟨TRC_STAT.FIRST i, .ro, []⟩, ⟨TRC_STAT.TRIG_IDX i, .ro, []⟩]⟩,
   ⟨0x100016C, 0x10000, 128, 0x0, 1, fun i _ => [⟨TRC_PAGE.PAGE i, .rw, []⟩]⟩,
   ⟨0x1000170, 0x10000, 128, 0x4, 4, fun i j => [⟨TRC_CMP.THR i j, .rw, []⟩, ⟨TRC_CMP.PRE i j, .rw, []⟩, ⟨TRC_CMP.NODE i j, .rw, []⟩, ⟨TRC_CMP.COND i j, .rw, []⟩]⟩,
   ⟨0x1000180, 0x10000, 128, 0x0, 1, fun i _ => [⟨INF_CTL.START i, .own, []⟩, ⟨INF_CTL.STOP i, .own, []⟩, ⟨INF_CTL.MODE i, .rw, [3]⟩, ⟨INF_CTL.LOOP i, .rw, []⟩, ⟨INF_CTL.POINT i, .rw, []⟩, ⟨INF_CTL.NODE_A i, .rw, []⟩, ⟨INF_CTL.NODE_B i, .rw, []⟩, ⟨INF_CTL.PRBS_N i, .rw, []⟩, ⟨INF_CTL.HOLD i, .rw, []⟩]⟩]

/-- Registers INF_STAT to FT_STAT (R624, R625). -/
def regRows9 : List RegRow := open R in
  [⟨0x1000184, 0x10000, 128, 0x0, 1, fun i _ => [⟨INF_STAT.BUSY i, .ro, []⟩, ⟨INF_STAT.DONE i, .w1c, []⟩, ⟨INF_STAT.REJ i, .w1c, []⟩, ⟨INF_STAT.ABORT i, .w1c, []⟩, ⟨INF_STAT.CAUSE i, .ro, []⟩, ⟨INF_STAT.STEP i, .ro, []⟩, ⟨INF_STAT.SKIPPED i, .ro, []⟩]⟩,
   ⟨0x1000188, 0x10000, 128, 0x0, 1, fun i _ => [⟨INF_AMP.AMP i, .rw, []⟩]⟩,
   ⟨0x100018C, 0x10000, 128, 0x0, 1, fun i _ => [⟨INF_START.INC i, .rw, []⟩]⟩,
   ⟨0x1000190, 0x10000, 128, 0x0, 1, fun i _ => [⟨INF_STOP.INC i, .rw, []⟩]⟩,
   ⟨0x1000194, 0x10000, 128, 0x0, 1, fun i _ => [⟨INF_CYC.STEPS i, .rw, []⟩, ⟨INF_CYC.SETTLE i, .rw, []⟩, ⟨INF_CYC.MEAS i, .rw, []⟩]⟩,
   ⟨0x1000198, 0x10000, 128, 0x0, 1, fun i _ => [⟨INF_AI.Q i, .ro, []⟩]⟩,
   ⟨0x100019C, 0x10000, 128, 0x0, 1, fun i _ => [⟨INF_AQ.Q i, .ro, []⟩]⟩,
   ⟨0x10001A0, 0x10000, 128, 0x0, 1, fun i _ => [⟨INF_BI.Q i, .ro, []⟩]⟩,
   ⟨0x10001A4, 0x10000, 128, 0x0, 1, fun i _ => [⟨INF_BQ.Q i, .ro, []⟩]⟩,
   ⟨0x1000200, 0x10000, 128, 0x0, 1, fun i _ => [⟨FT_CTL.TABLES_OK i, .rw, []⟩, ⟨FT_CTL.FALLBACK_EN i, .rw, []⟩]⟩,
   ⟨0x1000204, 0x10000, 128, 0x0, 1, fun i _ => [⟨FOC_SRCH.SRCH_HI i, .rw, []⟩, ⟨FOC_SRCH.SRCH_LO i, .rw, []⟩]⟩,
   ⟨0x1000208, 0x10000, 128, 0x0, 1, fun i _ => [⟨FOC_ACQ.SRCH_T i, .rw, []⟩, ⟨FOC_ACQ.TRIES i, .rw, []⟩]⟩,
   ⟨0x100020C, 0x10000, 128, 0x0, 1, fun i _ => [⟨FOC_LVL.SUM_ON i, .rw, []⟩, ⟨FOC_LVL.SC_MIN i, .rw, []⟩]⟩,
   ⟨0x1000210, 0x10000, 128, 0x0, 1, fun i _ => [⟨FOC_LOSS.SUM_LOSS i, .rw, []⟩, ⟨FOC_LOSS.LOSS_N i, .rw, []⟩]⟩,
   ⟨0x1000214, 0x10000, 128, 0x0, 1, fun i _ => [⟨FOC_NORM.NORM i, .rw, []⟩, ⟨FOC_NORM.P_READ i, .rw, []⟩]⟩,
   ⟨0x1000218, 0x10000, 128, 0x0, 1, fun i _ => [⟨LJ_KICK.AMP i, .rw, []⟩, ⟨LJ_KICK.KICK_T i, .rw, []⟩]⟩,
   ⟨0x100021C, 0x10000, 128, 0x0, 1, fun i _ => [⟨LJ_BRAKE.AMP i, .rw, []⟩, ⟨LJ_BRAKE.BRAKE_T i, .rw, []⟩]⟩,
   ⟨0x1000220, 0x10000, 128, 0x0, 1, fun i _ => [⟨LJ_CTL.CLOSE_TMO i, .rw, []⟩, ⟨LJ_CTL.PROBE_N i, .rw, []⟩, ⟨LJ_CTL.SA_START i, .rw, []⟩, ⟨LJ_CTL.SETTLE i, .rw, []⟩]⟩,
   ⟨0x1000224, 0x10000, 128, 0x0, 1, fun i _ => [⟨TRK_SCALE.TE_SCALE i, .rw, []⟩, ⟨TRK_SCALE.TRK_OFF i, .rw, []⟩, ⟨TRK_SCALE.WR_OFF i, .rw, []⟩]⟩,
   ⟨0x1000228, 0x10000, 128, 0x0, 1, fun i _ => [⟨TRK_SIDE.SIDE_LIM i, .rw, []⟩, ⟨TRK_SIDE.SIDE_RUN i, .rw, []⟩]⟩,
   ⟨0x100022C, 0x10000, 128, 0x0, 1, fun i _ => [⟨TRK_ADV.TJ_SETTLE i, .rw, []⟩]⟩,
   ⟨0x1000230, 0x10000, 128, 0x0, 1, fun i _ => [⟨FT_REC.REC_TMO i, .rw, []⟩, ⟨FT_REC.REC_MAX i, .rw, []⟩]⟩,
   ⟨0x1000234, 0x10000, 128, 0x0, 1, fun i _ => [⟨FT_BIAS.FOC_BIAS i, .rw, []⟩, ⟨FT_BIAS.TILT_BIAS i, .rw, []⟩]⟩,
   ⟨0x1000238, 0x10000, 128, 0x0, 1, fun i _ => [⟨FT_STAT.FOCUS i, .ro, []⟩, ⟨FT_STAT.SINGLE i, .ro, []⟩, ⟨FT_STAT.LAYER i, .ro, []⟩, ⟨FT_STAT.TRACK i, .ro, []⟩]⟩]

/-- Registers TRK_SIDE_OFS to SLED_ACC (R624, R625). -/
def regRows10 : List RegRow := open R in
  [⟨0x100023C, 0x10000, 128, 0x0, 1, fun i _ => [⟨TRK_SIDE_OFS.D_O i, .ro, []⟩, ⟨TRK_SIDE_OFS.D_I i, .ro, []⟩]⟩,
   ⟨0x1000240, 0x10000, 128, 0x0, 1, fun i _ => [⟨TRK_FALLBACK.LAYERS i, .own, []⟩]⟩,
   ⟨0x1000244, 0x10000, 128, 0x0, 1, fun i _ => [⟨FT_COUNT.FOC_LOSS i, .rc, []⟩, ⟨FT_COUNT.TRK_OFF i, .rc, []⟩, ⟨FT_COUNT.SLIP i, .rc, []⟩, ⟨FT_COUNT.WR_OFF i, .rc, []⟩]⟩,
   ⟨0x1000280, 0x10000, 128, 0x4, 16, fun i j => [⟨TJ_TAB.AMP i j, .rw, []⟩, ⟨TJ_TAB.KICK_T i j, .rw, []⟩, ⟨TJ_TAB.BRAKE_T i j, .rw, []⟩]⟩,
   ⟨0x10002C0, 0x10000, 128, 0x4, 16, fun i j => [⟨SA_PRESET.PRESET i j, .rw, []⟩]⟩,
   ⟨0x1000300, 0x10000, 128, 0x0, 1, fun i _ => [⟨SPIN_CTL.PARAMS_OK i, .rw, []⟩, ⟨SPIN_CTL.DIR i, .own, []⟩, ⟨SPIN_CTL.DECOUPLE i, .rw, []⟩]⟩,
   ⟨0x1000304, 0x10000, 128, 0x0, 1, fun i _ => [⟨SPIN_MOTOR.KE_NOM i, .rw, []⟩, ⟨SPIN_MOTOR.R_PH i, .rw, []⟩]⟩,
   ⟨0x1000308, 0x10000, 128, 0x0, 1, fun i _ => [⟨SPIN_SENSE.ISENSE_FS i, .rw, []⟩, ⟨SPIN_SENSE.L_PH i, .rw, []⟩]⟩,
   ⟨0x100030C, 0x10000, 128, 0x0, 1, fun i _ => [⟨SPIN_VBUS.VBUS_FS i, .rw, []⟩, ⟨SPIN_VBUS.VBUS_MAX i, .rw, []⟩]⟩,
   ⟨0x1000310, 0x10000, 128, 0x0, 1, fun i _ => [⟨SPIN_START.ALIGN_I i, .rw, []⟩, ⟨SPIN_START.OBS_MIN i, .rw, []⟩, ⟨SPIN_START.TRIES i, .rw, []⟩]⟩,
   ⟨0x1000314, 0x10000, 128, 0x0, 1, fun i _ => [⟨SPIN_OPEN.OL_I i, .rw, []⟩, ⟨SPIN_OPEN.ALIGN_T i, .rw, []⟩, ⟨SPIN_OPEN.OL_ACCEL i, .rw, []⟩]⟩,
   ⟨0x1000318, 0x10000, 128, 0x0, 1, fun i _ => [⟨SPIN_RAMP.ACCEL i, .rw, []⟩, ⟨SPIN_RAMP.DECEL i, .rw, []⟩]⟩,
   ⟨0x100031C, 0x10000, 128, 0x0, 1, fun i _ => [⟨SPIN_SPEED.RD_RPM i, .rw, []⟩, ⟨SPIN_SPEED.WR_RPM i, .rw, []⟩]⟩,
   ⟨0x1000320, 0x10000, 128, 0x0, 1, fun i _ => [⟨SPIN_TOL.REV_THR i, .rw, []⟩, ⟨SPIN_TOL.WR_TOL i, .rw, []⟩, ⟨SPIN_TOL.RD_TOL i, .rw, []⟩, ⟨SPIN_TOL.KE_TOL i, .rw, []⟩]⟩,
   ⟨0x1000324, 0x10000, 128, 0x0, 1, fun i _ => [⟨SPIN_MON.KE_REVS i, .rw, []⟩, ⟨SPIN_MON.OVS_RPM i, .rw, []⟩]⟩,
   ⟨0x1000328, 0x10000, 128, 0x0, 1, fun i _ => [⟨SPIN_COAST.COAST_T i, .rw, []⟩, ⟨SPIN_COAST.COAST_FULL_T i, .rw, []⟩]⟩,
   ⟨0x100032C, 0x10000, 128, 0x0, 1, fun i _ => [⟨SPIN_TGT.MOUNT_RPM i, .rw, []⟩, ⟨SPIN_TGT.TGT i, .ro, []⟩]⟩,
   ⟨0x1000330, 0x10000, 128, 0x0, 1, fun i _ => [⟨SPIN_STAT.PHASE i, .ro, []⟩, ⟨SPIN_STAT.STOPPED i, .ro, []⟩, ⟨SPIN_STAT.AT_SPEED i, .ro, []⟩, ⟨SPIN_STAT.WR_OK i, .ro, []⟩, ⟨SPIN_STAT.RAMP i, .ro, []⟩, ⟨SPIN_STAT.PRED_HOLD i, .ro, []⟩, ⟨SPIN_STAT.VSAT i, .w1c, []⟩, ⟨SPIN_STAT.REV_REJ i, .w1c, []⟩, ⟨SPIN_STAT.KE_ABN i, .w1c, []⟩]⟩,
   ⟨0x1000334, 0x10000, 128, 0x0, 1, fun i _ => [⟨SPIN_RPM.RPM i, .ro, []⟩, ⟨SPIN_RPM.REF i, .ro, []⟩]⟩,
   ⟨0x1000338, 0x10000, 128, 0x0, 1, fun i _ => [⟨SPIN_KE.KE_EST i, .ro, []⟩, ⟨SPIN_KE.KE_RUN i, .ro, []⟩]⟩,
   ⟨0x100033C, 0x10000, 128, 0x0, 1, fun i _ => [⟨SPIN_COUNT.PRED i, .rc, []⟩, ⟨SPIN_COUNT.START_FAIL i, .rc, []⟩, ⟨SPIN_COUNT.REV_REF i, .rc, []⟩]⟩,
   ⟨0x1000380, 0x10000, 128, 0x0, 1, fun i _ => [⟨SLED_TGT.GO i, .own, []⟩, ⟨SLED_TGT.POS i, .rw, []⟩]⟩,
   ⟨0x1000384, 0x10000, 128, 0x0, 1, fun i _ => [⟨SLED_VMAX.VMAX i, .rw, []⟩]⟩,
   ⟨0x1000388, 0x10000, 128, 0x0, 1, fun i _ => [⟨SLED_ACC.ACCEL i, .rw, []⟩]⟩]

/-- Registers SLED_JERK to RC_BLANK (R624, R625). -/
def regRows11 : List RegRow := open R in
  [⟨0x100038C, 0x10000, 128, 0x0, 1, fun i _ => [⟨SLED_JERK.HOME_V i, .rw, []⟩, ⟨SLED_JERK.JERK i, .rw, []⟩]⟩,
   ⟨0x1000390, 0x10000, 128, 0x0, 1, fun i _ => [⟨SLED_LIM.POS_MAX i, .rw, []⟩, ⟨SLED_LIM.POS_MIN i, .rw, []⟩]⟩,
   ⟨0x1000394, 0x10000, 128, 0x0, 1, fun i _ => [⟨SLED_MISC.MOUNT_POS i, .rw, []⟩, ⟨SLED_MISC.SETTLE i, .rw, []⟩, ⟨SLED_MISC.FOLLOW_V i, .rw, []⟩]⟩,
   ⟨0x1000398, 0x10000, 128, 0x0, 1, fun i _ => [⟨SLED_POS.CMD i, .ro, []⟩, ⟨SLED_POS.VEL i, .ro, []⟩]⟩,
   ⟨0x10003A0, 0x10000, 128, 0x0, 1, fun i _ => [⟨SA_TGT.GO i, .own, []⟩, ⟨SA_TGT.POS i, .rw, []⟩]⟩,
   ⟨0x10003A4, 0x10000, 128, 0x0, 1, fun i _ => [⟨SA_VMAX.VMAX i, .rw, []⟩]⟩,
   ⟨0x10003A8, 0x10000, 128, 0x0, 1, fun i _ => [⟨SA_ACC.ACCEL i, .rw, []⟩]⟩,
   ⟨0x10003AC, 0x10000, 128, 0x0, 1, fun i _ => [⟨SA_JERK.HOME_V i, .rw, []⟩, ⟨SA_JERK.JERK i, .rw, []⟩]⟩,
   ⟨0x10003B0, 0x10000, 128, 0x0, 1, fun i _ => [⟨SA_LIM.POS_MAX i, .rw, []⟩, ⟨SA_LIM.POS_MIN i, .rw, []⟩]⟩,
   ⟨0x10003B4, 0x10000, 128, 0x0, 1, fun i _ => [⟨SA_MISC.SETTLE i, .rw, []⟩, ⟨SA_MISC.FOLLOW_V i, .rw, []⟩]⟩,
   ⟨0x10003B8, 0x10000, 128, 0x0, 1, fun i _ => [⟨SA_POS.CMD i, .ro, []⟩, ⟨SA_POS.VEL i, .ro, []⟩]⟩,
   ⟨0x10003BC, 0x10000, 128, 0x0, 1, fun i _ => [⟨SA_ERR.ERR i, .rw, []⟩]⟩,
   ⟨0x10003C0, 0x10000, 128, 0x0, 1, fun i _ => [⟨STEP_CTL.ENC_DIR i, .rw, []⟩, ⟨STEP_CTL.SA_PROF i, .rw, []⟩, ⟨STEP_CTL.SLED_PROF i, .rw, []⟩, ⟨STEP_CTL.SA_MODE i, .own, []⟩, ⟨STEP_CTL.SLED_MODE i, .own, []⟩]⟩,
   ⟨0x10003C4, 0x10000, 128, 0x0, 1, fun i _ => [⟨STEP_STAT.SLED_HOMED i, .ro, []⟩, ⟨STEP_STAT.SA_HOMED i, .ro, []⟩, ⟨STEP_STAT.SLED_ARRIVED i, .ro, []⟩, ⟨STEP_STAT.SA_ARRIVED i, .ro, []⟩, ⟨STEP_STAT.ENC_FAULT i, .own, []⟩, ⟨STEP_STAT.ENC_ILL i, .w1c, []⟩, ⟨STEP_STAT.SLED_STALL i, .w1c, []⟩, ⟨STEP_STAT.SLED_LIM i, .w1c, []⟩, ⟨STEP_STAT.SA_LIM i, .w1c, []⟩, ⟨STEP_STAT.WR_REJ i, .w1c, []⟩, ⟨STEP_STAT.STALL_RUN i, .ro, []⟩]⟩,
   ⟨0x10003C8, 0x10000, 128, 0x0, 1, fun i _ => [⟨ENC_POS.COUNT i, .ro, []⟩, ⟨ENC_POS.DEV i, .ro, []⟩]⟩,
   ⟨0x10003CC, 0x10000, 128, 0x0, 1, fun i _ => [⟨ENC_CFG.WINDOW i, .rw, []⟩, ⟨ENC_CFG.DEV_N i, .rw, []⟩, ⟨ENC_CFG.TRIES i, .rw, []⟩]⟩,
   ⟨0x10003D0, 0x10000, 128, 0x0, 1, fun i _ => [⟨ENC_COUNT.ILLEGAL i, .rc, []⟩, ⟨ENC_COUNT.STALLS i, .rc, []⟩]⟩,
   ⟨0x1000400, 0x10000, 128, 0x0, 1, fun i _ => [⟨RC_CTL.ZT_OK i, .rw, []⟩, ⟨RC_CTL.SIDE_EN i, .rw, []⟩, ⟨RC_CTL.PREFETCH i, .rw, []⟩]⟩,
   ⟨0x1000404, 0x10000, 128, 0x0, 1, fun i _ => [⟨RC_ZT_BASE_LO.ADDR i, .rw, []⟩]⟩,
   ⟨0x1000408, 0x10000, 128, 0x0, 1, fun i _ => [⟨RC_ZT_BASE_HI.ADDR i, .rw, []⟩]⟩,
   ⟨0x100040C, 0x10000, 128, 0x0, 1, fun i _ => [⟨RC_SYNC.SYNC_TOL i, .rw, []⟩, ⟨RC_SYNC.SYNC_WIN i, .rw, []⟩, ⟨RC_SYNC.RESYNC_TOL i, .rw, []⟩, ⟨RC_SYNC.RESYNC_WIN i, .rw, []⟩]⟩,
   ⟨0x1000410, 0x10000, 128, 0x0, 1, fun i _ => [⟨RC_DEF.REFL_THR i, .rw, []⟩, ⟨RC_DEF.REFL_ON i, .rw, []⟩, ⟨RC_DEF.REFL_OFF i, .rw, []⟩]⟩,
   ⟨0x1000414, 0x10000, 128, 0x0, 1, fun i _ => [⟨RC_ERA.ENV_THR i, .rw, []⟩, ⟨RC_ERA.ENV_ON i, .rw, []⟩, ⟨RC_ERA.ENV_OFF i, .rw, []⟩, ⟨RC_ERA.EXT i, .rw, []⟩]⟩,
   ⟨0x1000418, 0x10000, 128, 0x0, 1, fun i _ => [⟨RC_BLANK.BLANK_THR i, .rw, []⟩]⟩]

/-- Registers RC_SKEW to WR_RELOC (R624, R625). -/
def regRows12 : List RegRow := open R in
  [⟨0x100041C, 0x10000, 128, 0x0, 1, fun i _ => [⟨RC_SKEW.SKEW_O i, .rw, []⟩, ⟨RC_SKEW.SKEW_I i, .rw, []⟩]⟩,
   ⟨0x1000420, 0x10000, 128, 0x0, 1, fun i _ => [⟨RC_SKEW_MEAS.MEAS_O i, .ro, []⟩, ⟨RC_SKEW_MEAS.MEAS_I i, .ro, []⟩]⟩,
   ⟨0x1000424, 0x10000, 128, 0x0, 1, fun i _ => [⟨RC_STAT.ENTRY i, .ro, []⟩, ⟨RC_STAT.ENTRY_STATE i, .ro, []⟩, ⟨RC_STAT.ENTRY_OK i, .ro, []⟩, ⟨RC_STAT.VERIFY i, .ro, []⟩, ⟨RC_STAT.FRAMING i, .ro, []⟩, ⟨RC_STAT.GEN i, .ro, []⟩]⟩,
   ⟨0x1000440, 0x10000, 128, 0x20, 3, fun i j => [⟨RC_FRAMED.COUNT i j, .rc, []⟩]⟩,
   ⟨0x1000444, 0x10000, 128, 0x20, 3, fun i j => [⟨RC_SYNC_CNT.SYNC_PRED i j, .rc, []⟩, ⟨RC_SYNC_CNT.RESYNC_MISS i j, .rc, []⟩]⟩,
   ⟨0x1000448, 0x10000, 128, 0x20, 3, fun i j => [⟨RC_DEF_CNT.DEFECTS i j, .rc, []⟩, ⟨RC_DEF_CNT.BLANK i j, .rc, []⟩]⟩,
   ⟨0x100044C, 0x10000, 128, 0x20, 3, fun i j => [⟨RC_ERASED.COUNT i j, .rc, []⟩]⟩,
   ⟨0x1000450, 0x10000, 128, 0x20, 3, fun i j => [⟨RC_MISC_CNT.ENTRY_LATE i j, .rc, []⟩, ⟨RC_MISC_CNT.ABANDON i j, .rc, []⟩, ⟨RC_MISC_CNT.TL_SLIP i j, .rc, []⟩]⟩,
   ⟨0x1000500, 0x10000, 128, 0x0, 1, fun i _ => [⟨DEC_CTL.OTF_ITER i, .rw, []⟩, ⟨DEC_CTL.OTF_XCH i, .rw, []⟩, ⟨DEC_CTL.REC_ITER1 i, .rw, []⟩, ⟨DEC_CTL.REC_ITER i, .rw, []⟩, ⟨DEC_CTL.REC_XCH i, .rw, []⟩, ⟨DEC_CTL.OFFSET i, .rw, []⟩, ⟨DEC_CTL.OFFSET_R i, .rw, []⟩]⟩,
   ⟨0x1000504, 0x10000, 128, 0x0, 1, fun i _ => [⟨DR_CTL.DR_TMO i, .rw, []⟩, ⟨DR_CTL.STEP_EN i, .rw, []⟩, ⟨DR_CTL.REREAD_N i, .rw, []⟩, ⟨DR_CTL.OFS_N i, .rw, []⟩, ⟨DR_CTL.ERA_LIM i, .rw, []⟩]⟩,
   ⟨0x1000508, 0x10000, 128, 0x4, 4, fun i j => [⟨DR_OFS.FOC_DELTA i j, .rw, []⟩, ⟨DR_OFS.SA_DELTA i j, .rw, []⟩, ⟨DR_OFS.TILT_DELTA i j, .rw, []⟩]⟩,
   ⟨0x1000518, 0x10000, 128, 0x0, 1, fun i _ => [⟨DEC_RQ.QUEUED i, .ro, []⟩, ⟨DEC_RQ.LADDER i, .ro, []⟩]⟩,
   ⟨0x1000520, 0x10000, 128, 0x0, 1, fun i _ => [⟨DEC_OTF_OK.COUNT i, .rc, []⟩]⟩,
   ⟨0x1000524, 0x10000, 128, 0x0, 1, fun i _ => [⟨DEC_OTF_FAIL.COUNT i, .rc, []⟩]⟩,
   ⟨0x1000528, 0x10000, 128, 0x0, 1, fun i _ => [⟨DEC_CHK.CRC_FAIL i, .rc, []⟩, ⟨DEC_CHK.ID_FAIL i, .rc, []⟩]⟩,
   ⟨0x100052C, 0x10000, 128, 0x0, 1, fun i _ => [⟨DEC_REC.RECOVERED i, .rc, []⟩, ⟨DEC_REC.RECON i, .rc, []⟩]⟩,
   ⟨0x1000530, 0x10000, 128, 0x0, 1, fun i _ => [⟨DEC_UNC.UNCORR i, .rc, []⟩, ⟨DEC_UNC.CAPT_MISS i, .rc, []⟩, ⟨DEC_UNC.RECON_CHK i, .rc, []⟩]⟩,
   ⟨0x1000600, 0x10000, 128, 0x0, 1, fun i _ => [⟨WR_CTL.OPEN_MAX i, .rw, []⟩, ⟨WR_CTL.RELOC_BATCH i, .rw, []⟩, ⟨WR_CTL.VFY_ITER i, .rw, []⟩, ⟨WR_CTL.VFY_RETRY i, .rw, []⟩, ⟨WR_CTL.VFY_ERA i, .rw, []⟩]⟩,
   ⟨0x1000604, 0x10000, 128, 0x0, 1, fun i _ => [⟨WR_LIM.PW_MAX i, .rw, []⟩, ⟨WR_LIM.PB_MAX i, .rw, []⟩]⟩,
   ⟨0x1000608, 0x10000, 128, 0x0, 1, fun i _ => [⟨DL_CTL.COMMIT i, .own, []⟩, ⟨DL_CTL.BUSY i, .ro, []⟩, ⟨DL_CTL.FAIL i, .w1c, []⟩, ⟨DL_CTL.COMMIT_T i, .rw, []⟩]⟩,
   ⟨0x100060C, 0x10000, 128, 0x0, 1, fun i _ => [⟨WR_STAT.OPEN i, .ro, []⟩, ⟨WR_STAT.RELOC_PEND i, .ro, []⟩, ⟨WR_STAT.DL_STAGED i, .ro, []⟩, ⟨WR_STAT.PCLAMP i, .w1c, []⟩, ⟨WR_STAT.SPARES_FULL i, .w1c, []⟩]⟩,
   ⟨0x1000610, 0x10000, 128, 0x0, 1, fun i _ => [⟨WR_SECT.COUNT i, .rc, []⟩]⟩,
   ⟨0x1000614, 0x10000, 128, 0x0, 1, fun i _ => [⟨WR_VFY.FAIL i, .rc, []⟩, ⟨WR_VFY.REDO i, .rc, []⟩]⟩,
   ⟨0x1000618, 0x10000, 128, 0x0, 1, fun i _ => [⟨WR_RELOC.RELOC i, .rc, []⟩, ⟨WR_RELOC.ABORT i, .rc, []⟩, ⟨WR_RELOC.FOUND_WRITTEN i, .rc, []⟩]⟩]

/-- Registers WJ_STAT to SA_SINE (R624, R625). -/
def regRows13 : List RegRow := open R in
  [⟨0x1000620, 0x10000, 128, 0x0, 1, fun i _ => [⟨WJ_STAT.LIVE i, .ro, []⟩, ⟨WJ_STAT.STALE i, .ro, []⟩, ⟨WJ_STAT.FREE i, .ro, []⟩]⟩,
   ⟨0x1000624, 0x10000, 128, 0x0, 1, fun i _ => [⟨WJ_RELEASE.GO i, .own, []⟩, ⟨WJ_RELEASE.ALL i, .own, []⟩, ⟨WJ_RELEASE.ERR i, .w1c, []⟩, ⟨WJ_RELEASE.INDEX i, .rw, []⟩]⟩,
   ⟨0x1000628, 0x10000, 128, 0x0, 1, fun i _ => [⟨WJ_STALE_LO.STALE i, .ro, []⟩]⟩,
   ⟨0x100062C, 0x10000, 128, 0x0, 1, fun i _ => [⟨WJ_STALE_HI.STALE i, .ro, []⟩]⟩,
   ⟨0x1000700, 0x10000, 128, 0x0, 1, fun i _ => [⟨CAL_CTL.REQ i, .own, []⟩, ⟨CAL_CTL.KEEP i, .rw, []⟩, ⟨CAL_CTL.DEFER i, .rw, []⟩, ⟨CAL_CTL.SCOPE i, .rw, []⟩, ⟨CAL_CTL.INDEX i, .rw, []⟩, ⟨CAL_CTL.TEMP_DELTA i, .rw, []⟩, ⟨CAL_CTL.MIN_SECT i, .rw, []⟩]⟩,
   ⟨0x1000704, 0x10000, 128, 0x0, 1, fun i _ => [⟨CAL_STEP.VEXP i, .rw, []⟩, ⟨CAL_STEP.FOC_STEP i, .rw, []⟩, ⟨CAL_STEP.TILT_STEP i, .rw, []⟩, ⟨CAL_STEP.SA_STEP i, .rw, []⟩]⟩,
   ⟨0x1000708, 0x10000, 128, 0x0, 1, fun i _ => [⟨CAL_LIM.TOL_SCALE i, .rw, []⟩, ⟨CAL_LIM.CAL_TMO i, .rw, []⟩, ⟨CAL_LIM.RETRY_T i, .rw, []⟩]⟩,
   ⟨0x100070C, 0x10000, 128, 0x0, 1, fun i _ => [⟨CAL_STAT.BUSY i, .ro, []⟩, ⟨CAL_STAT.W_CAL i, .ro, []⟩, ⟨CAL_STAT.ITEM i, .ro, []⟩, ⟨CAL_STAT.RUN i, .ro, []⟩, ⟨CAL_STAT.INDEX i, .ro, []⟩, ⟨CAL_STAT.LAST i, .ro, []⟩]⟩,
   ⟨0x1000710, 0x10000, 128, 0x0, 1, fun i _ => [⟨CAL_COUNT.DONE i, .rc, []⟩, ⟨CAL_COUNT.UNSETTLED i, .rc, []⟩, ⟨CAL_COUNT.TEMP_TRIG i, .rc, []⟩]⟩,
   ⟨0x1000740, 0x10000, 128, 0x4, 16, fun i j => [⟨CAL_PCA.VALID i j, .ro, []⟩, ⟨CAL_PCA.TRACK i j, .ro, []⟩, ⟨CAL_PCA.SLOT i j, .ro, []⟩]⟩,
   ⟨0x1000800, 0x10000, 128, 0x0, 1, fun i _ => [⟨SCHED_CTL.URG_GAP i, .rw, []⟩, ⟨SCHED_CTL.SEG_REVS i, .rw, []⟩, ⟨SCHED_CTL.SEG_PASSES i, .rw, []⟩, ⟨SCHED_CTL.BG_EN i, .rw, []⟩]⟩,
   ⟨0x1000804, 0x10000, 128, 0x4, 5, fun i j => [⟨SCHED_AGE.DEADLINE i j, .rw, []⟩]⟩,
   ⟨0x1000818, 0x10000, 128, 0x4, 4, fun i j => [⟨SCHED_BIAS.BIAS i j, .rw, []⟩]⟩,
   ⟨0x1000828, 0x10000, 128, 0x0, 1, fun i _ => [⟨SCHED_COST.LJ_COST i, .rw, []⟩, ⟨SCHED_COST.TJ_COST i, .rw, []⟩, ⟨SCHED_COST.SEEK_SETTLE i, .rw, []⟩]⟩,
   ⟨0x100082C, 0x10000, 128, 0x0, 1, fun i _ => [⟨SCHED_STAT.QUEUED i, .ro, []⟩, ⟨SCHED_STAT.ELIGIBLE i, .ro, []⟩, ⟨SCHED_STAT.URGENT i, .ro, []⟩, ⟨SCHED_STAT.GAP i, .ro, []⟩, ⟨SCHED_STAT.IDLE i, .ro, []⟩, ⟨SCHED_STAT.CUR_TAG_VALID i, .ro, []⟩, ⟨SCHED_STAT.CUR_BG i, .ro, []⟩, ⟨SCHED_STAT.CUR_TAG i, .ro, []⟩]⟩,
   ⟨0x1000830, 0x10000, 128, 0x0, 1, fun i _ => [⟨SCHED_CNT.PROMOTED i, .rc, []⟩, ⟨SCHED_CNT.INHERITED i, .rc, []⟩, ⟨SCHED_CNT.GAP_HELD i, .rc, []⟩]⟩,
   ⟨0x1000834, 0x10000, 128, 0x0, 1, fun i _ => [⟨SCHED_MAXAGE.MAXAGE i, .rc, []⟩]⟩,
   ⟨0x1001000, 0x10000, 128, 0x4, 256, fun i j => [⟨REC.DATA i j, .rw, []⟩]⟩,
   ⟨0x1002000, 0x10000, 128, 0x4, 1024, fun i j => [⟨REP.DATA i j, .rw, []⟩]⟩,
   ⟨0x1004000, 0x10000, 128, 0x4, 256, fun i j => [⟨SLED_SINE.B i j, .rw, []⟩, ⟨SLED_SINE.A i j, .rw, []⟩]⟩,
   ⟨0x1004400, 0x10000, 128, 0x4, 256, fun i j => [⟨SA_SINE.B i j, .rw, []⟩, ⟨SA_SINE.A i j, .rw, []⟩]⟩]

/-- The whole register map but for the windows (R617). -/
def regRows : List RegRow :=
  regRows0 ++ regRows1 ++ regRows2 ++ regRows3 ++ regRows4 ++ regRows5 ++ regRows6 ++ regRows7 ++ regRows8 ++ regRows9 ++ regRows10 ++ regRows11 ++ regRows12 ++ regRows13

end Sys2Proof.Machine
end

