-- ==== Sys2Proof/Machine/State.lean ====
section
/-!
DEFINITION. The state of the controller: its registers, every piece of hidden state the spec gives it, and the queue of
commands that wait; the reasons a step can stop; and the state after reset.
-/

namespace Sys2Proof.Machine

/-! ## Ledger and trace (22_ledger_trace.md) -/

/-- An event offered to the ledger engine, with the time, angle and details of its record (R598, R601).  `cls` is
CLASS; `bay` is 0xFF where none. -/
structure Event where
  source : Nat
  code   : Nat
  cls    : Nat
  bay    : Nat
  flags  : Nat
  sec    : Nat
  sub    : Nat
  angle  : Nat
  detail : List Nat
  deriving DecidableEq, Repr

/-- A numbered record. -/
structure Record where
  seq : Nat
  ev  : Event
  deriving DecidableEq, Repr

/-- An occupied counting slot (R603 step 4): its first event, how many followed, and the latest. -/
structure CountSlot where
  first : Event
  count : Nat
  last  : Event
  deriving DecidableEq, Repr

/-- The ledger engine (R603 to R607): the writer, the held record, the safety queues and counting slots by source, the
drain round, the early buffer and the drops not yet reported. -/
structure Ledger where
  writing     : Bool := false
  held        : Option Event := none
  safety      : Sparse (List Event) := []
  slots       : Sparse CountSlot := []
  round       : Nat := 0
  coal        : Option Event := none
  early       : List Record := []
  flush       : List Record := []
  earlyLost   : Nat := 0
  enabledOnce : Bool := false
  drops       : Nat := 0
  firstDrop   : Nat := 0
  lastDrop    : Nat := 0
  deriving DecidableEq, Repr

/-- A global trace record (R608). -/
structure TraceRec where
  time   : Nat
  stream : Nat
  source : Nat
  code   : Nat
  arg0   : Nat
  arg1   : Nat
  arg2   : Nat
  deriving DecidableEq, Repr

/-- The global trace buffer: records oldest first, the place in the ring of the oldest, and how many were written in the present SYSCLK cycle (R609). -/
structure GlobalTrace where
  buf     : List TraceRec := []
  base    : Nat := 0
  inCycle : Nat := 0
  deriving DecidableEq, Repr

/-! ## Outputs -/

/-- What leaves the controller (DESIGN CHOICE, log entry 7): Bay Link frames and LOFF blocks, host-memory writes and read requests,
MSI-X messages, register read data, fabric packets, the ICMPv6 and
priority flow control messages of a port, and management-chain frames. -/
inductive Emission where
  | blFrame (bay typ seq arg : Nat) (data : List (BitVec 64))
  | blIdle (bay : Nat)
  | loff (bay : Nat)
  | hostWrite (addr : Nat) (data : List Byte)
  | hostRead (channel addr len : Nat)
  | msix (addr data : Nat)
  | readData (addr value : Nat)
  | fabPacket (port : Nat) (p : FabPacket)
  | neighborAdvert (port dstMac dstIp : Nat)
  | echoReply (port dstMac dstIp : Nat) (data : List Byte)
  | pfc (port : Nat) (pause : Bool)
  | chainFrame (f : ChainFrame)
  deriving DecidableEq, Repr

/-! ## Porter (13_host_rings.md) and commands (14_commands.md) -/

/-- A receipt formed and not yet written (R352, R353). -/
structure Receipt where
  ring   : Nat
  cid    : Nat
  status : Nat
  sring  : Nat
  bay    : Nat
  notes  : Nat
  kind   : Nat
  index  : Nat
  done   : Nat
  result : Nat
  rcount : Nat
  sqHead : Nat
  noIrq  : Bool
  deriving DecidableEq, Repr

/-- Submit ring s beyond its registers: the staged waybills with their slots (R346), the slots requested and not yet arrived,
and whether the ring, restarted, waits for the tail of the next doorbell fetch (R358). -/
structure SubRing where
  staged  : List (Nat × Waybill) := []
  reading : Nat := 0
  noTail  : Bool := false
  deriving DecidableEq, Repr

/-- Receipt ring s beyond its registers: pending receipts since the last message (R359). -/
structure RcpRing where
  pendingCount : Nat := 0
  deriving DecidableEq, Repr

/-- Porter beyond its registers (R343, R346, R353): whether a doorbell fetch runs and another is asked for, whether the last
found a new tail, the submit ring whose turn is next, and formed receipts not yet written. -/
structure Porter where
  fetching : Bool := false
  again    : Bool := false
  newTail  : Bool := false
  turn     : Nat := 0
  receipts : List Receipt := []
  deriving DecidableEq, Repr

/-- A DMA channel beyond its halt record: the pointers of the Caddy buffers it keeps held (R356). -/
structure Channel where
  heldBufs : List Nat := []
  deriving DecidableEq, Repr

/-- PCI Express configuration bits that the spec uses (R339, R340). -/
structure PcieCfg where
  busMaster  : Bool := false
  d3hot      : Bool := false
  msixEnable : Bool := false
  funcMask   : Bool := false
  deriving DecidableEq, Repr

/-! ## Modes, power, supervisor (20_modes_power_time.md) -/

/-- A pending mode change (R555, R541): its target; the unit command, a MODE with SCOPE 0, whose receipt is owed; the proposal it
came from (originating unit and epoch); the cause word of its `MODE_CHANGE` (R554); the bays that have not passed their safe point
(R556); and whether its deadline has passed. -/
structure PendingMode where
  target   : Nat
  owed     : Option Nat
  proposal : Option (Nat × Nat)
  cause    : Nat
  bays     : List Nat
  late     : Bool := false
  deriving DecidableEq, Repr

/-- A power domain in entry to `RETAIN` or `OFF` (R566): the target, the last abort point passed, whether a wake has
arrived, and the other non-`ON` state asked for meanwhile. -/
structure DomEntry where
  target : Nat
  point  : Nat
  wake   : Bool
  next   : Option Nat
  deriving DecidableEq, Repr

/-- A power domain passing through the stages of R565: the stage awaited, whether it comes from `RETAIN`, and a
request to be taken up at `ON`. -/
structure DomUp where
  stage      : Nat
  fromRetain : Bool
  queued     : Option Nat
  deriving DecidableEq, Repr

/-- The sequence a domain is in. -/
inductive DomPhase where
  | steady
  | entering (e : DomEntry)
  | rising (u : DomUp)
  deriving DecidableEq, Repr

/-- The always-on supervisor beyond its registers (R558, R567 to R572): the luggage bank's bytes (unlisted = 0), whether a seal is
in progress, writes that wait for it, whether `PWR_VBAK_LOW` has been written since power-up, whether the die temperature stood at
WARN_T or above, whether every other domain is held in reset, and the RTC seconds at entry to `SHUTDOWN`. -/
structure Supervisor where
  bank         : List Host.Cell := []
  sealing      : Bool := false
  waiting      : List (Nat × List Byte) := []
  vbakReported : Bool := false
  warned       : Bool := false
  inReset      : Bool := false
  testAt       : Nat := 0
  deriving DecidableEq, Repr

/-- The RTC beyond its registers: the SYSCLK cycle at which the present second began, and the latch of R581 (high
half, date, time, microseconds). -/
structure RtcS where
  base  : Int := 0
  latch : Option (Nat × Nat × Nat × Nat) := none
  deriving DecidableEq, Repr

/-! ## A bay -/

/-- Where training stands (R75): not training, reset held (steps 1 and 2), awaiting block lock (3), echoing (4),
reading FE_ID (5), up, or waiting 100 ms after a failure (R76). -/
inductive TrainPhase where
  | idle | resetHold | awaitLock | echo | feId | up | retryWait
  deriving DecidableEq, Repr

/-- What the CFG access in flight is for (R81, R75 step 5, R84). -/
inductive CfgUse where
  | none | hostAccess | feId
  deriving DecidableEq, Repr

/-- Bay Link port beyond its registers (R62 to R86): the level of `BAY_RST_N`, training, echoes answered, the next
sequence number of each frame type in each direction, the alert bits set at present, the CFG access in flight, and
whether a LOFF block is being repeated. -/
structure Link where
  rstHigh  : Bool := false
  phase    : TrainPhase := .idle
  echoes   : Nat := 0
  upSeq    : Sparse Nat := []
  downSeq  : Sparse Nat := []
  alerts   : Nat := 0
  cfg      : CfgUse := .none
  alertRead : Bool := false
  lasers   : Nat := 0
  deriving DecidableEq, Repr

/-- An armed entry of the event timeline (R98). -/
structure TimelineEntry where
  target : Nat
  revs   : Nat
  cls    : Nat
  action : Nat
  tag    : Nat
  slot   : Nat
  deriving DecidableEq, Repr

/-- A wedge detection that qualified in its window (R92): its instant and track, and the wobble amplitudes (A, B) of beams
I, C and O (R147). -/
structure Detection where
  tau   : Nat
  track : Nat
  wob   : List (Int × Int)
  deriving DecidableEq, Repr

/-- Angle tracker beyond its registers (R89 to R98): the 54-bit phase accumulator and the instant (in 1/64 base
periods, modulo 2^38) at which it held that value, the next expected wedge, the detection taken in its window, whether an acquisition
candidate is held and how many detections were seen, the wedges left of a bridge, the tooth bookkeeping (instant of
the last tooth, its number in the motor frame, consecutive synthesised teeth, teeth seen in `SEEKING`, their last
interval), and the armed entries in arming order. -/
structure Tracker where
  acc       : Nat := 0
  at64      : Nat := 0
  expectW   : Nat := 0
  hit       : Option Detection := none
  candidate : Bool := false
  detSeen   : Nat := 0
  bridge    : Nat := 0
  toothAt   : Nat := 0
  toothK    : Nat := 0
  synth     : Nat := 0
  seekTeeth : Nat := 0
  seekGap   : Nat := 0
  events    : List TimelineEntry := []
  deriving DecidableEq, Repr

/-! ### Servo engine (05_control_engine.md) -/

/-- The state of one biquad section (R117). -/
structure BqState where
  x1 : Int := 0
  x2 : Int := 0
  y1 : Int := 0
  y2 : Int := 0
  deriving DecidableEq, Repr

/-- Loop state of a slot: sections, x_prev, the integrator (Q4.59), the last f + g (held samples, R123), the last
output sent, whether the last update ran in automatic and whether the loop has run since it was enabled (R119). -/
structure LoopState where
  bq      : List BqState := [{}, {}, {}, {}]
  xPrev   : Int := 0
  integ   : Int := 0
  gf      : Int := 0
  lastU   : Int := 0
  wasAuto : Bool := false
  started : Bool := false
  deriving DecidableEq, Repr

/-- A sample waiting for its update (R111): its input (`none`: no measurement), its wedge, and whether the wedge was
accepted. -/
structure Sample where
  input    : Option Int
  wedge    : Nat
  accepted : Bool
  deriving DecidableEq, Repr

/-- A running Infusion (R127 to R130): phase, phase advance in the present window (or PRBS bits sent in it), PRBS
register and the updates its present bit still holds, whether it is measuring, the step, the sums of R129 (Q0.31 × 2^64)
and the samples in them, the trace records of mode 2, and the cause of a stop asked for. -/
structure Infuse where
  phase  : Nat := 0
  adv    : Nat := 0
  lfsr   : Nat := 0
  held   : Nat := 0
  meas   : Bool := false
  step   : Nat := 0
  sumAI  : Int := 0
  sumAQ  : Int := 0
  sumBI  : Int := 0
  sumBQ  : Int := 0
  count  : Nat := 0
  recs   : Nat := 0
  abort  : Option Nat := none
  deriving DecidableEq, Repr

/-- The servo side of a bay beyond its registers: active records (32 words by slot, R113), loop states, samples waiting
by slot, ρ of R118 as S for p = 1 and p = 2 (Q3.28), the defect flag and its hold (R124), the mean of slot 4's input,
the tilt sum, the trace buffer (16-bit node values by record index), the updates since the arm, the records written
since the arm and the first of them kept (R125), the Infusion running, and the focus samples left of a ramp to zero
(R164). -/
structure Servo where
  active   : Sparse (List Nat) := []
  loops    : Sparse LoopState := []
  queue    : Sparse (List Sample) := []
  s1       : Nat := 0
  s2       : Nat := 0
  defFlag  : Bool := false
  defRise  : Nat := 0
  defLow   : Bool := true
  sumU     : Int := 0
  numU     : Nat := 0
  tiltSum  : Int := 0
  tiltNum  : Nat := 0
  trc      : Sparse (List Nat) := []
  trcTick  : Nat := 0
  trcCount : Nat := 0
  trcBase  : Nat := 0
  infuse   : Option Infuse := none
  rampOff  : Option Nat := none
  deriving DecidableEq, Repr

/-! ### Focus and tracking (06_focus_tracking_layers.md) -/

/-- The stage of focus acquisition a bay is in (R151): none, step 1 held for want of a mode that allows lasers, the SA
move, the sweep, the capture, the settle, the probe, acquisition of wedges, and tracking (tracking then tilt). -/
inductive AcqStage where
  | off | blocked | saMove | sweep | capture | settle | probe | wedges | track | tilt
  deriving DecidableEq, Repr

/-- The stage of a layer jump (R154). -/
inductive JumpStage where
  | off | saWait | kick | leaving | arriving | brake | close | settle | probe | track
  deriving DecidableEq, Repr

/-- The stage of a fine jump (R156). -/
inductive FineStage where
  | off | due | kick | brake | settle | confirm
  deriving DecidableEq, Repr

/-- Focus, tracking and layer access of a bay beyond its registers: the acquisition stage, attempts failed, whether
two successive attempts failed in steps 3 to 5 and two successive probes found a wrong layer (R219), the target layer
and the sweep's ramp position and strongest curve (drive at its zero crossing, amplitude, sign of its slope); the last SERVO sample; the layer probe; the focus-loss run; the layer
jump; the fine jump (tracks, expected track, last output, tracks still to go, slips towards the target); the seek
(target, coarse steps); side-beam counts; the track-off run; the slips of the last revolution, each by its age in wedges; the track expected by
tracking; the times of the last `RECOVERY` entries (ms); and the layer and track to return to. -/
structure Focus where
  acq       : AcqStage := .off
  fails     : Nat := 0
  fail35    : Nat := 0
  wrong6    : Nat := 0
  target    : Nat := 0
  ramp      : Nat := 0
  rampLen   : Nat := 0
  bestDrive : Int := 0
  bestAmp   : Int := 0
  bestSlope : Int := 1
  curves    : Nat := 0
  inCurve   : Bool := false
  curveMin  : Int := 0
  curveMax  : Int := 0
  curveZero : Option (Int × Int) := none
  prevFe    : Int := 0
  prevSum   : Int := 0
  probing   : Bool := false
  probeL    : Nat := 0
  probeN    : Nat := 0
  lossRun   : Nat := 0
  jump      : JumpStage := .off
  jumpTo    : Nat := 0
  jumpEnd   : Nat := 0
  jumpBase  : Int := 0
  jumpDir   : Int := 1
  saFrom    : Int := 0
  fine      : FineStage := .off
  fineD     : Int := 0
  fineBase  : Int := 0
  fineLeft  : Int := 0
  fineSlips : Nat := 0
  advance   : Bool := false
  seekTo    : Option Int := none
  coarse    : Nat := 0
  coarseOn  : Bool := false
  sideI     : Nat := 0
  sideO     : Nat := 0
  offRun    : Nat := 0
  slips     : List Nat := []
  expTrack  : Int := 0
  prevTrack : Option Int := none
  recTimes  : List Nat := []
  retLayer  : Nat := 0
  retTrack  : Int := 0
  deriving DecidableEq, Repr

/-! ### Spindle (07_spindle.md) -/

/-- Why the spindle unit stops, which fixes the way it does (R188 to R192). -/
inductive StopKind where
  | controlled | zero
  deriving DecidableEq, Repr

/-- Spindle unit of a bay beyond its registers: start attempts failed and the step of R183 (0 none), whether the forced
speed is held, the forced electrical angle (2^32 to the turn) and speed (rpm × 1.28 × 10^9), agreeing teeth, DIR in
force, whether a spin-up waits for braking or a stop (R183, R190), the reference ω_ref (rpm × 1.28 × 10^9), the stop
under way with its VBUS braking and whether that was recorded, predicted periods in a row, the last PWM period, WIN and
VBUS, currents and voltages (Q0.31), the measured speed (rpm × 2^54), speed samples since RAMP
became 0 (newest first), overspeed samples in a row and their peak, low back-EMF periods in a row, the sign and instant
of the last i_a zero crossing, the K_e sum of the revolution (mV × 2^16), its measured and total periods, whether the
speed fell below 1,000 rpm in it, teeth since it began, and whether COAST came from below REV_THR. -/
structure Spin where
  fails     : Nat := 0
  step      : Nat := 0
  atHold    : Bool := false
  theta     : Nat := 0
  forced    : Nat := 0
  agree     : Nat := 0
  dirNow    : Nat := 0
  wanted    : Bool := false
  ref       : Nat := 0
  stop      : Option StopKind := none
  busBrake  : Bool := false
  busRec    : Bool := false
  predRun   : Nat := 0
  period    : Nat := 0
  lastWin   : Nat := 0
  vbus      : Nat := 0
  iD        : Int := 0
  iQ        : Int := 0
  vD        : Int := 0
  vQ        : Int := 0
  omega     : Nat := 0
  samples   : List Nat := []
  overRun   : Nat := 0
  overPeak  : Nat := 0
  emfRun    : Nat := 0
  iaNeg     : Bool := false
  iaAt      : Nat := 0
  iaSeen    : Bool := false
  keSum     : Int := 0
  keNum     : Nat := 0
  kePer     : Nat := 0
  keSlow    : Bool := false
  keTeeth   : Nat := 0
  lowCoast  : Bool := false
  deriving DecidableEq, Repr

/-! ### Steppers (08_steppers.md) -/

/-- A planned move (R208, R209): start and target in microsteps × 2^16; peak velocity, acceleration and jerk in 2^-32
microstep per planner tick (and its powers); the jerk time, the ramp time, the duration and the time reached, all in
2^-16 planner ticks. -/
structure MovePlan where
  start  : Int
  target : Int
  vel    : Nat
  acc    : Nat
  jerk   : Nat
  tJerk  : Nat
  tRamp  : Nat
  total  : Nat
  time   : Nat
  deriving DecidableEq, Repr

/-- The part of homing a stepper is in (R213). -/
inductive HomeStage where
  | off | inward | holdIn | outward | holdOut
  deriving DecidableEq, Repr

/-- What a stepper does once it has come to rest (R210): nothing, a move to a microstep, homing, a hold, following. -/
inductive AfterStop where
  | none | move (target : Int) | home | hold | follow | park
  deriving DecidableEq, Repr

/-- A stepper beyond its registers: position in microsteps × 2^16, velocity per tick × 2^16, PH_OFS, the present plan,
whether SETTLE runs after a final tick, what follows the stop under way, whether the move returns to FOLLOW, the part
of homing, and what a stall wait resumes. -/
structure Stepper where
  pos      : Int := 0
  vel      : Int := 0
  phOfs    : Nat := 0
  plan     : Option MovePlan := none
  settling : Bool := false
  after    : AfterStop := .none
  toFollow : Bool := false
  home     : HomeStage := .off
  resume   : AfterStop := .none
  deriving DecidableEq, Repr

/-- The sled encoder of a bay (R215 to R218): the last valid state, transitions judged illegal with the ENCODER sample
index at which they fell, consecutive checks beyond the window, samples for which the count stood still (µs × 10),
whether a stall wait runs, and the SYSCLK cycles of the stalls that count towards TRIES. -/
structure Encoder where
  last     : Option Nat := none
  illegal  : List Nat := []
  devRun   : Nat := 0
  still    : Nat := 0
  stalled  : Bool := false
  stalls   : List Nat := []
  deriving DecidableEq, Repr

/-- What became of one sector or item of a command: its outcome (R281, where it has one), the failure status it gives
(0 where it succeeded), what its report says of the deciding read (R282), and its plaintext until it is delivered. -/
structure Item where
  outcome   : Nat
  fail      : Nat
  flywheel  : Bool := false
  single    : Bool := false
  step      : Nat := 0xFF
  iter      : Nat := 0
  erased    : Nat := 0
  miss      : Nat := 0
  beam      : Nat := 0xFF
  pred      : Bool := false
  copied    : Bool := false
  shadow    : Bool := false
  psa       : Nat := 0
  data      : List Byte := []
  deriving DecidableEq, Repr

/-- A command in flight: a bay command under its tag, or a unit command under a running number.  `rring` is the
receipt ring its receipts go to; `second` says that the receipt reserved for STAGED is still reserved; `span` is its
entry in the range-lock table (R380), `granted` that the lock has been granted and its checks passed; `items` are the
outcomes so far by index, `count` how many items it names; `staged` the sectors staged; `stop` the status that ends its
further work; `loc` is the data locator as (address, length) pieces; `sent` the items delivered; `waits` the tags a
FLUSH waits for and `failedWr` those of them that failed; `stage` where a command of several steps stands; `buf` data that has come and is not
staged yet, `hash` the string of its fixity record, `limit` the item at which its writing stops, `shards` the bytes so far of each shard read or written; `born` the
moment in ms its waybill was fetched (R404). -/
structure Cmd where
  id        : Nat
  wb        : Waybill
  sring     : Nat
  rring     : Nat
  second    : Bool := false
  span      : Option (Nat × Nat) := none
  granted   : Bool := false
  count     : Nat := 0
  items     : Sparse Item := []
  staged    : List Nat := []
  stop      : Option Nat := none
  result    : Nat := 0
  rcount    : Nat := 0
  trunc     : Bool := false
  stage     : Nat := 0
  waits     : List Nat := []
  failedWr  : Nat := 0
  born      : Nat := 0
  urgent    : Bool := false
  discard   : Bool := false
  loc       : List (Nat × Nat) := []
  sent      : Nat := 0
  relocs    : Nat := 0
  closed    : List Nat := []
  already   : Nat := 0
  scanX     : Nat := 0
  crcRun    : Nat := 0
  buf       : List Byte := []
  hash      : List Byte := []
  limit     : Option Nat := none
  shards    : Sparse (List Byte) := []
  deriving DecidableEq, Repr

/-! ### Reading (09_read_channel.md, 10_decoding_recovery.md) -/

/-- One beam's sector in a group (R249): its slot, whether it is a verify read, only blank-tested, flagged `FLYWHEEL`, or
read in single-track fallback; the sample position of its first period and the nominal step (2^-40 sample); its samples
and the reflectance flag at each, newest first; what framing found (R242 to R248); the last pass's LLRs; the decoder (R268)
with the passes delivered and decoded and the iterations made; whether it converged, and whether its decoding has ended. -/
structure Member where
  beam    : Nat
  psa     : Nat
  verify  : Bool := false
  test    : Bool := false
  fly     : Bool := false
  single  : Bool := false
  pos     : Int := 0
  step    : Int := 0
  samples : List (Option Int) := []
  flags   : List Bool := []
  framed  : Bool := false
  blank   : Bool := false
  pred    : Bool := false
  miss    : Nat := 0
  syncAt  : Option Int := none
  vals    : List Sig := []
  decs    : List Bool := []
  heads   : List Nat := []
  llr     : List Int := []
  code    : Option Ldpc := none
  passes  : Nat := 0
  decoded : Nat := 0
  iters   : Nat := 0
  conv    : Bool := false
  done    : Bool := false
  deriving DecidableEq, Repr

/-- A sector that has decoded and passed its identity test, waiting for its DATA_CRC (R269): the tag and item it serves, if
any, home slot and slot read, its 4,128 bytes, the outcome it gets when the check passes, and whether the on-the-fly
decoder gave it. -/
structure Decoded where
  tag   : Option (Nat × Nat)
  home  : Nat
  psa   : Nat
  bytes : List Byte
  item  : Item
  otf   : Bool
  deriving DecidableEq, Repr

/-- A zone-table fetch (R234, R235): not asked for, running, come with an entry that passed or failed its check. -/
inductive Fetch where
  | running | good (e : List Byte) | bad
  deriving DecidableEq, Repr

/-- A slot being read (R234, R249): the index of its entry, the slot of beam C, the pattern (0 three beams, 1 single
track, 2 verify), the fetch, whether the preamble has passed, the latched entry and whether it was the held copy, the
offsets d_I, d_C, d_O (nm) known at the start and at each wedge accepted since, and the members. -/
structure Frame where
  idx     : Nat
  at_     : SlotAddr
  pattern : Nat
  fly     : Bool
  fetch   : Fetch := .running
  started : Bool := false
  late    : Bool := false
  entry   : List Byte := []
  ofs0    : List Int := []
  ofs     : Sparse (List Int) := []
  members : List Member := []
  deriving DecidableEq, Repr

/-- A capture (R272): the group as it stood after the last pass, and the beam of the sector captured. -/
structure Capture where
  frame : Frame
  beam  : Nat
  deriving DecidableEq, Repr

/-- The reflectance path of one beam (R246): sum and number of samples in the block, whether one of them was erased, the
run of blocks against the flag, and the flag. -/
structure Refl where
  sum  : Int := 0
  num  : Nat := 0
  era  : Bool := false
  run  : Nat := 0
  flag : Bool := false
  deriving DecidableEq, Repr

/-- A sector in the recovery ladder (R274): its tag and item, home slot and slot sought; the step and the reads made in
it; the capture; the LLR sets (R273); whether its request is queued or being decoded; the pointers of its capture and LLR
buffers; the highest step entered and the
set of steps entered; and the report of the last read. -/
structure Rung where
  tag     : Nat
  item    : Nat
  home    : Nat
  psa     : Nat
  step    : Nat := 0
  reads   : Nat := 0
  capture : Option Capture := none
  sets    : List (List Soft) := []
  queued  : Bool := false
  running : Bool := false
  capPtr  : Option Nat := none
  llrPtrs : List Nat := []
  top     : Nat := 0xFF
  entered : Nat := 0
  last    : Item := ⟨5, 0, false, false, 0xFF, 0, 0, 0, 0xFF, false, false, false, 0, []⟩
  deriving DecidableEq, Repr

/-- The reading side of a bay beyond its registers: frames in order, the held entry with its index and whether it
passed R235 (R234), the entries reported bad since their last good check (R264), the reflectance paths, a rate change
that waits for the next RF frame (R232), how many beams read before the last advance and a change of pattern due
(R158), the ladder, the sectors of extents held by home slot (R277) with the positions found blank or failed, the slots
to be read again, the raw capture of TABLE_READ, sectors that wait for their DATA_CRC check, the last offsets of beams I,
C and O (nm), and whether the deltas of R275 are applied. -/
structure ReadS where
  frames  : List Frame := []
  held    : Option (Nat × List Byte × Bool) := none
  badSeen : List Nat := []
  refl    : Sparse Refl := []
  adcNew  : Option Nat := none
  pattern : Nat := 0
  ladder  : List Rung := []
  known   : Sparse (List Byte) := []
  blanks  : List Nat := []
  lost    : List Nat := []
  shadows : List Nat := []
  raw     : Option (Nat × List Byte) := none
  hold    : List Decoded := []
  ofsNow  : List Int := [0, 0, 0]
  ofsOn   : Bool := false
  deriving DecidableEq, Repr

/-! ### Writing (11_write_path.md) -/

/-- A journal entry (R308) of a bay, with its staleness (R310). -/
structure JEntry where
  disc   : Nat
  psa    : Nat
  home   : Nat
  count  : Nat
  state  : Nat
  kind   : Nat
  reason : Nat
  tag    : Nat
  seq    : Nat
  stale  : Bool := false
  deriving DecidableEq, Repr

/-- Where a sector of a write run stands. -/
inductive WPhase where
  | waiting | committed | written | durable | failed
  deriving DecidableEq, Repr

/-- A sector of a write run or relocation: its slot and home, KIND and REASON of R308 (KIND 5 marks a slot of a replayed entry, R311), its tag and item, the 4,128 bytes
encoded, its journal entry (64 before it has one), whether its slot passed the blank test in this run, whether it is verify-critical, how often
its verify was read again, and where it stands. -/
structure WSector where
  psa    : Nat
  home   : Nat
  kind   : Nat
  reason : Nat
  tag    : Nat
  item   : Nat
  info   : List Byte
  entry  : Nat
  tested : Bool := false
  vcrit  : Bool := false
  redo   : Nat := 0
  phase  : WPhase := .waiting
  deriving DecidableEq, Repr

/-- The gate run in progress (R101, R102): its slot, the launch instant, the wedges whose windows lie inside it, the
records of the segments not yet released, and the wedges missed in it. -/
structure GateRun where
  psa    : Nat
  launch : Nat
  wedges : List Nat
  segs   : List (List Nat)
  misses : List Nat := []
  deriving DecidableEq, Repr

/-- A parity buffer (R306): the disc, the extent, the mask of data positions held, the 8 × 4,128 bytes, and its pointer. -/
structure ParityBuf where
  disc   : Nat
  x      : Nat
  mask   : Nat
  bytes  : List Nat
  ptr    : Nat
  deriving DecidableEq, Repr

/-- The writing side of a bay: the run's sectors, the gate run, copies queued for relocation, defect records staged with
the journal entry of each (64 where none), when the oldest was staged (ms), the commit in progress with the tags it is
made for, parity buffers, journal entries that are not FREE, the creation counter (R308), and the powers last sent. -/
structure WriteS where
  run     : List WSector := []
  gate    : Option GateRun := none
  reloc   : List WSector := []
  staged  : List (DefectRec × Nat) := []
  oldest  : Nat := 0
  commit  : Option (List Nat) := none
  parity  : List ParityBuf := []
  journal : Sparse JEntry := []
  jseq    : Nat := 0
  powers  : List Int := []
  deriving DecidableEq, Repr

/-- What the controller holds of the mounted disc (R382): identity, the Anchor in force, the directory, the committed
defect list (newest first) and the pointers of its buffers, key bindings by partition, the media-table record named, the write-calibration map (R328),
extents known closed, spare slots known used, the next system-area and Anchor slots, why every write fails (0 none),
and whether the mount is suspended (R564). -/
structure DiscS where
  info    : Option DiscInfo := none
  anchor  : Option Anchor := none
  dir     : List PartEntry := []
  defects : List DefectRec := []
  binds   : Sparse Nat := []
  mtIndex : Option Nat := none
  wcal    : List Nat := []
  closed  : List Nat := []
  spares  : List Nat := []
  dlBufs  : List Nat := []
  sysNext : Nat := 0
  ancNext : Nat := 0
  refuse  : Nat := 0
  suspend : Bool := false
  deriving DecidableEq, Repr

/-! ### Calibration (12_calibration.md) -/

/-- A calibration asked for: entry, read scope, write scope, background, whether CAL_CTL.REQ asked for it. -/
structure CalReq where
  idx   : Nat
  read  : Bool
  write : Bool
  back  : Bool
  req   : Bool
  deriving DecidableEq, Repr

/-- A calibration running: what was asked for, the entry as items have changed it, items still to run (the one in progress
first; item 10 as its parts 101 to 104), results of the present item's runs (newest first; components in units of 2^-16
of a field's unit), whether an item was unsettled, whether items were inherited, T at its start, and the slot and P_0 of
the present run of item 11. -/
structure CalRun where
  req       : CalReq
  entry     : List Byte
  todo      : List Nat
  runs      : List (Option (List Int)) := []
  unsettled : Bool := false
  inherited : Bool := false
  temp      : Nat := 0
  pca       : Option (Int × Nat × Nat) := none
  deriving DecidableEq, Repr

/-- Calibration of a bay: queued requests, the run in progress, and the temperatures reported, newest first (R330). -/
structure CalS where
  queue : List CalReq := []
  run   : Option CalRun := none
  temps : List Int := []
  deriving DecidableEq, Repr

/-! ### Scheduling (15_scheduling.md) -/

/-- What a segment serves (R402): a tag, a calibration, or a defect-list commit. -/
inductive Work where
  | tag (t : Nat)
  | calibrate
  | commit
  deriving DecidableEq, Repr

/-- The scheduler of a bay: the segment in progress, whether its first frame or pass has begun, its revolutions or passes,
whether it is a write run and whether its verify pass is under way (R300), the angle, in counts, at which the bay arrived on
the present track, W0 decisions left until the gap closes, when the waiting calibration and commit
were created (ms), which of those two are URGENT, and whether a commit is due to a threshold (R402). -/
structure Sched where
  seg     : Option Work := none
  begun   : Bool := false
  revs    : Nat := 0
  writes  : Bool := false
  vpass   : Bool := false
  arrived : Nat := 0
  gap     : Nat := 0
  calBorn : Nat := 0
  dlBorn  : Nat := 0
  calUrg  : Bool := false
  dlUrg   : Bool := false
  dlDue   : Bool := false
  deriving DecidableEq, Repr

/-! ### Memory and the Caddy (17_memory_cache_caddy.md) -/

/-- A line of the system cache (R457): its way, the valid and dirty masks of its four sectors, and for each dirty sector the
64 bytes that the DRAM array still holds. -/
structure CacheLine where
  way   : Nat
  valid : Nat := 0
  dirty : Nat := 0
  under : Sparse (List Byte) := []
  deriving DecidableEq, Repr

/-- DRAM and cache beyond their registers: lines by line number (address / 256); the eviction buffer, oldest first, as line
number, dirty mask and array bytes; bursts that are uncorrectable and cache or scratch sectors that are poisoned
(address / 64); corrections of a channel in the present second with whether its rate has been recorded; channels whose
training resumes; ways being cleaned into scratch slots; and the cycle a scrub pass began. -/
structure MemS where
  lines   : Sparse CacheLine := []
  evb     : List (Nat × Nat × Sparse (List Byte)) := []
  bad     : List Nat := []
  poison  : List Nat := []
  rate    : Sparse (Nat × Nat × Bool) := []
  resume  : List Nat := []
  scrubAt : Nat := 0
  deriving DecidableEq, Repr

/-- What a buffer asked of the Caddy is for: the answer of a requester's port, a recovery capture of a slot (R272), a
bay's parity buffer of an extent (R306), a buffer of a bay's defect list (R382),
or a sequencer's cache/Caddy port (R492). -/
inductive CaddyUse where
  | port
  | capture (bay psa : Nat)
  | parity (bay x : Nat)
  | defects (bay : Nat)
  | seq (q : Nat)
  deriving DecidableEq, Repr

/-- A held buffer (R467): its holders in order of joining, the requester it is charged to, and its class. -/
structure HeldBuf where
  holders : List Nat
  charged : Nat
  cls     : Nat
  deriving DecidableEq, Repr

/-- The Caddy beyond its registers: held buffers by tag; for each region the buffers freed since its enable, latest first,
and the first buffer never granted; the requests that wait, in arrival order; and answers given to requesters' ports, newest
first (requester, response word of R466). -/
structure Caddy where
  held    : Sparse HeldBuf := []
  freed   : Sparse (List Nat) := []
  next    : Sparse Nat := []
  waiting : List (Nat × Nat × CaddyUse) := []
  answers : List (Nat × Nat) := []
  deriving DecidableEq, Repr

/-! ### Fabric and management chain (19_fabric_rollcall.md) -/

/-- What a transfer moves data for: a peer's use of a window, a bay command, a unit command, or a shard of a stripe command. -/
inductive XferUse where
  | window
  | tag (bay t : Nat)
  | unit (k : Nat)
  | shard (k i : Nat)
  deriving DecidableEq, Repr

/-- A transfer state (R530, R533): its port and whether PORT chose it automatically; whether this unit is the initiator; the
peer, XID, direction, window, key, offset, length and SEG; its use; whether it waits for a transfer state, OPEN was answered
ACCEPT, REFUSE BUSY came last; where the local data stands in DRAM, or its bytes: those at hand to be sent, or those received in
order; frames sent once, the lowest SEQ not acknowledged (or not received), those above it that are, those reported missing; how
often an unacknowledged frame was sent; payloads received above CUM; DATA frames since the last ACK and when a frame above CUM was
last acknowledged (cycle); counters of control kinds; the RTO multiple; frames dropped by authentication; and whether COMPLETE
has been acknowledged. -/
structure Xfer where
  port   : Nat
  auto   : Bool
  own    : Bool
  peer   : Nat
  xid    : Nat
  get    : Bool
  win    : Nat
  wkey   : Nat
  wofs   : Nat
  len    : Nat
  seg    : Nat
  use    : XferUse
  queued : Bool := false
  opened : Bool := false
  busy   : Bool := false
  addr   : Option Nat := none
  data   : List Byte := []
  next   : Nat := 0
  cum    : Nat := 0
  marks  : List Nat := []
  gaps   : List Nat := []
  tries  : Sparse Nat := []
  parts  : Sparse (List Byte) := []
  fresh  : Nat := 0
  ackAt  : Option Nat := none
  ctl    : Sparse Nat := []
  rto    : Nat := 1
  auths  : Nat := 0
  done   : Bool := false
  deriving DecidableEq, Repr

/-- A frame held for a newer epoch (R542): its port, packet and Caddy buffer. -/
structure HeldFrame where
  port   : Nat
  packet : FabPacket
  ptr    : Nat
  deriving DecidableEq, Repr

/-- The fabric beyond its registers: transfers, the next XID, held frames, the transfers (unit, XID, own) on which a STALE was
sent or received, frames that wait while the peer pauses priority PCP, and ports that assert flow control. -/
structure Fab where
  xfers  : List Xfer := []
  xid    : Nat := 0
  held   : List HeldFrame := []
  staled : List (Nat × Nat × Bool) := []
  txq    : List (Nat × Emission) := []
  pausing : List Nat := []
  deriving DecidableEq, Repr

/-- A proposal of this unit (R540): the unit command, its epoch, the units that answered APPLIED or DUPLICATE, how many of those
and of other answers came, and whether REFUSED, CAUSE or TIMEOUT was among them. -/
structure Proposer where
  id      : Nat
  epoch   : Nat
  units   : List Nat := []
  yes     : Nat := 0
  others  : Nat := 0
  refused : Bool := false
  caused  : Bool := false
  late    : Bool := false
  deriving DecidableEq, Repr

/-- The management chain: the next FSEQ, the frames (unit, FSEQ) that passed or were sent once, the cycle of the last ALERT of
each code, the proposals of this unit, and the target of the proposal that gave the present epoch. -/
structure Chain where
  fseq    : Nat := 0
  seen    : List (Nat × Nat) := []
  alert   : Sparse Nat := []
  props   : List Proposer := []
  applied : Option Nat := none
  deriving DecidableEq, Repr

/-! ### Microsequencers and control stores (18_microsequencers.md) -/

/-- A work item of a sequencer (R493): a waybill under its tag, a fired event with its tag, a due scheduler decision or an
attention of a bay; or a unit customer command (R486). -/
inductive SeqWork where
  | waybill (bay tag : Nat)
  | event (bay tag : Nat)
  | decision (bay : Nat)
  | attention (bay : Nat)
  | unit (id : Nat)
  deriving DecidableEq, Repr

/-- A hook call in progress (R501): the hook, the vendor address pushed by the call, the stack entries at the call, and the
cycles since. -/
structure HookCall where
  hook   : Nat
  ret    : Nat
  depth  : Nat
  cycles : Nat
  deriving DecidableEq, Repr

/-- A sequencer beyond its registers (18_microsequencers.md): G0 to G63, FLAGS, the eight stack entries from the bottom, µPC, the
timer's compare value and the microsecond from which the timer counts; MEM_DATA, BAY_DATA and CP_RESP; for each port the answer to
come while it is busy (a cache or Caddy answer may still have to be given); a WAIT word in progress, with FLAGS and the A operand
as they stood before it; the work item served; the hook call in progress; and the bank to switch to at the next idle boundary. -/
structure Seq where
  g       : Sparse Nat := []
  flags   : Nat := 0
  stack   : List Nat := [0, 0, 0, 0, 0, 0, 0, 0]
  upc     : Nat := 0
  tcmp    : Nat := 0
  t0      : Nat := 0
  memData : Nat := 0
  bayData : Nat := 0
  cpResp  : Nat := 0
  memAns  : Option (Option Nat) := none
  bayAns  : Option (List Nat) := none
  cpBusy  : Bool := false
  cpAns   : Option (Option Nat) := none
  wait    : Option (Nat × Nat) := none
  item    : Option SeqWork := none
  hook    : Option HookCall := none
  switch  : Option Nat := none
  deriving DecidableEq, Repr

/-- A bank of a control store (R504 to R508): its microwords (192 bits, unlisted = 0), addresses whose word does not decode,
header bytes 0 to 59 and CRC of the image loaded, the addresses of its records, whether a reserved field of them was not zero, and
whether the words still match the recorded image. -/
structure Bank where
  words : Sparse Nat := []
  bad   : List Nat := []
  head  : List Byte := []
  crc   : Nat := 0
  recs  : List Nat := []
  resv  : Bool := false
  whole : Bool := false
  deriving DecidableEq, Repr

/-- A cluster's control store beyond its registers (R499, R505, R506, R510): the bank of the LOAD or VERIFY in progress; the bank
of the activation and whether it is being reverted because ACT_TMO expired; and the second of the last corrected fetch, the
corrections in it, and whether their rate has been recorded in it. -/
structure Cluster where
  loading   : Option Nat := none
  verifying : Option Nat := none
  target    : Nat := 0
  late      : Bool := false
  rate      : Nat × Nat × Bool := (0, 0, false)
  deriving DecidableEq, Repr

/-! ### The bay -/

/-- Hidden state of one bay: everything its registers do not show.  `tags` are the commands admitted, in admission
order; `waiting` the commands that wait in Porter's pending queue for a tag (R346); `stepLast` and
`stepDue` are when the last STEP frame went and when one is due (R203), in 2^-16 of a planner tick from its start; for the serving
sequencer: an interrupt cause that waits and an attention not yet taken (R485, R494), fired-event reports not yet popped (R492),
tags whose waybill it has not taken as a work item, and a move accepted: target, position, and whether the old sequencer has given
the bay up (R485). -/
structure Bay where
  link     : Link := {}
  tracker  : Tracker := {}
  servo    : Servo := {}
  focus    : Focus := {}
  spin     : Spin := {}
  sled     : Stepper := {}
  sa       : Stepper := {}
  enc      : Encoder := {}
  tags     : List Cmd := []
  waiting  : List Cmd := []
  mounted  : Bool := false
  disc     : DiscS := {}
  reading  : ReadS := {}
  writing  : WriteS := {}
  cal      : CalS := {}
  sched    : Sched := {}
  stepLast : Int := -1311
  stepDue  : Option Int := none
  intr     : Bool := false
  attn     : Bool := false
  reports  : List TimelineEntry := []
  arrived  : List Nat := []
  move     : Option (Nat × Nat × Bool) := none
  deriving DecidableEq, Repr

/-! ## The unit -/

/-- The part that the controller is (R1, R2). -/
inductive Variant where
  | ky8128 | ky8128n | ky8064 | ky8032e
  deriving DecidableEq, Repr

/-- Bays the variant has (R2). -/
def Variant.bays : Variant → Nat
  | .ky8128 => 128 | .ky8128n => 128 | .ky8064 => 64 | .ky8032e => 32

/-- CAP bits 23:0 (R2). -/
def Variant.cap : Variant → Nat
  | .ky8128 => 0x012C80 | .ky8128n => 0x010C80 | .ky8064 => 0x012440 | .ky8032e => 0x010020

/-- The whole state of the controller: the commands that wait, first in first out, and everything the spec gives the
machine.  `regs` holds every register field that is not at its reset value; `out` what has left the controller, latest first, and `heldOut`
what waits for bus mastering, in order (R340); `dram` the bytes of controller DRAM that are not
zero (an unlisted address reads zero, as the fill of R447 leaves it); `keys` the 64 bytes of each key slot that holds a key
(R432) and `fabKeys` the 32 bytes of each fabric key slot that holds one (R551); `banks` the control-store banks by 2 × cluster +
bank. -/
structure State where
  pending   : List Instr := []
  variant   : Variant := .ky8128
  stepping  : Nat := 0xA0
  cycle     : Nat := 0
  freeCount : Nat := 0
  regs      : Sparse Nat := []
  staged    : Sparse Nat := []
  latched   : Sparse Nat := []
  out       : List Emission := []
  heldOut   : List Emission := []
  dram      : List Host.Cell := []
  mem       : MemS := {}
  caddy     : Caddy := {}
  keys      : Sparse (List Byte) := []
  fabKeys   : Sparse (List Byte) := []
  bays      : Sparse Bay := []
  porter    : Porter := {}
  subs      : Sparse SubRing := []
  rcps      : Sparse RcpRing := []
  channels  : Sparse Channel := []
  pcie      : PcieCfg := {}
  units     : List Cmd := []
  seqs      : Sparse Seq := []
  banks     : Sparse Bank := []
  clusters  : Sparse Cluster := []
  fab       : Fab := {}
  chain     : Chain := {}
  ledger    : Ledger := {}
  gtrc      : GlobalTrace := {}
  sup       : Supervisor := {}
  rtcS      : RtcS := {}
  domPhase  : Sparse DomPhase := []
  pendMode  : Option PendingMode := none
  deriving DecidableEq, Repr

/-- The state at which a model run begins (DESIGN CHOICE, log entry 2). -/
def State.reset : State := {}

/-- Why a step stops with a fault. -/
inductive Fault where
  /-- Raised by no command: no behaviour of the spec ends the controller's operation. Safe. -/
  | none
  deriving DecidableEq, Repr

/-- Why a command has no meaning. -/
inductive Refusal where
  /-- Raised by the dispatch arm of a command whose meaning has not been written; names its mnemonic.  Safe. -/
  | notModelled (mnemonic : String)
  deriving DecidableEq, Repr

end Sys2Proof.Machine
end

