-- ==== Sys2Proof/Machine/Ops.lean ====
section
/-!
DEFINITION. The named operations every command is written with: register fields, free values, outputs, the ledger
engine (R598 to R607), the global trace (R608 to R610), MSI-X messages (R359, R620), the luggage bank (R569, R570), and
time stamps.
-/

namespace Sys2Proof.Machine

/-! ## Register fields (R13, R14, R648) -/

/-- The value of a register field: never more than its bits hold. -/
def State.get (s : State) (f : Field) : Nat := Sparse.get f.reset s.regs f.key % 2 ^ f.width

/-- Write a register field; only the bits it has are kept. -/
def State.put (s : State) (f : Field) (v : Nat) : State := { s with regs := Sparse.put s.regs f.key (v % 2 ^ f.width) }

/-- Whether a one-bit field is set. -/
def State.on (s : State) (f : Field) : Bool := s.get f != 0

/-- Set a one-bit field to a Boolean. -/
def State.putB (s : State) (f : Field) (b : Bool) : State := s.put f (b2n b)

/-- Set a one-bit field. -/
def State.raise (s : State) (f : Field) : State := s.put f 1

/-- Clear a field. -/
def State.zero (s : State) (f : Field) : State := s.put f 0

/-- The signed value of a field. -/
def State.getS (s : State) (f : Field) : Int := toInt f.width (s.get f)

/-- The track a field holds (R35). -/
def State.getTrack (s : State) (f : Field) : Int := trackOfBits (s.get f)

/-- Write a signed value, wrapping. -/
def State.putS (s : State) (f : Field) (x : Int) : State := s.put f (ofInt f.width x)

/-- Add to a counter that saturates. -/
def State.count (s : State) (f : Field) (n : Nat) : State := s.put f (satAdd f.width (s.get f) n)

/-- The acting value of a field with a range (R648). -/
def State.acting (s : State) (f : Field) (lo hi : Nat) : Nat := clampNat lo hi (s.get f)

/-- Return every register field whose register lies at `lo ≤ offset < hi` to its reset value. -/
def State.resetRegs (s : State) (lo hi : Nat) : State := { s with regs := Sparse.clear s.regs (32 * lo) (32 * hi) }

/-! ## Free values and outputs -/

/-- A free value of width `w` and the state that has used it up (DESIGN CHOICE, log entry 3). -/
def State.fresh (s : State) (w : Nat) : Nat × State :=
  ((Config.free w s.freeCount).toNat, { s with freeCount := s.freeCount + 1 })

/-- `num / den` rounded to one of its two neighbours, which the spec leaves open; an exact quotient is itself
(DESIGN CHOICE, log entry 12). -/
def State.roundOpen (s : State) (num : Int) (den : Nat) : Int × State :=
  (if num % (den : Int) = 0 then num / (den : Int) else num / (den : Int) + ((s.fresh 1).1 : Int),
   if num % (den : Int) = 0 then s else (s.fresh 1).2)

/-- Whether requests may issue on the PCI Express link (R340). -/
def State.canIssue (s : State) : Bool := s.pcie.busMaster && !s.pcie.d3hot

/-- Whether an output is a request on the PCI Express link. -/
def Emission.isRequest : Emission → Bool
  | .hostWrite _ _ => true
  | .hostRead _ _ _ => true
  | _ => false

/-- Record an output (DESIGN CHOICE, log entry 7); a request to host memory waits while none may issue (R340). -/
def State.emit (s : State) (e : Emission) : State :=
  if e.isRequest && !s.canIssue then { s with heldOut := s.heldOut ++ [e] } else { s with out := e :: s.out }

/-! ## Bays by number -/

/-- The hidden state of bay `n`. -/
def State.bay (s : State) (n : Nat) : Bay := Sparse.get {} s.bays n

/-- Replace the hidden state of bay `n`. -/
def State.setBay (s : State) (n : Nat) (b : Bay) : State := { s with bays := Sparse.put s.bays n b }

/-- Whether the variant has bay `n` (R2, R7). -/
def State.bayPresent (s : State) (n : Nat) : Bool := decide (n < s.variant.bays)

/-- The bay state of R25: 0 (`ABSENT`) for an absent bay (R7). -/
def State.bayState (s : State) (n : Nat) : Nat := if s.bayPresent n then s.get (R.STATE.STATE n) else 0

/-! ## Time stamps (R573, R598) -/

/-- The RTC counter. -/
def State.rtc (s : State) : Nat := s.get R.RTC_SEC_LO.SEC + 2 ^ 32 * s.get R.RTC_SEC_HI.SEC

/-- Microseconds within the present second (R573): 1,000 SYSCLK cycles each, stopping at 999,999. -/
def State.rtcSub (s : State) : Nat := min 999999 ((s.cycle - s.rtcS.base : Int) / 1000).toNat

/-- The bay's angle register as one word, REV over ANGLE (R106). -/
def State.angNow (s : State) (n : Nat) : Nat := 2 ^ 24 * s.get (R.ANG_NOW.REV n) + s.get (R.ANG_NOW.ANGLE n)

/-! ## Global trace (R608 to R610) -/

/-- Whether comparator `k` fires on a record (R610 step 2, R616). -/
def State.trcFires (s : State) (k : Nat) (r : TraceRec) : Bool :=
  s.on (R.GTRC_CMP.EN k) && (s.on (R.GTRC_CMP.STREAM_ANY k) || s.get (R.GTRC_CMP.STREAM k) == r.stream)
    && (s.get (R.GTRC_CMP.SOURCE k) &&& s.get (R.GTRC_MASK.SRC_MASK k)) == (r.source &&& s.get (R.GTRC_MASK.SRC_MASK k))
    && (s.get (R.GTRC_CMP.CODE k) &&& s.get (R.GTRC_MASK.CODE_MASK k)) == (r.code &&& s.get (R.GTRC_MASK.CODE_MASK k))

/-- The comparators that fire on a record, FORCE being comparator 4 (R610). -/
def State.trcMask (s : State) (r : TraceRec) : Nat :=
  (List.range 4).foldl (fun m k => m + b2n (s.trcFires k r) * 2 ^ k) 0 + b2n (s.on R.GTRC_ARM.FORCE) * 16

/-- The split of the lowest comparator in a mask (R610), in records. -/
def State.trcSplit (s : State) (m : Nat) : Nat :=
  64 * (match (List.range 4).find? (bitAt m) with
    | some k => s.get (R.GTRC_MASK.PRE k)
    | none => s.get R.GTRC_ARM.FORCE_PRE)

/-- Records the trace buffer holds (R608). -/
def traceSize : Nat := 16384

/-- Keep the latest `n` records of a list; FIRST is the place in the ring of the oldest. -/
def State.trcKeep (s : State) (b : List TraceRec) (n : Nat) : State :=
  let d := b.length - n
  let i := (s.gtrc.base + d) % traceSize
  { s with gtrc := { s.gtrc with buf := b.drop d, base := i } }.put R.GTRC_STAT.FIRST i

/-- Write one record into the capture in progress (R610 steps 1 to 3): before the trigger the buffer keeps the latest
16,384; at the trigger it keeps the split and the trigger record; after it records until it is full. -/
def State.trcStore (s : State) (r : TraceRec) : State :=
  if s.on R.GTRC_STAT.TRIGGERED then
    if s.gtrc.buf.length < traceSize then { s with gtrc := { s.gtrc with buf := s.gtrc.buf ++ [r] } } else s
  else
    let m := s.trcMask r
    if m = 0 then
      let b := s.gtrc.buf ++ [r]
      s.trcKeep b traceSize
    else
      let s1 := s.trcKeep s.gtrc.buf (s.trcSplit m)
      let i := (s1.gtrc.base + s1.gtrc.buf.length) % traceSize
      ((({ s1 with gtrc := { s1.gtrc with buf := s1.gtrc.buf ++ [r] } }.raise R.GTRC_STAT.TRIGGERED).put R.GTRC_ARM.TRIG_MASK m).put
        R.GTRC_STAT.TRIG_IDX i).zero R.GTRC_ARM.FORCE

/-- Offer a record of a stream to the trace (R609): recorded while a capture is active and the stream selected, up to
four in one SYSCLK cycle, the rest counted as lost. -/
def State.trace (s : State) (stream source code arg0 arg1 arg2 : Nat) : State :=
  if s.on R.GTRC_STAT.ACTIVE && bitAt (s.get R.GTRC_CTL.STREAMS) stream then
    if s.gtrc.inCycle < 4 then
      { s with gtrc := { s.gtrc with inCycle := s.gtrc.inCycle + 1 } }.trcStore
        ⟨s.cycle, stream, source, code, arg0, arg1, arg2⟩
    else s.count R.GTRC_LOST.LOST 1
  else s

/-! ## MSI-X (R359, R620) -/

/-- Whether vector `v` counts as masked (R359), or its message cannot be issued now (R340; DEDUCED, log entry 10). -/
def State.vectorHeld (s : State) (v : Nat) : Bool :=
  s.on (R.MSIX_CTL.MASK v) || s.pcie.funcMask || !s.pcie.msixEnable || !s.pcie.busMaster || s.pcie.d3hot

/-- The PBA bit of vector `v` (R620): bit v mod 64 of 64-bit word v div 64. -/
def State.pbaSet (s : State) (v : Nat) (b : Bool) : State :=
  s.put (R.MSIX_PBA.PEND (v / 32)) (setBit (s.get (R.MSIX_PBA.PEND (v / 32))) (v % 32) b)

/-- Whether the PBA bit of vector `v` is set. -/
def State.pbaPending (s : State) (v : Nat) : Bool := bitAt (s.get (R.MSIX_PBA.PEND (v / 32))) (v % 32)

/-- Issue the message of vector `v` from its table entry. -/
def State.sendMsix (s : State) (v : Nat) : State :=
  s.emit (.msix (s.get (R.MSIX_ADDR_LO.ADDR v) + 2 ^ 32 * s.get (R.MSIX_ADDR_HI.ADDR v)) (s.get (R.MSIX_DATA.DATA v)))

/-- Signal a vector: its message is sent, or held in the PBA while the vector is masked. -/
def State.signal (s : State) (v : Nat) : State := if s.vectorHeld v then s.pbaSet v true else s.sendMsix v

/-! ## The luggage bank (R569, R570) -/

/-- Offsets of the bank's seal words (R569). -/
def lugSeal : Nat := 0x0FFFF0

/-- The value of SEAL in a sealed bank. -/
def sealedWord : Nat := 0x4C414553

/-- Read `n` bytes of the bank as a little-endian number. -/
def State.lugRead (s : State) (off n : Nat) : Nat := ofBytesLE (Sparse.bytes 0 s.sup.bank n off)

/-- Store bytes in the bank as they are. -/
def State.lugStore (s : State) (off : Nat) (l : List Byte) : State :=
  { s with sup := { s.sup with bank := Sparse.putAll 0 s.sup.bank off l } }

/-- A write to the bank (R570): it waits for a seal in progress; the first write to a sealed bank first writes SEAL
as 0. -/
def State.lugWrite (s : State) (off : Nat) (l : List Byte) : State :=
  if s.sup.sealing then { s with sup := { s.sup with waiting := s.sup.waiting ++ [(off, l)] } }
  else
    let s1 := if s.on R.LUG_CTL.SEALED then (s.lugStore lugSeal (bytesLE 4 0)).zero R.LUG_CTL.SEALED else s
    s1.lugStore off l

/-- Begin a seal (R570 step 1): RTC_OK and SEAL_COUNT are written; its end is a command of its own.  A seal requested
while one runs is that seal. -/
def State.sealStart (s : State) : State :=
  if s.sup.sealing then s
  else
    let s1 := s.lugStore (lugSeal + 8) (bytesLE 4 (s.get R.RTC_STAT.VALID))
    let s2 := s1.lugStore (lugSeal + 4) (bytesLE 4 (s1.lugRead (lugSeal + 4) 4 + 1))
    { s2 with sup := { s2.sup with sealing := true } }

/-! ## The ledger engine (R598 to R607) -/

/-- The time word of `LEDGER_OVERRUN` and `LEDGER_COALESCED` (R601): SEC in bits 39:0, SUB in bits 59:40. -/
def timeWord (e : Event) : Nat := e.sec + 2 ^ 40 * e.sub

/-- The successor of a record number (R598). -/
def seqSucc (n : Nat) : Nat := if n = 2 ^ 31 - 1 then 1 else n + 1

/-- The 64 bytes of a record (R598). -/
def recordBytes (phase : Nat) (r : Record) : List Byte :=
  bytesLE 4 (r.seq + 2 ^ 31 * phase) ++ bytesLE 1 r.ev.source ++ bytesLE 1 r.ev.cls ++ bytesLE 2 r.ev.code ++
  bytesLE 5 r.ev.sec ++ bytesLE 3 r.ev.sub ++ bytesLE 1 r.ev.bay ++ bytesLE 1 r.ev.flags ++ bytesLE 2 0 ++
  bytesLE 4 r.ev.angle ++ (List.range 5).flatMap fun i => bytesLE 8 (r.ev.detail.getD i 0)

/-- Ring size, a multiple of 256 within its range (R613, R648). -/
def State.ledgerSize (s : State) : Nat := clampNat 256 1048576 (s.get R.LEDGER_SIZE.SIZE / 256 * 256)

/-- Free space of the ring (R605). -/
def State.ledgerFree (s : State) : Nat :=
  s.ledgerSize - 1 - (s.get R.LEDGER_TAIL.TAIL + s.ledgerSize - s.get R.LEDGER_HEAD.HEAD) % s.ledgerSize

/-- Replace the engine's hidden state. -/
def State.setLedger (s : State) (l : Ledger) : State := { s with ledger := l }

/-- Show the occupied slots and the ordinary limit in `LEDGER_STAT` (R614). -/
def State.ledgerStat (s : State) : State :=
  (s.put R.LEDGER_STAT.SLOTS s.ledger.slots.length).putB R.LEDGER_STAT.FULL
    (s.on R.LEDGER_CTL.EN && decide (s.ledgerFree ≤ 16))

/-- The tail write of R607, made from the first EN on. -/
def State.tailWrite (s : State) (r : Record) : State :=
  if s.ledger.enabledOnce then
    s.lugWrite (0x40000 + 64 * (r.seq % 4096)) (recordBytes (s.get R.LEDGER_TAIL.PHASE) r)
  else s

/-- Write a numbered record at the ring's tail (R604): bytes 4–63, then bytes 0–3; then the interrupts of R605. -/
def State.ringWrite (s : State) (r : Record) : State :=
  let size := s.ledgerSize
  let t := s.get R.LEDGER_TAIL.TAIL
  let addr := s.get R.LEDGER_BASE_LO.ADDR * 4096 + 2 ^ 32 * s.get R.LEDGER_BASE_HI.ADDR + 64 * t
  let bytes := recordBytes (s.get R.LEDGER_TAIL.PHASE) r
  let s1 := (s.emit (.hostWrite (addr + 4) (bytes.drop 4))).emit (.hostWrite addr (bytes.take 4))
  let s2 := if t + 1 = size
    then (s1.zero R.LEDGER_TAIL.TAIL).put R.LEDGER_TAIL.PHASE (1 - s1.get R.LEDGER_TAIL.PHASE)
    else s1.put R.LEDGER_TAIL.TAIL (t + 1)
  let cross := decide (size - 1 - s.ledgerFree < size / 2) && decide (size / 2 ≤ size - 1 - s2.ledgerFree)
  let s3 := if s2.on R.LEDGER_CTL.IRQ_EN && (r.ev.cls == 1 || cross) then s2.signal (s2.get R.LEDGER_CTL.VECTOR) else s2
  s3.tailWrite r

/-- Number an event: it becomes the next record of the series (R598, R607). -/
def State.nextRecord (s : State) (e : Event) : Record × State :=
  let n := s.get R.LEDGER_SEQ.SEQ
  (⟨n, e⟩, s.put R.LEDGER_SEQ.SEQ (seqSucc n))

/-- Place a record in the early buffer (R606): 64 entries, 16 of them for SAFETY records alone; a record that finds
none is lost and counted, and takes no number (DEDUCED, log entry 8). -/
def State.earlyPut (s : State) (e : Event) : State :=
  let ordinary := (s.ledger.early.filter fun r => r.ev.cls != 1).length
  let room := decide (s.ledger.early.length < 64) && (e.cls == 1 || decide (ordinary < 48))
  if room then
    let (r, s1) := s.nextRecord { e with flags := setBit e.flags 2 true }
    s1.setLedger { s1.ledger with early := s1.ledger.early ++ [r] }
  else
    (s.setLedger { s.ledger with earlyLost := s.ledger.earlyLost + 1 }).raise R.LEDGER_STAT.EARLY_LOST

/-- The writer takes a record (R603): to the ring, or to the early buffer while EN = 0; it is then busy. -/
def State.writerTake (s : State) (e : Event) : State :=
  let s1 := if s.on R.LEDGER_CTL.EN then
      let (r, s0) := s.nextRecord e
      s0.ringWrite r
    else s.earlyPut e
  s1.setLedger { s1.ledger with writing := true }

/-- Whether a record of class `cls` may be written now (R605). -/
def State.ledgerRoom (s : State) (cls : Nat) : Bool :=
  !s.on R.LEDGER_CTL.EN || (if cls = 1 then decide (1 ≤ s.ledgerFree) else decide (16 < s.ledgerFree))

/-- An ordinary record for the writer: written, or held at the ordinary limit (R605). -/
def State.writerOrdinary (s : State) (e : Event) : State :=
  if s.ledgerRoom e.cls then s.writerTake e else s.setLedger { s.ledger with held := some e }

/-- The `LEDGER_OVERRUN` event owed for the drops so far (R601, R605). -/
def State.overrunEvent (s : State) : Event :=
  ⟨171, 0x1402, 3, 0xFF, b2n (!s.on R.RTC_STAT.VALID) * 2, s.rtc, s.rtcSub, 0,
    [s.ledger.drops, s.ledger.firstDrop, s.ledger.lastDrop]⟩

/-- The `LEDGER_COALESCED` event of a slot that counted more than one event, formed as the round takes the slot (R601, R603 step 6;
DEDUCED, log entry 8). -/
def State.coalescedEvent (s : State) (c : CountSlot) : Event :=
  let aligned := decide (c.first.bay < 128) && s.on (R.ANG_STAT.ALIGNED c.first.bay)
  ⟨c.first.source, 0x1401, 2, c.first.bay, b2n aligned + 2 * b2n (!s.on R.RTC_STAT.VALID), s.rtc, s.rtcSub,
    if aligned then s.angNow c.first.bay else 0, [c.count, timeWord c.last, c.last.code, c.last.angle]⟩

/-- The first queue that holds a SAFETY event, in ascending SOURCE order. -/
def Ledger.nextSafety (l : Ledger) : Option (Nat × Event × List Event) :=
  l.safety.findSome? fun (k, q) => match q with | [] => none | e :: r => some (k, e, r)

/-- The slot the drain round takes next: the lowest occupied source from the round's place on, else from the start
(a new round). -/
def Ledger.nextSlot (l : Ledger) : Option (Nat × CountSlot) :=
  (l.slots.find? fun (k, _) => decide (l.round ≤ k)).or l.slots.head?

/-- Early records that the writer writes now: after an enable, before any other record (R606). -/
def State.flushing (s : State) : List Record := if s.on R.LEDGER_CTL.EN then s.ledger.flush else []

/-- What the idle writer takes next (R603 steps 5 to 7, R605, R606): early records after an enable, an owed
`LEDGER_OVERRUN`, SAFETY events, the held record, an owed `LEDGER_COALESCED`, then the drain round. -/
def State.ledgerPump (s : State) : State :=
  let l := s.ledger
  if l.writing then s
  else match s.flushing with
    | r :: rest =>
      if s.ledgerRoom r.ev.cls then
        let s1 := (s.setLedger { l with flush := rest, writing := true }).ringWrite r
        s1
      else s
    | [] =>
      if 0 < l.earlyLost ∧ s.on R.LEDGER_CTL.EN then
        if s.ledgerRoom 3 then
          (s.setLedger { l with earlyLost := 0 }).writerTake
            ⟨171, 0x1403, 3, 0xFF, b2n (!s.on R.RTC_STAT.VALID) * 2, s.rtc, s.rtcSub, 0, [l.earlyLost]⟩
        else s
      else if 0 < l.drops ∧ s.on R.LEDGER_CTL.EN ∧ s.ledgerRoom 3 then
        (s.setLedger { l with drops := 0 }).writerTake s.overrunEvent
      else match l.nextSafety with
      | some (k, e, rest) =>
        if s.ledgerRoom 1 then
          (s.setLedger { l with safety := if rest = [] then l.safety.erase k else l.safety.put k rest }).writerTake e
        else s
      | none =>
        match l.held with
          | some e => if s.ledgerRoom e.cls then (s.setLedger { l with held := none }).writerTake e else s
          | none => match l.coal with
            | some e => (s.setLedger { l with coal := none }).writerOrdinary e
            | none => match l.nextSlot with
              | some (k, c) =>
                (s.setLedger { l with slots := l.slots.erase k, round := k + 1,
                                      coal := if 0 < c.count then some (s.coalescedEvent c) else none }).writerOrdinary c.first
              | none => s.setLedger { l with round := 0 }

/-- Count a dropped record or event (R605). -/
def State.countDrop (s : State) (n : Nat) (firstT lastT : Nat) : State :=
  let l := s.ledger
  ((s.setLedger { l with drops := l.drops + n, firstDrop := if l.drops = 0 then firstT else l.firstDrop,
                         lastDrop := lastT }).count R.LEDGER_DROPS.DROPS n).raise R.LEDGER_STAT.OVERRUN

/-- Drop a record: it still reaches the tail (R605, R607). -/
def State.dropRecord (s : State) (e : Event) : State :=
  let (r, s1) := s.nextRecord e
  s1.tailWrite r

/-- Offer an event to the engine (R603 steps 2 to 4). -/
def State.offer (s : State) (e : Event) : State :=
  let s0 := s.trace 0 e.source e.code (e.bay + 256 * e.flags) (e.detail.getD 0 0) (e.detail.getD 1 0)
  let l := s0.ledger
  let idle := !l.writing && s0.flushing.isEmpty && l.held.isNone
  let s1 :=
    if e.cls = 1 then
      if (idle || (!l.writing && s0.flushing.isEmpty)) && l.nextSafety.isNone && s0.ledgerRoom 1 then s0.writerTake e
      else
        let q := Sparse.get [] l.safety e.source
        if q.length < 16 then s0.setLedger { l with safety := l.safety.put e.source (q ++ [e]) }
        else (s0.countDrop 1 (timeWord e) (timeWord e)).dropRecord e
    else if idle && l.nextSafety.isNone then s0.writerOrdinary e
    else if l.slots.has e.source then
      let c := Sparse.get ⟨e, 0, e⟩ l.slots e.source
      (s0.setLedger { l with slots := l.slots.put e.source { c with count := c.count + 1, last := e } }).count
        R.LEDGER_COAL.COAL 1
    else s0.setLedger { l with slots := l.slots.put e.source ⟨e, 0, e⟩ }
  s1.ledgerStat

/-- The write in progress ends and the writer takes what comes next (R603). -/
def State.writerFree (s : State) : State := ((s.setLedger { s.ledger with writing := false }).ledgerPump).ledgerStat

/-- The writer serves until its safety queues are empty. -/
def State.drainSafety : Nat → State → State
  | 0, s => s
  | k + 1, s => if s.ledger.writing || s.ledger.nextSafety.isSome then State.drainSafety k s.writerFree else s

/-- Sources of R599 other than bays and sequencers. -/
def srcStripe : Nat := 160
@[inherit_doc srcStripe] def srcFxc : Nat := 161
@[inherit_doc srcStripe] def srcFab (p : Nat) : Nat := 162 + p
@[inherit_doc srcStripe] def srcPorter : Nat := 164
@[inherit_doc srcStripe] def srcCaddy : Nat := 165
@[inherit_doc srcStripe] def srcMem : Nat := 166
@[inherit_doc srcStripe] def srcPower : Nat := 167
@[inherit_doc srcStripe] def srcSelftest : Nat := 168
@[inherit_doc srcStripe] def srcChain : Nat := 169
@[inherit_doc srcStripe] def srcCstore : Nat := 170
@[inherit_doc srcStripe] def srcLedger : Nat := 171
@[inherit_doc srcStripe] def srcRegs : Nat := 172

/-- Class of an event by its code and first detail (R602); `LINK_ALERT` gives its own. -/
def eventClass (code d0 : Nat) : Nat :=
  if code = 0x1202 ∨ code = 0x1205 then 1
  else if (code = 0x1203 ∨ code = 0x120C) ∧ d0 < 2 then 1
  else if code / 256 = 0x14 then 3
  else 0

/-- Form and offer an event of class `cls` at the present time (R598): about bay `bay`, or 0xFF for none. -/
def State.recordCls (s : State) (cls source code bay : Nat) (detail : List Nat) : State :=
  let aligned := decide (bay < 128) && s.on (R.ANG_STAT.ALIGNED bay)
  s.offer ⟨source, code, cls, bay, b2n aligned + 2 * b2n (!s.on R.RTC_STAT.VALID), s.rtc, s.rtcSub,
    if aligned then s.angNow bay else 0, detail⟩

/-- A ledger record of a unit block (R599 to R602). -/
def State.record (s : State) (source code : Nat) (detail : List Nat) : State :=
  s.recordCls (eventClass code (detail.getD 0 0)) source code 0xFF detail

/-- A ledger record about bay `n`: its SOURCE and BAY (R599). -/
def State.recordBay (s : State) (n code : Nat) (detail : List Nat) : State :=
  s.recordCls (eventClass code (detail.getD 0 0)) n code n detail

/-- A ledger record of another source that names a bay. -/
def State.recordFor (s : State) (source n code : Nat) (detail : List Nat) : State :=
  s.recordCls (eventClass code (detail.getD 0 0)) source code n detail

end Sys2Proof.Machine
end

