-- ==== Sys2Proof/Machine/SeqOps.lean ====
section
/-!
DEFINITION. Microsequencers as the rest of the controller meets them (R485, R486, R493, R501, R509 to R511): which sequencer serves a
bay, attentions, idle boundaries, bank switches and moves, and the hooks that vendor microcode calls.
-/

namespace Sys2Proof

/-- The 64 bytes of a waybill (R347). -/
def Waybill.bytes (w : Waybill) : List Byte :=
  bytesLE 1 w.opcode ++ bytesLE 1 w.flags ++ bytesLE 1 w.prio ++ bytesLE 1 w.bay ++ bytesLE 2 w.cid ++ bytesLE 1 w.rring ++
  bytesLE 1 w.dform ++ bytesLE 8 w.daddr ++ bytesLE 4 w.dlen ++ bytesLE 4 w.rcap ++ bytesLE 8 w.raddr ++ (w.param ++ List.replicate 32 0).take 32

end Sys2Proof

namespace Sys2Proof.Machine

/-! ## Sequencers, banks and clusters by number -/

/-- The hidden state of sequencer `q`. -/
def State.seq (s : State) (q : Nat) : Seq := Sparse.get {} s.seqs q
/-- Change it. -/
def State.onSeq (s : State) (q : Nat) (f : Seq → Seq) : State := { s with seqs := s.seqs.put q (f (s.seq q)) }
/-- Bank `b` of cluster `c`. -/
def State.bank (s : State) (c b : Nat) : Bank := Sparse.get {} s.banks (2 * c + b)
/-- Change it. -/
def State.onBank (s : State) (c b : Nat) (f : Bank → Bank) : State := { s with banks := s.banks.put (2 * c + b) (f (s.bank c b)) }
/-- The hidden state of cluster `c`. -/
def State.cluster (s : State) (c : Nat) : Cluster := Sparse.get {} s.clusters c
/-- Change it. -/
def State.onCluster (s : State) (c : Nat) (f : Cluster → Cluster) : State := { s with clusters := s.clusters.put c (f (s.cluster c)) }

/-! ## Sequencer states (R509) -/
namespace SQ
/-- R509. -/ def HELD : Nat := 0
/-- R509. -/ def RUN : Nat := 1
/-- R509. -/ def HALTED : Nat := 2
/-- R509. -/ def STOPPED : Nat := 3
end SQ

/-- The state of a sequencer. -/
def State.seqState (s : State) (q : Nat) : Nat := s.get (R.SEQ_STAT.STATE q)

/-- The ledger source of a sequencer (R599). -/
def srcSeq (q : Nat) : Nat := 128 + q

/-- The sequencers of a cluster. -/
def clusterSeqs (c : Nat) : List Nat := (List.range 8).map (8 * c + ·)

/-- The sequencer that serves a bay: none between the two idle boundaries of a move (R16, R485). -/
def State.servingSeq (s : State) (n : Nat) : Option Nat :=
  match (s.bay n).move with
  | some (_, _, true) => none
  | _ => some (s.get (R.BAY_SEQ.CUR_SEQ n))

/-- The present bays that a sequencer serves, by position. -/
def State.servedBays (s : State) (q : Nat) : List Nat :=
  (List.range 8).flatMap fun p => (List.range 128).filter fun n =>
    s.bayPresent n && s.servingSeq n == some q && s.get (R.BAY_SEQ.CUR_POS n) == p

/-- The bay at a position of a sequencer. -/
def State.bayAt (s : State) (q p : Nat) : Option Nat :=
  (s.servedBays q).find? fun n => s.get (R.BAY_SEQ.CUR_POS n) == p

/-- Whether a bay's serving sequencer is in RUN (R486). -/
def State.seqRuns (s : State) (n : Nat) : Bool := match s.servingSeq n with | some q => s.seqState q == SQ.RUN | none => false

/-- Signal a bay's serving sequencer: an interrupt cause of R494 and an attention, which wait at the bay (R485). -/
def State.attend (s : State) (n : Nat) : State := s.setBay n { s.bay n with intr := true, attn := true }

/-! ## Banks (R508, R515) -/

/-- The register that shows a bank's state. -/
def fBank (c b : Nat) : Field := if b = 0 then R.CS_STAT.STATE_A c else R.CS_STAT.STATE_B c

/-- A change of bank state or update stage is recorded (R511, R521): bank, new state or stage, REASON, image CRC. -/
def State.csUpdate (s : State) (c b v reason : Nat) : State := s.record srcCstore 0x1008 [c, b, v, reason, (s.bank c b).crc]

/-- Change a bank's state. -/
def State.setBank (s : State) (c b v reason : Nat) : State := (s.put (fBank c b) v).csUpdate c b v reason

/-- Change the update stage of a cluster. -/
def State.setStage (s : State) (c v reason : Nat) : State := (s.put (R.CS_STAT.UPD c) v).csUpdate c (s.cluster c).target v reason

/-- Whether a bank is selected: a sequencer in RUN or STOPPED fetches from it (R505, R507, R509). -/
def State.bankSelected (s : State) (c b : Nat) : Bool :=
  (clusterSeqs c).any fun q => (s.seqState q == SQ.RUN || s.seqState q == SQ.STOPPED) && s.get (R.SEQ_STAT.BANK q) == b

/-! ## Idle boundaries (R485, R493, R510, R511) -/

/-- The stage goes on when every sequencer of the cluster has switched (R510), or switched back (R511). -/
def State.updStep (s : State) (c : Nat) : State :=
  if (clusterSeqs c).any fun q => (s.seq q).switch.isSome then s
  else if s.get (R.CS_STAT.UPD c) = 1 then s.setStage c 2 0
  else if s.get (R.CS_STAT.UPD c) = 3 then
    (if (s.cluster c).late then s else s.raise (R.CS_STAT.REVERTED c)).setStage c 0 (if (s.cluster c).late then 14 else 0)
  else s

/-- A sequencer makes the bank switch that waits. -/
def State.applySwitch (s : State) (q : Nat) : State :=
  match (s.seq q).switch with
  | none => s
  | some b =>
    let c := q / 8
    let i := q % 8
    let s1 := (s.put (R.SEQ_STAT.BANK q) b).onSeq q fun x => { x with switch := none }
    let s2 := s1.put (R.USTORE_SEL.BANK c) (setBit (s1.get (R.USTORE_SEL.BANK c)) i (b == 1))
    (s2.put (R.CS_STAT.SWITCHED c) (setBit (s2.get (R.CS_STAT.SWITCHED c)) i (s2.get (R.CS_STAT.UPD c) == 1))).updStep c

/-- Ask a sequencer to switch: in RUN at its next idle boundary, else at once (R510). -/
def State.askSwitch (s : State) (q b : Nat) : State :=
  let s1 := s.onSeq q fun x => { x with switch := some b }
  if s1.seqState q = SQ.RUN then s1 else s1.applySwitch q

/-- A sequencer gives up the bays that leave it (R485). -/
def State.giveUp (s : State) (q : Nat) : State :=
  (List.range 128).foldl (fun s n =>
    match (s.bay n).move with
    | some (t, p, false) => if s.get (R.BAY_SEQ.CUR_SEQ n) = q then s.setBay n { s.bay n with move := some (t, p, true) } else s
    | _ => s) s

/-- A sequencer takes the bays that move to it and have been given up (R485). -/
def State.takeBays (s : State) (q : Nat) : State :=
  (List.range 128).foldl (fun s n =>
    match (s.bay n).move with
    | some (t, p, true) =>
      if t = q then
        let oq := s.get (R.BAY_SEQ.CUR_SEQ n)
        let op := s.get (R.BAY_SEQ.CUR_POS n)
        let s1 := (((s.setBay n { s.bay n with move := none }).put (R.BAY_SEQ.CUR_SEQ n) q).put (R.BAY_SEQ.CUR_POS n) p).zero (R.BAY_SEQ.GO n)
        s1.recordBay n 0x1005 [n, oq, op, q, p]
      else s
    | _ => s) s

/-- An idle boundary applies a pending bank switch and pending moves (R493 step 1). -/
def State.idleBoundary (s : State) (q : Nat) : State := ((s.applySwitch q).giveUp q).takeBays q

/-! ## Holding and stopping -/

/-- A request of a sequencer's port that still waits is withdrawn. -/
def State.dropSeqRequest (s : State) (q : Nat) : State :=
  let w := s.caddy.waiting.filter fun r => r.2.2 != .seq q
  { s with caddy := { s.caddy with waiting := w } }.put R.CADDY_STAT.WAITING (min 65535 w.length)

/-- A sequencer that is not in RUN switches and gives up its leaving bays at once (R510). -/
def State.seqLeaves (s : State) (q : Nat) : State := (s.applySwitch q).giveUp q

/-- Take a sequencer to HELD: its frame, stack and registers are cleared (R509). -/
def State.holdSeq (s : State) (q : Nat) : State :=
  let sw := (s.seq q).switch
  let s1 := (((((s.put (R.SEQ_STAT.STATE q) SQ.HELD).zero (R.SEQ_STAT.FRAME_BUSY q)).zero (R.SEQ_STAT.SP q)).zero (R.SEQ_STAT.DOUBLE q)).zero
    (R.SEQ_STAT.UPC q))
  let s2 := (List.range 16).foldl (fun s j => s.zero (R.SEQ_FRAME.DATA q j)) s1
  ((s2.onSeq q fun _ => { switch := sw }).dropSeqRequest q).seqLeaves q

/-- Every sequencer goes to HELD: entry to `CONFIGURE` (R555). -/
def State.holdAllSeqs (s : State) : State := (List.range 32).foldl State.holdSeq s

/-- A sequencer that is STOPPED when the unit leaves `MAINTENANCE` resumes RUN (R509). -/
def State.resumeStopped (s : State) : State :=
  (List.range 32).foldl (fun s q => if s.seqState q = SQ.STOPPED then s.put (R.SEQ_STAT.STATE q) SQ.RUN else s) s

/-- A cluster's domain has returned to `ON` (R486, R508): every sequencer is HELD; from `OFF` both banks are zero and EMPTY. -/
def State.clusterOn (s : State) (c : Nat) (fromRetain : Bool) : State :=
  let s1 := (clusterSeqs c).foldl State.holdSeq s
  if fromRetain then s1
  else
    let s2 := (clusterSeqs c).foldl (fun (s : State) q => s.resetRegs (0xD1000 + 0x80 * q) (0xD1080 + 0x80 * q)) s1
    let s3 := (s2.onBank c 0 fun _ => {}).onBank c 1 fun _ => {}
    let s4 := ((s3.zero (R.CS_STAT.STATE_A c)).zero (R.CS_STAT.STATE_B c)).onCluster c fun k => { k with loading := none, verifying := none }
    (s4.zero (R.CS_CTL.LOAD c)).zero (R.CS_CTL.VERIFY c)

/-! ## Hooks (R501, R502) -/

/-- Whether hook `k` is loaded in the bank that a sequencer fetches from. -/
def State.hookLoaded (s : State) (q k : Nat) : Bool :=
  let c := q / 8
  let b := s.get (R.SEQ_STAT.BANK q)
  if k < 32 then bitAt (s.get (R.HOOK_LO.MASK c b)) k else bitAt (s.get (R.HOOK_HI.MASK c b)) (k - 32)

/-- HOOK_BUDGET of the bank that a sequencer fetches from (R504): 0 means 8,000. -/
def State.hookBudget (s : State) (q : Nat) : Nat :=
  let v := ofBytesLE (((s.bank (q / 8) (s.get (R.SEQ_STAT.BANK q))).head.drop 40).take 4)
  if v = 0 then 8000 else v

/-- SPAN of customer opcode 0xE0 + `k` as the image header declares it (R502, R504). -/
def State.customSpan (s : State) (q k : Nat) : Nat :=
  ((s.bank (q / 8) (s.get (R.SEQ_STAT.BANK q))).head.getD (24 + k) 0).toNat % 4

/-- A trap other than an interrupt is recorded and counted (R497), with the first 16 bytes of its frame as two words. -/
def State.trapRecord (s : State) (q cause w0 w1 : Nat) : State :=
  ((s.put (R.SEQ_STAT.LAST_CAUSE q) cause).count (R.SEQ_TRAPS.TRAPS q) 1).record (srcSeq q) 0x1001 [q, w0, w1]

/-- A hook fault is recorded and counted (R502). -/
def State.hookFaultRecord (s : State) (q k cause : Nat) : State :=
  (s.count (R.SEQ_TRAPS.HOOK_FAULTS q) 1).record (srcSeq q) 0x1003 [q, k, cause]

/-- A hook return that is corrected is recorded (R502). -/
def State.hookOverride (s : State) (q k back taken : Nat) : State := s.record (srcSeq q) 0x1004 [k, back, taken]

/-- What a call of hook 0 or 1 for a bay answers: nothing where the hook is not loaded or the call faults, else the sequencer and G0.
What customer code returns is open, and whether it faults, and how (DESIGN CHOICE, log entry 3). -/
def State.callHook (s : State) (n k : Nat) : Option (Nat × Nat) × State :=
  match s.servingSeq n with
  | none => (none, s)
  | some q =>
    if s.seqState q = SQ.RUN ∧ s.hookLoaded q k then
      let (f, s1) := s.fresh 1
      if f = 0 then
        let (v, s2) := s1.fresh 64
        (some (q, v), s2)
      else
        let (cause, s2) := s1.fresh 5
        let (w0, s3) := s2.fresh 64
        let (w1, s4) := s3.fresh 64
        (none, (s4.trapRecord q cause w0 w1).hookFaultRecord q k cause)
    else (none, s)

end Sys2Proof.Machine
end

