-- ==== Sys2Proof/Machine/Crypto.lean ====
section
/-!
DEFINITION. Key slots and the clearing of secrets (R432 to R435), the units of a variant (R2, R4, R436), the fixity digests
(R427) and the stripe code (R420).
-/

namespace Sys2Proof.Machine

/-! ## Units of a variant (R2, R436) -/

/-- Whether the variant has a crypto unit, fabric ports, a stripe engine. -/
def Variant.crypto : Variant → Bool | .ky8128 => true | .ky8128n => true | _ => false
@[inherit_doc Variant.crypto] def Variant.fabric : Variant → Bool | .ky8128 => true | .ky8064 => true | _ => false
@[inherit_doc Variant.crypto] def Variant.stripe : Variant → Bool | .ky8032e => false | _ => true

/-! ## Keys (R432, R435) -/

/-- The key of a slot, none where it is empty. -/
def State.keyOf (s : State) (k : Nat) : Option (List Byte) := (s.keys.find? fun e => e.1 == k).map (·.2)

/-- Show FULL of the slot in SLOT, and the count (R442). -/
def State.keyShow (s : State) : State :=
  (s.putB R.KEY_STAT.FULL (s.keyOf (s.get R.KEY_CTL.SLOT)).isSome).put R.KEY_STAT.FULL_COUNT s.keys.length

/-- The staged key. -/
def State.keyData (s : State) : List Byte := (List.range 16).flatMap fun w => bytesLE 4 (s.get (R.KEY_DATA.DATA w))

/-- Zero `KEY_DATA`. -/
def State.zeroKeyData (s : State) : State := (List.range 16).foldl (fun s w => s.zero (R.KEY_DATA.DATA w)) s

/-- A load or clear is refused (R432). -/
def State.keyRefuse (s : State) : State := s.zeroKeyData.raise R.KEY_STAT.KEY_REJ

/-- Whether loads and clears are refused for the mode (R432): in `CURFEW` and `SHUTDOWN`. -/
def State.keyClosed (s : State) : Bool := s.get R.MODE_STAT.MODE == 4 || s.get R.MODE_STAT.MODE == 5

/-- Clear every secret for a cause of R435. -/
def State.clearSecrets (s : State) (cause : Nat) : State :=
  let held := s.keys.length
  let s1 := (({ s.zeroKeyData with keys := [], fabKeys := [] }).zero R.FAB_KEY_CTL.FULL0).zero R.FAB_KEY_CTL.FULL1
  if s.variant.crypto then
    let s2 := ((s1.keyShow).raise R.KEY_STAT.CLEARED).put R.KEY_STAT.CLEAR_CAUSE cause
    if cause = 1 ∨ cause = 3 then s2.record srcFxc 0x0E01 [cause, held] else s2
  else s1

/-- KEY_LOAD (R432): `KEY_CTL.LOAD` for the slot in SLOT. -/
def execKeyLoad (s : State) : Host.Outcome State Fault Refusal :=
  if !s.variant.crypto then .next s
  else
    let k := s.keyData
    if s.keyClosed || k.take 32 == k.drop 32 then .next s.keyRefuse
    else .next ({ s.zeroKeyData with keys := s.keys.put (s.get R.KEY_CTL.SLOT) k }).keyShow

/-- KEY_CLEAR (R432). -/
def execKeyClear (s : State) : Host.Outcome State Fault Refusal :=
  if !s.variant.crypto then .next s
  else if s.keyClosed then .next s.keyRefuse
  else .next ({ s with keys := s.keys.erase (s.get R.KEY_CTL.SLOT) }).keyShow

/-- KEY_CLEAR_ALL (R435 cause 1). -/
def execKeyClearAll (s : State) : Host.Outcome State Fault Refusal :=
  if !s.variant.crypto then .next s
  else if s.keyClosed then .next s.keyRefuse
  else .next (s.clearSecrets 1)

/-! ## Fixity (R427 to R429) -/

/-- One bit step of the CRC-64 of R427. -/
def crc64Step (c : Nat) : Nat := if 2 ^ 63 ≤ c then (c * 2 % 2 ^ 64) ^^^ 0x42F0E1EBA9EA3693 else c * 2 % 2 ^ 64

/-- One byte of the CRC-64. -/
def crc64Byte (c : Nat) (b : Byte) : Nat :=
  let c0 := c ^^^ (2 ^ 56 * b.toNat)
  crc64Step (crc64Step (crc64Step (crc64Step (crc64Step (crc64Step (crc64Step (crc64Step c0)))))))

/-- The CRC-64 of R427. -/
def crc64 (l : List Byte) : Nat := l.foldl crc64Byte 0

/-- A fixity record (R429): selection, its string, and the flags NOT_VALID, BLANK and MISMATCH. -/
def fixRecord (sel : Nat) (l : List Byte) (notValid blank mismatch : Bool) : List Byte :=
  let c := bitAt sel 0
  let h := bitAt sel 1
  bytesLE 1 (b2n c + 2 * b2n h + 4 * b2n notValid + 8 * b2n blank + 16 * b2n mismatch) ++ bytesLE 1 sel ++ bytesLE 6 0 ++
  bytesLE 8 l.length ++ bytesLE 8 (if c then crc64 l else 0) ++ (if h then sha256 l else List.replicate 32 0) ++ bytesLE 8 0

/-- Write a fixity record (R440). -/
def State.writeFix (s : State) (addr : Nat) (r : List Byte) : State := (s.emit (.hostWrite addr r)).count R.FIX_CNT.RECORDS 1

end Sys2Proof.Machine
end

