-- ==== Sys2Proof/Machine/FabOps.lean ====
section
/-!
DEFINITION. Frames of the fabric and of the management chain: packets and their authentication (R522, R523, R530, R535), ABORT
(R533), and chain frames with ALERT (R525 to R527).
-/

namespace Sys2Proof.Machine

/-! ## The management chain (R525 to R527) -/

/-- Change the chain's hidden state. -/
def State.onChain (s : State) (f : Chain → Chain) : State := { s with chain := f s.chain }

/-- The bytes of a chain frame between its delimiters (R525). -/
def chainBytes (typ : Nat) (payload : List Byte) : ChainFrame :=
  let b := bytesLE 1 typ ++ bytesLE 1 payload.length ++ payload
  b ++ bytesLE 2 (crc16 b)

/-- Send a frame on `MC_OUT`. -/
def State.chainOut (s : State) (typ : Nat) (payload : List Byte) : State := s.emit (.chainFrame (chainBytes typ payload))

/-- Originate a frame (R526, R527, R529): `body` is what follows SRC and FSEQ.  A unit without an ID originates none. -/
def State.chainSend (s : State) (typ : Nat) (body : List Byte) : State :=
  if !s.on R.MC_UID.VALID then s
  else
    let id := s.get R.MC_UID.ID
    let q := s.chain.fseq
    ((s.onChain fun c => { c with fseq := (q + 1) % 256, seen := (id, q) :: c.seen.filter fun e => !(e.1 == id && e.2 == q) }).chainOut typ
      (bytesLE 2 id ++ bytesLE 1 q ++ body))

/-- Send an ALERT (R527): at most one for each code in a second. -/
def State.alert (s : State) (code detail : Nat) : State :=
  let due := match s.chain.alert.find? fun e => e.1 == code with | some (_, t) => decide (t + 1000000000 ≤ s.cycle) | none => true
  if !due || !s.on R.MC_UID.VALID then s
  else (s.onChain fun c => { c with alert := c.alert.put code s.cycle }).chainSend 4
    (bytesLE 1 0 ++ bytesLE 2 code ++ bytesLE 2 0 ++ bytesLE 4 s.rtc ++ bytesLE 8 detail)

/-! ## Packets (R522, R523) -/

/-- Change the fabric's hidden state. -/
def State.onFab (s : State) (f : Fab → Fab) : State := { s with fab := f s.fab }

/-- The IPv6 address of unit `u` on port `p` (R523). -/
def State.fabAddr (s : State) (p u : Nat) : Nat :=
  2 ^ 96 * s.get (R.FP_PREFIX_HI.ADDR p) + 2 ^ 64 * s.get (R.FP_PREFIX_LO.ADDR p) + 2 ^ 32 * s.get R.FAB_IID.IID_HI + 2 ^ 16 * p + u

/-- A port's MAC address, and its next hop's. -/
def State.fabMac (s : State) (p : Nat) : Nat := 2 ^ 32 * s.get (R.FP_MAC_HI.ADDR p) + s.get (R.FP_MAC_LO.ADDR p)
@[inherit_doc State.fabMac] def State.nextHop (s : State) (p : Nat) : Nat := 2 ^ 32 * s.get (R.FP_NH_HI.ADDR p) + s.get (R.FP_NH_LO.ADDR p)

/-- Whether a port is enabled, and whether it can carry a transfer (R524, R539). -/
def State.portOn (s : State) (p : Nat) : Bool := s.variant.fabric && decide (p < 2) && bitAt (s.get R.FAB_CTL.EN) p
@[inherit_doc State.portOn] def State.portUsable (s : State) (p : Nat) : Bool := s.portOn p && s.on (R.FP_STAT.LINK p)

/-- Whether transmission on a port is paused (R522). -/
def State.portPaused (s : State) (p : Nat) : Bool := s.on R.FAB_NET.PFC_EN && s.on (R.FP_STAT.PFC_RX p)

/-- Transmit on a port, or wait while the peer pauses the priority. -/
def State.portEmit (s : State) (p : Nat) (e : Emission) : State :=
  if s.portPaused p then s.onFab fun f => { f with txq := f.txq ++ [(p, e)] } else s.emit e

/-! ## Stripe Transport frames (R530, R535) -/

/-- Whether frames carry an AES-GMAC tag: never without a crypto unit. -/
def State.fabAuth (s : State) : Bool := s.variant.crypto && s.on R.FAB_CTL.AUTH

/-- A fabric key. -/
def State.fabKey (s : State) (k : Nat) : Option (List Byte) := (s.fabKeys.find? fun e => e.1 == k).map (·.2)

/-- The 96-bit IV of R535. -/
def State.fabIv (s : State) (src xid seq kind : Nat) (own : Bool) : List Byte :=
  bytesLE 2 (s.get R.FAB_SESSION.SESSION) ++ bytesLE 2 src ++ bytesLE 4 xid ++ bytesLE 3 seq ++ bytesLE 1 (kind + 128 * b2n own)

/-- Bytes 0 to 31 of a header (R530). -/
def fabHeader (kind flags src dst epoch xid offset seq len : Nat) : List Byte :=
  bytesLE 1 1 ++ bytesLE 1 kind ++ bytesLE 1 flags ++ bytesLE 1 0 ++ bytesLE 2 src ++ bytesLE 2 dst ++ bytesLE 4 epoch ++ bytesLE 4 xid ++
  bytesLE 8 offset ++ bytesLE 4 seq ++ bytesLE 2 len ++ bytesLE 2 0

/-- Kinds of R531. -/
def kOpen : Nat := 1
@[inherit_doc kOpen] def kAccept : Nat := 2
@[inherit_doc kOpen] def kRefuse : Nat := 3
@[inherit_doc kOpen] def kData : Nat := 4
@[inherit_doc kOpen] def kAck : Nat := 5
@[inherit_doc kOpen] def kStale : Nat := 6
@[inherit_doc kOpen] def kAbort : Nat := 7

/-- Send a frame to a peer on a port; a tag under an empty key slot is open. -/
def State.fabSend (s : State) (p peer xid : Nat) (own : Bool) (kind seq offset : Nat) (last : Bool) (payload : List Byte) : State :=
  let src := s.get R.MC_UID.ID
  let slot := s.get R.FAB_CTL.KEY
  let flags := b2n own + 2 * b2n s.fabAuth + 4 * (if s.fabAuth then slot else 0) + 8 * b2n last
  let h := fabHeader kind flags src peer (s.get R.EPOCH.EPOCH) xid offset seq payload.length
  let (tag, s1) := if s.fabAuth then
      match s.fabKey slot with
      | some k => (gmac k (s.fabIv src xid seq kind own) (h ++ payload), s)
      | none => let (v, s') := s.fresh 128; (bytesLE 16 v, s')
    else (bytesLE 4 (crc32 (h ++ payload)) ++ List.replicate 12 0, s)
  let pkt : FabPacket := ⟨s.nextHop p, s.fabMac p, some (s.acting R.FAB_NET.VID 1 4094), s.get R.FAB_NET.PCP, s.acting R.FAB_NET.HOP 1 255,
    s.get R.FAB_NET.TCLASS, xid % 2 ^ 20, s.fabAddr p src, s.fabAddr p peer, 0xC000 + xid % 2 ^ 14, s.acting R.FAB_UDP.DPORT 1024 65535,
    h ++ tag ++ payload⟩
  (s1.portEmit p (.fabPacket p pkt)).count (R.FP_TX.COUNT p) 1

/-! ## Transfer states -/

/-- Whether two records are of one transfer. -/
def Xfer.same (x y : Xfer) : Bool := x.own == y.own && x.peer == y.peer && x.xid == y.xid

/-- The transfer of a name. -/
def State.xfer? (s : State) (own : Bool) (peer xid : Nat) : Option Xfer :=
  s.fab.xfers.find? fun x => x.own == own && x.peer == peer && x.xid == xid

/-- Replace a transfer. -/
def State.setXfer (s : State) (x : Xfer) : State := s.onFab fun f => { f with xfers := f.xfers.map fun y => if y.same x then x else y }

/-- Transfer states in use on a port. -/
def State.inUse (s : State) (p : Nat) : Nat := (s.fab.xfers.filter fun x => x.port == p && !x.queued).length

/-- Show them (R549). -/
def State.showXfers (s : State) : State := (s.put (R.FP_XFERS.INUSE 0) (s.inUse 0)).put (R.FP_XFERS.INUSE 1) (s.inUse 1)

/-- Send a control frame of a transfer: SEQ counts the frames of its kind. -/
def State.fabControl (s : State) (x : Xfer) (kind : Nat) (payload : List Byte) : State :=
  let q := Sparse.get 0 x.ctl kind
  if !s.portUsable x.port then s
  else (s.setXfer { x with ctl := x.ctl.put kind ((q + 1) % 2 ^ 24) }).fabSend x.port x.peer x.xid x.own kind q 0 false payload

/-- Send OPEN (R531). -/
def State.sendOpen (s : State) (x : Xfer) : State :=
  s.fabControl x kOpen (bytesLE 1 (b2n x.get) ++ bytesLE 1 x.win ++ bytesLE 2 0 ++ bytesLE 4 x.wkey ++ bytesLE 8 x.wofs ++ bytesLE 8 x.len ++
    bytesLE 2 x.seg ++ bytesLE 6 0)

/-- Discard a transfer state; the first transfer that waits for one of its port takes it and sends OPEN. -/
def State.dropXfer (s : State) (x : Xfer) : State :=
  let s1 := s.onFab fun f => { f with xfers := f.xfers.filter fun y => !y.same x }
  let s2 := match s1.fab.xfers.find? fun y => y.queued && y.port == x.port with
    | some y => if s1.inUse x.port < 256 then (s1.setXfer { y with queued := false }).sendOpen { y with queued := false } else s1
    | none => s1
  s2.showXfers

/-- Send ABORT with a reason and discard the state (R533). -/
def State.abortXfer (s : State) (x : Xfer) (reason : Nat) : State :=
  (if x.queued then s else s.fabControl x kAbort (bytesLE 1 reason ++ bytesLE 3 0)).dropXfer x

/-- The command a transfer serves has ended (R533): each of its transfers not complete is abandoned. -/
def State.endXfers (s : State) (hit : XferUse → Bool) : State :=
  (s.fab.xfers.filter fun x => hit x.use && !x.done).foldl (fun s x => s.abortXfer x 2) s

end Sys2Proof.Machine
end

