-- ==== Sys2Proof/Machine/Commands.lean ====
section
/-!
DEFINITION. Commands in flight: status codes (R400), waybill fields (R347, R370, R371), receipts (R351, R352, R376,
R377), and how a command ends.
-/

namespace Sys2Proof

/-- A PARAM field at waybill offset `off` (32 or above), little-endian (R347). -/
def Waybill.field (w : Waybill) (off size : Nat) : Nat := ofBytesLE ((w.param.drop (off - 32)).take size)

/-- FLAGS bit 0, EARLY. -/
def Waybill.early (w : Waybill) : Bool := bitAt w.flags 0
/-- FLAGS bit 1, NO_IRQ. -/
def Waybill.noIrq (w : Waybill) : Bool := bitAt w.flags 1
/-- FLAGS bit 2, REPORT_ALL. -/
def Waybill.reportAll (w : Waybill) : Bool := bitAt w.flags 2
/-- FLAGS bit 4, the opcode's first flag. -/
def Waybill.flag4 (w : Waybill) : Bool := bitAt w.flags 4
/-- FLAGS bit 5, the opcode's second flag. -/
def Waybill.flag5 (w : Waybill) : Bool := bitAt w.flags 5

end Sys2Proof

namespace Sys2Proof.Machine

/-! ## Status codes (R400) -/
namespace ST
/-- R400. -/ def OK : Nat := 0x0000
/-- R400. -/ def OK_RECOVERED : Nat := 0x0101
/-- R400. -/ def OK_RECONSTRUCTED : Nat := 0x0102
/-- R400. -/ def OK_SINGLE_TRACK : Nat := 0x0103
/-- R400. -/ def OK_FLYWHEEL : Nat := 0x0104
/-- R400. -/ def BAD_OPCODE : Nat := 0x1001
/-- R400. -/ def BAD_FIELD : Nat := 0x1002
/-- R400. -/ def BAD_RING : Nat := 0x1003
/-- R400. -/ def MODE : Nat := 0x1004
/-- R400. -/ def NOT_MOUNTED : Nat := 0x1005
/-- R400. -/ def RANGE : Nat := 0x1006
/-- R400. -/ def PART_UNKNOWN : Nat := 0x1007
/-- R400. -/ def PART_RETIRED : Nat := 0x1008
/-- R400. -/ def PART_OVERLAP : Nat := 0x1009
/-- R400. -/ def PART_LIMIT : Nat := 0x100A
/-- R400. -/ def KEY_MISSING : Nat := 0x100B
/-- R400. -/ def KEY_TAG : Nat := 0x100C
/-- R400. -/ def PART_NOT_KEYED : Nat := 0x100D
/-- R400. -/ def DISC_MISMATCH : Nat := 0x100E
/-- R400. -/ def TIME_NOT_SET : Nat := 0x100F
/-- R400. -/ def EXTENT_LIMIT : Nat := 0x1010
/-- R400. -/ def TABLE_BAD : Nat := 0x1011
/-- R400. -/ def TABLE_BUSY : Nat := 0x1012
/-- R400. -/ def JOURNAL_ENTRY : Nat := 0x1013
/-- R400. -/ def MODE_TRANSITION : Nat := 0x1014
/-- R400. -/ def DL_QUOTA : Nat := 0x1015
/-- R400. -/ def MEDIA_WRITTEN : Nat := 0x2001
/-- R400. -/ def MEDIA_UNWRITTEN : Nat := 0x2002
/-- R400. -/ def MEDIA_CLOSED : Nat := 0x2003
/-- R400. -/ def UNCORRECTABLE : Nat := 0x2004
/-- R400. -/ def MEDIA_SPARES_FULL : Nat := 0x2005
/-- R400. -/ def MEDIA_SYSTEM_FULL : Nat := 0x2006
/-- R400. -/ def MEDIA_FORMAT : Nat := 0x2007
/-- R400. -/ def ZONE_UNUSABLE : Nat := 0x2008
/-- R400. -/ def FLUSH_INCOMPLETE : Nat := 0x2009
/-- R400. -/ def STRIPE_SHORT : Nat := 0x200A
/-- R400. -/ def FIXITY_MISMATCH : Nat := 0x200B
/-- R400. -/ def BAY_STATE : Nat := 0x3001
/-- R400. -/ def BAY_FAULT : Nat := 0x3002
/-- R400. -/ def BAY_LOST : Nat := 0x3003
/-- R400. -/ def BAY_WITHDRAWN : Nat := 0x3004
/-- R400. -/ def UNIT_ABSENT : Nat := 0x4001
/-- R400. -/ def CURFEW : Nat := 0x4002
/-- R400. -/ def HOST_DMA : Nat := 0x4003
/-- R400. -/ def DMA_UNCORR : Nat := 0x4004
/-- R400. -/ def BUFFER_FAULT : Nat := 0x4005
/-- R400. -/ def MICRO_TRAP : Nat := 0x4006
/-- R400. -/ def MODE_CAUSE : Nat := 0x4007
/-- R400. -/ def MODE_TIMEOUT : Nat := 0x4008
/-- R400. -/ def NO_UNIT_ID : Nat := 0x5001
/-- R400. -/ def PEER_LOST : Nat := 0x5002
/-- R400. -/ def STALE_EPOCH : Nat := 0x5003
/-- R400. -/ def FABRIC_AUTH : Nat := 0x5004
/-- R400. -/ def PEER_REFUSED : Nat := 0x5005
/-- R400. -/ def FABRIC_LINK_DOWN : Nat := 0x5006
end ST

/-- Porter treats every class other than 0x00 and 0x01 as a failure (R400). -/
def statusFails (st : Nat) : Bool := decide (2 ≤ st / 256)

/-! ## Opcodes (R370) -/
namespace Op
/-- R370. -/ def MOUNT : Nat := 0x01
/-- R370. -/ def UNMOUNT : Nat := 0x02
/-- R370. -/ def READ : Nat := 0x10
/-- R370. -/ def WRITE : Nat := 0x11
/-- R370. -/ def VERIFY : Nat := 0x12
/-- R370. -/ def FLUSH : Nat := 0x13
/-- R370. -/ def CLOSE_EXTENT : Nat := 0x14
/-- R370. -/ def MEDIA_SCAN : Nat := 0x15
/-- R370. -/ def PARTITION_CREATE : Nat := 0x20
/-- R370. -/ def PARTITION_RETIRE : Nat := 0x21
/-- R370. -/ def KEY_BIND : Nat := 0x22
/-- R370. -/ def TABLE_LOAD : Nat := 0x40
/-- R370. -/ def TABLE_READ : Nat := 0x41
/-- R370. -/ def STRIPE_ENCODE : Nat := 0x50
/-- R370. -/ def STRIPE_REBUILD : Nat := 0x51
/-- R370. -/ def FIXITY : Nat := 0x52
/-- R370. -/ def FABRIC_SEND : Nat := 0x60
/-- R370. -/ def MODE : Nat := 0x70
end Op

/-- Opcodes 0x01–0x22 are bay commands (R370). -/
def isBayOp (op : Nat) : Bool :=
  [Op.MOUNT, Op.UNMOUNT, Op.READ, Op.WRITE, Op.VERIFY, Op.FLUSH, Op.CLOSE_EXTENT, Op.MEDIA_SCAN,
   Op.PARTITION_CREATE, Op.PARTITION_RETIRE, Op.KEY_BIND].contains op

/-- Opcodes 0x40–0x70 are unit commands (R370). -/
def isUnitOp (op : Nat) : Bool :=
  [Op.TABLE_LOAD, Op.TABLE_READ, Op.STRIPE_ENCODE, Op.STRIPE_REBUILD, Op.FIXITY, Op.FABRIC_SEND, Op.MODE].contains op

/-- Customer opcodes (R370, R398). -/
def isCustomerOp (op : Nat) : Bool := decide (0xE0 ≤ op) && decide (op ≤ 0xEF)

/-- Read-class opcodes, whose receipts carry NOTES (R283, R370). -/
def isReadClass (op : Nat) : Bool := op == Op.READ || op == Op.VERIFY || op == Op.MEDIA_SCAN

/-- The sectors, extents or items a waybill names: COUNT at offset 36 (R386, R390, R391), in sectors. -/
def waybillItems (w : Waybill) : Nat :=
  if w.opcode = Op.READ ∨ w.opcode = Op.WRITE ∨ w.opcode = Op.CLOSE_EXTENT then w.field 36 4
  else if w.opcode = Op.VERIFY then (if w.flag4 then 0 else w.field 36 4)
  else if w.opcode = Op.MEDIA_SCAN then 64 * w.field 36 4
  else 0

/-! ## Receipts (R351, R352, R376, R377) -/

/-- Release receipts reserved on a ring (R351). -/
def State.unreserve (s : State) (ring n : Nat) : State :=
  s.put (R.RCP_STAT.RESERVED ring) (s.get (R.RCP_STAT.RESERVED ring) - n)

/-- A disabled receipt ring turns off when no reserved receipt remains (R361). -/
def State.drainRing (s : State) (ring : Nat) : State :=
  if s.on (R.RCP_CFG.DRAINING ring) && s.get (R.RCP_STAT.RESERVED ring) == 0 then s.zero (R.RCP_CFG.DRAINING ring) else s

/-- The leading items that succeeded: DONE (R376). -/
def leadingDone (items : Sparse Item) : Nat → Nat → Nat
  | 0, i => i
  | n + 1, i => match items.find? (fun e => e.1 == i) with
    | some (_, it) => if it.fail = 0 then leadingDone items n (i + 1) else i
    | none => i

/-- DONE of a command (R376). -/
def Cmd.done (c : Cmd) : Nat := leadingDone c.items c.count 0

/-- INDEX of a command: the first item that did not succeed, or 0xFFFF_FFFF when all did (R376). -/
def Cmd.index (c : Cmd) : Nat := if c.done = c.count then 0xFFFFFFFF else c.done

/-- The status of the failure at INDEX, 0 where no item failed (R377). -/
def Cmd.failure (c : Cmd) : Nat :=
  match c.items.find? (fun e => e.2.fail != 0) with
  | some (_, it) => it.fail
  | none => 0

/-- Outcomes of R281: 1 is RECOVERED, 2 RECONSTRUCTED. -/
def isRecovered (o : Nat) : Bool := o == 1
@[inherit_doc isRecovered] def isRebuilt (o : Nat) : Bool := o == 2

/-- The NOTES byte of a read-class command (R283): bit 0 single-track, bit 1 flywheel, bit 2 recovered, bit 3
reconstructed, bit 4 report records that did not fit. -/
def Cmd.notes (c : Cmd) : Nat :=
  if isReadClass c.wb.opcode then
    b2n (c.items.any fun e => e.2.single) + 2 * b2n (c.items.any fun e => e.2.flywheel)
      + 4 * b2n (c.items.any fun e => isRecovered e.2.outcome) + 8 * b2n (c.items.any fun e => isRebuilt e.2.outcome)
      + 16 * b2n c.trunc
  else 0

/-- Queue a formed receipt in formation order (R340, R353). -/
def State.queueReceipt (s : State) (r : Receipt) : State :=
  { s with porter := { s.porter with receipts := s.porter.receipts ++ [r] } }

/-- Form a receipt of a command (R352). -/
def State.formReceipt (s : State) (c : Cmd) (status kind index done : Nat) : State :=
  s.queueReceipt ⟨c.rring, c.wb.cid, status, c.sring, c.wb.bay, c.notes, kind, index, done, c.result, c.rcount,
    s.get (R.SUB_HEAD.HEAD c.sring), c.wb.noIrq⟩

/-- Form the final receipt; a second receipt still reserved is released (R351).  A command in flight at an event of R341 has none. -/
def State.finalReceipt (s : State) (c : Cmd) (status index done : Nat) : State :=
  if c.discard then s
  else
  let s1 := if c.second then (s.unreserve c.rring 1).drainRing c.rring else s
  s1.formReceipt c status 0 index done

/-- Refuse a waybill whose receipts are reserved (R349, R351): a final receipt with DONE 0 (DEDUCED, log entry 13). -/
def State.refuse (s : State) (c : Cmd) (status : Nat) : State := s.finalReceipt c status 0 0

/-! ## What a command names on the disc -/

/-- Entry `i`, `none` where FREE. -/
def State.jEntry (s : State) (n i : Nat) : Option JEntry :=
  ((s.bay n).writing.journal.find? fun e => e.1 == i).map (·.2)

/-- The partition entry a command names, where the directory has it. -/
def State.partEntry (s : State) (n : Nat) (c : Cmd) : Option PartEntry := (s.bay n).disc.dir[c.wb.field 32 2]?

/-- Items a command names: sectors; for the journal form the slots of its entry; for CLOSE_EXTENT extents (R376, R389). -/
def State.cmdItems (s : State) (n : Nat) (c : Cmd) : Nat :=
  if c.wb.opcode = Op.VERIFY ∧ c.wb.flag4 then (match s.jEntry n (c.wb.field 32 1 % 64) with | some e => e.count | none => 0)
  else waybillItems c.wb

/-- Home slot of item `i` of a command; `noPsa` where there is none. -/
def State.homeOf (s : State) (n : Nat) (c : Cmd) (i : Nat) : Nat :=
  if c.wb.opcode = Op.MEDIA_SCAN then (extentSlot (c.wb.field 40 4 + i / 64) (i % 64)).psa
  else if c.wb.opcode = Op.VERIFY ∧ c.wb.flag4 then
    match s.jEntry n (c.wb.field 32 1 % 64) with
    | some e =>
      let a := slotOfPsa e.psa
      SlotAddr.psa { a with slot := (a.slot + i) % slotsPerTrack (zoneOfTrack a.track) }
    | none => noPsa
  else match s.partEntry n c with
    | some p => (sectorSlot p.firstExt (c.wb.field 40 8 + i)).psa
    | none => noPsa

/-- Outcomes of R281. -/
def outDecoded : Nat := 0
@[inherit_doc outDecoded] def outRecovered : Nat := 1
@[inherit_doc outDecoded] def outReconstructed : Nat := 2
@[inherit_doc outDecoded] def outShadow : Nat := 3
@[inherit_doc outDecoded] def outBlank : Nat := 4
@[inherit_doc outDecoded] def outUncorrectable : Nat := 5
@[inherit_doc outDecoded] def outNotRead : Nat := 6

/-- The failure status of an outcome for a command (R376, R387, R389, R391). -/
def outcomeFail (c : Cmd) (o : Nat) : Nat :=
  if o ≤ outShadow then 0
  else if o = outBlank then
    (if c.wb.opcode = Op.MEDIA_SCAN ∨ (c.wb.opcode = Op.READ ∧ c.wb.flag4) ∨ (c.wb.opcode = Op.VERIFY ∧ c.wb.flag4) then 0 else ST.MEDIA_UNWRITTEN)
  else ST.UNCORRECTABLE

/-! ## What a read-class command delivers (R282 to R284, R387) -/

/-- The pieces of host memory that hold bytes `off` to `off + len − 1` of a locator. -/
def locPieces : List (Nat × Nat) → Nat → Nat → List (Nat × Nat)
  | [], _, _ => []
  | (a, l) :: r, off, len =>
    if len = 0 then []
    else if l ≤ off then locPieces r (off - l) len
    else if len ≤ l - off then [(a + off, len)]
    else (a + off, l - off) :: locPieces r 0 (len - (l - off))

/-- Write bytes through the pieces of a locator. -/
def State.hostPut (s : State) : List (Nat × Nat) → List Byte → State
  | [], _ => s
  | (a, l) :: r, d => (s.emit (.hostWrite a (d.take l))).hostPut r (d.drop l)

/-- Request the pieces of a locator from host memory on a channel. -/
def State.hostGet (s : State) (channel : Nat) (l : List (Nat × Nat)) : State :=
  l.foldl (fun s p => s.emit (.hostRead channel p.1 p.2)) s

/-- The 4,096 bytes an item delivers: zeros for BLANK, UNCORRECTABLE and NOT_READ (R284, R387). -/
def Item.bytes (it : Item) : List Byte :=
  if it.outcome ≤ outShadow then it.data else List.replicate 4096 0

/-- The next item of a READ goes to host memory, or to the transfer that carries the command's data (R387, R537). -/
def State.deliverItem (s : State) (n : Nat) (c : Cmd) (i : Nat) (it : Item) : State :=
  if c.wb.opcode ≠ Op.READ then s
  else if c.wb.dform = 3 then
    s.onFab fun f => { f with xfers := f.xfers.map fun x => if x.use = .tag n c.id then { x with data := x.data ++ it.bytes } else x }
  else s.hostPut (locPieces c.loc (4096 * i) 4096) it.bytes

/-- Deliver the items that are resolved and follow those delivered; the count that has been. -/
def State.deliver (n : Nat) (c : Cmd) : Nat → Nat → State → Nat × State
  | 0, i, s => (i, s)
  | k + 1, i, s =>
    match c.items.find? fun e => e.1 == i with
    | some (_, it) => if i < c.count then State.deliver n c k (i + 1) (s.deliverItem n c i it) else (i, s)
    | none => (i, s)

/-- FLAGS of a report record (R282). -/
def Item.flags (it : Item) : Nat := b2n it.flywheel + 2 * b2n it.single + 4 * b2n it.pred + 8 * b2n it.copied + 16 * b2n it.shadow

/-- A record of the sector report (R282). -/
def reportRecord (home i : Nat) (it : Item) : List Byte :=
  bytesLE 4 home ++ bytesLE 4 i ++ bytesLE 1 it.outcome ++ bytesLE 1 it.step ++ bytesLE 1 it.flags ++ bytesLE 1 it.iter ++
  bytesLE 2 it.erased ++ bytesLE 1 it.miss ++ bytesLE 1 it.beam

/-- Write the sector report of a command whose items are all settled (R282). -/
def State.report (s : State) (n : Nat) (c : Cmd) : Cmd × State :=
  if c.wb.raddr = 0 then (c, s)
  else
    let want := c.items.filter fun e => decide (e.1 < c.count) && (c.wb.reportAll || e.2.outcome != outDecoded || e.2.flags != 0)
    let out := want.take c.wb.rcap
    ({ c with rcount := out.length, trunc := decide (c.wb.rcap < want.length) },
      out.zipIdx.foldl (fun s e => s.emit (.hostWrite (c.wb.raddr + 16 * e.2) (reportRecord (s.homeOf n c e.1.1) e.1.1 e.1.2))) s)

/-- An item that the command ended before resolving (R281). -/
def notRead (fail : Nat) : Item := { outcome := outNotRead, fail := fail }

/-- Items that a command ends without resolving are NOT_READ. -/
def Cmd.fillNotRead (c : Cmd) (status : Nat) : Cmd :=
  { c with items := ((List.range c.count).filter fun i => !c.items.has i).foldl (fun l i => l.put i (notRead status)) c.items }

/-- Settle a read-class command that ends with a status: items not resolved are NOT_READ, everything is delivered and reported. -/
def State.settleRead (s : State) (n : Nat) (c : Cmd) (status : Nat) : Cmd × State :=
  if !isReadClass c.wb.opcode || c.discard then (c, s)
  else
    let c1 := c.fillNotRead status
    let d := State.deliver n c1 c.count c.sent s
    State.report d.2 n { c1 with sent := d.1 }

/-! ## Tags of a bay -/

/-- The command holding a tag. -/
def State.tag? (s : State) (n t : Nat) : Option Cmd := (s.bay n).tags.find? fun c => c.id == t

/-- Replace a command under its tag. -/
def State.setTag (s : State) (n : Nat) (c : Cmd) : State :=
  s.setBay n { s.bay n with tags := (s.bay n).tags.map fun d => if d.id = c.id then c else d }

/-- Whether a command counts among the writes a FLUSH waits for (R379). -/
def Cmd.isFlushed (c : Cmd) : Bool :=
  c.wb.opcode == Op.WRITE || (c.wb.opcode == Op.CLOSE_EXTENT && !c.wb.flag4) || (c.wb.opcode == Op.MEDIA_SCAN && c.wb.flag4)

/-- Remove a tag; FLUSH commands waiting for it count its failure (R379, R381). -/
def State.dropTag (s : State) (n : Nat) (c : Cmd) (status : Nat) : State :=
  let b := s.bay n
  s.setBay n { b with arrived := b.arrived.filter (· != c.id), tags := (b.tags.filter fun d => d.id != c.id).map fun d =>
    if d.waits.contains c.id then
      { d with waits := d.waits.filter (· != c.id), failedWr := d.failedWr + b2n (status != ST.OK) }
    else d }

/-- Whether a transfer serves a tag. -/
def XferUse.isTag (n t : Nat) : XferUse → Bool | .tag m u => m == n && u == t | _ => false

/-- Whether a transfer serves a unit command. -/
def XferUse.isUnit (k : Nat) : XferUse → Bool | .unit j => j == k | .shard j _ => j == k | _ => false

/-- End a bay command with given INDEX and DONE: what it read is delivered and reported, final receipt, its lock entry removed (R381), its transfers abandoned (R533).
`QUEUED` follows (R417). -/
def State.endTagAt (s : State) (n : Nat) (c : Cmd) (status index done : Nat) : State :=
  let (c1, s0) := s.settleRead n c status
  let s1 := ((s0.finalReceipt c1 status index done).dropTag n c status).endXfers (XferUse.isTag n c.id)
  s1.put (R.SCHED_STAT.QUEUED n) (s1.bay n).tags.length

/-- End a bay command: INDEX and DONE from its items (R376). -/
def State.endTag (s : State) (n : Nat) (c : Cmd) (status : Nat) : State := s.endTagAt n c status c.index c.done

/-- The success status of a command (R283, R377): the highest of the read-class notes, else `ST_OK`. -/
def Cmd.success (c : Cmd) : Nat :=
  let k := c.notes
  if bitAt k 3 then ST.OK_RECONSTRUCTED
  else if bitAt k 2 then ST.OK_RECOVERED
  else if bitAt k 0 then ST.OK_SINGLE_TRACK
  else if bitAt k 1 then ST.OK_FLYWHEEL
  else ST.OK

/-- End a bay command by R377: the failure at INDEX, or success. -/
def State.endTagNatural (s : State) (n : Nat) (c : Cmd) : State :=
  s.endTag n c (if c.failure = 0 then c.success else c.failure)

/-- End every tag of a bay with one status, in admission order (R399). -/
def State.endAllTags (s : State) (n status : Nat) : State :=
  (s.bay n).tags.foldl (fun s c => s.endTag n c status) s

/-- Refuse every waybill that waits for a tag of the bay (R346). -/
def State.refuseQueued (s : State) (n status : Nat) : State :=
  (s.bay n).waiting.foldl (fun s c => s.refuse c status) (s.setBay n { s.bay n with waiting := [] })

/-! ## Unit commands -/

/-- The unit command of a number. -/
def State.unit? (s : State) (k : Nat) : Option Cmd := s.units.find? fun c => c.id == k

/-- Replace a unit command. -/
def State.setUnit (s : State) (c : Cmd) : State :=
  { s with units := s.units.map fun d => if d.id = c.id then c else d }

/-- Show whether the stripe engine runs a command, and how many wait (R438). -/
def State.stripeShow (s : State) : State :=
  let l := s.units.filter fun c => c.wb.opcode == Op.STRIPE_ENCODE || c.wb.opcode == Op.STRIPE_REBUILD
  let run := l.filter fun c => decide (3 ≤ c.stage)
  (s.putB R.STRIPE_STAT.BUSY (!run.isEmpty)).put R.STRIPE_STAT.QUEUED (min 65535 (l.length - run.length))

/-- End a unit command; its transfers are abandoned (R533). -/
def State.endUnit (s : State) (c : Cmd) (status index done : Nat) : State :=
  let s1 := s.finalReceipt c status index done
  ({ s1 with units := s1.units.filter fun d => d.id != c.id }.endXfers (XferUse.isUnit c.id)).stripeShow

/-- Whether no command is in flight in the unit, the MODE that asks not counted (R555; DEDUCED, log entry 14). -/
def State.noCommand (s : State) : Bool :=
  s.units.all (fun c => c.wb.opcode == Op.MODE) && s.bays.all fun e => e.2.tags.isEmpty && e.2.waiting.isEmpty

/-! ## Remote locators (R537) -/

/-- The status a locator is refused with before a transfer opens (R524, R529, R537); 0 for none. -/
def State.fabCheck (s : State) (sel peer : Nat) : Nat :=
  if sel = 3 then ST.BAD_FIELD
  else if !s.on R.MC_UID.VALID then ST.NO_UNIT_ID
  else if peer = s.get R.MC_UID.ID then ST.BAD_FIELD
  else 0

end Sys2Proof.Machine
end

