-- ==== Sys2Proof/Machine/Motion.lean ====
section
/-!
DEFINITION. Stepper motion (08_steppers.md): register access by stepper, move profiles (R208, R209), winding currents
and STEP frames (R203), and the requests that the interpolator takes (R207, R210, R213, R214).
-/

namespace Sys2Proof.Machine

/-! ## Downstream frames (R62, R65, R69) -/

/-- Send a downstream frame of bay `n` with the next SEQ of its type: the lane carries frames while the link is up, and
in steps 4 and 5 of training (R75). -/
def State.send (s : State) (n typ arg : Nat) (data : List (BitVec 64)) : State :=
  let b := s.bay n
  if b.link.phase != .up && b.link.phase != .echo && b.link.phase != .feId then s else
  let q := Sparse.get 0 b.link.downSeq typ
  (s.setBay n { b with link := { b.link with downSeq := Sparse.put b.link.downSeq typ ((q + 1) % 256) } }).emit
    (.blFrame n typ q arg data)

/-- A 64-bit block of four signed or unsigned 16-bit values, value 0 in bits 15:0. -/
def block16 (a b c d : Int) : BitVec 64 :=
  BitVec.ofNat 64 (ofInt 16 a + 2 ^ 16 * ofInt 16 b + 2 ^ 32 * ofInt 16 c + 2 ^ 48 * ofInt 16 d)

/-! ## Registers of a stepper: the sled, or the SA lens where `sa` -/

/-- GO of the stepper (R221). -/
def fGo (sa : Bool) (n : Nat) : Field := if sa then R.SA_TGT.GO n else R.SLED_TGT.GO n
/-- Its target (R221). -/
def fPos (sa : Bool) (n : Nat) : Field := if sa then R.SA_TGT.POS n else R.SLED_TGT.POS n
/-- Its mode (R226). -/
def fMode (sa : Bool) (n : Nat) : Field := if sa then R.STEP_CTL.SA_MODE n else R.STEP_CTL.SLED_MODE n
/-- Its profile (R226). -/
def fProf (sa : Bool) (n : Nat) : Field := if sa then R.STEP_CTL.SA_PROF n else R.STEP_CTL.SLED_PROF n
/-- HOMED (R227). -/
def fHomed (sa : Bool) (n : Nat) : Field := if sa then R.STEP_STAT.SA_HOMED n else R.STEP_STAT.SLED_HOMED n
/-- ARRIVED (R227). -/
def fArrived (sa : Bool) (n : Nat) : Field := if sa then R.STEP_STAT.SA_ARRIVED n else R.STEP_STAT.SLED_ARRIVED n
/-- LIM (R227). -/
def fLim (sa : Bool) (n : Nat) : Field := if sa then R.STEP_STAT.SA_LIM n else R.STEP_STAT.SLED_LIM n
/-- Velocity limit, microsteps/s (R222). -/
def State.stepVmax (s : State) (sa : Bool) (n : Nat) : Nat :=
  s.acting (if sa then R.SA_VMAX.VMAX n else R.SLED_VMAX.VMAX n) 1000 1000000
/-- Acceleration, 10^4 microsteps/s² (R222). -/
def State.stepAcc (s : State) (sa : Bool) (n : Nat) : Nat :=
  s.acting (if sa then R.SA_ACC.ACCEL n else R.SLED_ACC.ACCEL n) 1 16777215
/-- Jerk, 10^8 microsteps/s³ (R223). -/
def State.stepJerk (s : State) (sa : Bool) (n : Nat) : Nat :=
  s.acting (if sa then R.SA_JERK.JERK n else R.SLED_JERK.JERK n) 1 16777215
/-- Homing speed, microsteps/s (R223). -/
def State.stepHomeV (s : State) (sa : Bool) (n : Nat) : Nat :=
  1000 * s.acting (if sa then R.SA_JERK.HOME_V n else R.SLED_JERK.HOME_V n) 1 255
/-- Settle time, 10 µs (R224). -/
def State.stepSettle (s : State) (sa : Bool) (n : Nat) : Nat := s.get (if sa then R.SA_MISC.SETTLE n else R.SLED_MISC.SETTLE n)
/-- A register position as microsteps: sled positions are unsigned, SA positions two's complement (R221). -/
def posValue (sa : Bool) (v : Nat) : Int := if sa then toInt 16 v else (v : Int)
/-- POS_MIN and POS_MAX (R223). -/
def State.stepMin (s : State) (sa : Bool) (n : Nat) : Int :=
  posValue sa (s.get (if sa then R.SA_LIM.POS_MIN n else R.SLED_LIM.POS_MIN n))
@[inherit_doc State.stepMin] def State.stepMax (s : State) (sa : Bool) (n : Nat) : Int :=
  posValue sa (s.get (if sa then R.SA_LIM.POS_MAX n else R.SLED_LIM.POS_MAX n))

/-- The hidden state of a stepper. -/
def State.stepper (s : State) (sa : Bool) (n : Nat) : Stepper := if sa then (s.bay n).sa else (s.bay n).sled

/-- Replace it. -/
def State.setStepper (s : State) (sa : Bool) (n : Nat) (p : Stepper) : State :=
  s.setBay n (if sa then { s.bay n with sa := p } else { s.bay n with sled := p })

/-- The code of a stepper in ledger details: 0 the sled, 1 the SA lens. -/
def stepperCode (sa : Bool) : Nat := b2n sa

/-- The microstep index of a position (R209): the position rounded to nearest. -/
def microIndex (pos : Int) : Int := (pos + 32768) / 65536

/-! ## Profiles (R208, R209) -/

/-- A ramp to velocity `v`: acceleration used, jerk time and ramp time. -/
def rampTo (prof : Bool) (acc jerk v : Nat) : Nat × Nat × Nat :=
  if !prof then (acc, 0, 65536 * v / max acc 1)
  else if acc * acc ≤ v * jerk then (acc, 65536 * acc / max jerk 1, 65536 * v / max acc 1 + 65536 * acc / max jerk 1)
  else
    let a := Nat.sqrt (v * jerk)
    let tj := 65536 * a / max jerk 1
    (a, tj, 2 * tj)

/-- Distance of acceleration and deceleration together, in 2^-32 microsteps. -/
def rampDistance (prof : Bool) (acc jerk v : Nat) : Nat := v * (rampTo prof acc jerk v).2.2 / 65536

/-- The highest velocity not above `hi` whose two ramps fit in `d`, to 2^-16 microstep per tick (R208). -/
def searchVelocity (prof : Bool) (acc jerk d : Nat) : Nat → Nat → Nat
  | 0, lo => lo
  | k + 1, lo =>
    let v := lo + 2 ^ k * 65536
    searchVelocity prof acc jerk d k (if rampDistance prof acc jerk v ≤ d then v else lo)

/-- Plan a move from rest (R208). -/
def planMove (prof : Bool) (vmaxUs accU jerkU : Nat) (start target : Int) : MovePlan :=
  let vmax := 2 ^ 32 * vmaxUs / 20000
  let acc := 2 ^ 32 * accU / 40000
  let jerk := 2 ^ 32 * jerkU / 80000
  let d := (target - start).natAbs * 65536
  let v := if rampDistance prof acc jerk vmax ≤ d then vmax
    else if prof then min vmax (searchVelocity prof acc jerk d 22 0) else Nat.sqrt (d * acc)
  let (a, tj, tr) := rampTo prof acc jerk v
  let cruise := 65536 * (d - v * tr / 65536) / max v 1
  ⟨start, target, v, a, jerk, tj, tr, if d = 0 then 0 else 2 * tr + cruise, 0⟩

/-- Distance covered after time `t` of a ramp, in 2^-32 microsteps. -/
def MovePlan.rampAt (p : MovePlan) (t : Nat) : Nat :=
  if p.tJerk = 0 then p.acc * (t * t) / 2 ^ 33
  else if t ≤ p.tJerk then p.jerk * (t * t * t) / (6 * 2 ^ 48)
  else if t + p.tJerk ≤ p.tRamp then
    p.jerk * (p.tJerk * p.tJerk * p.tJerk) / (6 * 2 ^ 48) + p.acc * ((t - p.tJerk) * t) / 2 ^ 33
  else
    let r := p.tRamp - t
    p.vel * p.tRamp / 2 ^ 17 - (p.vel * r / 65536 - p.jerk * (r * r * r) / (6 * 2 ^ 48))

/-- Distance covered after time `t` of the move, in 2^-32 microsteps. -/
def MovePlan.distAt (p : MovePlan) (t : Nat) : Nat :=
  let d := (p.target - p.start).natAbs * 65536
  if p.total ≤ t then d
  else if t ≤ p.tRamp then p.rampAt t
  else if t + p.tRamp ≤ p.total then p.vel * p.tRamp / 2 ^ 17 + p.vel * (t - p.tRamp) / 65536
  else d - p.rampAt (p.total - t)

/-- Velocity after time `t` of a ramp, in 2^-32 microsteps per tick. -/
def MovePlan.rampVel (p : MovePlan) (t : Nat) : Nat :=
  if p.tJerk = 0 then p.acc * t / 65536
  else if t ≤ p.tJerk then p.jerk * (t * t) / 2 ^ 33
  else if t + p.tJerk ≤ p.tRamp then p.acc * (2 * t - p.tJerk) / 131072
  else p.vel - p.jerk * ((p.tRamp - t) * (p.tRamp - t)) / 2 ^ 33

/-- Velocity after time `t` of the move, in 2^-16 microsteps per tick, with its sign. -/
def MovePlan.velAt (p : MovePlan) (t : Nat) : Int :=
  let v : Nat := if p.total ≤ t then 0 else if t ≤ p.tRamp then p.rampVel t
    else if t + p.tRamp ≤ p.total then p.vel else p.rampVel (p.total - t)
  if p.start ≤ p.target then (v / 65536 : Nat) else -((v / 65536 : Nat) : Int)

/-- Position after time `t`, to 2^-16 microstep, one of the two neighbours (R209; DESIGN CHOICE, log entry 12). -/
def State.planPos (s : State) (p : MovePlan) (t : Nat) : Int × State :=
  if p.total ≤ t then (p.target, s)
  else
    let (d, s1) := s.roundOpen (p.distAt t) 65536
    (if p.start ≤ p.target then (p.start + d, s1) else (p.start - d, s1))

/-- The stop of R210: deceleration from the present velocity, as the second half of a symmetrical move. -/
def stopPlan (prof : Bool) (accU jerkU : Nat) (pos vel : Int) : MovePlan :=
  let acc := 2 ^ 32 * accU / 40000
  let jerk := 2 ^ 32 * jerkU / 80000
  let v := 65536 * vel.natAbs
  let (a, tj, tr) := rampTo prof acc jerk v
  let half : Int := ((v * tr / 2 ^ 33 : Nat) : Int)
  if 0 ≤ vel then ⟨pos - half, pos + half, v, a, jerk, tj, tr, 2 * tr, tr⟩
  else ⟨pos + half, pos - half, v, a, jerk, tj, tr, 2 * tr, tr⟩

/-! ## Winding currents and STEP frames (R203, R204) -/

/-- A table magnitude; bit 15 set acts as 0x7FFF (R204). -/
def tableMag (v : Nat) : Int := if 0x8000 ≤ v then 0x7FFF else (v : Int)

/-- The winding setpoints (A, B) of a stepper at a microstep index (R203); zero in OFF. -/
def State.windings (s : State) (sa : Bool) (n : Nat) (idx : Int) : Int × Int :=
  if s.get (fMode sa n) = 0 then (0, 0)
  else
    let e := ((idx + (s.stepper sa n).phOfs) % 1024).toNat
    let i := e % 256
    let a := tableMag (s.get (if sa then R.SA_SINE.A n i else R.SLED_SINE.A n i))
    let b := tableMag (s.get (if sa then R.SA_SINE.B n i else R.SLED_SINE.B n i))
    match e / 256 with
    | 0 => (a, b)
    | 1 => (-b, a)
    | 2 => (-a, -b)
    | _ => (b, -a)

/-- Send a STEP frame with the setpoints of both steppers at given indexes (R69, R203). -/
def State.stepFrameAt (s : State) (n : Nat) (sled sa : Int) : State :=
  let (la, lb) := s.windings false n sled
  let (aa, ab) := s.windings true n sa
  s.send n 0x13 0 [block16 la lb aa ab]

/-- Send a STEP frame with the present setpoints. -/
def State.stepFrame (s : State) (n : Nat) : State :=
  s.stepFrameAt n (microIndex (s.stepper false n).pos) (microIndex (s.stepper true n).pos)

/-- Change the mode of a stepper; one that leaves or enters OFF gets its windings' new setpoints at once. -/
def State.stepMode (s : State) (sa : Bool) (n m : Nat) : State :=
  let old := s.get (fMode sa n)
  let s1 := s.put (fMode sa n) m
  if (old == 0) != (m == 0) then s1.stepFrame n else s1

/-- Show position and velocity of a stepper (R225): CMD is the microstep index, VEL in 32 microsteps/s units, one of the
two neighbours. -/
def State.stepShow (s : State) (sa : Bool) (n : Nat) : State :=
  let p := s.stepper sa n
  let (v, s1) := s.roundOpen (p.vel * 625) 65536
  (s1.putS (if sa then R.SA_POS.CMD n else R.SLED_POS.CMD n) (microIndex p.pos)).putS
    (if sa then R.SA_POS.VEL n else R.SLED_POS.VEL n) v

/-! ## Requests to the interpolator -/

/-- The end of a move (R212): ARRIVED after SETTLE, at once where SETTLE is 0. -/
def State.stepArrive (s : State) (sa : Bool) (n : Nat) : State :=
  let p := s.stepper sa n
  (((s.setStepper sa n { p with settling := false, toFollow := false }).raise (fArrived sa n)).zero (fGo sa n)).put (fMode sa n)
    (if p.toFollow then 3 else 1)

/-- The final tick of a move has passed. -/
def State.stepFinal (s : State) (sa : Bool) (n : Nat) : State :=
  if s.stepSettle sa n = 0 then s.stepArrive sa n
  else s.setStepper sa n { s.stepper sa n with settling := true }

/-- Begin a planned move from rest to a microstep (R208, R213): the mode is `MOVE`, or stays `PARK` or `HOME`. -/
def State.stepPlan (s : State) (sa : Bool) (n : Nat) (target : Int) (vmax : Nat) : State :=
  let p := s.stepper sa n
  let m := planMove (s.on (fProf sa n)) vmax (s.stepAcc sa n) (s.stepJerk sa n) p.pos (65536 * target)
  let s1 := s.setStepper sa n { p with plan := some m, settling := false, vel := 0 }
  if m.total = 0 then (s1.setStepper sa n { s1.stepper sa n with plan := none }).stepFinal sa n else s1

/-- Whether the stepper moves: it must come to rest before a new request (R210). -/
def Stepper.moving (p : Stepper) : Bool := p.vel != 0 || p.plan.isSome

/-- What a stepper does once at rest. -/
def State.stepBegin (s : State) (sa : Bool) (n : Nat) : AfterStop → State
  | .none => s
  | .hold => s.put (fMode sa n) 1
  | .follow => s.put (fMode sa n) 3
  | .move t => (s.put (fMode sa n) 2).stepPlan sa n t (s.stepVmax sa n)
  | .park => (s.put (fMode sa n) 5).stepPlan sa n (s.stepMin sa n) (s.stepVmax sa n)
  | .home =>
    let s0 := if sa then s else s.setBay n { s.bay n with enc := { (s.bay n).enc with still := 0 } }
    let s1 := (s0.put (fMode sa n) 4).setStepper sa n { s0.stepper sa n with home := .inward }
    let p := s1.stepper sa n
    let m := planMove (s1.on (fProf sa n)) (s1.stepHomeV sa n) (s1.stepAcc sa n) (s1.stepJerk sa n) p.pos
      (p.pos - 65536 * (if sa then 31744 else 62464))
    s1.setStepper sa n { p with plan := some m, settling := false, vel := 0 }

/-- Take a request: at once from rest, else after a deceleration at ACCEL (R210).  A request replaces what a stop or a
homing under way would have gone on with.  During a stall wait it follows the resynchronisation (R220). -/
def State.stepRequest (s : State) (sa : Bool) (n : Nat) (a : AfterStop) : State :=
  let p := { s.stepper sa n with settling := false, home := .off }
  if !sa && (s.bay n).enc.stalled then s.setStepper sa n { p with resume := a }
  else if p.moving then
    let q := match p.plan with
      | some m => if p.after = .none then stopPlan (s.on (fProf sa n)) (s.stepAcc sa n) (s.stepJerk sa n) p.pos p.vel else m
      | none => stopPlan (s.on (fProf sa n)) (s.stepAcc sa n) (s.stepJerk sa n) p.pos p.vel
    s.setStepper sa n { p with plan := some q, after := a }
  else (s.setStepper sa n { p with after := .none }).stepBegin sa n a

/-- A move to a target (R208): clamped to the limits with LIM and `STEP_LIMIT`; ARRIVED is cleared and GO reads 1; a new
count of stalls starts (R218). -/
def State.stepGo (s : State) (sa : Bool) (n : Nat) (target : Int) : State :=
  let lo := s.stepMin sa n
  let hi := s.stepMax sa n
  let t := clampInt lo hi target
  let s1 := if t = target then s else
    (s.raise (fLim sa n)).recordBay n 0x0703 [stepperCode sa, ofInt 16 target, ofInt 16 (microIndex (s.stepper sa n).pos)]
  let s0 := if sa then s1 else (s1.setBay n { s1.bay n with enc := { (s1.bay n).enc with stalls := [] } }).zero (R.STEP_STAT.STALL_RUN n)
  let s2 := ((s0.put (fPos sa n) (ofInt 16 target)).zero (fArrived sa n)).raise (fGo sa n)
  let fol := s2.get (fMode sa n) == 3
  ((s2.setStepper sa n { s2.stepper sa n with toFollow := fol }).put (fMode sa n) 2).stepRequest sa n (.move t)

/-- Stop motion and hold. -/
def State.stepHold (s : State) (sa : Bool) (n : Nat) : State := ((s.zero (fGo sa n)).stepMode sa n 1).stepRequest sa n .hold

/-- Forget a stall wait of the sled. -/
def State.stallForget (s : State) (sa : Bool) (n : Nat) : State :=
  if sa then s else s.setBay n { s.bay n with enc := { (s.bay n).enc with stalled := false, devRun := 0 } }

/-- End motion at once, whatever was to follow. -/
def State.stepDrop (s : State) (sa : Bool) (n : Nat) : State :=
  let p := s.stepper sa n
  (((s.setStepper sa n { p with plan := none, vel := 0, settling := false, after := .none, home := .off, toFollow := false,
                                resume := .none }).zero (fHomed sa n)).zero (fGo sa n)).stallForget sa n

/-- Mode OFF (R207): windings at zero, HOMED cleared, any motion ended. -/
def State.stepOff (s : State) (sa : Bool) (n : Nat) : State := (s.stepDrop sa n).stepMode sa n 0

/-- The front-end has lost its link (R214, R220): a move ends, HOMED is cleared. -/
def State.stepLost (s : State) (sa : Bool) (n : Nat) : State :=
  let s1 := s.stepDrop sa n
  s1.put (fMode sa n) (if s1.get (fMode sa n) = 0 then 0 else 1)

/-- PARK (R207, R214): a stepper that is not homed holds where it stands. -/
def State.stepPark (s : State) (sa : Bool) (n : Nat) : State :=
  if s.on (fHomed sa n) then
    (((s.stepMode sa n 5).zero (fArrived sa n)).zero (fGo sa n)).stepRequest sa n .park
  else s.stepHold sa n

/-- FOLLOW (R211): nothing new for a stepper that follows. -/
def State.stepFollow (s : State) (sa : Bool) (n : Nat) : State :=
  if s.get (fMode sa n) = 3 ∧ (s.stepper sa n).plan = none then s
  else ((s.zero (fGo sa n)).stepMode sa n 3).stepRequest sa n .follow

/-- HOME (R213). -/
def State.stepHome (s : State) (sa : Bool) (n : Nat) : State :=
  ((s.stepMode sa n 4).zero (fGo sa n)).stepRequest sa n .home

/-- Parking without microcode on entry to `PARKING` or `BAY_CURFEW` (R214): the sled parks, the SA lens holds. -/
def State.stepParkAll (s : State) (n : Nat) : State := (s.stepPark false n).stepHold true n

end Sys2Proof.Machine
end

