-- ==== Sys2Proof/Machine/Journal.lean ====
section
/-!
DEFINITION. The write-intent journal (R308 to R310), write-strategy frames and the end of a gate run (R70, R102, R301),
relocation queues (R304) and defect-list staging (R305).
-/

namespace Sys2Proof.Machine

/-- Change the writing, reading, calibration, disc or scheduler part of a bay's hidden state. -/
def State.onWrite (s : State) (n : Nat) (f : WriteS → WriteS) : State := s.setBay n { s.bay n with writing := f (s.bay n).writing }
@[inherit_doc State.onWrite] def State.onRead (s : State) (n : Nat) (f : ReadS → ReadS) : State :=
  s.setBay n { s.bay n with reading := f (s.bay n).reading }
@[inherit_doc State.onWrite] def State.onCal (s : State) (n : Nat) (f : CalS → CalS) : State :=
  s.setBay n { s.bay n with cal := f (s.bay n).cal }
@[inherit_doc State.onWrite] def State.onDisc (s : State) (n : Nat) (f : DiscS → DiscS) : State :=
  s.setBay n { s.bay n with disc := f (s.bay n).disc }
@[inherit_doc State.onWrite] def State.onSched (s : State) (n : Nat) (f : Sched → Sched) : State :=
  s.setBay n { s.bay n with sched := f (s.bay n).sched }

/-! ## The journal (R308, R309) -/

/-- The 32 bytes of an entry (R308). -/
def JEntry.bytes (e : JEntry) : List Byte :=
  bytesLE 16 e.disc ++ bytesLE 4 e.psa ++ bytesLE 4 e.home ++ bytesLE 1 e.count ++ bytesLE 1 e.state ++ bytesLE 1 e.kind ++
  bytesLE 1 e.reason ++ bytesLE 1 e.tag ++ bytesLE 3 e.seq

/-- An entry read from its 32 bytes; `none` where it is FREE. -/
def JEntry.ofBytes (l : List Byte) : Option JEntry :=
  let f := fun (o k : Nat) => ofBytesLE ((l.drop o).take k)
  if f 25 1 % 4 = 0 then none
  else some ⟨f 0 16, f 16 4, f 20 4, f 24 1, f 25 1, f 26 1, f 27 1, f 28 1, f 29 3, false⟩

/-- The 32 zero bytes of a FREE entry. -/
def freeEntry : List Byte := List.replicate 32 0

/-- Show the journal in `WJ_STAT` and `WJ_STALE` (R317, R318). -/
def State.showJournal (s : State) (n : Nat) : State :=
  let j := (s.bay n).writing.journal
  let stale := j.filter fun e => e.2.stale
  let mask := stale.foldl (fun m e => m + 2 ^ (e.1 % 64)) 0
  ((((s.put (R.WJ_STAT.LIVE n) (j.length - stale.length)).put (R.WJ_STAT.STALE n) stale.length).put (R.WJ_STAT.FREE n)
    (64 - j.length)).put (R.WJ_STALE_LO.STALE n) (mask % 2 ^ 32)).put (R.WJ_STALE_HI.STALE n) (mask / 2 ^ 32)

/-- Write entry `i` of the bay's journal, in the bank and in the controller's view: one 32-byte write (R308). -/
def State.putEntry (s : State) (n i : Nat) (e : Option JEntry) : State :=
  let s1 := s.lugWrite (2048 * n + 32 * i) (match e with | some e => e.bytes | none => freeEntry)
  (s1.onWrite n fun w => { w with journal := match e with | some e => w.journal.put i e | none => w.journal.erase i }).showJournal n

/-- The lowest FREE entry. -/
def State.freeEntryIndex (s : State) (n : Nat) : Option Nat :=
  (List.range 64).find? fun i => !(s.bay n).writing.journal.has i

/-- Create an entry (R309): its SEQ is the bay's creation counter. -/
def State.createEntry (s : State) (n : Nat) (psa home count kind reason tag : Nat) : Option (Nat × State) :=
  (s.freeEntryIndex n).map fun i =>
    let q := (s.bay n).writing.jseq
    let d := match (s.bay n).disc.info with | some d => d.discId | none => 0
    (i, (s.putEntry n i (some ⟨d, psa, home, count, 1, kind, reason, tag, q, false⟩)).onWrite n fun w =>
      { w with jseq := (q + 1) % 2 ^ 24 })

/-- Move entry `i` to a state, or retire it to FREE (R309); a stale entry is never advanced (R310). -/
def State.advanceEntry (s : State) (n i st : Nat) : State :=
  match s.jEntry n i with
  | some e => if e.stale then s else s.putEntry n i (if st = 0 then none else some { e with state := st })
  | none => s

/-- Entries of the bay's journal that are not FREE become stale (R310), for the cause at a place of R310's list; `keep`
leaves entries in COMMIT_WAIT live (R564). -/
def State.staleJournalBut (s : State) (n cause : Nat) (keep : Bool) : State :=
  let j := (s.bay n).writing.journal
  let hit := fun (e : Nat × JEntry) => !e.2.stale && !(keep && e.2.state == 3)
  let mask := (j.filter hit).foldl (fun m e => m + 2 ^ (e.1 % 64)) 0
  let s1 := (s.onWrite n fun w => { w with journal := j.map fun e => if hit e then (e.1, { e.2 with stale := true }) else e }).showJournal n
  if mask = 0 then s1 else s1.recordBay n 0x0A07 [(Config.code 310 cause).toNat, mask]

/-- The same for every entry. -/
def State.staleJournal (s : State) (n cause : Nat) : State := s.staleJournalBut n cause false

/-! ## WSTRAT frames (R70) -/

/-- Four records to a block. -/
def recordBlocks : Nat → List Nat → List (BitVec 64)
  | 0, _ => []
  | _, [] => []
  | k + 1, l => BitVec.ofNat 64 (l.getD 0 0 + 2 ^ 16 * l.getD 1 0 + 2 ^ 32 * l.getD 2 0 + 2 ^ 48 * l.getD 3 0) ::
      recordBlocks k (l.drop 4)

/-- Send records in WSTRAT frames of at most 32 blocks (R64); `head` is the launch block of a FIRST frame. -/
def State.sendRecords (s : State) (n : Nat) (frac : Nat) (head : Option (BitVec 64)) (last : Bool) : Nat → List Nat → State
  | 0, _ => s
  | k + 1, l =>
    let room := if head.isSome then 124 else 128
    let now := l.take room
    let rest := l.drop room
    let blocks := head.toList ++ recordBlocks 32 now
    let fin := rest.isEmpty
    if blocks.isEmpty then s
    else
      let s1 := s.send n 0x11 (b2n head.isSome * 2 ^ 15 + b2n (fin && last) * 2 ^ 14 + (if head.isSome then frac % 64 else 0)) blocks
      if fin then s1 else s1.sendRecords n frac none last k rest

/-! ## Relocation (R301, R304) -/

/-- Show the parity buffers, queued copies and staged records in `WR_STAT` (R315). -/
def State.showWrite (s : State) (n : Nat) : State :=
  let w := (s.bay n).writing
  let pend := w.reloc.length + (w.run.filter fun x => x.kind == 2 && x.phase != .durable).length
  ((s.put (R.WR_STAT.OPEN n) w.parity.length).put (R.WR_STAT.RELOC_PEND n) (min 255 pend)).put (R.WR_STAT.DL_STAGED n)
    (min 255 w.staged.length)

/-- Queue the sector in a slot for relocation with a reason (R301, R302, R304): the copy keeps the home slot.  Lead-in
structures and test writes are not relocated (R49). -/
def State.queueReloc (s : State) (n : Nat) (x : WSector) (reason : Nat) : State :=
  let copy := { x with psa := noPsa, kind := 2, reason := reason, tested := false, vcrit := false, redo := 0, phase := .waiting }
  let s1 := s.onWrite n fun w => { w with
    run := w.run.map (fun y => if y.psa = x.psa then { y with phase := .failed } else y),
    reloc := if x.kind = 3 ∨ x.kind = 4 then w.reloc else w.reloc ++ [copy] }
  (if reason = 4 then s1.count (R.WR_RELOC.ABORT n) 1 else s1).showWrite n

/-- When the last gate run of an entry's slots ends, the entry becomes WRITTEN; a KIND 4 entry becomes FREE (R309). -/
def State.entryWritten (s : State) (n i : Nat) : State :=
  if (s.bay n).writing.run.any fun y => y.entry == i && (y.phase == .waiting || y.phase == .committed) then s
  else match s.jEntry n i with
    | some e => s.advanceEntry n i (if e.kind = 4 then 0 else 2)
    | none => s

/-- An extent is known to be closed (R47). -/
def State.markClosed (s : State) (n x : Nat) : State :=
  s.onDisc n fun d => { d with closed := if d.closed.contains x then d.closed else x :: d.closed }

/-- A gate run has ended (R316, R309): one of a parity slot closes its extent (R47). -/
def State.gateEnded (s : State) (n psa : Nat) : State :=
  let s1 := (s.count (R.WR_SECT.COUNT n) 1).onWrite n fun w => { w with
    gate := none,
    run := w.run.map (fun y => if y.psa = psa ∧ y.phase = .committed then { y with phase := .written } else y) }
  match (s1.bay n).writing.run.find? fun y => y.psa == psa with
  | some x =>
    let s0 := match extentPos x.psa with | some (e, p) => if 56 ≤ p then s1.markClosed n e else s1 | none => s1
    let s2 := s0.entryWritten n x.entry
    if x.kind = 2 then s2.count (R.WR_RELOC.RELOC n) 1 else s2
  | none => s1

/-- Whether a launched gate run is in progress. -/
def State.gateRunning (s : State) (n : Nat) : Bool := (s.bay n).writing.gate.isSome

/-- End the gate run in progress in the form R102 gives for a second miss: a LAST frame that holds one READ record of
DUR 32; its slot is written and unusable, and its sector is relocated with a reason (R301). -/
def State.endGateRun (s : State) (n reason : Nat) : State :=
  match (s.bay n).writing.gate with
  | none => s
  | some g =>
    let s1 := (s.sendRecords n 0 none true 1 [3 * 2 ^ 14 + 32]).gateEnded n g.psa
    match (s1.bay n).writing.run.find? fun y => y.psa == g.psa with
    | some x => s1.queueReloc n x reason
    | none => s1

/-- A gate run stopped with the laser (R82, R312): its slot stays as it stands. -/
def State.stopGateRun (s : State) (n : Nat) : State := s.onWrite n fun w => { w with gate := none }

/-- An entry none of whose slots is left in the run becomes FREE: every slot is durable or has a KIND 2 entry (R309). -/
def State.entryDone (s : State) (n i : Nat) : State :=
  if (s.bay n).writing.run.any fun y => y.entry == i then s
  else match s.jEntry n i with
    | some e => if e.state = 3 then s else s.advanceEntry n i 0
    | none => s

/-- Take a sector out of the run. -/
def State.dropSector (s : State) (n : Nat) (x : WSector) : State :=
  (s.onWrite n fun w => { w with run := w.run.filter fun y => !(y.psa == x.psa && y.home == x.home) }).entryDone n x.entry

/-! ## Reads under way -/

/-- Abandon the sectors being framed (R100, R232): each counts in `ABANDON` of its beam. -/
def State.abandonReads (s : State) (n : Nat) : State :=
  let open_ := (s.bay n).reading.frames.flatMap fun f => if f.started then f.members.filter fun m => !m.framed else []
  let s1 := open_.foldl (fun s m => s.count (R.RC_MISC_CNT.ABANDON n m.beam) 1) s
  (s1.onRead n fun r => { r with raw := none, frames := r.frames.filter fun f => f.started && f.members.all (·.framed) }).zero (R.RC_STAT.FRAMING n)

/-- The entry in force for the head's position: the held one where it is of (layer, zone). -/
def State.heldEntry (s : State) (n idx : Nat) : List Byte :=
  match (s.bay n).reading.held with
  | some (i, e, _) => if i = idx then e else []
  | none => []

end Sys2Proof.Machine
end

