-- ==== Sys2Proof/Machine/Memory.lean ====
section
/-!
DEFINITION. Controller memory (R445 to R462): the address space, DRAM channels and their correction code, the system cache
with its eviction buffer, scratch slots, and the accesses that sequencers (allocating) and DMA channels (streaming) make.
`State.dram` is what a coherent access sees; a dirty cache sector remembers the bytes that the DRAM array still holds.
-/

namespace Sys2Proof.Machine

/-- Change memory's hidden state. -/
def State.onMem (s : State) (f : MemS → MemS) : State := { s with mem := f s.mem }

/-! ## Channel states (R473) -/
namespace CH
/-- R473. -/ def UNUSED : Nat := 0
/-- R473. -/ def TRAINING : Nat := 1
/-- R473. -/ def FILLING : Nat := 2
/-- R473. -/ def READY : Nat := 3
/-- R473. -/ def FAILED : Nat := 4
/-- R473. -/ def RETIRING : Nat := 5
/-- R473. -/ def RETIRED : Nat := 6
/-- R473. -/ def RETAINED : Nat := 7
end CH

/-- A channel's power domain (R29). -/
def dramDomain (ch : Nat) : Nat := 153 + ch
/-- A way's power domain (R29). -/
def wayDomain (w : Nat) : Nat := 132 + w

/-- State of a domain: 0 `OFF`, 1 `RETAIN`, 2 `ON` (R578). -/
def State.domain (s : State) (d : Nat) : Nat := s.get (R.PWR_STAT.STATE d)

/-- Whether the unit is in `CURFEW` or `SHUTDOWN`. -/
def State.curfewOrShutdown (s : State) : Bool := s.get R.MODE_STAT.MODE == 4 || s.get R.MODE_STAT.MODE == 5

/-- Installed size in bytes from a channel's configuration (R446): ranks × 16 × density. -/
def State.cfgGiB (s : State) (ch : Nat) : Nat := s.get (R.DRAM_CFG.RANKS ch) * (32 + 16 * s.get (R.DRAM_CFG.DENS ch))

/-- SIZE of a channel in bytes. -/
def State.chanSize (s : State) (ch : Nat) : Nat := 2 ^ 30 * s.get (R.DRAM_STAT.SIZE ch)

/-- First address of scratch slot `k`. -/
def scratchBase (k : Nat) : Nat := 2 ^ 40 + k * 0x800000

/-- Whether an address is mapped (R445). -/
def State.mapped (s : State) (a : Nat) : Bool :=
  if a < 2 ^ 40 then s.get (R.DRAM_STAT.STATE (a / 2 ^ 37)) == CH.READY && decide (a % 2 ^ 37 < s.chanSize (a / 2 ^ 37))
  else
    let k := (a - 2 ^ 40) / 0x800000
    decide (a < 2 ^ 41) && decide (k < 8) && s.on (R.CACHE_SCRATCH.READY k) && decide ((a - 2 ^ 40) % 0x800000 < 0x600000)

/-- Whether accesses to an address are held, its channel being in `RETAIN` (R447). -/
def State.memHeld (s : State) (a : Nat) : Bool :=
  decide (a < 2 ^ 40) && s.get (R.DRAM_STAT.STATE (a / 2 ^ 37)) == CH.READY && s.domain (dramDomain (a / 2 ^ 37)) == 1

/-- The rank of an address (R445). -/
def State.rankOf (s : State) (a : Nat) : Nat :=
  let ch := a / 2 ^ 37
  if s.get (R.DRAM_CFG.RANKS ch) = 2 ∧ s.chanSize ch ≤ 2 * (a % 2 ^ 37) then 1 else 0

/-- The 64-byte bursts that `k` bytes from `a` touch. -/
def burstsOf (a k : Nat) : List Nat := (List.range ((a % 64 + k + 63) / 64)).map fun i => a / 64 + i

/-! ## What the checkers report (R449 to R451, R459) -/

/-- A corrected read (R450). -/
def State.memCorrected (s : State) (a dev : Nat) : State :=
  let ch := a / 2 ^ 37 % 8
  let s1 := ((((s.count (R.DRAM_ECC.CORR ch) 1).raise (R.DRAM_DEV.VALID ch)).put (R.DRAM_DEV.SUB ch) (a / 64 % 2)).put
    (R.DRAM_DEV.RANK ch) (s.rankOf a)).put (R.DRAM_DEV.DEV ch) dev
  let now := s1.cycle / 10 ^ 9
  let (sec, n, done) := Sparse.get (now, 0, false) s1.mem.rate ch
  let (n, done) := if sec = now then (n + 1, done) else (1, false)
  let s2 := s1.onMem fun m => { m with rate := m.rate.put ch (now, n, done || decide (1024 < n)) }
  if 1024 < n ∧ !done then s2.record srcMem 0x0F04 [ch, n, dev] else s2

/-- An uncorrectable read (R451). -/
def State.memUncorr (s : State) (a id : Nat) : State :=
  let ch := a / 2 ^ 37 % 8
  let s1 := if a < 2 ^ 40 then s.count (R.DRAM_ECC.UNCORR ch) 1 else s
  s1.record srcMem 0x0F02 [a, s1.rankOf a, a / 64 % 2, id]

/-- The line that holds a burst, in the cache. -/
def State.lineOf (s : State) (b : Nat) : Option CacheLine := (s.mem.lines.find? fun e => e.1 == b / 4).map (·.2)

/-- Whether a burst's sector is valid in the cache. -/
def State.cached (s : State) (b : Nat) : Bool := match s.lineOf b with | some l => bitAt l.valid (b % 4) | none => false

/-- Whether a burst is dirty in the cache or waits in the eviction buffer. -/
def State.dirtyAt (s : State) (b : Nat) : Bool :=
  (match s.lineOf b with | some l => bitAt l.dirty (b % 4) | none => false) ||
    s.mem.evb.any fun e => e.1 == b / 4 && bitAt e.2.1 (b % 4)

/-- An array error that could not be corrected in the sector of a burst (R459): a clean sector is fetched again; a dirty one,
or scratch, is poisoned. -/
def State.cacheUncorr (s : State) (b : Nat) : State :=
  let s1 := s.count R.CACHE_ECC.UNCORR 1
  match s1.lineOf b with
  | some l =>
    if bitAt l.dirty (b % 4) then
      (s1.onMem fun m => { m with poison := b :: m.poison.filter (· != b) }).record srcMem 0x0F08 [64 * b, l.way]
    else s1.onMem fun m => { m with lines := m.lines.put (b / 4) { l with valid := setBit l.valid (b % 4) false } }
  | none =>
    if 2 ^ 34 ≤ b then
      (s1.onMem fun m => { m with poison := b :: m.poison.filter (· != b) }).record srcMem 0x0F08
        [64 * b, s1.get (R.CACHE_SCRATCH.WAY ((64 * b - 2 ^ 40) / 0x800000))]
    else s1

/-- Take what an access showed. -/
def State.memSeen (s : State) (o : MemSeen) : State :=
  let s1 := o.corrected.foldl (fun s e => s.memCorrected e.1 e.2) (s.count R.CACHE_ECC.CORR o.cacheCorr)
  let s2 := o.cacheBad.foldl (fun s a => s.cacheUncorr (a / 64)) s1
  s2.onMem fun m => { m with bad := (o.uncorr.map (· / 64)).filter (fun b => !m.bad.contains b) ++ m.bad }

/-! ## Eviction and write-back (R458, R460) -/

/-- Show the eviction buffer's fill (R480). -/
def State.evbShow (s : State) : State :=
  let k := s.mem.evb.length
  (s.put R.CACHE_EVB.FILL k).put R.CACHE_EVB.PEAK (max k (s.get R.CACHE_EVB.PEAK))

/-- Write back the oldest entry of the eviction buffer: its dirty sectors reach DRAM. -/
def State.evbDrain (s : State) : State :=
  match s.mem.evb with
  | [] => s
  | e :: r => ((s.onMem fun m => { m with evb := r }).count R.CACHE_WB.COUNT (popCount 4 e.2.1)).evbShow

/-- Put a dirty line into the eviction buffer, which drains first when full. -/
def State.evbPut (s : State) (line : Nat) (l : CacheLine) : State :=
  if l.dirty = 0 then s
  else
    let s1 := if 64 ≤ s.mem.evb.length then s.evbDrain else s
    (s1.onMem fun m => { m with evb := m.evb ++ [(line, l.dirty, l.under)] }).evbShow

/-- Move a line out of the cache. -/
def State.evict (s : State) (line : Nat) (l : CacheLine) : State :=
  (s.onMem fun m => { m with lines := m.lines.erase line }).evbPut line l

/-- The ways that serve the cache and are not being cleaned. -/
def State.openWays (s : State) : List Nat :=
  (List.range 16).filter fun w => bitAt (s.get R.CACHE_WAY_STAT.ACTIVE) w && !bitAt (s.get R.CACHE_WAY_STAT.CLEANING) w

/-- The lines of a set (R457). -/
def State.setLines (s : State) (line : Nat) : List (Nat × CacheLine) :=
  s.mem.lines.filter fun e => e.1 % 24576 == line % 24576

/-- A way for a new line: an open way empty in its set, else one that replacement chooses (open: DESIGN CHOICE, log entry 3), whose line
leaves. -/
def State.chooseWay (s : State) (line : Nat) : Nat × State :=
  let used := (s.setLines line).map (·.2.way)
  match s.openWays.find? fun w => !used.contains w with
  | some w => (w, s)
  | none =>
    let (x, s1) := s.fresh 4
    let w := s1.openWays.getD (x % max 1 s1.openWays.length) 0
    match (s1.setLines line).find? fun e => e.2.way == w with
    | some (j, l) => (w, s1.evict j l)
    | none => (w, s1)

/-- The bytes of the DRAM array under a burst at present. -/
def State.underBytes (s : State) (b : Nat) : List Byte := Sparse.bytes 0 s.dram 64 (64 * b)

/-- Make a sector dirty, keeping what the array holds. -/
def CacheLine.dirtied (l : CacheLine) (k : Nat) (under : List Byte) : CacheLine :=
  if bitAt l.dirty k then l else { l with dirty := setBit l.dirty k true, valid := setBit l.valid k true, under := l.under.put k under }

/-- One sector of an access on the allocating path: a hit, or a miss that allocates (R458). -/
def State.allocTouch (s : State) (wr : Bool) (b : Nat) : State :=
  if 2 ^ 34 ≤ b then s
  else
    let hit := s.cached b
    let s1 := s.count (if hit then R.CACHE_HIT.COUNT else R.CACHE_MISS.COUNT) 1
    let under := s1.underBytes b
    match s1.lineOf b with
    | some l =>
      let l1 := { l with valid := setBit l.valid (b % 4) true }
      s1.onMem fun m => { m with lines := m.lines.put (b / 4) (if wr then l1.dirtied (b % 4) under else l1) }
    | none =>
      let (w, s2) := s1.chooseWay (b / 4)
      let l1 : CacheLine := ⟨w, 2 ^ (b % 4), 0, []⟩
      s2.onMem fun m => { m with lines := m.lines.put (b / 4) (if wr then l1.dirtied (b % 4) under else l1) }

/-- One sector of an access on the streaming path: a write that hits makes the sector dirty; a miss allocates nothing. -/
def State.streamTouch (s : State) (wr : Bool) (b : Nat) : State :=
  if 2 ^ 34 ≤ b then s
  else
    let hit := s.cached b
    let s1 := s.count (if hit then R.CACHE_HIT.COUNT else R.CACHE_MISS.COUNT) 1
    match s1.lineOf b with
    | some l => if hit && wr then
        s1.onMem fun m => { m with lines := m.lines.put (b / 4) (l.dirtied (b % 4) (s1.underBytes b)) }
      else s1
    | none => s1

/-! ## Accesses -/

/-- How a memory access ends. -/
inductive MemAns where
  | done (data : List Byte)
  | uncorr (addr : Nat)
  | unmapped (addr : Nat)
  | held (ch : Nat)
  deriving DecidableEq, Repr

/-- An access to an unmapped address is recorded (R445). -/
def State.memUnmapped (s : State) (a id : Nat) : State := s.record srcMem 0x0F03 [a, id]

/-- A held access: HELD and one record for each period of holding (R447). -/
def State.memHold (s : State) (ch id : Nat) : State :=
  if s.on (R.DRAM_STAT.HELD ch) then s else (s.raise (R.DRAM_STAT.HELD ch)).record srcMem 0x0F05 [ch, id]

/-- Whether a burst cannot be read. -/
def State.burstBad (s : State) (b : Nat) : Bool := s.mem.poison.contains b || (s.mem.bad.contains b && !s.cached b)

/-- Read `k` bytes at `a` for a requester; `alloc` selects the allocating path. -/
def State.memRead (s : State) (alloc : Bool) (id a k : Nat) (o : MemSeen) : MemAns × State :=
  let bs := burstsOf a k
  match bs.find? fun b => s.memHeld (64 * b) with
  | some b => (.held (b / 2 ^ 31), s.memHold (b / 2 ^ 31) id)
  | none =>
    match bs.find? fun b => !s.mapped (64 * b) with
    | some b => (.unmapped (64 * b), s.memUnmapped (64 * b) id)
    | none =>
      let s0 := s.memSeen o
      match bs.find? s0.burstBad with
      | some b => (.uncorr (64 * b), s0.memUncorr (64 * b) id)
      | none => (.done (Sparse.bytes 0 s0.dram k a), bs.foldl (fun s b => if alloc then s.allocTouch false b else s.streamTouch false b) s0)

/-- Write bytes at `a`: bursts written whole take new check bits; a partial write of a bad burst is not made (R451). -/
def State.memWrite (s : State) (alloc : Bool) (id a : Nat) (l : List Byte) (o : MemSeen) : MemAns × State :=
  let bs := burstsOf a l.length
  match bs.find? fun b => s.memHeld (64 * b) with
  | some b => (.held (b / 2 ^ 31), s.memHold (b / 2 ^ 31) id)
  | none =>
    match bs.find? fun b => !s.mapped (64 * b) with
    | some b => (.unmapped (64 * b), s.memUnmapped (64 * b) id)
    | none =>
      let s0 := s.memSeen o
      let whole := fun (b : Nat) => decide (a ≤ 64 * b) && decide (64 * b + 64 ≤ a + l.length)
      let lost := bs.filter fun b => s0.burstBad b && !whole b
      let s1 := (bs.filter fun b => !lost.contains b).foldl (fun s b => if alloc then s.allocTouch true b else s.streamTouch true b) s0
      let s2 := s1.onMem fun m => { m with bad := m.bad.filter (fun b => !(bs.contains b && whole b)), poison := m.poison.filter fun b => !(bs.contains b && whole b) }
      let s3 := { s2 with dram := (l.zipIdx).foldl (fun d x => if lost.contains ((a + x.2) / 64) then d else Sparse.putNorm 0 d (a + x.2) x.1) s2.dram }
      match lost with
      | [] => (.done [], s3)
      | b :: _ => (.uncorr (64 * b), s3.memUncorr (64 * b) id)

/-- Forget lines and eviction-buffer entries of an address range without writing them back (R456): DRAM keeps what its
array held. -/
def State.cacheForget (s : State) (lo hi : Nat) : State :=
  let inR := fun (line : Nat) => decide (lo ≤ 256 * line) && decide (256 * line < hi)
  let back := fun (d : List Host.Cell) (line : Nat) (u : Sparse (List Byte)) =>
    u.foldl (fun d e => Sparse.putAll 0 d (256 * line + 64 * e.1) e.2) d
  let gone := s.mem.lines.filter fun e => inR e.1
  let ev := s.mem.evb.filter fun e => inR e.1
  let d1 := gone.foldl (fun d e => back d e.1 e.2.under) s.dram
  let d2 := ev.foldr (fun e d => back d e.1 e.2.2) d1
  ({ s with dram := d2 }.onMem fun m => { m with lines := m.lines.filter (fun e => !inR e.1), evb := m.evb.filter fun e => !inR e.1 }).evbShow

/-- Erase the contents of an address range. -/
def State.memClear (s : State) (lo hi : Nat) : State :=
  { s with dram := Sparse.clear s.dram lo hi }.onMem fun m =>
    { m with bad := m.bad.filter (fun b => decide (64 * b < lo) || decide (hi ≤ 64 * b)),
             poison := m.poison.filter fun b => decide (64 * b < lo) || decide (hi ≤ 64 * b) }

/-! ## Training, fill, configuration, retirement (R447, R448, R453, R456, R472) -/

/-- Channel numbers. -/
def dramChannels : List Nat := List.range 8

/-- Set FILL_DONE where every present channel has ended (R447 step 5, R448). -/
def State.fillDone (s : State) : State :=
  let ok := fun (ch : Nat) => !s.on (R.DRAM_CFG.PRESENT ch) ||
    [CH.READY, CH.FAILED, CH.RETIRED].contains (s.get (R.DRAM_STAT.STATE ch))
  if dramChannels.all ok && dramChannels.any (fun ch => s.on (R.DRAM_CFG.PRESENT ch)) then s.raise R.DRAM_CTL.FILL_DONE else s

/-- TRAIN reads 1 until each masked channel has ended. -/
def State.trainShow (s : State) : State :=
  if dramChannels.any fun ch => s.get (R.DRAM_STAT.STATE ch) == CH.TRAINING || s.get (R.DRAM_STAT.STATE ch) == CH.FILLING then s
  else s.zero R.DRAM_CTL.TRAIN

/-- Begin training the masked channels, or refuse (R447 step 2); with RESUME, channels that are RETAINED resume (R448). -/
def State.trainGo (s : State) : State :=
  let sel := dramChannels.filter fun ch => bitAt (s.get R.DRAM_CTL.MASK) ch
  let bad := fun (ch : Nat) => !s.on (R.DRAM_CFG.PRESENT ch) || s.domain (dramDomain ch) != 2 ||
    !([CH.UNUSED, CH.FAILED, CH.RETIRED, CH.RETAINED].contains (s.get (R.DRAM_STAT.STATE ch)))
  if sel.any bad || s.curfewOrShutdown then s.raise R.DRAM_CTL.TRAIN_REJ
  else
    let resume := fun (ch : Nat) => s.on R.DRAM_CTL.RESUME && s.get (R.DRAM_STAT.STATE ch) == CH.RETAINED
    let s1 := s.onMem fun m => { m with resume := sel.filter resume }
    (sel.foldl (fun s ch => ((s.put (R.DRAM_STAT.STATE ch) CH.TRAINING).zero (R.DRAM_STAT.FAIL_STEP ch)).put (R.DRAM_STAT.SIZE ch) (s.cfgGiB ch))
      (s1.raise R.DRAM_CTL.TRAIN)).trainShow

/-- DRAM_TRAIN (R447). -/
def execDramTrain (s : State) : Host.Outcome State Fault Refusal := .next (s.trainGo)

/-- DRAM_RESUME (R448): TRAIN with RESUME set. -/
def execDramResume (s : State) : Host.Outcome State Fault Refusal := .next ((s.raise R.DRAM_CTL.RESUME).trainGo)

/-- DRAM_TRAIN_DONE (R447 step 4, R448): `failed` is the stage that failed, 0 for none; a channel that fails to resume reports
step 3. -/
def execDramTrainDone (ch failed : Nat) (s : State) : Host.Outcome State Fault Refusal :=
  if ch < 8 ∧ s.get (R.DRAM_STAT.STATE ch) = CH.TRAINING then
    let res := s.mem.resume.contains ch
    let s1 := s.onMem fun m => { m with resume := m.resume.filter (· != ch) }
    if failed = 0 then
      .next (if res then ((s1.put (R.DRAM_STAT.STATE ch) CH.READY).trainShow).fillDone else s1.put (R.DRAM_STAT.STATE ch) CH.FILLING)
    else
      let step := if res then 3 else clampNat 1 5 failed
      let s2 := (s1.put (R.DRAM_STAT.STATE ch) CH.FAILED).put (R.DRAM_STAT.FAIL_STEP ch) step
      .next (((s2.memClear (2 ^ 37 * ch) (2 ^ 37 * (ch + 1))).record srcMem 0x0F01 [ch, step]).trainShow).fillDone
  else .next s

/-- DRAM_FILL_DONE (R453): zeros everywhere, and the channel is READY. -/
def execDramFillDone (ch : Nat) (s : State) : Host.Outcome State Fault Refusal :=
  if ch < 8 ∧ s.get (R.DRAM_STAT.STATE ch) = CH.FILLING then
    .next (((((s.cacheForget (2 ^ 37 * ch) (2 ^ 37 * (ch + 1))).memClear (2 ^ 37 * ch) (2 ^ 37 * (ch + 1))).put (R.DRAM_STAT.STATE ch) CH.READY).trainShow).fillDone)
  else .next s

/-- DRAM_CFG_WRITE (R472): accepted while UNUSED, FAILED, RETIRED or RETAINED; a RETAINED channel becomes UNUSED. -/
def execDramCfgWrite (ch v : Nat) (s : State) : Host.Outcome State Fault Refusal :=
  if ch < 8 then
    if [CH.UNUSED, CH.FAILED, CH.RETIRED, CH.RETAINED].contains (s.get (R.DRAM_STAT.STATE ch)) then
      let r := bitsAt v 24 2
      let s1 := s.put (R.DRAM_CFG.PRESENT ch) (bitsAt v 31 1)
      let s2 := if r = 1 ∨ r = 2 then s1.put (R.DRAM_CFG.RANKS ch) r else s1
      let s3 := if bitsAt v 20 2 = 3 then s2 else s2.put (R.DRAM_CFG.DENS ch) (bitsAt v 20 2)
      let s4 := if bitsAt v 16 2 = 3 then s3 else s3.put (R.DRAM_CFG.RATE ch) (bitsAt v 16 2)
      .next (if s4.get (R.DRAM_STAT.STATE ch) = CH.RETAINED then s4.put (R.DRAM_STAT.STATE ch) CH.UNUSED else s4)
    else .next (s.raise (R.DRAM_STAT.CFG_REJ ch))
  else .next s

/-- Whether an address range lies, in part, on a channel. -/
def onChannel (ch lo hi : Nat) : Bool := decide (lo < 2 ^ 37 * (ch + 1)) && decide (2 ^ 37 * ch < hi)

/-- Base address of a Caddy region and bytes of its class (R464, R482). -/
def State.rgnBase (s : State) (r : Nat) : Nat := s.get (R.CADDY_RGN_BASE_LO.ADDR r) * 4096 + 2 ^ 32 * s.get (R.CADDY_RGN_BASE_HI.ADDR r)
@[inherit_doc State.rgnBase] def classBytes (c : Nat) : Nat := match c with | 0 => 4096 | 1 => 65536 | 2 => 2 ^ 20 | _ => 2 ^ 24
/-- The end of a region. -/
def State.rgnEnd (s : State) (r : Nat) : Nat := s.rgnBase r + s.get (R.CADDY_RGN_CFG.COUNT r) * classBytes (s.get (R.CADDY_RGN_CFG.CLASS r))

/-- Addresses of the scrub registers. -/
def State.scrubStart (s : State) : Nat := s.get R.SCRUB_START_LO.ADDR + 2 ^ 32 * s.get R.SCRUB_START_HI.ADDR
@[inherit_doc State.scrubStart] def State.scrubLast (s : State) : Nat := s.get R.SCRUB_LAST_LO.ADDR + 2 ^ 32 * s.get R.SCRUB_LAST_HI.ADDR

/-- Address of a bay's zone table (R233, R258). -/
def State.ztBase (s : State) (n : Nat) : Nat := 2 ^ 17 * s.get (R.RC_ZT_BASE_LO.ADDR n) + 2 ^ 32 * s.get (R.RC_ZT_BASE_HI.ADDR n)

/-- The first reason to refuse a retirement (R456), 0 for none. -/
def State.retireReason (s : State) (ch : Nat) : Nat :=
  if (List.range 16).any fun r => s.on (R.CADDY_RGN_CFG.EN r) && onChannel ch (s.rgnBase r) (s.rgnEnd r) then 1
  else if (List.range s.variant.bays).any fun n => s.on (R.RC_CTL.ZT_OK n) && onChannel ch (s.ztBase n) (s.ztBase n + 131072) then 2
  else if s.on R.SCRUB_CTL.GO && onChannel ch s.scrubStart (s.scrubLast + 64) then 3
  else if s.get (R.DRAM_STAT.STATE ch) ≠ CH.READY then 4
  else if (dramChannels.filter fun c => s.get (R.DRAM_STAT.STATE c) == CH.READY).length = 1 then 5
  else 0

/-- DRAM_RETIRE (R456): refused with a reason, or the channel is RETIRING and unmapped, its cache lines gone. -/
def execDramRetire (s : State) : Host.Outcome State Fault Refusal :=
  if s.on R.DRAM_RETIRE.GO then .next s
  else
    let ch := s.get R.DRAM_RETIRE.CHAN
    let r := s.retireReason ch
    if r ≠ 0 then .next ((s.raise R.DRAM_RETIRE.REJ).put R.DRAM_RETIRE.REASON r)
    else .next (((s.raise R.DRAM_RETIRE.GO).put (R.DRAM_STAT.STATE ch) CH.RETIRING).cacheForget (2 ^ 37 * ch) (2 ^ 37 * (ch + 1)))

/-- DRAM_RETIRE_DONE (R456): the domain is `OFF` and the channel RETIRED. -/
def execDramRetireDone (s : State) : Host.Outcome State Fault Refusal :=
  let ch := s.get R.DRAM_RETIRE.CHAN
  if s.on R.DRAM_RETIRE.GO ∧ s.get (R.DRAM_STAT.STATE ch) = CH.RETIRING then
    let d := dramDomain ch
    let s1 := ((s.put (R.PWR_STAT.STATE d) 0).put (R.PWR_REQ.REQ d) 0).put (R.PWR_STAT.RDY d) 0
    let s2 := s1.trace 3 srcPower 2 d 2 0
    .next ((((s2.zero R.DRAM_RETIRE.GO).put (R.DRAM_STAT.STATE ch) CH.RETIRED).memClear (2 ^ 37 * ch) (2 ^ 37 * (ch + 1))).record srcMem 0x0F07 [ch])
  else .next s

/-! ## Scrubbing (R454, R455) -/

/-- Write a 41-bit address to a LO/HI pair. -/
def State.putPair (s : State) (lo hi : Field) (v : Nat) : State := (s.put lo (v % 2 ^ 32)).put hi (v / 2 ^ 32)

/-- SCRUB_GO (R454, R455). -/
def execScrubGo (s : State) : Host.Outcome State Fault Refusal :=
  let a := s.scrubStart
  let b := s.scrubLast
  if a % 64 ≠ 0 ∨ b % 64 ≠ 0 ∨ 2 ^ 40 ≤ a ∨ 2 ^ 40 ≤ b ∨ b < a ∨ s.on R.SCRUB_CTL.GO ∨ s.curfewOrShutdown then .next (s.raise R.SCRUB_CTL.ERR)
  else
    let s1 := ((s.raise R.SCRUB_CTL.GO).zero R.SCRUB_CORR.COUNT).zero R.SCRUB_UNCORR.COUNT
    let s2 := (s1.putPair R.SCRUB_FIRST_UC_LO.ADDR R.SCRUB_FIRST_UC_HI.ADDR 0x1FFFFFFFFFF).putPair R.SCRUB_LAST_UC_LO.ADDR R.SCRUB_LAST_UC_HI.ADDR 0x1FFFFFFFFFF
    .next (((s2.putPair R.SCRUB_POS_LO.ADDR R.SCRUB_POS_HI.ADDR a).zero R.SCRUB_TIME.COUNT).onMem fun m => { m with scrubAt := s.cycle })

/-- End a pass: summary, record and vector (R454).  Causes: 0 the full range, 1 STOP, 2 `CURFEW` (DEDUCED, log entry 17). -/
def State.scrubEnd (s : State) (cause : Nat) : State :=
  if s.on R.SCRUB_CTL.GO then
    let s1 := (((s.zero R.SCRUB_CTL.GO).zero R.SCRUB_CTL.STOP).raise R.SCRUB_CTL.DONE).put R.SCRUB_TIME.COUNT (min (2 ^ 32 - 1) ((s.cycle - s.mem.scrubAt) / 1000))
    let s2 := s1.record srcMem 0x0F06 [(Config.code 454 cause).toNat, s1.get R.SCRUB_CORR.COUNT, s1.get R.SCRUB_UNCORR.COUNT]
    if s2.on R.SCRUB_CTL.VEC_EN then s2.signal (s2.get R.SCRUB_CTL.VECTOR) else s2
  else s

/-- What a pass has read up to `pos`: corrected bursts are written back, uncorrectable ones counted. -/
def State.scrubTake (s : State) (pos : Nat) (o : MemSeen) : State :=
  let lo := s.get R.SCRUB_POS_LO.ADDR + 2 ^ 32 * s.get R.SCRUB_POS_HI.ADDR
  let s1 := s.memSeen o
  let uc := s1.mem.bad.filter fun b => decide (lo ≤ 64 * b) && decide (64 * b < pos) && s1.mapped (64 * b)
  let s2 := uc.foldl (fun s b => let (id, t) := s.fresh 8; t.memUncorr (64 * b) id) s1
  let s3 := (s2.count R.SCRUB_CORR.COUNT o.corrected.length).count R.SCRUB_UNCORR.COUNT uc.length
  let hi := uc.foldl (fun m b => max m (64 * b)) 0
  let first := uc.foldl (fun m b => min m (64 * b)) (2 ^ 41)
  let s4 := if uc.isEmpty then s3 else
    let old := s3.get R.SCRUB_FIRST_UC_LO.ADDR + 2 ^ 32 * s3.get R.SCRUB_FIRST_UC_HI.ADDR
    (s3.putPair R.SCRUB_FIRST_UC_LO.ADDR R.SCRUB_FIRST_UC_HI.ADDR (min first old)).putPair R.SCRUB_LAST_UC_LO.ADDR R.SCRUB_LAST_UC_HI.ADDR hi
  s4.putPair R.SCRUB_POS_LO.ADDR R.SCRUB_POS_HI.ADDR pos

/-- SCRUB_STOP (R454): the pass ends before its next burst; how far it came, and what its checks showed, stand in the
operands. -/
def execScrubStop (pos : Nat) (o : MemSeen) (s : State) : Host.Outcome State Fault Refusal :=
  .next (if s.on R.SCRUB_CTL.GO then (s.scrubTake pos o).scrubEnd 1 else s)

/-- SCRUB_PASS_END (R454): the pass has read its last burst. -/
def execScrubPassEnd (o : MemSeen) (s : State) : Host.Outcome State Fault Refusal :=
  .next (if s.on R.SCRUB_CTL.GO then (s.scrubTake (s.scrubLast + 64) o).scrubEnd 0 else s)

/-! ## Cache ways and scratch slots (R461, R462) -/

/-- Scratch slot that uses a way, enabled. -/
def State.scratchOf (s : State) (w : Nat) : Option Nat :=
  (List.range 8).find? fun k => s.on (R.CACHE_SCRATCH.EN k) && s.get (R.CACHE_SCRATCH.WAY k) == w

/-- Whether a way is active and stays so. -/
def State.staysActive (s : State) (w : Nat) : Bool := s.openWays.contains w

/-- Begin cleaning a way (R461): no new allocations; dirty lines go to the eviction buffer. -/
def State.cleanWay (s : State) (w : Nat) : State :=
  if bitAt (s.get R.CACHE_WAY_STAT.ACTIVE) w then s.put R.CACHE_WAY_STAT.CLEANING (setBit (s.get R.CACHE_WAY_STAT.CLEANING) w true) else s

/-- A way returns to cache use, empty, once its domain is `ON` (R461). -/
def State.wayReturn (s : State) (w : Nat) : State :=
  if bitAt (s.get R.CACHE_WAY_EN.EN) w && (s.scratchOf w).isNone && s.domain (wayDomain w) == 2 && !bitAt (s.get R.CACHE_WAY_STAT.CLEANING) w then
    s.put R.CACHE_WAY_STAT.ACTIVE (setBit (s.get R.CACHE_WAY_STAT.ACTIVE) w true)
  else s

/-- Every line of a way leaves (R461 steps 2 and 3). -/
def State.wayLines (s : State) (w : Nat) : State :=
  (s.mem.lines.filter fun e => e.2.way == w).foldl (fun s e => s.evict e.1 e.2) s

/-- CACHE_WAY_DISABLE (R461): CACHE_WAY_EN is written with a mask; a change that leaves fewer than two ways is refused. -/
def execCacheWayDisable (mask : Nat) (s : State) : Host.Outcome State Fault Refusal :=
  let left := s.openWays.filter fun w => bitAt mask w
  let back := (List.range 16).filter fun w => bitAt mask w && !bitAt (s.get R.CACHE_WAY_EN.EN) w && (s.scratchOf w).isNone
  if left.length + back.length < 2 then .next (s.raise R.CACHE_WAY_EN.REJ)
  else
    let out := (List.range 16).filter fun w => !bitAt mask w && bitAt (s.get R.CACHE_WAY_EN.EN) w && (s.scratchOf w).isNone
    let s1 := out.foldl State.cleanWay (s.put R.CACHE_WAY_EN.EN mask)
    .next (back.foldl State.wayReturn s1)

/-- CACHE_WAY_CLEAN_DONE (R461, R462): the way's last line has left; ACTIVE clears.  A way whose bit was set again meanwhile
returns empty. -/
def execCacheWayCleanDone (w : Nat) (s : State) : Host.Outcome State Fault Refusal :=
  if w < 16 ∧ bitAt (s.get R.CACHE_WAY_STAT.CLEANING) w then
    let s1 := s.wayLines w
    let s2 := (s1.put R.CACHE_WAY_STAT.CLEANING (setBit (s1.get R.CACHE_WAY_STAT.CLEANING) w false)).put R.CACHE_WAY_STAT.ACTIVE
      (setBit (s1.get R.CACHE_WAY_STAT.ACTIVE) w false)
    .next (s2.wayReturn w)
  else .next s

/-- SCRATCH_ENABLE (R462): EN written as 1 with the way in WAY. -/
def execScratchEnable (k : Nat) (s : State) : Host.Outcome State Fault Refusal :=
  if k < 8 ∧ !s.on (R.CACHE_SCRATCH.EN k) then
    let w := s.get (R.CACHE_SCRATCH.WAY k)
    if (s.scratchOf w).isSome || decide ((s.openWays.filter (· != w)).length < 2) then .next (s.raise (R.CACHE_SCRATCH.REJ k))
    else .next ((s.raise (R.CACHE_SCRATCH.EN k)).cleanWay w)
  else .next s

/-- SCRATCH_FILL_DONE (R462): cleaned and filled with zeros, the slot is READY. -/
def execScratchFillDone (k : Nat) (s : State) : Host.Outcome State Fault Refusal :=
  if k < 8 ∧ s.on (R.CACHE_SCRATCH.EN k) ∧ !s.on (R.CACHE_SCRATCH.READY k) ∧ !bitAt (s.get R.CACHE_WAY_STAT.CLEANING) (s.get (R.CACHE_SCRATCH.WAY k)) then
    .next ((s.memClear (scratchBase k) (scratchBase k + 0x600000)).raise (R.CACHE_SCRATCH.READY k))
  else .next s

/-- SCRATCH_DISABLE (R462): refused while an enabled Caddy region lies in the slot; otherwise its contents go and the way
rejoins the cache. -/
def execScratchDisable (k : Nat) (s : State) : Host.Outcome State Fault Refusal :=
  if k < 8 ∧ s.on (R.CACHE_SCRATCH.EN k) then
    if (List.range 16).any fun r => s.on (R.CADDY_RGN_CFG.EN r) && decide (scratchBase k ≤ s.rgnBase r) && decide (s.rgnBase r < scratchBase k + 0x600000) then
      .next (s.raise (R.CACHE_SCRATCH.REJ k))
    else
      let s1 := ((s.zero (R.CACHE_SCRATCH.EN k)).zero (R.CACHE_SCRATCH.READY k)).memClear (scratchBase k) (scratchBase k + 0x600000)
      .next (s1.wayReturn (s.get (R.CACHE_SCRATCH.WAY k)))
  else .next s

/-! ## Maintenance operations (R460) -/

/-- Write back a line's dirty sectors in place. -/
def State.cleanLine (s : State) (line : Nat) (inv : Bool) : State :=
  match s.mem.lines.find? fun e => e.1 == line with
  | none => s
  | some (_, l) =>
    let s1 := s.count R.CACHE_WB.COUNT (popCount 4 l.dirty)
    s1.onMem fun m => { m with lines := if inv then m.lines.erase line else m.lines.put line { l with dirty := 0, under := [] } }

/-- ZERO_LINE: the line is valid, zero and dirty without a fetch; in scratch the 256 bytes are zeroed. -/
def State.zeroLine (s : State) (line : Nat) : State :=
  let s1 := (List.range 4).foldl (fun s k =>
    if 2 ^ 32 ≤ line then s
    else
      let b := 4 * line + k
      match s.lineOf b with
      | some l => s.onMem fun m => { m with lines := m.lines.put line (l.dirtied k (s.underBytes b)) }
      | none =>
        let (w, s2) := s.chooseWay line
        s2.onMem fun m => { m with lines := m.lines.put line (CacheLine.dirtied ⟨w, 0, 0, []⟩ k (s2.underBytes b)) }) s
  s1.memClear (256 * line) (256 * line + 256)

/-- A maintenance operation on a line's address; `none` where the address is not mapped. -/
def State.cacheOp (s : State) (op a : Nat) : Option State :=
  if !s.mapped a then none
  else if op = 2 then some (s.zeroLine (a / 256))
  else if 2 ^ 40 ≤ a then some s
  else some (s.cleanLine (a / 256) (op == 1))

/-- CACHE_OP's line address (R479). -/
def State.opAddr (s : State) : Nat := s.get R.CACHE_OP_ADDR_LO.ADDR * 256 + 2 ^ 32 * s.get R.CACHE_OP_ADDR_HI.ADDR

/-- CACHE_OP.GO with an operation: done at once, or ERR (R479). -/
def State.hostCacheOp (s : State) (op : Nat) : State :=
  match s.cacheOp op s.opAddr with
  | some t => t
  | none => s.raise R.CACHE_OP.ERR

/-- CACHE_CLEAN (R460). -/
def execCacheClean (s : State) : Host.Outcome State Fault Refusal := .next (s.hostCacheOp 0)

/-- CACHE_CLEAN_INV (R460). -/
def execCacheCleanInv (s : State) : Host.Outcome State Fault Refusal := .next (s.hostCacheOp 1)

/-- CACHE_ZERO_LINE (R460). -/
def execCacheZeroLine (s : State) : Host.Outcome State Fault Refusal := .next (s.hostCacheOp 2)

/-- EVICTION_WRITEBACK (R458): the oldest entry of the eviction buffer reaches DRAM. -/
def execEvictionWriteback (s : State) : Host.Outcome State Fault Refusal := .next s.evbDrain

end Sys2Proof.Machine
end

