-- ==== Sys2Proof/Machine/Caddy.lean ====
section
/-!
DEFINITION. The Caddy (R463 to R470, R481 to R483): regions, grants by class and quota, shared holdings, releases, and
reclaiming.
-/

namespace Sys2Proof.Machine

/-- Change the Caddy's hidden state. -/
def State.onCaddy (s : State) (f : Caddy → Caddy) : State := { s with caddy := f s.caddy }

/-! ## Requesters (R463) -/

/-- Requester of a sequencer, the stripe engine, the fixity unit, a fabric port, and Porter. -/
def idSeq (q : Nat) : Nat := 128 + q
@[inherit_doc idSeq] def idStripe : Nat := 160
@[inherit_doc idSeq] def idFxc : Nat := 161
@[inherit_doc idSeq] def idFab (p : Nat) : Nat := 162 + p
@[inherit_doc idSeq] def idPorter : Nat := 164

/-- The USERS bit of a requester (R482). -/
def userBit (id : Nat) : Nat :=
  if id < 128 then 0 else if id < 160 then 1 else if id = 160 ∨ id = 161 ∨ id = 164 then 2 else if id < 164 then 3 else 1

/-- A requester's quota in a class; 0xFF is no limit (R483). -/
def fQuota (c id : Nat) : Field :=
  match c with | 0 => R.CADDY_QUOTA.Q4K id | 1 => R.CADDY_QUOTA.Q64K id | 2 => R.CADDY_QUOTA.Q1M id | _ => R.CADDY_QUOTA.Q16M id
/-- Buffers charged to a requester in a class, saturating (R483). -/
def fHeld (c id : Nat) : Field :=
  match c with | 0 => R.CADDY_HELD.H4K id | 1 => R.CADDY_HELD.H64K id | 2 => R.CADDY_HELD.H1M id | _ => R.CADDY_HELD.H16M id

/-- Buffers charged to a requester in a class. -/
def State.charged (s : State) (c id : Nat) : Nat := (s.caddy.held.filter fun e => e.2.charged == id && e.2.cls == c).length

/-! ## Regions (R464) -/

/-- First tag and number of buffers of a region. -/
def State.rgnFirst (s : State) (r : Nat) : Nat := s.get (R.CADDY_RGN_TAG.FIRST r)
@[inherit_doc State.rgnFirst] def State.rgnCount (s : State) (r : Nat) : Nat := s.get (R.CADDY_RGN_CFG.COUNT r)
/-- Buffers of a region with holders. -/
def State.rgnHeld (s : State) (r : Nat) : Nat :=
  (s.caddy.held.filter fun e => decide (s.rgnFirst r ≤ e.1) && decide (e.1 < s.rgnFirst r + s.rgnCount r)).length

/-- The enabled region whose range holds an address. -/
def State.regionAt (s : State) (a : Nat) : Option Nat :=
  (List.range 16).find? fun r => s.on (R.CADDY_RGN_CFG.EN r) && decide (s.rgnBase r ≤ a) && decide (a < s.rgnEnd r)

/-- The enabled region that uses a tag. -/
def State.regionOfTag (s : State) (t : Nat) : Option Nat :=
  (List.range 16).find? fun r => s.on (R.CADDY_RGN_CFG.EN r) && decide (s.rgnFirst r ≤ t) && decide (t < s.rgnFirst r + s.rgnCount r)

/-- The tag of an address that begins a buffer of class `c`. -/
def State.tagAt (s : State) (c a : Nat) : Option Nat :=
  match s.regionAt a with
  | none => none
  | some r =>
    if s.get (R.CADDY_RGN_CFG.CLASS r) = c ∧ (a - s.rgnBase r) % classBytes c = 0 then some (s.rgnFirst r + (a - s.rgnBase r) / classBytes c)
    else none

/-- The address of a tag's buffer. -/
def State.ptrOf (s : State) (t : Nat) : Nat :=
  match s.regionOfTag t with
  | some r => s.rgnBase r + (t - s.rgnFirst r) * classBytes (s.get (R.CADDY_RGN_CFG.CLASS r))
  | none => 0

/-- Show FREE and HELD of every enabled region and WAITING. -/
def State.caddyShow (s : State) : State :=
  ((List.range 16).foldl (fun s r =>
    if s.on (R.CADDY_RGN_CFG.EN r) then (s.put (R.CADDY_RGN_HELD.HELD r) (s.rgnHeld r)).put (R.CADDY_RGN_FREE.FREE r) (s.rgnCount r - s.rgnHeld r)
    else s) s).put R.CADDY_STAT.WAITING (min 65535 s.caddy.waiting.length)

/-- Show what a requester is charged with in a class. -/
def State.chargeShow (s : State) (c id : Nat) : State := s.put (fHeld c id) (min 255 (s.charged c id))

/-! ## Grants (R465) -/

/-- The region a grant comes from: the most free buffers, the lowest number on a tie. -/
def State.bestRegion (s : State) (c id : Nat) : Option Nat :=
  ((List.range 16).foldl (fun (best : Option (Nat × Nat)) r =>
    if s.on (R.CADDY_RGN_CFG.EN r) && !s.on (R.CADDY_RGN_CFG.FENCE r) && s.get (R.CADDY_RGN_CFG.CLASS r) == c
        && bitAt (s.get (R.CADDY_RGN_CFG.USERS r)) (userBit id) then
      let k := s.rgnCount r - s.rgnHeld r
      match best with
      | some (_, m) => if m < k then some (r, k) else best
      | none => if 0 < k then some (r, k) else none
    else best) none).map (·.1)

/-- Take a region's free buffer most recently freed; those never freed count in ascending order after them. -/
def State.takeBuffer (s : State) (r : Nat) : Nat × State :=
  match Sparse.get [] s.caddy.freed r with
  | t :: rest => (t, s.onCaddy fun c => { c with freed := c.freed.put r rest })
  | [] =>
    let k := Sparse.get 0 s.caddy.next r
    (s.rgnFirst r + k, s.onCaddy fun c => { c with next := c.next.put r (k + 1) })

/-- Whether a requester belongs to an absent bay, stripe engine or fabric port, which is granted no buffer (R8). -/
def State.idAbsent (s : State) (id : Nat) : Bool :=
  if id < 128 then !s.bayPresent id else if id = idStripe then !s.variant.stripe
  else (id == 162 || id == 163) && !s.variant.fabric

/-- Grant a buffer: its pointer, where one may be granted now. -/
def State.caddyGrant (s : State) (id c : Nat) : Option (Nat × State) :=
  let q := s.get (fQuota c id)
  if !s.on R.CADDY_CTL.EN || s.idAbsent id || (q != 255 && decide (q ≤ s.charged c id)) then none
  else match s.bestRegion c id with
    | none => none
    | some r =>
      let (t, s1) := s.takeBuffer r
      some (s1.ptrOf t, ((s1.onCaddy fun k => { k with held := k.held.put t ⟨[id], id, c⟩ }).chargeShow c id).caddyShow)

/-- The response word of R466. -/
def caddyWord (result holders ptr : Nat) : Nat := 2 ^ 56 * result + 2 ^ 52 * holders + ptr % 2 ^ 41

/-! ## Recovery requests (R271) -/

/-- Whether a rung has a request to make: a capture in its buffer, or the combined decode of step 4. -/
def Rung.asks (g : Rung) : Bool := !g.queued && !g.running && ((g.capture.isSome && g.capPtr.isSome) || g.step == 4)

/-- Queue the requests of a bay while fewer than 8 are queued; a request queued goes behind those queued before. -/
def queueRungs : Nat → List Rung → List Rung
  | 0, l => l
  | k + 1, l =>
    if 8 ≤ (l.filter (·.queued)).length then l
    else match l.find? (·.asks) with
      | none => l
      | some g => queueRungs k (l.filter (fun h => !(h.tag == g.tag && h.item == g.item)) ++ [{ g with queued := true }])

/-- Queue what can be queued and show the bay's share and ladder (R290). -/
def State.pumpRungs (s : State) (n : Nat) : State :=
  let s1 := s.onRead n fun r => { r with ladder := queueRungs 8 r.ladder }
  let l := (s1.bay n).reading.ladder
  (s1.put (R.DEC_RQ.QUEUED n) (l.filter (·.queued)).length).put (R.DEC_RQ.LADDER n) (min 255 l.length)

/-- Deliver a granted buffer to what asked for it. -/
def State.caddyDeliver (s : State) (id ptr : Nat) : CaddyUse → State
  | .port => s.onCaddy fun c => { c with answers := (id, caddyWord 0 1 ptr) :: c.answers }
  | .capture n psa => (s.onRead n fun r => { r with ladder := r.ladder.map fun g =>
      if g.psa = psa ∧ g.capPtr = none then { g with capPtr := some ptr } else g }).pumpRungs n
  | .parity n x =>
    let d := match (s.bay n).disc.info with | some i => i.discId | none => 0
    (s.onWrite n fun w => { w with parity := w.parity ++ [⟨d, x, 0, List.replicate 33024 0, ptr⟩] }).showWrite n
  | .defects n => s.onDisc n fun d => { d with dlBufs := d.dlBufs ++ [ptr] }
  | .seq q => s.onSeq q fun x => { x with cpAns := some (some (caddyWord 0 1 ptr)) }

/-- Serve the requests that wait, in arrival order; one that cannot be granted does not hold back the others. -/
def State.caddyServe (s : State) : State :=
  (s.caddy.waiting.foldl (fun s w =>
    match s.caddyGrant w.1 w.2.1 with
    | some (ptr, t) => (t.onCaddy fun c => { c with waiting := c.waiting.erase w }).caddyDeliver w.1 ptr w.2.2
    | none => s) s).caddyShow

/-- A REQUEST (R465): granted at once or queued. -/
def State.caddyRequest (s : State) (id c : Nat) (u : CaddyUse) : State :=
  (s.onCaddy fun k => { k with waiting := k.waiting ++ [(id, c, u)] }).caddyServe

/-- Withdraw a request that waits. -/
def State.caddyCancel (s : State) (u : CaddyUse) : State :=
  (s.onCaddy fun k => { k with waiting := k.waiting.filter fun w => w.2.2 != u }).caddyShow

/-! ## Shares and releases (R467, R468) -/

/-- Remove a holder of a buffer; the last one frees it. -/
def State.dropHolder (s : State) (t id : Nat) : State :=
  match s.caddy.held.find? fun e => e.1 == t with
  | none => s
  | some (_, h) =>
    let rest := h.holders.filter (· != id)
    if rest.isEmpty then
      let r := (s.regionOfTag t).getD 0
      ((s.onCaddy fun c => { c with held := c.held.erase t, freed := c.freed.put r (t :: Sparse.get [] c.freed r) }).chargeShow h.cls h.charged).caddyShow
    else s.onCaddy fun c => { c with held := c.held.put t { h with holders := rest } }

/-- The holders of a buffer as ledger bytes, the unused ones 0xFF. -/
def holderWord (l : List Nat) : Nat := (List.range 8).foldl (fun v k => v + l.getD k 255 * 256 ^ k) 0

/-- A rejected operation (R468): counted and recorded. -/
def State.caddyReject (s : State) (id ptr : Nat) (holders : List Nat) : State :=
  (s.count (R.CADDY_FAULT.COUNT id) 1).record srcCaddy 0x0F09 [id, ptr, holderWord holders]

/-- A RELEASE: its result, the holders left, and the state. -/
def State.caddyRelease (s : State) (id c ptr : Nat) : Nat × Nat × State :=
  match s.tagAt c ptr with
  | none => (0x10, 0, s.caddyReject id ptr [])
  | some t =>
    let h := match s.caddy.held.find? fun e => e.1 == t with | some (_, h) => h.holders | none => []
    if h.contains id then (0, h.length - 1, (s.dropHolder t id).caddyServe) else (0x11, h.length, s.caddyReject id ptr h)

/-- A SHARE by a holder. -/
def State.caddyShare (s : State) (id new c ptr : Nat) : Nat × Nat × State :=
  match s.tagAt c ptr with
  | none => (0x10, 0, s.caddyReject id ptr [])
  | some t =>
    match s.caddy.held.find? fun e => e.1 == t with
    | none => (0x11, 0, s.caddyReject id ptr [])
    | some (_, h) =>
      if !h.holders.contains id then (0x11, h.holders.length, s.caddyReject id ptr h.holders)
      else if h.holders.contains new then (0x20, h.holders.length, s)
      else if 8 ≤ h.holders.length then (0x21, 8, s)
      else (0, h.holders.length + 1, s.onCaddy fun k => { k with held := k.held.put t { h with holders := h.holders ++ [new] } })

/-- Give an operation's answer to its port. -/
def State.caddyAnswer (id ptr : Nat) (x : Nat × Nat × State) : State :=
  x.2.2.onCaddy fun c => { c with answers := (id, caddyWord x.1 x.2.1 ptr) :: c.answers }

/-- Release the buffer at a pointer for a requester that the controller itself keeps. -/
def State.freePtr (s : State) (id ptr : Nat) : State :=
  match (s.caddy.held.find? fun e => s.ptrOf e.1 == ptr && e.2.holders.contains id) with
  | some (t, _) => s.dropHolder t id
  | none => s

/-- Release every holding of a requester but those at given pointers; the holdings removed are counted. -/
def State.dropHoldings (s : State) (id : Nat) (keep : List Nat) : Nat × State :=
  let mine := s.caddy.held.filter fun e => e.2.holders.contains id && !keep.contains (s.ptrOf e.1)
  (mine.length, (mine.foldl (fun s e => s.dropHolder e.1 id) s).caddyServe)

/-- What R469 keeps for a bay: its parity buffers, and its defect list's while `mounted`. -/
def State.keptPtrs (s : State) (n : Nat) (mounted : Bool) : List Nat :=
  (s.bay n).writing.parity.map (·.ptr) ++ (if mounted then (s.bay n).disc.dlBufs else [])

/-- Release the buffers of a bay's ended commands (R469), and those of its defect list where the mount ends; its requests that
wait go too. -/
def State.releaseBuffers (s : State) (n : Nat) (mounted : Bool) : State :=
  let s1 := s.onCaddy fun c => { c with waiting := c.waiting.filter fun w => w.1 != n }
  (s1.dropHoldings n (s1.keptPtrs n mounted)).2

/-! ## Rows -/

/-- CADDY_ENABLE (R465): EN written as `on`; it cannot be cleared while a buffer is held. -/
def execCaddyEnable (b : Bool) (s : State) : Host.Outcome State Fault Refusal :=
  if b then .next ((s.raise R.CADDY_CTL.EN).caddyServe)
  else if s.caddy.held.isEmpty then .next (s.zero R.CADDY_CTL.EN)
  else .next (s.raise R.CADDY_CTL.REJ)

/-- Whether two ranges meet. -/
def meets (a1 b1 a2 b2 : Nat) : Bool := decide (a1 < b2) && decide (a2 < b1)

/-- Whether region `r` may be enabled as it is configured (R464). -/
def State.regionOk (s : State) (r : Nat) : Bool :=
  let lo := s.rgnBase r
  let hi := s.rgnEnd r
  let f := s.rgnFirst r
  let k := s.rgnCount r
  let inCh := decide (hi ≤ 2 ^ 40) && s.get (R.DRAM_STAT.STATE (lo / 2 ^ 37)) == CH.READY && decide (lo / 2 ^ 37 = (hi - 1) / 2 ^ 37)
    && decide ((hi - 1) % 2 ^ 37 < s.chanSize (lo / 2 ^ 37))
  let slot := (lo - 2 ^ 40) / 0x800000
  let inSlot := decide (2 ^ 40 ≤ lo) && decide (slot < 8) && s.on (R.CACHE_SCRATCH.READY slot) && decide (hi ≤ scratchBase slot + 0x600000)
  decide (0 < k) && decide (f + k ≤ 131072) && decide (lo % classBytes (s.get (R.CADDY_RGN_CFG.CLASS r)) = 0) && (inCh || inSlot)
    && (List.range 16).all fun q => q == r || !s.on (R.CADDY_RGN_CFG.EN q) ||
        (!meets lo hi (s.rgnBase q) (s.rgnEnd q) && !meets f (f + k) (s.rgnFirst q) (s.rgnFirst q + s.rgnCount q))

/-- CADDY_REGION_ENABLE (R464): EN of region `r` written as 1. -/
def execCaddyRegionEnable (r : Nat) (s : State) : Host.Outcome State Fault Refusal :=
  if 16 ≤ r ∨ s.on (R.CADDY_RGN_CFG.EN r) then .next s
  else if s.regionOk r then
    .next (((s.raise (R.CADDY_RGN_CFG.EN r)).onCaddy fun c => { c with freed := c.freed.erase r, next := c.next.erase r }).caddyServe)
  else .next (s.raise (R.CADDY_RGN_FLAGS.CFG_REJ r))

/-- CADDY_REQUEST (R465, R466): through a port. -/
def execCaddyRequest (id c : Nat) (s : State) : Host.Outcome State Fault Refusal := .next (s.caddyRequest (id % 256) (c % 4) .port)

/-- CADDY_GRANT (R465): the requests that can be granted now are. -/
def execCaddyGrant (s : State) : Host.Outcome State Fault Refusal := .next s.caddyServe

/-- CADDY_SHARE (R467). -/
def execCaddyShare (id new c ptr : Nat) (s : State) : Host.Outcome State Fault Refusal :=
  .next (State.caddyAnswer (id % 256) ptr (s.caddyShare (id % 256) (new % 256) (c % 4) (ptr % 2 ^ 41)))

/-- CADDY_RELEASE (R467). -/
def execCaddyRelease (id c ptr : Nat) (s : State) : Host.Outcome State Fault Refusal :=
  .next (State.caddyAnswer (id % 256) ptr (s.caddyRelease (id % 256) (c % 4) (ptr % 2 ^ 41)))

/-- Whether a requester's DMA channel is halted (R355). -/
def State.idHalted (s : State) (id : Nat) : Bool :=
  let h := fun (c : Nat) => bitAt (s.get (R.DMA_HALT_SUM.HALTED (c / 32))) (c % 32)
  if id < 128 then h id else if id = idStripe then h 385 else if id = idFxc then h 386
  else if id = 162 ∨ id = 163 then h (387 + (id - 162))
  else if id = idPorter then (List.range 257).any fun k => h (128 + k) else false

/-- Whether a requester has a command in flight. -/
def State.idBusy (s : State) (id : Nat) : Bool :=
  let unit := fun (l : List Nat) => s.units.any fun c => l.contains c.wb.opcode
  if id < 128 then !(s.bay id).tags.isEmpty || !(s.bay id).waiting.isEmpty
  else if id = idStripe then unit [Op.STRIPE_ENCODE, Op.STRIPE_REBUILD]
  else if id = idFxc then unit [Op.FIXITY]
  else if id = 162 ∨ id = 163 then unit [Op.FABRIC_SEND]
  else if id = idPorter then unit [Op.TABLE_LOAD, Op.TABLE_READ]
  else false

/-- CADDY_RECLAIM (R470): the holdings of `CADDY_RECLAIM.ID` go, or REJ. -/
def execCaddyReclaim (s : State) : Host.Outcome State Fault Refusal :=
  let id := s.get R.CADDY_RECLAIM.ID
  let b := s.get (R.STATE.STATE id)
  if s.idBusy id || s.idHalted id || (decide (id < 128) && !([1, 2, 3, 4, 13].contains b)) then .next (s.raise R.CADDY_RECLAIM.REJ)
  else
    let (k, s1) := s.dropHoldings id []
    let s2 := if id < 128 then (s1.onWrite id fun w => { w with parity := [] }).showWrite id else s1
    .next (s2.record srcCaddy 0x0F0A [id, k])

end Sys2Proof.Machine
end

