-- ==== Sys2Proof/Machine/Hooks.lean ====
section
/-!
DEFINITION. What ends with a bay's work: reads, calibration, writes, buffers and the mount; and what the head's position asks
of the zone table and the disc.
-/

namespace Sys2Proof.Machine

/-! ## Controller DRAM as the engines see it (R458: coherent) -/

/-- Read `k` bytes of DRAM. -/
def State.dramRead (s : State) (a k : Nat) : List Byte := Sparse.bytes 0 s.dram k a

/-- Write bytes to DRAM. -/
def State.dramWrite (s : State) (a : Nat) (l : List Byte) : State := { s with dram := Sparse.putAll 0 s.dram a l }

/-- Address of a zone-table entry (R233, R258). -/
def State.ztAddr (s : State) (n idx : Nat) : Nat :=
  2 ^ 17 * s.get (R.RC_ZT_BASE_LO.ADDR n) + 2 ^ 32 * s.get (R.RC_ZT_BASE_HI.ADDR n) + 256 * idx

/-- A zone-table entry as it stands in DRAM. -/
def State.ztEntry (s : State) (n idx : Nat) : List Byte := s.dramRead (s.ztAddr n idx) 256

/-- The entry index of a layer at a track (R233). -/
def entryIndex (layer : Nat) (t : Int) : Nat := 32 * layer + zoneOfTrack t

/-- The signed SA hint of a layer (R53), zero until MOUNT has read the disc information block. -/
def State.saHint (s : State) (n layer : Nat) : Int :=
  match (s.bay n).disc.info with | some d => toInt 16 (beField (d.hints.getD layer []) 12 2) | none => 0

/-- The SA target of a layer in the zone of the present track (R149): preset, hint, and the trim of a valid entry. -/
def State.saTarget (s : State) (n layer : Nat) : Int :=
  let e := s.ztEntry n (entryIndex layer (s.getTrack (R.FT_STAT.TRACK n)))
  toInt 16 (s.get (R.SA_PRESET.PRESET n layer)) + s.saHint n layer +
    (if crc32 (e.take 252) = ofBytesLE ((e.drop 252).take 4) then toInt 16 (ofBytesLE ((e.drop 232).take 2)) else 0)

/-- WR_RPM_MAX of the mounted disc (R53); 6,000 where none is known. -/
def State.wrRpmMax (s : State) (n : Nat) : Nat := match (s.bay n).disc.info with | some d => d.wrRpmMax | none => 6000

/-! ## Endings -/

/-- Show that no calibration runs, with how the last one ended (R336). -/
def State.calIdle (s : State) (n last : Nat) : State :=
  (((((s.zero (R.CAL_STAT.BUSY n)).zero (R.CAL_STAT.ITEM n)).zero (R.CAL_STAT.RUN n)).put (R.CAL_STAT.LAST n) last).count
    (R.CAL_COUNT.DONE n) 1)

/-- End a calibration without writing its entry (R332); after `RECOVERY` it restarts at its first item. -/
def State.dropCal (s : State) (n : Nat) (restart : Bool) : State :=
  match (s.bay n).cal.run with
  | none => if restart then s else s.onCal n fun c => { c with queue := [] }
  | some r =>
    let s1 := (s.calIdle n 5).onCal n fun c => { c with run := none, queue := if restart then r.req :: c.queue else [] }
    if r.req.req ∧ !restart then s1.zero (R.CAL_CTL.REQ n) else s1

/-- A bay has passed its safe point (R556): the end of a segment. -/
def State.passSafe (s : State) (n : Nat) : State :=
  { s with pendMode := s.pendMode.map fun p => { p with bays := p.bays.filter (· != n) } }

/-- The bay's reads, ladder and writes end (R286, R312): nothing queued for relocation is written any more. -/
def State.dropWork (s : State) (n : Nat) : State :=
  let s1 := (((s.onRead n fun r => { r with frames := [], ladder := [], known := [], blanks := [], lost := [], shadows := [], raw := none }).onWrite n
    fun w => { w with run := [], reloc := [], gate := none, staged := [], commit := none }).passSafe n).onSched n fun c => { c with seg := none, gap := 0 }
  ((((((s1.zero (R.DEC_RQ.QUEUED n)).zero (R.DEC_RQ.LADDER n)).zero (R.RC_STAT.FRAMING n)).zero (R.DL_CTL.BUSY n)).zero
    (R.DL_CTL.COMMIT n)).raise (R.SCHED_STAT.IDLE n)).showWrite n

/-- The mount ends: key bindings and the defect list go (R373, R383, R437). -/
def State.endMount (s : State) (n : Nat) : State := (s.setBay n { s.bay n with mounted := false, disc := {} }).zero (R.BAY_CTL.SUSP n)

/-- A suspended mount could not resume (R564, R582): its bay, the disc identity held, and the step that failed. -/
def State.resumeFails (s : State) (n step : Nat) : State :=
  let d := (s.bay n).disc
  let id := match d.info with | some i => i.discId | none => 0
  if d.suspend then s.recordBay n 0x120B [n, id % 2 ^ 64, id / 2 ^ 64, step] else s

/-- Free what a rung holds: its capture buffer, a request for one, and its LLR buffers (R285). -/
def State.freeRung (s : State) (n : Nat) (g : Rung) : State :=
  let s1 := if g.capture.isSome && g.capPtr.isNone then s.caddyCancel (.capture n g.psa) else s
  ((g.capPtr.toList ++ g.llrPtrs).foldl (fun s p => s.freePtr n p) s1).caddyServe

/-- The work of a command that ends goes: its rungs with their buffers, sectors that wait for their check, and what its write run
has not committed.  Entries of slots written and not verified stay as they are (R309). -/
def State.endWork (s : State) (n t : Nat) : State :=
  let s1 := ((s.bay n).reading.ladder.filter fun g => g.tag == t).foldl (fun s g => s.freeRung n g) s
  let s2 := (s1.onRead n fun r => { r with
    ladder := r.ladder.filter fun g => g.tag != t, hold := r.hold.filter fun d => match d.tag with | some (u, _) => u != t | none => true }).pumpRungs n
  let s3 := ((s2.bay n).writing.run.filter fun y => y.tag == t && y.phase == .waiting).foldl (fun s y => s.dropSector n y) s2
  (s3.onWrite n fun w => { w with run := w.run.filter fun y => y.tag != t, reloc := w.reloc.filter fun y => y.tag != t }).showWrite n

end Sys2Proof.Machine
end

