-- ==== Sys2Proof/Machine/BayOps.lean ====
section
/-!
DEFINITION. Operations on one bay that several chapters share: its state (R24 to R27), lasers (R70, R82), loop modes
(R119), the tracker's discard of events (R96), stopping the spindle (R188 to R190), `FAULT` (R164), `RECOVERY` (R163),
focus acquisition's start (R151), link loss (R85) and the end of a drain (R86).
-/

namespace Sys2Proof.Machine

/-! ## Bay states (R25) -/
namespace BS
/-- R25. -/ def ABSENT : Nat := 0
/-- R25. -/ def OFF : Nat := 1
/-- R25. -/ def LINKING : Nat := 2
/-- R25. -/ def BRINGUP : Nat := 3
/-- R25. -/ def EMPTY : Nat := 4
/-- R25. -/ def SPINUP : Nat := 5
/-- R25. -/ def FOCUSING : Nat := 6
/-- R25. -/ def READY : Nat := 7
/-- R25. -/ def ACTIVE : Nat := 8
/-- R25. -/ def CAL : Nat := 9
/-- R25. -/ def RECOVERY : Nat := 10
/-- R25. -/ def PARKING : Nat := 11
/-- R25. -/ def DRAINING : Nat := 12
/-- R25. -/ def FAULT : Nat := 13
/-- R25. -/ def BAY_CURFEW : Nat := 14
end BS

/-! ## Causes of a transition (R27) -/
namespace Why
/-- R27. -/ def reset : Nat := 0
/-- R27. -/ def command : Nat := 1
/-- R27. -/ def event : Nat := 2
/-- R27. -/ def register : Nat := 3
/-- R27. -/ def mode : Nat := 4
/-- R27. -/ def domain : Nat := 5
/-- R27. -/ def sequence : Nat := 6
end Why

/-- The bay block's base offset (R24). -/
def bayBase (n : Nat) : Nat := 0x1000000 + 0x10000 * n

/-- The operating mode (R553). -/
def State.mode (s : State) : Nat := s.get R.MODE_STAT.MODE

/-- Whether the mode allows lasers (R82): `SERVICE`, `MAINTENANCE` or `QUIESCE`. -/
def State.lasersAllowed (s : State) : Bool := s.mode == 1 || s.mode == 2 || s.mode == 3

/-- Change a bay's state (R24 to R27, R609): a change to the state it is in is none.  Entry to `FAULT` or `BAY_CURFEW` and an accepted
withdrawal signal the serving sequencer (R494). -/
def State.setBayState (s : State) (n new kind value : Nat) : State :=
  let old := s.bayState n
  if old = new then s
  else
    let s1 := ((s.put (R.STATE.PREV n) old).put (R.STATE.STATE n) new).put (R.STATE.CHG_COUNT n)
      (s.get (R.STATE.CHG_COUNT n) + 1)
    let s0 := if new = BS.FAULT ∨ new = BS.BAY_CURFEW ∨ new = BS.DRAINING then s1.attend n else s1
    let s2 := if new = BS.OFF then s0.zero (R.LINK_CTL.WITHDRAW n) else s0
    (s2.recordBay n 0x0101 [old, new, kind, value]).trace 3 n 3 n old new

/-! ## Lasers -/

/-- Send a POWER frame (R65, R69): REARM, and bits O, C, I of the lasers enabled, all at the read power. -/
def State.sendPower (s : State) (n lasers : Nat) (rearm : Bool) : State :=
  let p : Int := s.get (R.FOC_NORM.P_READ n)
  let b := s.bay n
  (s.setBay n { b with link := { b.link with lasers := lasers } }).send n 0x15
    (b2n rearm * 2 ^ 15 + lasers % 8 * 2 ^ 12) [block16 p p p 0, block16 0 0 0 0]

/-- A POWER frame with all three laser bits 0 (R164). -/
def State.lasersOff (s : State) (n : Nat) : State := s.sendPower n 0 false

/-! ## Loops (R119, R161) -/

/-- Bit `k` of a register field. -/
def State.bitOf (s : State) (f : Field) (k : Nat) : Bool := bitAt (s.get f) k

/-- Set bit `k` of a register field. -/
def State.setBitOf (s : State) (f : Field) (k : Nat) (b : Bool) : State := s.put f (setBit (s.get f) k b)

/-- The loop state of a slot. -/
def State.loop (s : State) (n k : Nat) : LoopState := Sparse.get {} (s.bay n).servo.loops k

/-- Replace the loop state of a slot. -/
def State.setLoop (s : State) (n k : Nat) (l : LoopState) : State :=
  s.setBay n { s.bay n with servo := { (s.bay n).servo with loops := Sparse.put (s.bay n).servo.loops k l } }

/-- Ask the running Infusion on loop `k` to stop for a cause (R130); it stops at the loop's next update. -/
def State.infuseStop (s : State) (n k cause : Nat) : State :=
  match (s.bay n).servo.infuse with
  | some f =>
    if s.get (R.INF_CTL.LOOP n) = k ∧ f.abort = none then
      s.setBay n { s.bay n with servo := { (s.bay n).servo with infuse := some { f with abort := some cause } } }
    else s
  | none => s

/-- Set AUTO of loop `k` (R119): when it falls, the last automatic output is copied into `SRV_MAN[k]`. -/
def State.setAuto (s : State) (n k : Nat) (b : Bool) : State :=
  if s.bitOf (R.SRV_CTL.AUTO n) k = b then s
  else
    let s1 := (s.setBitOf (R.SRV_CTL.AUTO n) k b).infuseStop n k 4
    if b then s1
    else if (s.loop n k).wasAuto then s1.putS (R.SRV_MAN.Q n k) (s.loop n k).lastU else s1

/-- Set EN of loop `k` (R119): a loop enabled in automatic starts with I = 0 and all section states zero. -/
def State.setEn (s : State) (n k : Nat) (b : Bool) : State :=
  if s.bitOf (R.SRV_CTL.EN n) k = b then s
  else
    let s1 := (s.setBitOf (R.SRV_CTL.EN n) k b).infuseStop n k 4
    if b then
      let l := s1.loop n k
      s1.setLoop n k (if s1.bitOf (R.SRV_CTL.AUTO n) k then { l with bq := [{}, {}, {}, {}], xPrev := 0, integ := 0, started := false }
        else { l with started := false })
    else s1

/-- Write the manual output of a loop. -/
def State.setMan (s : State) (n k : Nat) (v : Int) : State := s.putS (R.SRV_MAN.Q n k) v

/-- Set or clear learning of the repetitive table (R161). -/
def State.setLearn (s : State) (n : Nat) (b : Bool) : State := s.putB (R.SRV_REP_CTL.LEARN n) b

/-- Change the servo, focus, spindle or tracker part of a bay's hidden state. -/
def State.onServo (s : State) (n : Nat) (f : Servo → Servo) : State := s.setBay n { s.bay n with servo := f (s.bay n).servo }
@[inherit_doc State.onServo] def State.onFocus (s : State) (n : Nat) (f : Focus → Focus) : State :=
  s.setBay n { s.bay n with focus := f (s.bay n).focus }
@[inherit_doc State.onServo] def State.onSpin (s : State) (n : Nat) (f : Spin → Spin) : State :=
  s.setBay n { s.bay n with spin := f (s.bay n).spin }
@[inherit_doc State.onServo] def State.onTracker (s : State) (n : Nat) (f : Tracker → Tracker) : State :=
  s.setBay n { s.bay n with tracker := f (s.bay n).tracker }
@[inherit_doc State.onServo] def State.onLink (s : State) (n : Nat) (f : Link → Link) : State :=
  s.setBay n { s.bay n with link := f (s.bay n).link }

/-- Ramp the focus, tracking and tilt outputs to zero over 1 ms (R164): 400 focus samples, in manual. -/
def State.rampOutputs (s : State) (n : Nat) : State :=
  ((((s.setAuto n 0 false).setAuto n 1 false).setAuto n 2 false).onServo n fun v => { v with rampOff := some 400 }).zero
    (R.FT_STAT.FOCUS n)

/-! ## Tracker -/

/-- ALIGNED falls (R96): every armed read-side and write-side event is discarded; a defect hold ends, as the
engine ignores the flag (R124). -/
def State.alignedFall (s : State) (n : Nat) : State :=
  let s := if (s.bay n).tracker.events.any (fun e => e.cls != 0) then s.attend n else s
  ((s.zero (R.ANG_STAT.ALIGNED n)).zero (R.SRV_STAT.DEF_HOLD n)).onTracker n fun t =>
    { t with events := (t.events.filter fun e => e.cls == 0), hit := none, candidate := false }

/-- Discard every armed read-side and write-side event of the bay, and report it to the serving sequencer (R96, R163). -/
def State.dropEvents (s : State) (n : Nat) : State :=
  if (s.bay n).tracker.events.any (fun e => e.cls != 0) then
    (s.attend n).onTracker n fun t => { t with events := t.events.filter fun e => e.cls == 0 }
  else s

/-- Close a bridge (R94): MISS_RUN restarts at 0. -/
def State.closeBridge (s : State) (n : Nat) : State :=
  if s.on (R.ANG_STAT.BRIDGE n) then
    ((s.zero (R.ANG_STAT.BRIDGE n)).zero (R.ANG_STAT.MISS_RUN n)).onTracker n fun t => { t with bridge := 0 }
  else s

/-- Open a bridge of 1 to 1,023 wedges with an expected layer (R94). -/
def State.openBridge (s : State) (n wedges layer : Nat) : State :=
  ((s.raise (R.ANG_STAT.BRIDGE n)).put (R.ANG_STAT.LAYER n) layer).onTracker n fun t =>
    { t with bridge := clampNat 1 1023 wedges }

/-- Enable acquisition (R97): complete at once in `LOCKED`; the counter kept in `FLYWHEEL`; else a search for a
candidate. -/
def State.startAcq (s : State) (n : Nat) : State :=
  if s.get (R.ANG_STAT.STATE n) = 2 then s
  else (s.raise (R.ANG_STAT.ACQ n)).onTracker n fun t => { t with candidate := false, detSeen := 0 }

/-! ## Spindle (R188 to R190) -/

/-- Enter COAST (R190): no more PWM frames; STOPPED waits for COAST_T, or COAST_FULL_T unless the speed was below
REV_THR. -/
def State.spinCoast (s : State) (n : Nat) (low : Bool) : State :=
  (((((s.put (R.SPIN_STAT.PHASE n) 6).zero (R.SPIN_STAT.STOPPED n)).zero (R.SPIN_STAT.AT_SPEED n)).zero
    (R.SPIN_STAT.WR_OK n)).zero (R.SPIN_STAT.PRED_HOLD n)).onSpin n fun p =>
      { p with stop := none, step := 0, lowCoast := low, samples := [], overRun := 0, emfRun := 0, predRun := 0, busBrake := false }

/-- Zero-vector braking (R189). -/
def State.spinZero (s : State) (n : Nat) : State :=
  (((s.put (R.SPIN_STAT.PHASE n) 5).zero (R.SPIN_STAT.AT_SPEED n)).zero (R.SPIN_STAT.WR_OK n)).onSpin n fun p =>
    { p with stop := some .zero, step := 0, busBrake := false, iaSeen := false }

/-- Stop the spindle (R188, R193): the controlled stop ramps the reference down with the loops closed; a start that has
no closed loop brakes with the zero vector; a spindle at rest or coasting is left alone. -/
def State.spinStop (s : State) (n : Nat) : State :=
  let ph := s.get (R.SPIN_STAT.PHASE n)
  let s1 := s.onSpin n fun p => { p with wanted := false }
  if ph = 1 ∨ ph = 2 then s1.spinZero n
  else if ph = 3 then
    ((((s1.put (R.SPIN_STAT.PHASE n) 4).raise (R.SPIN_STAT.RAMP n)).zero (R.SPIN_STAT.AT_SPEED n)).zero
      (R.SPIN_STAT.WR_OK n)).onSpin n fun p => { p with stop := some .controlled, busRec := false, step := 0 }
  else s1

/-! ## Ending activity -/

/-- Forget focus acquisition, jumps and seeks in progress. -/
def State.dropMotion (s : State) (n : Nat) : State :=
  s.onFocus n fun f => { f with acq := .off, jump := .off, fine := .off, seekTo := none, coarse := 0, coarseOn := false,
                                probing := false, advance := false, lossRun := 0, offRun := 0 }

/-- What entry to `FAULT`, `PARKING` and `BAY_CURFEW` share: lasers off, outputs ramped to zero, LEARN cleared (R164,
R383, R559). -/
def State.quietBay (s : State) (n : Nat) : State :=
  (((s.lasersOff n).rampOutputs n).setLearn n false).dropMotion n

/-- Enter `FAULT` (R25, R84, R164, R310, R399): from `BRINGUP` onwards but for `BAY_CURFEW`.  `code` is the record that
reports the cause.  The steppers hold; the spindle's own stop is the caller's, who passes it as `brake`. -/
def State.bayFault (s : State) (n code : Nat) (brake : State → State) : State :=
  let b := s.bayState n
  if b < BS.BRINGUP ∨ b = BS.FAULT ∨ b = BS.BAY_CURFEW then s
  else
    let s0 := if b = BS.BRINGUP then s else s.resumeFails n (if b = BS.SPINUP then 1 else if b = BS.FOCUSING then 2 else 3)
    let s1 := ((s0.endGateRun n 4).abandonReads n).dropCal n false
    let s2 := (s1.setBayState n BS.FAULT Why.event code).quietBay n
    let s3 := brake ((s2.stepHold false n).stepHold true n)
    ((((((s3.staleJournal n 3).dropWork n).releaseBuffers n false).endAllTags n ST.BAY_FAULT).endMount n).refuseQueued n ST.BAY_FAULT)

/-- `FAULT` with the controlled stop (R188): every cause outside the spindle chapter. -/
def State.bayFaultStop (s : State) (n code : Nat) : State := s.bayFault n code fun t => t.spinStop n

/-! ## Focus acquisition (R151) and `RECOVERY` (R163) -/

/-- Step 1 of R151, held until the mode allows lasers (R82), and the SA move of step 2. -/
def State.acqStep1 (s : State) (n : Nat) : State :=
  if s.lasersAllowed && !s.on (R.CURFEW_CAUSE.CAUSE) then
    let s1 := (s.sendPower n 7 (s.on (R.LINK_STAT.LOFF n))).zero (R.STEP_STAT.SA_ARRIVED n)
    let s2 := s1.onFocus n fun f => { f with acq := .saMove }
    if s2.on (R.STEP_STAT.SA_HOMED n) then s2.stepGo true n (s2.saTarget n (s2.bay n).focus.target) else s2
  else s.onFocus n fun f => { f with acq := .blocked }

/-- Enter `FOCUSING` on a layer (R151 step 1). -/
def State.startFocusing (s : State) (n layer kind value : Nat) : State :=
  let s1 := (s.dropMotion n).setBayState n BS.FOCUSING kind value
  let s2 := (((s1.setLearn n false).setAuto n 0 false).setAuto n 1 false).setAuto n 2 false
  let s3 := ((s2.setMan n 1 0).setMan n 2 0).onServo n fun v => { v with rampOff := none }
  (s3.onFocus n fun f => { f with target := layer, fails := 0, fail35 := 0 }).acqStep1 n

/-- The moment in ms that limits of R163 are counted in. -/
def State.ms (s : State) : Nat := s.cycle / 1000000

/-- Enter `RECOVERY` (R163): from `ACTIVE`, `READY` or `CAL`.  More than REC_MAX entries within 2 s lead to `FAULT`.
Focus that is held (SUM_C at SUM_ON or above) is kept and wedges or tracking are acquired again; otherwise, and after a
failed layer jump, the bay goes on to `FOCUSING`. -/
def State.enterRecovery (s : State) (n code : Nat) (byJump : Bool) (layer : Nat) : State :=
  let b := s.bayState n
  if b ≠ BS.ACTIVE ∧ b ≠ BS.READY ∧ b ≠ BS.CAL then s
  else
    let now := s.ms
    let times := now :: (s.bay n).focus.recTimes.filter fun t => decide (now < t + 2000)
    let f := (s.bay n).focus
    let track := match f.seekTo with | some t => t | none => f.expTrack
    let s1 := ((s.abandonReads n).dropCal n true).setBayState n BS.RECOVERY Why.event code
    let s2 := (((s1.dropMotion n).setLearn n false).setAuto n 1 false).dropEvents n
    let s3 := (s2.closeBridge n).onFocus n fun g => { g with recTimes := times, retLayer := layer, retTrack := track }
    if s3.acting (R.FT_REC.REC_MAX n) 1 15 < times.length then
      (s3.recordBay n 0x050A [times.length, s3.get (R.FT_STAT.LAYER n)]).bayFaultStop n 0x050A
    else if byJump || s3.bitOf (R.SRV_CTL.AUTO n) 0 == false || decide (f.prevSum < toInt 16 (s3.get (R.FOC_LVL.SUM_ON n))) then
      s3.startFocusing n layer Why.sequence 0
    else if s3.on (R.ANG_STAT.ALIGNED n) then s3.onFocus n fun g => { g with acq := .track, prevTrack := none }
    else (s3.startAcq n).onFocus n fun g => { g with acq := .wedges, prevTrack := none }

/-! ## Parking, drains and link loss -/

/-- Begin PARKING motion (R25, R214): lasers off, focus ramped off, spindle stopped, sled parked. -/
def State.parkBay (s : State) (n kind value : Nat) : State :=
  (((s.setBayState n BS.PARKING kind value).quietBay n).spinStop n).stepParkAll n

/-- The registers of a bay's block that `RETAIN` does not keep (R29, R116): the Bay Link port's, the tracker's but for its RATE, and
those of trace and Infusion. -/
def State.bayRetained (s : State) (n : Nat) : State :=
  let a := bayBase n
  let rate := s.get (R.ANG_RATE.RATE n)
  ((((s.resetRegs (a + 0x40) (a + 0x60)).resetRegs (a + 0x80) (a + 0xA0)).put (R.ANG_RATE.RATE n) rate).resetRegs (a + 0x160) (a + 0x1B0))

/-- A bay's domain leaves `ON` (R564, R563): `RETAIN` with a disc mounted suspends the mount; otherwise a mount ends as on link loss,
its staged records and buffers go, and entries of the journal become stale.  The bay is `OFF`; what the domain held and does not
retain is lost. -/
def State.bayLeaves (s : State) (n : Nat) (retain : Bool) (kind value : Nat) : State :=
  let susp := retain && (s.bay n).mounted
  let s0 := if s.get (R.SPIN_STAT.PHASE n) = 0 then s else s.spinCoast n false
  let s1 := (((s0.dropCal n false).stepLost false n).stepLost true n).staleJournalBut n 5 susp
  let s2 := (s1.setBayState n BS.OFF kind value).zero (R.LINK_CTL.WITHDRAW n)
  let s3 := if susp then (s2.onDisc n fun d => { d with suspend := true }).raise (R.BAY_CTL.SUSP n)
    else ((s2.dropWork n).releaseBuffers n false).endMount n
  let b := s3.bay n
  if retain then
    (s3.setBay n { b with
      link := {}
      tracker := {}
      focus := {}
      enc := {}
      reading := {}
      sched := {}
      servo := { b.servo with queue := [], trc := [], trcTick := 0, trcCount := 0, trcBase := 0, infuse := none, rampOff := none } }).bayRetained n
  else
    let w := b.writing
    let kept : Bay := {
      tags := b.tags
      waiting := b.waiting
      arrived := b.arrived
      mounted := b.mounted
      disc := b.disc
      writing := { journal := w.journal, jseq := w.jseq, parity := w.parity, staged := w.staged }
      intr := b.intr
      attn := b.attn
      move := b.move }
    (((s3.setBay n kept).resetRegs (bayBase n + 8) (bayBase n + 0x10000)).showJournal n).showWrite n

/-- The bay's power domain goes to `OFF` without a request of the host (R86 step 5). -/
def State.bayDomainOff (s : State) (n : Nat) (kind value : Nat) : State :=
  ((((s.bayLeaves n false kind value).put (R.PWR_REQ.REQ n) 0).put (R.PWR_STAT.STATE n) 0).put (R.PWR_STAT.RDY n) 0).trace 3 167 2 n 2 0

/-- The drain ends (R86 step 5): with a disc mounted through `PARKING`, else to `OFF` at once. -/
def State.endDrain (s : State) (n : Nat) : State :=
  if s.bayState n = BS.DRAINING then
    if (s.bay n).mounted then s.parkBay n Why.sequence 0 else s.bayDomainOff n Why.sequence 0
  else s

/-- Start training at step 1 (R75): reset low, presence not yet sampled. -/
def State.trainStart (s : State) (n : Nat) : State :=
  ((s.zero (R.LINK_STAT.UP n)).zero (R.LINK_STAT.BLOCK_LOCK n)).onLink n fun l =>
    { l with rstHigh := false, phase := .resetHold, echoes := 0, upSeq := [], downSeq := [], alerts := 0, cfg := .none, lasers := 0 }

/-- An FE_ACC access in progress fails when its link goes (R81). -/
def State.failAccess (s : State) (n : Nat) : State :=
  if s.on (R.FE_ACC.GO n) then (s.zero (R.FE_ACC.GO n)).raise (R.FE_ACC.ERR n) else s

/-- Link loss (R85, R26, R214, R310, R399): only while `LINK_STAT.UP` = 1. -/
def State.linkLoss (s : State) (n cause : Nat) : State :=
  if !s.on (R.LINK_STAT.UP n) then s
  else
    let old := s.bayState n
    let s0 := if old < BS.SPINUP ∨ old = BS.BAY_CURFEW then s else s.resumeFails n (if old = BS.SPINUP then 1 else if old = BS.FOCUSING then 2 else 3)
    let s1 := ((s0.abandonReads n).dropCal n false).count (R.LINK_STAT.LOSS_COUNT n) 1
    let s2 := (s1.attend n).recordBay n 0x0202 [cause, old, s1.get (R.LINK_STAT.LOSS_COUNT n)]
    let s3 := if old = BS.BAY_CURFEW ∧ s2.mode = 4 then s2 else s2.setBayState n BS.LINKING Why.event 0x0202
    let s4 := ((s3.staleJournal n 2).dropWork n).releaseBuffers n false
    let s5 := ((s4.endAllTags n ST.BAY_LOST).endMount n).refuseQueued n ST.BAY_LOST
    let s6 := (((s5.dropMotion n).setLearn n false).stepLost false n).stepLost true n
    let s7 := if s6.get (R.SPIN_STAT.PHASE n) = 0 then s6 else s6.spinCoast n false
    (s7.failAccess n).trainStart n

end Sys2Proof.Machine
end

