-- ==== Sys2Proof/Machine/Link.lean ====
section
/-!
DEFINITION. The Bay Link port (03_bay_link.md): frames as received, training, presence, link loss, withdrawal, front-end
register access, alerts and laser-off.
-/

namespace Sys2Proof.Machine

/-- Run an effect on a present bay; everything about an absent bay is ignored (R7). -/
def State.onBay (s : State) (n : Nat) (f : State → State) : Host.Outcome State Fault Refusal :=
  .next (if s.bayPresent n then f s else s)

/-! ## Frames as received (R62, R63) -/

/-- Header bytes 1–5 and the payload bytes, in order: what the CRC covers (R62). -/
def frameBytes (typ : Nat) (f : UpFrame) : List Byte :=
  bytesLE 1 typ ++ bytesLE 1 f.len ++ bytesLE 1 f.seq ++ bytesLE 2 f.arg ++ f.data.flatMap fun d => bytesLE 8 d.toNat

/-- A frame that is not corrupt (R63). -/
def frameGood (typ : Nat) (f : UpFrame) : Bool :=
  !f.cut && decide (f.data.length = f.len) && decide (crc16 (frameBytes typ f) = f.crc)

/-- The number of frames missing before one of SEQ `seq` (R63). -/
def State.seqGap (s : State) (n typ seq : Nat) : Nat :=
  match (s.bay n).link.upSeq.find? fun e => e.1 == typ with
  | some (_, q) => (seq + 256 - q) % 256
  | none => 0

/-- Take a frame's header (R63): a corrupt frame is counted in `LINK_ERR.CRC_UP` and holds the place of one frame of its
type; a good one counts the frames missing before it. -/
def State.takeFrame (s : State) (n typ : Nat) (f : UpFrame) : State :=
  if frameGood typ f then
    (s.count (R.LINK_ERR.SEQ_GAP n) (s.seqGap n typ f.seq)).onLink n fun l =>
      { l with upSeq := l.upSeq.put typ ((f.seq + 1) % 256) }
  else
    (s.count (R.LINK_ERR.CRC_UP n) 1).onLink n fun l =>
      { l with upSeq := match l.upSeq.find? fun e => e.1 == typ with
                        | some (_, q) => l.upSeq.put typ ((q + 1) % 256)
                        | none => l.upSeq }

/-- 16-bit value `i` of a frame's payload, counted from bit 0 of block 0. -/
def UpFrame16 (f : UpFrame) (i : Nat) : Nat := bitsAt ((f.data.getD (i / 4) 0).toNat) (16 * (i % 4)) 16

/-! ## Training (R75, R76) -/

/-- Training fails at a step (R76). -/
def State.trainFail (s : State) (n step value : Nat) : State :=
  ((s.recordBay n 0x0201 [step, value]).zero (R.LINK_STAT.BLOCK_LOCK n)).onLink n fun l =>
    { l with rstHigh := false, phase := .retryWait, cfg := .none }

/-- Training completes (R75 step 6): UP, and a bay in `LINKING` enters `BRINGUP`. -/
def State.linkUp (s : State) (n rev : Nat) : State :=
  let s1 := ((s.raise (R.LINK_STAT.UP n)).put (R.LINK_STAT.FE_REV n) rev).onLink n fun l => { l with phase := .up, cfg := .none }
  if s1.bayState n = BS.LINKING then s1.setBayState n BS.BRINGUP Why.sequence 0 else s1

/-- A CFG frame with one entry (R65, R69). -/
def State.sendCfg (s : State) (n : Nat) (write : Bool) (addr data : Nat) : State :=
  s.send n 0x16 (b2n write * 2 ^ 15 + 1) [BitVec.ofNat 64 (addr % 2 ^ 16 + 2 ^ 16 * (data % 2 ^ 32))]

/-- PRESENCE_SAMPLE (R75 step 1). -/
def execPresenceSample (n : Nat) (alertHigh : Bool) (s : State) : Host.Outcome State Fault Refusal :=
  s.onBay n fun s => if (s.bay n).link.phase = .resetHold then s.putB (R.LINK_STAT.PRESENT n) (!alertHigh) else s

/-- BAY_RESET_RELEASE (R75 step 2): with a front-end present. -/
def execBayResetRelease (n : Nat) (s : State) : Host.Outcome State Fault Refusal :=
  s.onBay n fun s =>
    if (s.bay n).link.phase = .resetHold ∧ s.on (R.LINK_STAT.PRESENT n) then
      (s.onLink n fun l => { l with rstHigh := true, phase := .awaitLock }).emit (.blIdle n)
    else s

/-- UPSTREAM_BLOCK_LOCK (R75 steps 3 and 4): 16 ECHO frames go out. -/
def execUpstreamBlockLock (n : Nat) (s : State) : Host.Outcome State Fault Refusal :=
  s.onBay n fun s =>
    let s1 := if (s.bay n).link.rstHigh then s.raise (R.LINK_STAT.BLOCK_LOCK n) else s
    if (s1.bay n).link.phase = .awaitLock then
      let s2 := (s1.onLink n fun l => { l with phase := .echo, echoes := 0 }).zero (R.LINK_RTT.RTT n)
      (List.range 16).foldl (fun s t => s.send n 0x17 t []) s2
    else s1

/-- UPSTREAM_BLOCK_LOCK_LOSS (R85): in steps 4 to 6 training fails at the step in progress. -/
def execUpstreamBlockLockLoss (n : Nat) (s : State) : Host.Outcome State Fault Refusal :=
  s.onBay n fun s =>
    let s1 := s.zero (R.LINK_STAT.BLOCK_LOCK n)
    match (s1.bay n).link.phase with
    | .echo => s1.trainFail n 4 (s1.get (R.LINK_RTT.RTT n))
    | .feId => s1.trainFail n 5 0
    | _ => s1

/-- ECHO_RESPONSE_RECEIVE (R75 step 4): the largest round trip is kept, in ps; above 280 ns training fails; after the
sixteenth FE_ID is read. -/
def execEchoResponseReceive (n : Nat) (f : UpFrame) (ps : Nat) (s : State) : Host.Outcome State Fault Refusal :=
  s.onBay n fun s =>
    if (s.bay n).link.phase = .echo then
      let s1 := s.takeFrame n 0x08 f
      if frameGood 0x08 f then
        let rtt := max (s1.get (R.LINK_RTT.RTT n)) (min ps 0xFFFFF)
        let s2 := s1.put (R.LINK_RTT.RTT n) rtt
        if 280000 < rtt then s2.trainFail n 4 rtt
        else
          let s3 := s2.onLink n fun l => { l with echoes := l.echoes + 1 }
          if (s3.bay n).link.echoes = 16 then
            (s3.onLink n fun l => { l with phase := .feId, cfg := .feId }).sendCfg n false 0 0
          else s3
      else s1
    else s

/-- CFG_RSP_RECEIVE (R81, R75 steps 5 and 6): completes FE_ACC, or the read of FE_ID. -/
def execCfgRspReceive (n : Nat) (f : UpFrame) (s : State) : Host.Outcome State Fault Refusal :=
  s.onBay n fun s =>
    let ph := (s.bay n).link.phase
    if ph = .up ∨ ph = .feId then
      let s1 := s.takeFrame n 0x07 f
      if frameGood 0x07 f then
        let data := bitsAt ((f.data.getD 0 0).toNat) 16 32
        match (s1.bay n).link.cfg with
        | .feId =>
          if data / 2 ^ 16 = 0x4B33 then s1.linkUp n (bitsAt data 8 8) else s1.trainFail n 5 data
        | .hostAccess =>
          ((s1.put (R.FE_DATA.DATA n) data).zero (R.FE_ACC.GO n)).onLink n fun l => { l with cfg := .none }
        | _ => s1
      else s1
    else s

/-- TRAIN_TIMEOUT (R75, R76): steps 3 to 6 have not completed within TRAIN_TMO of reset release. -/
def execTrainTimeout (n : Nat) (s : State) : Host.Outcome State Fault Refusal :=
  s.onBay n fun s =>
    match (s.bay n).link.phase with
    | .awaitLock => s.trainFail n 3 0
    | .echo => s.trainFail n 4 (s.get (R.LINK_RTT.RTT n))
    | .feId => s.trainFail n 5 0
    | _ => s

/-- TRAIN_RETRY (R76): 100 ms after a failure training restarts at step 1. -/
def execTrainRetry (n : Nat) (s : State) : Host.Outcome State Fault Refusal :=
  s.onBay n fun s => if (s.bay n).link.phase = .retryWait then s.trainStart n else s

/-! ## Loss and withdrawal (R85, R86) -/

/-- LINK_LOSS_SYNC_ERRORS (R85). -/
def execLinkLossSyncErrors (n : Nat) (s : State) : Host.Outcome State Fault Refusal := s.onBay n fun s => s.linkLoss n 1

/-- LINK_LOSS_STATUS_TIMEOUT (R85). -/
def execLinkLossStatusTimeout (n : Nat) (s : State) : Host.Outcome State Fault Refusal := s.onBay n fun s => s.linkLoss n 2

/-- LINK_WITHDRAW (R86): accepted in `EMPTY` to `RECOVERY` outside `CURFEW`; otherwise WD_REJ. -/
def execLinkWithdraw (n : Nat) (s : State) : Host.Outcome State Fault Refusal :=
  s.onBay n fun s =>
    let b := s.bayState n
    if BS.EMPTY ≤ b ∧ b ≤ BS.RECOVERY ∧ s.mode ≠ 4 then
      let s1 := (((s.raise (R.LINK_CTL.WITHDRAW n)).dropCal n false).setBayState n BS.DRAINING Why.register (bayBase n + 0x40)).refuseQueued n
        ST.BAY_WITHDRAWN
      if (s1.bay n).tags = [] then s1.endDrain n else s1
    else s.raise (R.LINK_STAT.WD_REJ n)

/-- DRAIN_TIMEOUT (R86): the remaining tags end, the journal's entries become stale, and the drain ends.  A gate run in
progress runs to its LAST record. -/
def execDrainTimeout (n : Nat) (s : State) : Host.Outcome State Fault Refusal :=
  s.onBay n fun s =>
    if s.bayState n = BS.DRAINING then
      let g := (s.bay n).writing.gate
      let s1 := ((((s.staleJournal n 4).dropWork n).releaseBuffers n (s.bay n).mounted).endAllTags n ST.BAY_WITHDRAWN).onWrite n fun w => { w with gate := g }
      if g.isSome then s1 else s1.endDrain n
    else s

/-- BAY_HOST_RESET (R77): accepted in `LINKING`, `BRINGUP` and `FAULT`; restarts R75 at step 1. -/
def execBayHostReset (n : Nat) (s : State) : Host.Outcome State Fault Refusal :=
  s.onBay n fun s =>
    let b := s.bayState n
    if b = BS.LINKING ∨ b = BS.BRINGUP ∨ b = BS.FAULT then
      (((s.setBayState n BS.LINKING Why.register (bayBase n + 0x40)).endMount n).failAccess n).trainStart n
    else s

/-! ## Front-end register access (R81) -/

/-- FE_ACCESS_GO (R81): ignored while an access runs; ERR at once without a link, or for a write outside `BRINGUP` and
`FAULT`. -/
def execFeAccessGo (n : Nat) (s : State) : Host.Outcome State Fault Refusal :=
  s.onBay n fun s =>
    if s.on (R.FE_ACC.GO n) then s
    else
      let b := s.bayState n
      let wr := s.on (R.FE_ACC.WRITE n)
      if !s.on (R.LINK_STAT.UP n) || (wr && b != BS.BRINGUP && b != BS.FAULT) then s.raise (R.FE_ACC.ERR n)
      else ((s.raise (R.FE_ACC.GO n)).onLink n fun l => { l with cfg := .hostAccess }).sendCfg n wr
        (s.get (R.FE_ACC.ADDR n)) (s.get (R.FE_DATA.DATA n))

/-- FE_ACCESS_TIMEOUT (R81): no response within 100 µs. -/
def execFeAccessTimeout (n : Nat) (s : State) : Host.Outcome State Fault Refusal :=
  s.onBay n fun s =>
    if s.on (R.FE_ACC.GO n) then
      ((s.zero (R.FE_ACC.GO n)).raise (R.FE_ACC.ERR n)).onLink n fun l => { l with cfg := .none }
    else s

/-! ## Alerts and status (R68, R80, R84) -/

/-- Bits of R84 that send the bay to `FAULT`, PWM_STARVED apart. -/
def faultAlerts : List Nat := [0, 4, 5, 6, 7, 8]

/-- React to newly set alert bits (R84, R192, R214). -/
def State.takeAlert (s : State) (n bits : Nat) : State :=
  let b := s.bay n
  let now := b.link.alerts ||| bits
  let s1 := (s.put (R.FE_ALERT.ALERT n) (s.get (R.FE_ALERT.ALERT n) ||| bits)).onLink n fun l =>
    { l with alerts := now }
  let s2 := s1.recordCls (b2n (bitAt bits 0 || bitAt bits 7)) n 0x0203 n [bits, now]
  let s3 := if bitAt bits 1 then s2.raise (R.LINK_STAT.LOFF n) else s2
  let s4 := if bitAt bits 2 || bitAt bits 3 then s3.endGateRun n 4 else s3
  let starved := bitAt bits 9 && s4.get (R.SPIN_STAT.PHASE n) != 6 && s4.get (R.SPIN_STAT.PHASE n) != 0
  if faultAlerts.any (bitAt bits) || starved then
    let coast := bitAt bits 5 || starved
    let s5 := s4.bayFault n 0x0203 fun t => if coast then (if t.get (R.SPIN_STAT.PHASE n) = 0 then t else t.spinCoast n false) else t.spinStop n
    if bitAt bits 6 then (s5.stepOff false n).stepOff true n else s5
  else s4

/-- ALERT_FRAME_RECEIVE (R84). -/
def execAlertFrameReceive (n : Nat) (f : UpFrame) (s : State) : Host.Outcome State Fault Refusal :=
  s.onBay n fun s =>
    if s.on (R.LINK_STAT.UP n) then
      let s1 := s.takeFrame n 0x06 f
      if frameGood 0x06 f then s1.takeAlert n (f.arg % 4096) else s1
    else s

/-- STATUS_FRAME_RECEIVE (R68, R80, R84): temperature, the laser-off latch, and the alert bits where they are being read
for want of an ALERT frame. -/
def execStatusFrameReceive (n : Nat) (f : UpFrame) (s : State) : Host.Outcome State Fault Refusal :=
  s.onBay n fun s =>
    if s.on (R.LINK_STAT.UP n) then
      let s1 := s.takeFrame n 0x05 f
      if frameGood 0x05 f then
        let s2 := (((s1.raise (R.FE_TEMP.VALID n)).onCal n fun c => { c with temps := (toInt 16 (UpFrame16 f 0) :: c.temps).take 16 }).put (R.FE_TEMP.TEMP n) (UpFrame16 f 0)).put (R.LINK_STAT.LOFF n)
          (UpFrame16 f 3 % 2)
        let bits := UpFrame16 f 2 % 4096
        let l := (s2.bay n).link
        if l.alertRead then
          let new := (bits ^^^ l.alerts) &&& bits
          let s3 := s2.onLink n fun l => { l with alertRead := false }
          if new = 0 then s3.onLink n fun l => { l with alerts := bits } else s3.takeAlert n new
        else s2.onLink n fun l => { l with alerts := bits }
      else s1
    else s

/-- ALERT_PIN_TIMEOUT (R84): the alert bits are read from the next STATUS frame. -/
def execAlertPinTimeout (n : Nat) (s : State) : Host.Outcome State Fault Refusal :=
  s.onBay n fun s => if s.on (R.LINK_STAT.UP n) then s.onLink n fun l => { l with alertRead := true } else s

/-- FE_TEMP_VALID_EXPIRE (R80). -/
def execFeTempValidExpire (n : Nat) (s : State) : Host.Outcome State Fault Refusal :=
  s.onBay n fun s => s.zero (R.FE_TEMP.VALID n)

/-! ## Laser-off (R82, R83) -/

/-- Insert a LOFF block on every present bay's transmitter (R82). -/
def State.loffAll (s : State) : State := (List.range s.variant.bays).foldl (fun s n => s.emit (.loff n)) s

/-- LOFF_REPEAT (R82): while any `CURFEW` cause holds. -/
def execLoffRepeat (s : State) : Host.Outcome State Fault Refusal :=
  .next (if s.on R.CURFEW_CAUSE.CAUSE then s.loffAll else s)

end Sys2Proof.Machine
end

