-- ==== Sys2Proof/Machine/Servo.lean ====
section
/-!
DEFINITION. The servo control engines (05_control_engine.md): number formats (R112), loop records (R113, R114), the
update (R117 to R123), the defect hold (R124), trace (R125, R126) and Infusion (R127 to R130).
-/

namespace Sys2Proof.Machine

/-! ## Number formats (R112) -/

/-- `x / d` rounded to nearest, ties away from zero. -/
def rdiv (x : Int) (d : Nat) : Int :=
  if 0 ≤ x then (2 * x + (d : Int)) / (2 * (d : Int)) else -((2 * (-x) + (d : Int)) / (2 * (d : Int)))

/-- Saturation to Q0.31. -/
def satQ31 (x : Int) : Int := clampInt (-(2 ^ 31)) (2 ^ 31 - 1) x

/-- Saturation of a Q4.59 accumulator. -/
def satAcc (x : Int) : Int := clampInt (-(2 ^ 63)) (2 ^ 63 - 1) x

/-- An accumulator (Q4.59) converted to a Q0.31 node. -/
def toNode (x : Int) : Int := satQ31 (rdiv x (2 ^ 28))

/-- A Q0.31 value as the Q0.15 of an ACT frame (R110). -/
def toQ15 (u : Int) : Int := clampInt (-32768) 32767 (rdiv u 65536)

/-! ## Trigonometry -/

/-- π/2 × 2^64. -/
def halfPi64 : Int := 28976077832308491369

/-- Further terms of the cosine or sine series, scaled by 2^64: `t` is the last term, `k` its power. -/
def trigTerms (x2 : Int) : Nat → Nat → Int → Int
  | 0, _, _ => 0
  | n + 1, k, t =>
    let t' := -(t * x2 / 2 ^ 64 / (((k + 1) * (k + 2) : Nat) : Int))
    t' + trigTerms x2 n (k + 2) t'

/-- cos of r/2^30 of a right angle, × 2^64, for r up to 2^30. -/
def cosQuarter (r : Nat) : Int :=
  let x : Int := halfPi64 * (r : Int) / 2 ^ 30
  2 ^ 64 + trigTerms (x * x / 2 ^ 64) 14 0 (2 ^ 64)

/-- cos of a phase of 2^32 to the turn, × 2^64. -/
def cosTurn (phase : Nat) : Int :=
  let p := phase % 2 ^ 32
  let r := p % 2 ^ 30
  match p / 2 ^ 30 with
  | 0 => cosQuarter r
  | 1 => -cosQuarter (2 ^ 30 - r)
  | 2 => -cosQuarter r
  | _ => cosQuarter (2 ^ 30 - r)

/-- sin of a phase of 2^32 to the turn, × 2^64. -/
def sinTurn (phase : Nat) : Int := cosTurn (phase + 3 * 2 ^ 30)

/-! ## Loop records (R113) -/

/-- A word of a loop record. -/
def recWord (r : List Nat) (off : Nat) : Nat := r.getD (off / 4) 0

/-- A signed word of a loop record. -/
def recInt (r : List Nat) (off : Nat) : Int := toInt 32 (recWord r off)

/-- CTL fields (R113): the sections in use, the repetitive table, the schedule exponent and the feedforward source. -/
def recNbq (r : List Nat) : Nat := recWord r 0 % 8
@[inherit_doc recNbq] def recRep (r : List Nat) : Bool := bitAt (recWord r 0) 3
@[inherit_doc recNbq] def recSched (r : List Nat) : Nat := bitsAt (recWord r 0) 4 2
@[inherit_doc recNbq] def recFf (r : List Nat) : Nat := bitsAt (recWord r 0) 8 4

/-- The shadow record of slot `k` (R113). -/
def State.shadowRec (s : State) (n k : Nat) : List Nat := (List.range 32).map fun w => s.get (R.REC.DATA n (32 * k + w))

/-- The active record of slot `k`. -/
def State.activeRec (s : State) (n k : Nat) : List Nat := Sparse.get [] (s.bay n).servo.active k

/-- The check a shadow record fails (R114): 1 the output limits, 2 INT_LIM, 3 CTL; 0 where it passes. -/
def recFailure (r : List Nat) : Nat :=
  if recInt r 112 < recInt r 116 then 1
  else if recInt r 120 < 0 then 2
  else if 4 < recNbq r ∨ recSched r = 3 ∨ 2 < recFf r then 3
  else 0

/-! ## Nodes of an update -/

/-- What an update forms (R117): the nodes numbered as in R137, the saturation flags of R121, and whether the output was
limited. -/
structure Nodes where
  inp    : Int := 0
  e      : Int := 0
  bq     : List Int := []
  p      : Int := 0
  i      : Int := 0
  d      : Int := 0
  g      : Int := 0
  f      : Int := 0
  r      : Int := 0
  v      : Int := 0
  u      : Int := 0
  inj    : Int := 0
  spd    : Nat := 0
  flags  : Nat := 0
  limited : Bool := false
  deriving DecidableEq, Repr

/-- Node `k` of R137 in Q0.31; SPD is the Q3.28 value of S. -/
def Nodes.node (m : Nodes) (k : Nat) : Int :=
  match k with
  | 0 => m.inp
  | 1 => m.e
  | 2 | 3 | 4 | 5 => if m.bq.length = 0 then m.e else m.bq.getD (min (k - 2) (m.bq.length - 1)) 0
  | 6 => m.p
  | 7 => m.i
  | 8 => m.d
  | 9 => m.g
  | 10 => m.f
  | 11 => m.r
  | 12 => m.v
  | 13 => m.u
  | 14 => m.inj
  | _ => (m.spd : Int)

/-- A recorded node value (R125): sat16(round(node × 2^SHIFT / 2^16)); SPD gives the top 16 bits of S (R137). -/
def Nodes.traced (m : Nodes) (k shift : Nat) : Int :=
  if k = 15 then ((m.spd / 2 ^ 16 : Nat) : Int) else clampInt (-32768) 32767 (rdiv (m.node k * 2 ^ shift) 65536)

/-- One biquad section (R117): its output, whether it saturated, and its new state. -/
def biquad (r : List Nat) (j : Nat) (b : BqState) (x : Int) : Int × Bool × BqState :=
  let o := 8 + 20 * j
  let a0 := satAcc (recInt r o * x)
  let a1 := satAcc (a0 + recInt r (o + 4) * b.x1)
  let a2 := satAcc (a1 + recInt r (o + 8) * b.x2)
  let a3 := satAcc (a2 - recInt r (o + 12) * b.y1)
  let a4 := satAcc (a3 - recInt r (o + 16) * b.y2)
  let y := toNode a4
  (y, decide (satQ31 (rdiv a4 (2 ^ 28)) ≠ rdiv a4 (2 ^ 28)), ⟨x, b.x1, y, b.y1⟩)

/-- The sections in use, from section `j` on: outputs, saturation flags, new states, and the last output. -/
def biquads (r : List Nat) (n : Nat) : Nat → List BqState → Int → List Int × Nat × List BqState × Int
  | _, [], x => ([], 0, [], x)
  | j, b :: rest, x =>
    if j < n then
      let (y, sat, b') := biquad r j b x
      let (ys, fl, bs, z) := biquads r n (j + 1) rest y
      (y :: ys, fl + b2n sat * 2 ^ (j + 1), b' :: bs, z)
    else ([], 0, b :: rest, x)

/-! ## Speed factor (R118) -/

/-- Recompute S for p = 1 and p = 2 at a wedge decision or accepted tooth, in Q3.28, saturating. -/
def State.speedFactor (s : State) (n : Nat) : State :=
  let rate : Int := s.get (R.ANG_RATE.RATE n)
  let ref := s.get (R.SRV_REF_RATE.REF_RATE n)
  if ref = 0 then s
  else
    let (a, s1) := s.roundOpen (2 ^ 28 * rate) ref
    let (b, s2) := s1.roundOpen (2 ^ 28 * (rate * rate)) (ref * ref)
    s2.onServo n fun v => { v with s1 := (min a (2 ^ 31 - 1)).toNat, s2 := (min b (2 ^ 31 - 1)).toNat }

/-- S of a loop with exponent `p` (R118), Q3.28. -/
def State.speedS (s : State) (n p : Nat) : Nat :=
  if p = 0 ∨ s.get (R.SRV_REF_RATE.REF_RATE n) = 0 then 2 ^ 28
  else if s.get (R.ANG_RATE.RATE n) = 0 then 0
  else if p = 1 then (s.bay n).servo.s1 else (s.bay n).servo.s2

/-! ## Trace (R125, R126) -/

/-- Whether comparator `k` fires (R126, R139): `start` tells a defect hold starting, `missed` a hold for a missed wedge,
`stepped` an Infusion step starting. -/
def State.trcCompare (s : State) (n k : Nat) (m : Nodes) (start missed stepped : Bool) : Bool :=
  let x := m.traced (s.get (R.TRC_CMP.NODE n k)) (s.get (R.TRC_CTL.SHIFT n))
  let t := s.getS (R.TRC_CMP.THR n k)
  match s.get (R.TRC_CMP.COND n k) with
  | 1 => decide (t < x)
  | 2 => decide (x < t)
  | 3 => decide (t.natAbs < x.natAbs)
  | 4 => start
  | 5 => missed
  | 6 => m.u != m.v
  | 7 => stepped
  | _ => false

/-- Halfwords of a 32-bit value. -/
def halves (x : Int) : List Nat := [ofInt 16 x, ofInt 16 (x / 65536)]

/-- Records the servo trace buffer holds (R125). -/
def servoTraceSize : Nat := 8192

/-- Finish the capture when the buffer is full of records younger than the arm (R125 steps 3 and 4). -/
def State.trcFinish (s : State) (n : Nat) : State :=
  let v := (s.bay n).servo
  if s.on (R.TRC_STAT.TRIGGERED n) && decide (servoTraceSize ≤ v.trcCount - v.trcBase) then
    ((s.raise (R.TRC_STAT.DONE n)).zero (R.TRC_STAT.ACTIVE n)).put (R.TRC_STAT.FIRST n) (v.trcBase % servoTraceSize)
  else s

/-- Record one update of the traced loop (R125): every 2^DECIM-th update since the arm. -/
def State.trcRecord (s : State) (n k : Nat) (m : Nodes) (start missed stepped : Bool) : State :=
  if !(s.on (R.TRC_STAT.ACTIVE n) && s.get (R.TRC_CTL.LOOP n) == k) then s
  else
    let s1 := s.onServo n fun v => { v with trcTick := v.trcTick + 1 }
    if (s1.bay n).servo.trcTick % 2 ^ s1.acting (R.TRC_CTL.DECIM n) 0 10 ≠ 0 then s1
    else
      let sh := s1.get (R.TRC_CTL.SHIFT n)
      let entry := [R.TRC_CTL.NODE0 n, R.TRC_CTL.NODE1 n, R.TRC_CTL.NODE2 n, R.TRC_CTL.NODE3 n].map fun f =>
        ofInt 16 (m.traced (s1.get f) sh)
      let j := (s1.bay n).servo.trcCount
      let s2 := s1.onServo n fun v => { v with trc := v.trc.put (j % servoTraceSize) entry, trcCount := j + 1 }
      let s3 := if s2.on (R.TRC_STAT.TRIGGERED n) then s2
        else
          let fired := (List.range 4).filter fun c => s2.trcCompare n c m start missed stepped
          let mask := (fired.map fun c => 2 ^ c).sum + b2n (s2.on (R.TRC_ARM.FORCE n)) * 16
          if mask = 0 then s2
          else
            let pre := 32 * (match fired with | c :: _ => s2.get (R.TRC_CMP.PRE n c) | [] => s2.get (R.TRC_ARM.FORCE_PRE n))
            ((((s2.raise (R.TRC_STAT.TRIGGERED n)).put (R.TRC_ARM.TRIG_MASK n) mask).zero (R.TRC_ARM.FORCE n)).put
              (R.TRC_STAT.TRIG_IDX n) (j % servoTraceSize)).onServo n fun v => { v with trcBase := j - min pre (min j (servoTraceSize - 1)) }
      s3.trcFinish n

/-! ## Infusion (R127 to R130) -/

/-- Whether Infusion is permitted on the bay (R127). -/
def State.infuseAllowed (s : State) (n : Nat) : Bool :=
  s.mode == 2 || [BS.BRINGUP, BS.CAL, BS.RECOVERY].contains (s.bayState n)

/-- Stop a running Infusion for a cause (R130). -/
def State.infuseEnd (s : State) (n cause : Nat) : State :=
  let s1 := ((s.onServo n fun v => { v with infuse := none }).zero (R.INF_STAT.BUSY n)).put (R.INF_STAT.CAUSE n) cause
  if cause = 1 then s1.raise (R.INF_STAT.DONE n)
  else (s1.raise (R.INF_STAT.ABORT n)).recordBay n 0x0404
    [cause, s1.get (R.INF_STAT.STEP n), s1.get (R.INF_STAT.SKIPPED n), s1.get (R.INF_CTL.LOOP n)]

/-- The stop cause that holds at an update (R130), lowest first. -/
def State.infuseCause (s : State) (n : Nat) (f : Infuse) : Option Nat :=
  let k := s.get (R.INF_CTL.LOOP n)
  match f.abort with
  | some c => some c
  | none =>
    if !s.infuseAllowed n then some 2
    else if (k == 1 || k == 2 || k == 3) && !s.on (R.ANG_STAT.ALIGNED n) then some 5
    else none

/-- floor of the n-th root of `x` below 2^k (bits from the top). -/
def rootBits (x n : Nat) : Nat → Nat → Nat
  | 0, r => r
  | k + 1, r => rootBits x n k (if (r + 2 ^ k) ^ n ≤ x then r + 2 ^ k else r)

/-- The increment of step `j` of a swept sine (R128): round(START × (STOP/START)^(j/(STEPS − 1))). -/
def sweepInc (start stop steps j : Nat) : Nat :=
  let n := steps - 1
  let x := start ^ (n - j) * stop ^ j
  let r := rootBits x n 32 0
  if (2 * r + 1) ^ n ≤ 2 ^ n * x then r + 1 else r

/-- The present phase increment. -/
def State.infuseInc (s : State) (n step : Nat) : Nat :=
  if s.get (R.INF_CTL.MODE n) = 1 then
    sweepInc (s.get (R.INF_START.INC n)) (s.get (R.INF_STOP.INC n)) (max 2 (s.get (R.INF_CYC.STEPS n))) step
  else s.get (R.INF_START.INC n)

/-- Stages tapped for a register of `n` stages (R128). -/
def prbsTaps : Nat → List Nat
  | 7 => [7, 6] | 8 => [8, 6, 5, 4] | 9 => [9, 5] | 10 => [10, 7] | 11 => [11, 9] | 12 => [12, 11, 10, 4]
  | 13 => [13, 12, 11, 8] | 14 => [14, 13, 12, 2] | _ => [15, 14]

/-- One shift of the register (R128). -/
def prbsShift (n l : Nat) : Nat :=
  l * 2 % 2 ^ n + (prbsTaps n).foldl (fun a t => (a + b2n (bitAt l (t - 1))) % 2) 0

/-- The sample injected by an update (R128). -/
def State.infuseSample (s : State) (n : Nat) (f : Infuse) : Int :=
  let amp : Int := s.get (R.INF_AMP.AMP n)
  if s.get (R.INF_CTL.MODE n) = 2 then
    if bitAt f.lfsr (s.acting (R.INF_CTL.PRBS_N n) 7 15 - 1) then amp else -amp
  else satQ31 (rdiv (amp * cosTurn f.phase) (2 ^ 64))

/-- The response of a node over a window (R129): 2/M times its sum. -/
def windowValue (sum : Int) (m : Nat) : Int := satQ31 (rdiv (2 * sum) (2 ^ 64 * max m 1))

/-- The end of a measurement window (R129): the results, the records of mode 1, and the next step or DONE. -/
def State.infuseWindow (s : State) (n : Nat) (f : Infuse) : State :=
  let ai := windowValue f.sumAI f.count
  let aq := windowValue (-f.sumAQ) f.count
  let bi := windowValue f.sumBI f.count
  let bq := windowValue (-f.sumBQ) f.count
  let s1 := (((s.putS (R.INF_AI.Q n) ai).putS (R.INF_AQ.Q n) aq).putS (R.INF_BI.Q n) bi).putS (R.INF_BQ.Q n) bq
  if s1.get (R.INF_CTL.MODE n) = 1 then
    let j := f.step
    let t1 := (s1.bay n).servo.trc.put (3 * j) (halves (s1.infuseInc n j) ++ halves ai)
    let t2 := t1.put (3 * j + 1) (halves aq ++ halves bi)
    let t3 := t2.put (3 * j + 2) (halves bq ++ [s1.get (R.INF_STAT.SKIPPED n), j])
    let s2 := s1.onServo n fun v => { v with trc := t3 }
    if j + 1 < max 2 (s2.get (R.INF_CYC.STEPS n)) then
      let g := { f with step := j + 1, adv := 0, meas := false, sumAI := 0, sumAQ := 0, sumBI := 0, sumBQ := 0, count := 0 }
      (s2.put (R.INF_STAT.STEP n) (j + 1)).onServo n fun v => { v with infuse := some g }
    else s2.infuseEnd n 1
  else s1.infuseEnd n 1

/-- After an update: sums, phase, PRBS bits and the end of a window (R128, R129).  `held` updates inject nothing and are
counted as skipped. -/
def State.infuseAdvance (s : State) (n : Nat) (f : Infuse) (m : Nodes) (held : Bool) : State :=
  let s0 := if held then s.count (R.INF_STAT.SKIPPED n) 1 else s
  let settle := s0.get (R.INF_CYC.SETTLE n)
  let meas := max 1 (s0.get (R.INF_CYC.MEAS n))
  if s0.get (R.INF_CTL.MODE n) = 2 then
    let nn := s0.acting (R.INF_CTL.PRBS_N n) 7 15
    let period := 2 ^ nn - 1
    let inMeas := decide (settle * period ≤ f.adv)
    let entry := [m.inj, m.node (s0.get (R.INF_CTL.NODE_A n)), m.node (s0.get (R.INF_CTL.NODE_B n)),
      m.node (s0.get (R.TRC_CTL.NODE3 n))].map fun x => ofInt 16 (clampInt (-32768) 32767
        (rdiv (x * 2 ^ s0.get (R.TRC_CTL.SHIFT n)) 65536))
    let want := min servoTraceSize (meas * period * max 1 (s0.get (R.INF_CTL.HOLD n)))
    let wr := inMeas && decide (f.recs < want)
    let s1 := if wr then s0.onServo n fun v => { v with trc := v.trc.put f.recs entry } else s0
    let recs := f.recs + b2n wr
    let s2 := if wr && recs == want then s1.raise (R.TRC_STAT.DONE n) else s1
    let last := decide (max 1 (s2.get (R.INF_CTL.HOLD n)) ≤ f.held + 1)
    let g := { f with recs := recs, held := if last then 0 else f.held + 1, adv := f.adv + b2n last,
                      lfsr := if last then prbsShift nn f.lfsr else f.lfsr, meas := inMeas }
    if (settle + meas) * period ≤ g.adv then (s2.onServo n fun v => { v with infuse := some g }).infuseEnd n 1
    else s2.onServo n fun v => { v with infuse := some g }
  else
    let inc := s0.infuseInc n f.step
    let c := cosTurn f.phase
    let d := sinTurn f.phase
    let a := m.node (s0.get (R.INF_CTL.NODE_A n))
    let b := m.node (s0.get (R.INF_CTL.NODE_B n))
    let g := if f.meas && !held then
        { f with sumAI := f.sumAI + a * c, sumAQ := f.sumAQ + a * d, sumBI := f.sumBI + b * c, sumBQ := f.sumBQ + b * d, count := f.count + 1 }
      else f
    let g1 := { g with phase := (g.phase + inc) % 2 ^ 32, adv := g.adv + inc }
    if !g1.meas && decide (2 ^ 32 * settle ≤ g1.adv) then
      s0.onServo n fun v => { v with infuse := some { g1 with meas := true, adv := 0 } }
    else if g1.meas && decide (2 ^ 32 * meas ≤ g1.adv) then s0.infuseWindow n g1
    else s0.onServo n fun v => { v with infuse := some g1 }

/-! ## Outputs (R110) -/

/-- The ACT frame of one setpoint (R69): slot 0 FOC, 1 TRK, 2 TILT. -/
def State.sendAct (s : State) (n k : Nat) (u : Int) : State :=
  let q := toQ15 u
  s.send n 0x12 0 [if k = 0 then block16 q 0 0 1 else if k = 1 then block16 0 q 0 2 else block16 0 0 q 4]

/-- Hand an output on (R110, R211). -/
def State.loopOutput (s : State) (n k : Nat) (u : Int) : State :=
  let s1 := s.setLoop n k { s.loop n k with lastU := u }
  if k < 3 then
    let s2 := s1.sendAct n k u
    if k = 1 then s2.onServo n fun v => { v with sumU := v.sumU + u, numU := v.numU + 1 } else s2
  else s1

/-! ## The update (R117) -/

/-- Whether a defect hold acts on slot `k` (R124). -/
def State.defectHeld (s : State) (n k : Nat) : Bool := decide (k < 3) && s.on (R.SRV_STAT.DEF_HOLD n)

/-- Begin a defect hold at the first update after the flag rises (R124). -/
def State.defectStart (s : State) (n k : Nat) : State × Bool :=
  let v := (s.bay n).servo
  if decide (k < 3) && s.on (R.SRV_DEF.EN n) && s.on (R.ANG_STAT.ALIGNED n) && v.defFlag && v.defLow && !s.on (R.SRV_STAT.DEF_HOLD n) then
    (((s.raise (R.SRV_STAT.DEF_HOLD n)).count (R.SRV_DEF.HOLD_COUNT n) 1).onServo n fun v => { v with defLow := false }, true)
  else if k = 0 ∧ !v.defFlag then (s.onServo n fun v => { v with defLow := true }, false)
  else (s, false)

/-- The table term of slot 1 in the large form (R122). -/
def State.tableTerm (s : State) (n k : Nat) (r : List Nat) (sf : Nat) (w : Nat) : Int :=
  if k = 1 ∧ recRep r then toNode ((sf : Int) * s.getS (R.REP.DATA n (w % 1024))) else 0

/-- A held sample (R123): states frozen; the last g + f and the table term, or the manual output, limited. -/
def heldOutput (r : List Nat) (auto : Bool) (gf term man : Int) : Int :=
  clampInt (recInt r 116) (recInt r 112) (if auto then gf + term else man)

/-- The integrator after an update, Q4.59 (R120, R121): new value and whether the limit acted. -/
def integrate (r : List Nat) (large : Bool) (i x u v : Int) : Int × Bool :=
  let lim := recInt r 120 * 2 ^ 28
  let inc := recInt r 92 * x
  let raw := if large then
      (if u ≠ v ∧ ((0 < inc ∧ u < v) ∨ (inc < 0 ∧ v < u)) then i else satAcc (i + inc))
    else satAcc (satAcc (i + inc) + recInt r 100 * (u - v))
  let c := clampInt (-lim) lim raw
  (c, decide (c ≠ raw))

/-- The integrator that makes the first automatic output equal the manual one (R119), and whether it is exact. -/
def bumpless (r : List Nat) (sf : Nat) (uMan f rr p d : Int) : Int × Bool :=
  let den := (sf : Int) * recInt r 104
  let lim := recInt r 120 * 2 ^ 28
  if den = 0 then (0, false)
  else
    let q := rdiv (2 ^ 84 * (uMan - f - rr) * den.sign) den.natAbs
    let i := q - 2 ^ 28 * p - 2 ^ 28 * d
    let c := clampInt (-lim) lim i
    (c, decide (c = i))

/-- Set slot-1 large-form flags and write `SRV_NODE_SAT` for the first since they were clear (R121). -/
def State.nodeFlags (s : State) (n k fl : Nat) : State :=
  let old := s.get (R.SRV_NODE_SAT.FLAGS n)
  if fl = 0 then s
  else
    let s1 := s.put (R.SRV_NODE_SAT.FLAGS n) (old ||| fl)
    if old = 0 then s1.recordBay n 0x0402 [fl, k] else s1

/-- Learn from a sample (R122): the new entry and whether it saturated. -/
def State.learnTable (s : State) (n w : Nat) (e : Int) : State × Bool :=
  let i := (w + 1024 - s.get (R.SRV_REP_CTL.LEAD n)) % 1024
  let t := s.getS (R.REP.DATA n i)
  let q := s.get (R.SRV_REP_CTL.QSHIFT n)
  let forget := if q = 0 then 0 else t / 2 ^ q
  let raw := t - forget + rdiv ((s.get (R.SRV_REP_CTL.KR n) : Int) * e) 256
  (s.putS (R.REP.DATA n i) (satQ31 raw), decide (satQ31 raw ≠ raw))

/-- One update of slot `k` on a sample (R117, R119 to R123). -/
def State.updateLoop (s : State) (n k : Nat) (x : Sample) : State :=
  let r := s.activeRec n k
  let (s0, start) := s.defectStart n k
  let auto := s0.bitOf (R.SRV_CTL.AUTO n) k
  let l := s0.loop n k
  let large := k == 1 && recRep r
  let sf := s0.speedS n (recSched r)
  let man := s0.getS (R.SRV_MAN.Q n k)
  let rr := s0.tableTerm n k r sf x.wedge
  let running := (s0.bay n).servo.infuse.filter fun _ => s0.get (R.INF_CTL.LOOP n) == k
  let (s1, inf) := match running with
    | some f => match s0.infuseCause n f with
      | some c => (s0.infuseEnd n c, none)
      | none => (s0, some f)
    | none => (s0, none)
  match (if s1.defectHeld n k then none else x.input) with
  | none =>
    let act := auto && (l.wasAuto || !l.started)
    let u := heldOutput r act l.gf rr man
    let m : Nodes := { inp := x.input.getD 0, f := 0, r := rr, v := u, u := u, spd := sf }
    let s2 := ((s1.setBitOf (R.SRV_STAT.HELD n) k true).setLoop n k { l with started := true, wasAuto := act }).loopOutput n k u
    let s3 := match inf with | some f => s2.infuseAdvance n f m true | none => s2
    s3.trcRecord n k m start (x.input.isNone && (k == 1 || k == 2)) false
  | some inp =>
    let inj := match inf with | some f => s1.infuseSample n f | none => 0
    let atE := if s1.get (R.INF_CTL.POINT n) = 0 then inj else 0
    let atV := if s1.get (R.INF_CTL.POINT n) = 0 then 0 else inj
    let eRaw := inp + recInt r 4 + atE
    let e := satQ31 eRaw
    let (ys, bqFlags, bs, z) := biquads r (recNbq r) 0 l.bq e
    let pAcc := satAcc (recInt r 88 * z)
    let p := toNode pAcc
    let dAcc := satAcc (recInt r 96 * (z - l.xPrev))
    let d := toNode dAcc
    let ff := if recFf r = 1 then s1.getS (R.SRV_FF.Q n k) else if recFf r = 2 then (s1.loop n 1).lastU else 0
    let f := toNode (satAcc (recInt r 108 * ff))
    let preset := auto && l.started && !l.wasAuto
    let (i0, exact) := if preset then bumpless r sf l.lastU f rr p d else (l.integ, true)
    let c := satAcc (2 ^ 28 * p + i0 + 2 ^ 28 * d)
    let gRaw := rdiv ((sf : Int) * recInt r 104 * c) (2 ^ 84)
    let g := satQ31 gRaw
    let vRaw := g + f + rr + atV
    let v := satQ31 vRaw
    let lo := recInt r 116
    let hi := recInt r 112
    let want := if auto then v else satQ31 (man + atV)
    let u := clampInt lo hi want
    let (i1, iSat) := if auto then integrate r large i0 z u v else (l.integ, false)
    let frozen := k == 3 && s1.on (R.SPIN_STAT.PRED_HOLD n)
    let m : Nodes := { inp := inp, e := e, bq := ys, p := p, i := toNode i0, d := d, g := g, f := f, r := rr, v := v, u := u,
                       inj := inj, spd := sf, limited := decide (u ≠ want) }
    let s2 := (s1.setBitOf (R.SRV_STAT.HELD n) k false).setLoop n k
      { l with bq := bs, xPrev := z, integ := if frozen then i0 else i1, gf := g + f, wasAuto := auto, started := true }
    let s3 := if m.limited then s2.setBitOf (R.SRV_STAT.OUT_SAT n) k true else s2
    let s4 := if exact then s3 else s3.raise (R.SRV_STAT.BUMP_SAT n)
    let (s5, tSat) := if large && s4.on (R.SRV_REP_CTL.LEARN n) && x.accepted && u == v then s4.learnTable n x.wedge e else (s4, false)
    let flags := b2n (e != eRaw) + bqFlags + 32 * b2n (satQ31 (rdiv pAcc (2 ^ 28)) != rdiv pAcc (2 ^ 28)) + 64 * b2n iSat +
      128 * b2n (satQ31 (rdiv dAcc (2 ^ 28)) != rdiv dAcc (2 ^ 28)) + 256 * b2n (g != gRaw) + 512 * b2n (v != vRaw) +
      1024 * b2n tSat + 2048 * b2n m.limited
    let s6 := if large then s5.nodeFlags n k flags else s5
    let s7 := s6.loopOutput n k u
    let stepped := match inf with | some f => f.adv == 0 && !f.meas | none => false
    let s8 := match inf with | some f => s7.infuseAdvance n f m false | none => s7
    s8.trcRecord n k m start false stepped

/-- Queue a sample for an enabled loop (R111). -/
def State.offerSample (s : State) (n k : Nat) (x : Sample) : State :=
  if s.bitOf (R.SRV_CTL.EN n) k then
    s.onServo n fun v => { v with queue := Sparse.put v.queue k (Sparse.get [] v.queue k ++ [x]) }
  else s

/-- SERVO_UPDATE (R111, R117): the oldest sample of the slot. -/
def execServoUpdate (n k : Nat) (s : State) : Host.Outcome State Fault Refusal :=
  s.onBay n fun s =>
    match Sparse.get [] (s.bay n).servo.queue k with
    | [] => s
    | x :: rest =>
      let s1 := s.onServo n fun v => { v with queue := if rest = [] then v.queue.erase k else v.queue.put k rest }
      if s1.bitOf (R.SRV_CTL.EN n) k then s1.updateLoop n k x else s1

/-! ## Commit and modes (R114, R115, R119) -/

/-- Check the shadow record of slot `k` (R114). -/
def State.commitCheck (s : State) (n k : Nat) : State :=
  let why := recFailure (s.shadowRec n k)
  if why = 0 then s.setBitOf (R.SRV_CTL.COMMIT n) k true
  else (s.raise (R.SRV_STAT.COMMIT_REJ n)).recordBay n 0x0403 [(Config.code 114 why).toNat, k]

/-- LOOP_COMMIT (R114): the shadow records named by a mask are checked; those that pass wait for their copy. -/
def execLoopCommit (n mask : Nat) (s : State) : Host.Outcome State Fault Refusal :=
  s.onBay n fun s => (List.range 8).foldl (fun s k => if bitAt mask k then s.commitCheck n k else s) s

/-- LOOP_COMMIT_APPLY (R114, R130): the copy between two updates. -/
def execLoopCommitApply (n k : Nat) (s : State) : Host.Outcome State Fault Refusal :=
  s.onBay n fun s =>
    if k < 8 ∧ s.bitOf (R.SRV_CTL.COMMIT n) k then
      let r := s.shadowRec n k
      (((s.onServo n fun v => { v with active := v.active.put k r }).setBitOf (R.SRV_CTL.COMMIT n) k false).setBitOf
        (R.SRV_STAT.REC_VALID n) k true).infuseStop n k 3
    else s

/-- Whether the host may write EN, AUTO and `SRV_MAN` (R115). -/
def State.loopWriteAllowed (s : State) (n : Nat) : Bool :=
  [BS.BRINGUP, BS.EMPTY, BS.FAULT].contains (s.bayState n) || s.mode == 2

/-- Set EN of one loop as a host write asks (R114): EN = 1 without a valid record is refused. -/
def State.hostEn (s : State) (n k : Nat) (b : Bool) : State :=
  if b && !s.bitOf (R.SRV_STAT.REC_VALID n) k then s.raise (R.SRV_STAT.EN_REJ n) else s.setEn n k b

/-- SRV_EN_WRITE (R114, R115). -/
def execSrvEnWrite (n mask : Nat) (s : State) : Host.Outcome State Fault Refusal :=
  s.onBay n fun s =>
    if s.loopWriteAllowed n then (List.range 8).foldl (fun s k => s.hostEn n k (bitAt mask k)) s
    else s.raise (R.SRV_STAT.EN_REJ n)

/-- SRV_AUTO_WRITE (R115, R119). -/
def execSrvAutoWrite (n mask : Nat) (s : State) : Host.Outcome State Fault Refusal :=
  s.onBay n fun s =>
    if s.loopWriteAllowed n then (List.range 8).foldl (fun s k => s.setAuto n k (bitAt mask k)) s
    else s.raise (R.SRV_STAT.EN_REJ n)

/-- SRV_MAN_WRITE (R115, R136). -/
def execSrvManWrite (n k v : Nat) (s : State) : Host.Outcome State Fault Refusal :=
  s.onBay n fun s =>
    if s.loopWriteAllowed n then (if k < 8 then s.put (R.SRV_MAN.Q n k) v else s) else s.raise (R.SRV_STAT.EN_REJ n)

/-- Zero the repetitive table (R122). -/
def State.clearTable (s : State) (n : Nat) : State :=
  (s.resetRegs (bayBase n + 0x2000) (bayBase n + 0x3000)).zero (R.SRV_REP_CTL.CLEAR n)

/-- REP_TABLE_CLEAR (R122). -/
def execRepTableClear (n : Nat) (s : State) : Host.Outcome State Fault Refusal := s.onBay n fun s => s.clearTable n

/-- DEFECT_HOLD_OVERRUN (R124): the hold passes HOLD_MAX; the loops resume on their measured inputs. -/
def execDefectHoldOverrun (n : Nat) (s : State) : Host.Outcome State Fault Refusal :=
  s.onBay n fun s =>
    if s.on (R.SRV_STAT.DEF_HOLD n) then
      (((s.zero (R.SRV_STAT.DEF_HOLD n)).raise (R.SRV_STAT.DEF_OVR n)).attend n).recordBay n 0x0401
        [(s.bay n).servo.defRise, s.get (R.ANG_STAT.LAYER n), 0]
    else s

/-! ## Trace and Infusion commands -/

/-- Whether Infusion holds the trace buffer (R129). -/
def State.infuseTraces (s : State) (n : Nat) : Bool := s.on (R.INF_STAT.BUSY n) && s.get (R.INF_CTL.MODE n) != 0

/-- TRACE_ARM (R125): starts or restarts a capture; ignored while Infusion mode 1 or 2 runs (R129). -/
def execTraceArm (n : Nat) (s : State) : Host.Outcome State Fault Refusal :=
  s.onBay n fun s =>
    if s.infuseTraces n then s
    else ((((s.raise (R.TRC_STAT.ACTIVE n)).zero (R.TRC_STAT.TRIGGERED n)).zero (R.TRC_STAT.DONE n)).zero (R.TRC_ARM.TRIG_MASK n)).onServo
      n fun v => { v with trc := [], trcTick := 0, trcCount := 0, trcBase := 0 }

/-- TRACE_FORCE (R126): comparator 4 fires on the next recorded sample. -/
def execTraceForce (n : Nat) (s : State) : Host.Outcome State Fault Refusal :=
  s.onBay n fun s => if s.on (R.TRC_STAT.ACTIVE n) then s.raise (R.TRC_ARM.FORCE n) else s

/-- Whether the Infusion parameters lie in their ranges (R127, R143). -/
def State.infuseRanges (s : State) (n : Nat) : Bool :=
  let amp := s.get (R.INF_AMP.AMP n)
  let ok := fun x => decide (1 ≤ x) && decide (x ≤ 0x73333333)
  decide (1 ≤ amp) && decide (amp ≤ 0x20000000)
    && (s.get (R.INF_CTL.MODE n) == 2 || ok (s.get (R.INF_START.INC n)))
    && (s.get (R.INF_CTL.MODE n) != 1 || ok (s.get (R.INF_STOP.INC n)))

/-- INFUSION_START (R127). -/
def execInfusionStart (n : Nat) (s : State) : Host.Outcome State Fault Refusal :=
  s.onBay n fun s =>
    if s.infuseAllowed n && s.bitOf (R.SRV_CTL.EN n) (s.get (R.INF_CTL.LOOP n)) && !s.on (R.INF_STAT.BUSY n) && s.infuseRanges n then
      let nn := s.acting (R.INF_CTL.PRBS_N n) 7 15
      let settled := s.get (R.INF_CYC.SETTLE n) == 0
      let s1 := (((s.raise (R.INF_STAT.BUSY n)).zero (R.INF_STAT.STEP n)).zero (R.INF_STAT.SKIPPED n)).onServo n fun v =>
        { v with infuse := some { lfsr := 2 ^ nn - 1, meas := settled } }
      if s1.get (R.INF_CTL.MODE n) = 0 then s1
      else (((s1.zero (R.TRC_STAT.ACTIVE n)).zero (R.TRC_STAT.TRIGGERED n)).zero (R.TRC_STAT.DONE n)).onServo n fun v => { v with trc := [] }
    else s.raise (R.INF_STAT.REJ n)

/-- INFUSION_STOP (R130 cause 1): it stops at the loop's next update. -/
def execInfusionStop (n : Nat) (s : State) : Host.Outcome State Fault Refusal :=
  s.onBay n fun s => if s.on (R.INF_STAT.BUSY n) then s.infuseStop n (s.get (R.INF_CTL.LOOP n)) 1 else s

end Sys2Proof.Machine
end

