-- ==== Sys2Proof/Machine/Tracker.lean ====
section
/-!
DEFINITION. The angle tracker's counter and updates (04_angle_timebase.md, R89 to R97), and the gains of R104.
Instants are in 1/64 base periods of SCNT, modulo 2^38.
-/

namespace Sys2Proof.Machine

/-- The modulus of instants. -/
def instantMod : Nat := 2 ^ 38

/-- Elapsed time from `a` to `b`. -/
def elapsed (a b : Nat) : Nat := (b + instantMod - a % instantMod) % instantMod

/-- The phase accumulator (54 bits, not reduced) extrapolated at RATE to instant `t` (R89); frozen in `SEEKING` without a
candidate (R96, R97). -/
def State.accRaw (s : State) (n t : Nat) : Nat :=
  let k := (s.bay n).tracker
  if s.get (R.ANG_STAT.STATE n) = 0 ∧ !s.on (R.ANG_STAT.ALIGNED n) then k.acc
  else k.acc + s.get (R.ANG_RATE.RATE n) * elapsed k.at64 t / 64

/-- The counter value at an instant. -/
def State.angAt (s : State) (n t : Nat) : Nat := s.accRaw n t / 2 ^ 30 % 2 ^ 24

/-- Set the accumulator from an integer value at an instant, counting revolutions while aligned (R106). -/
def State.setAcc (s : State) (n t : Nat) (raw : Int) : State :=
  let acc := (raw % (2 ^ 54 : Int)).toNat
  let turns := raw / (2 ^ 54 : Int)
  let s1 := (s.onTracker n fun k => { k with acc := acc, at64 := t % instantMod }).put (R.ANG_NOW.ANGLE n) (acc / 2 ^ 30)
  if s.on (R.ANG_STAT.ALIGNED n) then s1.putS (R.ANG_NOW.REV n) ((s.get (R.ANG_NOW.REV n) : Int) + turns) else s1

/-- Let the counter run to an instant. -/
def State.runTo (s : State) (n t : Nat) : State := s.setAcc n t (s.accRaw n t)

/-- wrap24 of R90: a signed difference of counts. -/
def wrap24 (x : Int) : Int := (x + 2 ^ 23) % 2 ^ 24 - 2 ^ 23

/-- Gains in force (R104): the rate shift is taken as one above the phase shift where it is not greater. -/
def State.wedgeShifts (s : State) (n : Nat) : Nat × Nat :=
  let kp := s.acting (R.ANG_CTL.KP_SHIFT n) 1 6
  let ki := s.acting (R.ANG_CTL.KI_SHIFT n) 3 10
  (kp, if ki ≤ kp then kp + 1 else ki)
@[inherit_doc State.wedgeShifts] def State.toothShifts (s : State) (n : Nat) : Nat × Nat :=
  let kp := s.acting (R.ANG_CTL.TKP_SHIFT n) 1 6
  let ki := s.acting (R.ANG_CTL.TKI_SHIFT n) 2 10
  (kp, if ki ≤ kp then kp + 1 else ki)

/-- The update of R90 with a phase error, at an instant: the phase correction, and the rate times
1 + phi × 2^−KI / interval, where the interval is `num / den` counts. -/
def State.phaseUpdate (s : State) (n t : Nat) (phi : Int) (kp ki num den : Nat) : State :=
  let rate := s.get (R.ANG_RATE.RATE n)
  let s1 := s.setAcc n t ((s.accRaw n t : Int) + phi * 2 ^ (30 - kp))
  let (dr, s2) := s1.roundOpen ((rate : Int) * phi * (den : Int)) (2 ^ ki * num)
  let r := (rate : Int) + dr
  let (v, s3) := if 0 ≤ r ∧ r < 2 ^ 32 then (r.toNat, s2) else s2.fresh 32
  ((s3.put (R.ANG_RATE.RATE n) v).putS (R.ANG_ERR.LAST n) (clampInt (-32767) 32767 phi)).put (R.ANG_ERR.PEAK n)
    (max (s3.get (R.ANG_ERR.PEAK n)) (min 65535 phi.natAbs))

/-- Accept wedge `w` detected at `tau` (R90, R93): phase and rate, MISS_RUN, GOOD_RUN, the last wedge. -/
def State.wedgeAccept (s : State) (n w tau now : Nat) : State :=
  let (kp, ki) := s.wedgeShifts n
  let phi := wrap24 (16384 * (w : Int) - (s.angAt n tau : Int))
  let s1 := s.phaseUpdate n now phi kp ki 16384 1
  ((s1.zero (R.ANG_STAT.MISS_RUN n)).count (R.ANG_STAT.GOOD_RUN n) 1).put (R.ANG_STAT.LAST_W n) w

/-- Miss a wedge (R93, R94): GOOD_RUN is cleared; MISS_RUN advances outside a bridge. -/
def State.wedgeMiss (s : State) (n : Nat) : State :=
  let s1 := (s.count (R.ANG_MISS.MISSED n) 1).zero (R.ANG_STAT.GOOD_RUN n)
  if s1.on (R.ANG_STAT.BRIDGE n) then s1
  else s1.put (R.ANG_STAT.MISS_RUN n) (min 8 (s1.get (R.ANG_STAT.MISS_RUN n) + 1))

/-- Change the tracker state (R96). -/
def State.setTracker (s : State) (n st : Nat) : State := s.put (R.ANG_STAT.STATE n) st

/-- Begin with a candidate wedge (R97 step 1): its instant falls at 16,384 × W; RATE is kept. -/
def State.takeCandidate (s : State) (n w tau now : Nat) : State :=
  let adv := s.get (R.ANG_RATE.RATE n) * elapsed tau now / 64
  let s1 := ((s.onTracker n fun k => { k with acc := (2 ^ 30 * (16384 * w) + adv) % 2 ^ 54, at64 := now % instantMod, candidate := true,
                                              expectW := (w + 1) % 1024, hit := none, detSeen := k.detSeen + 1 }).raise
    (R.ANG_STAT.ALIGNED n)).put (R.ANG_STAT.LAST_W n) w
  let s2 := (s1.put (R.ANG_STAT.GOOD_RUN n) 1).zero (R.ANG_STAT.MISS_RUN n)
  s2.put (R.ANG_NOW.ANGLE n) ((s2.bay n).tracker.acc / 2 ^ 30)

/-- Whether a detection qualifies for the expected wedge (R92). -/
def State.qualifies (s : State) (n tau : Nat) (a : WedgeAddr) : Bool :=
  let w := (s.bay n).tracker.expectW
  let phi := wrap24 (16384 * (w : Int) - (s.angAt n tau : Int))
  decide (-2048 ≤ phi) && decide (phi ≤ 2048) && a.wedge == w && a.layer == s.get (R.ANG_STAT.LAYER n) && a.parity

/-! ## Teeth (R95) -/

/-- How a tooth interval stands to the expected one, T_e = 2^24 / 36 counts at RATE (R95): 0 short, 1 accepted, 2 late. -/
def toothClass (rate dt : Nat) : Nat :=
  let x := dt * rate * 72
  if x < 64 * 2 ^ 54 then 0 else if x ≤ 3 * 64 * 2 ^ 54 then 1 else 2

/-- T_e in 1/64 base periods; 0 where RATE is 0. -/
def toothInterval (rate : Nat) : Nat := if rate = 0 then 0 else 64 * 2 ^ 54 / (36 * rate)

/-- Whether teeth move the counter (R95): in `TOOTH` and `LOST`, not while aligned. -/
def State.teethCarry (s : State) (n : Nat) : Bool :=
  let st := s.get (R.ANG_STAT.STATE n)
  (st == 1 || st == 4) && !s.on (R.ANG_STAT.ALIGNED n)

/-- Accept a tooth (R90, R95): its number in the motor frame advances; where teeth carry the counter, the update. -/
def State.toothAccept (s : State) (n tau : Nat) : State :=
  let k := ((s.bay n).tracker.toothK + 1) % 36
  let s1 := s.onTracker n fun t => { t with toothK := k, toothAt := tau % instantMod, synth := 0 }
  if s1.teethCarry n then
    let (nom, s2) := s1.roundOpen (16777216 * (k : Int)) 36
    let (kp, ki) := s2.toothShifts n
    let s3 := s2.phaseUpdate n tau (wrap24 (nom - (s2.angAt n tau : Int))) kp ki 16777216 36
    if s3.get (R.ANG_STAT.STATE n) = 4 then s3.setTracker n 1 else s3
  else s1

/-- A synthesised tooth, dated T_e after the last (R95). -/
def State.toothInsert (s : State) (n : Nat) : State :=
  (s.count (R.ANG_TOOTH.SYNTH n) 1).onTracker n fun t =>
    { t with toothAt := (t.toothAt + toothInterval (s.get (R.ANG_RATE.RATE n))) % instantMod, toothK := (t.toothK + 1) % 36,
             synth := t.synth + 1 }

/-- A tooth while `SEEKING` (R95): tooth tracking starts once three have arrived with the second interval within 0.5 to
1.5 times the first; RATE is set from the second interval, and the third tooth is tooth 0. -/
def State.toothSeek (s : State) (n tau : Nat) : State :=
  let k := (s.bay n).tracker
  let dt := elapsed k.toothAt tau
  if k.seekTeeth = 0 then s.onTracker n fun t => { t with seekTeeth := 1, toothAt := tau % instantMod }
  else if k.seekTeeth = 1 ∨ dt * 2 < k.seekGap ∨ 3 * k.seekGap < dt * 2 ∨ dt = 0 then
    s.onTracker n fun t => { t with seekTeeth := 2, seekGap := dt, toothAt := tau % instantMod }
  else
    let (r, s1) := s.roundOpen (64 * 2 ^ 54) (36 * dt)
    (((s1.put (R.ANG_RATE.RATE n) (min r (2 ^ 32 - 1)).toNat).setTracker n 1).onTracker n fun t =>
      { t with seekTeeth := 0, toothAt := tau % instantMod, toothK := 0, synth := 0, at64 := tau % instantMod })

end Sys2Proof.Machine
end

