-- ==== Sys2Proof/Machine/Focus.lean ====
section
/-!
DEFINITION. Focus acquisition (R151 to R153), the layer probe, layer jumps (R154, R155), fine jumps and seeks (R156,
R157), the fallback (R160) and the reactions of R162, as operations on one bay; and the commands that are their timers.
-/

namespace Sys2Proof.Machine

/-- The layer a record of this chapter names (R176, R601). -/
def State.layerItem (s : State) (n : Nat) : Nat := s.get (R.FT_STAT.LAYER n)

/-- A record of this chapter: its items, then the layer (R176, R601). -/
def State.recordFocus (s : State) (n code : Nat) (items : List Nat) : State := s.recordBay n code (items ++ [s.layerItem n])

/-! ## Acquisition (R151, R153) -/

/-- Begin the sweep of step 3, or the capture ramp of step 4. -/
def State.beginRamp (s : State) (n : Nat) (stage : AcqStage) : State :=
  let len := 400 * s.acting (R.FOC_ACQ.SRCH_T n) 5 100
  let lo := s.getS (R.FOC_SRCH.SRCH_LO n)
  let s1 := ((s.setAuto n 0 false).setMan n 0 (65536 * lo)).put (R.FT_STAT.FOCUS n) 1
  s1.onFocus n fun f =>
    let g := { f with acq := stage, ramp := 0, rampLen := len, inCurve := false, curveZero := none }
    if stage = .sweep then { g with bestAmp := 0, curves := 0 } else g

/-- Begin the layer probe (R152). -/
def State.beginProbe (s : State) (n : Nat) : State := s.onFocus n fun f => { f with probing := true, probeN := 0 }

/-- Home the SA lens again on optical evidence (R219). -/
def State.saRehome (s : State) (n found : Nat) : State :=
  let f := (s.bay n).focus
  let s1 := s.recordBay n 0x0704 [f.target, found, ofInt 16 (microIndex (s.stepper true n).pos)]
  (((s1.zero (R.STEP_STAT.SA_HOMED n)).zero (R.STEP_STAT.SA_ARRIVED n)).stepHome true n).onFocus n fun f =>
    { f with acq := .saMove, fail35 := 0, wrong6 := 0 }

/-- A stage of acquisition fails (R153): one attempt.  `fuel` bounds the sweeps that fail at once. -/
def State.acqFailFuel (n : Nat) : Nat → Nat → State → State
  | 0, _, s => s
  | fuel + 1, step, s =>
    let fails := (s.bay n).focus.fails + 1
    let run := if step ≤ 5 then (s.bay n).focus.fail35 + 1 else 0
    let s1 := s.onFocus n fun f => { f with fails := fails, fail35 := run, probing := false }
    if s1.acting (R.FOC_ACQ.TRIES n) 1 8 ≤ fails then (s1.recordFocus n 0x0501 [step]).bayFaultStop n 0x0501
    else if step ≤ 5 then
      if 2 ≤ run then
        let (x, s2) := s1.fresh 8
        s2.saRehome n x
      else
        let s2 := s1.beginRamp n .sweep
        if s2.getS (R.FOC_SRCH.SRCH_HI n) ≤ s2.getS (R.FOC_SRCH.SRCH_LO n) then State.acqFailFuel n fuel 3 s2 else s2
    else (s1.onFocus n fun f => { f with acq := .probe }).beginProbe n

/-- A stage of acquisition fails (R153). -/
def State.acqFail (s : State) (n step : Nat) : State := State.acqFailFuel n 9 step s

/-- Step 3 begins (R151): a sweep whose start is not below its end fails at once (R167). -/
def State.beginSweep (s : State) (n : Nat) : State :=
  let s1 := s.beginRamp n .sweep
  if s1.getS (R.FOC_SRCH.SRCH_HI n) ≤ s1.getS (R.FOC_SRCH.SRCH_LO n) then s1.acqFail n 3 else s1

/-- Go on from the SA move when both steppers allow it (R151 steps 2 and 3, R213). -/
def State.acqProceed (s : State) (n : Nat) : State :=
  let f := (s.bay n).focus
  if f.acq = .blocked ∧ s.lasersAllowed then s.acqStep1 n
  else if f.acq = .saMove ∧ s.bayState n = BS.FOCUSING ∧ s.on (R.STEP_STAT.SA_HOMED n) then
    if s.on (R.STEP_STAT.SA_ARRIVED n) then
      (if s.on (R.STEP_STAT.SLED_ARRIVED n) then s.beginSweep n else s)
    else if s.on (R.SA_TGT.GO n) then s
    else s.stepGo true n (s.saTarget n f.target)
  else s

/-- Wedge acquisition begins on the expected layer (R151 step 6, R97): in `LOCKED` it is complete at once. -/
def State.beginWedges (s : State) (n layer : Nat) : State :=
  let s1 := (s.put (R.ANG_STAT.LAYER n) layer).startAcq n
  s1.onFocus n fun f => { f with acq := if s1.on (R.ANG_STAT.ACQ n) then .wedges else .track, prevTrack := none }

/-! ## Layer jumps (R154, R155) -/

/-- The jump's next layer on the way to its end. -/
def nextLayer (a b : Nat) : Nat := if a < b then a + 1 else a - 1

/-- Begin a layer jump or a series (R154 steps 1 and 2). -/
def State.beginJump (s : State) (n from_ final : Nat) : State :=
  let nx := nextLayer from_ final
  let s1 := ((s.setLearn n false).setAuto n 1 false).openBridge n 1023 nx
  let s2 := s1.onFocus n fun f => { f with jump := .saWait, jumpTo := nx, jumpEnd := final, saFrom := (s1.stepper true n).pos,
                                            fine := .off, probing := false }
  ((s2.zero (R.STEP_STAT.SA_ARRIVED n)).put (R.FT_STAT.FOCUS n) 3).stepGo true n (s2.saTarget n final)

/-- The kick (R154 step 3): positive towards a lower layer number. -/
def State.jumpKick (s : State) (n : Nat) : State :=
  let f := (s.bay n).focus
  let base := (s.loop n 0).lastU
  let amp : Int := s.get (R.LJ_KICK.AMP n) * 65536
  let dir : Int := if f.jumpEnd < s.get (R.FT_STAT.LAYER n) then 1 else -1
  ((s.setAuto n 0 false).setMan n 0 (satQ31 (base + dir * amp))).onFocus n fun f => { f with jump := .kick, jumpBase := base, jumpDir := dir }

/-- Whether the SA move has covered SA_START of its distance (R154 step 3). -/
def State.saStarted (s : State) (n : Nat) : Bool :=
  let f := (s.bay n).focus
  let p := s.stepper true n
  let tgt := clampInt (s.stepMin true n) (s.stepMax true n) (posValue true (s.get (R.SA_TGT.POS n))) * 65536
  decide ((tgt - f.saFrom).natAbs * s.acting (R.LJ_CTL.SA_START n) 0 100 ≤ (p.pos - f.saFrom).natAbs * 100)

/-- Kick if the SA move has come far enough. -/
def State.jumpProceed (s : State) (n : Nat) : State :=
  match (s.bay n).focus.jump with
  | .saWait => if s.saStarted n then s.jumpKick n else s
  | .probe => if s.on (R.STEP_STAT.SA_ARRIVED n) && !(s.bay n).focus.probing then s.beginProbe n else s
  | _ => s

/-- A jump fails (R155): during acquisition it is a failure at step 6; elsewhere the bay enters `RECOVERY` and goes on to
`FOCUSING` on the intended layer. -/
def State.jumpFail (s : State) (n found : Nat) : State :=
  let f := (s.bay n).focus
  let s1 := (s.recordFocus n 0x0508 [f.jumpEnd, found]).onFocus n fun f => { f with jump := .off, probing := false }
  if s1.bayState n = BS.FOCUSING then (s1.closeBridge n).acqFail n 6 else s1.enterRecovery n 0x0508 true f.jumpEnd

/-- The layer probe has found a layer (R152, R151 step 6, R154 step 8). -/
def State.probeFound (s : State) (n layer : Nat) : State :=
  let f := (s.bay n).focus
  let s1 := s.onFocus n fun f => { f with probing := false }
  if f.jump = .probe then
    if layer = f.jumpEnd then
      let s2 := ((s1.closeBridge n).put (R.FT_STAT.LAYER n) layer).onFocus n fun f => { f with jump := .track, prevTrack := none }
      if f.acq = .probe then (s2.onFocus n fun f => { f with jump := .off, wrong6 := 0 }).beginWedges n layer else s2
    else s1.jumpFail n layer
  else if f.acq = .probe then
    if layer = f.target then
      ((s1.put (R.FT_STAT.LAYER n) layer).onFocus n fun f => { f with wrong6 := 0 }).beginWedges n layer
    else
      let s2 := s1.onFocus n fun f => { f with wrong6 := f.wrong6 + 1 }
      if 2 ≤ f.wrong6 + 1 then s2.saRehome n layer
      else (s2.put (R.FT_STAT.LAYER n) layer).beginJump n layer f.target
  else s1

/-- A detection for the layer probe (R152): any whose parity checks. -/
def State.probeDetection (s : State) (n layer : Nat) : State :=
  let f := (s.bay n).focus
  if f.probing then
    let k := if f.probeN = 0 ∨ f.probeL ≠ layer then 1 else f.probeN + 1
    let s1 := s.onFocus n fun f => { f with probeL := layer, probeN := k }
    if s1.acting (R.LJ_CTL.PROBE_N n) 2 15 ≤ k then s1.probeFound n layer else s1
  else s

/-! ## Fine jumps and seeks (R156, R157) -/

/-- The bridge of a fine jump of `d` tracks (R156): ceil of kick, brake and settle over the wedge period. -/
def State.fineBridge (s : State) (n d : Nat) : Nat :=
  let q := s.get (R.TJ_TAB.KICK_T n (d - 1)) + s.get (R.TJ_TAB.BRAKE_T n (d - 1)) + 4 * s.acting (R.TRK_ADV.TJ_SETTLE n) 0 200
  (q * 320 * s.get (R.ANG_RATE.RATE n) + (16384 * 2 ^ 30 - 1)) / (16384 * 2 ^ 30)

/-- Kick of a fine jump (R156 steps 1 and 2): positive drive moves the spot towards the rim. -/
def State.fineKick (s : State) (n : Nat) (d : Int) : State :=
  let k := clampNat 1 16 d.natAbs
  let base := (s.loop n 1).lastU
  let amp : Int := 2 ^ 23 * s.get (R.TJ_TAB.AMP n (k - 1))
  let s1 := ((s.setLearn n false).setAuto n 1 false).openBridge n (s.fineBridge n k) (s.get (R.ANG_STAT.LAYER n))
  (s1.setMan n 1 (satQ31 (base + d.sign * amp))).onFocus n fun f =>
    { f with fine := .kick, fineD := d, fineBase := base, expTrack := f.expTrack + d }

/-- Ask for a fine jump of `d` tracks: at most 16 at once, the rest to follow (R156). -/
def State.fineJump (s : State) (n : Nat) (d : Int) : State :=
  if d = 0 then s
  else
    let c := clampInt (-16) 16 d
    s.onFocus n fun f => { f with fine := .due, fineD := c, fineLeft := d - c }

/-- A coarse step (R157 step 2): tracking in manual at 0, a bridge, and the sled moved by the distance. -/
def State.coarseStep (s : State) (n : Nat) (d : Int) : State :=
  let s1 := (((s.setLearn n false).setAuto n 1 false).setMan n 1 0).openBridge n 1023 (s.get (R.ANG_STAT.LAYER n))
  let p := microIndex (s1.stepper false n).pos
  ((s1.onFocus n fun f => { f with coarseOn := true, coarse := f.coarse + 1, fine := .off }).stepHold false n).stepGo false n
    (p + rdiv (4096 * d) 10000)

/-- Go on with a seek from the present track (R157). -/
def State.seekProceed (s : State) (n : Nat) : State :=
  let f := (s.bay n).focus
  match f.seekTo with
  | none => s
  | some t =>
    let d := t - s.getTrack (R.FT_STAT.TRACK n)
    if d = 0 then s.onFocus n fun f => { f with seekTo := none, coarse := 0, fineSlips := 0 }
    else if d.natAbs ≤ 64 then s.fineJump n d
    else if 3 ≤ f.coarse then
      (s.recordFocus n 0x0507 [ofInt 18 t, s.get (R.FT_STAT.TRACK n)]).enterRecovery n 0x0507 false (s.get (R.FT_STAT.LAYER n))
    else s.coarseStep n d

/-- Begin a seek to a track (R157). -/
def State.seek (s : State) (n : Nat) (t : Int) : State :=
  (s.onFocus n fun f => { f with seekTo := some t, coarse := 0, fineSlips := 0 }).seekProceed n

/-! ## Fallback (R160) -/

/-- Count a side beam's offset (R160): `wide` tells |d_x| > SIDE_LIM; `beam` 0 is I, 2 is O. -/
def State.sideCount (s : State) (n beam : Nat) (wide : Bool) (ofs : Int) : State :=
  let f := (s.bay n).focus
  let c := if wide then (if beam = 0 then f.sideI else f.sideO) + 1 else 0
  let s1 := s.onFocus n fun f => if beam = 0 then { f with sideI := c } else { f with sideO := c }
  let layer := s1.get (R.FT_STAT.LAYER n)
  if c = s1.acting (R.TRK_SIDE.SIDE_RUN n) 16 1023 ∧ s1.on (R.FT_CTL.FALLBACK_EN n) ∧ !s1.bitOf (R.TRK_FALLBACK.LAYERS n) layer then
    (s1.setBitOf (R.TRK_FALLBACK.LAYERS n) layer true).recordFocus n 0x0509 [beam, ofInt 16 ofs]
  else s1

/-! ## Timers of this chapter -/

/-- FOCUS_SWEEP_END (R151 steps 3 and 4): the strongest curve is chosen and the capture begins, or the stage fails. -/
def execFocusSweepEnd (n : Nat) (s : State) : Host.Outcome State Fault Refusal :=
  s.onBay n fun s =>
    let f := (s.bay n).focus
    match f.acq with
    | .sweep => if 0 < f.curves then s.beginRamp n .capture else s.acqFail n 3
    | .capture => s.acqFail n 4
    | _ => s

/-- FOCUS_SETTLE_END (R151 step 5). -/
def execFocusSettleEnd (n : Nat) (s : State) : Host.Outcome State Fault Refusal :=
  s.onBay n fun s =>
    if (s.bay n).focus.acq = .settle then (s.onFocus n fun f => { f with acq := .probe, fail35 := 0 }).beginProbe n else s

/-- LAYER_PROBE_FAIL (R152): a failure of the acquisition or of the jump that probes. -/
def execLayerProbeFail (n : Nat) (s : State) : Host.Outcome State Fault Refusal :=
  s.onBay n fun s =>
    let f := (s.bay n).focus
    if f.probing then
      if f.jump = .probe then
        let (x, s1) := s.fresh 8
        s1.jumpFail n x
      else if f.acq = .probe then s.acqFail n 6
      else s.onFocus n fun f => { f with probing := false }
    else s

/-- TRACKING_CLOSE_TIMEOUT (R151, R153): tracking has not closed within 16 revolutions. -/
def execTrackingCloseTimeout (n : Nat) (s : State) : Host.Outcome State Fault Refusal :=
  s.onBay n fun s =>
    let f := (s.bay n).focus
    if (f.acq = .track ∨ f.acq = .tilt) ∧ s.bayState n = BS.FOCUSING then s.acqFail n 7 else s

/-- LJ_KICK_END (R154 step 4): the output returns to the last automatic value. -/
def execLjKickEnd (n : Nat) (s : State) : Host.Outcome State Fault Refusal :=
  s.onBay n fun s =>
    let f := (s.bay n).focus
    if f.jump = .kick then (s.setMan n 0 f.jumpBase).onFocus n fun f => { f with jump := .leaving } else s

/-- LJ_BRAKE_END (R154 step 6). -/
def execLjBrakeEnd (n : Nat) (s : State) : Host.Outcome State Fault Refusal :=
  s.onBay n fun s =>
    let f := (s.bay n).focus
    if f.jump = .brake then (s.setMan n 0 f.jumpBase).onFocus n fun f => { f with jump := .close } else s

/-- LJ_CLOSE_TIMEOUT (R155). -/
def execLjCloseTimeout (n : Nat) (s : State) : Host.Outcome State Fault Refusal :=
  s.onBay n fun s =>
    if (s.bay n).focus.jump = .close then
      let (x, s1) := s.fresh 8
      s1.jumpFail n x
    else s

/-- LJ_SETTLE_END (R154 steps 7 and 8): the next jump of a series, or the probe once the SA move is complete. -/
def execLjSettleEnd (n : Nat) (s : State) : Host.Outcome State Fault Refusal :=
  s.onBay n fun s =>
    let f := (s.bay n).focus
    if f.jump = .settle then
      if f.jumpTo = f.jumpEnd then (s.onFocus n fun f => { f with jump := .probe }).jumpProceed n
      else
        let nx := nextLayer f.jumpTo f.jumpEnd
        ((s.openBridge n 1023 nx).onFocus n fun f => { f with jump := .saWait, jumpTo := nx }).jumpProceed n
    else s

/-- TJ_KICK_END (R156): the opposite drive. -/
def execTjKickEnd (n : Nat) (s : State) : Host.Outcome State Fault Refusal :=
  s.onBay n fun s =>
    let f := (s.bay n).focus
    if f.fine = .kick then
      let amp : Int := 2 ^ 23 * s.get (R.TJ_TAB.AMP n (clampNat 1 16 f.fineD.natAbs - 1))
      (s.setMan n 1 (satQ31 (f.fineBase - f.fineD.sign * amp))).onFocus n fun f => { f with fine := .brake }
    else s

/-- TJ_BRAKE_END (R156): the last automatic output is held. -/
def execTjBrakeEnd (n : Nat) (s : State) : Host.Outcome State Fault Refusal :=
  s.onBay n fun s =>
    let f := (s.bay n).focus
    if f.fine = .brake then (s.setMan n 1 f.fineBase).onFocus n fun f => { f with fine := .settle } else s

/-- TJ_SETTLE_END (R156). -/
def execTjSettleEnd (n : Nat) (s : State) : Host.Outcome State Fault Refusal :=
  s.onBay n fun s => if (s.bay n).focus.fine = .settle then s.onFocus n fun f => { f with fine := .confirm } else s

/-- FALLBACK_CLEAR_WRITE (R160): the layers of the mask return to three beams at the next advance. -/
def execFallbackClearWrite (n mask : Nat) (s : State) : Host.Outcome State Fault Refusal :=
  s.onBay n fun s =>
    let v := s.get (R.TRK_FALLBACK.LAYERS n)
    s.put (R.TRK_FALLBACK.LAYERS n) (v - (v &&& mask))

/-- RECOVERY_TIMEOUT (R163): step 2 has not completed within REC_TMO. -/
def execRecoveryTimeout (n : Nat) (s : State) : Host.Outcome State Fault Refusal :=
  s.onBay n fun s =>
    if s.bayState n = BS.RECOVERY then s.startFocusing n (s.bay n).focus.retLayer Why.sequence 0 else s

end Sys2Proof.Machine
end

