-- ==== Sys2Proof/Machine/Spindle.lean ====
section
/-!
DEFINITION. The spindle unit (07_spindle.md): spin-up (R183), speed measurement and the speed conditions (R184 to R186),
the current loops (R177 to R180), stopping (R188 to R190), back-EMF monitoring (R191) and faults (R192).
Speeds are in rpm × 2^54 where measured, rpm × 1.28 × 10^9 where commanded.
-/

namespace Sys2Proof.Machine

/-- Base clock of R61. -/
def baseHz : Nat := 1280000000

/-- ω of R184 from RATE: RATE × 76.8 × 10^9 in units of 2^-54 rpm. -/
def rateOmega (rate : Nat) : Nat := 76800000000 * rate

/-- The PHASE and ω that records of this chapter end with (R201, R601). -/
def State.recordSpin (s : State) (n code : Nat) (items : List Nat) : State :=
  s.recordBay n code (items ++ [s.get (R.SPIN_STAT.PHASE n), s.get (R.SPIN_RPM.RPM n)])

/-- Show ω and ω_ref (R200), each one of the two neighbouring integers. -/
def State.showSpeed (s : State) (n : Nat) : State :=
  let p := (s.bay n).spin
  let (a, s1) := s.roundOpen (p.omega : Int) (2 ^ 54)
  let (b, s2) := s1.roundOpen (p.ref : Int) baseHz
  (s2.put (R.SPIN_RPM.RPM n) (min a 65535).toNat).put (R.SPIN_RPM.REF n) (min b 65535).toNat

/-! ## Spin-up (R183) -/

/-- Step 1: align. -/
def State.spinAlign (s : State) (n : Nat) : State :=
  let s1 := (((s.put (R.SPIN_STAT.PHASE n) 1).zero (R.SPIN_STAT.STOPPED n)).setEn n 6 true).setEn n 7 true
  ((s1.setAuto n 6 true).setAuto n 7 true).onSpin n fun p =>
    { p with step := 1, atHold := false, theta := 0, forced := 0, agree := 0, dirNow := s.get (R.SPIN_CTL.DIR n), wanted := false,
             stop := none, samples := [], overRun := 0, emfRun := 0, predRun := 0, iD := 0, iQ := 0 }

/-- Begin a spin-up (R183, R190): a rotor that may still turn is first braked with the zero vector; one that coasts from
below REV_THR, or is stopped, is aligned at once. -/
def State.spinUp (s : State) (n : Nat) : State :=
  let ph := s.get (R.SPIN_STAT.PHASE n)
  if ph = 0 ∨ (ph = 6 ∧ (s.bay n).spin.lowCoast) then s.spinAlign n
  else (s.spinZero n).onSpin n fun p => { p with wanted := true }

/-- Enter COAST; a spin-up that waits begins (R183, R190). -/
def State.spinRest (s : State) (n : Nat) (low : Bool) : State :=
  let s1 := s.spinCoast n low
  if (s1.bay n).spin.wanted then s1.spinAlign n else s1

/-- A start attempt fails at a step (R183): braked by R189 and tried again, or `FAULT`. -/
def State.startFail (s : State) (n step : Nat) : State :=
  let s1 := (s.count (R.SPIN_COUNT.START_FAIL n) 1).onSpin n fun p => { p with fails := p.fails + 1 }
  if s1.acting (R.SPIN_START.TRIES n) 1 8 ≤ (s1.bay n).spin.fails then
    (s1.recordSpin n 0x0601 [step]).bayFault n 0x0601 fun t => t.spinZero n
  else (s1.spinZero n).onSpin n fun p => { p with wanted := true }

/-- Step 3: an observer tooth while the forced speed is held; at the 12th agreeing one, handover. -/
def State.observerTooth (s : State) (n : Nat) (agrees : Bool) : State :=
  let p := (s.bay n).spin
  if s.get (R.SPIN_STAT.PHASE n) = 2 ∧ p.atHold then
    let k := if agrees then p.agree + 1 else 0
    if k = 12 then
      let s1 := ((s.put (R.SPIN_STAT.PHASE n) 3).setEn n 3 true).setAuto n 3 false
      (s1.setMan n 3 (s1.getS (R.SPIN_OPEN.OL_I n) * 65536)).onSpin n fun p => { p with agree := 0, step := 3 }
    else s.onSpin n fun p => { p with agree := k }
  else s

/-- Set the target speed (R185): outside 1,500 to 10,000 rpm it acts as the nearest limit; the ramp starts from the
present reference. -/
def State.setTarget (s : State) (n rpm : Nat) : State :=
  let t := clampNat 1500 10000 rpm
  let s1 := s.put (R.SPIN_TGT.TGT n) t
  if (s1.bay n).spin.ref = t * baseHz then s1
  else (((s1.raise (R.SPIN_STAT.RAMP n)).zero (R.SPIN_STAT.AT_SPEED n)).zero (R.SPIN_STAT.WR_OK n)).onSpin n fun p => { p with samples := [] }

/-- Step 4: the tracker has entered `TOOTH`; the speed loop closes and the ramp starts from the measured speed. -/
def State.spinAutoSpeed (s : State) (n : Nat) : State :=
  if (s.bay n).spin.step = 3 then
    let om := rateOmega (s.get (R.ANG_RATE.RATE n))
    let s1 := (s.setAuto n 3 true).onSpin n fun p => { p with step := 4, omega := om, ref := om * baseHz / 2 ^ 54 }
    s1.setTarget n (s1.acting (R.SPIN_TGT.MOUNT_RPM n) 2000 6000)
  else s

/-! ## Speed samples (R184, R186, R192) -/

/-- Whether a speed lies within a tolerance of TGT, `tol` in parts of `den`. -/
def withinTol (om tgt tol den : Nat) : Bool :=
  decide (((om : Int) - (2 ^ 54 * tgt : Nat)).natAbs * den ≤ 2 ^ 54 * (tol * tgt))

/-- AT_SPEED and WR_OK from the samples since RAMP became 0 (R186). -/
def State.speedFlags (s : State) (n : Nat) : State :=
  let l := (s.bay n).spin.samples
  let tgt := s.get (R.SPIN_TGT.TGT n)
  let ramp := s.on (R.SPIN_STAT.RAMP n)
  let at_ := !ramp && decide (4 ≤ l.length) && (l.take 4).all fun o => withinTol o tgt (s.acting (R.SPIN_TOL.RD_TOL n) 1 50) 1000
  let wr := at_ && decide (32 ≤ l.length) && ((l.take 32).all fun o => withinTol o tgt (s.acting (R.SPIN_TOL.WR_TOL n) 1 63) 10000)
    && decide (tgt ≤ min 6000 (s.wrRpmMax n))
  (s.putB (R.SPIN_STAT.AT_SPEED n) at_).putB (R.SPIN_STAT.WR_OK n) wr

/-- A speed sample (R184): slot 3's input, the speed conditions, overspeed. -/
def State.speedSample (s : State) (n om : Nat) : State :=
  let ramp := s.on (R.SPIN_STAT.RAMP n)
  let ph := s.get (R.SPIN_STAT.PHASE n)
  let fast := (ph == 3 || ph == 4 || ph == 5) && decide (2 ^ 54 * s.acting (R.SPIN_MON.OVS_RPM n) 6000 12000 < om)
  let s1 := (s.onSpin n fun p =>
    { p with omega := om, samples := (if ramp then [] else (om :: p.samples).take 32), overRun := (if fast then p.overRun + 1 else 0),
             overPeak := (if fast then max om p.overPeak else 0) }).showSpeed n
  let (x, s2) := s1.roundOpen (((s1.bay n).spin.ref * 2 ^ 71 : Nat) - (2 ^ 17 * (om * baseHz) : Nat)) (2 ^ 54 * baseHz)
  let s3 := (s2.offerSample n 3 ⟨some (satQ31 x), 0, true⟩).speedFlags n
  if 4 ≤ (s3.bay n).spin.overRun then
    (s3.recordSpin n 0x0603 [(s3.bay n).spin.overPeak / 2 ^ 54]).bayFault n 0x0603 fun t => t.spinZero n
  else if (s3.bay n).spin.step = 4 ∧ s3.on (R.SPIN_STAT.AT_SPEED n) then
    let s4 := s3.onSpin n fun p => { p with step := 0, fails := 0 }
    if s4.bayState n = BS.SPINUP then s4.startFocusing n 0 Why.sequence 0 else s4
  else s3

/-- Observer loss (R192): during spin-up a failed attempt, otherwise `FAULT` and COAST at once. -/
def State.observerLoss (s : State) (n emf : Nat) : State :=
  let ph := s.get (R.SPIN_STAT.PHASE n)
  if ph = 3 ∨ ph = 4 then
    if s.bayState n = BS.SPINUP then s.startFail n (s.bay n).spin.step
    else (s.recordSpin n 0x0605 [emf]).bayFault n 0x0605 fun t => t.spinCoast n false
  else s

/-! ## Back-EMF constant (R191) -/

/-- A revolution ends: the averaged estimate updates KE_RUN. -/
def State.keRevolution (s : State) (n : Nat) : State :=
  let p := (s.bay n).spin
  let s0 := s.onSpin n fun p => { p with keSum := 0, keNum := 0, kePer := 0, keSlow := false, keTeeth := 0 }
  if p.keSlow ∨ p.keNum = 0 ∨ p.omega = 0 ∨ p.keNum * 10 < p.kePer * 9 then s0
  else
    let (k, s1) := s0.roundOpen (2 ^ 38 * (1000 * p.keSum)) (p.keNum * p.omega)
    let est := (clampInt 0 65535 k).toNat
    let nom := s1.acting (R.SPIN_MOTOR.KE_NOM n) 100 30000
    let tol := s1.acting (R.SPIN_TOL.KE_TOL n) 5 30
    let out := decide ((est : Int) * 100 < nom * (100 - tol)) || decide (nom * (100 + tol) < est * 100)
    let s2 := (s1.put (R.SPIN_KE.KE_EST n) est).put (R.SPIN_KE.KE_RUN n) (if out then min 255 (s1.get (R.SPIN_KE.KE_RUN n) + 1) else 0)
    if s2.acting (R.SPIN_MON.KE_REVS n) 10 255 ≤ s2.get (R.SPIN_KE.KE_RUN n) ∧
        (s2.get (R.SPIN_STAT.PHASE n) = 3 ∨ s2.get (R.SPIN_STAT.PHASE n) = 4) then
      ((s2.raise (R.SPIN_STAT.KE_ABN n)).recordSpin n 0x0602 [est, s2.get (R.SPIN_MOTOR.KE_NOM n)]).bayFault n 0x0602 fun t => t.spinZero n
    else s2

/-! ## The current loops (R177 to R180) -/

/-- √3 × 2^64. -/
def sqrt3x64 : Int := 31950697969885030203

/-- Rotate a vector by a phase, × 2^64: (x cos − y sin, x sin + y cos). -/
def rotate (x y : Int) (phase : Nat) : Int × Int :=
  let c := cosTurn phase
  let d := sinTurn phase
  (x * c - y * d, x * d + y * c)

/-- Electrical speed in turns of 2^32 per base period, × 2^64, from ω: 6 pole pairs. -/
def elecStep (om : Nat) : Nat := 2 ^ 42 * (om * 6) / (60 * baseHz)

/-- ω_e × L in mΩ × 2^32, from ω (rpm × 2^54) and L in 0.1 µH: 2π × 6 × ω / 60 × L × 10^-4 mΩ. -/
def reactance (om l : Nat) : Int :=
  (om : Int) * (2 * halfPi64) * 2 * 6 * (l : Int) / (60 * 10000 * 2 ^ 86)

/-- Bus voltage in mV (R177 step 3). -/
def State.busMv (s : State) (n : Nat) : Nat :=
  (s.bay n).spin.vbus * s.acting (R.SPIN_VBUS.VBUS_FS n) 100 10000 * 10 / 32768

/-- A slot output as millivolts × 2^32: 1.0 is VBUS / √3. -/
def State.voltMv (s : State) (n : Nat) (v : Int) : Int := 2 ^ 65 * (v * (s.busMv n : Int)) / sqrt3x64

/-- A current in mA × 2^32. -/
def State.currMa (s : State) (n : Nat) (i : Int) : Int := i * (s.acting (R.SPIN_SENSE.ISENSE_FS n) 100 20000 : Int) * 2

/-- Back-EMF and cross-coupling of both axes, mV × 2^32 (R178, R179): (−ω_e L i_q, ω_e L i_d + K_e ω). -/
def State.coupling (s : State) (n : Nat) (iD iQ : Int) : Int × Int :=
  let om := (s.bay n).spin.omega
  let x := reactance om (s.acting (R.SPIN_SENSE.L_PH n) 1 65535)
  let ke : Int := (s.acting (R.SPIN_MOTOR.KE_NOM n) 100 30000 : Int) * om / (1000 * 2 ^ 22)
  (-(x * s.currMa n iQ / (1000 * 2 ^ 32)), x * s.currMa n iD / (1000 * 2 ^ 32) + ke)

/-- The predicted current of a period (R179), one of the two neighbours. -/
def State.predictAxis (s : State) (n tpwm : Nat) (i v e : Int) : Int × State :=
  let r : Int := s.acting (R.SPIN_MOTOR.R_PH n) 1 65535
  let drop := s.voltMv n v - r * s.currMa n i / 1000 - e
  let l := s.acting (R.SPIN_SENSE.L_PH n) 1 65535
  let fs := s.acting (R.SPIN_SENSE.ISENSE_FS n) 100 20000
  let (d, s1) := s.roundOpen (drop * (tpwm : Int) * 10000000) (baseHz * l * fs * 2)
  (satQ31 (i + d), s1)

/-- The decoupling terms of R178 in the voltage units of R177. -/
def State.decouple (s : State) (n : Nat) (iD iQ : Int) : State :=
  if s.on (R.SPIN_CTL.DECOUPLE n) ∧ s.busMv n ≠ 0 then
    let (d, q) := s.coupling n iD iQ
    let (a, s1) := s.roundOpen (d * sqrt3x64) (s.busMv n * 2 ^ 65)
    let (b, s2) := s1.roundOpen (q * sqrt3x64) (s1.busMv n * 2 ^ 65)
    (s2.putS (R.SRV_FF.Q n 6) (satQ31 a)).putS (R.SRV_FF.Q n 7) (satQ31 b)
  else s

/-- The duty of a phase value (R177 steps 4 and 5): value × 2^64 less the middle of the extremes. -/
def duty (x mid : Int) : Int :=
  clampInt 0 65535 (rdiv (65536 * (2 ^ 31 * sqrt3x64 + 2 * (x - mid) )) (2 ^ 32 * sqrt3x64.toNat))

/-- Send a PWM frame naming a period (R69). -/
def State.sendPwm (s : State) (n period : Nat) (du dv dw : Int) : State :=
  s.send n 0x14 (period % 65536) [block16 du dv dw 0]

/-- Run slots 6 and 7 on a current sample and answer with the PWM frame of period P + 2 (R177). -/
def State.currentStep (s : State) (n tpwm theta period : Nat) (iD iQ : Int) : State :=
  let ph := s.get (R.SPIN_STAT.PHASE n)
  let dRef := if ph = 1 then s.getS (R.SPIN_START.ALIGN_I n) * 65536 else if ph = 2 then s.getS (R.SPIN_OPEN.OL_I n) * 65536 else 0
  let qRef := if ph = 3 ∨ ph = 4 then (s.loop n 3).lastU else 0
  let s1 := if ph = 3 ∨ ph = 4 then s.decouple n iD iQ else s
  let s2 := if s1.bitOf (R.SRV_CTL.EN n) 6 then s1.updateLoop n 6 ⟨some (satQ31 (dRef - iD)), 0, true⟩ else s1
  let s3 := if s2.bitOf (R.SRV_CTL.EN n) 7 then s2.updateLoop n 7 ⟨some (satQ31 (qRef - iQ)), 0, true⟩ else s2
  let d := (s3.loop n 6).lastU
  let q := (s3.loop n 7).lastU
  let mag2 := (d * d + q * q).toNat
  let (vD, vQ, s4) := if 2 ^ 62 < mag2 then
      let m := Nat.sqrt mag2
      let (a, t1) := s3.roundOpen (2 ^ 31 * d) m
      let (b, t2) := t1.roundOpen (2 ^ 31 * q) m
      (a, b, t2.raise (R.SPIN_STAT.VSAT n))
    else (d, q, s3)
  let lead := 3 * tpwm * elecStep (if ph = 2 then (s4.bay n).spin.forced * 2 ^ 54 / baseHz else (s4.bay n).spin.omega) / 2 ^ 65
  let (al, be) := rotate vD vQ ((theta + lead) % 2 ^ 32)
  let u := al
  let v := (-al) / 2 + be * sqrt3x64 / 2 ^ 65
  let w := (-al) / 2 - be * sqrt3x64 / 2 ^ 65
  let mid := (max u (max v w) + min u (min v w)) / 2
  let (v', w') := if (s4.bay n).spin.dirNow = 1 then (w, v) else (v, w)
  let scale : Int → Int := fun x => duty (x / 2) (mid / 2)
  (s4.onSpin n fun p => { p with iD := iD, iQ := iQ, vD := vD, vQ := vQ }).sendPwm n (period + 2) (scale u) (scale v') (scale w')

/-- Advance the forced angle and speed of open loop (R183 step 2). -/
def State.forcedStep (s : State) (n tpwm : Nat) : State :=
  let p := (s.bay n).spin
  let hold := s.acting (R.SPIN_START.OBS_MIN n) 5 50 * 10 * baseHz
  let f := min hold (p.forced + s.acting (R.SPIN_OPEN.OL_ACCEL n) 10 255 * 10 * tpwm)
  s.onSpin n fun p => { p with forced := f, atHold := decide (f = hold),
                               theta := (p.theta + 2 ^ 32 * (f * tpwm) / (10 * baseHz * baseHz)) % 2 ^ 32 }

/-- Move ω_ref for one period (R185, R188): towards TGT, or to 0 in a stop. -/
def State.rampStep (s : State) (n tpwm : Nat) : State :=
  let p := (s.bay n).spin
  let tgt := if p.stop = none then s.get (R.SPIN_TGT.TGT n) * baseHz else 0
  let up := s.acting (R.SPIN_RAMP.ACCEL n) 100 20000 * tpwm
  let down := s.acting (R.SPIN_RAMP.DECEL n) 100 20000 * tpwm
  let r := if p.ref < tgt then min tgt (p.ref + up) else max tgt (p.ref - down)
  let s1 := s.onSpin n fun p => { p with ref := r }
  if r = tgt ∧ s1.on (R.SPIN_STAT.RAMP n) then (s1.zero (R.SPIN_STAT.RAMP n)).onSpin n fun p => { p with samples := [] } else s1

/-- VBUS braking and the low-speed ends of the controlled stop (R188). -/
def State.stopStep (s : State) (n : Nat) : State :=
  let p := (s.bay n).spin
  let vmax := s.get (R.SPIN_VBUS.VBUS_MAX n)
  if p.omega < 2 ^ 54 * s.acting (R.SPIN_TOL.REV_THR n) 10 300 then s.spinRest n true
  else if p.omega < s.acting (R.SPIN_START.OBS_MIN n) 5 50 * 10 * 2 ^ 54 then s.spinZero n
  else if !p.busBrake && decide (vmax ≤ p.vbus) then
    let s1 := (s.put (R.SPIN_STAT.PHASE n) 5).onSpin n fun p => { p with busBrake := true, busRec := true }
    if p.busRec then s1 else s1.recordSpin n 0x0609 [p.vbus]
  else if p.busBrake && decide (p.vbus + 2048 < vmax) then
    (s.put (R.SPIN_STAT.PHASE n) 4).onSpin n fun p => { p with busBrake := false }
  else s

/-- The end of a run of predicted periods (R180). -/
def State.predictEnd (s : State) (n : Nat) : State :=
  let p := (s.bay n).spin
  let s1 := s.onSpin n fun p => { p with predRun := 0 }
  if s1.on (R.SPIN_STAT.PRED_HOLD n) then (s1.zero (R.SPIN_STAT.PRED_HOLD n)).recordSpin n 0x0607 [p.predRun] else s1

/-- One more predicted period (R179, R180). -/
def State.predictCount (s : State) (n : Nat) : State :=
  let s1 := (s.count (R.SPIN_COUNT.PRED n) 1).onSpin n fun p => { p with predRun := p.predRun + 1 }
  if (s1.bay n).spin.predRun = 17 ∧ !s1.on (R.SPIN_STAT.PRED_HOLD n) then
    (s1.raise (R.SPIN_STAT.PRED_HOLD n)).recordSpin n 0x0606 [(s1.bay n).spin.lastWin]
  else s1

/-- The low back-EMF count of R192. -/
def State.emfCount (s : State) (n emf : Nat) : State :=
  let ph := s.get (R.SPIN_STAT.PHASE n)
  if ph = 3 ∨ ph = 4 then
    let p := (s.bay n).spin
    let low := decide (2 ^ 54 * (4000 * emf) < s.acting (R.SPIN_MOTOR.KE_NOM n) 100 30000 * p.omega)
    let k := if low then p.emfRun + 1 else 0
    let s1 := s.onSpin n fun p => { p with emfRun := k }
    if k = 64 then s1.observerLoss n emf else s1
  else s

/-- The measured currents in the rotor frame (R177 step 1), each one of the two neighbours. -/
def State.parkCurrents (s : State) (n : Nat) (ia ib : Int) (theta : Nat) : Int × Int × State :=
  let ib' := if (s.bay n).spin.dirNow = 1 then -ia - ib else ib
  let (x, y) := rotate ia (2 ^ 64 * ((ia + 2 * ib')) / sqrt3x64) ((2 ^ 32 - theta % 2 ^ 32) % 2 ^ 32)
  let (d, s1) := s.roundOpen x (2 ^ 64)
  let (q, s2) := s1.roundOpen y (2 ^ 64)
  (satQ31 d, satQ31 q, s2)

/-- Add a measured period to the K_e average (R191): v_q − R i_q − L Δi_q / T − ω_e L i_d, mV × 2^16. -/
def State.keAccumulate (s : State) (n tpwm : Nat) (iD iQ : Int) : State :=
  let p := (s.bay n).spin
  let r : Int := s.acting (R.SPIN_MOTOR.R_PH n) 1 65535
  let l : Int := s.acting (R.SPIN_SENSE.L_PH n) 1 65535
  let ind := s.currMa n (iQ - p.iQ) * l * (baseHz : Int) / (10000000 * max tpwm 1)
  let x := reactance p.omega l.toNat
  let e := s.voltMv n p.vQ - r * s.currMa n iQ / 1000 - ind - x * s.currMa n iD / (1000 * 2 ^ 32)
  s.onSpin n fun p => { p with keSum := p.keSum + e / 65536, keNum := p.keNum + 1 }

/-- Leave VBUS braking when the bus has fallen (R188). -/
def State.stopBus (s : State) (n : Nat) : State := if (s.bay n).spin.busBrake then s.stopStep n else s

/-- One PWM period of a driven motor: `meas` is the measured (IA, IB), absent for a predicted period. -/
def State.motorPeriod (s : State) (n tpwm period theta emf : Nat) (meas : Option (Int × Int)) : State :=
  let ph := s.get (R.SPIN_STAT.PHASE n)
  if ph = 0 ∨ ph = 6 then s
  else
    let s0 := s.onSpin n fun p => { p with period := period }
    if ph = 5 then (s0.stopBus n).sendPwm n (period + 2) 0 0 0
    else
      let s1 := if ph = 2 then s0.forcedStep n tpwm else if ph = 3 ∨ ph = 4 then s0.rampStep n tpwm else s0
      let th := if ph = 1 then 0 else if ph = 2 then (s1.bay n).spin.theta else theta
      let p := (s1.bay n).spin
      let slow := decide (p.omega < 1000 * 2 ^ 54)
      let s2 := if ph = 3 ∨ ph = 4 then s1.onSpin n fun p => { p with kePer := p.kePer + 1, keSlow := p.keSlow || slow } else s1
      let (iD, iQ, s3) := match meas with
        | some (ia, ib) =>
          let (d, q, t) := (s2.predictEnd n).parkCurrents n ia ib th
          (d, q, if (ph = 3 ∨ ph = 4) ∧ ¬slow then t.keAccumulate n tpwm d q else t)
        | none =>
          let t0 := s2.predictCount n
          let (ed, eq) := t0.coupling n p.iD p.iQ
          let (d, t1) := t0.predictAxis n tpwm p.iD p.vD ed
          let (q, t2) := t1.predictAxis n tpwm p.iQ p.vQ eq
          (d, q, t2)
      let s4 := (s3.currentStep n tpwm th period iD iQ).emfCount n emf
      if s4.get (R.SPIN_STAT.PHASE n) = 4 then s4.stopStep n else s4

/-- A zero crossing of i_a in zero-vector braking (R189): 12 per revolution. -/
def State.iaCrossing (s : State) (n : Nat) (ia : Int) (now : Nat) : State :=
  let p := (s.bay n).spin
  let neg := decide (ia < 0)
  if p.iaSeen ∧ p.iaNeg ≠ neg then
    let dt := elapsed p.iaAt now
    let om := 2 ^ 54 * (60 * baseHz * 64) / (12 * max dt 1)
    let s1 := (s.onSpin n fun p => { p with iaNeg := neg, iaAt := now, omega := om }).showSpeed n
    if om < 2 ^ 54 * s1.acting (R.SPIN_TOL.REV_THR n) 10 300 then s1.spinRest n true else s1
  else if p.iaSeen then s
  else s.onSpin n fun p => { p with iaSeen := true, iaNeg := neg, iaAt := now }

/-- MOTOR_FRAME_RECEIVE (R177, R179): `tpwm` base periods, the instant, and the observer's angle and back-EMF (mV). -/
def execMotorFrameReceive (n : Nat) (f : UpFrame) (tpwm now theta emf : Nat) (s : State) : Host.Outcome State Fault Refusal :=
  s.onBay n fun s =>
    if s.on (R.LINK_STAT.UP n) then
      let s1 := s.takeFrame n 0x03 f
      if frameGood 0x03 f then
        let win := UpFrame16 f 3
        let ia := toInt 16 (UpFrame16 f 0) * 65536
        let ib := toInt 16 (UpFrame16 f 1) * 65536
        let s2 := s1.onSpin n fun p => { p with lastWin := win, vbus := UpFrame16 f 2 }
        let s3 := s2.motorPeriod n tpwm f.arg theta emf (if win < 800 then none else some (ia, ib))
        if s3.get (R.SPIN_STAT.PHASE n) = 5 ∧ !(s3.bay n).spin.busBrake then s3.iaCrossing n ia now else s3
      else s1.motorPeriod n tpwm ((s1.bay n).spin.period + 1) theta emf none
    else s

/-- MOTOR_FRAME_MISSING (R179): the period is served by a predicted sample. -/
def execMotorFrameMissing (n tpwm theta emf : Nat) (s : State) : Host.Outcome State Fault Refusal :=
  s.onBay n fun s => s.motorPeriod n tpwm ((s.bay n).spin.period + 1) theta emf none

/-! ## Timers -/

/-- SPIN_ALIGN_END (R183 step 2). -/
def execSpinAlignEnd (n : Nat) (s : State) : Host.Outcome State Fault Refusal :=
  s.onBay n fun s =>
    if s.get (R.SPIN_STAT.PHASE n) = 1 then (s.put (R.SPIN_STAT.PHASE n) 2).onSpin n fun p => { p with step := 2, forced := 0, theta := 0 }
    else s

/-- SPIN_HANDOVER_TIMEOUT (R183 step 3). -/
def execSpinHandoverTimeout (n : Nat) (s : State) : Host.Outcome State Fault Refusal :=
  s.onBay n fun s => if s.get (R.SPIN_STAT.PHASE n) = 2 then s.startFail n 3 else s

/-- SPIN_SPEED_STEP_TIMEOUT (R183 step 4). -/
def execSpinSpeedStepTimeout (n : Nat) (s : State) : Host.Outcome State Fault Refusal :=
  s.onBay n fun s => if (s.bay n).spin.step = 4 then s.startFail n 4 else s

/-- SPIN_DIR_WRITE (R187, R193): refused at or above REV_THR, or in ALIGN, OPEN and CLOSED. -/
def execSpinDirWrite (n dir : Nat) (s : State) : Host.Outcome State Fault Refusal :=
  s.onBay n fun s =>
    let ph := s.get (R.SPIN_STAT.PHASE n)
    let p := (s.bay n).spin
    if dir % 2 = s.get (R.SPIN_CTL.DIR n) then s
    else if ph = 1 ∨ ph = 2 ∨ ph = 3 ∨
        (ph ≠ 0 ∧ ¬(ph = 6 ∧ p.lowCoast) ∧ 2 ^ 54 * s.acting (R.SPIN_TOL.REV_THR n) 10 300 ≤ p.omega) then
      ((s.raise (R.SPIN_STAT.REV_REJ n)).count (R.SPIN_COUNT.REV_REF n) 1).recordSpin n 0x0608 [s.get (R.SPIN_RPM.RPM n)]
    else s.put (R.SPIN_CTL.DIR n) dir

/-- ZERO_CROSSING_TIMEOUT (R189): zero-vector braking ends in COAST. -/
def execZeroCrossingTimeout (n : Nat) (s : State) : Host.Outcome State Fault Refusal :=
  s.onBay n fun s => if s.get (R.SPIN_STAT.PHASE n) = 5 then s.spinRest n true else s

/-- SPEED_REGULATION_TIMEOUT (R192): in closed loop. -/
def execSpeedRegulationTimeout (n : Nat) (s : State) : Host.Outcome State Fault Refusal :=
  s.onBay n fun s =>
    let ph := s.get (R.SPIN_STAT.PHASE n)
    if ph = 3 ∨ ph = 4 then (s.recordSpin n 0x0604 [s.get (R.SPIN_RPM.REF n)]).bayFaultStop n 0x0604 else s

end Sys2Proof.Machine
end

