-- ==== Sys2Proof/Machine/Stepper.lean ====
section
/-!
DEFINITION. The interpolator (R209 to R213), the sled encoder (R215 to R217) and stall detection (R218), as operations on
one bay; and the commands that change a stepper's mode (R207, R208).
-/

namespace Sys2Proof.Machine

/-- A record of this chapter: its items, then the commanded position (R229, R601). -/
def State.recordStep (s : State) (sa : Bool) (n code : Nat) (items : List Nat) : State :=
  s.recordBay n code (items ++ [ofInt 16 (microIndex (s.stepper sa n).pos)])

/-! ## Microsteps within a tick (R203, R209) -/

/-- The microstep changes of a stepper between two positions, each with its time in 2^-16 of the tick. -/
def microEvents (sa : Bool) (a b : Int) : List (Nat × Bool × Int) :=
  let i := microIndex a
  let j := microIndex b
  let d := (b - a).natAbs
  (List.range (j - i).natAbs).map fun (k : Nat) =>
    let idx : Int := if i ≤ j then i + 1 + (k : Int) else i - 1 - (k : Int)
    let edge := if i ≤ j then 65536 * idx - 32768 else 65536 * idx + 32768
    ((edge - a).natAbs * 65536 / max d 1, sa, idx)

/-- Insert an event by time, after those of the same time. -/
def insertEvent (e : Nat × Bool × Int) : List (Nat × Bool × Int) → List (Nat × Bool × Int)
  | [] => [e]
  | f :: r => if e.1 < f.1 then e :: f :: r else f :: insertEvent e r

/-- The least distance of two STEP frames, 1 µs, in 2^-16 of a tick. -/
def stepGap : Int := 1311

/-- Send what is due by `t`, the indexes being those in force then. -/
def State.stepDueBy (s : State) (n : Nat) (i j : Int) (t : Int) : State :=
  match (s.bay n).stepDue with
  | some d => if d < t then (s.setBay n { s.bay n with stepDue := none, stepLast := d }).stepFrameAt n i j else s
  | none => s

/-- Take the microstep changes of a tick in order; frames lie at least 1 µs apart. -/
def State.stepEvents (n : Nat) : List (Nat × Bool × Int) → Int → Int → State → State
  | [], i, j, s =>
    let s1 := s.stepDueBy n i j 65537
    let b := s1.bay n
    s1.setBay n { b with stepDue := b.stepDue.map (· - 65536), stepLast := max (-stepGap) (b.stepLast - 65536) }
  | (t, sa, idx) :: r, i, j, s =>
    let s1 := s.stepDueBy n i j t
    let b := s1.bay n
    let due := match b.stepDue with | some d => d | none => max (t : Int) (b.stepLast + stepGap)
    State.stepEvents n r (if sa then i else idx) (if sa then idx else j) (s1.setBay n { b with stepDue := some due })

/-! ## One tick of a stepper -/

/-- Largest velocity that still comes to rest within `d` at deceleration `a` per tick. -/
def restVelocity (a d : Nat) : Nat := min d ((Nat.sqrt (a * a + 8 * a * d) - a) / 2)

/-- One tick in FOLLOW (R210, R211). -/
def State.followTick (s : State) (sa : Bool) (n : Nat) : State :=
  let p := s.stepper sa n
  let k := if sa then 5 else 4
  let y := if s.bitOf (R.SRV_CTL.EN n) k then (s.loop n k).lastU else 0
  let fv : Int := s.acting (if sa then R.SA_MISC.FOLLOW_V n else R.SLED_MISC.FOLLOW_V n) 1 255
  let (dem, s1) := s.roundOpen (y * fv * 65536) (200 * 2 ^ 31)
  let a := s1.stepAcc sa n * 65536 / 40000
  let v := clampInt (p.vel - a) (p.vel + a) dem
  let lim := if 0 ≤ v then s1.stepMax sa n else s1.stepMin sa n
  let room : Nat := if 0 ≤ v then (65536 * lim - p.pos).toNat else (p.pos - 65536 * lim).toNat
  let r : Int := restVelocity a room
  let w := if 0 ≤ v then min v r else max v (-r)
  let pos := p.pos + w
  let s2 := s1.setStepper sa n { p with pos := pos, vel := w }
  if w ≠ 0 ∧ pos = 65536 * lim then
    let (x, s3) := s2.fresh 16
    (s3.raise (fLim sa n)).recordStep sa n 0x0703 [stepperCode sa, x]
  else s2

/-- A homing motion has ended; its hold of 20 ms begins (R213 steps 2 and 3). -/
def State.homeHold (s : State) (sa : Bool) (n : Nat) : State :=
  let p := s.stepper sa n
  s.setStepper sa n { p with plan := none, vel := 0, home := if p.home = .inward then .holdIn else .holdOut }

/-- One tick of one stepper: its position and velocity (R209), and what the end of a plan brings. -/
def State.stepTick (s : State) (sa : Bool) (n : Nat) : State :=
  let p := s.stepper sa n
  match p.plan with
  | some m =>
    let t := m.time + 65536
    if m.total ≤ t then
      let s1 := s.setStepper sa n { p with pos := m.target, vel := 0, plan := none, after := .none }
      if p.home = .inward ∨ p.home = .outward then s1.homeHold sa n
      else if p.after = .none then s1.stepFinal sa n
      else s1.stepBegin sa n p.after
    else
      let (x, s1) := s.planPos m t
      s1.setStepper sa n { p with pos := x, vel := m.velAt t, plan := some { m with time := t } }
  | none =>
    if s.get (fMode sa n) = 3 ∧ p.resume = .none then s.followTick sa n else s

/-- Samples of slots 4 and 5 (R110, R211). -/
def State.stepSamples (s : State) (n : Nat) : State :=
  let v := (s.bay n).servo
  let (m, s1) := if v.numU = 0 then
      let (x, t) := s.fresh 32
      (toInt 32 x, t)
    else s.roundOpen v.sumU v.numU
  ((s1.onServo n fun v => { v with sumU := 0, numU := 0 }).offerSample n 4 ⟨some m, 0, true⟩).offerSample n 5
    ⟨some (s1.getS (R.SA_ERR.ERR n)), 0, true⟩

/-- A planner tick of a bay (R209): samples, both steppers, STEP frames, the position registers. -/
def State.plannerTick (s : State) (n : Nat) : State :=
  let a0 := (s.stepper false n).pos
  let b0 := (s.stepper true n).pos
  let s1 := ((s.stepSamples n).stepTick false n).stepTick true n
  let ev := (microEvents true b0 (s1.stepper true n).pos).foldl (fun l e => insertEvent e l) (microEvents false a0 (s1.stepper false n).pos)
  ((State.stepEvents n ev (microIndex a0) (microIndex b0) s1).stepShow false n).stepShow true n

/-! ## Homing (R213) -/

/-- Micrometres of a sled position (R217, R218): 0.585 937 5 µm to the microstep. -/
def sledMicrons (pos : Int) : Int := rdiv (pos * 75) (128 * 65536)

/-- Show the encoder count, which saturates (R228). -/
def State.setCount (s : State) (n : Nat) (c : Int) : State := s.putS (R.ENC_POS.COUNT n) (clampInt (-524288) 524287 c)

/-- Homing is complete (R213 step 4); during a MOUNT the sled goes on to MOUNT_POS. -/
def State.homeDone (s : State) (sa : Bool) (n : Nat) : State :=
  let p := s.stepper sa n
  let e := (microIndex p.pos + p.phOfs) % 1024
  let s1 := s.setStepper sa n { p with pos := 1024 * 65536, phOfs := ((e - 1024) % 1024).toNat, home := .off }
  let s2 := ((s1.raise (fHomed sa n)).put (fMode sa n) 1).stepShow sa n
  if sa then s2
  else
    let s3 := s2.setCount n 600
    if (s3.bay n).tags.any fun c => c.wb.opcode == Op.MOUNT then s3.stepGo false n (s3.get (R.SLED_MISC.MOUNT_POS n)) else s3

/-- A homing hold ends (R213 steps 3 and 4). -/
def State.homeHoldEnd (s : State) (sa : Bool) (n : Nat) : State :=
  let p := s.stepper sa n
  match p.home with
  | .holdIn =>
    let m := planMove (s.on (fProf sa n)) (s.stepHomeV sa n) (s.stepAcc sa n) (s.stepJerk sa n) p.pos (p.pos + 1024 * 65536)
    s.setStepper sa n { p with plan := some m, home := .outward }
  | .holdOut => s.homeDone sa n
  | _ => s

/-! ## The encoder (R215 to R217) -/

/-- Place of a quadrature state in the forward order 0, 1, 3, 2 (R215). -/
def quadIndex (q : Nat) : Nat := match q % 4 with | 0 => 0 | 1 => 1 | 3 => 2 | _ => 3

/-- What decoding a frame carries along: the last valid state, the count, illegal transitions within 1 ms (sample indexes),
those of this frame, samples unchanged, and whether a fault was declared. -/
structure EncRun where
  last    : Option Nat
  count   : Int
  illegal : List Nat
  fresh   : Nat
  still   : Nat
  fault   : Bool
  deriving DecidableEq, Repr

/-- Sample indexes within 1 ms before `i` (10,000 samples, modulo 2^22). -/
def recentSamples (i : Nat) (l : List Nat) : List Nat := l.filter fun j => decide ((i + 2 ^ 22 - j) % 2 ^ 22 < 10000)

/-- Decode one sample (R215 to R217). -/
def encSample (dir : Bool) (e : EncRun) (i q : Nat) : EncRun :=
  if e.fault then e
  else
    let old := e.illegal
    match e.last with
    | none => { e with last := some q }
    | some p =>
      match (quadIndex q + 4 - quadIndex p) % 4 with
      | 0 => { e with still := e.still + 1 }
      | 1 => { e with last := some q, still := 0, count := e.count + (if dir then -1 else 1) }
      | 3 => { e with last := some q, still := 0, count := e.count + (if dir then 1 else -1) }
      | _ =>
        let l := i :: recentSamples i old
        { e with last := some q, still := e.still + 1, illegal := l, fresh := e.fresh + 1, fault := decide (4 ≤ l.length) }

/-- Decode the 64 samples of an ENCODER frame (R68, R215). -/
def encFrame (dir : Bool) (f : UpFrame) (e : EncRun) : EncRun :=
  (List.range 64).foldl (fun e i =>
    encSample dir e ((f.arg * 64 + i) % 2 ^ 22) (bitsAt ((f.data.getD (i / 32) 0).toNat) (2 * (i % 32)) 2)) e

/-- Change the encoder part of a bay. -/
def State.onEnc (s : State) (n : Nat) (f : Encoder → Encoder) : State := s.setBay n { s.bay n with enc := f (s.bay n).enc }

/-- Resume what a stall interrupted (R218 step 4). -/
def State.stallResume (s : State) (n : Nat) : State :=
  let p := s.stepper false n
  ((s.onEnc n fun e => { e with stalled := false, devRun := 0 }).setStepper false n { p with resume := .none, after := .none }).stepBegin
    false n p.resume

/-- Declare an encoder fault (R217). -/
def State.encFault (s : State) (n : Nat) : State :=
  let s1 := (s.raise (R.STEP_STAT.ENC_FAULT n)).recordStep false n 0x0702 [s.get (R.ENC_COUNT.ILLEGAL n)]
  if (s1.bay n).enc.stalled then s1.stallResume n else s1

/-- What a stall interrupts and its end resumes. -/
def State.stallResumeKind (s : State) (n : Nat) : AfterStop :=
  match s.get (R.STEP_CTL.SLED_MODE n) with
  | 2 => .move (clampInt (s.stepMin false n) (s.stepMax false n) (s.get (R.SLED_TGT.POS n) : Int))
  | 3 => .follow
  | 5 => .park
  | _ => .hold

/-- Declare a stall (R218). -/
def State.stall (s : State) (n : Nat) (dev : Int) : State :=
  let mv := s.get (R.STEP_CTL.SLED_MODE n) == 2
  let kind := s.stallResumeKind n
  let times := s.cycle :: (if mv then (s.bay n).enc.stalls else (s.bay n).enc.stalls.filter fun t => decide (s.cycle < t + 1000000000))
  let p := s.stepper false n
  let s1 := s.setStepper false n { p with plan := none, vel := 0, settling := false, after := .none, resume := kind }
  let s2 := (s1.onEnc n fun e => { e with stalled := true, devRun := 0, stalls := times }).endGateRun n 4
  let s3 := ((s2.raise (R.STEP_STAT.SLED_STALL n)).count (R.ENC_COUNT.STALLS n) 1).put (R.STEP_STAT.STALL_RUN n) (min 7 times.length)
  let s4 := s3.recordStep false n 0x0701 [ofInt 12 (clampInt (-2047) 2047 dev), times.length]
  if s4.acting (R.ENC_CFG.TRIES n) 1 7 < times.length then s4.bayFaultStop n 0x0701 else s4

/-- The deviation check of a frame (R218). -/
def State.devCheck (s : State) (n last : Nat) : State :=
  let m := s.get (R.STEP_CTL.SLED_MODE n)
  if s.on (R.STEP_STAT.SLED_HOMED n) ∧ m ≠ 0 ∧ m ≠ 4 ∧ !s.on (R.STEP_STAT.ENC_FAULT n) ∧ !(s.bay n).enc.stalled then
    let dev := s.getS (R.ENC_POS.COUNT n) - sledMicrons (s.stepper false n).pos
    let wide := 2 * (recentSamples last (s.bay n).enc.illegal).length
    let out := decide (s.acting (R.ENC_CFG.WINDOW n) 4 255 + wide < dev.natAbs)
    let run := if out then (s.bay n).enc.devRun + 1 else 0
    let s1 := (s.putS (R.ENC_POS.DEV n) (clampInt (-2047) 2047 dev)).onEnc n fun e => { e with devRun := run }
    if s1.acting (R.ENC_CFG.DEV_N n) 1 64 ≤ run then s1.stall n dev else s1
  else s

/-- Take a good ENCODER frame (R215 to R218, R213 step 2). -/
def State.encTake (s : State) (n : Nat) (f : UpFrame) : State :=
  if s.on (R.STEP_STAT.ENC_FAULT n) then s
  else
    let e := (s.bay n).enc
    let r := encFrame (s.on (R.STEP_CTL.ENC_DIR n)) f ⟨e.last, s.getS (R.ENC_POS.COUNT n), e.illegal, 0, e.still, false⟩
    let s1 := ((s.setCount n r.count).count (R.ENC_COUNT.ILLEGAL n) r.fresh).onEnc n fun e =>
      { e with last := r.last, illegal := r.illegal, still := r.still }
    let s2 := if 0 < r.fresh then s1.raise (R.STEP_STAT.ENC_ILL n) else s1
    if r.fault then s2.encFault n
    else if (s2.stepper false n).home = .inward ∧ (s2.stepper false n).after = .none ∧ 20000 ≤ r.still then s2.homeHold false n
    else s2.devCheck n ((f.arg * 64 + 63) % 2 ^ 22)

/-- The stall wait is over (R218 step 3): whole electrical cycles lost are put back. -/
def State.stallResync (s : State) (n : Nat) : State :=
  if (s.bay n).enc.stalled then
    let p := s.stepper false n
    let k := rdiv (s.getS (R.ENC_POS.COUNT n) * 256 * 65536 - 150 * p.pos) (150 * 1024 * 65536)
    ((s.setStepper false n { p with pos := p.pos + 1024 * 65536 * k }).stepShow false n).stallResume n
  else s

/-! ## Mode commands (R207, R208) -/

/-- Whether the host may write MODE, TGT and SA_ERR now (R207). -/
def State.stepHostOk (s : State) (n : Nat) : Bool :=
  [BS.BRINGUP, BS.EMPTY, BS.FAULT].contains (s.bayState n) || s.mode == 2

/-- A mode write of the host or the serving sequencer (R207): a host write that is not allowed sets WR_REJ. -/
def State.stepWrite (s : State) (n : Nat) (host : Bool) (f : State → State) : State :=
  if host && !s.stepHostOk n then s.raise (R.STEP_STAT.WR_REJ n) else f s

/-- STEPPER_GO (R207, R208, R210): ignored with WR_REJ where HOMED = 0. -/
def execStepperGo (n : Nat) (sa host : Bool) (s : State) : Host.Outcome State Fault Refusal :=
  s.onBay n fun s => s.stepWrite n host fun s =>
    if s.on (fHomed sa n) then s.stepGo sa n (posValue sa (s.get (fPos sa n)))
    else s.raise (R.STEP_STAT.WR_REJ n)

/-- STEPPER_OFF (R207). -/
def execStepperOff (n : Nat) (sa host : Bool) (s : State) : Host.Outcome State Fault Refusal :=
  s.onBay n fun s => s.stepWrite n host fun s => s.stepOff sa n

/-- STEPPER_HOLD (R207). -/
def execStepperHold (n : Nat) (sa host : Bool) (s : State) : Host.Outcome State Fault Refusal :=
  s.onBay n fun s => s.stepWrite n host fun s => s.stepHold sa n

/-- STEPPER_FOLLOW (R207, R211). -/
def execStepperFollow (n : Nat) (sa host : Bool) (s : State) : Host.Outcome State Fault Refusal :=
  s.onBay n fun s => s.stepWrite n host fun s => s.stepFollow sa n

/-- STEPPER_HOME (R207, R213). -/
def execStepperHome (n : Nat) (sa host : Bool) (s : State) : Host.Outcome State Fault Refusal :=
  s.onBay n fun s => s.stepWrite n host fun s => s.stepHome sa n

/-- STEPPER_PARK (R207, R214): the interpolator's own; a write of mode 5 leaves the field unchanged, so the command has no
sender but the hardware. -/
def execStepperPark (n : Nat) (sa : Bool) (s : State) : Host.Outcome State Fault Refusal :=
  s.onBay n fun s => s.stepPark sa n

/-- ENC_FAULT_CLEAR (R217): the count is set from the position and decoding starts afresh. -/
def execEncFaultClear (n : Nat) (s : State) : Host.Outcome State Fault Refusal :=
  s.onBay n fun s =>
    if s.on (R.STEP_STAT.ENC_FAULT n) then
      ((s.zero (R.STEP_STAT.ENC_FAULT n)).setCount n (sledMicrons (s.stepper false n).pos)).onEnc n fun e =>
        { e with last := none, illegal := [], devRun := 0, still := 0 }
    else s

end Sys2Proof.Machine
end

