-- ==== Sys2Proof/Machine/Channel.lean ====
section
/-!
DEFINITION. The read channel of one beam over one sector (09_read_channel.md): zone-table entries (R236), level correction
and equaliser (R237, R238), timing recovery and the preliminary detector (R230, R239 to R241), sync, re-sync and blank
tests (R242 to R245), defects and erasures (R246 to R248), and the joint detector (R249 to R253).
Samples, w, z and y are Q2.13; sample positions and the step are in 2^-40 sample.
-/

namespace Sys2Proof.Machine

/-! ## Zone-table entries (R236) -/

/-- An entry field, unsigned. -/
def zU (e : List Byte) (off size : Nat) : Nat := ofBytesLE ((e.drop off).take size)

/-- An entry field, two's complement. -/
def zS (e : List Byte) (off size : Nat) : Int := toInt (8 * size) (zU e off size)

/-- STATE values. -/
def zEmpty : Nat := 0
@[inherit_doc zEmpty] def zValid : Nat := 1
@[inherit_doc zEmpty] def zStale : Nat := 2
@[inherit_doc zEmpty] def zUnsettled : Nat := 3

/-- Whether an entry's CRC checks. -/
def zCrcOk (e : List Byte) : Bool := decide (crc32 (e.take 252) = zU e 252 4)

/-- Offset of the correction block and of the taps of a beam; beam I in verify uses the VERIFY block. -/
def zCorr (b : Nat) (verify : Bool) : Nat := if verify then 192 else 16 + 8 * b
@[inherit_doc zCorr] def zTaps (b : Nat) (verify : Bool) : Nat := if verify then 198 else 40 + 30 * b

/-- A timing-loop shift within its range (R236). -/
def zShift (e : List Byte) (i : Nat) : Nat :=
  let v := zU e (132 + i) 1
  match i with | 0 => clampNat 2 8 v | 1 => clampNat 6 14 v | 2 => clampNat 4 10 v | _ => clampNat 10 18 v

/-! ## Rounding of the read channel (DESIGN CHOICE, log entry 12) -/

/-- A quotient as one of its two neighbours. -/
def dspDiv (num : Int) (den : Nat) : Int :=
  if num % (den : Int) = 0 then num / (den : Int) else num / (den : Int) + ((Config.roundUp num den).toNat : Int)

/-- Saturation to Q2.13. -/
def satQ213 (x : Int) : Int := clampInt (-32768) 32767 x

/-! ## Level correction and equaliser (R237, R238) -/

/-- The level correction of R237. -/
def levelCorrect (e : List Byte) (o : Nat) (x : Sig) : Sig :=
  if x.era then ⟨0, true⟩
  else
    let g : Int := zU e o 2
    let vv := g * (256 * x.v - zS e (o + 2) 2)
    ⟨satQ213 (dspDiv (2 ^ 39 * vv + zS e (o + 4) 2 * vv * vv) (2 ^ 51)), false⟩

/-- Value of a signal list at an index; outside it erased. -/
def sigAt (a : Array Sig) (i : Int) : Sig := if i < 0 then ⟨0, true⟩ else a.getD i.toNat ⟨0, true⟩

/-- The equaliser output at sample `n` (R238). -/
def equalise (e : List Byte) (t : Nat) (w : Array Sig) (n : Int) : Sig :=
  let terms := (List.range 15).map fun k => (zS e (t + 2 * k) 2, sigAt w (n - ((k : Int) - 7)))
  ⟨satQ213 (dspDiv (terms.foldl (fun s (c, x) => s + c * x.v) 0) 8192), terms.any fun (_, x) => x.era⟩

/-- Cubic Lagrange interpolation at a position (R239). -/
def interpolate (z : Int → Sig) (pos : Int) : Sig :=
  let n := pos / 2 ^ 40
  let m := pos % 2 ^ 40
  let u : Int := 2 ^ 40
  let a := z (n - 1)
  let b := z n
  let c := z (n + 1)
  let d := z (n + 2)
  let num := -m * (m - u) * (m - 2 * u) * a.v + 3 * (m + u) * (m - u) * (m - 2 * u) * b.v
    - 3 * (m + u) * m * (m - 2 * u) * c.v + (m + u) * m * (m - u) * d.v
  ⟨satQ213 (dspDiv num (6 * 2 ^ 120)), a.era || b.era || c.era || d.era⟩

/-! ## The preliminary detector (R230 stage 5) -/

/-- A bit as ±1. -/
def pm (b : Bool) : Int := if b then 1 else -1

/-- Target response (1, 2, 2, 1)/6 of four bits, × 6 (R250). -/
def target6 (b0 b1 b2 b3 : Bool) : Int := pm b0 + 2 * pm b1 + 2 * pm b2 + pm b3

/-- Bits of a trellis state: b[j−1] is bit 2, b[j−3] bit 0. -/
def stBit (st k : Nat) : Bool := bitAt st (3 - k)

/-- Survivors of the eight states: metric and latest decisions (newest first). -/
abbrev Survivors := List (Int × List Bool)

/-- One step of the Viterbi detector at bit `k`. -/
def viterbiStep (k : Nat) (y : Sig) (sv : Survivors) : Survivors :=
  (List.range 8).map fun st =>
    let bit := stBit st 1
    let from_ : Bool → Int × List Bool := fun old =>
      let p := (st * 2) % 8 + b2n old
      let (m, path) := sv.getD p (0, [])
      let e := 6 * y.v - 8192 * target6 bit (stBit p 1) (stBit p 2) (stBit p 3)
      (m + (if y.era then 0 else e * e), bit :: path.take 12)
    let a := from_ false
    let b := from_ true
    if a.1 < b.1 ∨ (a.1 = b.1 ∧ (Config.tie k st).toNat = 0) then a else b

/-- The best survivor. -/
def bestSurvivor (k : Nat) (sv : Survivors) : List Bool :=
  (sv.foldl (fun (acc : Option (Int × List Bool)) x => match acc with
    | none => some x
    | some a => if x.1 < a.1 ∨ (x.1 = a.1 ∧ (Config.tie k 8).toNat = 1) then some x else some a) none).elim [] (·.2)

/-! ## Timing recovery (R239 to R241) -/

/-- A period of a slot outside its windows: field period i, or period i of a re-sync field; or a window of n periods. -/
inductive Period where
  | field (i : Nat)
  | resync (i : Nat)
  | window (n : Nat)
  deriving DecidableEq, Repr

/-- The periods of a slot in order; `i` counts field periods. -/
def periodsOf : List Stretch → Nat → List Period
  | [], _ => []
  | .field _ n :: r, i => (List.range n).map (fun k => .field (i + k)) ++ periodsOf r (i + n)
  | .window _ a b :: r, i => .window (b + 1 - a) :: periodsOf r i
  | .resync _ :: r, i => (List.range 64).map .resync ++ periodsOf r i

/-- The known bit of a period outside the payload (R41). -/
def knownBit : Period → Option Bool
  | .field i =>
    if i < 192 then some (decide (2 ≤ i % 4))
    else if i < 240 then syncBits[i - 192]?
    else if i < 39816 then none
    else some (decide (2 ≤ (i - 39816) % 4))
  | .resync i => resyncBits[i]?
  | .window _ => none

/-- Phase of a vector, in 2^-32 turn, by successive approximation. -/
def argTurn (x y : Int) : Nat :=
  (List.range 32).foldl (fun a k =>
    let t := a + 2 ^ (31 - k)
    let c := cosTurn t
    let d := sinTurn t
    let cross := c * y - d * x
    let below := if t < 2 ^ 31 then decide (0 ≤ y ∧ cross < 0) else decide (0 < y ∨ (y = 0 ∧ 0 < x) ∨ cross < 0)
    if below then a else t) 0

/-- Phase as a signed number of bits, × 2^32: four bits to the turn. -/
def argBits (x y : Int) : Int :=
  let a := argTurn x y
  4 * (if a < 2 ^ 31 then (a : Int) else (a : Int) - 2 ^ 32)

/-- C of R240 over values that begin at period `p`: Σ y e^(−jπk/2). -/
def toneSum (p : Nat) (l : List Sig) : Int × Int :=
  (l.zip (List.range l.length)).foldl (fun (x, y) (s, i) =>
    match (p + i) % 4 with
    | 0 => (x + s.v, y)
    | 1 => (x, y - s.v)
    | 2 => (x - s.v, y)
    | _ => (x, y + s.v)) (0, 0)

/-- The timing loop: position, step, bits so far, their values and kinds (newest first, windows left out), decisions made
(newest first, 12 bits behind), survivors, the values an estimate collects, and where the estimate of step 2 starts and
ends (preamble periods). -/
structure Loop where
  pos  : Int
  om   : Int
  k    : Nat
  ys   : List Sig
  kind : List Period
  dec  : List Bool
  sv   : Survivors
  acc  : List Sig
  e0   : Nat
  e1   : Nat
  deriving DecidableEq, Repr

/-- Gains of a loop step: KP and KI. -/
def gainShifts (e : List Byte) : Period → Option (Nat × Nat)
  | .field i => if i < 192 then some (zShift e 0, zShift e 1) else some (zShift e 2, zShift e 3)
  | .resync i => if i < 40 then none else some (zShift e 2, zShift e 3)
  | .window _ => none

/-- Where an estimate of step 2 that starts at preamble period `p` ends: two halves (R240). -/
def estimateEnd (p : Nat) : Nat := if p = 32 then 96 else if 192 - p < 16 then 192 else p + 2 * ((192 - p) / 4 * 2)

/-- The correction of step 2: phase, and step where there are two halves (R240). -/
def Loop.correct (l : Loop) (p : Nat) : Loop :=
  let vals := l.acc.reverse
  let n := vals.length
  let h := n / 2
  if n < 16 then
    let (x, y) := toneSum p vals
    { l with pos := l.pos - dspDiv (argBits x y * l.om) (2 ^ 32), acc := [] }
  else
    let (x1, y1) := toneSum p (vals.take h)
    let (x2, y2) := toneSum (p + h) (vals.drop h)
    let a1 := argBits x1 y1
    let adv := argBits x2 y2 - a1
    let wrapped := (adv + 2 ^ 33) % 2 ^ 34 - 2 ^ 33
    { l with pos := l.pos - dspDiv (a1 * l.om) (2 ^ 32), om := l.om - dspDiv (wrapped * l.om) (2 ^ 32 * max h 1), acc := [] }

/-- The Mueller-Mueller error, × 6 × 2^13 (R240): decisions and values delayed by 12; known values where R41 gives them. -/
def Loop.timingError (l : Loop) : Int :=
  let y := fun (i : Nat) => l.ys.getD i ⟨0, true⟩
  let a := fun (i : Nat) => ((l.kind[i]?).bind knownBit).getD (l.dec.getD (i - 12) false)
  if (y 12).era || (y 13).era then 0
  else (y 12).v * target6 (a 13) (a 14) (a 15) (a 16) - (y 13).v * target6 (a 12) (a 13) (a 14) (a 15)

/-- One bit of the loop: its value by interpolation, the detector's step and the decision of 12 bits before. -/
def Loop.take (z : Int → Sig) (l : Loop) (p : Period) : Loop :=
  let y := interpolate z l.pos
  let sv := viterbiStep l.k y l.sv
  { l with k := l.k + 1, ys := y :: l.ys, kind := p :: l.kind, sv := sv,
           dec := match (bestSurvivor l.k sv)[12]? with | some b => b :: l.dec | none => l.dec }

/-- The second-order loop (R240). -/
def Loop.track (l : Loop) (g : Option (Nat × Nat)) : Loop :=
  match g with
  | some (kp, ki) =>
    let err := l.timingError
    let om := l.om - dspDiv (2 ^ 27 * err) (6 * 2 ^ ki)
    { l with om := om, pos := l.pos + om - dspDiv (2 ^ 27 * err) (6 * 2 ^ kp) }
  | none => { l with pos := l.pos + l.om }

/-- One period of the loop (R239 to R241); a window inside the span of step 2 restarts the estimate. -/
def Loop.step (e : List Byte) (z : Int → Sig) (l : Loop) (p : Period) : Loop :=
  match p with
  | .window n =>
    let l1 := { l with pos := l.pos + n * l.om }
    if l.acc = [] then l1 else { l1 with acc := [], e0 := l.e0 + l.acc.length, e1 := estimateEnd (l.e0 + l.acc.length) }
  | .field i =>
    let l1 := l.take z p
    if i < l.e0 then l1.track none
    else if i < l.e1 then
      let l2 := { l1.track none with acc := l1.ys.headD ⟨0, true⟩ :: l1.acc }
      if i + 1 = l.e1 then l2.correct l.e0 else l2
    else l1.track (gainShifts e p)
  | .resync i =>
    let l1 := l.take z p
    if i < 8 then l1.track none
    else if i < 40 then
      let l2 := { l1.track none with acc := l1.ys.headD ⟨0, true⟩ :: l1.acc }
      if i = 39 then
        let (x, w) := toneSum 8 l2.acc.reverse
        { l2 with pos := l2.pos - dspDiv (argBits x w * l2.om) (2 ^ 32), acc := [] }
      else l2
    else l1.track (gainShifts e p)

/-- The nominal step of R239, in 2^-40 sample: one sample spans 2^ADC_RATE base periods. -/
def nominalStep (adc rate z : Nat) : Int := dspDiv (2 ^ 94) (2 ^ adc * max rate 1 * periodsPerRev z)

/-- The bits of a sector: kinds, values and preliminary decisions in order, and the position after the last. -/
def runLoop (e : List Byte) (z : Int → Sig) (zone slot : Nat) (pos om : Int) : List (Period × Sig × Bool) × Int :=
  let ps := periodsOf (slotLayout zone slot) 0
  let ps := ps.dropWhile fun p => match p with | .window _ => true | _ => false
  let l := ps.foldl (Loop.step e z) ⟨pos, om, 0, [], [], [], List.replicate 8 (0, []), [], 32, 96⟩
  let dec := ((bestSurvivor l.k l.sv).take 12 ++ l.dec).reverse
  ((l.kind.reverse.zip (l.ys.reverse.zip dec)), l.pos)

/-! ## Sync, re-sync, framing (R242 to R244) -/

/-- Settings of a sector's read. -/
structure ReadCfg where
  syncTol   : Nat
  syncWin   : Nat
  resyncTol : Nat
  resyncWin : Nat
  envThr    : Nat
  envOn     : Nat
  envOff    : Nat
  ext       : Nat
  blankThr  : Nat
  deriving DecidableEq, Repr

/-- Hamming distance of a pattern to the decisions from `i` on. -/
def patternErrors (pat : List Bool) (d : Array Bool) (i : Int) : Nat :=
  ((pat.zip (List.range pat.length)).filter fun (b, k) => d.getD (i + k).toNat false != b).length

/-- The offset of the best match within ± `win`: lowest distance, then earliest (R242, R244). -/
def findPattern (pat : List Bool) (d : Array Bool) (at_ : Int) (win tol : Nat) : Option Int :=
  ((List.range (2 * win + 1)).foldl (fun (acc : Option (Nat × Int)) (k : Nat) =>
    let o : Int := (k : Int) - win
    let n := patternErrors pat d (at_ + o)
    if at_ + o < 0 ∨ tol < n then acc
    else match acc with | some (m, _) => if n < m then some (n, o) else acc | none => some (n, o)) none).map (·.2)

/-- A sector as framed: payload values and decisions (bit by bit), its segments' first payload bits, whether the sync was
found and where, cycle slips corrected and marks missed. -/
structure Framed where
  vals    : List Sig
  dec     : List Bool
  heads   : List Nat
  sync    : Option Int
  slips   : Nat
  missed  : Nat
  deriving DecidableEq, Repr

/-- Frame the payload (R242 to R244). -/
def framePayload (c : ReadCfg) (bits : List (Period × Sig × Bool)) : Framed :=
  let all := (bits.map fun b => b.2.2).toArray
  let isField := fun (b : Period × Sig × Bool) => match b.1 with | .field _ => true | _ => false
  let fields := bits.filter isField
  let fd := (fields.map fun b => b.2.2).toArray
  let fv := (fields.map fun b => b.2.1).toArray
  let sync := findPattern syncBits fd 192 c.syncWin c.syncTol
  let walk := (bits.zip (List.range bits.length)).foldl
    (fun (st : Int × Nat × Nat × Nat × List Nat × List (Nat × Int)) (b, k) =>
      let (o, slips, missed, fieldNo, heads, places) := st
      match b.1 with
      | .field i =>
        if 240 ≤ i ∧ i < 39816 then (o, slips, missed, fieldNo + 1, heads, (i - 240, o) :: places)
        else (o, slips, missed, fieldNo + 1, heads, places)
      | .resync 40 =>
        let (o', s', m') := match findPattern resyncMark all (k + o) c.resyncWin c.resyncTol with
          | some d => (o + d, slips + b2n (d != 0), missed)
          | none => (o, slips, missed + 1)
        (o', s', m', fieldNo, if 240 ≤ fieldNo then (fieldNo - 240) :: heads else heads, places)
      | _ => st) (sync.getD 0, 0, 0, 0, [], [])
  let (_, slips, missed, _, heads, places) := walk
  let get := fun (j : Nat × Int) => (240 + (j.1 : Int) + j.2)
  { vals := places.reverse.map fun j => sigAt fv (get j), dec := places.reverse.map fun j => fd.getD (get j).toNat false,
    heads := 0 :: heads.reverse, sync := sync, slips := slips, missed := missed }

/-! ## Blank test, defects and erasures (R245 to R248) -/

/-- Sample positions at which the payload stretches of a slot begin and end at the nominal step (R245). -/
def payloadSpans (l : List Stretch) (p0 : Nat) (pos om : Int) : Nat → List (Int × Int) → List (Int × Int)
  | i, acc => match l with
    | [] => acc.reverse
    | .field f n :: r =>
      let a := max f (f + (240 - i))
      let b := min (f + n) (f + (39816 - i))
      let at_ := fun (p : Nat) => (pos + om * ((p : Int) - p0)) / 2 ^ 40
      payloadSpans r p0 pos om (i + n) (if a < b then (at_ a, at_ b) :: acc else acc)
    | .window _ _ _ :: r => payloadSpans r p0 pos om i acc
    | .resync _ :: r => payloadSpans r p0 pos om i acc

/-- Peak-to-peak of 64 values of w from `i`; none where one is erased. -/
def peakToPeak (w : Array Sig) (i : Int) : Option Int :=
  let l := (List.range 64).map fun (k : Nat) => sigAt w (i + (k : Int))
  if l.any (·.era) then none
  else some (l.foldl (fun a x => max a x.v) (-32768) - l.foldl (fun a x => min a x.v) 32767)

/-- Whether four consecutive evaluated blocks reach the blank threshold: the slot is written (R245). -/
def slotWritten (e : List Byte) (o thr : Nat) (w : Array Sig) (spans : List (Int × Int)) : Bool :=
  let blocks := spans.flatMap fun (a, b) => (List.range ((b - a).toNat / 64)).filterMap fun (k : Nat) => peakToPeak w (a + 64 * (k : Int))
  let hit := blocks.map fun x => decide ((thr * zU e o 2 : Nat) * (8192 : Int) ≤ x * (32 * 4096))
  (hit.foldl (fun (r : Nat × Bool) h => if h then (r.1 + 1, r.2 || decide (3 ≤ r.1)) else (0, r.2)) (0, false)).2

/-- Run a flag over levels: `low` tells a value below its threshold; it rises after `on` low ones and falls after `off`
others. -/
def flagRun (on off : Nat) : Bool → Nat → List Bool → List Bool
  | _, _, [] => []
  | f, n, low :: r =>
    let against := if f then !low else low
    let n' := if against then n + 1 else 0
    if (if f then off else on) ≤ n' ∧ against then (!f) :: flagRun on off (!f) 0 r
    else f :: flagRun on off f n' r

/-- The envelope, × 2^32 for its decay by 31/32 per bit, and the low test of each bit (R247). -/
def envelopeLow (thr ref : Nat) : Int → List Sig → List Bool
  | _, [] => []
  | env, y :: r =>
    let m := max (2 ^ 32 * (y.v.natAbs : Int)) (env * 31 / 32)
    decide (6400 * m < (thr * ref : Nat) * (8192 * 2 ^ 32 : Int)) :: envelopeLow thr ref m r

/-- Rises of a flag sequence. -/
def rises : Bool → List Bool → Nat
  | _, [] => 0
  | p, x :: r => b2n (x && !p) + rises x r

/-- Spread marks by `ext` bits to both sides (R248). -/
def spread (ext : Nat) (l : List Bool) : List Bool :=
  let fwd := fun (l : List Bool) => (l.foldl (fun (a : List Bool × Nat) x =>
    if x then (true :: a.1, ext) else (decide (0 < a.2) :: a.1, a.2 - 1)) ([], 0)).1
  fwd (fwd l)

/-! ## The joint detector (R250 to R253) -/

/-- A side of an instance for one bit: crosstalk × 2^14 of m = −1, 0, 1 and the side values × 2^12 at j−m. -/
structure SideBit where
  xc : List Int
  sv : List Int
  deriving DecidableEq, Repr

/-- What a trellis step needs: value, a-priori LLR (1/2 units), sides, and variance of noise and unavailable sides
(Q0.16). -/
structure DetBit where
  y     : Sig
  la    : Int
  sides : List SideBit
  noise : Nat
  deriving DecidableEq, Repr

/-- The interference of the sides, × 2^26, and their variance, × 2^52 (R250). -/
def sideTerms (l : List SideBit) : Int × Int :=
  l.foldl (fun (a, v) s => (s.xc.zip s.sv).foldl (fun (a, v) (x, q) => (a + x * q, v + x * x * (2 ^ 24 - q * q))) (a, v)) (0, 0)

/-- Branch metric, × 2^16, without the a-priori term (R252). -/
def branchMetric (b : DetBit) (bit : Bool) (st : Nat) : Int :=
  if b.y.era then 0
  else
    let (a, v) := sideTerms b.sides
    let d := 6 * 2 ^ 13 * b.y.v - 2 ^ 26 * target6 bit (stBit st 1) (stBit st 2) (stBit st 3) - 6 * a   -- × 6 × 2^26
    let var := 2 ^ 36 * (b.noise : Int) + v                                                              -- × 2^52
    dspDiv (2 ^ 16 * (d * d)) (72 * max var 1).toNat

/-- A branch: metric with the a-priori term (R252): − b × La / 2, La in units of 1/2. -/
def branchCost (b : DetBit) (bit : Bool) (st : Nat) : Int := branchMetric b bit st - pm bit * b.la * 2 ^ 14

/-- The state after a branch. -/
def nextState (st : Nat) (bit : Bool) : Nat := st / 2 + 4 * b2n bit

/-- Forward step of the path metrics; an absent state is unreached. -/
def forwardStep (b : DetBit) (al : List (Option Int)) : List (Option Int) :=
  (List.range 8).map fun st =>
    let bit := stBit st 1
    let cand := [(st * 2) % 8, (st * 2) % 8 + 1].filterMap fun p => (al.getD p none).map fun m => m + branchCost b bit p
    cand.foldl (fun acc x => match acc with | some m => some (min m x) | none => some x) none

/-- Backward step. -/
def backwardStep (b : DetBit) (be : List Int) : List Int :=
  (List.range 8).map fun st =>
    min (be.getD (nextState st false) 0 + branchCost b false st) (be.getD (nextState st true) 0 + branchCost b true st)

/-- Backward metrics before each bit of a list, from uniform metrics after it. -/
def backwardAll : List DetBit → List (List Int)
  | [] => [List.replicate 8 0]
  | b :: r =>
    let l := backwardAll r
    backwardStep b (l.headD []) :: l

/-- The LLR of a bit, units of 1/2, rounded and saturated (R252, R253). -/
def bitLlr (b : DetBit) (al : List (Option Int)) (be : List Int) : Int :=
  let best := fun (bit : Bool) => ((List.range 8).filterMap fun st => (al.getD st none).map fun m =>
    m + branchCost b bit st + be.getD (nextState st bit) 0).foldl (fun acc x => match acc with | some m => some (min m x) | none => some x) none
  match best true, best false with
  | some p1, some p0 => sat6 (dspDiv (p1 - p0) (2 ^ 15))
  | _, _ => 0

/-- Detect a segment (R252): windows of 128 bits, the backward recursion of each started 32 bits further on. -/
def detectFrom : Nat → List (Option Int) → List DetBit → List Int
  | 0, _, _ => []
  | fuel + 1, al, l =>
    if l = [] then [] else
    let w := l.take 128
    let back := ((backwardAll (l.take 160)).drop 1).take w.length
    let run := (w.zip back).foldl (fun (acc : List (Option Int) × List Int) (b, be) =>
      (forwardStep b acc.1, bitLlr b acc.1 be :: acc.2)) (al, [])
    run.2.reverse ++ detectFrom fuel run.1 (l.drop 128)

/-- The state after a sync or a re-sync mark, both of which end in 0, 1, 1: the only one a segment starts from. -/
def segmentStart : List (Option Int) := (List.range 8).map fun st => if st = 6 then some 0 else none

/-- Detect a payload, segment by segment. -/
def detectPayload (heads : List Nat) (l : List DetBit) : List Int :=
  match heads with
  | [] => []
  | h :: r =>
    let n := match r with | k :: _ => k - h | [] => l.length
    detectFrom (n + 1) segmentStart (l.take n) ++ detectPayload r (l.drop n)

/-- tanh(L/2) in steps of 1/32, × 2^12, for L in units of 1/2 (R251): the nearest step. -/
def sideValue (l : Int) : Int :=
  let a := (clampInt (-31) 31 l).natAbs
  -- 32 tanh(a/4), rounded
  let t : List Int := [0, 8, 15, 20, 24, 27, 29, 30, 31, 31, 32]
  let v := t.getD a 32
  (if l < 0 then v else -v) * 128

end Sys2Proof.Machine
end

