-- ==== Sys2Proof/Machine/Items.lean ====
section
/-!
DEFINITION. What commands name on the disc: home slots (R45, R59, R386, R391), relocated copies (R51, R277), the items a read
still wants, and how an item of a command is resolved (R281, R376).
-/

namespace Sys2Proof.Machine

/-! ## Slots and extents -/

/-- Disc slot number D of a slot (R380). -/
def slotNumber (x pos : Nat) : Nat := 64 * x + pos

/-- The slot of a disc slot number. -/
def slotOfNumber (d : Nat) : SlotAddr := extentSlot (d / 64) (d % 64)

/-- The partition that holds an extent, active or retired (R58, R59). -/
def partOf (dir : List PartEntry) (x : Nat) : Option (Nat × PartEntry) :=
  (dir.zipIdx.find? fun e => e.1.state != 0 && decide (e.1.firstExt ≤ x) && decide (x < e.1.firstExt + e.1.extCount)).map fun e => (e.2, e.1)

/-- The partition and partition sector number of a data position. -/
def sectorOf (dir : List PartEntry) (x pos : Nat) : Option (Nat × Nat) :=
  (partOf dir x).map fun (p, e) => (p, 56 * (x - e.firstExt) + pos)

/-! ## Commands on the disc -/

/-- The newest defect record of a home slot, staged ones before committed ones (R51). -/
def State.recordOf (s : State) (n home : Nat) : Option DefectRec :=
  (((s.bay n).writing.staged.map (·.1)).reverse.find? fun d => d.home == home).or (defectFor (s.bay n).disc.defects home)

/-- The slot where a home slot's sector is sought, and whether that is a relocated copy. -/
def State.seekOf (s : State) (n home : Nat) : Nat × Bool :=
  match s.recordOf n home with
  | some d => if d.spare = noPsa then (home, false) else (d.spare, true)
  | none => (home, false)

/-- The slot sought for item `i`: a journal replay reads the entry's own slots (R311). -/
def State.itemSlot (s : State) (n : Nat) (c : Cmd) (i : Nat) : Nat × Bool :=
  let h := s.homeOf n c i
  if c.wb.opcode = Op.VERIFY ∧ c.wb.flag4 then (h, false) else s.seekOf n h

/-- Whether an item waits in the ladder or for its DATA_CRC check. -/
def State.itemBusy (s : State) (n t i : Nat) : Bool :=
  ((s.bay n).reading.ladder.any fun g => g.tag == t && g.item == i) || (s.bay n).reading.hold.any fun d => d.tag == some (t, i)

/-- Whether a command reads sectors; a replay verifies its slots instead (R311). -/
def Cmd.reads (c : Cmd) : Bool :=
  isReadClass c.wb.opcode && !(c.wb.opcode == Op.VERIFY && c.wb.flag4) && c.granted && c.stop.isNone

/-- Whether item `i` of a reading command is still to be read: a shadowed slot waits for extent reconstruction (R159); a scan reads
one extent at a time (R391). -/
def State.itemOpen (s : State) (n : Nat) (c : Cmd) (i : Nat) : Bool :=
  decide (i < c.count) && (c.wb.opcode != Op.MEDIA_SCAN || i / 64 == c.scanX) && !c.items.has i && !s.itemBusy n c.id i &&
  !(s.bay n).reading.shadows.contains (s.homeOf n c i)

/-- The first open item of a reading command. -/
def State.firstOpen (s : State) (n : Nat) (c : Cmd) : Option Nat :=
  if c.reads then (List.range c.count).find? fun i => s.itemOpen n c i else none

/-- The item of a command that a slot serves. -/
def State.itemAt (s : State) (n : Nat) (c : Cmd) (psa : Nat) : Option Nat :=
  (List.range c.count).find? fun i => (s.itemSlot n c i).1 == psa

/-- The tag and item that still want a slot read. -/
def State.wantedAt (s : State) (n psa : Nat) : Option (Nat × Nat) :=
  (s.bay n).tags.findSome? fun c =>
    if c.reads then ((List.range c.count).find? fun i => s.itemOpen n c i && (s.itemSlot n c i).1 == psa).map fun i => (c.id, i)
    else none

/-- Beam of a ladder read (R274): C in steps 1 and 2, I then O in step 3; none where the step reads nothing. -/
def Rung.beam (g : Rung) : Option Nat :=
  match g.step with
  | 1 => some 1
  | 2 => some 1
  | 3 => some (if g.reads = 0 then 0 else 2)
  | _ => none

/-- Whether a rung waits for a read of its slot. -/
def Rung.rereads (g : Rung) : Bool := g.beam.isSome && !g.queued && !g.running && g.capture.isNone

/-- The rung that waits for a read of a slot with a beam. -/
def State.rungAt (s : State) (n psa beam : Nat) : Option Rung :=
  (s.bay n).reading.ladder.find? fun g => g.psa == psa && g.rereads && g.beam == some beam

/-! ## Resolving an item (R281 to R284, R376) -/

/-- Record the outcome of an item. -/
def State.resolveItem (s : State) (n t i : Nat) (it : Item) : State :=
  match s.tag? n t with
  | none => s
  | some c =>
    if c.items.has i ∨ c.count ≤ i then s
    else s.setTag n { c with items := c.items.put i { it with fail := outcomeFail c it.outcome } }

/-- Change a command under its tag. -/
def State.onTag (s : State) (n t : Nat) (f : Cmd → Cmd) : State :=
  match s.tag? n t with
  | none => s
  | some c => s.setTag n (f c)

end Sys2Proof.Machine
end

