-- ==== Sys2Proof/Machine/Calib.lean ====
section
/-!
DEFINITION. Calibration (12_calibration.md): the items and their statistics (R320 to R324), write power (R325 to R327), what
asks for a calibration (R328, R330), inherited items (R329), the entry written at the end (R331) and the endings (R332).
A result's components are in 2^-16 of a field's unit.
-/

namespace Sys2Proof.Machine

/-! ## Zone-table entries as calibration writes them (R233, R236, R331) -/

/-- Replace a little-endian field. -/
def zPut (e : List Byte) (off size : Nat) (v : Int) : List Byte :=
  e.take off ++ bytesLE size (ofInt (8 * size) v) ++ e.drop (off + size)

/-- The entry with its CRC. -/
def zSeal (e : List Byte) : List Byte := e.take 252 ++ bytesLE 4 (crc32 (e.take 252))

/-- Write an entry: one 256-byte write (R233). -/
def State.ztWrite (s : State) (n idx : Nat) (e : List Byte) : State := s.dramWrite (s.ztAddr n idx) (zSeal e)

/-- Mark an entry (R331): STATE, GEN and CRC only. -/
def State.ztMark (s : State) (n idx st : Nat) : State :=
  let e := s.ztEntry n idx
  s.ztWrite n idx (zPut (zPut e 2 1 st) 10 2 (zU e 10 2 + 1))

/-- The start values of R321 for an entry whose CRC does not check. -/
def State.zStart (s : State) (n idx : Nat) : List Byte :=
  let corr := bytesLE 2 4096 ++ bytesLE 6 0
  let taps := bytesLE 14 0 ++ bytesLE 2 8192 ++ bytesLE 14 0
  let hint := match (s.bay n).disc.info with | some d => d.hints.getD (idx / 32) [] | none => []
  let h := fun (o k : Nat) => beField hint o k
  bytesLE 16 0 ++ (corr ++ corr ++ corr) ++ (taps ++ taps ++ taps) ++ bytesLE 2 0 ++ [5, 10, 7, 14] ++ bytesLE 48 0 ++
  (bytesLE 2 3277 ++ bytesLE 2 3277 ++ bytesLE 2 3277) ++ bytesLE 2 0 ++ (bytesLE 2 4096 ++ bytesLE 4 0 ++ taps) ++ bytesLE 6 0 ++
  (bytesLE 2 (h 0 2) ++ bytesLE 2 (h 2 2) ++ bytesLE 2 0 ++ bytesLE 2 (h 4 2) ++ bytesLE 2 (h 4 2) ++ bytesLE 2 (h 4 2) ++
   bytesLE 1 (h 8 1) ++ bytesLE 1 (h 9 1) ++ bytesLE 1 (h 10 1) ++ bytesLE 1 (h 11 1) ++ bytesLE 2 (h 6 2)) ++ bytesLE 4 0

/-- The entry a calibration starts from (R321). -/
def State.zCalStart (s : State) (n idx : Nat) : List Byte :=
  let e := s.ztEntry n idx
  if zCrcOk e then e else s.zStart n idx

/-- Whether Ω of R231 is allowed: 1.10 ≤ rate / channel-bit rate ≤ 4.50. -/
def omegaOk (adc z rpm : Nat) : Bool :=
  let fs := 1280000000 / 2 ^ adc
  let ch := slotsPerTrack z * 700 * rpm
  decide (110 * ch ≤ 100 * fs) && decide (100 * fs ≤ 450 * ch)

/-- READ_RPM and WRITE_RPM as calibration clamps them (R331). -/
def State.calSpeeds (s : State) (n : Nat) (e : List Byte) : Nat × Nat :=
  (min (zU e 4 2) (s.get (R.SPIN_SPEED.RD_RPM n)), min (zU e 6 2) (min (s.get (R.SPIN_SPEED.WR_RPM n)) (s.wrRpmMax n)))

/-- Whether Ω is allowed at a read speed and at a write speed (R231, R235, R331).  A disc that R54 only lets be read is never
written or verified: its write speed is not looked at (DEDUCED, log entry 94). -/
def State.speedsOk (s : State) (n adc z rd wr : Nat) : Bool :=
  omegaOk adc z rd && (omegaOk adc z wr || decide (s.wrRpmMax n < 1500))

/-! ## The write-calibration map and the entry in use -/

/-- The index of the entry in use. -/
def State.idxNow (s : State) (n : Nat) : Nat := entryIndex (s.get (R.FT_STAT.LAYER n)) (s.getTrack (R.FT_STAT.TRACK n))

/-- Show the map bit of the entry in use (R328). -/
def State.showWcal (s : State) (n : Nat) : State :=
  s.putB (R.CAL_STAT.W_CAL n) ((s.bay n).disc.wcal.contains (s.idxNow n))

/-- Write the biases of the entry in use (R148): zero where it is not valid. -/
def State.applyBias (s : State) (n idx : Nat) : State :=
  let e := s.ztEntry n idx
  let ok := zCrcOk e && zU e 2 1 != zEmpty
  (s.put (R.FT_BIAS.FOC_BIAS n) (if ok then zU e 228 2 else 0)).put (R.FT_BIAS.TILT_BIAS n) (if ok then zU e 230 2 else 0)

/-! ## Results of one run (R322) -/

/-- A component of a result: an exact quotient in 2^-16 units, one of its neighbours. -/
def State.comp (s : State) (num : Int) (den : Int) : Int × State :=
  if den = 0 then
    let (x, s1) := s.fresh 32
    (toInt 32 x, s1)
  else if 0 < den then s.roundOpen (65536 * num) den.toNat
  else s.roundOpen (-num * 65536) (-den).toNat

/-- The sum of the taps of a beam. -/
def tapSum (e : List Byte) (o : Nat) : Int := (List.range 15).foldl (fun (t : Int) (i : Nat) => t + zS e (o + 2 * i) 2) 0

/-- (P_m + P_s − 2M) / (P_m − P_s) as a fraction (R322). -/
def betaOf (b : BeamStats) : Int × Int :=
  let m := b.mark.1 * b.space.2 * b.bits
  let p := b.space.1 * b.mark.2 * b.bits
  (m + p - 2 * b.w * b.mark.2 * b.space.2, m - p)

/-- The result of items 1 to 5 for a beam; `o` and `t` are the offsets of its correction block and taps. -/
def State.beamResult (s : State) (e : List Byte) (o t item : Nat) (b : BeamStats) : List Int × State :=
  let g : Int := zU e o 2
  match item with
  | 1 =>
    -- GAIN × √(0.300 / var), var = (N Σw² − (Σw)²) / N² / 2^26
    let v := b.bits * b.ww - b.w * b.w
    if v ≤ 0 then
      let (x, s1) := s.fresh 32
      ([toInt 32 x], s1)
    else
      let q := (2 ^ 58 * (g * g * 3 * b.bits * b.bits) / (10 * v)).toNat
      let r := Nat.sqrt q
      if r * r = q then ([(r : Int)], s)
      else
        let (x, s1) := s.fresh 1
        ([((r + x : Nat) : Int)], s1)
  | 2 =>
    let (x, s1) := s.comp (zS e (o + 2) 2 * (b.bits * g * tapSum e t) + 2 ^ 25 * b.err) (b.bits * g * tapSum e t)
    ([x], s1)
  | 3 =>
    let (p, q) := betaOf b
    let (x, s1) := s.comp (zS e (o + 4) 2 * q - 16384 * p) q
    ([x], s1)
  | 4 => (b.taps.map (· * 65536), s)
  | _ =>
    let (x, s1) := s.comp (64 * b.extreme.1) (8192 * b.extreme.2)
    let (y, s2) := s1.comp b.refl.1 b.refl.2
    ([x, y], s2)

/-- The results of several beams, one after another. -/
def State.beamResults (s : State) (e : List Byte) (item : Nat) : List (Nat × Nat × BeamStats) → List Int × State
  | [] => ([], s)
  | (o, t, b) :: r =>
    let (x, s1) := s.beamResult e o t item b
    let (y, s2) := s1.beamResults e item r
    (x ++ y, s2)

/-- X0[−1], X0[0], X0[+1] and X1 of a side, in order; a side that is unavailable keeps its coefficients. -/
def State.sideResult (s : State) (e : List Byte) (o : Nat) (d : SideStats) : List Int × State :=
  if !d.avail then ((List.range 4).map (fun i => zS e (o + 2 * i) 2 * 65536), s)
  else
    let x := fun (s : State) (i : Nat) => s.comp (d.num.getD i 0 * 8192) (d.den.getD i 0)
    let (a, s1) := x s 0
    let (b, s2) := x s1 1
    let (c, s3) := x s2 2
    let (w, sd, sx, sdx, sdd) := d.wedge
    -- slope of X0 against d_x, × 64 nm, over X0
    let (k, s4) := s3.comp ((w * sdx - sd * sx) * 64 * 16384 * 65536) ((w * sdd - sd * sd) * b)
    ([a, b, c, k], s4)

/-- The result of item 6 for an instance: two sides and NOISE; an instance whose sides are not both members keeps its values. -/
def State.crossResult (s : State) (e : List Byte) (c : Nat) (x : CrossStats) : List Int × State :=
  let side := fun (i : Nat) => { x.sides.getD i ⟨false, [], [], 0, 0, 0, 0, 0⟩ with
    avail := x.both && (x.sides.getD i ⟨false, [], [], 0, 0, 0, 0, 0⟩).avail }
  let (a, s1) := s.sideResult e (136 + 16 * c) (side 0)
  let (b, s2) := s1.sideResult e (144 + 16 * c) (side 1)
  let (k, s3) := if x.both then s2.comp x.noise.1 (1024 * x.noise.2) else (65536 * (zU e (184 + 2 * c) 2 : Int), s2)
  (a ++ b ++ [k], s3)

/-- XNOISE: the mean over the measured sides of Σ X0², Q0.16. -/
def State.xnoise (s : State) (e : List Byte) (inst : List (CrossStats × List Int)) : Int × State :=
  let used := inst.filter fun x => x.1.both
  let sum := used.foldl (fun (t : Int) x => ([0, 1, 2, 4, 5, 6].foldl (fun (u : Int) i => u + x.2.getD i 0 * x.2.getD i 0) t)) 0
  if used.isEmpty then (65536 * (zU e 190 2 : Int), s) else s.comp sum (2 ^ 44 * (2 * used.length))

/-- The vertex of the least-squares parabola (R324), none where it opens upwards or lies outside the range swept. -/
def State.vertex (s : State) (pts : List (Int × Int)) : Option Int × State :=
  let sum := fun (f : Int → Int → Int) => pts.foldl (fun t p => t + f p.1 p.2) 0
  let n : Int := pts.length
  let s1 := sum (fun p _ => p)
  let s2 := sum (fun p _ => p * p)
  let s3 := sum (fun p _ => p * p * p)
  let s4 := sum (fun p _ => p * p * p * p)
  let t0 := sum (fun _ y => y)
  let t1 := sum (fun p y => p * y)
  let t2 := sum (fun p y => p * p * y)
  let det := fun (a b c d e f g h i : Int) => a * (e * i - f * h) - b * (d * i - f * g) + c * (d * h - e * g)
  let da := det t2 s3 s2 t1 s2 s1 t0 s1 n
  let db := det s4 t2 s2 s3 t1 s1 s2 t0 n
  if 0 ≤ da then (none, s)
  else
    let lo := pts.foldl (fun m p => min m p.1) ((pts.headD (0, 0)).1)
    let hi := pts.foldl (fun m p => max m p.1) ((pts.headD (0, 0)).1)
    let (v, u) := s.comp (-db) (2 * da)
    if -db ≤ lo * (2 * da) ∧ hi * (2 * da) ≤ -db then (some v, u) else (none, u)

/-- P_pca of R325 step 4 from P_0 and the nine β; BETA in 1/1,000. -/
def State.pcaResult (s : State) (p0 : Nat) (beta : Int) (b : List Int) : Option Int × State :=
  let sum := b.foldl (· + ·) 0
  let sl := (b.zipIdx).foldl (fun (t : Int) x => t + x.1 * ((x.2 : Int) - 4)) 0
  -- mean = sum / 9, slope = sl / 60; the fitted range widened by one step is mean ± 5 slopes
  if sl ≤ 0 ∨ 180 * beta < 20 * sum - 15 * sl ∨ 20 * sum + 15 * sl < 180 * beta then (none, s)
  else
    let (x, s1) := s.comp ((p0 : Int) * (3 * sl + 9 * beta - sum)) (3 * sl)
    (some x, s1)

/-- Largest k below 2^(b) with (2k − 1)^256 × den^v ≤ (2p)^256 × num^v: `p` × (num / den)^(v / 256), rounded to nearest. -/
def roundPower (p num den v : Nat) : Nat → Nat → Nat
  | 0, k => k
  | b + 1, k =>
    let c := k + 2 ^ b
    roundPower p num den v b (if (2 * c - 1) ^ 256 * den ^ v ≤ (2 * p) ^ 256 * num ^ v then c else k)

/-- r(t) of R34 in units of 0.24 µm. -/
def radius (t : Int) : Nat := (95000 + t).toNat

/-- The radius of the middle track of an entry's zone (R325). -/
def midRadius (idx : Nat) : Nat := radius ((4500 * (idx % 32) + 2205 : Nat) : Int)

/-! ## Agreement (R320, R323) -/

/-- |a − b| within an absolute tolerance, 2^-16 units, × TOL_SCALE / 16. -/
def within (k : Nat) (tol : Nat) (a b : Int) : Bool := decide (16 * (a - b).natAbs ≤ tol * k)

/-- |a − b| within a percentage of the first result (DEDUCED, log entry 16). -/
def withinPct (k pct : Nat) (a b : Int) : Bool := decide (1600 * (a - b).natAbs ≤ pct * k * a.natAbs)

/-- RMS difference of tap sets of 15 within 0.020. -/
def tapsAgree (k : Nat) : Nat → List Int → List Int → Bool
  | 0, _, _ => true
  | f + 1, a, b =>
    if a.isEmpty then true
    else
      let d := ((a.take 15).zip (b.take 15)).foldl (fun t x => t + (x.1 - x.2) * (x.1 - x.2)) (0 : Int)
      decide (d * 16 * 16 * 2500 ≤ 15 * ((8192 * 65536 * k : Nat) : Int) ^ 2) && tapsAgree k f (a.drop 15) (b.drop 15)

/-- The tolerance of component `i` of an item. -/
def compAgree (item k i : Nat) (a b : Int) : Bool :=
  match item with
  | 1 | 101 | 11 => withinPct k 3 a b
  | 2 | 102 => within k (64 * 65536) a b
  | 3 | 103 => within k (16384 * 65536 / 50) a b
  | 5 => if i % 2 = 0 then withinPct k 4 a b else within k 65536 a b
  | 6 => if i = 27 then true else if i % 9 = 8 then withinPct k 10 a b
    else if i % 9 % 4 = 3 then within k (16384 * 65536 / 10) a b else within k (16384 * 65536 / 50) a b
  | 7 => within k (65536 * 0x80) a b
  | 8 => within k (65536 * 0x100) a b
  | _ => within k (2 * 65536) a b

/-- Whether two results agree; a run without a result agrees with nothing. -/
def agree (item k : Nat) : Option (List Int) → Option (List Int) → Bool
  | some a, some b =>
    if item = 4 ∨ item = 104 then tapsAgree k 3 a b
    else ((a.zip b).zipIdx).all fun x => compAgree item k x.2 x.1.1 x.1.2
  | _, _ => false

/-- Mean of two results. -/
def meanOf (a b : List Int) : List Int := (a.zip b).map fun x => (x.1 + x.2) / 2

/-- Sum of the differences of two results: which is nearer. -/
def distance (a b : List Int) : Nat := (a.zip b).foldl (fun t x => t + (x.1 - x.2).natAbs) 0

/-- What R323 makes of an item's runs, newest first. -/
inductive Settled where
  | more | value (l : List Int) | unsettled
  deriving DecidableEq, Repr

@[inherit_doc Settled] def settle (item k : Nat) : List (Option (List Int)) → Settled
  | [some b, some a] => if agree item k (some a) (some b) then .value (meanOf a b) else .more
  | [c, b, a] =>
    match c with
    | none => .unsettled
    | some z =>
      let ga := agree item k a c
      let gb := agree item k b c
      match a, b with
      | some x, some y =>
        if ga && gb then .value (meanOf (if distance x z ≤ distance y z then x else y) z)
        else if ga then .value (meanOf x z) else if gb then .value (meanOf y z) else .unsettled
      | some x, none => if ga then .value (meanOf x z) else .unsettled
      | none, some y => if gb then .value (meanOf y z) else .unsettled
      | none, none => .unsettled
  | _ => .more

/-! ## An item's value in its fields (R320, R236) -/

/-- Write components to fields of a size, one of the two neighbouring integers each. -/
def State.putFields (s : State) (e : List Byte) : List (Nat × Nat) → List Int → List Byte × State
  | (o, k) :: r, x :: l =>
    let (v, s1) := s.roundOpen x 65536
    s1.putFields (zPut e o k v) r l
  | _, _ => (e, s)

/-- The fields of an item in the order of its components; `single` where beam C alone is calibrated. -/
def itemFields (item : Nat) (single : Bool) : List (Nat × Nat) :=
  let bs := if single then [1] else [0, 1, 2]
  match item with
  | 1 => bs.map fun b => (16 + 8 * b, 2)
  | 2 => bs.map fun b => (18 + 8 * b, 2)
  | 3 => bs.map fun b => (20 + 8 * b, 2)
  | 4 => bs.flatMap fun b => (List.range 15).map fun i => (40 + 30 * b + 2 * i, 2)
  | 5 => bs.flatMap fun b => [(22 + 8 * b, 1), (23 + 8 * b, 1)]
  | 6 => (([0, 1, 2] : List Nat).flatMap fun c => (List.range 8).map (fun i => (136 + 16 * c + 2 * i, 2)) ++ [(184 + 2 * c, 2)]) ++ [(190, 2)]
  | 7 => [(228, 2)]
  | 8 => [(230, 2)]
  | 9 => [(232, 2)]
  | 101 => [(192, 2)]
  | 102 => [(194, 2)]
  | 103 => [(196, 2)]
  | 104 => (List.range 15).map fun i => (198 + 2 * i, 2)
  | _ => []

/-- P_WRITE, P_BIAS and P_COOL when item 11 settles (R325). -/
def powerFields (e : List Byte) (idx vexp : Nat) (track : Int) (ppca : Int) : List Byte :=
  let old := zU e 234 2
  -- P_pca is in 2^-16: the power of two goes into the base of the 256th power
  let p := roundPower ppca.toNat (midRadius idx) (radius track) vexp 33 0
  let pw := (p + 32768) / 65536
  let scale := fun (o : Nat) => if old = 0 then ((zU e o 2 : Nat) : Int) else rdiv ((zU e o 2 * pw : Nat) : Int) old
  zPut (zPut (zPut e 234 2 pw) 236 2 (scale 236)) 238 2 (scale 238)

/-! ## Queue of requests (R328, R333) -/

/-- Queue a calibration; one for an entry that is queued or running merges with it. -/
def State.calQueue (s : State) (n : Nat) (r : CalReq) : State :=
  let c := (s.bay n).cal
  let join := fun (q : CalReq) => { q with read := q.read || r.read, write := q.write || r.write, back := q.back && r.back, req := q.req || r.req }
  match c.run with
  | some u =>
    if u.req.idx = r.idx then s.onCal n fun c => { c with run := some { u with req := { u.req with req := u.req.req || r.req } } }
    else if c.queue.any fun q => q.idx == r.idx then
      s.onCal n fun c => { c with queue := c.queue.map fun q => if q.idx = r.idx then join q else q }
    else s.onCal n fun c => { c with queue := c.queue ++ [r] }
  | none =>
    if c.queue.any fun q => q.idx == r.idx then
      s.onCal n fun c => { c with queue := c.queue.map fun q => if q.idx = r.idx then join q else q }
    else (s.onCal n fun c => { c with queue := c.queue ++ [r] }).onSched n fun w =>
      { w with calBorn := if c.queue.isEmpty then s.ms else w.calBorn }

/-- Whether a calibration of an entry is queued or running. -/
def State.calDue (s : State) (n idx : Nat) : Bool :=
  (s.bay n).cal.queue.any (fun q => q.idx == idx) || (match (s.bay n).cal.run with | some r => r.req.idx == idx | none => false)

/-- T of R330: sum and number of the last 16 reported temperatures. -/
def State.calTemp (s : State) (n : Nat) : Int × Nat :=
  ((s.bay n).cal.temps.foldl (· + ·) 0, (s.bay n).cal.temps.length)

/-- Whether T differs from an entry's CAL_TEMP by more than TEMP_DELTA (0.1 °C; temperatures 1/128 °C). -/
def State.tempFar (s : State) (n : Nat) (e : List Byte) : Bool :=
  let (t, k) := s.calTemp n
  decide (0 < k) && decide (128 * (s.acting (R.CAL_CTL.TEMP_DELTA n) 5 200 * k) < 10 * (t - zS e 8 2 * k).natAbs)

/-- The temperature comparison for the entry in use (R330). -/
def State.tempCheck (s : State) (n idx : Nat) : State :=
  let e := s.ztEntry n idx
  if !s.on (R.FE_TEMP.VALID n) || !s.tempFar n e || s.calDue n idx || !zCrcOk e then s
  else
    let s1 := ((s.count (R.CAL_COUNT.TEMP_TRIG n) 1).onDisc n fun d => { d with wcal := d.wcal.filter (· != idx) }).showWcal n
    let s2 := s1.calQueue n ⟨idx, true, false, s1.on (R.CAL_CTL.DEFER n), false⟩
    let far := (List.range 512).filter fun i =>
      let x := s2.ztEntry n i
      i != idx && zCrcOk x && zU x 2 1 == zValid && s2.tempFar n x
    let s3 := far.foldl (fun s i => s.ztMark n i zStale) s2
    let (t, s4) := s3.roundOpen (s3.calTemp n).1 (max 1 (s3.calTemp n).2)
    s4.recordBay n 0x0B03 [ofInt 16 t, far.length, idx]

/-- Entry to a (layer, zone) for a tag's item (R328, R330): temperature, then the entry's state. -/
def State.zoneEnter (s : State) (n idx : Nat) : State :=
  let s1 := s.tempCheck n idx
  let e := s1.ztEntry n idx
  let st := zU e 2 1
  let old := decide (zU e 12 4 + s1.acting (R.CAL_LIM.RETRY_T n) 10 3600 ≤ s1.rtc % 2 ^ 32)
  if zCrcOk e && (st == zStale || (st == zUnsettled && old)) && !s1.calDue n idx then
    s1.calQueue n ⟨idx, true, false, s1.on (R.CAL_CTL.DEFER n), false⟩
  else s1

/-- The write scope is due before the first gate run in a (layer, zone) (R328); a disc rated below 1,500 rpm never runs it. -/
def State.writeScopeDue (s : State) (n idx : Nat) : Bool :=
  !(s.bay n).disc.wcal.contains idx && decide (1500 ≤ s.wrRpmMax n)

/-- At step 8 of R151 while a MOUNT runs (R328): entry 0 is calibrated where it is not VALID. -/
def State.calAtFocus (s : State) (n : Nat) : State :=
  let e := s.ztEntry n 0
  let mounting := (s.bay n).disc.suspend || (s.bay n).tags.any fun c => c.wb.opcode == Op.MOUNT
  if mounting && !(zCrcOk e && zU e 2 1 == zValid) && !s.calDue n 0 then s.calQueue n ⟨0, true, false, false, false⟩ else s

/-! ## Runs -/

/-- Show the item and the run in progress (R336). -/
def State.calShow (s : State) (n : Nat) : State :=
  match (s.bay n).cal.run with
  | none => s
  | some r =>
    let i := r.todo.headD 0
    (((s.raise (R.CAL_STAT.BUSY n)).put (R.CAL_STAT.INDEX n) r.req.idx).put (R.CAL_STAT.ITEM n) (if 100 < i then 10 else i)).put
      (R.CAL_STAT.RUN n) (r.runs.length + 1)

/-- The slots still blank from the cursor on, and where a run of nine may start (R326, R333). -/
def pcaPlace (track : Int) (slot : Nat) : Option (Int × Nat) :=
  if slot + 9 ≤ 70 then some (track, slot) else if -1000 < track then some (track - 1, 0) else none

/-- The nine test sectors of one recording, in write-entry `i`. -/
def pcaRun (psa : Nat → Nat) (i : Nat) : List WSector :=
  (List.range 9).map fun (k : Nat) => ⟨psa k, noPsa, 4, 0, 0xFF, k, List.replicate 4128 0, i, true, false, 0, .waiting⟩

/-- Begin a run of item 11 at the cursor (R325 steps 1 and 2): its journal entry, its nine test sectors, and the cursor
moved past them.  `none`: too few slots (R327). -/
def State.pcaStart (s : State) (n : Nat) (r : CalRun) : Option State :=
  let layer := r.req.idx / 32
  match pcaPlace (s.getTrack (R.CAL_PCA.TRACK n layer)) (s.get (R.CAL_PCA.SLOT n layer)) with
  | none => none
  | some (t, k) =>
    let psa := fun (i : Nat) => SlotAddr.psa ⟨layer, t, k + i⟩
    let p0 := roundPower (zU r.entry 234 2) (radius t) (midRadius r.req.idx) (s.get (R.CAL_STEP.VEXP n)) 17 0
    match s.createEntry n (psa 0) noPsa 9 4 0 0xFF with
    | none => none
    | some (i, s1) =>
      let s2 := (s1.onWrite n fun w => { w with run := w.run ++ pcaRun psa i }).onCal n fun c => { c with run := some { r with pca := some (t, k, p0) } }
      some (((s2.putS (R.CAL_PCA.TRACK n layer) t).put (R.CAL_PCA.SLOT n layer) (k + 9)).seek n t)

/-- Prepare the run that comes next: speed, sweep start (R324) or test writes (R325). -/
def State.calRunStart (s : State) (n : Nat) (r : CalRun) : State :=
  let item := r.todo.headD 0
  let (rd, wr) := s.calSpeeds n r.entry
  let s0 := s.setTarget n (if item = 11 ∨ 100 < item then wr else rd)
  match item with
  | 7 => s0.putS (R.FT_BIAS.FOC_BIAS n) (zS r.entry 228 2 - 2 * 16 * (max 1 (s.get (R.CAL_STEP.FOC_STEP n)) : Nat))
  | 8 => s0.putS (R.FT_BIAS.TILT_BIAS n) (zS r.entry 230 2 - 2 * 16 * (max 1 (s.get (R.CAL_STEP.TILT_STEP n)) : Nat))
  | 9 =>
    -- SA_ERR = 4 s / (T_rev × 100 × FOLLOW_V), Q0.31, saturated at 1.0; T_rev = 60 / rpm
    let num : Nat := 2 ^ 31 * (4 * (max 1 (s.get (R.CAL_STEP.SA_STEP n)))) * s.get (R.SPIN_RPM.RPM n)
    let (v, s1) := s0.roundOpen num (6000 * max 1 (s.get (R.SA_MISC.FOLLOW_V n)))
    (s1.put (R.SA_ERR.ERR n) (min (2 ^ 31 - 1) v.toNat)).stepFollow true n
  | 11 => if s.on (R.CAL_PCA.VALID n (r.req.idx / 32)) then (s0.pcaStart n r).getD s0 else s0
  | _ => s0

/-- How a calibration ended, into LAST (R336), and the next state (R332). -/
def State.calFinish (s : State) (n last : Nat) : State :=
  let req := match (s.bay n).cal.run with | some r => r.req.req | none => false
  let s1 := (((s.calIdle n last).onCal n fun c => { c with run := none }).passSafe n).onSched n fun c => { c with seg := none }
  let s2 := if req && !(s1.bay n).cal.queue.any (·.req) then s1.zero (R.CAL_CTL.REQ n) else s1
  let s3 := s2.onWrite n fun w => { w with run := w.run.filter fun x => x.kind != 4 }
  let s4 := (s3.applyBias n (s3.idxNow n)).showWcal n
  let s5 := ((s4.raise (R.SCHED_STAT.IDLE n)).zero (R.SCHED_STAT.CUR_TAG_VALID n)).zero (R.SCHED_STAT.CUR_BG n)
  if s5.bayState n = BS.CAL then s5.setBayState n (if (s5.bay n).tags.isEmpty then BS.READY else BS.ACTIVE) Why.sequence 0 else s5

/-- Write the entry (R331) and end. -/
def State.calWrite (s : State) (n : Nat) (r : CalRun) (timeout : Bool) : State :=
  let st := if r.unsettled || timeout then zUnsettled else if r.inherited then zStale else zValid
  let (rd, wr) := s.calSpeeds n r.entry
  let e := zPut (zPut (zPut (zPut r.entry 0 1 (r.req.idx / 32)) 1 1 (r.req.idx % 32)) 2 1 st) 3 1 (s.get (R.LINK_CTL.ADC_RATE n))
  let e1 := zPut (zPut (zPut (zPut e 4 2 rd) 6 2 wr) 8 2 r.temp) 10 2 (zU e 10 2 + 1)
  let e2 := zPut e1 12 4 (if s.on R.RTC_STAT.VALID then s.rtc % 2 ^ 32 else 0)
  let s1 := s.ztWrite n r.req.idx e2
  let s2 := if r.req.write then s1.onDisc n fun d => { d with wcal := r.req.idx :: d.wcal.filter (· != r.req.idx) } else s1
  s2.calFinish n (if timeout then 4 else if st = zUnsettled then 2 else if r.inherited then 3 else 1)

/-- Keep a run's state and go on with the next run, or end. -/
def State.calNext (s : State) (n : Nat) (r : CalRun) : State :=
  if r.todo.isEmpty then (s.onCal n fun c => { c with run := some r }).calWrite n r false
  else ((s.onCal n fun c => { c with run := some r }).calShow n).calRunStart n r

/-- The single component of a result, as the record shows it; of several, the choice is open (DESIGN CHOICE, log entry 3). -/
def State.shownResult (s : State) (r : Option (List Int)) : Nat × State :=
  match r with
  | some [x] => (ofInt 64 (x / 65536), s)
  | _ => s.fresh 64

/-- The present item does not settle (R323): its fields keep their start values. -/
def State.calUnsettled (s : State) (n : Nat) (r : CalRun) : State :=
  let item := r.todo.headD 0
  let (a, s1) := s.shownResult (r.runs.getD 2 none)
  let (b, s2) := s1.shownResult (r.runs.getD 1 none)
  let (c, s3) := s2.shownResult (r.runs.getD 0 none)
  let s4 := (s3.count (R.CAL_COUNT.UNSETTLED n) 1).recordBay n 0x0B01 [if 100 < item then 10 else item, a, b, c, r.req.idx]
  s4.calNext n { r with todo := r.todo.drop 1, runs := [], unsettled := true }

/-- Too few slots in the power calibration area (R327). -/
def State.pcaFull (s : State) (n : Nat) (r : CalRun) : State :=
  (s.recordBay n 0x0B04 [r.req.idx / 32, r.req.idx]).calNext n { r with todo := r.todo.drop 1, runs := [], unsettled := true }

/-- The nearest VALID entry of the layer, the outer one of two (R329). -/
def State.inheritFrom (s : State) (n idx : Nat) : Option Nat :=
  ((zonesByDistance (idx % 32)).drop 1).find? (fun z =>
    let e := s.ztEntry n (idx / 32 * 32 + z)
    zCrcOk e && zU e 2 1 == zValid) |>.map fun z => idx / 32 * 32 + z

/-- Items 1 to 10 are inherited (R329). -/
def State.calInherit (s : State) (n : Nat) (r : CalRun) : State :=
  let src := s.inheritFrom n r.req.idx
  let e := match src with
    | some j =>
      let x := s.ztEntry n j
      r.entry.take 16 ++ (x.drop 16).take 116 ++ (r.entry.drop 132).take 4 ++ (x.drop 136).take 98 ++ r.entry.drop 234
    | none => r.entry
  let s1 := s.recordBay n 0x0B02 [src.getD 0xFFFF, r.req.idx]
  s1.calNext n { r with entry := e, todo := r.todo.filter (· == 11), runs := [], inherited := true }

/-- The result of one run (R322). -/
def State.runResult (s : State) (n : Nat) (r : CalRun) (single : Bool) (c : CalStats) : Option (List Int) × State :=
  let item := r.todo.headD 0
  match c with
  | .beams l =>
    let base := if 100 < item then item - 100 else item
    let bs := if 100 < item then [(192, 198, l.getD 0 ⟨0, 0, 0, 0, 0, 0, (0, 0), (0, 0), (0, 0), (0, 0), []⟩)]
      else (if single then [1] else [0, 1, 2]).map fun b =>
        (16 + 8 * b, 40 + 30 * b, l.getD b ⟨0, 0, 0, 0, 0, 0, (0, 0), (0, 0), (0, 0), (0, 0), []⟩)
    if (base ≤ 5) && bs.all fun b => decide (s.acting (R.CAL_CTL.MIN_SECT n) 4 64 ≤ b.2.2.sect) then
      let (x, s1) := s.beamResults r.entry base bs
      (some x, s1)
    else (none, s)
  | .cross l =>
    if item = 6 then
      let x := fun (c : Nat) => l.getD c ⟨false, [], 0, 0⟩
      let (a, s1) := s.crossResult r.entry 0 (x 0)
      let (b, s2) := s1.crossResult r.entry 1 (x 1)
      let (c, s3) := s2.crossResult r.entry 2 (x 2)
      let (k, s4) := s3.xnoise r.entry [(x 0, a), (x 1, b), (x 2, c)]
      (some (a ++ b ++ c ++ [k]), s4)
    else (none, s)
  | .sweep pts =>
    if 7 ≤ item ∧ item ≤ 9 then
      let (v, s1) := s.vertex pts
      (v.map ([·]), s1)
    else (none, s)
  | .power b =>
    match r.pca with
    | some (_, _, p0) =>
      if item = 11 then
        let (v, s1) := s.pcaResult p0 (zS r.entry 250 2) b
        (v.map ([·]), s1)
      else (none, s)
    | none => (none, s)
  | .cursor _ _ => (none, s)

/-- The item has settled on a value: it goes into the entry (R323). -/
def State.calSettled (s : State) (n : Nat) (r : CalRun) (single : Bool) (v : List Int) : State :=
  let item := r.todo.headD 0
  let (e, s1) := match item, r.pca with
    | 11, some (t, _, _) => (powerFields r.entry r.req.idx (s.get (R.CAL_STEP.VEXP n)) t (v.headD 0), s)
    | _, _ => s.putFields r.entry (itemFields item single) v
  s1.calNext n { r with entry := e, todo := r.todo.drop 1, runs := [], pca := none }

/-- The power calibration area's cursor found by blank tests (R326). -/
def State.pcaFound (s : State) (n layer : Nat) (lowest : Option Int) (scan : List Bool) : State :=
  let last := (scan.zipIdx).foldl (fun m x => if x.1 then x.2 + 1 else m) 0
  let (t, k) := match lowest with
    | none => ((-601 : Int), 0)
    | some t => if last < 70 then (t, last) else if -1000 < t then (t - 1, 0) else (t, last)
  ((s.raise (R.CAL_PCA.VALID n layer)).putS (R.CAL_PCA.TRACK n layer) t).put (R.CAL_PCA.SLOT n layer) k

/-- A run's revolution has ended (R323): its result is compared, and the item settles, runs again or is unsettled. -/
def State.calRunEnd (s : State) (n : Nat) (c : CalStats) : State :=
  match (s.bay n).cal.run with
  | none => s
  | some r =>
    let item := r.todo.headD 0
    let layer := r.req.idx / 32
    let single := s.bitOf (R.TRK_FALLBACK.LAYERS n) layer
    match c with
    | .cursor lo scan =>
      if item = 11 ∧ !s.on (R.CAL_PCA.VALID n layer) then
        let s1 := s.pcaFound n layer lo scan
        match pcaPlace (s1.getTrack (R.CAL_PCA.TRACK n layer)) (s1.get (R.CAL_PCA.SLOT n layer)) with
        | some _ => s1.calRunStart n r
        | none => s1.pcaFull n r
      else s
    | _ =>
      let few := match c with
        | .beams l => item == 1 && r.runs.isEmpty && decide ((l.getD 1 ⟨0, 0, 0, 0, 0, 0, (0, 0), (0, 0), (0, 0), (0, 0), []⟩).found < s.acting (R.CAL_CTL.MIN_SECT n) 4 64)
        | _ => false
      let (x, s1) := s.runResult n r single c
      let s2 := if item = 9 then (s1.zero (R.SA_ERR.ERR n)).stepGo true n (s1.saTarget n layer) else s1
      if few then s2.calInherit n r
      else if item = 6 ∧ single then s2.calNext n { r with todo := r.todo.drop 1, runs := [] }
      else
        let r1 := { r with runs := x :: r.runs }
        match settle item (s.acting (R.CAL_LIM.TOL_SCALE n) 4 64) r1.runs with
        | .value v => s2.calSettled n r1 single v
        | .unsettled => s2.calUnsettled n r1
        | .more =>
          let full := match pcaPlace (s2.getTrack (R.CAL_PCA.TRACK n layer)) (s2.get (R.CAL_PCA.SLOT n layer)) with | none => true | some _ => false
          if item = 11 ∧ full then s2.pcaFull n r1 else s2.calNext n r1

/-- The items of a request in their order (R320, R323): item 6 is left out in single-track fallback, and a calibration that
begins at WRITE_RPM runs items 10 and 11 first. -/
def State.calItems (s : State) (n : Nat) (q : CalReq) (wr : Nat) : List Nat :=
  let rd := if q.read then (if s.bitOf (R.TRK_FALLBACK.LAYERS n) (q.idx / 32) then [1, 2, 3, 4, 5, 7, 8, 9] else [1, 2, 3, 4, 5, 6, 7, 8, 9]) else []
  let w := if q.write ∧ 1500 ≤ s.wrRpmMax n then [101, 102, 103, 104, 11] else []
  if s.get (R.SPIN_TGT.TGT n) = wr ∧ s.on (R.SPIN_STAT.AT_SPEED n) then w ++ rd else rd ++ w

/-- The tags of a (layer, zone): those whose next sector lies there. -/
def Cmd.inZone (c : Cmd) (idx : Nat) : Bool :=
  match c.span with
  | some (lo, _) => entryIndex (slotOfNumber lo).layer (slotOfNumber lo).track == idx && (c.wb.opcode == Op.READ || c.wb.opcode == Op.WRITE
      || c.wb.opcode == Op.VERIFY || c.wb.opcode == Op.MEDIA_SCAN || c.wb.opcode == Op.CLOSE_EXTENT)
  | none => false

/-- Begin the first queued calibration (R328): the bay is in `CAL`; speeds that violate R231 end it at once (R331). -/
def State.calBegin (s : State) (n : Nat) : State :=
  match (s.bay n).cal.queue, (s.bay n).cal.run with
  | q :: rest, none =>
    let e := s.zCalStart n q.idx
    let (rd, wr) := s.calSpeeds n e
    let adc := s.get (R.LINK_CTL.ADC_RATE n)
    let (t, s0) := match s.calTemp n with
      | (_, 0) => s.fresh 16
      | (t, k) =>
        let (x, u) := s.roundOpen t k
        (ofInt 16 x, u)
    let r : CalRun := ⟨q, e, s0.calItems n q wr, [], false, false, t, none⟩
    let s1 := ((s0.onCal n fun c => { c with queue := rest, run := some r }).onSched n fun c => { c with calUrg := false }).setBayState n BS.CAL Why.sequence 0
    let s2 := s1.calShow n
    if s2.speedsOk n adc (q.idx % 32) rd wr then s2.calNext n r
    else
      let s3 := (s2.recordBay n 0x0B05 [rd, wr, adc, q.idx]).calFinish n 6
      ((s3.bay n).tags.filter (·.inZone q.idx)).foldl (fun s c => (s.endWork n c.id).endTag n c ST.ZONE_UNUSABLE) s3
  | _, _ => s

/-- The parameter of a sweep at slot `k` of `count` (R324): from start − 2s to start + 2s. -/
def State.sweepSlot (s : State) (n k count : Nat) : State :=
  match (s.bay n).cal.run with
  | none => s
  | some r =>
    let at_ := fun (s : State) (start : Int) (st : Nat) => s.roundOpen (start * (count - 1 : Nat) + (4 * (16 * (max 1 st : Nat)) : Int) * (k : Int)
      - 2 * (16 * (max 1 st : Nat) : Int) * (count - 1 : Nat)) (max 1 (count - 1))
    match r.todo.headD 0 with
    | 7 =>
      let (v, s1) := at_ s (zS r.entry 228 2) (s.get (R.CAL_STEP.FOC_STEP n))
      s1.putS (R.FT_BIAS.FOC_BIAS n) v
    | 8 =>
      let (v, s1) := at_ s (zS r.entry 230 2) (s.get (R.CAL_STEP.TILT_STEP n))
      s1.putS (R.FT_BIAS.TILT_BIAS n) v
    | _ => s

/-- A revolution of the gap has passed (R409). -/
def State.gapRevolution (s : State) (n : Nat) : State :=
  let g := (s.bay n).sched.gap
  if g = 0 then s
  else
    let s1 := s.onSched n fun c => { c with gap := g - 1 }
    if g = 1 then s1.zero (R.SCHED_STAT.GAP n) else s1

/-! ## Commands -/

/-- CAL_REQUEST (R328, R333): REQ written as 1 asks for entry INDEX, by SCOPE, as background work. -/
def execCalRequest (n : Nat) (s : State) : Host.Outcome State Fault Refusal :=
  if s.bayPresent n then
    .next ((s.raise (R.CAL_CTL.REQ n)).calQueue n ⟨s.get (R.CAL_CTL.INDEX n), true, s.on (R.CAL_CTL.SCOPE n), true, true⟩)
  else .next s

/-- CAL_TIMEOUT (R332): settled items are written, the others keep their start values. -/
def execCalTimeout (n : Nat) (s : State) : Host.Outcome State Fault Refusal :=
  if s.bayPresent n then
    match (s.bay n).cal.run with
    | none => .next s
    | some r =>
      let item := r.todo.headD 0
      .next ((s.recordBay n 0x0B06 [if 100 < item then 10 else item, r.runs.length + 1, r.req.idx]).calWrite n r true)
  else .next s

/-- CAL_TEMP_CHECK (R330): once per second while the bay stays in a (layer, zone). -/
def execCalTempCheck (n : Nat) (s : State) : Host.Outcome State Fault Refusal :=
  if s.bayPresent n ∧ (s.bay n).mounted then .next (s.tempCheck n (s.idxNow n)) else .next s

end Sys2Proof.Machine
end

