-- ==== Sys2Proof/Machine/Reading.lean ====
section
/-!
DEFINITION. Reading (09_read_channel.md): frames and their zone-table entries (R234, R235), samples (R66, R246), framing of a
sector (R242 to R248), and the passes of the joint detector (R249 to R253).
-/

namespace Sys2Proof.Machine

/-! ## Settings (R257 to R260, R287) -/

/-- The settings a sector is read with. -/
def State.readCfg (s : State) (n : Nat) : ReadCfg :=
  ⟨s.acting (R.RC_SYNC.SYNC_TOL n) 0 6, s.acting (R.RC_SYNC.SYNC_WIN n) 4 64, s.acting (R.RC_SYNC.RESYNC_TOL n) 0 3,
   s.acting (R.RC_SYNC.RESYNC_WIN n) 1 7, s.acting (R.RC_ERA.ENV_THR n) 10 90, s.acting (R.RC_ERA.ENV_ON n) 1 255,
   s.acting (R.RC_ERA.ENV_OFF n) 1 255, s.get (R.RC_ERA.EXT n), s.acting (R.RC_BLANK.BLANK_THR n) 2 63⟩

/-- Change the frames of a bay. -/
def State.onFrames (s : State) (n : Nat) (f : List Frame → List Frame) : State := s.onRead n fun r => { r with frames := f r.frames }

/-- Show which beams frame and whether beam I verifies (R262). -/
def State.showFraming (s : State) (n : Nat) : State :=
  let open_ := (s.bay n).reading.frames.flatMap fun f => if f.started then f.members.filter fun m => !m.framed else []
  (s.put (R.RC_STAT.FRAMING n) ((List.range 3).foldl (fun v b => v + b2n (open_.any fun m => m.beam == b) * 2 ^ b) 0)).putB
    (R.RC_STAT.VERIFY n) (open_.any fun m => m.verify)

/-! ## Frame start (R234, R249) -/

/-- Whether a track beside beam C's belongs to the same group: it exists, and lies in the same zone and area. -/
def sideTrack (t t' : Int) : Bool :=
  decide (-1000 ≤ t') && decide (t' ≤ 143999) && (zoneOfTrack t == zoneOfTrack t') && (decide (t < 0) == decide (t' < 0))

/-- Members of the group at slot `k` of track `t`: in a write run beam I's verify and the blank tests of beams C and O (R299,
R302); else three beams, or beam C alone. -/
def State.groupMembers (s : State) (n k : Nat) (t : Int) : Nat × List Member :=
  let layer := s.get (R.FT_STAT.LAYER n)
  let psa := fun (d : Int) => SlotAddr.psa ⟨layer, t + d, k⟩
  let run := (s.bay n).writing.run
  let fly := s.get (R.ANG_STAT.STATE n) == 3
  if (s.bay n).sched.writes then
    let untested := fun (p : Nat) => run.any fun x => x.psa == p && x.phase == .waiting && !x.tested
    (2, (if run.any fun x => x.psa == psa (-1) && x.phase == .written then [{ beam := 0, psa := (psa (-1)), verify := true, fly := fly }] else [])
      ++ (if untested (psa 0) then [{ beam := 1, psa := psa 0, test := true, fly := fly }] else [])
      ++ (if untested (psa 1) then [{ beam := 2, psa := psa 1, test := true, fly := fly }] else []))
  else if (s.bay n).reading.pattern = 1 then (1, [{ beam := 1, psa := psa 0, fly := fly, single := true }])
  else (0, (if sideTrack t (t - 1) then [{ beam := 0, psa := psa (-1), fly := fly }] else []) ++ [{ beam := 1, psa := psa 0, fly := fly }]
      ++ (if sideTrack t (t + 1) then [{ beam := 2, psa := psa 1, fly := fly }] else []))

/-- The frame start of slot `k` (R234): the entry's fetch begins. -/
def State.frameStart (s : State) (n k : Nat) : State :=
  let t := s.getTrack (R.FT_STAT.TRACK n)
  let layer := s.get (R.FT_STAT.LAYER n)
  let (pat, ms) := s.groupMembers n k t
  if ms.isEmpty then s
  else
    let f : Frame := { idx := entryIndex layer t, at_ := ⟨layer, t, k⟩, pattern := pat, fly := s.get (R.ANG_STAT.STATE n) == 3,
                       ofs0 := (s.bay n).reading.ofsNow, members := ms }
    s.onFrames n fun l => l ++ [f]

/-- A wedge missed inside a slot flags its sectors (R100). -/
def State.readMiss (s : State) (n w : Nat) : State :=
  s.onFrames n fun l => l.map fun f =>
    if (slotWedges (zoneOfTrack f.at_.track) f.at_.slot).contains w then
      { f with members := f.members.map fun m => if m.framed then m else { m with fly := true } }
    else f

/-- The offsets of the beams at an accepted wedge, kept for the joint detector (R250). -/
def State.readWedge (s : State) (n w : Nat) (d : List Int) : State :=
  (s.onRead n fun r => { r with ofsNow := d }).onFrames n fun l => l.map fun f => if f.started then { f with ofs := f.ofs.put w d } else f

/-! ## The zone-table entry (R235, R262, R264) -/

/-- The first condition of R235 that an entry fails, counted from 1; 0 for none. -/
def State.entryFault (s : State) (n idx : Nat) (e : List Byte) : Nat :=
  let adc := s.get (R.LINK_CTL.ADC_RATE n)
  let rd := zU e 4 2
  let wr := zU e 6 2
  if !zCrcOk e then 1
  else if zU e 0 1 ≠ idx / 32 ∨ zU e 1 1 ≠ idx % 32 then 2
  else if zU e 2 1 = zEmpty then 3
  else if zU e 3 1 ≠ adc then 4
  else if !s.speedsOk n adc (idx % 32) rd wr then 5
  else if s.get (R.SPIN_SPEED.RD_RPM n) < rd then 6
  else if min (s.get (R.SPIN_SPEED.WR_RPM n)) (s.wrRpmMax n) < wr then 7
  else 0

/-- Show the held entry (R262). -/
def State.showEntry (s : State) (n : Nat) : State :=
  match (s.bay n).reading.held with
  | some (i, e, ok) =>
    (((s.put (R.RC_STAT.ENTRY n) i).put (R.RC_STAT.ENTRY_STATE n) (zU e 2 1)).putB (R.RC_STAT.ENTRY_OK n) ok).put (R.RC_STAT.GEN n) (zU e 10 2)
  | none => s.zero (R.RC_STAT.ENTRY_OK n)

/-- An entry has failed R235: recorded once until it checks again, and its calibration is due (R264, R328). -/
def State.entryBad (s : State) (n idx cond : Nat) : State :=
  let s1 := if (s.bay n).reading.badSeen.contains idx then s else
    (s.recordBay n 0x0801 [idx, (Config.code 264 cond).toNat]).onRead n fun r => { r with badSeen := idx :: r.badSeen }
  if s1.calDue n idx then s1 else s1.calQueue n ⟨idx, true, false, false, false⟩

/-- ZONE_ENTRY_FETCH_DONE (R235): the oldest fetch running ends; what memory's checkers showed stands in the operand. -/
def execZoneEntryFetchDone (n : Nat) (o : MemSeen) (s : State) : Host.Outcome State Fault Refusal :=
  s.onBay n fun s =>
    match (s.bay n).reading.frames.find? fun f => f.fetch == .running with
    | none => s
    | some f =>
      let set := fun (v : Fetch) (s : State) => s.onFrames n fun l => l.map fun g =>
        if g.at_ = f.at_ ∧ g.fetch = .running then { g with fetch := v } else g
      match s.memRead true n (s.ztAddr n f.idx) 256 o with
      | (.done e, s1) =>
        let c := s1.entryFault n f.idx e
        if c = 0 then set (.good e) (s1.onRead n fun r => { r with badSeen := r.badSeen.filter (· != f.idx) })
        else set .bad (s1.entryBad n f.idx c)
      | (.held _, s1) => s1
      | (_, s1) => set .bad (s1.entryBad n f.idx 8)

/-- SECTOR_PREAMBLE_START (R234, R239): the first preamble period of the oldest frame not started; `pos` gives, for beams I, C
and O, the position of that period in 2^-40 sample from the next sample to arrive. -/
def execSectorPreambleStart (n : Nat) (pos : List Int) (s : State) : Host.Outcome State Fault Refusal :=
  s.onBay n fun s =>
    match (s.bay n).reading.frames.find? fun f => !f.started with
    | none => s
    | some f =>
      let drop := s.onFrames n fun l => l.filter fun g => g.started || g.at_ != f.at_
      let late := fun (s : State) => f.members.foldl (fun s m => s.count (R.RC_MISC_CNT.ENTRY_LATE n m.beam) 1) s
      let begin_ := fun (e : List Byte) (held : Bool) (s : State) =>
        let om := nominalStep (s.get (R.LINK_CTL.ADC_RATE n)) (s.get (R.ANG_RATE.RATE n)) (zoneOfTrack f.at_.track)
        let s1 := s.onFrames n fun l => l.map fun g => if g.at_ = f.at_ ∧ !g.started then
          { g with started := true, late := held, entry := e, members := g.members.map fun m => { m with pos := pos.getD m.beam 0, step := om } } else g
        ((s1.onRead n fun r => { r with held := some (f.idx, e, true) }).showEntry n).showFraming n
      match f.fetch with
      | .good e => begin_ e false s
      | .bad => drop
      | .running =>
        match (s.bay n).reading.held with
        | some (i, e, true) => if i = f.idx then begin_ e true (late s) else late drop
        | _ => late drop

/-! ## Framing one sector (R242 to R248) -/

/-- Field period `i` of a slot as a period number from the slot's start. -/
def fieldPeriod (l : List Stretch) (p0 i : Nat) : Nat :=
  (l.foldl (fun (a : Nat × Nat) st =>
    match st with
    | .field f k => if i < a.2 then a else if i < a.2 + k then (f + (i - a.2) - p0, a.2 + k) else (a.1, a.2 + k)
    | _ => a) (0, 0)).1

/-- Every payload period of a slot, from the slot's start. -/
def payloadPeriods (l : List Stretch) (p0 : Nat) : List Nat :=
  (l.foldl (fun (a : Nat × List Nat) st =>
    match st with
    | .field f k => (a.1 + k, a.2 ++ (List.range k).filterMap fun j => if 240 ≤ a.1 + j ∧ a.1 + j < 39816 then some (f + j - p0) else none)
    | _ => a) (0, [])).2

/-- Samples of a member as signals, oldest first. -/
def Member.signals (m : Member) : Array Sig := (m.samples.reverse.map fun x => match x with | some v => (⟨v, false⟩ : Sig) | none => ⟨0, true⟩).toArray

/-- Whether enough samples have arrived to frame the member of slot `k` in zone `z`. -/
def Member.complete (m : Member) (z k : Nat) : Bool :=
  decide (m.pos + m.step * ((slotEnd z k - 42000 * k : Nat) : Int) + 16 * 2 ^ 40 ≤ 2 ^ 40 * (m.samples.length : Int))

/-- The blank test of a member (R245). -/
def Member.written (m : Member) (e : List Byte) (c : ReadCfg) (z k : Nat) : Bool :=
  let o := zCorr m.beam m.verify
  slotWritten e o c.blankThr (m.signals.map (levelCorrect e o)) (payloadSpans (slotLayout z k) (42000 * k) m.pos m.step 0 [])

/-- What framing a member gives: the member, cycle slips, marks missed, and the rises of its defect flags. -/
structure FramedMember where
  m      : Member
  slips  : Nat
  missed : Nat
  rises  : Nat

/-- Frame a member (R242 to R248). -/
def Member.frame (m : Member) (e : List Byte) (c : ReadCfg) (z k : Nat) : FramedMember :=
  let o := zCorr m.beam m.verify
  let w := m.signals.map (levelCorrect e o)
  let zf := fun (i : Int) => equalise e (zTaps m.beam m.verify) w i
  let bits := (runLoop e zf z k m.pos m.step).1
  let fr := framePayload c bits
  let lay := slotLayout z k
  let wr := fr.sync.isSome || slotWritten e o c.blankThr w (payloadSpans lay (42000 * k) m.pos m.step 0 [])
  if !wr then ⟨{ m with framed := true, blank := true, done := true, samples := [], flags := [] }, 0, 0, 0⟩
  else
    let fl := m.flags.reverse.toArray
    let refl := (payloadPeriods lay (42000 * k)).map fun p => fl.getD ((m.pos + m.step * (p : Int)) / 2 ^ 40).toNat false
    let env := flagRun c.envOn c.envOff false 0 (envelopeLow c.envThr (zU e (o + 6) 1) 0 fr.vals)
    let flag := (refl.zip env).map fun (a, b) => a || b
    let era := spread c.ext flag
    let vals := (fr.vals.zip era).map fun (y, x) => if x then { y with era := true } else y
    ⟨{ m with framed := true, pred := fr.sync.isNone, miss := min 15 fr.missed, heads := fr.heads, vals := vals, decs := fr.dec,
              syncAt := fr.sync.map (fun d => m.pos + m.step * ((fieldPeriod lay (42000 * k) 192 : Int) + d)), samples := [], flags := [] },
     fr.slips, fr.missed, rises false flag⟩

/-- Erased payload bits of a framed member. -/
def Member.erased (m : Member) : Nat := (m.vals.filter (·.era)).length

/-- Count what framing found (R263). -/
def State.countFrame (s : State) (n : Nat) (f : FramedMember) : State :=
  let b := f.m.beam
  let s1 := s.count (R.RC_FRAMED.COUNT n b) 1
  if f.m.blank then s1.count (R.RC_DEF_CNT.BLANK n b) 1
  else ((((s1.count (R.RC_SYNC_CNT.SYNC_PRED n b) (b2n f.m.pred)).count (R.RC_SYNC_CNT.RESYNC_MISS n b) f.missed).count
    (R.RC_DEF_CNT.DEFECTS n b) f.rises).count (R.RC_ERASED.COUNT n b) f.m.erased).count (R.RC_MISC_CNT.TL_SLIP n b) f.slips

/-- The measured skew of a side beam (R255): the difference of sync positions in counts, averaged with weight 1/16. -/
def State.skewTake (s : State) (n : Nat) (f : Frame) (b : Nat) : State :=
  let at_ := fun (k : Nat) => (f.members.find? fun m => m.beam == k).bind (·.syncAt)
  match at_ 1, at_ b with
  | some c, some x =>
    let fld := if b = 0 then R.RC_SKEW_MEAS.MEAS_I n else R.RC_SKEW_MEAS.MEAS_O n
    let old := s.getS fld
    let rate := s.get (R.ANG_RATE.RATE n)
    let (v, s1) := s.roundOpen (2 ^ 70 * (15 * old) + (x - c) * 2 ^ s.get (R.LINK_CTL.ADC_RATE n) * rate) (16 * 2 ^ 70)
    s1.putS fld v
  | _, _ => s

/-! ## Samples (R66, R63, R246) -/

/-- The sample of period `i` on beam `b` of an RF frame (R66). -/
def rfSample (f : UpFrame) (i b : Nat) : Int :=
  let k := 6 * (3 * i + b)
  let lo := (f.data.getD (k / 64) 0).toNat / 2 ^ (k % 64)
  let hi := (f.data.getD (k / 64 + 1) 0).toNat * 2 ^ (64 - k % 64)
  toInt 6 ((lo + hi) % 64)

/-- Append a sample to the open members of its beam. -/
def State.pushSample (s : State) (n b : Nat) (x : Option Int) : State :=
  let flag := (Sparse.get ({} : Refl) (s.bay n).reading.refl b).flag
  s.onFrames n fun l => l.map fun f =>
    if f.started then { f with members := f.members.map fun m =>
      if m.beam = b ∧ !m.framed then { m with samples := x :: m.samples, flags := flag :: m.flags } else m }
    else f

/-- The defect flag follows beam C's reflectance flag, held low while beam C is in a gate run (R124, R246). -/
def State.defectFollow (s : State) (n : Nat) (f : Bool) : State :=
  let f := f && !s.gateRunning n
  let v := (s.bay n).servo
  if f = v.defFlag then s
  else
    let s1 := s.onServo n fun v => { v with defFlag := f, defRise := if f then s.get (R.ANG_NOW.ANGLE n) else v.defRise }
    if f then s1 else s1.zero (R.SRV_STAT.DEF_HOLD n)

/-- One sample through the reflectance path (R246): blocks of 64, compared with the REFL_REF of the last latched entry. -/
def State.reflSample (s : State) (n b : Nat) (x : Option Int) : State :=
  let r := Sparse.get ({} : Refl) (s.bay n).reading.refl b
  let r1 := { r with sum := r.sum + (match x with | some v => v + 32 | none => 0), num := r.num + 1, era := r.era || x.isNone }
  if r1.num < 64 then s.onRead n fun q => { q with refl := q.refl.put b r1 }
  else
    let ref := match (s.bay n).reading.held with | some (_, e, _) => zU e (zCorr b false + 7) 1 % 64 | none => 0
    let low := decide (r1.sum * 100 < ((s.acting (R.RC_DEF.REFL_THR n) 10 90 * ref * 64 : Nat) : Int))
    let against := if r1.flag then !low else low
    let run := if against then r1.run + 1 else 0
    let need := if r1.flag then s.acting (R.RC_DEF.REFL_OFF n) 1 15 else s.acting (R.RC_DEF.REFL_ON n) 1 15
    let r2 : Refl := if r1.era then { r1 with sum := 0, num := 0, era := false }
      else if need ≤ run then ⟨0, 0, false, 0, !r1.flag⟩ else ⟨0, 0, false, run, r1.flag⟩
    let s1 := s.onRead n fun q => { q with refl := q.refl.put b r2 }
    if b = 1 then s1.defectFollow n r2.flag else s1

/-- The raw capture of TABLE_READ (R395): stage-1 samples of the three beams, an erased one as 0x80. -/
def State.pushRaw (s : State) (n : Nat) (l : List (Option Int)) : State :=
  s.onRead n fun r => match r.raw with
    | some (room, bytes) =>
      if room = 0 then r
      else { r with raw := some (room - 1, bytes ++ l.map fun x => match x with | some v => BitVec.ofNat 8 (ofInt 8 v) | none => 0x80) }
    | none => r

/-- One sample period of the three beams. -/
def State.samplePeriod (s : State) (n : Nat) (l : List (Option Int)) : State :=
  (List.range 3).foldl (fun s b => (s.pushSample n b (l.getD b none)).reflSample n b (l.getD b none)) (s.pushRaw n l)

/-- Frame the members of started frames whose samples have all arrived. -/
def State.frameComplete (s : State) (n : Nat) (test : State → Member → Bool → State) : State :=
  let c := s.readCfg n
  (s.bay n).reading.frames.foldl (fun s f =>
    if !f.started then s
    else
      let z := zoneOfTrack f.at_.track
      let k := f.at_.slot
      let s1 := f.members.foldl (fun s m =>
        if m.framed || !m.complete z k then s
        else if m.test then
          let wr := m.written f.entry c z k
          test (s.onFrames n fun l => l.map fun g => if g.at_ = f.at_ then
            { g with members := g.members.map fun x => if x.beam = m.beam then { x with framed := true, done := true, blank := !wr, samples := [], flags := [] } else x }
            else g) m wr
        else
          let fm := m.frame f.entry c z k
          (s.onFrames n fun l => l.map fun g => if g.at_ = f.at_ then
            { g with members := g.members.map fun x => if x.beam = m.beam then fm.m else x } else g).countFrame n fm) s
      match (s1.bay n).reading.frames.find? fun g => g.at_ == f.at_ with
      | some g => if g.members.all (·.framed) && f.members.any (fun m => !m.framed) then (s1.skewTake n g 0).skewTake n g 2 else s1
      | none => s1) s |>.showFraming n

/-! ## The joint detector (R249 to R253) -/

/-- The index of a payload bit in its segment's window: the offsets of the beams that hold for segment `i` (R250). -/
def Frame.segOfs (f : Frame) (heads : List Nat) (i : Nat) : List Int :=
  let ws := slotWedges (zoneOfTrack f.at_.track) f.at_.slot
  let upto := ws.take (ws.length - (heads.length - 1) + i)
  match upto.reverse.findSome? fun w => (f.ofs.find? fun e => e.1 == w).map (·.2) with
  | some d => d
  | none => f.ofs0

/-- A-posteriori values of the channel bits from a decoder: the remodulated posteriors, negated where scrambled (R251). -/
def Ldpc.channelPost (d : Ldpc) (psa : Nat) : List Int :=
  remodulate (((List.range 37248).zip (scramble psa)).map fun (v, s) =>
    let e := sat6 (d.post.getD v 0)
    if s then -e else e)

/-- Side values of a neighbour for the next pass (R251, R270), × 2^12: ±1 of the preliminary decisions in the first pass, of the
decoded codeword once it has converged, else from the decoder's latest posteriors. -/
def Member.sideValues (m : Member) : List Int :=
  match m.code with
  | some d =>
    if m.conv then (modulate (d.word.zipWith xor (scramble m.psa))).map fun b => 4096 * pm b
    else (d.channelPost m.psa).map sideValue
  | none => (m.decs.zip m.vals).map fun (b, y) => if y.era then 0 else 4096 * pm b

/-- One side of an instance over the payload: crosstalk coefficients by bit, and the side values at j+1, j, j−1. -/
def sideBits (x0 : List Int) (x1 : Int) (ofs : Nat → Int) (heads : List Nat) (sv : List Int) : List SideBit :=
  let a := sv.toArray
  (List.range sv.length).map fun j =>
    let i := (heads.filter fun h => decide (h ≤ j)).length - 1
    let d := ofs i
    ⟨x0.map fun c => c + dspDiv (c * x1 * d) (2 ^ 14 * 64), [a.getD (j + 1) 0, a.getD j 0, if j = 0 then 4096 else a.getD (j - 1) 0]⟩

/-- The sides of a member in its group (R249): the neighbour, with the side's place in the entry; none where unavailable. -/
def Frame.sides (f : Frame) (m : Member) : List (Option (Member × Nat)) :=
  let nb := fun (b : Nat) => f.members.find? fun x => x.beam == b && x.framed && !x.test
  let at_ := fun (side : Nat) => 136 + 16 * m.beam + 8 * side
  if f.pattern ≠ 0 then [none, none]
  else match m.beam with
    | 0 => [none, (nb 1).map fun x => (x, at_ 1)]
    | 1 => [(nb 0).map fun x => (x, at_ 0), (nb 2).map fun x => (x, at_ 1)]
    | _ => [(nb 1).map fun x => (x, at_ 0), none]

/-- What the trellis of a member sees (R250). -/
def Frame.detBits (f : Frame) (m : Member) (sideEn : Bool) (la : List Int) : List DetBit :=
  let e := f.entry
  let sd := f.sides m
  let missing := (sd.filter fun x => match x with | some _ => !sideEn | none => true).length
  let cols := if sideEn then sd.filterMap fun x => match x with
      | some (y, o) =>
        if y.blank then none
        else some (sideBits [zS e o 2, zS e (o + 2) 2, zS e (o + 4) 2] (zS e (o + 6) 2) (fun i => (f.segOfs m.heads i).getD m.beam 0) m.heads y.sideValues)
      | none => none
    else []
  let noise := zU e (184 + 2 * m.beam) 2 + zU e 190 2 * missing
  (m.vals.zipIdx).map fun (y, j) => ⟨y, la.getD j 0, cols.map (fun c => c.getD j ⟨[], []⟩), noise⟩

/-- The channel bytes of a pass (R253): the LLR, 0 with the mark where the bit is an erasure. -/
def softOf (m : Member) (l : List Int) : List Soft := (m.vals.zip l).map fun (y, q) => if y.era then ⟨true, 0⟩ else ⟨false, q⟩

/-- The channel values of a member's last pass. -/
def Member.lambda (m : Member) : Array Int := ((demodulate m.psa (softOf m m.llr)).map (·.llr)).toArray

/-- One detector pass of a member, and the decoder loaded with its values (R268 step 1). -/
def Frame.pass (f : Frame) (sideEn : Bool) (m : Member) : Member :=
  let la := match m.code with | some d => d.apriori m.psa m.lambda | none => []
  let l := detectPayload m.heads (f.detBits m sideEn la)
  let m1 := { m with llr := l, passes := m.passes + 1 }
  { m1 with code := some ((m.code.getD Ldpc.start).load m1.lambda) }

/-- Whether a frame is ready for a detector pass: all framed, some member not done, each of those decoded as far as passed. -/
def Frame.ready (f : Frame) : Bool :=
  f.started && f.members.all (·.framed) && (f.members.any fun m => !m.done) && f.members.all fun m => m.done || m.passes == m.decoded

/-- DETECTOR_PASS_DONE (R252, R268, R270): the oldest group that is ready has run a pass with the values of the one before. -/
def execDetectorPassDone (n : Nat) (s : State) : Host.Outcome State Fault Refusal :=
  s.onBay n fun s =>
    match (s.bay n).reading.frames.find? (·.ready) with
    | none => s
    | some f => s.onFrames n fun l => l.map fun g =>
        if g.at_ = f.at_ ∧ g.ready then
          { g with members := g.members.map fun m => if m.done then m else g.pass (s.on (R.RC_CTL.SIDE_EN n)) m }
        else g

end Sys2Proof.Machine
end

