-- ==== Sys2Proof/Machine/Ladder.lean ====
section
/-!
DEFINITION. Decoding and recovery (10_decoding_recovery.md): the on-the-fly decoder, acceptance by position, DATA_CRC, the
recovery decoders, the ladder and extent reconstruction.
-/

namespace Sys2Proof.Machine

/-! ## The ladder: rungs (R274, R285) -/

/-- The rung of an item. -/
def State.rung? (s : State) (n t i : Nat) : Option Rung := (s.bay n).reading.ladder.find? fun g => g.tag == t && g.item == i

/-- Change the rung of an item. -/
def State.onRung (s : State) (n t i : Nat) (f : Rung → Rung) : State :=
  s.onRead n fun r => { r with ladder := r.ladder.map fun g => if g.tag = t ∧ g.item = i then f g else g }

/-- A sector leaves the ladder. -/
def State.leaveLadder (s : State) (n : Nat) (g : Rung) : State :=
  ((s.freeRung n g).onRead n fun r => { r with ladder := r.ladder.filter fun h => !(h.tag == g.tag && h.item == g.item) }).pumpRungs n

/-- Highest ladder step a command allows (R281, R386, R391); 6 with no limit. -/
def Cmd.maxStep (c : Cmd) : Nat :=
  let l := c.wb.field 34 1
  if isReadClass c.wb.opcode && !(c.wb.opcode == Op.VERIFY && c.wb.flag4) && bitAt l 7 then l % 8 else 6

/-- The extent and position of a home slot. -/
def homeExtent (home : Nat) : Option (Nat × Nat) := extentPos home

/-- This disc's identity. -/
def State.discId (s : State) (n : Nat) : Nat := match (s.bay n).disc.info with | some d => d.discId | none => 0

/-- Whether an extent is known to be closed (R47). -/
def State.extentClosed (s : State) (n x : Nat) : Bool :=
  (s.bay n).disc.closed.contains x || (List.range 8).any fun k =>
    let h := (extentSlot x (56 + k)).psa
    (s.recordOf n h).isSome || (s.bay n).reading.known.has h

/-- Whether an extent is known to be open (R47): the bay holds its parity buffer (R306) and none of its parity slots is written. -/
def State.extentOpen (s : State) (n x : Nat) : Bool :=
  !s.extentClosed n x && (s.bay n).writing.parity.any fun p => p.disc == s.discId n && p.x == x

/-- Whether a step applies to a rung and is enabled (R274).  An extent not known to be open may be closed: the reads of step 5
show it (DEDUCED, log entry 93). -/
def State.stepOpen (s : State) (n k : Nat) (g : Rung) : Bool :=
  bitAt (s.get (R.DR_CTL.STEP_EN n)) k && (match k with
    | 0 => g.capture.isSome
    | 2 => decide (0 < min 4 (s.get (R.DR_CTL.OFS_N n)))
    | 4 => decide (2 ≤ g.sets.length)
    | 5 => match homeExtent g.home with | some (x, _) => !s.extentOpen n x | none => false
    | _ => true)

/-- A sector is UNCORRECTABLE (R281, R284): `e` is E of step 5, 0xFF where it did not run. -/
def State.uncorrectable (s : State) (n e : Nat) (g : Rung) : State :=
  let s1 := ((s.leaveLadder n g).count (R.DEC_UNC.UNCORR n) 1).recordBay n 0x0901 [g.top, e, g.home]
  s1.resolveItem n g.tag g.item { g.last with outcome := outUncorrectable, step := g.top, psa := g.home }

/-- The step that vendor microcode takes where R274 proposes `p` (R501, R502): the retry-policy hook may name another.  A step above
5 is refused while step 5 applies and has not been entered, as is one above 6 and one entered before that is not 1 to 3. -/
def State.hookStep (s : State) (n p : Nat) (g : Rung) : Nat × State :=
  match s.callHook n 0 with
  | (none, s1) => (p, s1)
  | (some (q, v), s1) =>
    if 5 < v ∧ s1.stepOpen n 5 g ∧ !bitAt g.entered 5 then (5, s1.hookOverride q 0 v 5)
    else if 6 < v ∨ (bitAt g.entered v ∧ ¬ (1 ≤ v ∧ v ≤ 3)) then (p, s1.hookOverride q 0 v p)
    else (v, s1)

/-- Take the first open step from `k` on (R274); at the waybill's limit the sector is uncorrectable (R281). -/
def State.climbFrom (n t i e : Nat) : Nat → Nat → State → State
  | 0, _, s => s
  | fuel + 1, k, s =>
    match s.rung? n t i with
    | none => s
    | some g =>
      let lim := match s.tag? n t with | some c => c.maxStep | none => 6
      if k ≤ 5 ∧ lim < k then s.uncorrectable n e g
      else if 6 ≤ k then s.uncorrectable n e { g with top := 6 }
      else if s.stepOpen n k g then
        let s1 := if k ≠ 0 ∧ g.capture.isSome ∧ g.capPtr = none then s.caddyCancel (.capture n g.psa) else s
        (s1.onRung n t i fun g => { g with step := k, reads := 0, top := if g.top = 0xFF then k else max k g.top,
                                           entered := setBit g.entered k true, capture := if k = 0 then g.capture else none }).pumpRungs n
      else State.climbFrom n t i e fuel (k + 1) s

/-- The step proposed from `k` on: the first that is open. -/
def State.proposed (s : State) (n : Nat) (g : Rung) (k : Nat) : Nat :=
  ((List.range 6).find? fun j => decide (k ≤ j) && s.stepOpen n j g).getD 6

/-- The next ladder step from `k` on (R274), as the retry-policy hook leaves it. -/
def State.climb (n t i e fuel k : Nat) (s : State) : State :=
  match s.rung? n t i with
  | none => s
  | some g =>
    let (j, s1) := s.hookStep n (s.proposed n g k) g
    State.climbFrom n t i e fuel j s1

/-- A read or decode of a rung has not given the sector: the next read of the step, or the next step (R274). -/
def State.rungNext (s : State) (n : Nat) (g : Rung) : State :=
  let more := match g.step with
    | 1 => decide (g.reads < s.acting (R.DR_CTL.REREAD_N n) 1 3)
    | 2 => decide (g.reads < min 4 (s.get (R.DR_CTL.OFS_N n)))
    | 3 => decide (g.reads < 2)
    | _ => false
  let s1 := s.onRung n g.tag g.item fun h => { h with capture := none, queued := false, running := false }
  if more then s1.pumpRungs n else s1.climb n g.tag g.item 0xFF 8 (g.step + 1)

/-- Capture a sector that failed by its syndrome (R272): the buffer is asked for where the rung has none. -/
def State.takeCapture (s : State) (n : Nat) (g : Rung) (f : Frame) (beam : Nat) : State :=
  let s1 := s.onRung n g.tag g.item fun h => { h with capture := some ⟨f, beam⟩ }
  if g.capPtr.isSome then s1.pumpRungs n else s1.caddyRequest n 2 (.capture n g.psa)

/-! ## Acceptance (R269) -/

/-- The 4,128 information bytes of a converged word. -/
def Ldpc.bytes (d : Ldpc) : List Byte := bytesOfBits ((List.range 33024).map d.hard)

/-- The metadata of a sector. -/
def sectorMeta (b : List Byte) : SectorMeta := SectorMeta.ofBytes (b.drop 4096)

/-- PART_ID and PSN that a home slot must hold, where a partition is known to hold it. -/
def State.expected (s : State) (n home : Nat) : Option (Nat × Nat) :=
  match homeExtent home with
  | some (x, p) => if p < 56 then sectorOf (s.bay n).disc.dir x p else none
  | none => none

/-- Whether a home slot is a parity position. -/
def isParityHome (home : Nat) : Bool := match homeExtent home with | some (_, p) => decide (56 ≤ p) | none => false

/-- The identity test (R269) of a sector read at `psa` and sought for home slot `home`. -/
def State.identity (s : State) (n psa home : Nat) (b : List Byte) : Bool :=
  if isParityHome home then true
  else
    let m := sectorMeta b
    let place := if psa = home then m.home == psa else bitAt m.flags 0 && m.home == home
    place && (match s.expected n home with | some (p, k) => m.partId == p && m.psn == k | none => true)

/-- What decryption gives for a sector (R20, R433): its plaintext; nothing where the bound slot is empty.  A sector of a
partition with no binding is left as it is: its DATA_CRC cannot be checked. -/
inductive Plain where
  | clear (l : List Byte) | unbound | missing

/-- Decrypt a sector by its metadata. -/
def State.plainOf (s : State) (n : Nat) (b : List Byte) : Plain :=
  let m := sectorMeta b
  if !bitAt m.flags 1 then .clear (b.take 4096)
  else match (s.bay n).disc.binds.find? fun e => e.1 == m.partId with
    | none => .unbound
    | some (_, k) => match s.keyOf k with
      | none => .missing
      | some key => .clear (xtsDecrypt key m.psn (b.take 4096))

/-- The slot bound to a partition, for a ledger record. -/
def State.boundSlot (s : State) (n part : Nat) : Nat := match (s.bay n).disc.binds.find? fun e => e.1 == part with | some (_, k) => k | none => 0xFFFF

/-- The sector's bytes as extent reconstruction takes them: FLAGS bit 0 cleared (R277). -/
def uncopied (b : List Byte) : List Byte :=
  if b.length = 4128 then b.take 4099 ++ [BitVec.ofNat 8 ((b.getD 4099 0).toNat / 2 * 2)] ++ b.drop 4100 else b

/-- Keep a sector for extent reconstruction (R277). -/
def State.keepKnown (s : State) (n home : Nat) (b : List Byte) : State :=
  s.onRead n fun r => { r with known := r.known.put home (if isParityHome home then b else uncopied b) }

/-- Store a command's end (R433): no further work of it starts, and it ends with a status. -/
def State.stopTag (s : State) (n t status : Nat) : State :=
  s.onTag n t fun c => if c.stop.isNone then { c with stop := some status } else c

/-! ## After a read (R270, R274) -/

/-- What the report says of a read (R282). -/
def Member.report (m : Member) (home : Nat) (copied : Bool) (outcome step : Nat) : Item :=
  { outcome := outcome, fail := 0, flywheel := m.fly, single := m.single, step := step, iter := min 255 m.iters,
    erased := min 65535 m.erased, miss := m.miss, beam := m.beam, pred := m.pred, copied := copied, psa := home }

/-- A sector has failed on the fly: it enters the ladder with its capture, or from step 1 where R269 rejected it. -/
def State.enterLadder (s : State) (n t i home psa : Nat) (it : Item) (cap : Option Capture) : State :=
  let g : Rung := { tag := t, item := i, home := home, psa := psa, capture := cap, last := it }
  let s1 := s.onRead n fun r => { r with ladder := r.ladder ++ [g], lost := if r.lost.contains home then r.lost else home :: r.lost }
  match cap with
  | some c => ((s1.onRung n t i fun h => { h with capture := none }).takeCapture n { g with capture := none } c.frame c.beam).climb n t i 0xFF 8 0
  | none => s1.climb n t i 0xFF 8 1

/-- A converged sector that R269 rejects: counted, recorded for an identity mismatch. -/
def State.idReject (s : State) (n psa : Nat) (b : List Byte) : State :=
  let m := sectorMeta b
  (s.count (R.DEC_CHK.ID_FAIL n) 1).recordBay n 0x0902 [m.home, m.partId, m.psn, psa]

/-- A sector that converged and is the one sought waits for its DATA_CRC check; a parity sector has none. -/
def State.holdSector (s : State) (n : Nat) (tag : Option (Nat × Nat)) (home psa : Nat) (b : List Byte) (it : Item) (otf : Bool) : State :=
  s.onRead n fun r => { r with hold := r.hold ++ [⟨tag, home, psa, b, it, otf⟩] }

/-- The item of a sector that a read of `psa` with a beam serves: a rung's read, or a wanted item. -/
def State.servedBy (s : State) (n psa beam : Nat) : Option (Nat × Nat × Option Rung) :=
  match s.rungAt n psa beam with
  | some g => some (g.tag, g.item, some g)
  | none => (s.wantedAt n psa).map fun (t, i) => (t, i, none)

/-- A parity slot has been found written, in passing: its extent is closed (R47), and a sector that converged is held for the
commands that read (R277). -/
def State.sawParity (s : State) (n psa : Nat) (b : Option (List Byte)) : State :=
  let s1 := match homeExtent psa with | some (x, _) => s.markClosed n x | none => s
  match b with
  | some b => if (s1.bay n).tags.any (·.reads) then s1.keepKnown n psa b else s1
  | none => s1

/-- The end of an on-the-fly decode of a member that no verify wants (R270). -/
def State.otfEnd (s : State) (n : Nat) (f : Frame) (m : Member) : State :=
  match s.servedBy n m.psa m.beam with
  | none =>
    let s1 := if isParityHome m.psa then s.sawParity n m.psa (if m.conv then m.code.map (·.bytes) else none) else s
    if m.conv then s1.count (R.DEC_OTF_OK.COUNT n) 1 else s1.count (R.DEC_OTF_FAIL.COUNT n) 1
  | some (t, i, g) =>
    let home := match s.tag? n t with | some c => s.homeOf n c i | none => m.psa
    let copied := home != m.psa
    let s0 := match g with | some g => s.onRung n t i fun h => { h with reads := g.reads + 1 } | none => s
    let step := match g with | some g => g.top | none => 0xFF
    let it := m.report home copied (if g.isSome then outRecovered else outDecoded) step
    let next := fun (s : State) => match s.rung? n t i with | some h => s.rungNext n { h with last := it } | none => s
    let b := match m.code with | some d => d.bytes | none => []
    if m.conv then
      if s0.identity n m.psa home b then s0.holdSector n (some (t, i)) home m.psa b it true
      else
        let s1 := (s0.idReject n m.psa b).count (R.DEC_OTF_FAIL.COUNT n) 1
        if g.isSome then next s1 else s1.enterLadder n t i home m.psa it none
    else
      let s1 := s0.count (R.DEC_OTF_FAIL.COUNT n) 1
      match s1.rung? n t i with
      | some h => (s1.onRung n t i fun h => { h with last := it }).takeCapture n h f m.beam
      | none => s1.enterLadder n t i home m.psa it (some ⟨f, m.beam⟩)

/-- A slot found blank (R243, R281): the item it serves is BLANK. -/
def State.foundBlank (s : State) (n : Nat) (m : Member) : State :=
  match s.servedBy n m.psa m.beam with
  | none => s
  | some (t, i, g) =>
    let home := match s.tag? n t with | some c => s.homeOf n c i | none => m.psa
    let s1 := match g with | some g => s.leaveLadder n g | none => s
    (s1.onRead n fun r => { r with blanks := if r.blanks.contains home then r.blanks else home :: r.blanks }).resolveItem n t i
      { m.report home (home != m.psa) outBlank (match g with | some g => g.top | none => 0xFF) with iter := 0 }

/-- Iterations of one on-the-fly decode (R270): up to `it` after this pass, 12 in all; `passes` passes are allowed. -/
def Member.otf (ofs it passes : Nat) (m : Member) : Member :=
  match m.code with
  | none => { m with decoded := m.passes }
  | some d =>
    let (k, c, d') := ldpcRun ofs (fun _ => false) (min it (12 - m.iters)) 0 d
    { m with code := some d', decoded := m.passes, iters := m.iters + k, conv := c,
             done := c || decide (passes ≤ m.passes) || decide (12 ≤ m.iters + k) }

/-- Drop the frames all of whose members have ended. -/
def State.dropDone (s : State) (n : Nat) : State := s.onFrames n fun l => l.filter fun f => !(f.started && f.members.all (·.done))

/-! ## DATA_CRC (R20, R269, R433, R434) -/

/-- A sector has been accepted (R269). -/
def State.acceptSector (s : State) (n : Nat) (d : Decoded) (data : List Byte) : State :=
  let s1 := (s.keepKnown n d.home d.bytes).count (R.DEC_OTF_OK.COUNT n) (b2n d.otf)
  match d.tag with
  | none => s1
  | some (t, i) =>
    let s2 := match s1.rung? n t i with
      | some g => (s1.leaveLadder n g).count (R.DEC_REC.RECOVERED n) 1
      | none => s1
    (s2.onTag n t fun c => { c with crcRun := 0 }).resolveItem n t i { d.item with data := data }

/-- A sector has failed its DATA_CRC: counted; a READ's eighth in a row after decryption is a suspect key (R434). -/
def State.crcReject (s : State) (n : Nat) (d : Decoded) (crypt : Bool) : State :=
  let s1 := (s.count (R.DEC_CHK.CRC_FAIL n) 1).count (R.DEC_OTF_FAIL.COUNT n) (b2n d.otf)
  match d.tag with
  | none => s1
  | some (t, i) =>
    let s2 := match s1.tag? n t with
      | some c =>
        if crypt && c.wb.opcode == Op.READ then
          let c1 := { c with crcRun := c.crcRun + 1 }
          let s0 := s1.setTag n c1
          if c1.crcRun = 8 then
            let p := (sectorMeta d.bytes).partId
            (s0.count R.CRYPTO_CNT.SUSPECT 1).recordFor srcFxc n 0x0E02 [n, p, s0.boundSlot n p, c.wb.cid]
          else s0
        else s1
      | none => s1
    match s2.rung? n t i with
    | some g => s2.rungNext n { g with last := d.item }
    | none => s2.enterLadder n t i d.home d.psa d.item none

/-- Check one sector that waits (R269): the parity positions have no DATA_CRC. -/
def State.crcCheck (s : State) (n : Nat) (d : Decoded) : State :=
  let crypt := bitAt (sectorMeta d.bytes).flags 1
  if isParityHome d.home then s.acceptSector n d (d.bytes.take 4096)
  else match s.plainOf n d.bytes with
    | .missing =>
      let s1 := s.count R.CRYPTO_CNT.MISSING 1
      match d.tag with
      | some (t, i) =>
        let s2 := match s1.rung? n t i with | some g => s1.leaveLadder n g | none => s1
        (s2.stopTag n t ST.KEY_MISSING).resolveItem n t i { d.item with outcome := outNotRead }
      | none => s1
    | .unbound => s.acceptSector n d (d.bytes.take 4096)
    | .clear l => if crc32 l = (sectorMeta d.bytes).dataCrc then s.acceptSector n d l else s.crcReject n d crypt

/-- SECTOR_CRC_CHECK (R20): the sector that has waited longest is decrypted and checked. -/
def execSectorCrcCheck (n : Nat) (s : State) : Host.Outcome State Fault Refusal :=
  s.onBay n fun s =>
    match (s.bay n).reading.hold with
    | [] => s
    | d :: rest => (s.onRead n fun r => { r with hold := rest }).crcCheck n d

/-! ## Recovery decoders (R271 to R273, R276) -/

/-- CAPTURE_GRANT_TIMEOUT (R272): no buffer within one sector time. -/
def execCaptureGrantTimeout (n psa : Nat) (s : State) : Host.Outcome State Fault Refusal :=
  s.onBay n fun s =>
    match (s.bay n).reading.ladder.find? fun g => g.psa == psa && g.capture.isSome && g.capPtr.isNone with
    | none => s
    | some g => ((s.caddyCancel (.capture n psa)).count (R.DEC_UNC.CAPT_MISS n) 1).rungNext n g

/-- RECOVERY_DECODE_START (R271): the bay's first request reaches its decoder. -/
def execRecoveryDecodeStart (n : Nat) (s : State) : Host.Outcome State Fault Refusal :=
  s.onBay n fun s =>
    match (s.bay n).reading.ladder.find? (·.queued) with
    | none => s
    | some g => (s.onRung n g.tag g.item fun h => { h with queued := false, running := true }).pumpRungs n

/-- A captured value: y in Q2.5, side values in Q0.7 (R272). -/
def captured (b : DetBit) : DetBit :=
  { b with y := { b.y with v := clampInt (-128) 127 (dspDiv b.y.v 256) * 256 },
           sides := b.sides.map fun x => { x with sv := x.sv.map fun v => clampInt (-128) 127 (dspDiv v 32) * 32 } }

/-- Erasure marks of the codeword bits. -/
def erasedBits (psa : Nat) (l : List Soft) : Array Bool := ((demodulate psa l).map (·.era)).toArray

/-- The passes of a recovery decode (R273): `lim` iterations after this pass, `it` after each later one, 40 in all. -/
def recoverPasses (ofs it : Nat) (bits : List DetBit) : Nat → Nat → Member → Member
  | 0, _, m => m
  | k + 1, lim, m =>
    if m.conv || decide (40 ≤ m.iters) then m
    else
      let la := match m.code with | some d => d.apriori m.psa m.lambda | none => []
      let l := detectPayload m.heads ((bits.zipIdx).map fun (b, j) => { b with la := la.getD j 0 })
      let m1 := { m with llr := l }
      let era := erasedBits m.psa (softOf m1 l)
      let (i, c, d) := ldpcRun ofs (fun v => era.getD v false) (min lim (40 - m.iters)) 0 ((m1.code.getD Ldpc.start).load m1.lambda)
      recoverPasses ofs it bits k it { m1 with code := some d, iters := m.iters + i, conv := c }

/-- A recovery decode of a capture. -/
def State.recover (s : State) (n : Nat) (c : Capture) : Option Member :=
  (c.frame.members.find? fun m => m.beam == c.beam).map fun m =>
    let bits := (c.frame.detBits m (s.on (R.RC_CTL.SIDE_EN n)) []).map captured
    recoverPasses (min 7 (s.get (R.DEC_CTL.OFFSET_R n))) (s.acting (R.DEC_CTL.REC_ITER n) 1 10) bits
      (s.acting (R.DEC_CTL.REC_XCH n) 0 6 + 1) (s.acting (R.DEC_CTL.REC_ITER1 n) 4 20)
      { m with code := none, iters := 0, conv := false, passes := 0 }

/-- The combined decode of step 4 (R276): iterations made, and the codeword where it converged. -/
def State.combined (s : State) (n : Nat) (g : Rung) : Nat × Bool × Ldpc :=
  let l := combineReads (s.get (R.DR_CTL.ERA_LIM n)) 39576 g.sets
  let lam := ((demodulate g.psa l).map (·.llr)).toArray
  let era := erasedBits g.psa l
  ldpcRun (min 7 (s.get (R.DEC_CTL.OFFSET_R n))) (fun v => era.getD v false) 40 0 (Ldpc.start.load lam)

/-- Keep the LLR set of an attempt that failed (R273): in a 64 KiB buffer of the bay, at most 10. -/
def State.keepSet (s : State) (n : Nat) (g : Rung) (l : List Soft) : State :=
  if 10 ≤ g.sets.length then s
  else match s.caddyGrant n 1 with
    | some (p, s1) => s1.onRung n g.tag g.item fun h => { h with sets := h.sets ++ [l], llrPtrs := h.llrPtrs ++ [p] }
    | none => s

/-- RECOVERY_DECODE_DONE (R273, R276): the decode in progress ends; a sector that R269 accepts so far goes to its DATA_CRC
check, else the ladder goes on. -/
def execRecoveryDecodeDone (n : Nat) (s : State) : Host.Outcome State Fault Refusal :=
  s.onBay n fun s =>
    match (s.bay n).reading.ladder.find? (·.running) with
    | none => s
    | some g =>
      let s0 := s.onRung n g.tag g.item fun h => { h with running := false }
      let copied := g.home != g.psa
      let judge := fun (s : State) (b : List Byte) (it : Item) =>
        if s.identity n g.psa g.home b then
          (s.onRung n g.tag g.item fun h => { h with capture := none }).holdSector n (some (g.tag, g.item)) g.home g.psa b it false
        else (s.idReject n g.psa b).rungNext n { g with running := false, last := it }
      if g.step = 4 then
        let x := s.combined n g
        let it := { g.last with outcome := outRecovered, step := g.top, iter := min 255 x.1 }
        if x.2.1 then judge s0 x.2.2.bytes it else s0.rungNext n { g with running := false }
      else match g.capture.bind (s.recover n) with
        | none => s0.rungNext n { g with running := false }
        | some m =>
          let it := m.report g.home copied outRecovered g.top
          if m.conv then judge s0 (match m.code with | some d => d.bytes | none => []) it
          else ((s0.keepSet n g (softOf m m.llr)).onRung n g.tag g.item fun h => { h with last := it }).rungNext n { g with running := false, last := it }

/-! ## Extent reconstruction (R277 to R280) -/

/-- What the extent unit takes for a position (R277): its bytes, or an erasure. -/
def State.position (s : State) (n x p : Nat) (reads : List (Nat × PosSeen)) : Option (List Byte) :=
  let h := (extentSlot x p).psa
  let r := (s.bay n).reading
  let zeros := List.replicate 4128 (0 : Byte)
  match r.known.find? fun e => e.1 == h with
  | some (_, b) => some b
  | none =>
    if r.blanks.contains h && decide (p < 56) then some zeros
    else match s.recordOf n h with
      | some d =>
        if d.spare = noPsa then none
        else match reads.find? fun e => e.1 == p with
          | some (_, .sector b) => if isParityHome h then some b else if s.identity n d.spare h b then some (uncopied b) else none
          | _ => none
      | none =>
        if r.lost.contains h then none
        else match reads.find? fun e => e.1 == p with
          | some (_, .sector b) => if isParityHome h || s.identity n h h b then some b else none
          | some (_, .blank) => if p < 56 then some zeros else none
          | _ => none

/-- The tests of R269 on a rebuilt sector: its plaintext where it passes; `none` inside where its key is missing. -/
def State.rebuiltOk (s : State) (n home : Nat) (b : List Byte) : Option (Option (List Byte)) :=
  if isParityHome home then some (some (b.take 4096))
  else if !s.identity n home home b then none
  else match s.plainOf n b with
    | .missing => some none
    | .unbound => some (some (b.take 4096))
    | .clear l => if crc32 l = (sectorMeta b).dataCrc then some (some l) else none

/-- Give a rebuilt sector to an item (R280). -/
def State.giveRebuilt (s : State) (n t i home : Nat) (data : List Byte) (shadow : Bool) (top : Nat) : State :=
  (s.count (R.DEC_REC.RECON n) 1).resolveItem n t i
    { outcome := if shadow then outShadow else outReconstructed, fail := 0, step := top, shadow := shadow, psa := home, data := data }

/-- Step 5 has failed for a rung: it goes to step 6; a rung still below step 5 climbs on. -/
def State.failRung (s : State) (n e : Nat) (all : Bool) (g : Rung) : State :=
  if g.step = 5 ∨ all then s.climb n g.tag g.item e 8 6 else s

/-- The unresolved item that a shadowed home slot serves (R159). -/
def State.shadowOf (s : State) (n home : Nat) : Option (Nat × Nat) :=
  (s.bay n).tags.findSome? fun c =>
    if c.reads then ((List.range c.count).find? fun i => !c.items.has i && s.homeOf n c i == home).map fun i => (c.id, i) else none

/-- What the reads of R278 tell of an extent (R47): a parity slot found written closes it. -/
def State.learnClosed (s : State) (n x : Nat) (reads : List (Nat × PosSeen)) : State :=
  if reads.any fun e => decide (56 ≤ e.1) && e.2 != .blank then s.markClosed n x else s

/-- EXTENT_RECON_DONE (R279, R280): the extent unit ends with extent `x`; `reads` is what the reads of R278 gave.  Where they show
the extent open, step 5 does not apply (R277), and its shadowed slots are read directly (R159). -/
def execExtentReconDone (n x : Nat) (reads : List (Nat × PosSeen)) (s : State) : Host.Outcome State Fault Refusal :=
  s.onBay n fun s0 =>
    let s := s0.learnClosed n x reads
    let inX := fun (h : Nat) => match homeExtent h with | some (y, _) => y == x | none => false
    let rungs := (s.bay n).reading.ladder.filter fun g => inX g.home
    let shadows := (s.bay n).reading.shadows.filter inX
    if !(rungs.any fun g => g.step == 5) && shadows.isEmpty then s0
    else
      let pos := (List.range 64).map fun p => s.position n x p reads
      let erased := (List.range 64).filter fun p => (pos.getD p none).isNone
      let e := erased.length
      let direct := fun (s : State) => s.onRead n fun r => { r with shadows := r.shadows.filter fun h => !inX h }
      let failAll := fun (s : State) => direct (rungs.foldl (fun s g => s.failRung n e false g) s)
      if !s.extentClosed n x then direct (rungs.foldl (fun s g => s.failRung n 0xFF false g) s)
      else match reconstruct pos with
      | none => failAll s
      | some (sectors, ok) =>
        if !ok && decide (e < 8) then
          failAll ((s.count (R.DEC_UNC.RECON_CHK n) 1).recordBay n 0x0903 [x, e, (extentSlot x (erased.headD 0)).psa])
        else
          let made := fun (h : Nat) => match (erased.zip sectors).find? fun a => (extentSlot x a.1).psa == h with
            | some (_, b) => some b
            | none => (match homeExtent h with | some (_, p) => pos.getD p none | none => none)
          let s1 := rungs.foldl (fun s g =>
            match s.rung? n g.tag g.item, made g.home with
            | some g, some b =>
              match s.rebuiltOk n g.home b with
              | some (some l) => ((s.keepKnown n g.home b).leaveLadder n g).giveRebuilt n g.tag g.item g.home l false g.top
              | some none => ((s.count R.CRYPTO_CNT.MISSING 1).leaveLadder n g).stopTag n g.tag ST.KEY_MISSING
              | none => s.failRung n e true g
            | _, _ => s) s
          let s2 := shadows.foldl (fun s h =>
            match s.shadowOf n h, made h with
            | some (t, i), some b =>
              match s.rebuiltOk n h b with
              | some (some l) => s.giveRebuilt n t i h l true 0xFF
              | _ => s
            | _, _ => s) s1
          direct s2

/-- LADDER_TIMEOUT (R285): DR_TMO has passed since an item's on-the-fly failure; step 5 at once, unless it is already
there. -/
def execLadderTimeout (n t i : Nat) (s : State) : Host.Outcome State Fault Refusal :=
  s.onBay n fun s =>
    match s.rung? n t i with
    | none => s
    | some g =>
      if 5 ≤ g.step then s
      else
        let s1 := (s.recordBay n 0x0904 [g.step, g.home]).onRung n t i fun h =>
          { h with capture := none, queued := false, running := false }
        s1.climb n t i 0xFF 8 5

end Sys2Proof.Machine
end

