-- ==== Sys2Proof/Machine/Write.lean ====
section
/-!
DEFINITION. Writing (11_write_path.md): sectors of a run and their journal entries (R308, R309), the blank test (R299), verify
(R302), relocation (R304), defect-list staging and commits (R305), parity buffers and the close of an extent (R306, R307).
-/

namespace Sys2Proof.Machine

/-! ## Sectors -/

/-- Whether a sector belongs to a run: it has its journal entry, or is the slot of an entry being replayed (R311). -/
def WSector.inRun (x : WSector) : Bool := decide (x.entry < 64) || x.kind == 5

/-- Change the sector of a run in a slot. -/
def State.onSector (s : State) (n psa : Nat) (f : WSector → WSector) : State :=
  s.onWrite n fun w => { w with run := w.run.map fun y => if y.psa = psa then f y else y }

/-- The item number of a sector that is no item of its command. -/
def noItem : Nat := 0xFFFFFFFF

/-- Set how an item of a writing command ended. -/
def State.setItem (s : State) (n t i fail : Nat) : State :=
  s.onTag n t fun c => if i = noItem ∨ c.items.has i ∨ c.count ≤ i then c
    else { c with items := c.items.put i { outcome := 0, fail := fail } }

/-- This unit's ID as the disc records it (R43, R50): 0xFFFF while Roll call has assigned none (R293). -/
def State.writer (s : State) : Nat := if s.on R.MC_UID.VALID then s.get R.MC_UID.ID else 0xFFFF

/-! ## The journal of a run (R309) -/

/-- Give the waiting sectors of a run their journal entries (R308): consecutive slots of one kind on one track share one,
of at most 163 slots.  Without a FREE entry they wait. -/
def State.armRun (n : Nat) : Nat → State → State
  | 0, s => s
  | fuel + 1, s =>
    match (s.bay n).writing.run.find? fun x => x.phase == .waiting && !x.inRun with
    | none => s
    | some x =>
      let todo := (s.bay n).writing.run.filter fun y => y.phase == .waiting && !y.inRun && y.kind == x.kind && y.tag == x.tag
      let k := ((List.range 163).takeWhile fun j => todo.any fun y => y.psa == x.psa + j).length
      match s.createEntry n x.psa noPsa k x.kind 0 (if x.tag < 64 then x.tag else 0xFF) with
      | none => s
      | some (i, s1) =>
        let give := fun (y : WSector) => if todo.contains y ∧ x.psa ≤ y.psa ∧ y.psa < x.psa + k then { y with entry := i } else y
        State.armRun n fuel (s1.onWrite n fun w => { w with run := w.run.map give })

/-! ## Defect records (R304, R305) -/

/-- Entries in COMMIT_WAIT that are not stale. -/
def State.commitWait (s : State) (n : Nat) : Nat := ((s.bay n).writing.journal.filter fun e => e.2.state == 3 && !e.2.stale).length

/-- A commit is wanted: an item of the scheduler, URGENT where a threshold asks for it (R402). -/
def State.wantCommit (s : State) (n : Nat) (urgent : Bool) : State :=
  s.onSched n fun c => { c with dlBorn := if c.dlDue then c.dlBorn else s.ms, dlDue := true, dlUrg := c.dlUrg || urgent }

/-- Stage a defect record (R50, R304), with the journal entry that it retires. -/
def State.stageRecord (s : State) (n home spare reason entry : Nat) : State :=
  let w := (s.bay n).writing
  let d : DefectRec := ⟨home, spare, s.rtc, reason, s.writer⟩
  let s1 := (s.onWrite n fun w => { w with staged := w.staged ++ [(d, entry)], oldest := if w.staged.isEmpty then s.ms else w.oldest }).showWrite n
  if 254 ≤ w.staged.length + 1 ∨ 32 ≤ s1.commitWait n then s1.wantCommit n true else s1

/-! ## Relocation (R304) -/

/-- Slots that the defect list or the journal names as copies, or that were found written (R48, R304). -/
def State.sparesUsed (s : State) (n : Nat) : List Nat :=
  let b := s.bay n
  b.disc.defects.map (·.spare) ++ b.writing.staged.map (·.1.spare) ++ b.disc.spares ++
    (b.writing.journal.filter fun e => e.2.kind == 2).map (·.2.psa) ++ b.writing.run.map (·.psa)

/-- The encoded bytes of a copy: FLAGS bit 0 set (R304). -/
def copyBytes (b : List Byte) : List Byte :=
  if b.length = 4128 then b.take 4099 ++ [BitVec.ofNat 8 ((b.getD 4099 0).toNat / 2 * 2 + 1)] ++ b.drop 4100 else b

/-- Forget the failed sectors that a copy of `home` replaces. -/
def State.dropFailed (s : State) (n home : Nat) : State :=
  ((s.bay n).writing.run.filter fun y => y.phase == .failed && y.home == home).foldl (fun s y => s.dropSector n y) s

/-- Whether the relocation hook may name a slot (R502): a spare slot of the layer, at or beyond its area's cursor. -/
def spareAllowed (used : List Nat) (layer p : Nat) : Bool :=
  (List.range 32).any fun z =>
    match spareNumber layer z p, (nextSpareInZone used layer z).bind (spareNumber layer z) with
    | some i, some j => decide (j ≤ i) && (spareSlot layer z i).psa == p && decide ((slotOfPsa p).track < 143999)
    | _, _ => false

/-- The spare a copy takes (R48, R49) as the relocation hook leaves it (R501, R502). -/
def State.chooseSpare (s : State) (n home : Nat) : Option Nat × State :=
  let a := slotOfPsa home
  let p := nextSpare (s.sparesUsed n) a.layer (zoneOfTrack a.track)
  match s.callHook n 1 with
  | (none, s1) => (p, s1)
  | (some (q, v), s1) =>
    if spareAllowed (s.sparesUsed n) a.layer v then (some v, s1)
    else if v = p.getD noPsa then (p, s1)
    else (p, s1.hookOverride q 1 v (p.getD noPsa))

/-- Relocate one queued copy: a spare and a journal entry, or none is free.  The flag tells whether it left the queue. -/
def State.relocOne (s : State) (n : Nat) (x : WSector) : Bool × State :=
  let a := slotOfPsa x.home
  let unqueue := fun (s : State) => s.onWrite n fun w => { w with reloc := w.reloc.erase x }
  match s.chooseSpare n x.home with
  | (none, s) =>
    let s1 := (((unqueue s).stageRecord n x.home noPsa x.reason 64).raise (R.WR_STAT.SPARES_FULL n)).recordBay n 0x0A04
      [a.layer, zoneOfTrack a.track, x.home]
    (true, ((s1.setItem n x.tag x.item ST.MEDIA_SPARES_FULL).dropFailed n x.home).showWrite n)
  | (some p, s) =>
    match s.createEntry n p x.home 1 2 x.reason (if x.tag < 64 then x.tag else 0xFF) with
    | none => (false, s)
    | some (i, s1) =>
      let y := { x with psa := p, entry := i, info := if isParityHome x.home then x.info else copyBytes x.info, phase := .waiting }
      (true, (((unqueue s1).dropFailed n x.home).onWrite n fun w => { w with run := w.run ++ [y] }).showWrite n)

/-- Relocate the queued copies in order (R304). -/
def State.relocAll (n : Nat) : Nat → State → State
  | 0, s => s
  | fuel + 1, s =>
    match (s.bay n).writing.reloc with
    | [] => s
    | x :: _ =>
      let (ok, s1) := s.relocOne n x
      if ok then State.relocAll n fuel s1 else s1

/-! ## Parity (R46, R306, R307) -/

/-- The eight factors of a data position's contribution: the parity of a column that holds 1 there. -/
def parityFactors (pos : Nat) : List Nat := rsParity ((List.range 56).map fun k => b2n (k == pos))

/-- A parity buffer with the contribution of a sector at a data position added. -/
def ParityBuf.add (p : ParityBuf) (pos : Nat) (info : List Byte) : ParityBuf :=
  let f := parityFactors pos
  let one := fun (i : Nat) => info.map fun b => gfMul (f.getD i 0) b.toNat
  let all := (List.range 8).flatMap one
  { p with bytes := p.bytes.zipWith (fun a b => a ^^^ b) all, mask := setBit p.mask pos true }

/-- The bay's parity buffer of an extent of the mounted disc. -/
def State.parityOf (s : State) (n x : Nat) : Option ParityBuf :=
  (s.bay n).writing.parity.find? fun p => p.disc == s.discId n && p.x == x

/-- Add a sector's contribution to its extent's parity buffer (R306). -/
def State.addParity (s : State) (n x pos : Nat) (info : List Byte) : State :=
  s.onWrite n fun w => { w with parity := w.parity.map fun p => if p.disc = s.discId n ∧ p.x = x then p.add pos info else p }

/-- Release a bay's parity buffer of an extent of a disc. -/
def State.freeParity (s : State) (n disc x : Nat) : State :=
  match (s.bay n).writing.parity.find? fun p => p.disc == disc && p.x == x with
  | none => s
  | some p => (((s.onWrite n fun w => { w with parity := w.parity.filter fun q => !(q.disc == disc && q.x == x) }).freePtr n p.ptr).caddyServe).showWrite n

/-- Complete a parity buffer with positions that lie on the disc but not in the mask (R307); `none`: a needed position could
not be read. -/
def ParityBuf.complete (p : ParityBuf) (x : Nat) (reads : List (Nat × Nat × PosSeen)) : Option ParityBuf :=
  (List.range 56).foldl (fun acc k =>
    acc.bind fun q =>
      if bitAt q.mask k then some q
      else match reads.find? fun r => r.1 == x && r.2.1 == k with
        | some (_, _, .sector b) => some (q.add k b)
        | some (_, _, .failed) => none
        | _ => some q) (some p)

/-- The parity sectors of an extent, from its completed buffer (R307). -/
def paritySectors (p : ParityBuf) (x t i : Nat) : List WSector :=
  (List.range 8).map fun k =>
    let psa := (extentSlot x (56 + k)).psa
    ⟨psa, psa, 1, 0, t, i, ((p.bytes.drop (4128 * k)).take 4128).map (BitVec.ofNat 8 ·), 64, false, false, 0, .waiting⟩

/-- Whether parity sectors of an extent are still under way. -/
def State.closing (s : State) (n x : Nat) : Bool :=
  let w := (s.bay n).writing
  (w.run ++ w.reloc).any fun y => isParityHome y.home && (homeExtent y.home).map (·.1) == some x

/-- An extent's last parity sector is durable: it is closed, and its buffer goes (R306, R307). -/
def State.extentDone (s : State) (n home t : Nat) : State :=
  match homeExtent home with
  | none => s
  | some (x, _) =>
    if s.closing n x then s
    else ((s.markClosed n x).freeParity n (s.discId n) x).onTag n t
      fun c => { c with closed := if c.closed.contains x then c.closed else x :: c.closed }

/-! ## Durable sectors (R303) -/

/-- Whether every sector that serves an item is durable: an item of CLOSE_EXTENT has eight. -/
def State.itemDone (s : State) (n t i : Nat) : Bool :=
  let w := (s.bay n).writing
  !(w.run ++ w.reloc).any fun y => y.tag == t && y.item == i

/-- A sector, or a relocated copy of it, has passed verify (R303): a copy's record is staged (R304). -/
def State.sectorDurable (s : State) (n : Nat) (x : WSector) : State :=
  let s1 := if x.kind = 2 then
      let s0 := (s.advanceEntry n x.entry 3).stageRecord n x.home x.psa x.reason x.entry
      (s0.recordBay n 0x0A03 [x.home, x.psa, x.reason]).onTag n x.tag fun c => { c with relocs := c.relocs + 1 }
    else s
  let s2 := (s1.dropSector n x).showWrite n
  let s3 := if s2.itemDone n x.tag x.item then s2.setItem n x.tag x.item 0 else s2
  if isParityHome x.home then s3.extentDone n x.home x.tag else s3

/-! ## The blank test (R299) -/

/-- A tag's write stops at an item: neither its sector nor a later one is written. -/
def State.failWrite (s : State) (n t i status : Nat) : State :=
  let gone := (s.bay n).writing.run.filter fun y => y.tag == t && y.phase == .waiting && decide (i ≤ y.item)
  let s1 := gone.foldl (fun s y => s.dropSector n y) s
  (s1.setItem n t i status).stopTag n t status

/-- What the blank test of a run slot gave (R299): a spare slot found written is passed over (R304). -/
def State.blankTested (s : State) (n psa : Nat) (written : Bool) : State :=
  match (s.bay n).writing.run.find? fun x => x.psa == psa && x.phase == .waiting && x.inRun with
  | none => s
  | some x =>
    if !written then s.onSector n psa fun y => { y with tested := true }
    else if x.kind = 2 then
      let s1 := (s.onDisc n fun d => { d with spares := psa :: d.spares }).dropSector n x
      s1.onWrite n fun w => { w with reloc := { x with psa := noPsa, entry := 64, tested := false } :: w.reloc }
    else
      let s1 := (s.count (R.WR_RELOC.FOUND_WRITTEN n) 1).recordBay n 0x0A01 [psa, x.tag]
      s1.failWrite n x.tag x.item ST.MEDIA_WRITTEN

/-! ## Verify (R302) -/

/-- The first condition of R302 that a verify read fails; 0 for none. -/
def State.verifyCond (s : State) (n : Nat) (x : WSector) (m : Member) : Nat :=
  if m.blank || m.pred then 1
  else if !m.conv || decide (s.acting (R.WR_CTL.VFY_ITER n) 1 12 < m.iters) then 2
  else if x.kind != 5 && (match m.code with | some d => d.bytes | none => []) != x.info then 3
  else if decide (16 * s.get (R.WR_CTL.VFY_ERA n) < m.erased) || m.miss != 0 then 4
  else if x.vcrit && m.fly then 5
  else 0

/-- A verify failure (R302). -/
def State.verifyFail (s : State) (n : Nat) (x : WSector) (cond iters erased : Nat) : State :=
  ((s.count (R.WR_VFY.FAIL n) 1).recordBay n 0x0A02 [x.psa, cond, iters, erased]).queueReloc n x 1

/-- A slot of a replayed entry has been verified (R311): it passes, is blank, or fails. -/
def State.replayed (s : State) (n : Nat) (x : WSector) (it : Item) : State := (s.dropSector n x).resolveItem n x.tag x.item it

/-- Give up the verify of a sector. -/
def State.verifyGiveUp (s : State) (n : Nat) (x : WSector) : State :=
  if x.kind = 5 then s.replayed n x { outcome := outUncorrectable, fail := 0 } else s.verifyFail n x 1 0 0

/-- The end of a verify read. -/
def State.verifyEnd (s : State) (n : Nat) (m : Member) : State :=
  match (s.bay n).writing.run.find? fun x => x.psa == m.psa && x.phase == .written with
  | none => s
  | some x =>
    let c := s.verifyCond n x m
    if x.kind = 5 then
      s.replayed n x (m.report x.home false (if m.blank then outBlank else if c = 0 then outDecoded else outUncorrectable) 0xFF)
    else if c = 0 then s.sectorDurable n x else s.verifyFail n x c m.iters m.erased

/-- A verify read begins (R302): one that follows an attempt without a result counts in REDO; beyond VFY_RETRY of those the
sector is a verify failure.  The flag tells whether the read is made. -/
def State.verifyStart (s : State) (n psa : Nat) : Bool × State :=
  match (s.bay n).writing.run.find? fun x => x.psa == psa && x.phase == .written with
  | none => (false, s)
  | some x =>
    if s.get (R.WR_CTL.VFY_RETRY n) < x.redo then (false, s.verifyGiveUp n x)
    else
      let s1 := if 0 < x.redo then s.count (R.WR_VFY.REDO n) 1 else s
      (true, s1.onSector n psa fun y => { y with redo := y.redo + 1 })

/-! ## Defect-list commits (R51, R56, R305) -/

/-- DL_COMMIT_AGE_TIMER (R305): COMMIT_T has passed since the oldest staged record. -/
def execDlCommitAgeTimer (n : Nat) (s : State) : Host.Outcome State Fault Refusal :=
  s.onBay n fun s => if (s.bay n).writing.staged.isEmpty then s else s.wantCommit n false

/-- Records that the bay's defect-list buffers hold, and the limit of R382. -/
def State.dlRoom (s : State) (n : Nat) : Bool :=
  let total := (s.bay n).disc.defects.length + (s.bay n).writing.staged.length
  let q := s.get (R.CADDY_QUOTA.Q1M n)
  q == 255 || decide (total ≤ 65536 * (q - 2))

/-- DL_COMMIT_REQUEST (R305): `DL_CTL.COMMIT` written as 1.  With nothing staged it ends at once.
A refusal for the quota ends here when the list now fits (R382). -/
def execDlCommitRequest (n : Nat) (s : State) : Host.Outcome State Fault Refusal :=
  s.onBay n fun s =>
    if (s.bay n).writing.staged.isEmpty then s
    else ((s.onDisc n fun d => { d with refuse := if d.refuse = ST.DL_QUOTA ∧ s.dlRoom n then 0 else d.refuse }).wantCommit n false).raise (R.DL_CTL.COMMIT n)

/-- The commit in progress has ended. -/
def State.commitEnds (s : State) (n : Nat) : State :=
  (((s.zero (R.DL_CTL.COMMIT n)).zero (R.DL_CTL.BUSY n)).onWrite n fun w => { w with commit := none }).onSched n fun c =>
    { c with dlDue := false, dlUrg := false }

/-- Commit the staged records (R51, R305): the PSAs of the defect-list sectors written, head last, and the Anchor that names
them; entries in COMMIT_WAIT that the records retire become FREE. -/
def State.commitDone (s : State) (n : Nat) (sectors : List Nat) (sysNext : Nat) : State :=
  let w := (s.bay n).writing
  let k := w.staged.length
  let seq := (match (s.bay n).disc.anchor with | some a => a.seq | none => 0) + 1
  let s1 := s.onDisc n fun d =>
    { d with defects := (w.staged.map (·.1)).reverse ++ d.defects, sysNext := sysNext, ancNext := d.ancNext + 1
             anchor := some (match d.anchor with
               | some a => { a with seq := seq, wtime := s.rtc, writer := s.writer, dlHead := if k = 0 then a.dlHead else sectors.getLastD a.dlHead,
                                    dlTotal := a.dlTotal + k, sysNext := sysNext }
               | none => ⟨seq, s.discId n, s.rtc, s.writer, noPsa, sectors.getLastD noPsa, k, sysNext⟩) }
  let s2 := w.staged.foldl (fun s e => if e.2 < 64 then s.advanceEntry n e.2 0 else s) s1
  let s3 := (s2.onWrite n fun w => { w with staged := [] }).showWrite n
  let need := ((s3.bay n).disc.defects.length + 65535) / 65536
  let s4 := if (s3.bay n).disc.dlBufs.length < need then s3.caddyRequest n 2 (.defects n) else s3
  (if k = 0 then s4 else s4.recordBay n 0x0A05 [k, seq]).commitEnds n

/-- Writes of tags that have not been committed fail with a status (R312). -/
def State.failRun (s : State) (n status : Nat) : State :=
  let w := (s.bay n).writing
  let s1 := (w.run.filter fun y => y.phase == .waiting && decide (y.tag < 64)).foldl (fun s y => s.failWrite n y.tag y.item status) s
  (w.reloc.foldl (fun s y => s.setItem n y.tag y.item status) s1).onWrite n fun w => { w with reloc := [] }

/-- A commit fails (R305, R382): its records stay staged, and every later write to the disc fails with the status. -/
def State.commitFail (s : State) (n status : Nat) : State :=
  let s1 := (s.raise (R.DL_CTL.FAIL n)).recordBay n 0x0A06 [status, (s.bay n).writing.staged.length]
  (((s1.onDisc n fun d => { d with refuse := status }).failRun n status).showWrite n).commitEnds n

end Sys2Proof.Machine
end

