-- ==== Sys2Proof/Machine/Sched.lean ====
section
/-!
DEFINITION. Per-bay scheduling (15_scheduling.md): items, cost, ageing and the decision; and what a segment in progress asks of
motion and of the event timeline at each wedge decision (R98, R157 to R159, R234, R300).
-/

namespace Sys2Proof.Machine

/-! ## Where an item's next work lies (R402, R405) -/

/-- The next work of an item: layer, the track that beam C needs, slot, and whether it is a write. -/
structure Place where
  layer : Nat
  track : Int
  slot  : Nat
  write : Bool
  deriving DecidableEq, Repr

/-- Whether a command writes through a run. -/
def Cmd.writes (c : Cmd) : Bool := c.isFlushed

/-- Sectors of a tag that its write run still has to write or verify. -/
def State.runOf (s : State) (n t : Nat) : List WSector :=
  (s.bay n).writing.run.filter fun x => x.tag == t && (x.phase == .waiting || x.phase == .committed || x.phase == .written)

/-- Beam C's track for a read of a slot: the slot's own, or the next where that holds wanted sectors of the tag as well and the
bay reads with three beams (R19). -/
def State.readTrack (s : State) (n : Nat) (c : Cmd) (a : SlotAddr) : Int :=
  let more := (List.range c.count).any fun i => s.itemOpen n c i &&
    (let b := slotOfPsa (s.itemSlot n c i).1
     b.layer == a.layer && b.track == a.track + 1)
  if (s.bay n).reading.pattern = 0 ∧ sideTrack a.track (a.track + 1) ∧ more then a.track + 1 else a.track

/-- The next work of a tag; none where it needs no disc work now. -/
def State.tagPlace (s : State) (n : Nat) (c : Cmd) : Option Place :=
  let ladder := (s.bay n).reading.ladder.find? fun g => g.tag == c.id && g.rereads
  if c.wb.opcode = Op.TABLE_READ then
    let a := slotOfPsa (c.wb.field 36 4)
    if c.granted ∧ c.stage = 0 then some ⟨a.layer, a.track, a.slot, false⟩ else none
  else match (if c.reads then ladder else none) with
  | some g =>
    let a := slotOfPsa g.psa
    some ⟨a.layer, a.track + 1 - ((g.beam.getD 1 : Nat) : Int), a.slot, false⟩
  | none =>
    match s.runOf n c.id with
    | x :: _ =>
      let a := slotOfPsa x.psa
      some ⟨a.layer, a.track, a.slot, true⟩
    | [] =>
      match (s.bay n).writing.reloc.find? fun x => x.tag == c.id with
      | some x =>
        let a := slotOfPsa x.home
        some ⟨a.layer, a.track, a.slot, true⟩
      | none => (s.firstOpen n c).map fun i =>
          let a := slotOfPsa (s.itemSlot n c i).1
          ⟨a.layer, s.readTrack n c a, a.slot, false⟩

/-- The place of background work: a calibration's reference tracks, the system area of layer 0 (R405). -/
def State.workPlace (s : State) (n : Nat) : Work → Option Place
  | .tag t => (s.tag? n t).bind (s.tagPlace n)
  | .calibrate => ((s.bay n).cal.queue.head?).map fun q => ⟨q.idx / 32, ((4500 * (q.idx % 32) : Nat) : Int), 0, false⟩
  | .commit =>
    let a := slotOfPsa (s.bay n).disc.sysNext
    some ⟨a.layer, a.track, a.slot, true⟩

/-- The speed of an item: READ_RPM or WRITE_RPM of its entry (R235). -/
def State.placeRpm (s : State) (n : Nat) (p : Place) : Nat :=
  let e := s.ztEntry n (entryIndex p.layer p.track)
  zU e (if p.write then 6 else 4) 2

/-- The commit wedge of a slot (R101). -/
def commitWedge (z k : Nat) : Nat :=
  let a := slotAngle z k
  ((if a < 4096 then 16777216 else a) - 4096) / 16384 % 1024

/-- The frame-start angle of a slot (R234). -/
def State.frameAngle (s : State) (n z k : Nat) : Nat := (slotAngle z k + 16777216 - 256 * s.get (R.RC_CTL.PREFETCH n)) % 16777216

/-- t_layer + t_seek of a place, in 2^-16 µs (R405). -/
def State.seekCost (s : State) (n : Nat) (p : Place) : Nat :=
  let us := 65536
  let d := (p.track - s.getTrack (R.FT_STAT.TRACK n)).natAbs
  let tLayer := ((p.layer : Int) - (s.get (R.FT_STAT.LAYER n) : Int)).natAbs * s.acting (R.SCHED_COST.LJ_COST n) 100 65535 * us
  let tSeek := if d = 0 then 0
    else if d ≤ 64 then (d + 15) / 16 * s.acting (R.SCHED_COST.TJ_COST n) 5 255 * us
    else
      let m := planMove (s.get (fProf false n) != 0) (s.stepVmax false n) (s.stepAcc false n) (s.stepJerk false n) 0 (65536 * rdiv ((4096 * d : Nat) : Int) 10000)
      m.total * 50 + s.stepSettle false n * 10 * us + s.get (R.SCHED_COST.SEEK_SETTLE n) * 100 * us
  tLayer + tSeek

/-- The cost of an item of a tag, in 2^-16 µs (R405). -/
def State.itemCost (s : State) (n : Nat) (p : Place) : Nat :=
  let us := 65536
  let tMove := s.seekCost n p
  let rpm := s.placeRpm n p
  let tgt := s.get (R.SPIN_TGT.TGT n)
  let rev := fun (w : Nat) => (dspDiv ((60000000 * us : Nat) : Int) (max 1 w)).toNat
  let tSpeed := if rpm = tgt then 0
    else (dspDiv ((1000000 * us * (max rpm tgt - min rpm tgt) : Nat) : Int)
      (if tgt < rpm then s.acting (R.SPIN_RAMP.ACCEL n) 100 20000 else s.acting (R.SPIN_RAMP.DECEL n) 100 20000)).toNat + (if p.write then rev rpm else 0)
  let z := zoneOfTrack p.track
  let theta := if p.write then 16384 * commitWedge z p.slot else s.frameAngle n z p.slot
  let per := s.get (R.ANG_RATE.RATE n) * 1280
  let tRot := if tSpeed = 0 ∧ s.on (R.ANG_STAT.ALIGNED n) ∧ per ≠ 0 then
      (dspDiv ((2 ^ 46 * ((theta : Int) - s.get (R.ANG_NOW.ANGLE n)) - (tMove * per : Nat)) % 2 ^ 70) per).toNat
    else rev rpm / 2
  tMove + tSpeed + tRot

/-- The cost of any item (R405): background work names no slot. -/
def State.workCost (s : State) (n : Nat) (w : Work) : Nat :=
  match s.workPlace n w, w with
  | some p, .tag _ => s.itemCost n p
  | some p, _ => s.seekCost n p
  | none, _ => 0

/-! ## Items (R402 to R404) -/

/-- An item as the scheduler sees it: its class (4 background), when it was created (ms), whether it is URGENT. -/
structure Cand where
  work   : Work
  cls    : Nat
  born   : Nat
  urgent : Bool
  deriving DecidableEq, Repr

/-- The class of a tag's item (R402): MEDIA_SCAN, and CLOSE_EXTENT without NOW, are background. -/
def Cmd.schedClass (c : Cmd) : Nat :=
  if c.wb.opcode = Op.MEDIA_SCAN ∨ (c.wb.opcode = Op.CLOSE_EXTENT ∧ !c.wb.flag5) then 4 else c.wb.prio % 4

/-- Every item of a bay: one for each tag but that of a FLUSH, a calibration, a commit (R402). -/
def State.allItems (s : State) (n : Nat) : List Cand :=
  let c := (s.bay n).sched
  ((s.bay n).tags.filter fun t => t.wb.opcode != Op.FLUSH).map (fun t => (⟨.tag t.id, t.schedClass, t.born, t.urgent⟩ : Cand)) ++
  (if (s.bay n).cal.queue.isEmpty then [] else [⟨.calibrate, 4, c.calBorn, c.calUrg⟩]) ++
  (if c.dlDue then [⟨.commit, 4, c.dlBorn, c.dlUrg⟩] else [])

/-- Eligible (R403); in `DRAINING` the items of tags stay eligible, and only they (R86, R411). -/
def State.eligible (s : State) (n : Nat) (x : Cand) : Bool :=
  let b := s.bayState n
  let bay := [BS.READY, BS.ACTIVE, BS.CAL].contains b || (b == BS.DRAINING && (match x.work with | .tag _ => true | _ => false))
  match x.work with
  | .tag t => match s.tag? n t with
    | some c => bay && c.granted && (match s.tagPlace n c with
      | some p => !p.write || (s.freeEntryIndex n).isSome || (s.runOf n t).any (·.inRun)
      | none => false)
    | none => false
  | .calibrate => bay && (s.mode == 1 || s.mode == 2) && (s.bay n).cal.run.isNone
  | .commit => bay && (s.mode == 1 || s.mode == 2) && (s.freeEntryIndex n).isSome

/-- The deadline of a class, ms (R414). -/
def State.ageLimit (s : State) (n c : Nat) : Nat := s.acting (R.SCHED_AGE.DEADLINE n c) 1 65535

/-- The name of an item in AGE_DEADLINE's operand: its tag, 64 for a calibration, 65 for a commit. -/
def Work.code : Work → Nat | .tag t => t | .calibrate => 64 | .commit => 65

/-- An item in a `SCHED_URGENT` record: its tag, or a background kind's number, which R419 does not give (DESIGN CHOICE, log entry 18). -/
def Work.detail : Work → Nat | .tag t => t | w => (Config.code 419 w.code).toNat

/-- Make an item URGENT. -/
def State.setUrgent (s : State) (n : Nat) : Work → State
  | .tag t => s.onTag n t fun c => { c with urgent := true }
  | .calibrate => s.onSched n fun c => { c with calUrg := true }
  | .commit => s.onSched n fun c => { c with dlUrg := true }

/-- Whether two spans overlap (R381). -/
def spansMeet (a b : Option (Nat × Nat)) : Bool :=
  match a, b with | some (x, y), some (u, v) => decide (x ≤ v) && decide (u ≤ y) | _, _ => false

/-- Tags before `c` that its wait depends on, to be promoted with it (R410); `fuel` bounds the chain. -/
def blockers (tags : List Cmd) : Nat → List Nat → List Nat
  | 0, l => l
  | k + 1, l =>
    let before := fun (c : Cmd) => (tags.takeWhile fun d => d.id != c.id).filter fun d => spansMeet d.span c.span
    let new := (tags.filter fun c => l.contains c.id && !c.granted).flatMap fun c => (before c).map (·.id)
    blockers tags k (l ++ new.filter fun i => !l.contains i)

/-- An URGENT tag that waits on its lock promotes the tags it waits for (R410). -/
def State.inheritUrgent (s : State) (n : Nat) : State :=
  let tags := (s.bay n).tags
  let urg := (tags.filter (·.urgent)).map (·.id)
  ((blockers tags 64 urg).filter fun i => !urg.contains i).foldl (fun s i =>
    (s.setUrgent n (.tag i)).count (R.SCHED_CNT.INHERITED n) 1) s

/-- Show how many items are URGENT (R417). -/
def State.showUrgent (s : State) (n : Nat) : State := s.put (R.SCHED_STAT.URGENT n) (min 127 ((s.allItems n).filter (·.urgent)).length)

/-- Promote an item by its deadline (R409). -/
def State.promoteItem (s : State) (n : Nat) (x : Cand) : State :=
  if x.urgent then s
  else
    let s1 := (s.setUrgent n x.work).count (R.SCHED_CNT.PROMOTED n) 1
    ((s1.recordBay n 0x0D01 [x.work.detail, x.cls, max (s.ageLimit n x.cls) (s.ms - x.born)]).inheritUrgent n).showUrgent n

/-- Promote every item whose deadline has passed. -/
def State.promoteAll (s : State) (n : Nat) : State :=
  ((s.allItems n).filter fun x => decide (s.ageLimit n x.cls ≤ s.ms - x.born)).foldl (fun s x => s.promoteItem n x) s

/-! ## Segments (R407, R408) -/

/-- Armed read and write events of the bay go: their segment has ended. -/
def State.disarm (s : State) (n : Nat) : State := s.onTracker n fun k => { k with events := k.events.filter fun e => e.cls == 0 }

/-- The segment in progress ends. -/
def State.endSegment (s : State) (n : Nat) : State :=
  (((((s.disarm n).passSafe n).onSched n fun c => { c with seg := none, begun := false, writes := false, vpass := false, revs := 0 }).raise
    (R.SCHED_STAT.IDLE n)).zero (R.SCHED_STAT.CUR_TAG_VALID n)).zero (R.SCHED_STAT.CUR_BG n)

/-- Arm an entry of the timeline (R98): 128 entries; one that is armed already stays. -/
def State.armEvent (s : State) (n target cls tag slot : Nat) : State :=
  let l := (s.bay n).tracker.events
  if 128 ≤ l.length ∨ l.any fun e => e.cls == cls && e.slot == slot && (e.target == target) then s
  else s.onTracker n fun k => { k with events := k.events ++ [⟨target, 0, cls, 0, tag % 64, slot⟩] }

/-- Whether the head stands on its track: no jump, seek or bridge. -/
def State.motionIdle (s : State) (n : Nat) : Bool :=
  let f := (s.bay n).focus
  f.jump == .off && f.fine == .off && f.seekTo.isNone && !f.coarseOn && s.bitOf (R.SRV_CTL.AUTO n) 1 && !s.on (R.ANG_STAT.BRIDGE n)
    && (s.get (R.ANG_STAT.STATE n) == 2 || s.get (R.ANG_STAT.STATE n) == 3)

/-- The slots of a tag that a group at beam C's present track would give. -/
def State.slotsHere (s : State) (n : Nat) (c : Cmd) : List Nat :=
  let layer := s.get (R.FT_STAT.LAYER n)
  let t := s.getTrack (R.FT_STAT.TRACK n)
  let near := fun (u : Int) => u == t || ((s.bay n).reading.pattern == 0 && sideTrack t u && (u - t).natAbs == 1)
  let items := (List.range c.count).filterMap fun i =>
    if s.itemOpen n c i then
      let a := slotOfPsa (s.itemSlot n c i).1
      if a.layer == layer && near a.track then some a.slot else none
    else none
  let rungs := (s.bay n).reading.ladder.filterMap fun g =>
    if g.tag == c.id && g.rereads then
      let a := slotOfPsa g.psa
      if a.layer == layer && a.track + 1 - ((g.beam.getD 1 : Nat) : Int) == t then some a.slot else none
    else none
  (items ++ rungs).eraseDups.filter fun k => !(s.bay n).reading.frames.any fun f => f.at_ == ⟨layer, t, k⟩

/-- Arm the frame starts of slots at the present track (R234). -/
def State.armFrames (s : State) (n tag : Nat) (slots : List Nat) : State :=
  let z := zoneOfTrack (s.getTrack (R.FT_STAT.TRACK n))
  slots.foldl (fun s k => s.armEvent n (s.frameAngle n z k) 1 tag k) s

/-- Tracks of the next advance while reading (R158): three with three beams, one with beam C alone, two where the pattern
changes; with the pattern that follows. -/
def State.advanceTracks (s : State) (n : Nat) : Nat × Nat :=
  let new := b2n (s.bitOf (R.TRK_FALLBACK.LAYERS n) (s.get (R.FT_STAT.LAYER n)))
  if (s.bay n).reading.pattern ≠ new then (2, new) else if new = 1 then (1, 1) else (3, 0)

/-- A read segment at a wedge decision: frames are armed while the present tracks hold wanted slots; then the advance of R158
is armed for the next tracks, or the segment ends (R407). -/
def State.readPoll (s : State) (n : Nat) (c : Cmd) : State :=
  let q := (s.bay n).sched
  let here := s.slotsHere n c
  if s.acting (R.SCHED_CTL.SEG_REVS n) 1 15 ≤ q.revs then s.endSegment n
  else if !here.isEmpty then (s.armFrames n c.id here).onSched n fun c => { c with begun := true }
  else if !(s.bay n).reading.frames.isEmpty then s
  else match s.tagPlace n c with
    | none => s.endSegment n
    | some p =>
      let layer := s.get (R.FT_STAT.LAYER n)
      let d := p.track - s.getTrack (R.FT_STAT.TRACK n)
      if p.layer ≠ layer then (if q.begun then s.endSegment n else s.beginJump n layer p.layer)
      else if c.wb.opcode = Op.TABLE_READ then (if d = 0 then s.onSched n fun c => { c with begun := true } else s.seek n p.track)
      else if !q.begun then s.seek n p.track
      else if d = ((s.advanceTracks n).1 : Int) then s.armEvent n 4096 0 c.id 0
      else s.endSegment n

/-- What a write run has to do at beam C's present track (R299, R300): the slots it writes, tests and verifies. -/
def State.runHere (s : State) (n : Nat) : List WSector × List Nat × List WSector :=
  let layer := s.get (R.FT_STAT.LAYER n)
  let t := s.getTrack (R.FT_STAT.TRACK n)
  let on := fun (d : Int) (x : WSector) => let a := slotOfPsa x.psa; x.inRun && a.layer == layer && a.track == t + d
  let run := (s.bay n).writing.run
  (run.filter fun x => on 0 x && (x.phase == .waiting || x.phase == .committed),
   (run.filter fun x => (on 0 x || on 1 x) && x.phase == .waiting && !x.tested).map fun x => (slotOfPsa x.psa).slot,
   run.filter fun x => on (-1) x && x.phase == .written)

/-- Arm the write events of tested slots (R299, R101): the target is the slot's start. -/
def State.armWrites (s : State) (n : Nat) (l : List WSector) : State :=
  (l.filter fun x => x.tested && x.phase == .waiting).foldl (fun s x =>
    let a := slotOfPsa x.psa
    s.armEvent n (slotAngle (zoneOfTrack a.track) a.slot) 2 x.tag a.slot) s

/-- A write run at a wedge decision (R300): the pass on the present track, then the next track, the verify pass, the relocation
run (R304), or the end. -/
def State.writePoll (s : State) (n t : Nat) : State :=
  let q := (s.bay n).sched
  let (here, tests, unver) := s.runHere n
  let layer := s.get (R.FT_STAT.LAYER n)
  let track := s.getTrack (R.FT_STAT.TRACK n)
  let run := (s.bay n).writing.run
  let more := decide (q.revs < s.acting (R.SCHED_CTL.SEG_PASSES n) 1 255)
  if q.vpass then
    if unver.isEmpty then s.onSched n fun c => { c with vpass := false, begun := false }
    else s.armFrames n t (unver.map fun x => (slotOfPsa x.psa).slot)
  else if !here.isEmpty || !unver.isEmpty then
    ((s.armFrames n t (tests ++ unver.map fun x => (slotOfPsa x.psa).slot)).armWrites n here).onSched n fun c => { c with begun := true }
  else
    let s1 := if q.begun then s.onSched n fun c => { c with begun := false, revs := c.revs + 1 } else s
    let at_ := fun (u : Int) (x : WSector) => let a := slotOfPsa x.psa; a.layer == layer && a.track == u
    let todo := run.filter fun x => x.inRun && x.phase == .waiting
    let goOn := more && (if q.begun then decide (q.revs + 1 < s.acting (R.SCHED_CTL.SEG_PASSES n) 1 255) else true)
    if goOn && todo.any (at_ (track + 1)) then s1.fineJump n 1
    else if run.any fun x => at_ track x && x.phase == .written then (s1.onSched n fun c => { c with vpass := true }).fineJump n 1
    else match (if goOn then todo else []) with
      | x :: _ =>
        let a := slotOfPsa x.psa
        if a.layer ≠ layer then s1.beginJump n layer a.layer else s1.seek n a.track
      | [] =>
        match run.find? fun x => x.inRun && x.phase == .written with
        | some x =>
          let a := slotOfPsa x.psa
          (s1.onSched n fun c => { c with vpass := true }).seek n (a.track + 1)
        | none =>
          let s2 := (s1.relocAll n 64)
          if (s2.bay n).writing.run.any fun x => x.inRun && x.phase == .waiting then s2 else s2.endSegment n

/-- What the segment in progress does at a wedge decision, the head standing on its track. -/
def State.segmentPoll (s : State) (n : Nat) : State :=
  if !s.motionIdle n then s
  else if s.bayState n = BS.CAL then s.armWrites n ((s.runHere n).1.filter fun x => x.kind == 4)
  else if s.bayState n ≠ BS.ACTIVE ∧ s.bayState n ≠ BS.DRAINING then s
  else
    let s0 := if s.acting (R.WR_CTL.RELOC_BATCH n) 1 32 ≤ (s.bay n).writing.reloc.length then s.relocAll n 64 else s
    match (s0.bay n).sched.seg with
    | some (.tag t) =>
      match s0.tag? n t with
      | none => s0.endSegment n
      | some c => if (s0.bay n).sched.writes then (s0.armRun n 64).writePoll n t else s0.readPoll n c
    | _ => s0

/-! ## The decision (R405 to R411) -/

/-- The gap is open. -/
def State.gapOpen (s : State) (n : Nat) : Bool := decide (0 < (s.bay n).sched.gap) && s.bayState n != BS.DRAINING

/-- Open the gap (R409). -/
def State.openGap (s : State) (n : Nat) : State :=
  if s.bayState n = BS.DRAINING then s
  else (s.onSched n fun c => { c with gap := s.acting (R.SCHED_CTL.URG_GAP n) 1 15 }).raise (R.SCHED_STAT.GAP n)

/-- Better by a key, then by creation. -/
def leastBy (key : Cand → Nat × Nat) (l : List Cand) : Option Cand :=
  l.foldl (fun best x => match best with
    | none => some x
    | some b =>
      let (a1, a2) := key x
      let (b1, b2) := key b
      if a1 < b1 ∨ (a1 = b1 ∧ (a2 < b2 ∨ (a2 = b2 ∧ x.born < b.born))) then some x else some b) none

/-- Start a segment on an item (R407, R408): a calibration that must precede it comes first (R328). -/
def State.startSegment (s : State) (n : Nat) (x : Cand) : State :=
  let s0 := s.put (R.SCHED_MAXAGE.MAXAGE n) (max (s.get (R.SCHED_MAXAGE.MAXAGE n)) (min 65535 (s.ms - x.born)))
  let active := fun (s : State) => if s.bayState n = BS.READY ∨ s.bayState n = BS.CAL then s.setBayState n BS.ACTIVE Why.sequence 0 else s
  let begin_ := fun (s : State) (bg writes : Bool) =>
    ((((active s).onSched n fun c => { c with seg := some x.work, begun := false, revs := 0, vpass := false, writes := writes }).zero
      (R.SCHED_STAT.IDLE n)).putB (R.SCHED_STAT.CUR_BG n) bg).putB (R.SCHED_STAT.CUR_TAG_VALID n) (!bg)
  match x.work with
  | .calibrate => (begin_ s0 true false).calBegin n
  | .commit =>
    let s1 := begin_ s0 true true
    if s1.dlRoom n then s1.raise (R.DL_CTL.BUSY n) else (s1.commitFail n ST.DL_QUOTA).endSegment n
  | .tag t =>
    match (s0.tag? n t).bind (s0.tagPlace n) with
    | none => s0
    | some p =>
      let idx := entryIndex p.layer p.track
      let s1 := s0.zoneEnter n idx
      let s2 := if p.write && s1.writeScopeDue n idx then s1.calQueue n ⟨idx, false, true, false, false⟩ else s1
      let first := (s2.bay n).cal.queue.filter fun q => q.idx == idx && !q.back
      if !first.isEmpty ∧ (s2.bay n).cal.run = none then
        (active (s2.onCal n fun c => { c with queue := first ++ c.queue.filter fun q => !(q.idx == idx && !q.back) })).calBegin n
      else
        let s3 := ((begin_ s2 false p.write).put (R.SCHED_STAT.CUR_TAG n) t).setTarget n (s2.placeRpm n p)
        ((if p.write then s3.armRun n 64 else s3).applyBias n idx).segmentPoll n

/-- The decision of a decision point (R406 to R411). -/
def State.schedDecision (s : State) (n : Nat) : State :=
    if (s.bay n).sched.seg.isSome || (s.bay n).cal.run.isSome || !([BS.READY, BS.ACTIVE, BS.CAL, BS.DRAINING].contains (s.bayState n)) then s
    else
      let s1 := s.promoteAll n
      let ok := (s1.allItems n).filter (s1.eligible n)
      let cost := fun (x : Cand) => s1.workCost n x.work
      let u := ok.filter (·.urgent)
      let h := ok.filter fun x => !x.urgent && decide (x.cls < 4)
      let b := ok.filter fun x => !x.urgent && decide (x.cls = 4)
      let s2 := (s1.put (R.SCHED_STAT.ELIGIBLE n) (min 127 ok.length)).showUrgent n
      if !u.isEmpty && (h.isEmpty || !s2.gapOpen n) then
        match leastBy (fun x => (x.born + s2.ageLimit n x.cls, cost x)) u with
        | some x => (if h.isEmpty then s2 else s2.openGap n).startSegment n x
        | none => s2
      else
        let s3 := if u.isEmpty then s2 else s2.count (R.SCHED_CNT.GAP_HELD n) 1
        match leastBy (fun x => (cost x + 65536 * s3.get (R.SCHED_BIAS.BIAS n x.cls), 0)) h with
        | some x => s3.startSegment n x
        | none =>
          match (if s3.on (R.SCHED_CTL.BG_EN n) then leastBy (fun x => (cost x, 0)) b else none) with
          | some x => s3.startSegment n x
          | none => if s3.bayState n = BS.ACTIVE then s3.setBayState n BS.READY Why.sequence 0 else s3

/-- AGE_DEADLINE (R409): an item's age reaches its class's deadline; `k` is its tag, 64 a calibration, 65 a commit. -/
def execAgeDeadline (n k : Nat) (s : State) : Host.Outcome State Fault Refusal :=
  s.onBay n fun s =>
    match (s.allItems n).find? fun x => x.work.code == k with
    | some x => s.promoteItem n x
    | none => s

/-- GAP_REVOLUTION_ELAPSED (R409): while ALIGNED = 0 a revolution of elapsed time counts as one W0 decision. -/
def execGapRevolutionElapsed (n : Nat) (s : State) : Host.Outcome State Fault Refusal :=
  s.onBay n fun s => if s.on (R.ANG_STAT.ALIGNED n) then s else s.gapRevolution n

end Sys2Proof.Machine
end

