-- ==== Sys2Proof/Machine/Wedge.lean ====
section
/-!
DEFINITION. Wedges and teeth as commands (R90 to R97), and what each wedge decision brings: loop samples (R17, R123),
tracking, tilt, fine jumps and slips (R151, R156, R160, R162), gate runs (R101, R102, R298) and the gap (R409).
-/

namespace Sys2Proof.Machine

/-! ## Wobble offsets (R147) -/

/-- q_x of a beam in Q0.31, one of the two neighbours; none where A + B ≤ 0. -/
def State.wobble (s : State) (ab : Int × Int) : Option Int × State :=
  if ab.1 + ab.2 ≤ 0 then (none, s)
  else
    let (q, s1) := s.roundOpen (2 ^ 31 * (ab.2 - ab.1)) (ab.1 + ab.2).toNat
    (some (satQ31 q), s1)

/-- d_x in nm × 2^31. -/
def State.radial (s : State) (n : Nat) (q : Int) : Int := (s.get (R.TRK_SCALE.TE_SCALE n) : Int) * q

/-! ## Acquisition complete (R151 step 8, R163) -/

/-- Lasers, focus and tracking are closed: LEARN is set, layer and track recorded; the bay is `READY`, `CAL`, or back at
work (R151 step 8, R163 step 2). -/
def State.acqDone (s : State) (n : Nat) : State :=
  let s1 := ((s.setLearn n true).put (R.FT_STAT.FOCUS n) 2).onFocus n fun f => { f with acq := .off, jump := .off }
  if s1.bayState n = BS.RECOVERY then
    let t := (s1.bay n).focus.retTrack
    (s1.setBayState n BS.ACTIVE Why.sequence 0).seek n t
  else if s1.bayState n = BS.FOCUSING then
    let s2 := s1.calAtFocus n
    if (s2.bay n).cal.queue.any fun r => !r.back then s2.calBegin n
    else s2.setBayState n BS.READY Why.sequence 0
  else s1

/-! ## Tracking at a decision (R151, R156, R160, R162) -/

/-- Track off on two accepted wedges (R162). -/
def State.trackOff (s : State) (n : Nat) (d : Int) (track : Nat) : State :=
  let s1 := ((s.endGateRun n 4).count (R.FT_COUNT.TRK_OFF n) 1).recordFocus n 0x0503 [ofInt 16 (d / 2 ^ 31), track]
  s1.enterRecovery n 0x0503 false (s1.get (R.FT_STAT.LAYER n))

/-- A slip (R162): a fine jump back; the fourth in one revolution, or the third towards one target (R157), leads to
`RECOVERY`. -/
def State.slip (s : State) (n : Nat) (expected found : Int) : State :=
  let f := (s.bay n).focus
  let s1 := ((s.endGateRun n 4).count (R.FT_COUNT.SLIP n) 1).recordFocus n 0x0504 [ofInt 18 expected, ofInt 18 found]
  let towards := f.seekTo.isSome || f.fine == .confirm
  let s2 := s1.onFocus n fun f => { f with slips := 0 :: f.slips, fineSlips := if towards then f.fineSlips + 1 else 0, fine := .off }
  if 3 ≤ (s2.bay n).focus.fineSlips then
    let t := match f.seekTo with | some t => t | none => expected
    (s2.recordFocus n 0x0506 [ofInt 18 t]).enterRecovery n 0x0506 false (s2.get (R.FT_STAT.LAYER n))
  else if 4 ≤ (s2.bay n).focus.slips.length then s2.enterRecovery n 0x0504 false (s2.get (R.FT_STAT.LAYER n))
  else (s2.onFocus n fun f => { f with expTrack := found }).fineJump n (expected - found)

/-- Close tracking with the bumpless transfer (R119). -/
def State.closeTracking (s : State) (n : Nat) : State := s.setAuto n 1 true

/-- A fine jump is confirmed by the track of its last wedge (R156): what remains of the distance follows, then LEARN. -/
def State.fineConfirm (s : State) (n : Nat) (track : Int) : State :=
  let f := (s.bay n).focus
  let s1 := (s.closeTracking n).closeBridge n
  if track = f.expTrack then
    let s2 := (s1.onFocus n fun f => { f with fine := .off, fineD := 0, advance := false })
    if f.fineLeft ≠ 0 then (s2.onFocus n fun f => { f with fineLeft := 0 }).fineJump n f.fineLeft
    else (s2.setLearn n true).seekProceed n
  else s1.slip n f.expTrack track

/-- Tracking after an accepted wedge with beam C's offset `d` (nm × 2^31) on a track (R151 steps 7 and 8, R157, R162). -/
def State.trackWedge (s : State) (n w : Nat) (d : Option Int) (track : Int) : State :=
  let f := (s.bay n).focus
  let auto := s.bitOf (R.SRV_CTL.AUTO n) 1
  let bridge := s.on (R.ANG_STAT.BRIDGE n)
  let far := fun (lim : Nat) => match d with | some x => decide (2 ^ 31 * (lim : Int) < x.natAbs) | none => false
  let closing := (f.acq == .track || f.jump == .track || (f.coarseOn && s.on (R.STEP_STAT.SLED_ARRIVED n))) && s.get (R.ANG_STAT.STATE n) == 2
  if f.fine = .confirm then s.fineConfirm n track
  else if closing && !auto then
    let ok := d.isSome && !far 30 && f.prevTrack == some track
    let s1 := s.onFocus n fun f => { f with prevTrack := some track }
    if ok then
      let s2 := ((s1.closeTracking n).putS (R.FT_STAT.TRACK n) track).onFocus n fun f => { f with expTrack := track, offRun := 0 }
      if f.coarseOn then (((s2.closeBridge n).setLearn n true).onFocus n fun f => { f with coarseOn := false }).seekProceed n
      else if f.jump = .track then (s2.onFocus n fun f => { f with jump := .off }).setLearn n true
      else s2.onFocus n fun f => { f with acq := .tilt }
    else s1
  else if auto && !bridge then
    let s0 := (s.putS (R.FT_STAT.TRACK n) track).showWcal n
    if track ≠ f.expTrack then s0.slip n f.expTrack track
    else
      let run := if far (s0.get (R.TRK_SCALE.TRK_OFF n)) then f.offRun + 1 else 0
      let s1 := s0.onFocus n fun f => { f with offRun := run }
      if 2 ≤ run then s1.trackOff n (d.getD 0) (ofInt 18 track)
      else if s1.gateRunning n && far (s1.acting (R.TRK_SCALE.WR_OFF n) 10 120) then
        let psa := match (s1.bay n).writing.gate with | some g => g.psa | none => noPsa
        ((s1.count (R.FT_COUNT.WR_OFF n) 1).recordFocus n 0x0505 [psa, ofInt 16 (d.getD 0 / 2 ^ 31)]).endGateRun n 4
      else if f.acq = .tilt ∧ w % 16 = 0 then (s1.setAuto n 2 true).acqDone n
      else s1
  else s

/-- Side beams at an accepted wedge (R160, R172). -/
def State.sideWedge (s : State) (n : Nat) (wob : List (Int × Int)) : State :=
  let step := fun (s : State) (beam : Nat) =>
    let (q, s1) := s.wobble (wob.getD beam (0, 0))
    match q with
    | some q =>
      let d := s1.radial n q
      let s2 := s1.putS (if beam = 0 then R.TRK_SIDE_OFS.D_I n else R.TRK_SIDE_OFS.D_O n) (d / 2 ^ 31)
      if s2.bitOf (R.SRV_CTL.AUTO n) 1 && !s2.on (R.ANG_STAT.BRIDGE n) then
        s2.sideCount n beam (decide (2 ^ 31 * (s2.acting (R.TRK_SIDE.SIDE_LIM n) 10 120 : Int) < d.natAbs)) (d / 2 ^ 31)
      else s2
    | none => s1
  step (step s 0) 2

/-! ## Gate runs (R101, R102, R298) -/

/-- Cut periods into segments: each begins with a wedge window but for the first (R102). -/
def segmentsOf (l : List (Option Bool)) : List (List (Option Bool)) :=
  (l.foldr (fun x (acc : List (List (Option Bool)) × Bool) =>
    match acc.1 with
    | [] => ([[x]], x.isNone)
    | c :: r => if !x.isNone && acc.2 then ([x] :: c :: r, false) else ((x :: c) :: r, x.isNone)) ([], false)).1

/-- POWER levels for a run (R298): read powers of I, C and O, then P_WRITE, P_BIAS and P_COOL within `WR_LIM`; a test sector's
are those of R325, P_0 and the entry's times 0.80 + 0.05k. -/
def State.runPowers (s : State) (n : Nat) (e : List Byte) (x : WSector) : List Int × Bool :=
  let p0 := match (s.bay n).cal.run.bind (·.pca) with | some (_, _, p) => p | none => zU e 234 2
  let v := fun (o : Nat) =>
    if x.kind = 4 ∧ 234 ≤ o ∧ o ≤ 238 then
      (dspDiv (((if o = 234 then p0 else zU e o 2) * (80 + 5 * x.item) : Nat) : Int) 100).toNat
    else zU e o 2
  let pw := min (v 234) (s.get (R.WR_LIM.PW_MAX n))
  let pb := min (v 236) (s.get (R.WR_LIM.PB_MAX n))
  let pc := min (v 238) (s.get (R.WR_LIM.PB_MAX n))
  ([(v 240 : Int), v 242, v 244, pw, pb, pc], pw != v 234 || pb != v 236 || pc != v 238)

/-- Send the powers of a run where they differ from those last sent (R298). -/
def State.applyPowers (s : State) (n : Nat) (e : List Byte) (x : WSector) : State :=
  let (p, clamp) := s.runPowers n e x
  let s1 := if clamp then s.raise (R.WR_STAT.PCLAMP n) else s
  if (s1.bay n).writing.powers = p then s1
  else (s1.onWrite n fun w => { w with powers := p }).send n 0x15 ((s1.bay n).link.lasers % 8 * 2 ^ 12)
    [block16 (p.getD 0 0) (p.getD 1 0) (p.getD 2 0) 0, block16 (p.getD 3 0) (p.getD 4 0) (p.getD 5 0) 0]

/-- Commit the gate run of a run sector (R101, R298): launch instant and period are fixed, the FIRST frame and the first
segment go out. -/
def State.gateCommit (s : State) (n now : Nat) (x : WSector) : State :=
  let a := slotOfPsa x.psa
  let z := zoneOfTrack a.track
  let e := s.ztEntry n (entryIndex a.layer a.track)
  let rate := max 1 (s.get (R.ANG_RATE.RATE n))
  let s1 := s.applyPowers n e x
  let delta := (slotAngle z a.slot * 2 ^ 30 + 2 ^ 54 - (s1.bay n).tracker.acc) % 2 ^ 54
  let (dt, s2) := s1.roundOpen ((delta * 64 : Nat) : Int) rate
  let launch := (now + dt.toNat) % instantMod
  let (per, s3) := s2.roundOpen ((2 ^ 78 * 25 : Nat) : Int) (periodsPerRev z * rate * 32)
  let pulses : Pulses := ⟨zU e 246 1, zU e 247 1, zU e 248 1, zU e 249 1⟩
  let segs := (segmentsOf (gatePeriods z a.slot (payloadBits x.psa x.info))).map (gateRecords pulses.limit)
  let head := BitVec.ofNat 64 (launch / 64 % 2 ^ 32 + 2 ^ 32 * (per.toNat % 2 ^ 32))
  let s4 := s3.sendRecords n (launch % 64) (some head) (segs.length ≤ 1) 1000 (segs.headD [])
  s4.onWrite n fun w => { w with
    gate := some ⟨x.psa, launch, slotWedges z a.slot, segs.drop 1, []⟩,
    run := w.run.map (fun y => if y.psa = x.psa then { y with phase := .committed } else y) }

/-- The write-side guard (R101, R99) and the conditions of R23 and R299 at the commit wedge of an armed write event. -/
def State.gateGuard (s : State) (n now : Nat) (ev : TimelineEntry) : State :=
  let t := s.getTrack (R.FT_STAT.TRACK n)
  let psa := SlotAddr.psa ⟨s.get (R.FT_STAT.LAYER n), t, ev.slot⟩
  let free := s.onTracker n fun k => { k with events := k.events.erase ev }
  match (s.bay n).writing.run.find? fun x => x.psa == psa && x.phase == .waiting with
  | none => free
  | some x =>
    if !x.tested || (s.jEntry n x.entry).isNone then free
    else if s.get (R.ANG_STAT.STATE n) == 2 && decide (2 ≤ s.get (R.ANG_STAT.GOOD_RUN n)) && !s.on (R.ANG_STAT.BRIDGE n)
        && s.on (R.SPIN_STAT.WR_OK n) && !s.gateRunning n then free.gateCommit n now x
    else free.count (R.ANG_WR.WITHHELD n) 1

/-- Armed write events whose commit wedge is the one decided. -/
def State.gateCommits (s : State) (n w now : Nat) : State :=
  let z := zoneOfTrack (s.getTrack (R.FT_STAT.TRACK n))
  ((s.bay n).tracker.events.filter fun e => e.cls == 2 && e.revs == 0 && commitWedge z e.slot == w).foldl
    (fun s e => s.gateGuard n now e) s

/-- Whether instant `now` has reached the launch. -/
def GateRun.launched (g : GateRun) (now : Nat) : Bool := decide (elapsed g.launch now < 2 ^ 37)

/-- A miss that counts against a run (R102): the first marks the sector verify-critical, the second aborts the run. -/
def State.gateMiss (s : State) (n w now : Nat) : State :=
  match (s.bay n).writing.gate with
  | none => s
  | some g =>
    if !g.launched now then s
    else match g.misses with
      | [] => (s.count (R.ANG_WR.VCRIT n) 1).onWrite n fun v => { v with
          gate := some { g with misses := [w] },
          run := v.run.map (fun y => if y.psa = g.psa then { y with vcrit := true } else y) }
      | w1 :: _ => (((s.recordBay n 0x0304 [n, g.psa, w1, w]).count (R.ANG_WR.ABORTED n) 1)).endGateRun n 4

/-- Deciding wedge W releases the segment that begins at the window of W + 1 (R102); a run all of whose segments are out
has ended once the decision lies beyond its windows. -/
def State.gateRelease (s : State) (n w : Nat) : State :=
  match (s.bay n).writing.gate with
  | none => s
  | some g =>
    match g.segs with
    | seg :: rest =>
      if g.wedges.contains ((w + 1) % 1024) then
        (s.sendRecords n 0 none rest.isEmpty 1000 seg).onWrite n fun v => { v with gate := some { g with segs := rest } }
      else s
    | [] =>
      if g.wedges.contains w then s
      else
        let s1 := s.gateEnded n g.psa
        if s1.bayState n = BS.DRAINING ∧ (s1.bay n).tags = [] then s1.endDrain n else s1

/-! ## Detections and decisions (R92, R93, R97) -/

/-- WEDGE_DETECTION (R92, R97 step 1, R152): instant, the 36 address bits, and the wobble amplitudes (A, B) of beams I, C
and O. -/
def execWedgeDetection (n tau bits : Nat) (wob : List (Int × Int)) (s : State) : Host.Outcome State Fault Refusal :=
  s.onBay n fun s =>
    let a := decodeWedge bits
    let s0 := if a.parity then s.probeDetection n a.layer else s
    let s1 := s0.onTracker n fun k => { k with detSeen := if s0.on (R.ANG_STAT.ACQ n) then k.detSeen + 1 else k.detSeen }
    if s1.on (R.ANG_STAT.ACQ n) && !s1.on (R.ANG_STAT.ALIGNED n) then
      if a.parity && a.layer == s1.get (R.ANG_STAT.LAYER n) then s1.takeCandidate n a.wedge tau tau
      else s1.count (R.ANG_MISS.FALSE n) 1
    else if s1.on (R.ANG_STAT.ALIGNED n) && (s1.bay n).tracker.hit.isNone && s1.qualifies n tau a then
      s1.onTracker n fun k => { k with hit := some ⟨tau, a.track, wob⟩ }
    else s1.count (R.ANG_MISS.FALSE n) 1

/-- The tracker reaches `LOST` (R96). -/
def State.angLost (s : State) (n : Nat) : State :=
  let s1 := (((s.setTracker n 4).closeBridge n).alignedFall n).recordBay n 0x0301
    [n, s.get (R.ANG_NOW.ANGLE n), s.get (R.ANG_STAT.LAST_W n)]
  let s2 := s1.abandonReads n
  if s2.bayState n = BS.FOCUSING then s2.startAcq n
  else s2.enterRecovery n 0x0301 false (s2.get (R.FT_STAT.LAYER n))

/-- Acquisition is complete (R97): the tracker is `LOCKED`. -/
def State.acqComplete (s : State) (n : Nat) : State :=
  let s1 := ((s.setTracker n 2).zero (R.ANG_STAT.ACQ n)).onTracker n fun k => { k with candidate := false }
  s1.onFocus n fun f => if f.acq = .wedges then { f with acq := .track, prevTrack := none } else f

/-- Tracker state after an accepted wedge (R96, R97). -/
def State.acceptState (s : State) (n : Nat) : State :=
  let st := s.get (R.ANG_STAT.STATE n)
  if st = 3 then
    let s1 := s.setTracker n 2
    if s1.on (R.ANG_STAT.ACQ n) then s1.acqComplete n else s1
  else if (s.bay n).tracker.candidate ∧ s.acting (R.ANG_CTL.ACQ_NEED n) 2 15 ≤ s.get (R.ANG_STAT.GOOD_RUN n) then s.acqComplete n
  else s

/-- Tracker state after a missed wedge (R96, R97). -/
def State.missState (s : State) (n : Nat) : State :=
  if (s.bay n).tracker.candidate then s.alignedFall n
  else
    let s1 := if s.get (R.ANG_STAT.STATE n) = 2 then s.setTracker n 3 else s
    if s1.get (R.ANG_STAT.STATE n) = 3 ∧ 8 ≤ s1.get (R.ANG_STAT.MISS_RUN n) then s1.angLost n else s1

/-- The loop samples of a decision (R17, R99, R110, R123): slot 1 each wedge, slot 2 every 16th, the speed every 32nd. -/
def State.wedgeSamples (s : State) (n w : Nat) (q : Option Int) (accepted : Bool) : State :=
  let st := s.get (R.ANG_STAT.STATE n)
  if st ≠ 2 ∧ st ≠ 3 then s
  else
    let s1 := s.offerSample n 1 ⟨if accepted then q else none, w, accepted⟩
    let s2 := if w % 16 = 0 then
        let v := (s1.bay n).servo
        let (x, s0) := if v.tiltNum = 0 then s1.fresh 32 else
          let (m, t) := s1.roundOpen v.tiltSum v.tiltNum
          ((ofInt 32 m), t)
        (s0.offerSample n 2 ⟨if accepted then some (satQ31 (toInt 32 x - s0.getS (R.FT_BIAS.TILT_BIAS n) * 65536)) else none, w, accepted⟩).onServo n
          fun v => { v with tiltSum := 0, tiltNum := 0 }
      else s1
    if w % 32 = 0 then s2.speedSample n (rateOmega (s2.get (R.ANG_RATE.RATE n))) else s2

/-- What every decision brings besides: slips age, and are forgotten after a revolution (R162); at W0 also the gap (R409) and the
back-EMF average of a revolution (R191). -/
def State.wedgeZero (s' : State) (n w : Nat) : State :=
  let s := s'.onFocus n fun f => { f with slips := (f.slips.map (· + 1)).filter (· < 1024) }
  if w = 0 then
    let s1 := (s.keRevolution n).onSched n fun c =>
      { c with revs := if c.begun && !c.writes then c.revs + 1 else c.revs }
    s1.gapRevolution n
  else s

/-- WEDGE_DECISION (R90 to R102): the window of the expected wedge has closed. -/
def execWedgeDecision (n now : Nat) (s : State) : Host.Outcome State Fault Refusal :=
  s.onBay n fun s =>
    if !s.on (R.ANG_STAT.ALIGNED n) then s
    else
      let k := (s.bay n).tracker
      let w := k.expectW
      let last := decide (k.bridge = 1)
      let s0 := s.onTracker n fun k => { k with hit := none, expectW := (w + 1) % 1024, bridge := k.bridge - 1 }
      match k.hit with
      | some h =>
        let s1 := ((s0.wedgeAccept n w h.tau now).acceptState n).speedFactor n
        let (q, s2) := s1.wobble (h.wob.getD 1 (0, 0))
        let s3' := (s2.wedgeSamples n w q true).sideWedge n h.wob
        let s3 := s3'.readWedge n w [s3'.getS (R.TRK_SIDE_OFS.D_I n), match q with | some q => s3'.radial n q / 2 ^ 31 | none => 0,
          s3'.getS (R.TRK_SIDE_OFS.D_O n)]
        let s4 := s3.trackWedge n w (q.map (s3.radial n)) (trackOfBits h.track)
        let s5 := if (s4.bay n).focus.fine = .due then s4.fineKick n (s4.bay n).focus.fineD else s4
        (((s5.gateCommits n w now).gateRelease n w).wedgeZero n w).segmentPoll n
      | none =>
        let s1 := ((s0.runTo n now).wedgeMiss n).missState n
        let s2 := (s1.speedFactor n).wedgeSamples n w none false
        let s3 := if last ∧ (s2.bay n).focus.fine = .confirm then s2.closeTracking n else s2
        let s4 := if (s3.bay n).focus.fine = .due ∧ s3.on (R.ANG_STAT.ALIGNED n) then s3.fineKick n (s3.bay n).focus.fineD else s3
        ((((s4.gateMiss n w now).readMiss n w).gateCommits n w now |>.gateRelease n w).wedgeZero n w).segmentPoll n

/-- BRIDGE_EXPIRE (R94): the bridge's length has elapsed. -/
def execBridgeExpire (n : Nat) (s : State) : Host.Outcome State Fault Refusal := s.onBay n fun s => s.closeBridge n

/-- ACQ_TIMEOUT (R97, R153): the acquisition in progress has failed. -/
def execAcqTimeout (n : Nat) (s : State) : Host.Outcome State Fault Refusal :=
  s.onBay n fun s =>
    if s.on (R.ANG_STAT.ACQ n) then
      let s1 := (s.zero (R.ANG_STAT.ACQ n)).recordBay n 0x0302 [n, s.get (R.ANG_STAT.LAYER n), (s.bay n).tracker.detSeen]
      let s2 := if (s1.bay n).tracker.candidate then s1.alignedFall n else s1
      if s2.bayState n = BS.FOCUSING then s2.acqFail n 6 else s2
    else s

/-! ## Teeth (R95) -/

/-- A tooth loss (R95): recorded; the tracker in `TOOTH` or `LOST` goes to `SEEKING`; the spindle treats it by R192. -/
def State.toothLoss (s : State) (n : Nat) : State :=
  let st := s.get (R.ANG_STAT.STATE n)
  let s1 := (s.recordBay n 0x0303 [n, s.get (R.ANG_RATE.RATE n)]).onTracker n fun k => { k with synth := 0 }
  let s2 := if st = 1 ∨ st = 4 then
      ((if s1.on (R.ANG_STAT.ALIGNED n) then s1.alignedFall n else s1).setTracker n 0).onTracker n fun k => { k with seekTeeth := 0 }
    else s1
  let (x, s3) := s2.fresh 16
  s3.observerLoss n x

/-- Insert a synthesised tooth; the fourth in a row is a tooth loss. -/
def State.toothMissing (s : State) (n : Nat) : State :=
  let s1 := s.toothInsert n
  if 4 ≤ (s1.bay n).tracker.synth then s1.toothLoss n else s1

/-- What an accepted tooth brings the spindle and the servo engine (R17, R118, R183, R184, R191). -/
def State.toothEffects (s : State) (n dt : Nat) : State :=
  let s1 := s.speedFactor n
  let st := s1.get (R.ANG_STAT.STATE n)
  let s2 := if st = 1 then s1.speedSample n (rateOmega (s1.get (R.ANG_RATE.RATE n)))
    else if st = 4 ∨ st = 0 then
      if dt = 0 then s1
      else
        let (om, t) := s1.roundOpen ((2 ^ 54 * (60 * baseHz * 64) : Nat) : Int) (36 * dt)
        t.speedSample n om.toNat
    else s1
  let s3 := s2.onSpin n fun p => { p with keTeeth := p.keTeeth + 1 }
  if st ≠ 2 ∧ st ≠ 3 ∧ 36 ≤ (s3.bay n).spin.keTeeth then s3.keRevolution n else s3

/-- A tooth where tooth tracking runs (R95); `fuel` bounds the teeth inserted before it. -/
def State.toothJudge (n tau : Nat) : Nat → State → State
  | 0, s => s
  | fuel + 1, s =>
    let dt := elapsed (s.bay n).tracker.toothAt tau
    match toothClass (s.get (R.ANG_RATE.RATE n)) dt with
    | 0 => s.count (R.ANG_TOOTH.SHORT n) 1
    | 1 => (s.toothAccept n tau).toothEffects n dt
    | _ =>
      let s1 := s.toothMissing n
      if s1.get (R.ANG_STAT.STATE n) = 0 then s1.toothSeek n tau else State.toothJudge n tau fuel s1

/-- TOOTH_REPORT (R95, R183): the instant, and whether the observer's tooth agrees with the forced angle. -/
def execToothReport (n tau : Nat) (agrees : Bool) (s : State) : Host.Outcome State Fault Refusal :=
  s.onBay n fun s =>
    let s0 := s.observerTooth n agrees
    if s0.get (R.ANG_STAT.STATE n) = 0 then
      let s1 := s0.toothSeek n tau
      if s1.get (R.ANG_STAT.STATE n) = 1 then (s1.spinAutoSpeed n).speedFactor n else s1
    else State.toothJudge n tau 8 s0

/-- TOOTH_SYNTHESIS (R95): 1.5 T_e have passed with no tooth. -/
def execToothSynthesis (n now : Nat) (s : State) : Host.Outcome State Fault Refusal :=
  s.onBay n fun s => if s.get (R.ANG_STAT.STATE n) = 0 then s else (s.runTo n now).toothMissing n

end Sys2Proof.Machine
end

