-- ==== Sys2Proof/Machine/Events.lean ====
section
/-!
DEFINITION. Timeline events (R98, R99), the advance and its shadowed slots (R158, R159), the upstream RF, SERVO and ENCODER
frames (R66, R67, R151, R154, R162, R215), on-the-fly decoding (R270), and the timers of motion and of the journal.
-/

namespace Sys2Proof.Machine

/-! ## The media table (R384) -/

/-- Address of a media-table record (R384, R385). -/
def State.mtAddr (s : State) (i : Nat) : Nat := s.get R.MT_BASE_LO.ADDR * 4096 + 2 ^ 32 * s.get R.MT_BASE_HI.ADDR + 64 * i

/-- Seconds for the media table: 0 while the RTC is not valid. -/
def State.mtTime (s : State) : Nat := if s.on R.RTC_STAT.VALID then s.rtc else 0

/-- Write the media-table record (R384): at a MOUNT all but UNMOUNTED and HOST, at an UNMOUNT all but MOUNTED and HOST. -/
def State.mtWrite (s : State) (n i state : Nat) : State :=
  let d := (s.bay n).disc
  let (seq, total) := match d.anchor with | some a => (a.seq, a.dlTotal) | none => (0, 0)
  let opened := ((s.bay n).writing.parity.filter fun p => p.disc == s.discId n).length
  let head := bytesLE 16 (s.discId n) ++ bytesLE 8 seq ++ bytesLE 4 total ++ bytesLE 4 opened
  let tail := bytesLE 2 s.writer ++ bytesLE 1 n ++ bytesLE 1 state ++ bytesLE 1 d.dir.length ++
    bytesLE 1 (d.dir.filter fun e => e.state == 1).length
  let a := s.mtAddr i
  if state = 2 then (s.emit (.hostWrite a head)).emit (.hostWrite (a + 37) (bytesLE 5 s.mtTime ++ tail))
  else (s.emit (.hostWrite a (head ++ bytesLE 5 s.mtTime))).emit (.hostWrite (a + 42) tail)

/-! ## Parking (R25, R86, R383, R557) -/

/-- The end of a parking that no UNMOUNT asked for (R557, step 6 of R383): the media-table record is written and the mount's
remains go. -/
def State.parkRecord (s : State) (n : Nat) : State :=
  let b := s.bay n
  if b.mounted || !b.tags.isEmpty || b.disc.info.isNone then s
  else
    let s1 := match b.disc.mtIndex with | some i => s.mtWrite n i 2 | none => s
    let s2 := if b.writing.journal.any fun e => e.2.state == 3 && !e.2.stale then s1.staleJournal n 6 else s1
    ((s2.onWrite n fun w => { w with staged := [] }).showWrite n).endMount n

/-- `PARKING` ends once the spindle is at rest and the sled stands: to `OFF` in a withdrawal, else to `EMPTY`. -/
def State.parkEnd (s : State) (n : Nat) : State :=
  let p := s.stepper false n
  if s.bayState n = BS.PARKING ∧ s.on (R.SPIN_STAT.STOPPED n) ∧ !p.moving ∧ !p.settling then
    if s.get (R.STATE.PREV n) = BS.DRAINING then s.bayDomainOff n Why.sequence 0
    else (s.setBayState n BS.EMPTY Why.sequence 0).parkRecord n
  else s

/-- COAST_STOPPED_TIMEOUT (R190). -/
def execCoastStoppedTimeout (n : Nat) (s : State) : Host.Outcome State Fault Refusal :=
  s.onBay n fun s =>
    if s.get (R.SPIN_STAT.PHASE n) = 6 then ((s.raise (R.SPIN_STAT.STOPPED n)).zero (R.SPIN_STAT.PHASE n)).parkEnd n else s

/-! ## Steppers: ticks and ends of moves -/

/-- What waits for a stepper's move: acquisition (R151), a layer jump (R154), parking. -/
def State.moveProceed (s : State) (n : Nat) : State := ((s.acqProceed n).jumpProceed n).parkEnd n

/-- PLANNER_TICK (R209). -/
def execPlannerTick (n : Nat) (s : State) : Host.Outcome State Fault Refusal :=
  s.onBay n fun s => (s.plannerTick n).moveProceed n

/-- STEPPER_ARRIVED (R212): SETTLE after the final tick has passed. -/
def execStepperArrived (n : Nat) (sa : Bool) (s : State) : Host.Outcome State Fault Refusal :=
  s.onBay n fun s => if (s.stepper sa n).settling then (s.stepArrive sa n).moveProceed n else s

/-- HOME_HOLD_END (R213). -/
def execHomeHoldEnd (n : Nat) (sa : Bool) (s : State) : Host.Outcome State Fault Refusal :=
  s.onBay n fun s => (s.homeHoldEnd sa n).moveProceed n

/-- STALL_RESYNC (R218). -/
def execStallResync (n : Nat) (s : State) : Host.Outcome State Fault Refusal := s.onBay n fun s => s.stallResync n

/-- ENCODER_FRAME_RECEIVE (R215). -/
def execEncoderFrameReceive (n : Nat) (f : UpFrame) (s : State) : Host.Outcome State Fault Refusal :=
  s.onBay n fun s =>
    let s1 := s.takeFrame n 0x04 f
    if frameGood 0x04 f then s1.encTake n f else s1

/-! ## The journal (R317) -/

/-- JOURNAL_RELEASE (R317): entry INDEX, if it is stale. -/
def execJournalRelease (n : Nat) (s : State) : Host.Outcome State Fault Refusal :=
  s.onBay n fun s =>
    let i := s.get (R.WJ_RELEASE.INDEX n)
    match s.jEntry n i with
    | some e => if e.stale then s.putEntry n i none else s.raise (R.WJ_RELEASE.ERR n)
    | none => s.raise (R.WJ_RELEASE.ERR n)

/-- JOURNAL_RELEASE_ALL (R317): every stale entry of the bay. -/
def execJournalReleaseAll (n : Nat) (s : State) : Host.Outcome State Fault Refusal :=
  s.onBay n fun s => ((s.bay n).writing.journal.filter fun e => e.2.stale).foldl (fun s e => s.putEntry n e.1 none) s

/-- DL_COMMIT_DONE (R305, R51, R56): the commit in progress ends: written and verified, with the PSAs of its defect-list
sectors, head last, and the next free system slot; or no slot is left for it. -/
def execDlCommitDone (n : Nat) (full : Bool) (sectors : List Nat) (sysNext : Nat) (s : State) : Host.Outcome State Fault Refusal :=
  s.onBay n fun s =>
    if s.on (R.DL_CTL.BUSY n) then
      let s1 := if full then s.commitFail n ST.MEDIA_SYSTEM_FULL else s.commitDone n sectors sysNext
      if (s1.bay n).sched.seg = some .commit then s1.endSegment n else s1
    else s

/-! ## The advance (R158, R159) -/

/-- Whether the slots at home position `h` lie in an extent, not known to be open, all of whose data positions a command reads. -/
def State.sweepCovers (s : State) (n : Nat) (c : Cmd) (h : Nat) : Bool :=
  match homeExtent h with
  | none => false
  | some (x, _) =>
    let homes := (List.range c.count).map (s.homeOf n c)
    !s.extentOpen n x && (List.range 56).all fun p => homes.contains (extentSlot x p).psa

/-- Mark the wanted slots that an advance to track `t` shadows (R158, R159). -/
def State.markShadows (s : State) (n : Nat) (t : Int) (wedges : Nat) : State :=
  let layer := s.get (R.FT_STAT.LAYER n)
  let hidden := fun (h : Nat) =>
    let a := slotOfPsa h
    a.layer == layer && (a.track == t || ((s.bay n).reading.pattern == 0 && (a.track - t).natAbs == 1 && sideTrack t a.track))
      && decide (slotAngle (zoneOfTrack a.track) a.slot < 16384 * wedges + 4096)
  (s.bay n).tags.foldl (fun s c =>
    if c.reads then
      let new := (List.range c.count).filterMap fun i =>
        let (h, copied) := s.itemSlot n c i
        if s.itemOpen n c i && !copied && hidden h && s.sweepCovers n c h then some h else none
      s.onRead n fun r => { r with shadows := r.shadows ++ new.filter fun h => !r.shadows.contains h }
    else s) s

/-- The advance while reading (R158): its pattern holds from now on, the jump begins at the event, and the slots that arrive
too early are shadowed. -/
def State.advance (s : State) (n : Nat) : State :=
  if s.bitOf (R.SRV_CTL.AUTO n) 1 then
    let (d, pat) := s.advanceTracks n
    let s1 := ((s.onRead n fun r => { r with pattern := pat }).putB (R.FT_STAT.SINGLE n) (pat = 1)).onFocus n fun f => { f with advance := true, fineLeft := 0 }
    let t := s1.getTrack (R.FT_STAT.TRACK n) + d
    (s1.fineKick n d).markShadows n t (s1.fineBridge n d)
  else s

/-! ## Frame starts (R234, R275, R302) -/

/-- Apply the deltas of a step-2 read, or restore the entry's values (R275). -/
def State.offsetsFor (s : State) (n k : Nat) : State :=
  let layer := s.get (R.FT_STAT.LAYER n)
  let t := s.getTrack (R.FT_STAT.TRACK n)
  let idx := entryIndex layer t
  match s.rungAt n (SlotAddr.psa ⟨layer, t, k⟩) 1 with
  | some g =>
    if g.step = 2 then
      let j := min 3 g.reads
      let s1 := s.applyBias n idx
      let s2 := s1.putS (R.FT_BIAS.FOC_BIAS n) (clampInt (-32768) 32767 (s1.getS (R.FT_BIAS.FOC_BIAS n) + s1.getS (R.DR_OFS.FOC_DELTA n j)))
      let s3 := s2.putS (R.FT_BIAS.TILT_BIAS n) (clampInt (-32768) 32767 (s2.getS (R.FT_BIAS.TILT_BIAS n) + 16 * s2.getS (R.DR_OFS.TILT_DELTA n j)))
      (s3.onRead n fun r => { r with ofsOn := true }).stepGo true n (s3.saTarget n layer + s3.getS (R.DR_OFS.SA_DELTA n j))
    else s
  | none => s

/-- Restore the entry's values once no sector is being framed (R275). -/
def State.offsetsBack (s : State) (n : Nat) : State :=
  let r := (s.bay n).reading
  if r.ofsOn && r.frames.all (fun f => f.started && f.members.all (·.framed)) then
    let layer := s.get (R.FT_STAT.LAYER n)
    let s1 := (s.applyBias n (entryIndex layer (s.getTrack (R.FT_STAT.TRACK n)))).onRead n fun r => { r with ofsOn := false }
    s1.stepGo true n (s1.saTarget n layer)
  else s

/-- A frame start fires: a verify read of the slot beside is begun first (R302). -/
def State.frameEvent (s : State) (n k : Nat) : State :=
  let psa := SlotAddr.psa ⟨s.get (R.FT_STAT.LAYER n), s.getTrack (R.FT_STAT.TRACK n) - 1, k⟩
  let s1 := if (s.bay n).sched.writes then (s.verifyStart n psa).2 else s
  (s1.offsetsFor n k).frameStart n k

/-- Whether the tracker lets a class fire (R99). -/
def State.classFires (s : State) (n cls : Nat) : Bool :=
  let st := s.get (R.ANG_STAT.STATE n)
  (st == 2 || st == 3) && (cls == 0 || (cls == 1 && !s.on (R.ANG_STAT.BRIDGE n)))

/-- ANGLE_EVENT_FIRE (R98, R99): the counter reaches or passes the target of armed entry `index`.  An entry with revolutions
to let pass stays armed.  A write entry that its commit wedge has not taken is withheld. -/
def execAngleEventFire (n index now : Nat) (action : EventAction) (s : State) : Host.Outcome State Fault Refusal :=
  s.onBay n fun s =>
    match (s.bay n).tracker.events[index]? with
    | none => s
    | some e =>
      let s0 := if s.on (R.ANG_STAT.ALIGNED n) then s.runTo n now else s
      if 0 < e.revs then
        s0.onTracker n fun k => { k with events := k.events.map fun d => if d = e then { d with revs := d.revs - 1 } else d }
      else
        let s1 := s0.onTracker n fun k => { k with events := k.events.erase e }
        if e.cls = 2 then s1.count (R.ANG_WR.WITHHELD n) 1
        else if !s1.classFires n e.cls then s1
        else
          let s1 := s1.setBay n { s1.bay n with reports := (s1.bay n).reports ++ [e] }
          let s2 := if s1.get R.GTRC_CTL.BAY = n then
              s1.trace 4 n e.cls (e.action + 256 * e.tag + 65536 * e.slot) (s1.angNow n) (s1.get (R.ANG_STAT.STATE n)) else s1
          match action with
          | .advance => s2.advance n
          | .frameStart => s2.frameEvent n e.slot
          | .calRun c => s2.calRunEnd n c
          | .other => s2

/-! ## RF frames (R63, R66, R232) -/

/-- Members of started frames not yet framed. -/
def State.unframed (s : State) (n : Nat) : List (SlotAddr × Nat) :=
  (s.bay n).reading.frames.flatMap fun f => if f.started then (f.members.filter fun m => !m.framed).map fun m => (f.at_, m.beam) else []

/-- Slots just found blank (R243, R302). -/
def State.blankEnds (s : State) (n : Nat) (before : List (SlotAddr × Nat)) : State :=
  ((s.bay n).reading.frames.flatMap fun f => f.members.filterMap fun m =>
    if m.framed && m.blank && !m.test && before.contains (f.at_, m.beam) then some m else none).foldl
    (fun s m => if m.verify then s.verifyEnd n m else s.foundBlank n m) s

/-- Sample periods reach the read channel; sectors complete by them are framed. -/
def State.rfPeriods (s : State) (n : Nat) (l : List (List (Option Int))) : State :=
  let before := s.unframed n
  let s1 := l.foldl (fun s x => s.samplePeriod n x) s
  let s2 := s1.frameComplete n fun s m wr => s.blankTested n m.psa wr
  ((s2.blankEnds n before).dropDone n).offsetsBack n

/-- A write to ADC_RATE takes effect at the RF frame boundary (R232). -/
def State.adcBoundary (s : State) (n : Nat) : State :=
  match (s.bay n).reading.adcNew with
  | some v => ((s.put (R.LINK_CTL.ADC_RATE n) v).onRead n fun r => { r with adcNew := none }).abandonReads n
  | none => s

/-- RF_FRAME_RECEIVE (R66, R63): a missing frame, and a corrupt one, give 128 erased sample periods. -/
def execRfFrameReceive (n : Nat) (f : UpFrame) (s : State) : Host.Outcome State Fault Refusal :=
  s.onBay n fun s =>
    let good := frameGood 0x01 f
    let gap := if good then s.seqGap n 0x01 f.seq else 0
    let erased : List (List (Option Int)) := List.replicate 128 [none, none, none]
    let s1 := (s.takeFrame n 0x01 f).adcBoundary n
    let missing := (List.replicate gap erased).flatten
    s1.rfPeriods n (missing ++ if good then (List.range 128).map fun i => (List.range 3).map fun b => some (rfSample f i b) else erased)

/-- ADC_RATE_WRITE (R232, R78): code 3 is not a rate and leaves the field unchanged. -/
def execAdcRateWrite (n rate : Nat) (s : State) : Host.Outcome State Fault Refusal :=
  s.onBay n fun s => if rate = 3 then s else s.onRead n fun r => { r with adcNew := some (rate % 4) }

/-! ## The on-the-fly decoder (R270) -/

/-- OTF_DECODE_DONE (R270): the oldest member with a detector pass not yet decoded. -/
def execOtfDecodeDone (n : Nat) (s : State) : Host.Outcome State Fault Refusal :=
  s.onBay n fun s =>
    let todo := fun (m : Member) => m.framed && !m.done && decide (m.decoded < m.passes)
    match (s.bay n).reading.frames.find? fun f => f.started && f.members.any todo with
    | none => s
    | some f => match f.members.find? todo with
      | none => s
      | some m =>
        let m1 := m.otf (min 7 (s.get (R.DEC_CTL.OFFSET n))) (s.acting (R.DEC_CTL.OTF_ITER n) 1 6) (min 2 (s.get (R.DEC_CTL.OTF_XCH n)) + 1)
        let f1 := { f with members := f.members.map fun x => if x.beam = m.beam then m1 else x }
        let s1 := s.onFrames n fun l => l.map fun g => if g.at_ = f.at_ then f1 else g
        if m1.done then
          (if m1.verify then s1.verifyEnd n m1 else s1.otfEnd n f1 m1).dropDone n
        else s1

/-! ## SERVO frames (R67, R146, R148, R151, R154, R162, R164) -/

/-- The focus input of R146 in Q0.31; the quotient is one of the two neighbours where it is not exact. -/
def State.focusInput (s : State) (n : Nat) (fe sum : Int) : Int × State :=
  let m := max sum (s.getS (R.FOC_LOSS.SUM_LOSS n))
  if m ≤ 0 then (0, s)
  else
    let (q, s1) := s.roundOpen (fe * s.getS (R.FOC_NORM.NORM n) * 65536) m.toNat
    (satQ31 (satQ31 q - s1.getS (R.FT_BIAS.FOC_BIAS n) * 65536), s1)

/-- The slope of a zero crossing between two values of FE_C: 1 rising, −1 falling, 0 none. -/
def crossing (a b : Int) : Int := if a < 0 ∧ 0 ≤ b then 1 else if 0 < a ∧ b ≤ 0 then -1 else 0

/-- The ramp of R151 steps 3 and 4: one focus sample further; its drive in Q0.31. -/
def State.rampDrive (s : State) (n : Nat) : Int × State :=
  let f := (s.bay n).focus
  let lo := s.getS (R.FOC_SRCH.SRCH_LO n) * 65536
  let hi := s.getS (R.FOC_SRCH.SRCH_HI n) * 65536
  let k := min f.rampLen (f.ramp + 1)
  let (x, s1) := s.roundOpen ((hi - lo) * k) (max 1 f.rampLen)
  (lo + x, (s1.setMan n 0 (lo + x)).onFocus n fun f => { f with ramp := k })

/-- An S-curve ends (R151 step 3): it qualifies by its amplitude; at most 16 are recorded. -/
def State.curveEnd (s : State) (n : Nat) : State :=
  s.onFocus n fun f =>
    let g := { f with inCurve := false, curveZero := none }
    match f.curveZero with
    | some (d, sl) =>
      let amp := f.curveMax - f.curveMin
      if f.inCurve ∧ s.getS (R.FOC_LVL.SC_MIN n) ≤ amp ∧ f.curves < 16 then
        if f.bestAmp < amp ∨ f.curves = 0 then { g with curves := f.curves + 1, bestAmp := amp, bestDrive := d, bestSlope := sl }
        else { g with curves := f.curves + 1 }
      else g
    | none => g

/-- A sample of the sweep (R151 step 3). -/
def State.sweepSample (s : State) (n : Nat) (fe sum : Int) : State :=
  let (d, s1) := s.rampDrive n
  if s.getS (R.FOC_LVL.SUM_ON n) ≤ sum then
    let s2 := s1.onFocus n fun f =>
      if f.inCurve then
        let sl := crossing f.prevFe fe
        { f with curveMin := min f.curveMin fe, curveMax := max f.curveMax fe,
                 curveZero := if f.curveZero = none ∧ sl ≠ 0 then some (d, sl) else f.curveZero }
      else { f with inCurve := true, curveMin := fe, curveMax := fe, curveZero := none }
    if (s2.bay n).focus.rampLen ≤ (s2.bay n).focus.ramp then s2.curveEnd n else s2
  else s1.curveEnd n

/-- A sample of the capture (R151 step 4): focus closes at the crossing. -/
def State.captureSample (s : State) (n : Nat) (fe sum : Int) : State :=
  let (d, s1) := s.rampDrive n
  let f := (s1.bay n).focus
  let span := 65536 * (s1.getS (R.FOC_SRCH.SRCH_HI n) - s1.getS (R.FOC_SRCH.SRCH_LO n))
  if s.getS (R.FOC_LVL.SUM_ON n) ≤ sum ∧ crossing f.prevFe fe = f.bestSlope ∧ f.bestDrive * 32 - span < d * 32 then
    ((s1.setAuto n 0 true).put (R.FT_STAT.FOCUS n) 2).onFocus n fun f => { f with acq := .settle }
  else s1

/-- The brake of a layer jump (R154 step 5). -/
def State.jumpBrake (s : State) (n : Nat) : State :=
  let f := (s.bay n).focus
  let amp : Int := s.get (R.LJ_BRAKE.AMP n) * 65536
  (s.setMan n 0 (satQ31 (f.jumpBase - f.jumpDir * amp))).onFocus n fun f => { f with jump := .brake }

/-- What a focus sample brings a layer jump (R154 steps 4 to 7, R155). -/
def State.jumpSample (s : State) (n : Nat) (fe sum : Int) : State :=
  let f := (s.bay n).focus
  let on := decide (s.getS (R.FOC_LVL.SUM_ON n) ≤ sum)
  match f.jump with
  | .leaving => if on then s else s.onFocus n fun f => { f with jump := .arriving }
  | .arriving => if on then s.jumpBrake n else s
  | .close =>
    if on && crossing f.prevFe fe == f.jumpDir * f.bestSlope then
      (s.setAuto n 0 true).onFocus n fun f => { f with jump := .settle }
    else s
  | .settle =>
    if on then s
    else
      let (x, s1) := s.fresh 8
      s1.jumpFail n x
  | _ => s

/-- Focus loss (R162): SUM_C below SUM_LOSS on LOSS_N samples while focus is automatic, outside a layer jump and a defect hold. -/
def State.lossSample (s : State) (n : Nat) (sum : Int) : State :=
  let f := (s.bay n).focus
  if !s.bitOf (R.SRV_CTL.AUTO n) 0 || f.jump != .off || s.on (R.SRV_STAT.DEF_HOLD n) then s.onFocus n fun f => { f with lossRun := 0 }
  else
    let run := if sum < s.getS (R.FOC_LOSS.SUM_LOSS n) then f.lossRun + 1 else 0
    let s1 := s.onFocus n fun f => { f with lossRun := run }
    if run = s.acting (R.FOC_LOSS.LOSS_N n) 1 255 then
      (((s1.endGateRun n 4).count (R.FT_COUNT.FOC_LOSS n) 1).recordFocus n 0x0502 [ofInt 16 sum]).enterRecovery n 0x0502 false
        (s1.get (R.FT_STAT.LAYER n))
    else s1

/-- A sample of the ramp to zero (R164): the manual outputs of focus, tracking and tilt. -/
def State.rampOffSample (s : State) (n : Nat) : State :=
  match (s.bay n).servo.rampOff with
  | none => s
  | some k =>
    let step := fun (s : State) (j : Nat) =>
      let (x, s1) := s.roundOpen (s.getS (R.SRV_MAN.Q n j) * ((k - 1 : Nat) : Int)) (max 1 k)
      (s1.setMan n j x).loopOutput n j x
    (((step s 0 |> fun s => step s 1) |> fun s => step s 2)).onServo n fun v => { v with rampOff := if k ≤ 1 then none else some (k - 1) }

/-- SERVO_FRAME_RECEIVE (R67): loop samples, then the focus stage under way. -/
def execServoFrameReceive (n : Nat) (f : UpFrame) (s : State) : Host.Outcome State Fault Refusal :=
  s.onBay n fun s =>
    let s0 := s.takeFrame n 0x02 f
    if !frameGood 0x02 f then s0
    else
      let fe := toInt 16 (UpFrame16 f 0)
      let sum := toInt 16 (UpFrame16 f 3)
      let tilt := toInt 16 (UpFrame16 f 6) * 65536
      let (x, s1) := s0.focusInput n fe sum
      let s2 := (s1.offerSample n 0 ⟨some x, 0, true⟩).onServo n fun v => { v with tiltSum := v.tiltSum + tilt, tiltNum := v.tiltNum + 1 }
      let s3 := match (s2.bay n).focus.acq with
        | .sweep => s2.sweepSample n fe sum
        | .capture => s2.captureSample n fe sum
        | .settle => if sum < s2.getS (R.FOC_LVL.SUM_ON n) then s2.acqFail n 5 else s2
        | _ => s2
      let s4 := (((s3.jumpSample n fe sum).lossSample n sum).rampOffSample n)
      s4.onFocus n fun g => { g with prevFe := fe, prevSum := sum }

end Sys2Proof.Machine
end

