-- ==== Sys2Proof/Machine/Porter.lean ====
section
/-!
DEFINITION. Porter (13_host_rings.md): doorbell fetches (R343), submit rings and the checks of a waybill (R345 to R349, R371 to
R373), receipt rings (R351 to R354), DMA halts (R356 to R358), interrupts (R359) and bus mastering (R340).
-/

namespace Sys2Proof.Machine

/-! ## Ring arithmetic (R345, R351) -/

/-- Size of a submit ring. -/
def State.subSize (s : State) (r : Nat) : Nat := s.acting (R.SUB_CFG.SIZE_M1 r) 15 65535 + 1

/-- Size of a receipt ring. -/
def State.rcpSize (s : State) (r : Nat) : Nat := s.acting (R.RCP_CFG.SIZE_M1 r) 15 65535 + 1

/-- Credit of a receipt ring (R351). -/
def State.credit (s : State) (r : Nat) : Int :=
  let size := s.rcpSize r
  (size : Int) - 1 - ((s.get (R.RCP_TAIL.TAIL r) + size - s.get (R.RCP_HEAD.HEAD r) % size) % size : Nat) - s.get (R.RCP_STAT.RESERVED r)

/-- The staging side of a submit ring. -/
def State.sub (s : State) (r : Nat) : SubRing := Sparse.get {} s.subs r

/-- Replace it. -/
def State.setSub (s : State) (r : Nat) (x : SubRing) : State := { s with subs := Sparse.putNorm {} s.subs r x }

/-- Pending receipts of a ring since its last message (R359). -/
def State.pendingOf (s : State) (r : Nat) : Nat := (Sparse.get {} s.rcps r).pendingCount

/-- Set them. -/
def State.setPendingOf (s : State) (r k : Nat) : State := { s with rcps := Sparse.putNorm {} s.rcps r ⟨k⟩ }

/-- Signal Porter's event vector (R360). -/
def State.porterEvent (s : State) : State := s.signal (s.get R.PORTER_CTL.EVT_VECTOR)

/-- Change Porter's hidden state. -/
def State.onPorter (s : State) (f : Porter → Porter) : State := { s with porter := f s.porter }

/-- Whether Porter is busy (R343). -/
def State.porterBusy (s : State) : Bool :=
  s.porter.newTail || !s.units.isEmpty || s.bays.any fun e => !e.2.tags.isEmpty || !e.2.waiting.isEmpty

/-- Show it (R365). -/
def State.showBusy (s : State) : State := s.putB R.PORTER_STAT.BUSY s.porterBusy

/-! ## DMA channels (R355 to R358) -/

/-- Channels that the variant has (R355, R4). -/
def State.channelPresent (s : State) (c : Nat) : Bool :=
  if c < 128 then s.bayPresent c
  else if c ≤ 384 then true
  else if c = 385 then s.variant.stripe
  else if c = 386 then true
  else if c ≤ 388 then s.variant.fabric
  else false

/-- Whether a channel is halted. -/
def State.channelHalted (s : State) (c : Nat) : Bool := s.get (R.HALT_W0.CAUSE c) != 0

/-- The Caddy requester of a channel (R463). -/
def channelRequester (c : Nat) : Nat := if c < 128 then c else if c = 385 then 160 else if c = 386 then 161 else if c < 385 then 164 else c - 387 + 162

/-- Halt a channel (R356 item 1, R357): its record, the summary bit, the ledger and the event vector. -/
def State.haltChannel (s : State) (c cause sring cid addr : Nat) (bufs : List Nat) : State :=
  let s1 := ((((s.put (R.HALT_W0.CAUSE c) cause).put (R.HALT_W0.SRING c) sring).put (R.HALT_W0.CID c) cid).put (R.HALT_ADDR_LO.ADDR c)
    (addr % 2 ^ 32)).put (R.HALT_ADDR_HI.ADDR c) (addr / 2 ^ 32)
  let s2 := s1.setBitOf (R.DMA_HALT_SUM.HALTED (c / 32)) (c % 32) true
  let s3 := if 128 ≤ c ∧ c < 384 then s2.raise (R.SUB_STAT.HALTED (c - 128)) else if c = 384 then s2.raise R.PORTER_STAT.DB_HALT else s2
  (({ s3 with channels := Sparse.putNorm {} s3.channels c ⟨bufs⟩ }).record srcPorter 0x0C03 [c, cause, cid, addr]).porterEvent

/-- Clear a halt: its record and bits (R358, R341). -/
def State.unhalt (s : State) (c : Nat) : State :=
  let s1 := ((((s.zero (R.HALT_W0.CAUSE c)).zero (R.HALT_W0.SRING c)).zero (R.HALT_W0.CID c)).zero (R.HALT_ADDR_LO.ADDR c)).zero
    (R.HALT_ADDR_HI.ADDR c)
  let s2 := s1.setBitOf (R.DMA_HALT_SUM.HALTED (c / 32)) (c % 32) false
  let s3 := if 128 ≤ c ∧ c < 384 then s2.zero (R.SUB_STAT.HALTED (c - 128)) else if c = 384 then s2.zero R.PORTER_STAT.DB_HALT else s2
  let bufs := (Sparse.get ({} : Channel) s3.channels c).heldBufs
  (bufs.foldl (fun (s : State) p => s.freePtr (channelRequester c) p) { s3 with channels := s3.channels.erase c }).caddyServe

/-- End what a halt fails (R356 item 2): a write goes on with its committed sectors; any other command ends at once. -/
def State.haltCommand (s : State) (c id status : Nat) : State :=
  if c < 128 then
    match s.tag? c id with
    | none => s
    | some t =>
      if t.wb.opcode = Op.WRITE then
        let s1 := ((s.bay c).writing.run.filter fun y => y.tag == id && y.phase == .waiting).foldl (fun s y => s.dropSector c y) s
        (s1.stopTag c id status).onTag c id fun t => { t with stop := some status }
      else if t.writes ∧ (s.runOf c id) ≠ [] then s.onTag c id fun t => { t with stop := some status }
      else (s.endWork c id).endTag c t status
  else match s.unit? id with
    | some u => s.endUnit u status u.index u.done
    | none => s

/-- The TABLE command of a number that uses a submit ring's channel. -/
def State.tableOn (s : State) (c id : Nat) : Option Cmd :=
  (s.unit? id).filter fun u => (u.wb.opcode == Op.TABLE_LOAD || u.wb.opcode == Op.TABLE_READ) && c == 128 + u.sring

/-- SRING and CID of the command a channel serves, for its record. -/
def State.servedBy? (s : State) (c id : Nat) : Nat × Nat :=
  match (if c < 128 then s.tag? c id else if c ≤ 384 then s.tableOn c id else s.unit? id) with
  | some t => (t.sring, t.wb.cid)
  | none => (0xFF, 0xFFFF)

/-- A channel halts on a failing transfer (R356, R354): `id` is the tag or unit command it served. -/
def State.channelFail (s : State) (c cause addr id : Nat) (bufs : List Nat) : State :=
  if !s.channelPresent c || s.channelHalted c then s
  else
    let (r, cid) := s.servedBy? c id
    let s1 := s.haltChannel c cause r cid addr bufs
    if 128 ≤ c ∧ c < 384 then
      match s1.tableOn c id with
      | some u => s1.endUnit u (if cause = 5 then ST.DMA_UNCORR else ST.HOST_DMA) u.index u.done
      | none => s1.setSub (c - 128) { s1.sub (c - 128) with reading := 0 }
    else if c = 384 then s1.onPorter fun p => { p with fetching := false }
    else s1.haltCommand c id (if cause = 5 then ST.DMA_UNCORR else ST.HOST_DMA)

/-! ## Doorbell fetches (R342, R343) -/

/-- Start a fetch of the doorbell page, if Porter may fetch. -/
def State.doorbellFetch (s : State) : State :=
  if !s.on R.PORTER_CTL.ENABLE || s.get R.MODE_STAT.MODE == 5 || s.on R.PORTER_STAT.DB_HALT then s
  else if s.porter.fetching then s
  else (s.onPorter fun p => { p with fetching := true }).emit
    (.hostRead 384 (s.get R.DB_BASE_LO.ADDR * 4096 + 2 ^ 32 * s.get R.DB_BASE_HI.ADDR) 1024)

/-- DOORBELL_WAKE (R343): a write of `WAKE`; during a fetch it causes one further fetch. -/
def execDoorbellWake (s : State) : Host.Outcome State Fault Refusal :=
  .next (if s.porter.fetching then s.onPorter fun p => { p with again := true } else s.doorbellFetch)

/-- DOORBELL_POLL_TIMER (R343, R361): a poll joins a fetch in progress; an interval of 0 disables it. -/
def execDoorbellPollTimer (s : State) : Host.Outcome State Fault Refusal :=
  .next (if s.get (if s.porterBusy then R.POLL.BUSY else R.POLL.IDLE) = 0 then s else s.doorbellFetch)

/-- Read the waybills a ring's turn allows (R346): up to BURST, at most 8 staged, one request for each run of slots. -/
def State.readRing (s : State) (r : Nat) : State :=
  let x := s.sub r
  let size := s.subSize r
  let have_ := x.staged.length + x.reading
  let next := (s.get (R.SUB_HEAD.HEAD r) + have_) % size
  let avail := (s.get (R.SUB_TAIL.TAIL r) + size - next) % size
  let k := min (min (8 - have_) avail) (s.acting (R.SUB_CFG.BURST r) 1 64)
  if !s.on (R.SUB_CFG.EN r) || s.on (R.SUB_STAT.HALTED r) || s.on (R.SUB_STAT.STALLED r) || x.noTail || 0 < x.reading || k = 0 then s
  else
    let base := s.get (R.SUB_BASE_LO.ADDR r) * 4096 + 2 ^ 32 * s.get (R.SUB_BASE_HI.ADDR r)
    let k1 := min k (size - next)
    let s1 := s.emit (.hostRead (128 + r) (base + 64 * next) (64 * k1))
    let s2 := if k1 < k then s1.emit (.hostRead (128 + r) base (64 * (k - k1))) else s1
    (s2.setSub r { x with reading := k }).onPorter fun p => { p with turn := (r + 1) % 256 }

/-- Read waybills of the rings in round-robin order (R346). -/
def State.readRings (s : State) : State :=
  if !s.on R.PORTER_CTL.ENABLE || s.get R.MODE_STAT.MODE == 5 || s.on R.PORTER_STAT.DB_HALT then s
  else (List.range 256).foldl (fun t i => t.readRing ((s.porter.turn + i) % 256)) s

/-- Take a fetched tail (R343, R354); a restarted ring is read again from here on (R358). -/
def State.takeTail (s : State) (r tail : Nat) : State :=
  if !s.on (R.SUB_CFG.EN r) || s.on (R.SUB_STAT.HALTED r) then s
  else
    let s1 := if (s.sub r).noTail then s.setSub r { s.sub r with noTail := false } else s
    if s.subSize r ≤ tail then
      s1.haltChannel (128 + r) 6 0xFF 0xFFFF (s.get R.DB_BASE_LO.ADDR * 4096 + 2 ^ 32 * s.get R.DB_BASE_HI.ADDR + 2 * r) []
    else if s.get (R.SUB_TAIL.TAIL r) = tail then s1
    else (s1.put (R.SUB_TAIL.TAIL r) tail).onPorter fun p => { p with newTail := true }

/-- Take a fetched receipt head (R354). -/
def State.takeHead (s : State) (r head : Nat) : State :=
  if !s.on (R.RCP_CFG.EN r) && !s.on (R.RCP_CFG.DRAINING r) then s
  else
    let size := s.rcpSize r
    let old := s.get (R.RCP_HEAD.HEAD r)
    let written := (s.get (R.RCP_TAIL.TAIL r) + size - old % size) % size
    if head < size ∧ (head + size - old % size) % size ≤ written then s.put (R.RCP_HEAD.HEAD r) head
    else if s.on (R.RCP_STAT.BAD_HEAD r) then s
    else (s.raise (R.RCP_STAT.BAD_HEAD r)).record srcPorter 0x0C02 [r, head]

/-- DOORBELL_FETCH_DONE (R343): the 256 tails and 256 heads of the page. -/
def execDoorbellFetchDone (tails heads : List Nat) (s : State) : Host.Outcome State Fault Refusal :=
  .next (
    if !s.porter.fetching then s
    else
      let s1 := s.onPorter fun p => { p with fetching := false, again := false, newTail := false }
      let s2 := (List.range 256).foldl (fun s r => (s.takeTail r (tails.getD r 0)).takeHead r (heads.getD r 0)) s1
      let s3 := s2.readRings.showBusy
      if s.porter.again then s3.doorbellFetch else s3)

/-- WAYBILL_READ_DONE (R346): the slots of a ring that were asked for arrive in Porter's staging area. -/
def execWaybillReadDone (r : Nat) (wbs : List Waybill) (s : State) : Host.Outcome State Fault Refusal :=
  .next (
    let x := s.sub r
    let new := wbs.take x.reading
    let slot := fun (i : Nat) => (s.get (R.SUB_HEAD.HEAD r) + x.staged.length + i) % s.subSize r
    s.setSub r { staged := x.staged ++ new.zipIdx.map fun (w, i) => (slot i, w), reading := x.reading - new.length })

/-! ## The checks of a waybill (R349, R371 to R373) -/

/-- Whether bytes `lo` to `hi` − 1 of a waybill's PARAM are zero. -/
def paramZero (w : Waybill) (lo hi : Nat) : Bool := ((w.param.drop (lo - 32)).take (hi - lo)).all (· == 0)

/-- Opcode flag bits defined for an opcode, as a mask of bits 7:4. -/
def flagMask (op : Nat) : Nat :=
  if op = Op.CLOSE_EXTENT then 0x30
  else if [Op.MOUNT, Op.UNMOUNT, Op.READ, Op.WRITE, Op.VERIFY, Op.FLUSH, Op.MEDIA_SCAN, Op.PARTITION_CREATE, Op.FIXITY].contains op then 0x10
  else 0

/-- Data locator forms that an opcode allows (R371, R422, R430, R538). -/
def dformOk (w : Waybill) : Bool :=
  let op := w.opcode
  if op = Op.READ ∨ op = Op.WRITE then 1 ≤ w.dform && decide (w.dform ≤ 3)
  else if op = Op.TABLE_LOAD ∨ op = Op.TABLE_READ then w.dform == 1 || w.dform == 2
  else if op = Op.STRIPE_ENCODE ∨ op = Op.STRIPE_REBUILD then w.dform == 1
  else if op = Op.FIXITY ∨ op = Op.FABRIC_SEND then if w.field 33 1 = 1 ∧ op = Op.FIXITY then w.dform == 0
    else if w.field 32 1 = 1 ∧ op = Op.FABRIC_SEND then w.dform == 0 else w.dform == 1 || w.dform == 2
  else if isCustomerOp op then decide (w.dform ≤ 3)
  else w.dform == 0

/-- Whether the reserved PARAM bytes of an opcode are zero (R382 to R397, R423, R430, R538). -/
def paramOk (w : Waybill) : Bool :=
  let op := w.opcode
  if op = Op.MOUNT then paramZero w 36 48
  else if op = Op.UNMOUNT ∨ op = Op.FLUSH then paramZero w 32 64
  else if op = Op.READ ∨ op = Op.WRITE ∨ (op = Op.VERIFY ∧ !w.flag4) then paramZero w 56 64
  else if op = Op.VERIFY then paramZero w 33 64
  else if op = Op.CLOSE_EXTENT then paramZero w 34 36 && paramZero w 48 64
  else if op = Op.MEDIA_SCAN then paramZero w 32 34 && paramZero w 35 36 && paramZero w 44 64
  else if op = Op.PARTITION_CREATE then true
  else if op = Op.PARTITION_RETIRE then paramZero w 34 64
  else if op = Op.KEY_BIND then paramZero w 36 40 && paramZero w 48 64
  else if op = Op.TABLE_LOAD ∨ op = Op.TABLE_READ then paramZero w 34 36 && paramZero w 52 64
  else if op = Op.STRIPE_ENCODE ∨ op = Op.STRIPE_REBUILD then paramZero w 35 36
  else if op = Op.FIXITY then paramZero w 34 40
  else if op = Op.FABRIC_SEND then paramZero w 37 40
  else if op = Op.MODE then paramZero w 34 36 && paramZero w 40 64
  else true

/-- A FIX_SEL and its FIX_ADDR agree (R386). -/
def fixOk (sel addr : Nat) : Bool := decide (sel ≤ 3) && ((sel == 0) == (addr == 0))

/-- Whether the fields of an opcode lie in their ranges (R371, R382 to R397). -/
def State.fieldsOk (s : State) (w : Waybill) : Bool :=
  let op := w.opcode
  let noReport := isReadClass op || isCustomerOp op || (w.raddr == 0 && w.rcap == 0)
  let early := op == Op.WRITE || isCustomerOp op || !w.early
  let ladder := decide (w.field 34 1 % 8 ≤ 5) && w.field 34 1 / 8 % 16 == 0
  let count := decide (1 ≤ w.field 36 4) && decide (w.field 36 4 ≤ 65536)
  let part := decide (w.field 32 2 < 64)
  let length := fun (hi : Nat) => w.field 48 4 % 256 == 0 && decide (256 ≤ w.field 48 4) && decide (w.field 48 4 ≤ hi)
  let dramKind := w.field 40 8 % 256 == 0 && decide (w.field 40 8 < 2 ^ 40) && length (2 ^ 30)
  noReport && early && w.raddr % 16 == 0 &&
  (if op = Op.MOUNT then w.field 32 4 == 0xFFFFFFFF || decide (w.field 32 4 < min 1048576 (s.get R.MT_COUNT.COUNT))
   else if op = Op.READ then part && ladder && count && fixOk (w.field 35 1) (w.field 48 8)
   else if op = Op.WRITE then part && w.field 34 1 == 0 && count && fixOk (w.field 35 1) (w.field 48 8)
   else if op = Op.VERIFY then (if w.flag4 then decide (w.field 32 1 < 64)
     else part && ladder && count && w.field 35 1 == 0 && w.field 48 8 == 0)
   else if op = Op.CLOSE_EXTENT then part && decide (1 ≤ w.field 36 4) && decide (w.field 36 4 ≤ 256)
   else if op = Op.MEDIA_SCAN then ladder && decide (1 ≤ w.field 36 4) && decide (w.field 36 4 ≤ 4110112)
   else if op = Op.PARTITION_CREATE then decide (1 ≤ w.field 36 4) && (w.flag4 || w.field 40 8 == 0)
   else if op = Op.PARTITION_RETIRE ∨ op = Op.KEY_BIND then part
   else if op = Op.TABLE_LOAD then w.field 32 1 ≤ 1 && w.field 33 1 == 0 && w.field 36 4 == 0 && dramKind && (w.field 32 1 == 0 || (w.field 48 4 == 131072 && w.field 40 8 % 131072 == 0))
   else if op = Op.TABLE_READ then (if w.field 32 1 = 1 then decide (w.field 33 1 < 128) && psaOk (w.field 36 4) && w.field 40 8 == 0 && length 4194304
     else w.field 32 1 == 0 && w.field 33 1 == 0 && w.field 36 4 == 0 && dramKind)
   else if op = Op.MODE then decide (w.field 32 1 ≤ 5) && decide (w.field 33 1 ≤ 1) && (w.field 33 1 == 1 || w.field 36 4 == 0)
   else true)

/-- The data length of a command whose opcode fixes it (R371). -/
def dataLength (w : Waybill) : Option Nat :=
  if w.opcode = Op.READ ∨ w.opcode = Op.WRITE then some (4096 * w.field 36 4)
  else if w.opcode = Op.TABLE_LOAD ∨ w.opcode = Op.TABLE_READ then some (w.field 48 4)
  else none

/-- Entries of the segments of a scatter list, followed in order (R348): none where an entry is malformed.  `k` entries are
left in the present segment. -/
def walkList : Nat → Nat → List (Nat × Nat × Nat) → Option (List (Nat × Nat))
  | 0, _, _ => some []
  | _, 0, _ => some []
  | _, _ + 1, [] => none
  | fuel + 1, k + 1, (a, l, ctl) :: rest =>
    if ctl = 2 ^ 31 then
      if k = 0 ∧ a % 16 = 0 then walkList fuel (l % 65536) rest else none
    else if ctl = 0 ∧ a % 4 = 0 ∧ l % 4 = 0 ∧ 4 ≤ l ∧ l ≤ 16777216 then (walkList fuel k rest).map fun m => (a, l) :: m
    else none

/-- The data locator of a waybill as pieces of host memory; `list` is its scatter list as read (R348).  None where it is
malformed. -/
def locate (w : Waybill) (list : List (Nat × Nat × Nat)) : Option (List (Nat × Nat)) :=
  match w.dform with
  | 1 => if w.daddr % 4 = 0 then some [(w.daddr, w.dlen)] else none
  | 2 => if w.daddr % 16 = 0 ∧ list.length ≤ 65536 then walkList 65537 w.dlen list else none
  | _ => some []

/-- Whether a locator has the length its command needs. -/
def locLength (w : Waybill) (l : List (Nat × Nat)) : Bool :=
  match dataLength w with
  | some n => w.dform == 3 || (l.map (·.2)).sum == n
  | none => true

/-- Whether the mode accepts an opcode (R372). -/
def modeAccepts (m op : Nat) (w : Waybill) : Bool :=
  if op = Op.MODE then decide (m ≤ 4)
  else if op = Op.TABLE_LOAD then decide (m ≤ 3)
  else if op = Op.TABLE_READ then if w.field 32 1 = 1 then m == 2 else decide (m ≤ 4)
  else m == 1 || m == 2

/-- The sequencer that runs a customer opcode (R398, R486): the bay's, or that of `SEQ_UNIT`. -/
def State.customSeq (s : State) (w : Waybill) : Nat := if w.bay < 128 then s.get (R.BAY_SEQ.CUR_SEQ w.bay) else s.get R.SEQ_UNIT.SEQ

/-- Whether an opcode is defined: for a customer opcode, whether its hook is loaded (R398, R501). -/
def State.opDefined (s : State) (w : Waybill) : Bool :=
  isBayOp w.opcode || isUnitOp w.opcode || (isCustomerOp w.opcode && s.hookLoaded (s.customSeq w) (w.opcode - 0xE0 + 16))

/-- Whether an opcode needs a unit the variant lacks (R4, R5, R6). -/
def State.unitLacks (s : State) (w : Waybill) : Bool :=
  let op := w.opcode
  ((op == Op.STRIPE_ENCODE || op == Op.STRIPE_REBUILD) && !s.variant.stripe) || (op == Op.FABRIC_SEND && !s.variant.fabric)
    || (op == Op.KEY_BIND && !s.variant.crypto) || (w.dform == 3 && !s.variant.fabric)

/-- The first check of R349, R372 and R371 that a waybill fails, by its status; 0 where all pass. -/
def State.waybillCheck (s : State) (w : Waybill) : Nat :=
  let op := w.opcode
  let bayOp := isBayOp op || (isCustomerOp op && w.bay != 0xFF)
  if !s.opDefined w then ST.BAD_OPCODE
  else if bitAt w.flags 3 || (!isCustomerOp op && w.flags / 16 * 16 % 256 != (w.flags / 16 * 16 &&& flagMask op)) || 4 ≤ w.prio || !dformOk w
      || (if bayOp then decide (128 ≤ w.bay) else w.bay != 0xFF) || (w.dform == 0 && w.daddr != 0) || !paramOk w then ST.BAD_FIELD
  else if (bayOp && !s.bayPresent w.bay) || s.unitLacks w then ST.UNIT_ABSENT
  else if !modeAccepts (s.get R.MODE_STAT.MODE) op w then ST.MODE
  else if !s.fieldsOk w then ST.BAD_FIELD
  else if op = Op.MEDIA_SCAN ∧ 4110112 < w.field 40 4 + w.field 36 4 then ST.RANGE
  else if w.dform = 3 then (if w.daddr / 2 ^ 22 % 1024 ≠ 0 then ST.BAD_FIELD else s.fabCheck (bitsAt w.daddr 20 2) (w.daddr % 65536))
  else 0

/-- What a command whose channel serves it on admission answers for its locator (R348): 0, or BAD_FIELD.  The list of a READ
or WRITE is read when its range lock is granted. -/
def locStatus (w : Waybill) (loc : Option (List (Nat × Nat))) : Nat :=
  if w.opcode = Op.READ ∨ w.opcode = Op.WRITE then 0
  else match loc with
    | none => ST.BAD_FIELD
    | some l => if locLength w l then 0 else ST.BAD_FIELD

/-- Whether the bay's state admits a bay command (R373): 0, or the status it refuses with. -/
def State.bayCheck (s : State) (n op : Nat) : Nat :=
  let b := s.bayState n
  let disc := decide (BS.SPINUP ≤ b) && decide (b ≤ BS.RECOVERY)
  let mounted := (s.bay n).mounted && !(s.bay n).disc.suspend
  if b = BS.DRAINING then ST.BAY_WITHDRAWN
  else if op = Op.MOUNT then (if b = BS.EMPTY ∧ !(s.bay n).mounted then 0 else ST.BAY_STATE)
  else if op = Op.FLUSH then (if b = BS.EMPTY || disc then 0 else ST.BAY_STATE)
  else if op = Op.TABLE_READ then
    (if !mounted then ST.NOT_MOUNTED else if b = BS.READY ∨ b = BS.ACTIVE then 0 else ST.BAY_STATE)
  else if !disc then (if b = BS.EMPTY then ST.NOT_MOUNTED else ST.BAY_STATE)
  else if !mounted then ST.NOT_MOUNTED
  else 0

/-! ## Tags and range locks (R380, R381) -/

/-- The last disc slot number. -/
def lastSlot : Nat := 263047167

/-- The span a command locks (R380, R502); `none` where it locks nothing. -/
def State.spanOf (s : State) (n : Nat) (w : Waybill) : Option (Nat × Nat) :=
  let op := w.opcode
  let part := (s.bay n).disc.dir[w.field 32 2]?
  let first := match part with | some p => p.firstExt | none => 0
  let x := fun (psn : Nat) => first + psn / 56
  let psn := w.field 40 8
  let last := psn + w.field 36 4 - 1
  let custom := if isCustomerOp op then s.customSpan (s.customSeq w) (op - 0xE0) else 0
  if op = Op.FLUSH ∨ custom = 3 then none
  else if 0 < custom then
    if part.isNone then some (0, lastSlot)
    else some (slotNumber (x psn) (psn % 56), if custom = 1 then slotNumber (x last) (last % 56) else slotNumber (x last) 63)
  else if part.isNone && [Op.READ, Op.WRITE, Op.VERIFY, Op.CLOSE_EXTENT].contains op then some (0, lastSlot)
  else if op = Op.READ ∨ (op = Op.VERIFY ∧ !w.flag4) then some (slotNumber (x psn) (psn % 56), slotNumber (x last) (last % 56))
  else if op = Op.WRITE then some (slotNumber (x psn) (psn % 56), slotNumber (x last) 63)
  else if op = Op.CLOSE_EXTENT then some (slotNumber (x psn) 0, slotNumber (x psn + w.field 36 4 - 1) 63)
  else if op = Op.PARTITION_CREATE then some (slotNumber (w.field 32 4) 0, slotNumber (w.field 32 4 + w.field 36 4 - 1) 63)
  else if op = Op.PARTITION_RETIRE ∨ op = Op.KEY_BIND then
    match part with
    | some p => some (slotNumber p.firstExt 0, slotNumber (p.firstExt + p.extCount - 1) 63)
    | none => some (0, lastSlot)
  else if op = Op.MEDIA_SCAN then some (slotNumber (w.field 40 4) 0, slotNumber (w.field 40 4) 63)
  else some (0, lastSlot)

/-- The lowest free tag of a bay. -/
def State.freeTag (s : State) (n : Nat) : Option Nat := (List.range 64).find? fun t => !(s.bay n).tags.any fun c => c.id == t

/-- Whether the bay has not yet applied a mode proposal (R541), so that new commands wait at it. -/
def State.bayLags (s : State) (n : Nat) : Bool :=
  match s.pendMode with | some p => p.proposal.isSome && p.bays.contains n | none => false

/-- Give a command a tag and its place in the range-lock table. -/
def State.giveTag (s : State) (n t : Nat) (c : Cmd) : State :=
  let b := s.bay n
  let op := c.wb.opcode
  let c1 : Cmd := { c with id := t, span := s.spanOf n c.wb, granted := op == Op.FLUSH,
                           stage := if isCustomerOp op then s.customSpan (s.customSeq c.wb) (op - 0xE0) else c.stage,
                           waits := if op = Op.FLUSH then (b.tags.filter (·.isFlushed)).map (·.id) else [] }
  let s1 := s.setBay n { b with tags := b.tags ++ [c1], arrived := b.arrived ++ [t] }
  let s2 := s1.onTag n t fun c => { c with count := s1.cmdItems n c }
  s2.put (R.SCHED_STAT.QUEUED n) (s2.bay n).tags.length

/-- Move waiting commands into free tags (R346); while the bay moves to another sequencer they wait (R485, R513). -/
def State.fillTags (n : Nat) : Nat → State → State
  | 0, s => s
  | fuel + 1, s =>
    match (s.bay n).waiting, s.freeTag n with
    | c :: rest, some t =>
      if s.bayLags n || (s.bay n).move.isSome then s else State.fillTags n fuel ((s.setBay n { s.bay n with waiting := rest }).giveTag n t c)
    | _, _ => s

/-- Admit a bay command that passed its checks (R346, R373): MOUNT and UNMOUNT begin and end the mount on acceptance. -/
def State.admitBay (s : State) (n : Nat) (c : Cmd) : State :=
  let op := c.wb.opcode
  let s1 := if op = Op.MOUNT then s.setBay n { s.bay n with mounted := true, disc := {} }
    else if op = Op.UNMOUNT then s.setBay n { s.bay n with mounted := false } else s
  State.fillTags n 64 (s1.setBay n { s1.bay n with waiting := (s1.bay n).waiting ++ [c] })

/-- A running number for a unit command. -/
def State.nextUnit (s : State) : Nat := s.units.foldl (fun m c => max m (c.id + 1)) 0

/-- The bay a waybill's admission depends on: the bay named, or that of a raw TABLE_READ. -/
def targetBay (w : Waybill) : Nat := if w.opcode = Op.TABLE_READ ∧ w.field 32 1 = 1 then w.field 33 1 else w.bay

/-- Route a waybill that has been fetched (R346, R349). -/
def State.routeWaybill (s : State) (c : Cmd) (loc : Option (List (Nat × Nat))) : State :=
  let w := c.wb
  let st := s.waybillCheck w
  let l := locStatus w loc
  let raw := w.opcode == Op.TABLE_READ && w.field 32 1 == 1
  if st ≠ 0 then s.refuse c st
  else
    let c1 := { c with loc := loc.getD [], count := waybillItems w }
    if isBayOp w.opcode || raw || (isCustomerOp w.opcode && w.bay != 0xFF) then
      let n := targetBay w
      if raw && !s.bayPresent n then s.refuse c ST.UNIT_ABSENT
      else
        let b := s.bayCheck n w.opcode
        if b ≠ 0 then s.refuse c b
        else if raw && s.bayLags n then s.refuse c ST.BAY_STATE
        else if l ≠ 0 then s.refuse c l
        else s.admitBay n c1
    else if l ≠ 0 then s.refuse c l
    else if isCustomerOp w.opcode ∧ s.seqState (s.get R.SEQ_UNIT.SEQ) ≠ SQ.RUN then s.refuse c ST.MICRO_TRAP
    else { s with units := s.units ++ [{ c1 with id := s.nextUnit }] }

/-- Whether a staged waybill may be admitted (R346, R350): receipt credit, and room in its bay unless it is a unit
command. -/
def State.admissible (s : State) (r : Nat) (w : Waybill) : Bool :=
  let en := s.on (R.RCP_CFG.EN w.rring)
  let ring := if en then w.rring else s.get (R.SUB_CFG.ERR_RRING r)
  let need : Int := if en && w.early then 2 else 1
  let n := w.bay
  let room := isUnitOp w.opcode || !(s.bayPresent n && decide (n < 128)) || decide ((s.bay n).tags.length < 64) || decide ((s.bay n).waiting.length < 64)
  (!s.on (R.RCP_CFG.EN ring) || decide (need ≤ s.credit ring)) && room && !s.on (R.SUB_STAT.HALTED r)

/-- WAYBILL_ADMIT (R346 to R350): the first staged waybill of a ring is admitted, or the ring waits; `list` is its scatter
list as read. -/
def execWaybillAdmit (r : Nat) (list : List (Nat × Nat × Nat)) (s : State) : Host.Outcome State Fault Refusal :=
  .next (
    let x := s.sub r
    match x.staged with
    | [] => s
    | (slot, w) :: rest =>
      if !s.on (R.SUB_CFG.EN r) then s
      else
        let n := targetBay w
        let s0 := if s.bayPresent n then State.fillTags n 64 s else s
        if !s0.admissible r w then s0.raise (R.SUB_STAT.STALLED r)
        else
          let s1 := (((s0.setSub r { x with staged := rest }).zero (R.SUB_STAT.STALLED r)).put (R.SUB_HEAD.HEAD r)
            ((slot + 1) % s0.subSize r)).trace 1 srcPorter 1 (slot + 65536 * r) (w.cid + 65536 * w.opcode) w.bay
          let en := s1.on (R.RCP_CFG.EN w.rring)
          let ring := if en then w.rring else s1.get (R.SUB_CFG.ERR_RRING r)
          let two := en && w.early
          let reserve := fun (s : State) => s.put (R.RCP_STAT.RESERVED ring) (s.get (R.RCP_STAT.RESERVED ring) + (if two then 2 else 1))
          let c : Cmd := { id := 0, wb := w, sring := r, rring := ring, second := two, born := s.ms }
          let s2 := if en then (reserve s1).routeWaybill c (locate w list)
            else if s1.on (R.RCP_CFG.EN ring) then (reserve s1).refuse c ST.BAD_RING
            else ((s1.count R.PORTER_STAT.LOST 1).record srcPorter 0x0C01 [r, slot, w.cid]).porterEvent
          s2.readRings.showBusy)

/-! ## Host reads that fail (R354, R356) -/

/-- The cause of a failed host read (R356). -/
def faultCause : HostFault → Nat | .ur => 1 | .ca => 2 | .poison => 3

/-- HOST_READ_FAIL (R356): on a channel, at an address, for a command; `bufs` are the Caddy buffers of the transfer. -/
def execHostReadFail (c : Nat) (f : HostFault) (addr id : Nat) (bufs : List Nat) (s : State) : Host.Outcome State Fault Refusal :=
  .next (s.channelFail c (faultCause f) addr id bufs)

/-- HOST_READ_CPL_TIMEOUT (R356). -/
def execHostReadCplTimeout (c addr id : Nat) (bufs : List Nat) (s : State) : Host.Outcome State Fault Refusal :=
  .next (s.channelFail c 4 addr id bufs)

/-- DMA_RESTART (R358). -/
def execDmaRestart (c : Nat) (s : State) : Host.Outcome State Fault Refusal :=
  .next (
    if 389 ≤ c || !s.channelHalted c then s.raise R.PORTER_STAT.RST_ERR
    else
      let s1 := s.unhalt c
      if 128 ≤ c ∧ c < 384 then s1.setSub (c - 128) { noTail := true } else s1)

/-! ## Receipts (R351 to R353) and interrupts (R359) -/

/-- The bytes of a receipt (R352). -/
def Receipt.bytes (r : Receipt) (phase : Nat) : List Byte :=
  bytesLE 2 r.cid ++ bytesLE 2 r.status ++ bytesLE 1 r.sring ++ bytesLE 1 r.bay ++ bytesLE 1 r.notes ++ bytesLE 1 r.kind ++
  bytesLE 4 r.index ++ bytesLE 4 r.done ++ bytesLE 8 r.result ++ bytesLE 4 r.rcount ++ bytesLE 4 (r.sqHead + 2 ^ 31 * phase)

/-- A message for a ring (R359): sent, or held in the PBA. -/
def State.ringMessage (s : State) (r : Nat) : State :=
  let v := s.get (R.RCP_CFG.VECTOR r)
  if s.vectorHeld v then s.pbaSet v true else (s.sendMsix v).setPendingOf r 0

/-- Whether the conditions for a message hold (R359). -/
def State.ringDue (s : State) (r : Nat) : Bool :=
  let p := s.pendingOf r
  decide (s.acting (R.RCP_COAL.COUNT r) 1 255 ≤ p) || (decide (1 ≤ p) && s.get (R.RCP_COAL.TIME r) == 0)

/-- RECEIPT_WRITE (R353): the receipt formed first is written, once requests may issue. -/
def execReceiptWrite (s : State) : Host.Outcome State Fault Refusal :=
  .next (
    match s.porter.receipts with
    | [] => s
    | q :: rest =>
      if !s.canIssue then s
      else
        let r := q.ring
        let t := s.get (R.RCP_TAIL.TAIL r)
        let ph := s.get (R.RCP_TAIL.PHASE r)
        let b := q.bytes ph
        let addr := s.get (R.RCP_BASE_LO.ADDR r) * 4096 + 2 ^ 32 * s.get (R.RCP_BASE_HI.ADDR r) + 32 * t
        let s1 := ((s.onPorter fun p => { p with receipts := rest }).emit (.hostWrite addr (b.take 28))).emit (.hostWrite (addr + 28) (b.drop 28))
        let s2 := s1.trace 1 srcPorter 2 (t + 65536 * r) (q.cid + 65536 * q.status) q.bay
        let s3 := if t + 1 = s.rcpSize r then (s2.zero (R.RCP_TAIL.TAIL r)).put (R.RCP_TAIL.PHASE r) (1 - ph) else s2.put (R.RCP_TAIL.TAIL r) (t + 1)
        let s4 := (s3.unreserve r 1).drainRing r
        let quiet := q.noIrq && q.kind == 0
        let s5 := if quiet then s4 else s4.setPendingOf r (s4.pendingOf r + 1)
        let s6 := if !quiet && ((s5.on (R.RCP_COAL.ERR_NOW r) && statusFails q.status) || s5.ringDue r) then s5.ringMessage r else s5
        s6.readRings.showBusy)

/-- COALESCE_TIMER (R359): the oldest pending receipt of a ring reaches TIME. -/
def execCoalesceTimer (r : Nat) (s : State) : Host.Outcome State Fault Refusal :=
  .next (if 1 ≤ s.pendingOf r then s.ringMessage r else s)

/-- Send the messages held for vectors that are masked no longer (R359, R340): one message clears the pending receipts of every
ring that shares the vector. -/
def State.releaseVectors (s : State) : State :=
  (List.range 2048).foldl (fun s v =>
    if s.pbaPending v && !s.vectorHeld v then
      (List.range 256).foldl (fun s r => if s.get (R.RCP_CFG.VECTOR r) = v then s.setPendingOf r 0 else s) ((s.sendMsix v).pbaSet v false)
    else s) s

/-- VECTOR_UNMASK (R359). -/
def execVectorUnmask (how : Unmask) (s : State) : Host.Outcome State Fault Refusal :=
  .next (match how with
    | .vector v => (s.zero (R.MSIX_CTL.MASK v)).releaseVectors
    | .enable => { s with pcie := { s.pcie with msixEnable := true } }.releaseVectors
    | .functionMask => { s with pcie := { s.pcie with funcMask := false } }.releaseVectors)

/-! ## Bus mastering (R340) -/

/-- BUS_MASTER_ENABLE (R340): held requests issue in order, then held messages. -/
def execBusMasterEnable (s : State) : Host.Outcome State Fault Refusal :=
  .next (
    let s1 := { s with pcie := { s.pcie with busMaster := true, d3hot := false } }
    ({ s1 with out := s.heldOut.reverse ++ s1.out, heldOut := [] }).releaseVectors)

/-- BUS_MASTER_ENABLE_CLEAR (R340): no further requests issue. -/
def execBusMasterEnableClear (cause : BusMasterLoss) (s : State) : Host.Outcome State Fault Refusal :=
  .next (match cause with
    | .busMasterEnable => { s with pcie := { s.pcie with busMaster := false } }
    | .d3hot => { s with pcie := { s.pcie with d3hot := true } })

/-! ## Ring enables (R361, R367, R368) -/

/-- SUB_RING_ENABLE (R367): HEAD and TAIL are 0. -/
def execSubRingEnable (r : Nat) (s : State) : Host.Outcome State Fault Refusal :=
  .next (if s.on (R.SUB_CFG.EN r) then s else (((s.raise (R.SUB_CFG.EN r)).zero (R.SUB_HEAD.HEAD r)).zero (R.SUB_TAIL.TAIL r)).setSub r {})

/-- SUB_RING_DISABLE (R361): staged waybills are dropped unfetched. -/
def execSubRingDisable (r : Nat) (s : State) : Host.Outcome State Fault Refusal :=
  .next (((s.zero (R.SUB_CFG.EN r)).zero (R.SUB_STAT.STALLED r)).setSub r {})

/-- RCP_RING_ENABLE (R368): TAIL 0, pass value 1; a ring that drains turns off first. -/
def execRcpRingEnable (r : Nat) (s : State) : Host.Outcome State Fault Refusal :=
  .next (if s.on (R.RCP_CFG.EN r) then s
    else if s.on (R.RCP_CFG.DRAINING r) then s.raise (R.RCP_STAT.CFG_REJ r)
    else ((((s.raise (R.RCP_CFG.EN r)).zero (R.RCP_TAIL.TAIL r)).raise (R.RCP_TAIL.PHASE r)).zero (R.RCP_HEAD.HEAD r)).setPendingOf r 0)

/-- RCP_RING_DISABLE (R361): with receipts reserved the ring drains. -/
def execRcpRingDisable (r : Nat) (s : State) : Host.Outcome State Fault Refusal :=
  .next (if !s.on (R.RCP_CFG.EN r) then s
    else (s.zero (R.RCP_CFG.EN r)).putB (R.RCP_CFG.DRAINING r) (s.get (R.RCP_STAT.RESERVED r) != 0))

end Sys2Proof.Machine
end

