-- ==== Sys2Proof/Machine/Stage.lean ====
section
/-!
DEFINITION. Staging the data of a WRITE (R293, R303, R306), closing its extents (R307), its fixity record and STAGED receipt
(R378, R428), and how a writing command ends (R376, R377, R388).
-/

namespace Sys2Proof.Machine

/-! ## How a command ends (R377) -/

/-- Statuses of the events of R399, and of fabric and buffer failures, that end a command whatever its items. -/
def isEventStatus (st : Nat) : Bool :=
  [ST.BAY_LOST, ST.CURFEW, ST.BAY_FAULT, ST.BAY_WITHDRAWN, ST.MICRO_TRAP, ST.HOST_DMA, ST.DMA_UNCORR, ST.BUFFER_FAULT].contains st
    || st / 256 == 0x50

/-- End a command by R377: the event that stopped it, the failure at INDEX, what stopped it otherwise, or success. -/
def State.endStopped (s : State) (n : Nat) (c : Cmd) : State :=
  let s := s.endWork n c.id
  match c.stop with
  | some st => s.endTag n c (if isEventStatus st then st else if c.failure = 0 then st else c.failure)
  | none => s.endTagNatural n c

/-- End a command that its checks refuse: nothing was read or written. -/
def State.endRefused (s : State) (n : Nat) (c : Cmd) (status : Nat) : State :=
  let s1 := (s.finalReceipt c status 0 0).dropTag n c status
  s1.put (R.SCHED_STAT.QUEUED n) (s1.bay n).tags.length

/-- Sectors of a tag still in a run or queued for relocation. -/
def State.tagWork (s : State) (n t : Nat) : Bool :=
  let w := (s.bay n).writing
  (w.run ++ w.reloc).any fun y => y.tag == t

/-! ## Staging (R293, R303) -/

/-- Extent and position of a sector of a command. -/
def State.itemPos (s : State) (n : Nat) (c : Cmd) (i : Nat) : Nat × Nat := (homeExtent (s.homeOf n c i)).getD (0, 0)

/-- Encode one sector of a WRITE: DATA_CRC, encryption, metadata (R22, R43, R293); none where the bound slot is empty. -/
def State.encodeSector (s : State) (n : Nat) (c : Cmd) (i : Nat) (user : List Byte) : Option (List Byte) :=
  let part := c.wb.field 32 2
  let psn := c.wb.field 40 8 + i
  let keyed := match s.partEntry n c with | some p => bitAt p.flags 0 | none => false
  let m := fun (k : Bool) => (SectorMeta.bytes ⟨part, 2 * b2n k, psn, s.rtc, 1, s.writer, s.homeOf n c i, crc32 user⟩)
  if keyed then (s.keyOf (s.boundSlot n part)).map fun key => xtsEncrypt key psn user ++ m true
  else some (user ++ m false)

/-- The item at which a WRITE stops. -/
def Cmd.lim (c : Cmd) : Nat := c.limit.getD c.count

/-- Stage the next sector of a WRITE from the data that has come; it waits for its extent's parity buffer (R306).  A keyed
sector that finds its slot empty stops the command (R433). -/
def State.stageNext (n t : Nat) : Nat → State → State
  | 0, s => s
  | fuel + 1, s =>
    match s.tag? n t with
    | none => s
    | some c =>
      let i := c.staged.length
      if c.stop.isSome || c.lim ≤ i || c.buf.length < 4096 then s
      else
        let (x, pos) := s.itemPos n c i
        let user := c.buf.take 4096
        if (s.parityOf n x).isNone then s
        else match s.encodeSector n c i user with
          | none => ((s.count R.CRYPTO_CNT.MISSING 1).setItem n t i ST.KEY_MISSING).stopTag n t ST.KEY_MISSING
          | some info =>
            let home := s.homeOf n c i
            let s1 := (s.addParity n x pos info).onWrite n fun w =>
              { w with run := w.run ++ [⟨home, home, 0, 0, t, i, info, 64, false, false, 0, .waiting⟩] }
            State.stageNext n t fuel (s1.setTag n { c with
              staged := c.staged ++ [i], buf := c.buf.drop 4096, hash := if c.wb.field 35 1 = 0 then [] else c.hash ++ user })

/-- Data of a WRITE has come, the next bytes in order. -/
def State.stageData (s : State) (n t : Nat) (data : List Byte) : State :=
  match s.tag? n t with
  | none => s
  | some c => State.stageNext n t (data.length / 4096 + 2) (s.setTag n { c with buf := c.buf ++ data })

/-- DMA_READ_DONE (R303): data of a WRITE arrives in its Caddy buffers. -/
def execDmaReadDone (n t : Nat) (data : List Byte) (s : State) : Host.Outcome State Fault Refusal :=
  s.onBay n fun s => match s.tag? n t with
    | some c => if c.wb.opcode = Op.WRITE ∧ c.stage = 1 ∧ c.wb.dform ≠ 3 then s.stageData n t data else s
    | none => s

/-! ## Extents (R306, R307) -/

/-- The extents of the sectors `0 … k − 1` of a command, in order. -/
def State.extentsOf (s : State) (n : Nat) (c : Cmd) (k : Nat) : List Nat :=
  if k = 0 then [] else
    let a := (s.itemPos n c 0).1
    (List.range ((s.itemPos n c (k - 1)).1 + 1 - a)).map (a + ·)

/-- Whether the reads of a close found an extent's slots written where its buffer lacks them: no data position is left blank. -/
def ParityBuf.filled (p : ParityBuf) (x : Nat) (reads : List (Nat × Nat × PosSeen)) : Bool :=
  (List.range 56).all fun k => bitAt p.mask k || reads.any fun r => r.1 == x && r.2.1 == k && r.2.2 != .blank

/-- Queue the parity sectors of an extent for a command's item (R307); `none`: a needed position could not be read. -/
def State.closeExtent (s : State) (n t i x : Nat) (reads : List (Nat × Nat × PosSeen)) : Option State :=
  (s.parityOf n x).bind fun p => (p.complete x reads).map fun q =>
    s.onWrite n fun w => { w with
      parity := w.parity.map fun r => if r.disc = q.disc ∧ r.x = x then q else r,
      run := w.run ++ paritySectors q x t i }

/-- Ask for the parity buffers that a WRITE's extents lack (R306); `written` says whose parity slots the blank tests found
written.  The first sector of an extent that is closed, or for which OPEN_MAX leaves no buffer, stops the command (R299). -/
def State.openExtents (s : State) (n t : Nat) (written : List Nat) : State :=
  match s.tag? n t with
  | none => s
  | some c =>
    let wanted := fun (s : State) => (s.bay n).writing.parity.length + (s.caddy.waiting.filter fun w => match w.2.2 with | .parity m _ => m == n | _ => false).length
    let stopAt := fun (s : State) (x status : Nat) =>
      match s.tag? n t with
      | some d =>
        let i := ((List.range d.count).find? fun i => (s.itemPos n d i).1 == x).getD 0
        (s.setTag n { d with limit := some i }).setItem n t i status
      | none => s
    (s.extentsOf n c c.count).foldl (fun s x =>
      if match s.tag? n t with | some d => d.limit.isSome | none => true then s
      else if (s.parityOf n x).isSome then s
      else if s.extentClosed n x || written.contains x then stopAt s x ST.MEDIA_CLOSED
      else if s.acting (R.WR_CTL.OPEN_MAX n) 1 64 ≤ wanted s then stopAt s x ST.EXTENT_LIMIT
      else s.caddyRequest n 1 (.parity n x)) s

end Sys2Proof.Machine
end

