-- ==== Sys2Proof/Machine/Fabric.lean ====
section
/-!
DEFINITION. The fabric (19_fabric_rollcall.md): transfers and their frames (R530 to R535), held frames (R542), windows (R532),
ports (R522, R524, R539), and FABRIC_SEND (R538).
-/

namespace Sys2Proof.Machine

/-! ## Port buffers (R463, R522) -/

/-- The Caddy requester of a port. -/
def portId (p : Nat) : Nat := 162 + p

/-- 64 KiB buffers that a port could still be granted. -/
def State.portFree (s : State) (p : Nat) : Nat :=
  let q := s.get (fQuota 1 (portId p))
  let free := (List.range 16).foldl (fun k r =>
    if s.on (R.CADDY_RGN_CFG.EN r) && !s.on (R.CADDY_RGN_CFG.FENCE r) && s.get (R.CADDY_RGN_CFG.CLASS r) == 1
        && bitAt (s.get (R.CADDY_RGN_CFG.USERS r)) (userBit (portId p)) then k + (s.rgnCount r - s.rgnHeld r) else k) 0
  if !s.on R.CADDY_CTL.EN then 0 else if q = 255 then free else min free (q - s.charged 1 (portId p))

/-- Assert priority flow control below 8 free buffers and release it at 16 (R522). -/
def State.pfcCheck (s : State) (p : Nat) : State :=
  let k := s.portFree p
  if !s.portOn p || !s.on R.FAB_NET.PFC_EN then s
  else if k < 8 ∧ !s.fab.pausing.contains p then (s.onFab fun f => { f with pausing := p :: f.pausing }).emit (.pfc p true)
  else if 16 ≤ k ∧ s.fab.pausing.contains p then (s.onFab fun f => { f with pausing := f.pausing.filter (· != p) }).emit (.pfc p false)
  else s

/-- Signal `FAB_CTL.VECTOR` (R547). -/
def State.fabEvent (s : State) : State := s.signal (s.get R.FAB_CTL.VECTOR)

/-! ## The sides of a transfer (R530, R533) -/

/-- Whether this unit sends the data: a PUT's initiator, a GET's responder. -/
def Xfer.sends (x : Xfer) : Bool := x.own != x.get

/-- DATA frames of a transfer. -/
def Xfer.frames (x : Xfer) : Nat := if x.seg = 0 then 0 else (x.len + x.seg - 1) / x.seg

/-- Payload bytes of frame `q`. -/
def Xfer.size (x : Xfer) (q : Nat) : Nat := min x.seg (x.len - q * x.seg)

/-- Whether the bytes of frame `q` are at hand. -/
def Xfer.atHand (x : Xfer) (q : Nat) : Bool := x.addr.isSome || decide (q * x.seg + x.size q ≤ x.data.length)

/-- Blocks of 4,096 bytes below CUM × SEG (R534). -/
def Xfer.blocks (x : Xfer) : Nat := min x.len (x.cum * x.seg) / 4096

/-- Whether the unit holds a frame of a transfer (R542): its timers then stand still. -/
def State.holdsFrame (s : State) (x : Xfer) : Bool :=
  s.fab.held.any fun h =>
    let f := fun (o k : Nat) => ofBytesLE ((h.packet.payload.drop o).take k)
    f 4 2 == x.peer && f 12 4 == x.xid && bitAt (f 2 1) 0 != x.own

/-! ## Endings (R533) -/

/-- The command that a transfer serves ends with a status (R533, R534); a window's user has none.  A WRITE keeps the sectors it
has staged. -/
def State.xferStatus (s : State) (x : Xfer) (status : Nat) : State :=
  match x.use with
  | .window => s
  | .unit k => match s.unit? k with | some c => s.endUnit c status x.blocks x.blocks | none => s
  | .shard k _ => match s.unit? k with | some c => s.endUnit c status c.index c.done | none => s
  | .tag n t => match s.tag? n t with
    | none => s
    | some c => if c.wb.opcode = Op.WRITE then s.stopTag n t status else (s.endWork n t).endTagAt n c status x.blocks x.blocks

/-- The initiator's transfer fails with a status; an ABORT goes to the peer where `reason` is given (R533). -/
def State.xferFail (s : State) (x : Xfer) (status : Nat) (reason : Option Nat) : State :=
  (match reason with | some r => s.abortXfer x r | none => s.dropXfer x).xferStatus x status

/-- Record and announce a lost peer (R527, R552); for PEER_TMO and RETRY_MAX the record's reason is open. -/
def State.peerLostRecord (s : State) (x : Xfer) (reason : Option Nat) : State :=
  let (r, s1) := match reason with | some r => (r, s) | none => s.fresh 8
  ((s1.record (srcFab x.port) 0x1106 [x.peer, x.xid, r]).alert 0x1106 x.peer).fabEvent

/-- The peer of a transfer is lost (R533): the responder discards it. -/
def State.peerLost (s : State) (x : Xfer) : State :=
  let s1 := s.peerLostRecord x none
  if x.own then s1.xferFail x ST.PEER_LOST (some 2) else s1.dropXfer x

/-- A transfer this unit runs is complete: FABRIC_SEND ends, a bay command goes on, a shard is ready (R533 step 6).  A GET's
state stays to acknowledge duplicates. -/
def State.xferDone (s : State) (own : Bool) (peer xid : Nat) : State :=
  match s.xfer? own peer xid with
  | none => s
  | some x =>
    let s1 := s.setXfer { x with done := true }
    match x.use with
    | .unit k => match s.unit? k with
      | some c => (s1.dropXfer x).endUnit c ST.OK 0xFFFFFFFF (x.len / 4096)
      | none => s1.dropXfer x
    | .tag n t => (if x.get then s1 else s1.dropXfer x).onTag n t fun c => { c with stage := 9 }
    | _ => s1

/-! ## Sending data (R533 steps 2 and 5) -/

/-- Send frame `q` of a transfer, once more if it was sent before.  A source in DRAM that cannot be read halts the port's channel
and aborts (R533). -/
def State.sendFrame (s : State) (x : Xfer) (q : Nat) : State :=
  let k := Sparse.get 0 x.tries q
  if 1 + s.acting R.FAB_LIM.RETRY_MAX 2 63 ≤ k then s.peerLost x
  else
    let go := fun (s : State) (bytes : List Byte) =>
      let s1 := (s.setXfer { x with tries := x.tries.put q (k + 1), next := max x.next (q + 1) }).fabSend x.port x.peer x.xid x.own kData q
        (q * x.seg) (q + 1 == x.frames) bytes
      if 0 < k then s1.count (R.FP_RETX.COUNT x.port) 1 else s1
    match x.addr with
    | none => go s ((x.data.drop (q * x.seg)).take (x.size q))
    | some a => match s.memRead false (portId x.port) (a + q * x.seg) (x.size q) {} with
      | (.done b, s1) => go s1 b
      | (.uncorr e, s1) =>
        let s2 := s1.channelFail (387 + x.port) 5 e (match x.use with | .unit j => j | _ => 2 ^ 32) []
        match s2.xfer? x.own x.peer x.xid with | some y => s2.abortXfer y 4 | none => s2
      | (_, s1) => s1

/-- Send what the window allows (R533 step 2). -/
def State.pump (own : Bool) (peer xid : Nat) : Nat → State → State
  | 0, s => s
  | fuel + 1, s =>
    match s.xfer? own peer xid with
    | none => s
    | some x =>
      if x.sends && x.opened && !x.done && s.portUsable x.port && !s.channelHalted (387 + x.port) && decide (x.next < x.frames) && x.atHand x.next
          && decide (x.next < x.cum + s.acting R.FAB_LIM.WIN_FRAMES 8 255) then
        let s1 := s.sendFrame x x.next
        match s1.xfer? own peer xid with
        | some y => if y.next = x.next then s1 else State.pump own peer xid fuel s1
        | none => s1
      else s

/-- Send on, for one transfer. -/
def State.pumpXfer (s : State) (x : Xfer) : State := State.pump x.own x.peer x.xid 256 s

/-- Send on, for every transfer of a use. -/
def State.pumpUse (s : State) (u : XferUse) : State := (s.fab.xfers.filter fun x => x.use == u).foldl (fun s x => s.pumpXfer x) s

/-- Resend frame `q`, unless the port has no link. -/
def State.resend (s : State) (x : Xfer) (q : Nat) : State :=
  match s.xfer? x.own x.peer x.xid with
  | some y => if s.portUsable y.port then s.sendFrame y q else s
  | none => s

/-! ## Opening (R524, R533 step 1) -/

/-- The port a transfer of a given XID takes (R524). -/
def State.choosePort (s : State) (sel xid : Nat) : Option Nat :=
  if sel = 0 then
    match s.portUsable 0, s.portUsable 1 with
    | true, true => some (xid % 2)
    | true, false => some 0
    | false, true => some 1
    | false, false => none
  else if s.portUsable (sel - 1) then some (sel - 1) else none

/-- SEG in bytes (R547). -/
def State.fabSeg (s : State) : Nat := match s.get R.FAB_CTL.SEG with | 0 => 8192 | 1 => 4096 | _ => 1024

/-- Open a transfer as initiator: the status it fails with, or 0; a port that holds 256 transfer states makes it wait. -/
def State.openXfer (s : State) (sel peer : Nat) (get : Bool) (win wkey wofs len : Nat) (use : XferUse) (addr : Option Nat)
    (data : List Byte) : Nat × State :=
  let st := s.fabCheck sel peer
  if st ≠ 0 then (st, s)
  else match s.choosePort sel s.fab.xid with
    | none => (ST.FABRIC_LINK_DOWN, s)
    | some p =>
      let full := decide (256 ≤ s.inUse p)
      let x : Xfer := { port := p, auto := sel == 0, own := true, peer := peer, xid := s.fab.xid, get := get, win := win, wkey := wkey, wofs := wofs,
                        len := len, seg := s.fabSeg, use := use, queued := full, addr := addr, data := data }
      let s1 := (s.onFab fun f => { f with xfers := f.xfers ++ [x], xid := (f.xid + 1) % 2 ^ 32 }).showXfers
      (0, if full then s1 else s1.sendOpen x)

/-! ## Receiving data (R533 steps 3 and 4) -/

/-- Acknowledge (R531): CUM, COMPLETE and the map of the 64 frames above. -/
def State.sendAck (s : State) (x : Xfer) : State :=
  let all := decide (x.frames ≤ x.cum)
  let map := (List.range 64).foldl (fun m i => m + b2n (x.marks.contains (x.cum + 1 + i)) * 2 ^ i) 0
  let y := { x with fresh := 0, done := x.done || all }
  (s.setXfer y).fabControl y kAck (bytesLE 4 x.cum ++ bytesLE 1 (b2n all) ++ bytesLE 3 0 ++ bytesLE 8 map)

/-- Acknowledge; a GET whose data is complete is then done at its initiator. -/
def State.ackNow (s : State) (x : Xfer) : State :=
  let s1 := s.sendAck x
  if x.own && !x.done && decide (x.frames ≤ x.cum) then s1.xferDone x.own x.peer x.xid else s1

/-- Payloads that follow CUM without a gap. -/
def takeParts : Nat → Nat → Sparse (List Byte) → List Byte × Sparse (List Byte)
  | 0, _, p => ([], p)
  | k + 1, q, p => match p.find? fun e => e.1 == q with
    | some (_, b) => let (r, p') := takeParts k (q + 1) (p.erase q); (b ++ r, p')
    | none => ([], p)

/-- CUM after more frames have come. -/
def advanceCum : Nat → Nat → List Nat → Nat
  | 0, c, _ => c
  | k + 1, c, marks => if marks.contains c then advanceCum k (c + 1) marks else c

/-- Give the data that has come in order to what it is for: a WRITE stages it, a shard keeps it. -/
def State.giveData (s : State) (x : Xfer) (l : List Byte) : State :=
  match x.use with
  | .tag n t =>
    let all := x.data ++ l
    let k := all.length / 4096 * 4096
    (s.setXfer { x with data := all.drop k }).stageData n t (all.take k)
  | _ => s.setXfer { x with data := x.data ++ l }

/-- A DATA frame of a transfer that this unit receives: a duplicate is acknowledged again; a frame that finds no free buffer is
dropped without acknowledgement. -/
def State.takeData (s : State) (x : Xfer) (q : Nat) (b : List Byte) : State :=
  if x.done then s.sendAck x
  else if q < x.cum ∨ x.marks.contains q then
    let y := { x with fresh := x.fresh + 1 }
    if 8 ≤ y.fresh then s.ackNow y else s.setXfer y
  else if (s.caddyGrant (portId x.port) 1).isNone || s.channelHalted (387 + x.port) then s
  else
    let (ok, s1) := match x.addr with
      | some a => (match s.memWrite false (portId x.port) (a + q * x.seg) b {} with
        | (.done _, s') => (true, s')
        | (.uncorr _, s') => (true, s')
        | (_, s') => (false, s'))
      | none => (true, s)
    if !ok then s1
    else
      let marks := q :: x.marks
      let cum := advanceCum (marks.length + 1) x.cum marks
      let (ready, parts) := if x.addr.isSome then ([], x.parts) else takeParts (marks.length + 1) x.cum (x.parts.put q b)
      let soon := q != x.cum && (match x.ackAt with | some t => decide (t + 2000 ≤ s.cycle) | none => true)
      let y := { x with cum := cum, marks := marks.filter fun m => decide (cum ≤ m), parts := parts, fresh := x.fresh + 1,
                        ackAt := if soon then some s.cycle else x.ackAt }
      let s2 := if x.addr.isSome then s1.setXfer y else (s1.setXfer y).giveData y ready
      match s2.xfer? x.own x.peer x.xid with
      | none => s2
      | some z =>
        if soon || decide (8 ≤ z.fresh) then s2.ackNow z else s2

/-! ## Acknowledgements received (R533 step 5) -/

/-- An ACK has come: CUM, COMPLETE and the map. -/
def State.takeAck (s : State) (x : Xfer) (cum : Nat) (complete : Bool) (map : Nat) : State :=
  if !x.sends || x.done then s
  else
    let cum1 := max x.cum (min cum x.next)
    let new := ((List.range 64).filter fun i => bitAt map i).map fun i => cum + 1 + i
    let marks := ((x.marks ++ new.filter fun q => !x.marks.contains q).filter fun q => decide (cum1 ≤ q) && decide (q < x.next))
    let progress := decide (x.cum < cum1) || new.any fun q => !x.marks.contains q && decide (cum1 ≤ q)
    let top := marks.foldl max 0
    let missing := ((List.range (top - cum1)).map (cum1 + ·)).filter fun q => !marks.contains q && !x.gaps.contains q
    let y := { x with cum := cum1, marks := marks, gaps := (x.gaps ++ missing).filter fun q => decide (cum1 ≤ q),
                      tries := x.tries.filter fun e => decide (cum1 ≤ e.1), rto := if progress then 1 else x.rto }
    let s1 := s.setXfer y
    if complete then (if x.own then s1.xferDone x.own x.peer x.xid else s1.dropXfer y)
    else (missing.foldl (fun s q => s.resend y q) s1).pumpXfer y

/-! ## Acceptance (R522, R530, R535, R542) -/

/-- A received frame's header and payload. -/
structure StFrame where
  kind    : Nat
  flags   : Nat
  src     : Nat
  epoch   : Nat
  xid     : Nat
  offset  : Nat
  seq     : Nat
  payload : List Byte
  deriving DecidableEq, Repr

/-- Whether SRC is the transfer's initiator. -/
def StFrame.own (f : StFrame) : Bool := bitAt f.flags 0

/-- A field of the payload. -/
def StFrame.field (f : StFrame) (o k : Nat) : Nat := ofBytesLE ((f.payload.drop o).take k)

/-- The transfer of a frame as this unit holds it. -/
def State.xferOf (s : State) (f : StFrame) : Option Xfer := s.xfer? (!f.own) f.src f.xid

/-- Read a datagram (R530): none where VER, KIND, DST or the length is wrong. -/
def State.parseFrame (s : State) (l : List Byte) : Option StFrame :=
  let g := fun (o k : Nat) => ofBytesLE ((l.drop o).take k)
  if l.length < 48 ∨ g 0 1 ≠ 1 ∨ g 1 1 = 0 ∨ 7 < g 1 1 ∨ g 28 2 ≠ l.length - 48 ∨ g 6 2 ≠ s.get R.MC_UID.ID then none
  else some ⟨g 1 1, g 2 1, g 4 2, g 8 4, g 12 4, g 16 8, g 24 4, l.drop 48⟩

/-- Whether a frame authenticates (R535, R536): under either slot, as FLAGS.KEY says. -/
def State.authentic (s : State) (f : StFrame) (l : List Byte) : Bool :=
  let body := l.take 32 ++ l.drop 48
  if bitAt f.flags 1 != s.fabAuth then false
  else if s.fabAuth then
    match s.fabKey (b2n (bitAt f.flags 2)) with
    | some k => gmac k (s.fabIv f.src f.xid f.seq f.kind f.own) body == (l.drop 32).take 16
    | none => false
  else ofBytesLE ((l.drop 32).take 4) == crc32 body

/-- A frame has failed authentication (R535). -/
def State.authDrop (s : State) (p : Nat) (f : StFrame) : State :=
  let s1 := s.count (R.FP_DROP.AUTH p) 1
  match s1.xferOf f with
  | none => s1
  | some x =>
    let y := { x with auths := x.auths + 1 }
    let s2 := s1.setXfer y
    if y.auths < s.acting R.FAB_LIM.AUTH_MAX 1 255 then s2
    else
      let s3 := s2.record (srcFab p) 0x1107 [x.peer, x.xid, b2n (bitAt f.flags 2)]
      if x.own then s3.xferFail y ST.FABRIC_AUTH (some 5) else s3.abortXfer y 5

/-- Note the first STALE of a transfer (R552). -/
def State.staleNote (s : State) (p : Nat) (f : StFrame) : State :=
  let name := (f.src, f.xid, f.own)
  if s.fab.staled.contains name then s
  else (s.onFab fun b => { b with staled := name :: b.staled }).record (srcFab p) 0x1108 [f.src, f.xid, s.get R.EPOCH.EPOCH + 2 ^ 32 * f.epoch]

/-- Answer a dropped frame with STALE (R531, R542). -/
def State.sendStale (s : State) (p : Nat) (f : StFrame) : State :=
  let s1 := s.staleNote p f
  let pay := bytesLE 1 f.kind ++ bytesLE 3 0
  match s1.xferOf f with
  | some x => s1.fabControl { x with port := p } kStale pay
  | none => if s1.portUsable p then s1.fabSend p f.src f.xid (!f.own) kStale 0 0 false pay else s1

/-- Whether a mode accepts a kind (R542). -/
def modeTakes (m kind : Nat) : Bool := m == 1 || m == 2 || (m == 3 && kind != kOpen)

/-- Answer REFUSE with a reason (R531, R532). -/
def State.refuseOpen (s : State) (p : Nat) (f : StFrame) (reason : Nat) : State :=
  s.fabSend p f.src f.xid false kRefuse 0 0 false (bytesLE 1 reason ++ bytesLE 3 0)

/-- What R542 does with a frame: process it, or hold, refuse or drop it. -/
inductive Gate where
  | take | hold | refuse | drop | stale
  deriving DecidableEq

/-- R542 for a frame of epoch `f` and kind `k`. -/
def State.gate (s : State) (f : StFrame) : Gate :=
  let m := s.get R.MODE_STAT.MODE
  let d := (f.epoch + 2 ^ 32 - s.get R.EPOCH.EPOCH % 2 ^ 32) % 2 ^ 32
  if m ≠ 1 ∧ m ≠ 2 ∧ m ≠ 3 then .drop
  else if d = 0 then (if modeTakes m f.kind then .take else if f.kind = kOpen then .refuse else .drop)
  else if d ≤ 2 ^ 31 - 1 then .hold
  else if d = 2 ^ 32 - 1 ∧ modeTakes (s.get R.EPOCH_CTL.PREV_MODE) f.kind ∧ modeTakes m f.kind then .take
  else .stale

/-! ## The kinds (R531 to R533) -/

/-- OPEN (R532): answered ACCEPT, or REFUSE with the first reason that applies. -/
def State.takeOpen (s : State) (p : Nat) (f : StFrame) : State :=
  match s.xfer? false f.src f.xid with
  | some x => if x.done then s.sendAck x else s.fabControl { x with port := p } kAccept []
  | none =>
    let w := f.field 1 1
    let get := f.field 0 1 == 1
    let wofs := f.field 8 8
    let len := f.field 16 8
    let ok := decide (w < 16)
    if 256 ≤ s.inUse p then s.refuseOpen p f 1
    else if !ok || !s.on (R.FW_CFG.EN w) then s.refuseOpen p f 2
    else if f.field 4 4 ≠ s.get (R.FW_WKEY.WKEY w) then s.refuseOpen p f 3
    else if !s.on (if get then R.FW_CFG.GET w else R.FW_CFG.PUT w) then s.refuseOpen p f 5
    else if wofs % 4096 ≠ 0 ∨ len % 4096 ≠ 0 ∨ len = 0 ∨ 4096 * s.get (R.FW_SIZE.PAGES w) < wofs + len then s.refuseOpen p f 4
    else
      let base := s.get (R.FW_BASE_LO.ADDR w) * 4096 + 2 ^ 32 * s.get (R.FW_BASE_HI.ADDR w)
      let x : Xfer := { port := p, auto := false, own := false, peer := f.src, xid := f.xid, get := get, win := w, wkey := f.field 4 4, wofs := wofs,
                        len := len, seg := f.field 24 2, use := .window, opened := true, addr := some (base + wofs) }
      let s1 := (s.onFab fun b => { b with xfers := b.xfers ++ [x] }).showXfers
      (s1.fabControl x kAccept []).pumpXfer x

/-- ACCEPT: the data sender starts. -/
def State.takeAccept (s : State) (f : StFrame) : State :=
  match s.xferOf f with
  | some x => if x.own then (s.setXfer { x with opened := true, busy := false }).pumpXfer x else s
  | none => s

/-- REFUSE: BUSY is retried, any other reason ends the command (R533 step 1). -/
def State.takeRefuse (s : State) (f : StFrame) : State :=
  match s.xferOf f with
  | some x =>
    if !x.own || x.opened then s
    else if f.field 0 1 = 1 then s.setXfer { x with busy := true }
    else s.xferFail x ST.PEER_REFUSED none
  | none => s

/-- DATA: taken where its numbers are those of its frame (R530). -/
def State.takeDataFrame (s : State) (p : Nat) (f : StFrame) : State :=
  match s.xferOf f with
  | some x =>
    if x.sends || !decide (f.seq < x.frames) || f.offset != f.seq * x.seg || f.payload.length != x.size f.seq then s
    else s.takeData (if x.own then x else { x with port := p }) f.seq f.payload
  | none => s

/-- ACK. -/
def State.takeAckFrame (s : State) (f : StFrame) : State :=
  match s.xferOf f with
  | some x => s.takeAck x (f.field 0 4) (bitAt (f.field 4 1) 0) (f.field 8 8)
  | none => s

/-- STALE (R542): the initiator's transfer ends; the responder aborts. -/
def State.takeStale (s : State) (p : Nat) (f : StFrame) : State :=
  match s.xferOf f with
  | some x =>
    if x.done then s
    else
      let s1 := s.staleNote p f
      if x.own then s1.xferFail x ST.STALE_EPOCH (some 2) else s1.abortXfer x 2
  | none => s

/-- ABORT (R533): the initiator's command ends by the reason; the responder discards the transfer. -/
def State.takeAbort (s : State) (f : StFrame) : State :=
  match s.xferOf f with
  | some x =>
    let r := f.field 0 1
    if x.done then s.dropXfer x
    else
      let s1 := s.peerLostRecord x (some r)
      if x.own then s1.xferFail x (if r = 4 then ST.PEER_REFUSED else if r = 5 then ST.FABRIC_AUTH else ST.PEER_LOST) none
      else s1.dropXfer x
  | none => s

/-- Process a frame. -/
def State.takeKind (s : State) (p : Nat) (f : StFrame) : State :=
  if f.kind = kOpen then s.takeOpen p f
  else if f.kind = kAccept then s.takeAccept f
  else if f.kind = kRefuse then s.takeRefuse f
  else if f.kind = kData then s.takeDataFrame p f
  else if f.kind = kAck then s.takeAckFrame f
  else if f.kind = kStale then s.takeStale p f
  else s.takeAbort f

/-- Hold a frame for a newer epoch in a port's buffer; with none free it is dropped without STALE (R542). -/
def State.holdFrame (s : State) (p : Nat) (pkt : FabPacket) : State :=
  match s.caddyGrant (portId p) 1 with
  | some (ptr, s1) => (s1.onFab fun b => { b with held := b.held ++ [⟨p, pkt, ptr⟩] }).pfcCheck p
  | none => s.count (R.FP_DROP.STALE p) 1

/-- R542 and the frame's processing. -/
def State.admitFrame (s : State) (p : Nat) (pkt : FabPacket) (f : StFrame) : State :=
  match s.gate f with
  | .take => s.takeKind p f
  | .hold => s.holdFrame p pkt
  | .refuse => s.refuseOpen p f 6
  | .drop => s.count (R.FP_DROP.STALE p) 1
  | .stale => (s.count (R.FP_DROP.STALE p) 1).sendStale p f

/-- Whether a port accepts a received packet (R522): address, tag, form and UDP port. -/
def State.portTakes (s : State) (p : Nat) (x : FabFrame) : Bool :=
  let multicast := 0x3333FF000000 + s.fabAddr p (s.get R.MC_UID.ID) % 2 ^ 24
  s.portUsable p && s.on R.MC_UID.VALID && x.intact && (x.packet.dstMac == s.fabMac p || x.packet.dstMac == multicast)
    && x.packet.vid == some (s.acting R.FAB_NET.VID 1 4094)

/-- A Stripe Transport frame has come to a port; `kind` is the command's row. -/
def State.stReceive (s : State) (p : Nat) (x : FabFrame) (kind : Nat) (seen : MemSeen) : State :=
  if !s.portTakes p x || x.packet.dport != s.acting R.FAB_UDP.DPORT 1024 65535 then s
  else
    let s1 := (s.memSeen seen).count (R.FP_RX.COUNT p) 1
    match s1.parseFrame x.packet.payload with
    | none => s1
    | some f =>
      if f.kind ≠ kind then s1
      else if !s1.authentic f x.packet.payload then s1.authDrop p f
      else s1.admitFrame p x.packet f

/-! ## Rows: frames -/

/-- ST_OPEN_RECEIVE (R532). -/
def execStOpenReceive (p : Nat) (x : FabFrame) (seen : MemSeen) (s : State) : Host.Outcome State Fault Refusal := .next (s.stReceive p x kOpen seen)
/-- ST_ACCEPT_RECEIVE (R533). -/
def execStAcceptReceive (p : Nat) (x : FabFrame) (seen : MemSeen) (s : State) : Host.Outcome State Fault Refusal := .next (s.stReceive p x kAccept seen)
/-- ST_REFUSE_RECEIVE (R533). -/
def execStRefuseReceive (p : Nat) (x : FabFrame) (s : State) : Host.Outcome State Fault Refusal := .next (s.stReceive p x kRefuse {})
/-- ST_DATA_RECEIVE (R533). -/
def execStDataReceive (p : Nat) (x : FabFrame) (seen : MemSeen) (s : State) : Host.Outcome State Fault Refusal := .next (s.stReceive p x kData seen)
/-- ST_ACK_RECEIVE (R533). -/
def execStAckReceive (p : Nat) (x : FabFrame) (seen : MemSeen) (s : State) : Host.Outcome State Fault Refusal := .next (s.stReceive p x kAck seen)
/-- ST_STALE_RECEIVE (R542). -/
def execStStaleReceive (p : Nat) (x : FabFrame) (s : State) : Host.Outcome State Fault Refusal := .next (s.stReceive p x kStale {})
/-- ST_ABORT_RECEIVE (R533). -/
def execStAbortReceive (p : Nat) (x : FabFrame) (s : State) : Host.Outcome State Fault Refusal := .next (s.stReceive p x kAbort {})

/-- NEIGHBOR_SOLICITATION (R522, R529): answered for the port's own address. -/
def execNeighborSolicitation (p : Nat) (x : FabFrame) (target : Nat) (s : State) : Host.Outcome State Fault Refusal :=
  .next (if s.portTakes p x && target == s.fabAddr p (s.get R.MC_UID.ID) then s.portEmit p (.neighborAdvert p (s.nextHop p) x.packet.srcIp) else s)

/-- ICMP_ECHO_REQUEST (R522): answered with its data. -/
def execIcmpEchoRequest (p : Nat) (x : FabFrame) (s : State) : Host.Outcome State Fault Refusal :=
  .next (if s.portTakes p x && x.packet.dstIp == s.fabAddr p (s.get R.MC_UID.ID) then
    s.portEmit p (.echoReply p (s.nextHop p) x.packet.srcIp x.packet.payload) else s)

/-- PRIORITY_FLOW_CONTROL_RECEIVE (R522): the peer pauses or resumes priority PCP. -/
def execPriorityFlowControlReceive (p : Nat) (pause : Bool) (s : State) : Host.Outcome State Fault Refusal :=
  .next (
    if !s.portOn p || !s.on R.FAB_NET.PFC_EN then s
    else if pause then s.raise (R.FP_STAT.PFC_RX p)
    else
      let s1 := s.zero (R.FP_STAT.PFC_RX p)
      (s1.fab.txq.filter fun e => e.1 == p).foldl (fun s e => s.emit e.2) (s1.onFab fun f => { f with txq := f.txq.filter fun e => e.1 != p }))

/-! ## Rows: timers (R533, R542) -/

/-- RTO_EXPIRE (R533): OPEN is repeated, or the lowest unacknowledged frame; each timeout doubles RTO up to 16 times. -/
def execRtoExpire (own : Bool) (peer xid : Nat) (seen : MemSeen) (s : State) : Host.Outcome State Fault Refusal :=
  .next (match s.xfer? own peer xid with
    | none => s
    | some x =>
      if s.holdsFrame x || x.queued || x.done then s
      else if own && !x.opened then s.sendOpen x
      else if x.sends && decide (x.cum < x.next) then
        let y := { x with rto := min 16 (2 * x.rto) }
        ((s.memSeen seen).setXfer y).resend y y.cum
      else s)

/-- ACK_DELAY_TIMER (R533 step 4): 10 µs after the first unacknowledged frame. -/
def execAckDelayTimer (own : Bool) (peer xid : Nat) (s : State) : Host.Outcome State Fault Refusal :=
  .next (match s.xfer? own peer xid with
    | some x => if !x.sends && decide (0 < x.fresh) then s.ackNow x else s
    | none => s)

/-- PEER_TIMEOUT (R524, R533): PEER_TMO without a valid frame of the transfer. -/
def execPeerTimeout (own : Bool) (peer xid : Nat) (s : State) : Host.Outcome State Fault Refusal :=
  .next (match s.xfer? own peer xid with
    | none => s
    | some x =>
      if s.holdsFrame x then s
      else if x.done then s.dropXfer x
      else if own && x.busy then s.xferFail x ST.PEER_REFUSED none
      else if own && !s.portUsable x.port then s.xferFail x ST.FABRIC_LINK_DOWN none
      else s.peerLost x)

/-- Release the buffer of a held frame. -/
def State.dropHeld (s : State) (h : HeldFrame) : State :=
  (((s.onFab fun b => { b with held := b.held.erase h }).freePtr (portId h.port) h.ptr).caddyServe).pfcCheck h.port

/-- EPOCH_HOLD_EXPIRE (R542): the `k`-th held frame has been held for HOLD_T. -/
def execEpochHoldExpire (k : Nat) (s : State) : Host.Outcome State Fault Refusal :=
  .next (match s.fab.held[k]? with
    | none => s
    | some h =>
      let s1 := (s.dropHeld h).count (R.FP_DROP.STALE h.port) 1
      match s1.parseFrame h.packet.payload with
      | some f => s1.sendStale h.port f
      | none => s1)

/-- The unit's epoch has changed: held frames meet R542 again. -/
def State.retryHeld (s : State) : State :=
  s.fab.held.foldl (fun s h =>
    let s1 := s.dropHeld h
    match s1.parseFrame h.packet.payload with
    | some f => s1.admitFrame h.port h.packet f
    | none => s1) s

/-! ## Ports and windows (R522, R524, R529, R532, R539) -/

/-- A port can no longer carry transfers: held frames are discarded and automatic transfers continue on the other port, from the
first unacknowledged frame (R524, R544). -/
def State.portLost (s : State) (p : Nat) : State :=
  let s1 := (s.fab.held.filter fun h => h.port == p).foldl (fun s h => s.dropHeld h) s
  if !s1.portUsable (1 - p) then s1
  else
    let moved := s1.fab.xfers.filter fun x => x.port == p && x.auto && !x.done
    moved.foldl (fun s x =>
      let y := { x with port := 1 - p, queued := false }
      let s2 := (s.setXfer y).showXfers
      if !y.opened then s2.sendOpen y
      else if y.sends && decide (y.cum < y.next) then (s2.resend y y.cum).pumpXfer y
      else s2) s1

/-- A port can carry transfers again: those that waited for it go on. -/
def State.portBack (s : State) (p : Nat) : State :=
  (s.fab.xfers.filter fun x => x.port == p && !x.done && !x.queued).foldl (fun s x =>
    if x.own && !x.opened then s.sendOpen x
    else if x.sends && decide (x.cum < x.next) then (s.resend x x.cum).pumpXfer x
    else s.pumpXfer x) s

/-- FABRIC_LINK_CHANGE (R524, R527, R552). -/
def execFabricLinkChange (p : Nat) (up : Bool) (seen : MemSeen) (s : State) : Host.Outcome State Fault Refusal :=
  .next (
    if !s.variant.fabric || 2 ≤ p || s.on (R.FP_STAT.LINK p) == up then s
    else
      let s1 := (((s.memSeen seen).putB (R.FP_STAT.LINK p) up).record (srcFab p) 0x1105 [p, b2n up]).fabEvent
      if up then s1.portBack p
      else
        let s2 := (s1.count (R.FP_STAT.LINK_DOWNS p) 1).zero (R.FP_STAT.PFC_RX p)
        let s3 := if s2.on (R.FP_STAT.LINK (1 - p)) then s2 else s2.alert 0x1105 p
        (s3.onFab fun f => { f with txq := f.txq.filter fun e => e.1 != p }).portLost p)

/-- FABRIC_PORT_ENABLE (R539): `FAB_CTL.EN` written; a port is enabled only with an ID and a valid epoch. -/
def execFabricPortEnable (mask : Nat) (s : State) : Host.Outcome State Fault Refusal :=
  .next (
    if !s.variant.fabric then s
    else
      let old := s.get R.FAB_CTL.EN
      let ok := s.on R.MC_UID.VALID && s.on R.EPOCH_CTL.VALID
      let new := if ok then mask % 4 else old &&& mask
      let s1 := if mask % 4 = new then s else s.raise R.FAB_CTL.REJ
      let s2 := s1.put R.FAB_CTL.EN new
      (List.range 2).foldl (fun s p =>
        if bitAt old p && !bitAt new p then s.portLost p
        else if !bitAt old p && bitAt new p && s.portUsable p then s.portBack p
        else s) s2)

/-- Whether a DRAM range lies within installed DRAM and outside every Caddy region (R395, R422, R532). -/
def State.rangeOk (s : State) (lo len : Nat) : Bool :=
  let hi := lo + len
  decide (0 < len) && decide (hi ≤ 2 ^ 40) && (List.range 8).all (fun ch =>
    !meets lo hi (2 ^ 37 * ch) (2 ^ 37 * (ch + 1)) || (decide (0 < s.chanSize ch) && !meets lo hi (2 ^ 37 * ch + s.chanSize ch) (2 ^ 37 * (ch + 1))))
  && (List.range 16).all fun r => !s.on (R.CADDY_RGN_CFG.EN r) || !meets lo hi (s.rgnBase r) (s.rgnEnd r)

/-- FAB_WINDOW_ENABLE (R532, R550): EN of window `w` written. -/
def execFabWindowEnable (w : Nat) (on : Bool) (s : State) : Host.Outcome State Fault Refusal :=
  .next (
    if !s.variant.fabric || 16 ≤ w then s
    else if !on then s.zero (R.FW_CFG.EN w)
    else if s.rangeOk (s.get (R.FW_BASE_LO.ADDR w) * 4096 + 2 ^ 32 * s.get (R.FW_BASE_HI.ADDR w)) (4096 * s.get (R.FW_SIZE.PAGES w)) then
      s.raise (R.FW_CFG.EN w)
    else s.raise (R.FW_CFG.REJ w))

/-! ## The unit's ID (R529) and keys (R551) -/

/-- Give up the unit's ID: every transfer and every command that needs the fabric ends, and both ports are disabled (R529). -/
def State.giveUpId (s : State) : State :=
  if !s.on R.MC_UID.VALID then s
  else
    let s1 := s.fab.xfers.foldl (fun s x =>
      if !x.own then s.abortXfer x 3
      else if x.done then s.dropXfer x
      else s.xferFail x ST.NO_UNIT_ID (some 3)) s
    let s2 := s1.fab.held.foldl (fun s h => s.dropHeld h) s1
    ((s2.zero R.FAB_CTL.EN).zero R.MC_UID.VALID).zero R.MC_UID.ID

/-- MC_CLEAR_ID (R529, R545). -/
def execMcClearId (s : State) : Host.Outcome State Fault Refusal := .next s.giveUpId

/-- Show FULL0 and FULL1. -/
def State.fabKeyShow (s : State) : State :=
  (s.putB R.FAB_KEY_CTL.FULL0 (s.fabKey 0).isSome).putB R.FAB_KEY_CTL.FULL1 (s.fabKey 1).isSome

/-- Zero `FAB_KEY_DATA`. -/
def State.zeroFabKeyData (s : State) : State := (List.range 8).foldl (fun s w => s.zero (R.FAB_KEY_DATA.DATA w)) s

/-- FAB_KEY_LOAD (R551). -/
def execFabKeyLoad (s : State) : Host.Outcome State Fault Refusal :=
  .next (
    if !s.variant.crypto || !s.variant.fabric then s
    else if s.keyClosed then s.zeroFabKeyData.raise R.FAB_KEY_CTL.REJ
    else
      let k := (List.range 8).flatMap fun w => bytesLE 4 (s.get (R.FAB_KEY_DATA.DATA w))
      ({ s.zeroFabKeyData with fabKeys := s.fabKeys.put (s.get R.FAB_KEY_CTL.SLOT) k }).fabKeyShow)

/-- FAB_KEY_CLEAR (R551). -/
def execFabKeyClear (s : State) : Host.Outcome State Fault Refusal :=
  .next (
    if !s.variant.crypto || !s.variant.fabric then s
    else if s.keyClosed then s.zeroFabKeyData.raise R.FAB_KEY_CTL.REJ
    else ({ s with fabKeys := s.fabKeys.erase (s.get R.FAB_KEY_CTL.SLOT) }).fabKeyShow)

/-! ## FABRIC_SEND (R538) -/

/-- Whether the fields of FABRIC_SEND lie in their ranges. -/
def State.sendOk (s : State) (c : Cmd) : Bool :=
  let w := c.wb
  let len := w.field 44 4
  decide (w.field 32 1 ≤ 1) && decide (w.field 36 1 < 16) && decide (0 < len) && len % 4096 == 0 && w.field 48 8 % 4096 == 0 &&
  (if w.field 32 1 = 1 then w.field 56 8 % 4096 == 0 && decide (w.field 56 8 < 2 ^ 40) && s.rangeOk (w.field 56 8) len
   else w.field 56 8 == 0 && (c.loc.map (·.2)).sum == len)

/-- FABRIC_SEND (R538): the unit command `k` opens its transfer; with SRC 0 `data` is what has come of its host data since. -/
def execFabricSend (k : Nat) (data : List Byte) (seen : MemSeen) (s : State) : Host.Outcome State Fault Refusal :=
  .next (match s.unit? k with
    | none => s
    | some c =>
      let w := c.wb
      if w.opcode ≠ Op.FABRIC_SEND then s
      else if c.stage = 0 then
        let refuse := fun (st : Nat) => s.endUnit c st 0 0
        if !s.sendOk c then refuse ST.BAD_FIELD
        else
          let dram := w.field 32 1 == 1
          let (st, s1) := (s.memSeen seen).openXfer (w.field 33 1) (w.field 34 2) false (w.field 36 1) (w.field 40 4) (w.field 48 8) (w.field 44 4) (.unit k)
            (if dram then some (w.field 56 8) else none) data
          if st ≠ 0 then refuse st
          else
            let s2 := s1.setUnit { c with stage := 1 }
            if dram then s2 else match (s2.fab.xfers.find? fun x => x.use == .unit k) with
              | some x => s2.hostGet (387 + x.port) c.loc
              | none => s2
      else
        let s1 := (s.memSeen seen).onFab fun f => { f with xfers := f.xfers.map fun x => if x.use = .unit k then { x with data := x.data ++ data } else x }
        s1.pumpUse (.unit k))

end Sys2Proof.Machine
end

