-- ==== Sys2Proof/Machine/BayCmd.lean ====
section
/-!
DEFINITION. Bay commands (14_commands.md): range locks and the checks at their grant (R374, R381), MOUNT and UNMOUNT (R382 to
R384), READ, WRITE and VERIFY (R386 to R389), extents and scanning (R390, R391), partitions and keys (R392 to R394), FLUSH
(R379), and the raw slot of TABLE_READ (R395).
-/

namespace Sys2Proof.Machine

/-! ## The checks at the lock grant (R374, R389, R391, R392, R394) -/

/-- Whether no command admitted before has a span that meets a command's own (R381). -/
def State.runnable (s : State) (n : Nat) (c : Cmd) : Bool :=
  !((s.bay n).tags.takeWhile fun d => d.id != c.id).any fun d => spansMeet d.span c.span

/-- The journal form of VERIFY (R389). -/
def Cmd.isReplay (c : Cmd) : Bool := c.wb.opcode == Op.VERIFY && c.wb.flag4

/-- Whether a customer command takes a span as READ or WRITE does, and so names sectors of a partition (R502). -/
def Cmd.customRange (c : Cmd) : Bool := isCustomerOp c.wb.opcode && (c.stage == 1 || c.stage == 2)

/-- Whether a command names a partition. -/
def Cmd.namesPart (c : Cmd) : Bool :=
  ([Op.READ, Op.WRITE, Op.VERIFY, Op.CLOSE_EXTENT, Op.PARTITION_RETIRE, Op.KEY_BIND].contains c.wb.opcode && !c.isReplay) || c.customRange

/-- Whether a command writes to the disc. -/
def Cmd.writesDisc (c : Cmd) : Bool := c.isFlushed || (c.customRange && c.stage == 2) || c.wb.opcode == Op.PARTITION_CREATE || c.wb.opcode == Op.PARTITION_RETIRE

/-- Whether what a command names lies within its partition. -/
def Cmd.inPart (c : Cmd) (p : PartEntry) : Bool :=
  let psn := c.wb.field 40 8
  if c.wb.opcode = Op.CLOSE_EXTENT then decide (psn / 56 + c.wb.field 36 4 ≤ p.extCount)
  else if [Op.READ, Op.WRITE, Op.VERIFY].contains c.wb.opcode || c.customRange then decide (psn + c.wb.field 36 4 ≤ p.sectors)
  else true

/-- The checks of the partition named: it exists, is not retired, and holds what is named. -/
def State.partStatus (s : State) (n : Nat) (c : Cmd) : Nat :=
  if !c.namesPart then 0
  else match s.partEntry n c with
    | none => ST.PART_UNKNOWN
    | some p =>
      if p.state ≠ 1 ∧ p.state ≠ 2 then ST.PART_UNKNOWN
      else if p.state = 2 then ST.PART_RETIRED
      else if c.inPart p then 0 else ST.RANGE

/-- The checks of a keyed partition. -/
def State.keyStatus (s : State) (n : Nat) (c : Cmd) : Nat :=
  let keyed := c.namesPart && (match s.partEntry n c with | some p => bitAt p.flags 0 | none => false)
  if !keyed then 0
  else if !s.variant.crypto then ST.UNIT_ABSENT
  else if ([Op.READ, Op.WRITE].contains c.wb.opcode || c.customRange) && (s.keyOf (s.boundSlot n (c.wb.field 32 2))).isNone then ST.KEY_MISSING
  else 0

/-- What a write to the disc fails with: its rated speed (R54), the clock, or a commit that failed (R305, R382). -/
def State.writeStatus (s : State) (n : Nat) : Nat :=
  if s.wrRpmMax n < 1500 then ST.MEDIA_FORMAT
  else if !s.on R.RTC_STAT.VALID then ST.TIME_NOT_SET
  else (s.bay n).disc.refuse

/-- The checks of PARTITION_CREATE (R392). -/
def State.createStatus (s : State) (n : Nat) (c : Cmd) : Nat :=
  let x := c.wb.field 32 4
  let k := c.wb.field 36 4
  let dir := (s.bay n).disc.dir
  if lastExtent < x + k - 1 then ST.RANGE
  else if partOverlap dir x k then ST.PART_OVERLAP
  else if 64 ≤ dir.length then ST.PART_LIMIT
  else if c.wb.flag4 && !s.variant.crypto then ST.UNIT_ABSENT
  else s.writeStatus n

/-- The checks of KEY_BIND (R394). -/
def State.bindStatus (s : State) (n : Nat) (c : Cmd) : Nat :=
  let slot := c.wb.field 34 2
  match s.partEntry n c with
  | none => ST.PART_UNKNOWN
  | some p =>
    if 4096 ≤ slot ∧ slot ≠ 0xFFFF then ST.BAD_FIELD
    else if !bitAt p.flags 0 then ST.PART_NOT_KEYED
    else if p.keyTag ≠ c.wb.field 40 8 then ST.KEY_TAG
    else 0

/-- The checks of a journal replay (R389, R311). -/
def State.replayStatus (s : State) (n : Nat) (c : Cmd) : Nat :=
  match s.jEntry n (c.wb.field 32 1) with
  | none => ST.JOURNAL_ENTRY
  | some e =>
    if !e.stale then ST.JOURNAL_ENTRY
    else if e.disc ≠ s.discId n then ST.DISC_MISMATCH
    else if !s.on R.RTC_STAT.VALID then ST.TIME_NOT_SET
    else 0

/-- Every check made at the grant of a lock, by the status of the first that fails (R374), and then the data locator of a READ
or WRITE, which its channel reads before it moves any data (R348). -/
def State.grantStatus (s : State) (n : Nat) (c : Cmd) : Nat :=
  let op := c.wb.opcode
  if !(s.bay n).mounted || (s.bay n).disc.suspend || (s.bay n).disc.info.isNone then ST.NOT_MOUNTED
  else if op = Op.PARTITION_CREATE then s.createStatus n c
  else if c.isReplay then s.replayStatus n c
  else
    let p := s.partStatus n c
    if p ≠ 0 then p
    else
      let w := if c.writesDisc then s.writeStatus n else 0
      if w ≠ 0 then w
      else
        let k := s.keyStatus n c
        if k ≠ 0 then k
        else if op = Op.KEY_BIND then s.bindStatus n c
        else if (op = Op.READ ∨ op = Op.WRITE) ∧ !locLength c.wb c.loc then ST.BAD_FIELD
        else 0

/-- Queue the slots of a journal entry for their verify (R311). -/
def State.beginReplay (s : State) (n : Nat) (c : Cmd) : State :=
  s.onWrite n fun w => { w with run := w.run ++ (List.range c.count).map fun k =>
    let psa := s.homeOf n c k
    ⟨psa, psa, 5, 0, c.id, k, [], 64, false, false, 0, .written⟩ }

/-- RANGE_LOCK_GRANT (R374, R381): a command whose span no earlier entry meets becomes runnable, if its checks pass. -/
def execRangeLockGrant (n t : Nat) (s : State) : Host.Outcome State Fault Refusal :=
  s.onBay n fun s =>
    let s0 := State.fillTags n 64 s
    match s0.tag? n t with
    | none => s0
    | some c =>
      let op := c.wb.opcode
      if c.granted || !s0.runnable n c then s0
      else
        let st := if op = Op.MOUNT ∨ op = Op.UNMOUNT ∨ op = Op.FLUSH then 0 else s0.grantStatus n c
        if st = 0 then
          let s1 := s0.onTag n t fun c => { c with granted := true }
          if c.isReplay then s1.beginReplay n c else s1
        else if op = Op.MEDIA_SCAN ∧ 0 < c.scanX then s0.endStopped n { c with stop := some st }
        else s0.endRefused n c st

/-! ## Shared steps -/

/-- Whether every item of a command has its outcome. -/
def Cmd.settled (c : Cmd) : Bool := (List.range c.count).all fun i => c.items.has i

/-- Run the meaning of a command on a tag whose lock is granted. -/
def State.onGranted (s : State) (n t op : Nat) (f : Cmd → State) : State :=
  match s.tag? n t with
  | some c => if c.wb.opcode = op ∧ c.granted then f c else s
  | none => s

/-- Commit what is staged, as the command that appends an Anchor (R305): `full` says that the system area lacks the slots. -/
def State.commitNow (s : State) (n : Nat) (full : Bool) (sectors : List Nat) (sysNext : Nat) : State :=
  if !s.dlRoom n then s.commitFail n ST.DL_QUOTA
  else if full then s.commitFail n ST.MEDIA_SYSTEM_FULL
  else s.commitDone n sectors sysNext

/-- Sectors kept for extent reconstruction go with the bay's last reading command (R277). -/
def State.forgetReads (s : State) (n : Nat) : State :=
  if (s.bay n).tags.any fun c => isReadClass c.wb.opcode then s
  else s.onRead n fun r => { r with known := [], blanks := [], lost := [], shadows := [] }

/-- Number of items with an outcome among those given. -/
def Cmd.outcomes (c : Cmd) (l : List Nat) : Nat := (c.items.filter fun e => l.contains e.2.outcome).length

/-! ## READ (R387) -/

/-- Deliver the leading items that are resolved. -/
def State.deliverNow (s : State) (n : Nat) (c : Cmd) : State :=
  let d := State.deliver n c c.count c.sent s
  (d.2.onTag n c.id fun c => { c with sent := d.1 }).pumpUse (.tag n c.id)

/-- Write the fixity record of a READ (R428). -/
def State.fixRead (s : State) (c : Cmd) : State :=
  let sel := c.wb.field 35 1
  if sel = 0 then s
  else s.writeFix (c.wb.field 48 8) (fixRecord sel (c.items.flatMap fun e => e.2.bytes) (c.outcomes [outUncorrectable, outNotRead] != 0)
    (c.wb.flag4 && c.outcomes [outBlank] != 0) false)

/-- READ (R387): its sectors are delivered in order as they are resolved; with all of them the command ends.  With DFORM 3 they
go to the peer named, and the end waits for its acknowledgement (R21, R537). -/
def execRead (n t : Nat) (s : State) : Host.Outcome State Fault Refusal :=
  s.onBay n fun s => s.onGranted n t Op.READ fun c =>
    if c.wb.dform = 3 ∧ c.stage = 0 ∧ c.stop.isNone then
      let a := c.wb.daddr
      let (st, s1) := s.openXfer (bitsAt a 20 2) (a % 65536) false (bitsAt a 16 4) c.wb.dlen (a / 2 ^ 32 * 4096) (4096 * c.count) (.tag n t) none []
      if st = 0 then s1.onTag n t fun c => { c with stage := 1 } else s.endRefused n c st
    else if c.stop.isNone && !c.settled then s.deliverNow n c
    else
      let c1 := c.fillNotRead (c.stop.getD 0)
      let s1 := (s.endWork n t).setTag n c1 |>.deliverNow n c1
      if c.wb.dform = 3 ∧ c.stage ≠ 9 then s1
      else match s1.tag? n t with
        | some d => ((s1.fixRead d).endStopped n d).forgetReads n
        | none => s1

/-! ## VERIFY (R389, R311) -/

/-- VERIFY_RANGE (R389). -/
def execVerifyRange (n t : Nat) (s : State) : Host.Outcome State Fault Refusal :=
  s.onBay n fun s => s.onGranted n t Op.VERIFY fun c =>
    if c.isReplay || (c.stop.isNone && !c.settled) then s
    else (s.endStopped n { c with result := c.outcomes [outRecovered, outReconstructed] + 2 ^ 32 * c.outcomes [outBlank] }).forgetReads n

/-- Stage what R311 stages for slot `k` of a replayed entry. -/
def State.stageReplay (s : State) (n : Nat) (c : Cmd) (e : JEntry) (k : Nat) (o : Nat) : State :=
  if e.kind ≤ 1 then (if o = outUncorrectable then s.stageRecord n (s.homeOf n c k) noPsa 4 64 else s)
  else if e.kind = 2 then
    (if o = outDecoded then s.stageRecord n e.home (s.homeOf n c k) e.reason 64 else s.stageRecord n e.home noPsa 4 64)
  else s

/-- VERIFY_JOURNAL (R311, R389): with every slot of the entry verified, its records are staged and committed and the entry is
released.  An entry whose records cannot be committed stays. -/
def execVerifyJournal (n t : Nat) (full : Bool) (sectors : List Nat) (sysNext : Nat) (s : State) : Host.Outcome State Fault Refusal :=
  s.onBay n fun s => s.onGranted n t Op.VERIFY fun c =>
    if !c.isReplay then s
    else if c.stop.isSome then s.endStopped n c
    else if !c.settled then s
    else match s.jEntry n (c.wb.field 32 1) with
      | none => s.endStopped n c
      | some e =>
        let before := (s.bay n).writing.staged.length
        let s1 := c.items.foldl (fun s i => s.stageReplay n c e i.1 i.2.outcome) s
        let k := (s1.bay n).writing.staged.length - before
        let s2 := if k = 0 then s1 else if (s1.bay n).disc.refuse ≠ 0 then s1 else s1.commitNow n full sectors sysNext
        let bad := if k = 0 then 0 else (s2.bay n).disc.refuse
        let d := { c with result := c.outcomes [outDecoded] + 2 ^ 32 * k }
        if bad = 0 then (s2.putEntry n (c.wb.field 32 1) none).endStopped n d else s2.endStopped n { d with stop := some bad }

/-! ## WRITE (R388, R378, R303) -/

/-- Every sector that the command will write is staged: extents close (R307), the fixity record is written (R428) and the
STAGED receipt is formed (R378). -/
def State.writeStaged (s : State) (n t : Nat) (reads : List (Nat × Nat × PosSeen)) : State :=
  match s.tag? n t with
  | none => s
  | some c =>
    if c.stage ≠ 1 ∨ c.stop.isSome ∨ c.staged.length ≠ c.lim then s
    else
      let s1 := s.setTag n { c with stage := 2 }
      let s2 := (s.extentsOf n c c.lim).foldl (fun s x =>
        let go := c.wb.flag4 || (match s.parityOf n x with | some p => p.filled x reads | none => false)
        if !go then s else match s.closeExtent n t noItem x reads with
          | some s' => s'
          | none => s.stopTag n t ST.UNCORRECTABLE) s1
      let all := c.limit.isNone
      let sel := c.wb.field 35 1
      let s3 := if all && sel != 0 then s2.writeFix (c.wb.field 48 8) (fixRecord sel c.hash false false false) else s2
      if all && c.second then
        (s3.formReceipt c ST.OK 1 0xFFFFFFFF c.count).onTag n t fun c => { c with second := false }
      else s3

/-- A WRITE ends when nothing of it is left to write or verify. -/
def State.writeEnd (s : State) (n t : Nat) : State :=
  match s.tag? n t with
  | none => s
  | some c =>
    if (c.stage = 2 ∨ c.stop.isSome) ∧ !s.tagWork n t then s.endStopped n { c with result := c.relocs + 2 ^ 32 * c.closed.length } else s

/-- WRITE (R388): its extents' buffers and its data are asked for; then its sectors are staged, written, verified and relocated
as they can be.  `written` names extents whose parity slots the blank tests of R306 found written, and `reads` what the reads
of R307 gave. -/
def execWrite (n t : Nat) (written : List Nat) (reads : List (Nat × Nat × PosSeen)) (s : State) : Host.Outcome State Fault Refusal :=
  s.onBay n fun s => s.onGranted n t Op.WRITE fun c =>
    if c.stage = 0 ∧ c.stop.isNone then
      let a := c.wb.daddr
      let (st, s1) := if c.wb.dform = 3 then
          s.openXfer (bitsAt a 20 2) (a % 65536) true (bitsAt a 16 4) c.wb.dlen (a / 2 ^ 32 * 4096) (4096 * c.count) (.tag n t) none []
        else (0, s)
      if st ≠ 0 then s.endRefused n c st
      else
        let s2 := (s1.openExtents n t written).onTag n t fun c => { c with stage := 1 }
        match s2.tag? n t with
        | some d => if c.wb.dform = 3 then s2 else s2.hostGet n (locPieces c.loc 0 (4096 * d.lim))
        | none => s2
    else
      let s1 := if c.stage = 9 then s.onTag n t fun c => { c with stage := 1 } else s
      ((State.stageNext n t (c.count + 2) s1).writeStaged n t reads).writeEnd n t

/-! ## FLUSH (R379) -/

/-- FLUSH (R379): ends once every earlier write of the bay has; COMMIT_DL commits what is staged first. -/
def execFlush (n t : Nat) (full : Bool) (sectors : List Nat) (sysNext : Nat) (s : State) : Host.Outcome State Fault Refusal :=
  s.onBay n fun s => s.onGranted n t Op.FLUSH fun c =>
    if !c.waits.isEmpty then s
    else
      let k := (s.bay n).writing.staged.length
      let commit := c.wb.flag4 && k != 0
      let s1 := if commit then s.commitNow n full sectors sysNext else s
      let done := commit && (s1.bay n).writing.staged.isEmpty
      let st := if c.failedWr ≠ 0 then ST.FLUSH_INCOMPLETE else if commit && !done then ST.MEDIA_SYSTEM_FULL else ST.OK
      s1.endTag n { c with result := c.failedWr + 2 ^ 32 * (if done then k else 0) } st

/-! ## CLOSE_EXTENT (R390) -/

/-- The disc extent of item `k` of a CLOSE_EXTENT. -/
def State.closeX (s : State) (n : Nat) (c : Cmd) (k : Nat) : Nat :=
  (match s.partEntry n c with | some p => p.firstExt | none => 0) + c.wb.field 40 8 / 56 + k

/-- Begin the close of extent `k`, in order: one closed already counts as done; one without a buffer asks for it. -/
def State.closeOne (s : State) (n t k : Nat) (written : List Nat) (reads : List (Nat × Nat × PosSeen)) : State :=
  match s.tag? n t with
  | none => s
  | some c =>
    let x := s.closeX n c k
    if c.stop.isSome || c.staged.length != k then s
    else if s.extentClosed n x || written.contains x then
      ((s.markClosed n x).onTag n t fun c =>
        { c with already := c.already + 1, staged := c.staged ++ [k] }).setItem n t k 0
    else if (s.parityOf n x).isNone then
      if s.caddy.waiting.any fun w => w.2.2 == .parity n x then s else s.caddyRequest n 1 (.parity n x)
    else match s.closeExtent n t k x reads with
      | some s1 => s1.onTag n t fun c => { c with staged := c.staged ++ [k] }
      | none => (s.setItem n t k ST.UNCORRECTABLE).stopTag n t ST.UNCORRECTABLE

/-- CLOSE_EXTENT (R390): extents are closed by R307; the command ends with the last parity sector durable. -/
def execCloseExtent (n t : Nat) (written : List Nat) (reads : List (Nat × Nat × PosSeen)) (s : State) : Host.Outcome State Fault Refusal :=
  s.onBay n fun s => s.onGranted n t Op.CLOSE_EXTENT fun c =>
    if c.wb.flag4 then s
    else
      let s1 := (List.range c.count).foldl (fun s k => s.closeOne n t k written reads) s
      match s1.tag? n t with
      | none => s1
      | some d =>
        if (d.stop.isSome || d.staged.length == d.count) && !s1.tagWork n t then s1.endStopped n { d with result := d.closed.length + 2 ^ 32 * d.already }
        else s1

/-- Release every bay's parity buffer of an extent of a disc. -/
def State.freeParityAll (s : State) (disc x : Nat) : State :=
  (List.range 128).foldl (fun s m => s.freeParity m disc x) s

/-- CLOSE_EXTENT_ABANDON (R390): the parity buffers of the extents, held by any bay, are released and nothing is written. -/
def execCloseExtentAbandon (n t : Nat) (s : State) : Host.Outcome State Fault Refusal :=
  s.onBay n fun s => s.onGranted n t Op.CLOSE_EXTENT fun c =>
    if !c.wb.flag4 then s
    else ((List.range c.count).foldl (fun s k => s.freeParityAll (s.discId n) (s.closeX n c k)) s).endTagAt n c ST.OK 0xFFFFFFFF c.count

/-! ## MEDIA_SCAN (R391) -/

/-- Queue relocated copies of the recovered sectors of the extent read last (R391, R304). -/
def State.scanCopies (s : State) (n : Nat) (c : Cmd) : State :=
  (List.range 64).foldl (fun s p =>
    let i := 64 * c.scanX + p
    let home := s.homeOf n c i
    match c.items.find? (fun e => e.1 == i && (e.2.outcome == outRecovered || e.2.outcome == outReconstructed)),
      (s.bay n).reading.known.find? fun e => e.1 == home with
    | some _, some (_, b) => (s.onWrite n fun w => { w with reloc := w.reloc ++ [⟨noPsa, home, 2, 2, c.id, noItem, b, 64, false, false, 0, .waiting⟩] }).showWrite n
    | _, _ => s) s

/-- MEDIA_SCAN (R391): with an extent read, its lock entry is given up and one for the next is entered at the end; after the last
the command waits for its copies and ends. -/
def execMediaScan (n t : Nat) (s : State) : Host.Outcome State Fault Refusal :=
  s.onBay n fun s => s.onGranted n t Op.MEDIA_SCAN fun c =>
    let last := decide (c.wb.field 36 4 ≤ c.scanX)
    if c.stop.isSome || last then
      if c.stop.isNone && s.tagWork n t then s
      else (s.endStopped n { c with result := c.outcomes [outRecovered, outReconstructed] + 2 ^ 32 * c.outcomes [outUncorrectable] }).forgetReads n
    else if !(List.range 64).all fun p => c.items.has (64 * c.scanX + p) then s
    else
      let s1 := if c.wb.flag4 then s.scanCopies n c else s
      let x := c.wb.field 40 4 + c.scanX + 1
      let d : Cmd := { c with scanX := c.scanX + 1 }
      if c.wb.field 36 4 ≤ d.scanX then s1.setTag n d
      else
        let b := s1.bay n
        s1.setBay n { b with tags := (b.tags.filter fun u => u.id != t) ++ [{ d with granted := false, span := some (slotNumber x 0, slotNumber x 63) }] }

/-! ## Partitions and keys (R392 to R394) -/

/-- A new directory and Anchor (R56, R58) written for a command: the staged records go with them (R305) unless the list
would pass its limit (R382): then they stay staged and the directory's Anchor is written without them.  RESULT is as R392 gives it. -/
def State.newDirectory (s : State) (n : Nat) (c : Cmd) (id : Nat) (full : Bool) (dirPsa : Nat) (sectors : List Nat) (sysNext : Nat)
    (f : List PartEntry → List PartEntry) : State :=
  let staged := (s.bay n).writing.staged
  let quota := !staged.isEmpty && !s.dlRoom n
  let s0 := if quota then s.commitFail n ST.DL_QUOTA else s
  if full then (if staged.isEmpty || quota then s0 else s0.commitFail n ST.MEDIA_SYSTEM_FULL).endTag n c ST.MEDIA_SYSTEM_FULL
  else
    let done := if quota then
        (((s0.onWrite n fun w => { w with staged := [] }).commitDone n [] sysNext).onWrite n fun w => { w with staged := staged }).showWrite n
      else s0.commitDone n sectors sysNext
    let s1 := done.onDisc n fun d => { d with dir := f d.dir, anchor := d.anchor.map fun a => { a with dir := dirPsa } }
    let seq := match (s1.bay n).disc.anchor with | some a => a.seq | none => 0
    s1.endTag n { c with result := id + 2 ^ 32 * (seq % 2 ^ 32) } ST.OK

/-- PARTITION_CREATE (R392): `full` says that slots for it are lacking; `dirPsa`, `sectors` and `sysNext` where the directory
and the defect-list sectors were written and what is the next free system slot. -/
def execPartitionCreate (n t : Nat) (full : Bool) (dirPsa : Nat) (sectors : List Nat) (sysNext : Nat) (s : State) :
    Host.Outcome State Fault Refusal :=
  s.onBay n fun s => s.onGranted n t Op.PARTITION_CREATE fun c =>
    let w := c.wb
    let e : PartEntry := ⟨1, b2n w.flag4, w.field 32 4, w.field 36 4, s.rtc, 0, s.writer, ofBytesBE ((w.param.drop 16).take 16), w.field 40 8⟩
    s.newDirectory n c (s.bay n).disc.dir.length full dirPsa sectors sysNext fun l => l ++ [e]

/-- PARTITION_RETIRE (R393). -/
def execPartitionRetire (n t : Nat) (full : Bool) (dirPsa : Nat) (sectors : List Nat) (sysNext : Nat) (s : State) :
    Host.Outcome State Fault Refusal :=
  s.onBay n fun s => s.onGranted n t Op.PARTITION_RETIRE fun c =>
    match s.partEntry n c with
    | none => s
    | some p =>
      let id := c.wb.field 32 2
      let disc := s.discId n
      let inPart := fun (b : ParityBuf) => b.disc == disc && decide (p.firstExt ≤ b.x) && decide (b.x < p.firstExt + p.extCount)
      let s1 := (List.range 128).foldl (fun s m => ((s.bay m).writing.parity.filter inPart).foldl (fun s b => s.freeParity m disc b.x) s) s
      let s2 := s1.onDisc n fun d => { d with binds := d.binds.erase id }
      s2.newDirectory n c id full dirPsa sectors sysNext fun l => l.set id { p with state := 2, retired := s.rtc }

/-- KEY_BIND (R394). -/
def execKeyBind (n t : Nat) (s : State) : Host.Outcome State Fault Refusal :=
  s.onBay n fun s => s.onGranted n t Op.KEY_BIND fun c =>
    let part := c.wb.field 32 2
    let slot := c.wb.field 34 2
    (s.onDisc n fun d => { d with binds := if slot = 0xFFFF then d.binds.erase part else d.binds.put part slot }).endTag n c ST.OK

/-! ## MOUNT (R382) -/

/-- The defect list of an Anchor (R51), newest record first, from the sectors read; none where one of them is not valid. -/
def walkDefects (dl : List (Nat × Option (List Byte))) : Nat → Nat → Option (List DefectRec)
  | 0, p => if p = noPsa then some [] else none
  | k + 1, p =>
    if p = noPsa then some []
    else match dl.find? fun e => e.1 == p with
      | some (_, some l) => (parseDefectSector l).bind fun (prev, recs) => (walkDefects dl k prev).map fun r => recs.reverse ++ r
      | _ => none

/-- Begin the spin-up of a mount (R382 step 1, R564): both steppers home meanwhile. -/
def State.mountStart (s : State) (n kind value : Nat) : State :=
  let s1 := (s.setBayState n BS.SPINUP kind value).onSpin n fun p => { p with fails := 0 }
  ((s1.spinUp n).stepHome false n).stepHome true n

/-- A MOUNT fails after its disc has been read: nothing is written to the disc, and the bay parks. -/
def State.mountFail (s : State) (n : Nat) (c : Cmd) (status : Nat) : State :=
  let i := c.wb.field 32 4
  let s1 := if i = 0xFFFFFFFF then s else s.emit (.hostWrite (s.mtAddr i + 42) (bytesLE 2 s.writer ++ bytesLE 1 n ++ bytesLE 1 3))
  let s2 := (s1.bay n).disc.dlBufs.foldl (fun s p => s.freePtr n p) (s1.caddyCancel (.defects n))
  (((s2.caddyServe).parkBay n Why.command (Op.MOUNT + 256 * c.id)).endMount n).endRefused n c status

/-- What steps 2 and 3 of R382 find: the status they fail with, or the disc. -/
def State.mountRead (s : State) (n : Nat) (c : Cmd) (copies anchors : List (Option (List Byte))) (dir : Option (List Byte))
    (dl : List (Nat × Option (List Byte))) : Nat × DiscS :=
  let old := (s.bay n).disc
  match parseInfo copies with
  | none => (ST.MEDIA_FORMAT, old)
  | some i =>
    if c.wb.flag4 ∧ i.discId ≠ c.wb.field 48 16 then (ST.DISC_MISMATCH, old)
    else match anchorInForce i.discId anchors with
      | none => (0, { old with info := some i })
      | some a =>
        let d := if a.dir = noPsa then some [] else dir.bind (parseDirectory a.seq)
        match d, walkDefects dl (dl.length + 1) a.dlHead with
        | some parts, some recs =>
          let q := s.get (R.CADDY_QUOTA.Q1M n)
          if q ≠ 255 ∧ q - 2 < (recs.length + 65535) / 65536 then (ST.DL_QUOTA, old)
          else (0, { old with info := some i, anchor := some a, dir := parts, defects := recs, sysNext := a.sysNext })
        | _, _ => (ST.MEDIA_FORMAT, old)

/-- A suspended mount ends when its disc has been read (R564 step 3): as for a domain that goes `OFF`; the bay parks. -/
def State.mountLost (s : State) (n : Nat) : State :=
  let s1 := ((s.resumeFails n 3).staleJournal n 5).onWrite n fun w => { w with staged := [] }
  let s2 := (s1.bay n).disc.dlBufs.foldl (fun s p => s.freePtr n p) s1
  ((s2.caddyServe.showWrite n).endMount n).parkBay n Why.sequence 0

/-- A suspended mount compares its disc (R564): the same identity resumes it, another one ends it. -/
def State.mountResume (s : State) (n : Nat) (copies : List (Option (List Byte))) : State :=
  match parseInfo copies, (s.bay n).disc.info with
  | some i, some j =>
    if i.discId = j.discId then (s.onDisc n fun d => { d with suspend := false }).zero (R.BAY_CTL.SUSP n) else s.mountLost n
  | _, _ => s.mountLost n

/-- MOUNT (R382): started; once the bay has focus and no calibration runs, the disc's structures are read: the copies of the
information block, the Anchor slots, the directory sector and the sectors of the defect list; the command ends when the
buffers of the list are held.  With no MOUNT of the tag in flight a suspended mount reads its disc again (R564). -/
def execMount (n t : Nat) (copies anchors : List (Option (List Byte))) (dir : Option (List Byte)) (dl : List (Nat × Option (List Byte)))
    (s : State) : Host.Outcome State Fault Refusal :=
  s.onBay n fun s =>
    let ready := [BS.READY, BS.ACTIVE].contains (s.bayState n)
    let focused := ready || s.bayState n == BS.CAL
    if (s.bay n).disc.suspend then (if ready then s.mountResume n copies else s)
    else s.onGranted n t Op.MOUNT fun c =>
      if c.stage = 0 then
        let s1 := ((s.mountStart n Why.command (Op.MOUNT + 256 * t)).zero (R.TRK_FALLBACK.LAYERS n)).onTag n t fun c => { c with stage := 1 }
        let old := (List.range 512).filter fun i =>
          let e := s1.ztEntry n i
          zCrcOk e && (zU e 2 1 == zValid || zU e 2 1 == zUnsettled)
        if s.on (R.CAL_CTL.KEEP n) then s1 else old.foldl (fun s i => s.ztMark n i zStale) s1
      else if c.stage = 1 ∧ focused then
        let (st, d) := s.mountRead n c copies anchors dir dl
        if st ≠ 0 then (if ready then s.mountFail n c st else s)
        else
          let need := (d.defects.length + 65535) / 65536
          let s1 := (s.onDisc n fun _ => { d with mtIndex := if c.wb.field 32 4 = 0xFFFFFFFF then none else some (c.wb.field 32 4) }).onTag n t
            fun c => { c with stage := 2 }
          (List.range need).foldl (fun s _ => s.caddyRequest n 2 (.defects n)) s1
      else if c.stage = 2 ∧ focused then
        let d := (s.bay n).disc
        if d.dlBufs.length < (d.defects.length + 65535) / 65536 then s
        else
          let s1 := match d.mtIndex with | some i => s.mtWrite n i 1 | none => s
          let (seq, total) := match d.anchor with | some a => (a.seq, a.dlTotal) | none => (0, 0)
          s1.endTag n { c with result := seq % 2 ^ 32 + 2 ^ 32 * d.dir.length + 2 ^ 40 * min 0xFFFFFF total } ST.OK
      else s

/-! ## UNMOUNT (R383) -/

/-- UNMOUNT (R383): a calibration ends; extents are closed where asked; what is staged is committed; the bay parks; the record is
written and the mount's remains go. -/
def execUnmount (n t : Nat) (reads : List (Nat × Nat × PosSeen)) (full : Bool) (sectors : List Nat) (sysNext : Nat) (s : State) :
    Host.Outcome State Fault Refusal :=
  s.onBay n fun s => s.onGranted n t Op.UNMOUNT fun c =>
    if c.stage = 0 then
      if (s.bay n).cal.run.isSome then s
      else
        let mine := ((s.bay n).writing.parity.filter fun p => p.disc == s.discId n).map (·.x)
        let s1 := (s.onCal n fun c => { c with queue := [] }).onTag n t fun c => { c with stage := 1 }
        if c.wb.flag4 then mine.foldl (fun s x => (s.closeExtent n t noItem x reads).getD (s.stopTag n t ST.UNCORRECTABLE)) s1 else s1
    else if c.stage = 1 then
      if s.tagWork n t then s
      else
        let commit := !(s.bay n).writing.staged.isEmpty
        let s1 := if commit then s.commitNow n full sectors sysNext else s
        let failed := commit && !(s1.bay n).writing.staged.isEmpty
        let s2 := (s1.onTag n t fun c => { c with stage := 2, stop := if failed then some ST.MEDIA_SYSTEM_FULL else c.stop }).onDisc n fun d =>
          { d with binds := [], dlBufs := [] }
        let s3 := ((s1.bay n).disc.dlBufs.foldl (fun s p => s.freePtr n p) s2).caddyServe
        s3.parkBay n Why.command (Op.UNMOUNT + 256 * t)
    else if s.bayState n ≠ BS.EMPTY ∧ s.bayState n ≠ BS.OFF then s
    else
      let s1 := match (s.bay n).disc.mtIndex with | some i => s.mtWrite n i 2 | none => s
      let s2 := if (s1.bay n).writing.journal.any fun e => e.2.state == 3 && !e.2.stale then s1.staleJournal n 6 else s1
      let s3 := (s2.onWrite n fun w => { w with staged := [] }).showWrite n
      (s3.endMount n).endTag n c (c.stop.getD ST.OK)

/-! ## TABLE_READ of a raw slot (R395) -/

/-- TABLE_READ_RAW_SLOT (R395): at the slot's first period the capture begins; at its last its samples are delivered. -/
def execTableReadRawSlot (n t : Nat) (s : State) : Host.Outcome State Fault Refusal :=
  s.onBay n fun s => s.onGranted n t Op.TABLE_READ fun c =>
    let len := c.wb.field 48 4
    let a := slotOfPsa (c.wb.field 36 4)
    if c.stage = 0 then
      let here := s.get (R.FT_STAT.LAYER n) == a.layer && s.getTrack (R.FT_STAT.TRACK n) == a.track && s.motionIdle n && (s.bay n).sched.seg == some (.tag t)
      if here then (s.onRead n fun r => { r with raw := some ((len + 2) / 3, []) }).onTag n t fun c => { c with stage := 1 } else s
    else match (s.bay n).reading.raw with
      | none => s.onTag n t fun c => { c with stage := 0 }
      | some (_, l) =>
        let data := l.take len
        let s1 := (s.onRead n fun r => { r with raw := none }).hostPut (locPieces c.loc 0 data.length) data
        s1.endTag n { c with result := data.length / 3 } ST.OK

end Sys2Proof.Machine
end

