-- ==== Sys2Proof/Machine/UnitCmd.lean ====
section
/-!
DEFINITION. Unit commands on data: TABLE_LOAD and TABLE_READ (R395), the stripe code and its commands (R420 to R426), and FIXITY
(R430).
-/

namespace Sys2Proof.Machine

/-- Run the meaning of a unit command. -/
def State.onUnit (s : State) (k : Nat) (op : Nat) (f : Cmd → State) : Host.Outcome State Fault Refusal :=
  .next (match s.unit? k with
    | some c => if c.wb.opcode = op then f c else s
    | none => s)

/-- End a unit command that its checks refuse: nothing is read or written. -/
def State.refuseUnit (s : State) (c : Cmd) (status : Nat) : State := s.endUnit c status 0 0

/-! ## TABLE_LOAD and TABLE_READ (R395) -/

/-- Whether a DRAM range meets the zone table of a bay that uses it. -/
def State.tableInUse (s : State) (lo len : Nat) : Bool :=
  (List.range 128).any fun n => s.bayPresent n && s.on (R.RC_CTL.ZT_OK n) && meets lo (lo + len) (s.ztBase n) (s.ztBase n + 131072)

/-- The first entry of a zone table that fails its check. -/
def badEntry (l : List Byte) : Option Nat :=
  (List.range 512).find? fun i =>
    let e := (l.drop (256 * i)).take 256
    !(zCrcOk e && zU e 0 1 == i / 32 && zU e 1 1 == i % 32)

/-- A TABLE_LOAD: its range is checked and its data asked for; with all of it come, it is checked and written. -/
def State.tableLoad (s : State) (c : Cmd) (zone : Bool) (data : List Byte) (seen : MemSeen) : State :=
  let lo := c.wb.field 40 8
  let len := c.wb.field 48 4
  if (c.wb.field 32 1 == 1) != zone then s
  else if c.stage = 0 then
    if !s.rangeOk lo len then s.refuseUnit c ST.BAD_FIELD
    else if s.tableInUse lo len then s.refuseUnit c ST.TABLE_BUSY
    else (s.setUnit { c with stage := 1 }).hostGet (128 + c.sring) c.loc
  else
    let l := c.buf ++ data
    if l.length < len then s.setUnit { c with buf := l }
    else match (if zone then badEntry l else none) with
      | some i => s.endUnit c ST.TABLE_BAD i 0
      | none => match s.memWrite false idPorter lo (l.take len) seen with
        | (.done _, s1) => s1.endUnit c ST.OK 0xFFFFFFFF 0
        | (_, s1) => s1.setUnit { c with buf := l }

/-- TABLE_LOAD_RAW (R395): `data` is what has come of the command's data since. -/
def execTableLoadRaw (k : Nat) (data : List Byte) (seen : MemSeen) (s : State) : Host.Outcome State Fault Refusal :=
  s.onUnit k Op.TABLE_LOAD fun c => s.tableLoad c false data seen

/-- TABLE_LOAD_ZONE (R395). -/
def execTableLoadZone (k : Nat) (data : List Byte) (seen : MemSeen) (s : State) : Host.Outcome State Fault Refusal :=
  s.onUnit k Op.TABLE_LOAD fun c => s.tableLoad c true data seen

/-- TABLE_READ_DRAM (R395). -/
def execTableReadDram (k : Nat) (seen : MemSeen) (s : State) : Host.Outcome State Fault Refusal :=
  s.onUnit k Op.TABLE_READ fun c =>
    let lo := c.wb.field 40 8
    let len := c.wb.field 48 4
    if !s.rangeOk lo len then s.refuseUnit c ST.BAD_FIELD
    else match s.memRead false idPorter lo len seen with
      | (.done l, s1) => (if c.discard then s1 else s1.hostPut c.loc l).endUnit c ST.OK 0xFFFFFFFF 0
      | (.uncorr a, s1) => s1.channelFail (128 + c.sring) 5 a k []
      | (_, s1) => s1

/-! ## The stripe code (R420, R421) -/

/-- The share that source shard `j` of the sources `src` has in shard `i`: row i of G times the inverse of the rows of the sources.
Since row i of V evaluates a polynomial of degree below k at α^i, that is Lagrange's coefficient over the points of the sources. -/
def stripeShare (src : List Nat) (i j : Nat) : Nat :=
  src.foldl (fun p l => if l = j then p else gfMul p (gfMul (gfPow2 i ^^^ gfPow2 l) (gfInv (gfPow2 j ^^^ gfPow2 l)))) 1

/-- A segment of shard `i` from the segments of the sources. -/
def stripeSegment (src : List (Nat × List Byte)) (len i : Nat) : List Byte :=
  let ks := src.map (·.1)
  src.foldl (fun (acc : List Byte) (x : Nat × List Byte) =>
    let g := stripeShare ks i x.1
    acc.zipWith (fun (a b : Byte) => a ^^^ BitVec.ofNat 8 (gfMul g b.toNat)) x.2) (List.replicate len 0)

/-! ## Stripe commands (R422 to R426) -/

/-- K, M and SHARD_LEN of a stripe command. -/
def Cmd.sk (c : Cmd) : Nat := c.wb.field 32 1
@[inherit_doc Cmd.sk] def Cmd.sm (c : Cmd) : Nat := c.wb.field 33 1
@[inherit_doc Cmd.sk] def Cmd.slen (c : Cmd) : Nat := c.wb.field 36 4

/-- Whether a command is STRIPE_ENCODE. -/
def Cmd.encodes (c : Cmd) : Bool := c.wb.opcode == Op.STRIPE_ENCODE

/-- The shards a command reads (R423). -/
def Cmd.sources (c : Cmd) : List Nat :=
  if c.encodes then List.range c.sk else ((List.range (c.sk + c.sm)).filter (bitAt (c.wb.field 40 8))).take c.sk

/-- The shards it writes. -/
def Cmd.outputs (c : Cmd) : List Nat :=
  if c.encodes then (List.range c.sm).map (c.sk + ·) else (List.range (c.sk + c.sm)).filter (bitAt (c.wb.field 48 8))

/-- The first check of R424. -/
def Cmd.stripeFields (c : Cmd) : Bool :=
  let n := c.sk + c.sm
  let avail := c.wb.field 40 8
  let want := c.wb.field 48 8
  decide (1 ≤ c.sk) && decide (c.sk ≤ 48) && decide (1 ≤ c.sm) && decide (c.sm ≤ 12) && c.slen % 4096 == 0 && decide (4096 ≤ c.slen) &&
  decide (c.slen ≤ 67108864) && c.wb.dlen == 32 * n &&
  (if c.encodes then avail == 0 && want == 0 else decide (avail < 2 ^ n) && decide (want < 2 ^ n) && (avail &&& want) == 0 && want != 0)

/-- A field of entry `i` of the shard table. -/
def Cmd.shardField (c : Cmd) (i off k : Nat) : Nat := ofBytesLE ((c.buf.drop (32 * i + off)).take k)

/-- KIND of shard `i`. -/
def Cmd.shardKind (c : Cmd) (i : Nat) : Nat := c.shardField i 0 1

/-- ADDR of shard `i`. -/
def Cmd.shardAddr (c : Cmd) (i : Nat) : Nat := c.shardField i 8 8

/-- Whether an entry read or written has a defined KIND, an aligned address and a valid range (R422). -/
def State.shardOk (s : State) (c : Cmd) (i : Nat) : Bool :=
  let a := c.shardAddr i
  match c.shardKind i with
  | 0 => a % 64 == 0
  | 1 => a % 4096 == 0 && decide (a < 2 ^ 40) && s.rangeOk a c.slen
  | 2 => a % 4096 == 0 && decide (c.shardField i 17 1 ≤ 2)
  | _ => false

/-- The other checks of R424 in order: a status, 0 where all pass. -/
def State.stripeStatus (s : State) (c : Cmd) : Nat :=
  let used := c.sources ++ c.outputs
  let sel := c.wb.field 34 1
  let remote := used.any fun i => c.shardKind i == 2
  let q := s.get (fQuota 1 idStripe)
  if !(used.all (s.shardOk c)) || !fixOk sel (c.wb.field 56 8) || c.wb.field 56 8 % 64 != 0 then ST.BAD_FIELD
  else if q ≠ 255 ∧ q < used.length then ST.BAD_FIELD
  else if remote && !s.variant.fabric then ST.UNIT_ABSENT
  else if remote && !s.on R.MC_UID.VALID then ST.NO_UNIT_ID
  else if remote && used.any (fun i => c.shardKind i == 2 && c.shardField i 2 2 == s.get R.MC_UID.ID) then ST.BAD_FIELD
  else if c.sources.length < c.sk then ST.STRIPE_SHORT
  else 0

/-- Bytes of segment `g` of a shard (R425). -/
def Cmd.segLen (c : Cmd) (g : Nat) : Nat := min 65536 (c.slen - 65536 * g)

/-- Ask for the present segment of every source in host memory. -/
def State.stripeFetch (s : State) (c : Cmd) : State :=
  (c.sources.filter fun i => c.shardKind i == 0).foldl (fun s i => s.emit (.hostRead 385 (c.shardAddr i + 65536 * c.scanX) (c.segLen c.scanX))) s

/-- Open the transfers of the remote shards: the status that one of them fails with, or 0. -/
def State.stripeOpen (c : Cmd) : List (Nat × Bool) → State → Nat × State
  | [], s => (0, s)
  | (i, get) :: rest, s =>
    if c.shardKind i ≠ 2 then State.stripeOpen c rest s
    else
      let (st, s1) := s.openXfer (c.shardField i 17 1) (c.shardField i 2 2) get (c.shardField i 16 1) (c.shardField i 20 4) (c.shardAddr i) c.slen
        (.shard c.id i) none []
      if st ≠ 0 then (st, s1) else State.stripeOpen c rest s1

/-- Begin a command whose turn has come: the engine serves one at a time, in the order Porter fetched them (R425). -/
def State.stripeTurn (s : State) (c : Cmd) : State :=
  let l := s.units.filter fun d => d.wb.opcode == Op.STRIPE_ENCODE || d.wb.opcode == Op.STRIPE_REBUILD
  if l.any (fun d => decide (3 ≤ d.stage)) || (l.head?.map (·.id)) != some c.id || s.channelHalted 385 then s.stripeShow
  else
    let d : Cmd := { c with stage := 3 }
    let (st, s1) := State.stripeOpen d (d.sources.map (·, true) ++ d.outputs.map (·, false)) ((s.setUnit d).stripeShow)
    if st ≠ 0 then s1.endUnit d st 0 0 else s1.stripeFetch d

/-- A stripe command: its fields are checked and its shard table is read, the table is checked, and its turn comes. -/
def State.stripeStep (s : State) (c : Cmd) (table : List Byte) : State :=
  if c.stage = 0 then
    if !c.stripeFields then s.refuseUnit c ST.BAD_FIELD
    else ((s.setUnit { c with stage := 1 }).emit (.hostRead 385 c.wb.daddr c.wb.dlen)).stripeShow
  else if c.stage = 1 then
    let d : Cmd := { c with buf := table, stage := 2, count := c.outputs.length }
    let st := s.stripeStatus d
    if st ≠ 0 then s.refuseUnit c st else (s.setUnit d).stripeTurn d
  else if c.stage = 2 then s.stripeTurn c
  else s

/-- STRIPE_ENCODE (R423): `table` is its shard table as read. -/
def execStripeEncode (k : Nat) (table : List Byte) (s : State) : Host.Outcome State Fault Refusal :=
  s.onUnit k Op.STRIPE_ENCODE fun c => s.stripeStep c table

/-- STRIPE_REBUILD (R423). -/
def execStripeRebuild (k : Nat) (table : List Byte) (s : State) : Host.Outcome State Fault Refusal :=
  s.onUnit k Op.STRIPE_REBUILD fun c => s.stripeStep c table

/-- The segments of a command's sources, in shard order: from host memory as `data` gives them, from DRAM, and from what its
transfers have brought.  `none` inside where one is not there yet. -/
def State.stripeRead (c : Cmd) (data : List (Nat × List Byte)) (seen : MemSeen) : List Nat → State → Option (List (Nat × List Byte)) × State
  | [], s => (some [], s)
  | i :: rest, s =>
    let len := c.segLen c.scanX
    let off := 65536 * c.scanX
    let go := fun (l : List Byte) (s : State) =>
      match State.stripeRead c data seen rest s with
      | (some r, s1) => (some ((i, l) :: r), s1)
      | (none, s1) => (none, s1)
    match c.shardKind i with
    | 0 => match data.find? fun e => e.1 == i with
      | some (_, l) => if l.length = len then go l s else (none, s)
      | none => (none, s)
    | 1 => match s.memRead false idStripe (c.shardAddr i + off) len seen with
      | (.done l, s1) => go l s1
      | (.uncorr a, s1) => (none, s1.channelFail 385 5 a c.id [])
      | (_, s1) => (none, s1)
    | _ => match s.fab.xfers.find? fun x => x.use == .shard c.id i with
      | some x => if off + len ≤ x.data.length then go ((x.data.drop off).take len) s else (none, s)
      | none => (none, s)

/-- Write the present segment of output shard `i`. -/
def State.stripeWrite (s : State) (c : Cmd) (i : Nat) (l : List Byte) : State :=
  let off := 65536 * c.scanX
  match c.shardKind i with
  | 0 => s.emit (.hostWrite (c.shardAddr i + off) l)
  | 1 => (s.memWrite false idStripe (c.shardAddr i + off) l {}).2
  | _ => (s.onFab fun f => { f with xfers := f.xfers.map fun x => if x.use = .shard c.id i then { x with data := x.data ++ l } else x }).pumpUse (.shard c.id i)

/-- The end of a stripe command (R425, R426): every output has been written, the remote ones acknowledged. -/
def State.stripeEnd (s : State) (c : Cmd) : State :=
  let mine := fun (x : Xfer) => match x.use with | .shard k _ => k == c.id && !x.get | _ => false
  if s.fab.xfers.any fun x => mine x && !x.done then s
  else
    let sel := c.wb.field 34 1
    let s1 := (s.fab.xfers.filter mine).foldl (fun s x => s.dropXfer x) s
    let s2 := if sel = 0 then s1
      else c.shards.foldl (fun s e => s.writeFix (c.wb.field 56 8 + 64 * e.1) (fixRecord sel e.2 false false false)) s1
    let s3 := if c.encodes then s2.count R.STRIPE_CNT.ENCODED 1 else s2.count R.STRIPE_CNT.REBUILT 1
    s3.endUnit c ST.OK 0xFFFFFFFF c.count

/-- STRIPE_SEGMENT_DONE (R425): a segment of every source has been read; the outputs' are computed and written. -/
def execStripeSegmentDone (k : Nat) (data : List (Nat × List Byte)) (seen : MemSeen) (s : State) : Host.Outcome State Fault Refusal :=
  .next (match s.unit? k with
    | none => s
    | some c =>
      if c.stage = 4 then s.stripeEnd c
      else if c.stage ≠ 3 ∨ s.channelHalted 385 then s
      else match State.stripeRead c data seen c.sources s with
        | (none, s1) => s1
        | (some src, s1) =>
          let len := c.segLen c.scanX
          let out := c.outputs.map fun i => (i, stripeSegment src len i)
          let total := s1.get R.STRIPE_BYTES_LO.BYTES + 2 ^ 32 * s1.get R.STRIPE_BYTES_HI.BYTES + len * src.length
          let s2 := s1.putPair R.STRIPE_BYTES_LO.BYTES R.STRIPE_BYTES_HI.BYTES (min (2 ^ 64 - 1) total)
          let keep := c.wb.field 34 1 != 0
          let d : Cmd := { c with
            scanX := c.scanX + 1
            shards := if keep then (src ++ out).foldl (fun (m : Sparse (List Byte)) e => m.put e.1 (Sparse.get [] m e.1 ++ e.2)) c.shards else [] }
          let s3 := out.foldl (fun s e => s.stripeWrite c e.1 e.2) (s2.setUnit d)
          match s3.unit? k with
          | none => s3
          | some _ =>
            if 65536 * d.scanX < c.slen then s3.stripeFetch d
            else
              let e : Cmd := { d with stage := 4, items := (List.range d.outputs.length).map fun i => (i, { outcome := 0, fail := 0 }) }
              (s3.setUnit e).stripeEnd e)

/-! ## FIXITY (R430) -/

/-- Whether a range lies within installed DRAM. -/
def State.installedOk (s : State) (lo len : Nat) : Bool :=
  let hi := lo + len
  decide (hi ≤ 2 ^ 40) && (List.range 8).all fun ch =>
    !meets lo hi (2 ^ 37 * ch) (2 ^ 37 * (ch + 1)) || (decide (0 < s.chanSize ch) && !meets lo hi (2 ^ 37 * ch + s.chanSize ch) (2 ^ 37 * (ch + 1)))

/-- Whether the fields of FIXITY lie in their ranges. -/
def State.fixityOk (s : State) (c : Cmd) : Bool :=
  let w := c.wb
  let len := w.field 40 8
  decide (1 ≤ w.field 32 1) && decide (w.field 32 1 ≤ 3) && decide (w.field 33 1 ≤ 1) && decide (1 ≤ len) && decide (len ≤ 2 ^ 40) && w.field 56 8 % 64 == 0 &&
  (if w.field 33 1 = 1 then decide (w.field 48 8 < 2 ^ 40) && s.installedOk (w.field 48 8) len
   else len % 4 == 0 && (c.loc.map (·.2)).sum == len && w.field 48 8 == 0)

/-- The record of a FIXITY over its string, and the command's end. -/
def State.fixityEnd (s : State) (c : Cmd) (l old : List Byte) : State :=
  let sel := c.wb.field 32 1
  let crc := c.wb.flag4 && bitAt sel 0 && ofBytesLE ((old.drop 16).take 8) != crc64 l
  let sha := c.wb.flag4 && bitAt sel 1 && (old.drop 24).take 32 != sha256 l
  let bad := crc || sha
  let s1 := s.writeFix (c.wb.field 56 8) (fixRecord sel l false false bad)
  let s2 := if bad then s1.count R.FIX_CNT.MISMATCH 1 else s1
  s2.endUnit { c with result := b2n crc + 2 * b2n sha } (if bad then ST.FIXITY_MISMATCH else ST.OK) 0xFFFFFFFF 0

/-- FIXITY (R430): its fields are checked and its data and the expected record are asked for; then `data` is its string where it
comes from host memory, and `old` the record read. -/
def execFixity (k : Nat) (data old : List Byte) (seen : MemSeen) (s : State) : Host.Outcome State Fault Refusal :=
  s.onUnit k Op.FIXITY fun c =>
    let dram := c.wb.field 33 1 == 1
    if c.stage = 0 then
      if !s.fixityOk c then s.refuseUnit c ST.BAD_FIELD
      else
        let s1 := s.setUnit { c with stage := 1 }
        let s2 := if c.wb.flag4 then s1.emit (.hostRead 386 (c.wb.field 56 8) 64) else s1
        if dram then s2 else s2.hostGet 386 c.loc
    else if s.channelHalted 386 then s
    else if dram then
      match s.memRead false idFxc (c.wb.field 48 8) (c.wb.field 40 8) seen with
      | (.done l, s1) => s1.fixityEnd c l old
      | (.uncorr a, s1) => s1.channelFail 386 5 a k []
      | (_, s1) => s1
    else if data.length = c.wb.field 40 8 then s.fixityEnd c data old
    else s

end Sys2Proof.Machine
end

