-- ==== Sys2Proof/Machine/Modes.lean ====
section
/-!
DEFINITION. Operating modes (R553 to R557), `CURFEW` (R558 to R561, R650), the entry to `SHUTDOWN` (R562), mode proposals (R540,
R541), and the chain frames that carry them (R525 to R528).
-/

namespace Sys2Proof.Machine

/-! ## The transition table (R555) -/

/-- Whether a present bay stands in a state that has applied any change (R556), or that lets `SHUTDOWN` be entered (R555). -/
def State.bayAtRest (s : State) (n : Nat) : Bool :=
  [BS.ABSENT, BS.OFF, BS.LINKING, BS.BRINGUP, BS.EMPTY, BS.FAULT].contains (s.bayState n)

/-- Whether a change to mode `t` may be requested (R555): 0, or the status that a request is refused with. -/
def State.modeStatus (s : State) (t : Nat) : Nat :=
  let run := t == 1 || t == 2
  let ok := match s.mode with
    | 0 => (run && s.on R.DRAM_CTL.FILL_DONE && s.on R.CADDY_CTL.EN) || t == 3 || t == 4
    | 1 => t == 2 || t == 3 || t == 4
    | 2 => t == 1 || t == 3 || t == 4
    | 3 => run || t == 0 || t == 5 || t == 4
    | 4 => t == 3 || t == 5
    | _ => false
  if !ok then ST.MODE_TRANSITION
  else if s.mode = 4 ∧ t = 3 ∧ s.get R.CURFEW_CAUSE.CAUSE % 16 ≠ 0 then ST.MODE_CAUSE
  else 0

/-- Whether a pending change applies now (R555, R556). -/
def State.modeReady (s : State) (p : PendingMode) : Bool :=
  if p.target = 3 ∧ (s.mode = 1 ∨ s.mode = 2) then p.bays.isEmpty
  else if s.mode = 3 ∧ p.target = 0 then s.noCommand
  else if s.mode = 3 ∧ p.target = 5 then s.noCommand && (List.range s.variant.bays).all s.bayAtRest
  else true

/-- The bays that have still to reach their safe point when a change is requested (R556). -/
def State.bayWait (s : State) (t : Nat) : List Nat :=
  if t = 3 ∧ (s.mode = 1 ∨ s.mode = 2) then
    (List.range s.variant.bays).filter fun n => !s.bayAtRest n && (s.bay n).sched.seg.isSome
  else []

/-- Show the pending change (R546, R576). -/
def State.showPend (s : State) : State :=
  match s.pendMode with
  | none => ((((s.zero R.MODE_STAT.PENDING).zero R.MODE_STAT.TARGET).zero R.EPOCH_CTL.PENDING).zero R.EPOCH_CTL.PEND_TARGET).zero R.EPOCH_PEND.E
  | some p =>
    let s1 := (s.raise R.MODE_STAT.PENDING).put R.MODE_STAT.TARGET p.target
    match p.proposal with
    | some (_, e) => ((s1.raise R.EPOCH_CTL.PENDING).put R.EPOCH_CTL.PEND_TARGET p.target).put R.EPOCH_PEND.E e
    | none => s1

/-- Make a change pending, or none. -/
def State.setPend (s : State) (p : Option PendingMode) : State := { s with pendMode := p }.showPend

/-- The mode changes (R554): record, count, PREV, trace.  A sequencer that is STOPPED resumes when the unit leaves `MAINTENANCE`
(R509). -/
def State.changeMode (s : State) (t cause : Nat) : State :=
  let old := s.mode
  let s1 := ((s.put R.MODE_STAT.PREV old).put R.MODE_STAT.MODE t).put R.MODE_STAT.CHG_COUNT (s.get R.MODE_STAT.CHG_COUNT + 1)
  let s2 := (s1.record srcPower 0x1201 [old, t, cause, s1.get R.EPOCH.EPOCH]).trace 3 srcPower 1 0 old t
  if old = 2 then s2.resumeStopped else s2

/-! ## Proposals answered (R541, R540) -/

/-- RESULT values of MODE_ACK (R541). -/
def ackApplied : Nat := 0
@[inherit_doc ackApplied] def ackDuplicate : Nat := 1
@[inherit_doc ackApplied] def ackStale : Nat := 2
@[inherit_doc ackApplied] def ackRefused : Nat := 3
@[inherit_doc ackApplied] def ackCause : Nat := 4
@[inherit_doc ackApplied] def ackTimeout : Nat := 5
@[inherit_doc ackApplied] def ackSuperseded : Nat := 6

/-- An acknowledgement counted by a proposal of this unit. -/
def Proposer.count (x : Proposer) (unit res : Nat) : Proposer :=
  if res = ackApplied ∨ res = ackDuplicate then { x with yes := x.yes + 1, units := if x.units.contains unit then x.units else x.units ++ [unit] }
  else { x with others := x.others + 1, refused := x.refused || res == ackRefused, caused := x.caused || res == ackCause,
                late := x.late || res == ackTimeout }

/-- Whether a proposal has the acknowledgements it waits for (R540). -/
def State.proposerDone (s : State) (x : Proposer) : Bool :=
  let u := s.get R.MC_UNITS.UNITS
  u != 0 && decide (u ≤ x.units.length)

/-- The receipt of a proposal (R540). -/
def State.proposerEnd (s : State) (x : Proposer) : State :=
  let short := s.get R.MC_UNITS.UNITS != 0 && !s.proposerDone x
  let st := if x.refused then ST.MODE_TRANSITION else if x.caused then ST.MODE_CAUSE else if short || x.late then ST.MODE_TIMEOUT else ST.OK
  let s1 := s.onChain fun c => { c with props := c.props.filter fun y => y.id != x.id }
  match s1.unit? x.id with
  | some c => s1.endUnit { c with result := x.yes % 2 ^ 16 + 2 ^ 16 * (x.others % 2 ^ 16) } st (if st = ST.OK then 0xFFFFFFFF else 0) 0
  | none => s1

/-- Count an acknowledgement of epoch `e`, and end the proposals that it completes. -/
def State.countAck (s : State) (unit res e : Nat) : State :=
  let s1 := s.onChain fun c => { c with props := c.props.map fun x => if x.epoch = e then x.count unit res else x }
  (s1.chain.props.filter fun x => x.epoch == e && s1.proposerDone x).foldl (fun s x => s.proposerEnd x) s1

/-- Answer a proposal (R541). -/
def State.modeAck (s : State) (res e bay : Nat) : State :=
  (s.chainSend 3 (bytesLE 1 res ++ bytesLE 4 e ++ bytesLE 1 s.mode ++ bytesLE 1 bay)).countAck (s.get R.MC_UID.ID) res e

/-! ## Entry to `CURFEW` (R558, R559, R399) -/

/-- A bay enters `BAY_CURFEW` (R559 item 2, R26, R214, R310, R312). -/
def State.curfewBay (s : State) (n : Nat) : State :=
  let b := s.bayState n
  if b = BS.ABSENT ∨ b = BS.OFF ∨ b = BS.BAY_CURFEW then s
  else
    let s0 := (List.range 8).foldl (fun s k => s.infuseStop n k 2) s
    let s1 := (((s0.stopGateRun n).abandonReads n).dropCal n false).setBayState n BS.BAY_CURFEW Why.mode 4
    let s2 := (((s1.quietBay n).spinStop n).stepParkAll n).staleJournal n 3
    (((s2.dropWork n).releaseBuffers n (s.bay n).mounted).endAllTags n ST.CURFEW).refuseQueued n ST.CURFEW

/-- Unit commands that entry to `CURFEW` ends (R399). -/
def Cmd.curfewEnds (c : Cmd) : Bool :=
  [Op.STRIPE_ENCODE, Op.STRIPE_REBUILD, Op.FIXITY, Op.FABRIC_SEND, Op.TABLE_LOAD].contains c.wb.opcode || (c.wb.opcode == Op.TABLE_READ && c.wb.field 32 1 == 1)

/-- A pending change is checked against the table from `CURFEW` (R650): one to `SHUTDOWN` stays pending. -/
def State.checkPend (s : State) : State :=
  match s.pendMode with
  | none => s
  | some p =>
    if p.target = 5 then s
    else
      let cause := p.target == 3
      let s1 := s.setPend none
      let s2 := match p.owed.bind s1.unit? with
        | some c => s1.endUnit c (if cause then ST.MODE_CAUSE else ST.MODE_TRANSITION) 0 0
        | none => s1
      match p.proposal with
      | some (_, e) => s2.modeAck (if cause then ackCause else ackRefused) e 0xFF
      | none => s2

/-- Enter `CURFEW` (R558, R559): `bits` are the causes that led to it, in the layout of `CURFEW_CAUSE`. -/
def State.curfewEnter (s : State) (bits : Nat) : State :=
  let all := s.get R.CURFEW_CAUSE.CAUSE
  let s1 := (s.loffAll.record srcPower 0x1202 [all]).alert 0x1202 all
  let s2 := s1.changeMode 4 (3 + 256 * bits)
  let s3 := (List.range s.variant.bays).foldl (fun s n => s.curfewBay n) s2
  let s4 := (s3.units.filter Cmd.curfewEnds).foldl (fun s c => s.endUnit c ST.CURFEW c.index c.done) s3
  let s5 := s4.fab.xfers.foldl (fun s x => if x.done then s.dropXfer x else s.abortXfer x 1) s4
  (s5.sealStart.scrubEnd 2).checkPend

/-- A cause of R558 arises: bit `b`.  In `CURFEW` and `SHUTDOWN` it is recorded; HEARTBEAT in `CONFIGURE` only sets its bit (R561). -/
def State.curfewCause (s : State) (b : Nat) : State :=
  if s.bitOf R.CURFEW_CAUSE.CAUSE b then s
  else
    let s1 := s.setBitOf R.CURFEW_CAUSE.CAUSE b true
    if s.mode = 4 ∨ s.mode = 5 then s1.loffAll.record srcPower 0x120C [b]
    else if b = 3 ∧ s.mode = 0 then s1.loffAll
    else s1.curfewEnter (2 ^ b)

/-- A cause of R558 clears. -/
def State.curfewClear (s : State) (b : Nat) : State :=
  if s.bitOf R.CURFEW_CAUSE.CAUSE b then (s.setBitOf R.CURFEW_CAUSE.CAUSE b false).record srcPower 0x1203 [b] else s

/-! ## Applying a change (R555, R560 to R562) -/

/-- A bay leaves `BAY_CURFEW` with the unit (R560).  A mount that is not suspended ends, since `EMPTY`, the next state of such a bay, holds no
disc (R25; DEDUCED, log entry 21). -/
def State.uncurfewBay (s : State) (n : Nat) : State :=
  if s.bayState n = BS.BAY_CURFEW then
    (if (s.bay n).disc.suspend then s else ((s.onWrite n fun w => { w with staged := [] }).releaseBuffers n false).endMount n).setBayState n
      (if s.on (R.LINK_STAT.UP n) then BS.BRINGUP else BS.LINKING) Why.mode 3
  else s

/-- A bay whose focus acquisition waited for a mode that allows lasers goes on (R82). -/
def State.rearmBay (s : State) (n : Nat) : State := if (s.bay n).focus.acq = .blocked then s.acqStep1 n else s

/-- The self-test of `SHUTDOWN` begins: its record carries the time (R592). -/
def State.testEntry (s : State) : State := { s with sup := { s.sup with testAt := if s.on R.RTC_STAT.VALID then s.rtc else 0 } }

/-- The mode becomes `t`, which the table allows: a host's or proposal's change, with the cause word of its record. -/
def State.enterMode (s : State) (t cause : Nat) : State :=
  if t = 4 then s.curfewCause 4
  else
    let old := s.mode
    let s1 := s.changeMode t cause
    let s2 := if old = 4 then s1.curfewClear 4 else s1
    let s3 := if old = 4 ∧ t = 3 then (List.range s2.variant.bays).foldl (fun s n => s.uncurfewBay n) s2 else s2
    let s4 := if t = 0 then s3.holdAllSeqs else if t = 5 then s3.testEntry.sealStart.clearSecrets 2 else s3
    let s5 := if t = 1 ∨ t = 2 then s4.raise R.HB_CTL.ARMED else s4
    if (t = 1 ∨ t = 2 ∨ t = 3) ∧ s5.bitOf R.CURFEW_CAUSE.CAUSE 3 then s5.curfewEnter 8
    else if t = 1 ∨ t = 2 then (List.range s5.variant.bays).foldl (fun s n => s.rearmBay n) s5
    else s5

/-- A pending change is applied (R541, R555). -/
def State.modeApply (s : State) (p : PendingMode) : State :=
  let s1 := s.setPend none
  let s2 := match p.proposal with
    | some (_, e) => ((s1.put R.EPOCH.EPOCH e).put R.EPOCH_CTL.PREV_MODE s.mode).onChain fun c => { c with applied := some p.target }
    | none => s1
  let s3 := s2.enterMode p.target p.cause
  let s4 := match p.owed.bind s3.unit? with
    | some c => s3.endUnit c ST.OK 0xFFFFFFFF 0
    | none => s3
  match p.proposal with
  | some (_, e) => ((s4.modeAck ackApplied e 0xFF).signal (s4.get R.MC_CTL.VECTOR)).retryHeld
  | none => s4

/-- Apply the pending change if its moment has come (DESIGN CHOICE, log entry 19). -/
def State.modePoll (s : State) : State :=
  match s.pendMode with
  | some p => if s.modeReady p then s.modeApply p else s
  | none => s

/-- A cause arises; a pending change to `SHUTDOWN` then applies (R650). -/
def State.curfew (s : State) (b : Nat) : State := (s.curfewCause b).modePoll

/-- One SYSCLK cycle in which no command is taken (DESIGN CHOICE, log entry 5). -/
def State.tick (s : State) : State := { s with cycle := s.cycle + 1, gtrc := { s.gtrc with inCycle := 0 } }.modePoll

/-! ## MODE (R397, R540) -/

/-- MODE (R397) with SCOPE 0: the unit command `k` is refused at once, or its change becomes pending and applies at its moment. -/
def execMode (k : Nat) (s : State) : Host.Outcome State Fault Refusal :=
  s.onUnit k Op.MODE fun c =>
    let t := c.wb.field 32 1
    if c.wb.field 33 1 ≠ 0 then s
    else if c.stage ≠ 0 then s.modePoll
    else if s.pendMode.isSome then s.refuseUnit c ST.MODE_TRANSITION
    else
      let st := s.modeStatus t
      if st ≠ 0 then s.refuseUnit c st
      else ((s.setUnit { c with stage := 1 }).setPend
        (some { target := t, owed := some k, proposal := none, cause := 1 + 256 * c.sring + 65536 * c.wb.cid, bays := s.bayWait t })).modePoll

/-- Epoch `f` is newer than `e` (R539). -/
def epochNewer (f e : Nat) : Bool :=
  let d := (f + 2 ^ 32 - e) % 2 ^ 32
  decide (1 ≤ d) && decide (d ≤ 2 ^ 31 - 1)

/-- A proposal reaches this unit (R541): `origin` is the unit that made it, 0xFFFF the chain head. -/
def State.takeProposal (s : State) (origin t e : Nat) : State :=
  let cur := s.get R.EPOCH.EPOCH
  let old := s.pendMode.bind (·.proposal)
  let pendT := (s.pendMode.map (·.target)).getD 0
  if e = cur then s.modeAck (if s.chain.applied = some t then ackDuplicate else ackStale) e 0xFF
  else if (old.map (·.2)) = some e then s.modeAck (if pendT = t then ackDuplicate else ackStale) e 0xFF
  else if !epochNewer e cur || (match old with | some (_, f) => !epochNewer e f | none => false) then s.modeAck ackStale e 0xFF
  else
    let st := s.modeStatus t
    let own := s.pendMode.isSome && old.isNone
    if st = ST.MODE_TRANSITION ∨ own then (s.record srcChain 0x1103 [origin, e, t, ackRefused]).modeAck ackRefused e 0xFF
    else if st ≠ 0 then s.modeAck ackCause e 0xFF
    else
      let s1 := match old with | some (_, f) => s.modeAck ackSuperseded f 0xFF | none => s
      ((s1.setPend (some { target := t, owed := none, proposal := some (origin, e), cause := 2 + 65536 * origin, bays := s.bayWait t })).signal
        (s1.get R.MC_CTL.VECTOR)).modePoll

/-- MODE_SYSTEM_PROPOSAL (R540): a MODE with SCOPE 1. -/
def execModeSystemProposal (k : Nat) (s : State) : Host.Outcome State Fault Refusal :=
  s.onUnit k Op.MODE fun c =>
    let t := c.wb.field 32 1
    let e := c.wb.field 36 4
    if c.wb.field 33 1 ≠ 1 ∨ c.stage ≠ 0 then s
    else if !epochNewer e (s.get R.EPOCH.EPOCH) then s.refuseUnit c ST.BAD_FIELD
    else if !s.on R.MC_UID.VALID then s.refuseUnit c ST.NO_UNIT_ID
    else
      let s1 := (s.setUnit { c with stage := 1 }).onChain fun x => { x with props := x.props ++ [{ id := k, epoch := e }] }
      (s1.chainSend 2 (bytesLE 1 t ++ bytesLE 4 e ++ bytesLE 4 (s.acting R.MODE_DL.DEADLINE 100 60000))).takeProposal (s.get R.MC_UID.ID) t e

/-- PROPOSER_DEADLINE (R540): the deadline of a proposal expires. -/
def execProposerDeadline (k : Nat) (s : State) : Host.Outcome State Fault Refusal :=
  .next (match s.chain.props.find? fun x => x.id == k with
    | some x => s.proposerEnd x
    | none => s)

/-- The bay that holds up a pending change: one that has not passed its safe point, else one with a command, or in a state that
`SHUTDOWN` waits for; 0xFF for none. -/
def State.lagBay (s : State) (p : PendingMode) : Nat :=
  let hold := (List.range s.variant.bays).find? fun n =>
    !(s.bay n).tags.isEmpty || !(s.bay n).waiting.isEmpty || (p.target == 5 && !s.bayAtRest n)
  (p.bays.head?.or hold).getD 0xFF

/-- MODE_PROPOSAL_DEADLINE (R541, R555): the pending change has not been applied by DEADLINE; it stays pending. -/
def execModeProposalDeadline (s : State) : Host.Outcome State Fault Refusal :=
  .next (match s.pendMode with
    | none => s
    | some p =>
      if p.late then s
      else
        let s1 := s.setPend (some { p with owed := none, late := true })
        let s2 := match p.owed.bind s1.unit? with
          | some c => s1.endUnit c ST.MODE_TIMEOUT 0 0
          | none => s1
        match p.proposal with
        | some (_, e) =>
          let b := s.lagBay p
          ((s2.record srcChain 0x1104 [e, p.target, b]).alert 0x1104 e).modeAck ackTimeout e b
        | none => s2)

/-- STALE_EPOCH_WAYBILL_TIMEOUT (R541): the first waybill that waits at a bay behind the change has waited HOLD_T. -/
def execStaleEpochWaybillTimeout (n : Nat) (s : State) : Host.Outcome State Fault Refusal :=
  s.onBay n fun s =>
    match (s.bay n).waiting with
    | c :: rest => if s.bayLags n then (s.setBay n { s.bay n with waiting := rest }).refuse c ST.STALE_EPOCH else s
    | [] => s

/-- EPOCH_WRITE (R539, R546). -/
def execEpochWrite (e : Nat) (s : State) : Host.Outcome State Fault Refusal :=
  .next (
    if s.get R.FAB_CTL.EN ≠ 0 ∨ s.on R.EPOCH_CTL.PENDING then s.raise R.EPOCH_CTL.REJ
    else (((s.put R.EPOCH.EPOCH (e % 2 ^ 32)).raise R.EPOCH_CTL.VALID).onChain fun c => { c with applied := none }).retryHeld)

/-- EPOCH_CANCEL (R541): the pending proposal is abandoned. -/
def execEpochCancel (s : State) : Host.Outcome State Fault Refusal :=
  .next (match s.pendMode.bind (·.proposal) with
    | some _ => s.setPend none
    | none => s)

/-! ## Chain frames (R525 to R528) -/

/-- Whether a chain frame is whole and its CRC good. -/
def chainGood (f : ChainFrame) : Bool :=
  decide (4 ≤ f.length) && (f.getD 1 0).toNat + 4 == f.length && crc16 (f.take (f.length - 2)) == ofBytesLE (f.drop (f.length - 2))

/-- A field of a frame's payload. -/
def chainField (f : ChainFrame) (o k : Nat) : Nat := ofBytesLE ((f.drop (2 + o)).take k)

/-- Receive a frame of type `typ` that names its origin (R526): a bad one is counted and dropped; one that has passed, or was sent
here, is dropped; any other is forwarded unchanged and acted on. -/
def State.chainTake (s : State) (typ : Nat) (f : ChainFrame) (act : State → State) : State :=
  if !chainGood f then s.count R.MC_STAT.CRC_ERR 1
  else if (f.getD 0 0).toNat ≠ typ then s
  else
    let src := chainField f 0 2
    let q := chainField f 2 1
    let head := typ == 2 && src == 0xFFFF
    if !head && s.chain.seen.contains (src, q) then s
    else
      let s1 := if head then s else s.onChain fun c =>
        { c with seen := (src, q) :: c.seen.filter fun e => e.1 != src || decide ((q + 256 - e.2) % 256 ≤ 128) }
      act (s1.emit (.chainFrame f))

/-- MODE_PROPOSE_RECEIVE (R541). -/
def execModeProposeReceive (f : ChainFrame) (s : State) : Host.Outcome State Fault Refusal :=
  .next (s.chainTake 2 f fun s => s.takeProposal (chainField f 0 2) (chainField f 3 1) (chainField f 4 4))

/-- MODE_ACK_RECEIVE (R540). -/
def execModeAckReceive (f : ChainFrame) (s : State) : Host.Outcome State Fault Refusal :=
  .next (s.chainTake 3 f fun s => s.countAck (chainField f 0 2) (chainField f 3 1) (chainField f 4 4))

/-- CHAIN_ALERT_RECEIVE (R526): a unit only forwards it. -/
def execChainAlertReceive (f : ChainFrame) (s : State) : Host.Outcome State Fault Refusal := .next (s.chainTake 4 f fun s => s)

/-- CHAIN_FRAME_BAD_CRC (R526). -/
def execChainFrameBadCrc (s : State) : Host.Outcome State Fault Refusal := .next (s.count R.MC_STAT.CRC_ERR 1)

/-- MC_IN_SYMBOL_LOCK (R545). -/
def execMcInSymbolLock (lock : Bool) (s : State) : Host.Outcome State Fault Refusal := .next (s.putB R.MC_STAT.LOCK lock)

/-- Take an ID (R528): the record's previous ID is open where there was none. -/
def State.takeId (s : State) (id roll : Nat) : State :=
  let had := s.on R.MC_UID.VALID
  if had ∧ s.get R.MC_UID.ID = id then s
  else
    let (v, s0) := s.fresh 16
    let prev := if had then s.get R.MC_UID.ID else v
    let s1 := if had then s.giveUpId else s0
    let s2 := ((s1.raise R.MC_UID.VALID).put R.MC_UID.ID id).record srcChain 0x1101 [id, prev, roll]
    s2.signal (s2.get R.MC_CTL.VECTOR)

/-- ROLL_CALL_RECEIVE (R528). -/
def execRollCallReceive (f : ChainFrame) (s : State) : Host.Outcome State Fault Refusal :=
  .next (
    if !chainGood f then s.count R.MC_STAT.CRC_ERR 1
    else if (f.getD 0 0).toNat ≠ 1 then s
    else
      let pre := chainField f 0 1
      let cnt := chainField f 2 2
      let roll := chainField f 4 2
      let s1 :=
        if 256 ≤ cnt then s.record srcChain 0x1102 [cnt, pre]
        else if s.on R.MC_CTL.ROLL_EN && (!s.on R.MC_UID.VALID || bitAt (chainField f 1 1) 0) then s.takeId (256 * pre + cnt) roll
        else s
      s1.chainOut 1 (bytesLE 1 pre ++ bytesLE 1 (chainField f 1 1) ++ bytesLE 2 (min 0xFFFF (cnt + 1)) ++ bytesLE 2 roll))

/-! ## Causes of `CURFEW` (R558) and the heartbeat (R561) -/

/-- INTERLOCK_FALL (R82): `LSR_INTLK_N` has been low for 0.5 µs. -/
def execInterlockFall (s : State) : Host.Outcome State Fault Refusal := .next ((s.raise R.SUP_STAT.INTLK).curfew 0)

/-- CURFEW_CAUSE_CLEAR_WRITE (R558, R576): a write of `CURFEW_CAUSE`; `high` is the level of `LSR_INTLK_N`. -/
def execCurfewCauseClearWrite (v : Nat) (high : Bool) (s : State) : Host.Outcome State Fault Refusal :=
  .next (if bitAt v 0 && high then ((s.zero R.SUP_STAT.INTLK).curfewClear 0).modePoll else s)

/-- HEARTBEAT_EXPIRE (R561). -/
def execHeartbeatExpire (s : State) : Host.Outcome State Fault Refusal := .next (if s.on R.HB_CTL.ARMED then s.curfew 3 else s)

/-- HB_KICK (R561): the watchdog restarts and HEARTBEAT clears. -/
def execHbKick (s : State) : Host.Outcome State Fault Refusal := .next (s.curfewClear 3)

/-- The die temperature as measured (R558, R577), signed, in 1/128 °C. -/
def State.dieTemp (s : State) (t : Int) : State :=
  let lim := fun (f : Field) (lo hi : Nat) => (128 * s.acting f lo hi : Nat)
  let s1 := (s.putS R.DIE_TEMP.TEMP t).putS R.DIE_TEMP.PEAK (max (s.getS R.DIE_TEMP.PEAK) t)
  let warn := decide ((lim R.TEMP_LIM.WARN_T 80 115 : Int) ≤ t)
  let s2 := { s1 with sup := { s1.sup with warned := warn } }
  let s3 := if warn && !s.sup.warned then s2.record srcPower 0x1205 [ofInt 16 t] else s2
  let cur := lim R.TEMP_LIM.CURFEW_T 95 120
  if (cur : Int) ≤ t then s3.curfew 1
  else if t < (cur : Int) - (lim R.TEMP_LIM.HYST 2 30 : Int) then s3.curfewClear 1
  else s3

/-- DIE_TEMP_CURFEW (R558). -/
def execDieTempCurfew (t : Int) (s : State) : Host.Outcome State Fault Refusal := .next (s.dieTemp t)

/-- DIE_TEMP_CLEAR (R558). -/
def execDieTempClear (t : Int) (s : State) : Host.Outcome State Fault Refusal := .next (s.dieTemp t)

/-- TEMP_WARN (R577). -/
def execTempWarn (t : Int) (s : State) : Host.Outcome State Fault Refusal := .next (s.dieTemp t)

/-! ## An event of R341 -/

/-- PCIE_RESET (R341): Porter, the MSI-X table and the halts are reset; commands in flight lose their host writes and receipts; and
`CURFEW` is requested.  The function's own enables are off after it (PRESUMED, log entry 20). -/
def execPcieReset (kind : PcieResetKind) (s : State) : Host.Outcome State Fault Refusal :=
  .next (
    let code := match kind with | .functionLevel => 0 | .hot => 1 | .linkDown => 2
    let flight := s.units.length + (s.bays.map fun e => e.2.tags.length + e.2.waiting.length).sum
    let mark := fun (l : List Cmd) => l.map fun c => { c with discard := true }
    let s1 := s.channels.foldl (fun s e => s.unhalt e.1) s
    let s2 := (s1.resetRegs 0x10000 0x30000).resetRegs 0x30000 0x40000
    let s3 : State := { s2 with
      units := mark s2.units
      bays := s2.bays.map fun e => (e.1, { e.2 with tags := mark e.2.tags, waiting := mark e.2.waiting })
      porter := {}
      subs := []
      rcps := []
      pcie := {}
      heldOut := [] }
    (s3.record srcPorter 0x0C04 [code, flight]).curfew 4)

/-! ## Parking in `QUIESCE` (R557) -/

/-- A bay with a mounted disc that holds no tag parks, where QPARK asks it: steps 1 and 3 to 6 of R383. -/
def State.quiescePark (s : State) (n : Nat) : State :=
  let b := s.bay n
  let idle := b.mounted && !b.disc.suspend && b.tags.isEmpty && b.waiting.isEmpty && b.sched.seg.isNone && b.cal.run.isNone
  if !(s.mode == 3 && s.on R.MODE_CFG.QPARK && idle && [BS.READY, BS.ACTIVE, BS.CAL].contains (s.bayState n)) then s
  else if !b.writing.staged.isEmpty && (b.disc.refuse == 0 || s.dlRoom n) then s.startSegment n ⟨.commit, 4, b.sched.dlBorn, false⟩
  else
    let s1 := ((s.setBay n { b with mounted := false }).onCal n fun c => { c with queue := [] }).onDisc n fun d => { d with binds := [], dlBufs := [] }
    let s2 := (b.disc.dlBufs.foldl (fun s p => s.freePtr n p) s1).caddyServe
    s2.parkBay n Why.mode 3

/-- SCHED_DECISION (R406 to R411): at a decision point; a pending mode change meets the bay's safe point there (R556). -/
def execSchedDecision (n : Nat) (s : State) : Host.Outcome State Fault Refusal :=
  s.onBay n fun s => (s.modePoll.quiescePark n).schedDecision n

end Sys2Proof.Machine
end

