-- ==== Sys2Proof/Machine/Power.lean ====
section
/-!
DEFINITION. Power domains (R563 to R566, R578), the always-on supervisor (R567, R568), the luggage bank's seals and window (R570,
R572), and the real-time clock (R573, R574, R581).
-/

namespace Sys2Proof.Machine

/-! ## Power domains (R29, R563) -/

/-- Domain states (R578). -/
def dOff : Nat := 0
@[inherit_doc dOff] def dRetain : Nat := 1
@[inherit_doc dOff] def dOn : Nat := 2

/-- The sequence a domain is in. -/
def State.phaseOf (s : State) (d : Nat) : DomPhase := Sparse.get .steady s.domPhase d

/-- Set it, and BUSY with it. -/
def State.setPhase (s : State) (d : Nat) (p : DomPhase) : State :=
  { s with domPhase := Sparse.putNorm .steady s.domPhase d p }.putB (R.PWR_STAT.BUSY d) (p != DomPhase.steady)

/-- A domain has reached a state: STATE, its ready bits, the trace (R609). -/
def State.domainAt (s : State) (d new : Nat) : State :=
  let old := s.domain d
  ((s.put (R.PWR_STAT.STATE d) new).put (R.PWR_STAT.RDY d) (if new = dOn then 15 else 0)).trace 3 srcPower 2 d old new

/-- Whether the variant lacks the unit of a domain (R4, R7), and whether it takes no request (R563). -/
def State.domainFixed (s : State) (d : Nat) : Bool :=
  (decide (d < 128) && !s.bayPresent d) || (d == 148 && !s.variant.stripe) || ((d == 150 || d == 151) && !s.variant.fabric) || d == 152 || decide (161 ≤ d)

/-- Whether a scrub pass covers a DRAM channel. -/
def State.scrubCovers (s : State) (ch : Nat) : Bool :=
  s.on R.SCRUB_CTL.GO && onChannel ch s.scrubStart (s.get R.SCRUB_LAST_LO.ADDR + 2 ^ 32 * s.get R.SCRUB_LAST_HI.ADDR + 64)

/-- Whether an enabled Caddy region lies in the scratch slot of a way (R462). -/
def State.wayHolds (s : State) (w : Nat) : Bool :=
  match s.scratchOf w with
  | some k => (List.range 16).any fun r => s.on (R.CADDY_RGN_CFG.EN r) && decide (scratchBase k ≤ s.rgnBase r) && decide (s.rgnBase r < scratchBase k + 0x600000)
  | none => false

/-- Whether a state request for a domain has no effect (R563, R486, R564). -/
def State.powerRefused (s : State) (d v : Nat) : Bool :=
  if s.domainFixed d then true
  else if v = dOn then false
  else if d < 128 then
    let b := s.bay d
    !b.tags.isEmpty || (v == dRetain && b.mounted && (b.sched.seg.isSome || b.cal.run.isSome || b.writing.journal.any fun e => !e.2.stale && e.2.state != 3))
  else if d < 132 then
    let c := d - 128
    (clusterSeqs c).any fun q => (s.seqState q != SQ.HELD && s.seqState q != SQ.HALTED) || (s.servedBays q).any fun n => s.bayState n != BS.OFF
  else if d < 148 then
    let w := d - 132
    bitAt (s.get R.CACHE_WAY_STAT.ACTIVE) w || bitAt (s.get R.CACHE_WAY_STAT.CLEANING) w || (v == dOff && s.wayHolds w)
  else if d = 148 then s.on R.STRIPE_STAT.BUSY
  else if d = 150 ∨ d = 151 then bitAt (s.get R.FAB_CTL.EN) (d - 150)
  else if 153 ≤ d then
    if v = dOff then s.get (R.DRAM_STAT.STATE (d - 153)) == CH.READY else s.scrubCovers (d - 153)
  else false

/-- What a domain loses on the way to `OFF` (R29). -/
def State.domainLost (s : State) (d : Nat) : State :=
  if d < 128 then s.bayLeaves d false Why.domain dOff
  else if d < 132 then s.clusterOn (d - 128) false
  else if d < 148 then
    match s.scratchOf (d - 132) with
    | some k => s.memClear (scratchBase k) (scratchBase k + 0x600000)
    | none => s
  else if 153 ≤ d ∧ d < 161 then (s.put (R.DRAM_STAT.STATE (d - 153)) CH.UNUSED).zero (R.DRAM_STAT.HELD (d - 153))
  else s

/-- Entry to `RETAIN` or `OFF` ends: the domain is isolated (R566 step 5), FXC's secrets clear (R435). -/
def State.domainEnters (s : State) (d v : Nat) : State :=
  let s1 := if d = 149 ∧ s.domain d = dOn then s.clearSecrets 4 else s
  let s2 := if v = dOff then s1.domainLost d else if d < 128 ∧ s1.domain d = dOn then s1.bayLeaves d true Why.domain dRetain else s1
  s2.domainAt d v

/-- A domain reaches `ON` (R563, R75, R461, R486, R447). -/
def State.domainRises (s : State) (d : Nat) (fromRetain : Bool) : State :=
  let s1 := s.domainAt d dOn
  if d < 128 then (s1.setBayState d BS.LINKING Why.domain dOn).trainStart d
  else if d < 132 then s1.clusterOn (d - 128) fromRetain
  else if d < 148 then s1.wayReturn (d - 132)
  else if 153 ≤ d ∧ d < 161 then
    if fromRetain then s1.zero (R.DRAM_STAT.HELD (d - 153)) else s1.put (R.DRAM_STAT.STATE (d - 153)) CH.UNUSED
  else s1

/-- A request for a domain that is in no sequence takes effect or is rejected (R563).  From `OFF` to `RETAIN` nothing is retained. -/
def State.powerRequest (s : State) (d v : Nat) : State :=
  if s.powerRefused d v then s.raise (R.PWR_STAT.REJ d)
  else
    let cur := s.domain d
    let s1 := s.put (R.PWR_REQ.REQ d) v
    if v = cur then s1
    else if v = dOn then (s1.setPhase d (.rising ⟨1, cur == dRetain, none⟩)).zero (R.PWR_STAT.RDY d)
    else if cur = dOn then s1.setPhase d (.entering ⟨v, 0, false, none⟩)
    else if v = dOff then s1.domainEnters d dOff
    else (s1.domainLost d).domainAt d dRetain

/-- POWER_REQUEST (R563, R565, R566): a write of `PWR_REQ[d]`. -/
def execPowerRequest (d v : Nat) (s : State) : Host.Outcome State Fault Refusal :=
  .next (
    let q := v % 4
    if 163 ≤ d ∨ q = 3 then s
    else match s.phaseOf d with
      | .steady => s.powerRequest d q
      | .entering e =>
        if q = dOn then (s.put (R.PWR_REQ.REQ d) dOn).setPhase d (.entering { e with wake := true, next := none })
        else s.setPhase d (.entering { e with next := if q = e.target ∧ !e.wake then none else some q })
      | .rising u => s.setPhase d (.rising { u with queued := if q = dOn then none else some q }))

/-- POWER_STAGE_READY (R565): the ready bit of the stage awaited rises. -/
def execPowerStageReady (d : Nat) (s : State) : Host.Outcome State Fault Refusal :=
  .next (match s.phaseOf d with
    | .rising u =>
      let s1 := s.setBitOf (R.PWR_STAT.RDY d) (u.stage - 1) true
      if u.stage < 4 then s1.setPhase d (.rising { u with stage := u.stage + 1 })
      else
        let s2 := (s1.setPhase d .steady).domainRises d u.fromRetain
        match u.queued with
        | some v => s2.powerRequest d v
        | none => s2
    | _ => s)

/-- POWER_STAGE_TIMEOUT (R565): the stage awaited misses its limit; the domain goes `OFF`. -/
def execPowerStageTimeout (d : Nat) (s : State) : Host.Outcome State Fault Refusal :=
  .next (match s.phaseOf d with
    | .rising u =>
      let s1 := ((s.setPhase d .steady).raise (R.PWR_STAT.FAIL d)).put (R.PWR_STAT.FAIL_STAGE d) u.stage
      ((s1.domainLost d).domainAt d dOff).record srcPower 0x1206 [d, u.stage]
    | _ => s)

/-- POWER_ENTRY_DRAIN_DONE (R566): the step of an entry in progress ends, first its drain, then the saving of retained state, then
the wait, each at an abort point; a wake that has come abandons the entry there, and after the last the domain is isolated. -/
def execPowerEntryDrainDone (d : Nat) (s : State) : Host.Outcome State Fault Refusal :=
  .next (match s.phaseOf d with
    | .entering e =>
      let p := e.point + 1
      let go := fun (s : State) => match e.next with | some v => s.powerRequest d v | none => s
      if e.wake then
        go ((((s.setPhase d .steady).put (R.PWR_REQ.REQ d) dOn).count (R.PWR_STAT.ABORTS d) 1).record srcPower 0x1207 [d, p])
      else if p < 3 then s.setPhase d (.entering { e with point := p })
      else go ((s.setPhase d .steady).domainEnters d e.target)
    | _ => s)

/-! ## The supervisor (R567, R568) -/

/-- A seal that the supervisor makes for a loss of supply or of reset; `midTest`: while the self-test holds the bank's contents
elsewhere it makes none, and SEAL is 0 (R594). -/
def State.lossSeal (s : State) (midTest : Bool) : State :=
  if midTest && s.mode == 5 && !s.on R.MODE_STAT.SD_DONE then
    ({ s with sup := { s.sup with sealing := false } }.lugStore lugSeal (bytesLE 4 0)).zero R.LUG_CTL.SEALED
  else s.sealStart

/-- MAINLOSS (R558, R567, R570, R606): `VDD_CORE` has been below 0.70 V for 1 µs.  With the ledger enabled the record of the entry to
`CURFEW` reaches the tail before the seal begins. -/
def execMainloss (midTest : Bool) (s : State) : Host.Outcome State Fault Refusal :=
  .next (
    let s1 := s.raise R.SUP_STAT.SRC
    let s2 := if s1.on R.LEDGER_CTL.EN then State.drainSafety 4096 s1 else s1
    (s2.curfew 2).lossSeal midTest)

/-- MAINLOSS_CLEAR (R558). -/
def execMainlossClear (s : State) : Host.Outcome State Fault Refusal := .next (s.curfewClear 2).modePoll

/-- MAIN_POWER_RETURN (R567, R568): AON runs on the main supply; the retention latch is frozen. -/
def execMainPowerReturn (s : State) : Host.Outcome State Fault Refusal := .next (s.zero R.SUP_STAT.SRC)

/-- VBAK_RETENTION_LOW (R568): `VBAK` below V_RET while it is the sole source. -/
def execVbakRetentionLow (s : State) : Host.Outcome State Fault Refusal := .next (if s.on R.SUP_STAT.SRC then s.raise R.SUP_STAT.LATCH else s)

/-- VBAK_MEASURE (R567, R579): `VBAK` in mV. -/
def execVbakMeasure (mv : Nat) (s : State) : Host.Outcome State Fault Refusal :=
  .next (
    let s1 := s.put R.SUP_STAT.VBAK_MV (min 4095 mv)
    if s1.on R.SUP_STAT.SRC || decide (2700 ≤ mv) then s1
    else
      let s2 := s1.raise R.SUP_STAT.VBAK_LOW
      if s2.sup.vbakReported then s2 else { s2 with sup := { s2.sup with vbakReported := true } }.record srcPower 0x1208 [mv])

/-! ## The luggage bank (R570, R572) -/

/-- LUGGAGE_SEAL_REQUEST (R570): `LUG_CTL.SEAL`. -/
def execLuggageSealRequest (s : State) : Host.Outcome State Fault Refusal := .next (s.raise R.LUG_CTL.SEAL).sealStart

/-- The CRC of the bank as a seal stores it (R569): SEAL counts as sealed, the CRC as zero. -/
def State.lugCrc (s : State) : Nat :=
  crc32 (Sparse.bytes 0 s.sup.bank lugSeal 0 ++ bytesLE 4 sealedWord ++ Sparse.bytes 0 s.sup.bank 8 (lugSeal + 4) ++ bytesLE 4 0 ++
    Sparse.bytes 0 s.sup.bank 0x100000 0x100000)

/-- A seal ends: SEAL and CRC are written; the writes that waited follow, the first of them opening the bank. -/
def State.sealEnd (s : State) : State :=
  if !s.sup.sealing then s
  else
    let s1 := (s.lugStore (lugSeal + 12) (bytesLE 4 s.lugCrc)).lugStore lugSeal (bytesLE 4 sealedWord)
    let w := s1.sup.waiting
    let s2 := ({ s1 with sup := { s1.sup with sealing := false, waiting := [] } }.raise R.LUG_CTL.SEALED).zero R.LUG_CTL.SEAL
    w.foldl (fun s e => s.lugWrite e.1 e.2) s2

/-- LUGGAGE_SEAL_DONE (R570). -/
def execLuggageSealDone (s : State) : Host.Outcome State Fault Refusal := .next s.sealEnd

/-- LUGGAGE_RESEAL_TIMER (R570): in `CURFEW` or `SHUTDOWN`, 1 ms after the last write to an open bank. -/
def execLuggageResealTimer (s : State) : Host.Outcome State Fault Refusal :=
  .next (if s.curfewOrShutdown && !s.on R.LUG_CTL.SEALED then s.sealStart else s)

/-- The next word address of the bank's window. -/
def State.lugNext (s : State) : State := s.put R.LUG_ADDR.ADDR (s.get R.LUG_ADDR.ADDR + 1)

/-- LUG_DATA_READ (R572). -/
def execLugDataRead (s : State) : Host.Outcome State Fault Refusal :=
  .next (s.emit (.readData 0xA0010 (s.lugRead (4 * s.get R.LUG_ADDR.ADDR) 4))).lugNext

/-- LUG_DATA_WRITE (R572): within the HOST area only. -/
def execLugDataWrite (v : Nat) (s : State) : Host.Outcome State Fault Refusal :=
  .next (
    let a := 4 * s.get R.LUG_ADDR.ADDR
    (if 0x100000 ≤ a then s.lugWrite a (bytesLE 4 v) else s.raise R.LUG_CTL.REJ).lugNext)

/-! ## The real-time clock (R573) -/

/-- Leap years among the years 1 to `y`. -/
def leapsTo (y : Nat) : Nat := y / 4 - y / 100 + y / 400

/-- Whether `y` is a leap year. -/
def isLeap (y : Nat) : Bool := y % 4 == 0 && (y % 100 != 0 || y % 400 == 0)

/-- Days from 2000-01-01 to the first day of year `y`. -/
def yearDays (y : Nat) : Nat := 365 * (y - 2000) + leapsTo (y - 1) - leapsTo 1999

/-- Days of month `m` of year `y`. -/
def monthDays (y m : Nat) : Nat := if m = 2 then (if isLeap y then 29 else 28) else if m = 4 ∨ m = 6 ∨ m = 9 ∨ m = 11 then 30 else 31

/-- The month and day of day `d` of year `y`, from month `m` on. -/
def monthOf (y : Nat) : Nat → Nat → Nat → Nat × Nat
  | 0, m, d => (m, d + 1)
  | k + 1, m, d => if d < monthDays y m then (m, d + 1) else monthOf y k (m + 1) (d - monthDays y m)

/-- The year of a day: the guess from the mean length is at most one too high or low. -/
def yearOf (d : Nat) : Nat :=
  let y := 2000 + d * 400 / 146097
  if d < yearDays y then y - 1 else if yearDays (y + 1) ≤ d then y + 1 else y

/-- The last second that the RTC counts (R573). -/
def rtcLast : Nat := 12622780799

/-- Set the counter and the calendar fields that it stands for. -/
def State.setRtc (s : State) (t : Nat) : State :=
  let d := t / 86400
  let y := yearOf d
  let (m, day) := monthOf y 12 1 (d - yearDays y)
  let s1 := (s.put R.RTC_SEC_LO.SEC (t % 2 ^ 32)).put R.RTC_SEC_HI.SEC (t / 2 ^ 32)
  let s2 := (((s1.put R.RTC_DATE.YEAR y).put R.RTC_DATE.MONTH m).put R.RTC_DATE.DAY day).put R.RTC_DATE.WDAY ((d + 6) % 7)
  let s3 := ((s2.put R.RTC_TIME.HOUR (t % 86400 / 3600)).put R.RTC_TIME.MIN (t % 3600 / 60)).put R.RTC_TIME.SEC (t % 60)
  { s3 with rtcS := { s3.rtcS with base := s3.cycle } }

/-- RTC_SECOND (R573): the crystal has counted a second. -/
def execRtcSecond (s : State) : Host.Outcome State Fault Refusal :=
  .next (
    let t := min rtcLast (s.rtc + 1)
    let s1 := (s.raise R.RTC_STAT.RUNNING).setRtc t
    if t = rtcLast then s1.raise R.RTC_STAT.CAL_LIMIT else s1)

/-- RTC_CAL_COMMIT (R574). -/
def execRtcCalCommit (s : State) : Host.Outcome State Fault Refusal :=
  .next (
    let y := s.get R.CAL_SET_DATE.YEAR
    let m := s.get R.CAL_SET_DATE.MONTH
    let d := s.get R.CAL_SET_DATE.DAY
    let h := s.get R.CAL_SET_TIME.HOUR
    let mi := s.get R.CAL_SET_TIME.MIN
    let se := s.get R.CAL_SET_TIME.SEC
    if y < 2000 ∨ 2399 < y ∨ m = 0 ∨ 12 < m ∨ d = 0 ∨ monthDays y m < d ∨ 23 < h ∨ 59 < mi ∨ 59 < se then s.raise R.RTC_STAT.CAL_REJECT
    else
      let days := yearDays y + ((List.range (m - 1)).map fun k => monthDays y (k + 1)).sum + (d - 1)
      let t := 86400 * days + 3600 * h + 60 * mi + se
      let old := s.rtc
      let s1 := ((s.setRtc t).raise R.RTC_STAT.VALID).putB R.RTC_STAT.CAL_LIMIT (t == rtcLast)
      { s1 with rtcS := { s1.rtcS with latch := none } }.record srcPower 0x120A [old, t])

/-- The date and time registers as words (R581). -/
def State.rtcDateWord (s : State) : Nat :=
  2 ^ 20 * s.get R.RTC_DATE.YEAR + 2 ^ 16 * s.get R.RTC_DATE.MONTH + 2 ^ 11 * s.get R.RTC_DATE.DAY + 2 ^ 8 * s.get R.RTC_DATE.WDAY
@[inherit_doc State.rtcDateWord] def State.rtcTimeWord (s : State) : Nat :=
  2 ^ 16 * s.get R.RTC_TIME.HOUR + 2 ^ 8 * s.get R.RTC_TIME.MIN + s.get R.RTC_TIME.SEC

/-- RTC_SEC_LO_READ (R581, R12): the other RTC registers are latched. -/
def execRtcSecLoRead (s : State) : Host.Outcome State Fault Refusal :=
  .next ({ s with rtcS := { s.rtcS with latch := some (s.get R.RTC_SEC_HI.SEC, s.rtcDateWord, s.rtcTimeWord, s.rtcSub) } }.emit
    (.readData 0xA0100 (s.get R.RTC_SEC_LO.SEC)))

end Sys2Proof.Machine
end

