-- ==== Sys2Proof/Machine/LedgerCmd.lean ====
section
/-!
DEFINITION. The commands of the ledger engine (R603 to R607) and of the global trace (R610).
-/

namespace Sys2Proof.Machine

/-- LEDGER_WRITE_DONE (R603): the 64 cycles of a write are over. -/
def execLedgerWriteDone (s : State) : Host.Outcome State Fault Refusal := .next (if s.ledger.writing then s.writerFree else s)

/-- Drop a counting slot at HOLD (R605): its record and every event counted in it. -/
def State.dropSlot (s : State) (c : CountSlot) : State :=
  (s.countDrop (1 + c.count) (s.rtc + 2 ^ 40 * s.rtcSub) (s.rtc + 2 ^ 40 * s.rtcSub)).dropRecord c.first

/-- LEDGER_HOLD_EXPIRE (R605): HOLD ms have passed at the ordinary limit.  The held record goes first, then the slots, youngest first
event first (DESIGN CHOICE, log entry 9). -/
def execLedgerHoldExpire (s : State) : Host.Outcome State Fault Refusal :=
  .next (
    if !s.on R.LEDGER_CTL.EN || decide (16 < s.ledgerFree) then s
    else
      let now := s.rtc + 2 ^ 40 * s.rtcSub
      let s1 := match s.ledger.held with
        | some e => ((s.setLedger { s.ledger with held := none }).countDrop 1 now now).dropRecord e
        | none => s
      let order := (s1.ledger.slots.map (·.2)).mergeSort fun a b =>
        decide (b.first.sec < a.first.sec) || (b.first.sec == a.first.sec && decide (b.first.sub ≤ a.first.sub))
      let s2 := order.foldl State.dropSlot (s1.setLedger { s1.ledger with slots := [] })
      s2.ledgerPump.ledgerStat)

/-- LEDGER_HEAD_WRITE (R604). -/
def execLedgerHeadWrite (v : Nat) (s : State) : Host.Outcome State Fault Refusal :=
  .next (
    let h := v % 2 ^ 20
    if s.ledgerSize ≤ h then s.raise R.LEDGER_STAT.BAD_HEAD
    else (s.put R.LEDGER_HEAD.HEAD h).ledgerPump.ledgerStat)

/-- LEDGER_ENABLE (R604, R606): the ring starts at its first slot with PHASE 1, and the early records go first. -/
def execLedgerEnable (s : State) : Host.Outcome State Fault Refusal :=
  .next (
    if s.on R.LEDGER_CTL.EN then s
    else
      let s1 := ((s.raise R.LEDGER_CTL.EN).zero R.LEDGER_TAIL.TAIL).put R.LEDGER_TAIL.PHASE 1
      (s1.setLedger { s1.ledger with flush := s1.ledger.flush ++ s1.ledger.early, early := [], enabledOnce := true }).ledgerPump.ledgerStat)

/-- LEDGER_DISABLE (R606): the engine returns to the early buffer, which is empty. -/
def execLedgerDisable (s : State) : Host.Outcome State Fault Refusal :=
  .next (if s.on R.LEDGER_CTL.EN then (s.zero R.LEDGER_CTL.EN).ledgerPump.ledgerStat else s)

/-- GTRC_ARM (R610): a capture starts or restarts. -/
def execGtrcArm (s : State) : Host.Outcome State Fault Refusal :=
  .next (
    let s1 := ((s.raise R.GTRC_STAT.ACTIVE).zero R.GTRC_STAT.TRIGGERED).zero R.GTRC_STAT.DONE
    let s2 := ((s1.zero R.GTRC_ARM.TRIG_MASK).zero R.GTRC_STAT.FIRST).zero R.GTRC_STAT.TRIG_IDX
    { s2 with gtrc := { s2.gtrc with buf := [], base := 0 } })

/-- GTRC_FORCE (R610): comparator 4 fires on the next record; one set after the trigger is ignored. -/
def execGtrcForce (s : State) : Host.Outcome State Fault Refusal :=
  .next (if s.on R.GTRC_STAT.ACTIVE && s.on R.GTRC_STAT.TRIGGERED then s else s.raise R.GTRC_ARM.FORCE)

/-- `GTRC_STAT` as a word (R615). -/
def State.gtrcStat (s : State) : Nat :=
  2 ^ 31 * s.get R.GTRC_STAT.ACTIVE + 2 ^ 30 * s.get R.GTRC_STAT.TRIGGERED + 2 ^ 29 * s.get R.GTRC_STAT.DONE +
    2 ^ 14 * s.get R.GTRC_STAT.FIRST + s.get R.GTRC_STAT.TRIG_IDX

/-- GTRC_CAPTURE_DONE (R610): the buffer is full after the trigger. -/
def execGtrcCaptureDone (s : State) : Host.Outcome State Fault Refusal :=
  .next (
    if s.on R.GTRC_STAT.ACTIVE && s.on R.GTRC_STAT.TRIGGERED && decide (traceSize ≤ s.gtrc.buf.length) then
      let s1 := (s.zero R.GTRC_STAT.ACTIVE).raise R.GTRC_STAT.DONE
      s1.record srcLedger 0x1404 [s1.gtrcStat]
    else s)

end Sys2Proof.Machine
end

