-- ==== Sys2Proof/Machine/Bringup.lean ====
section
/-!
DEFINITION. Reset and start-up (R571, R583 to R587, R607, R633), the self-test of `SHUTDOWN` (R590 to R592), the test access port
(R593), the loss of the reference clock (R632), and `BAY_CTL.ENABLE` (R589).
-/

namespace Sys2Proof.Machine

/-! ## Reset (R563, R633) -/

/-- DRAM channels whose domain is in `RETAIN` (R448). -/
def State.retainedChannels (s : State) : List Nat := dramChannels.filter fun ch => s.domain (dramDomain ch) == dRetain

/-- What DRAM keeps of channel `ch`'s contents where it stays in self-refresh; lines that were dirty in the cache are lost. -/
def State.keepDram (s : State) (keep : List Nat) : State :=
  let s1 := s.cacheForget 0 (2 ^ 41)
  let s2 := (dramChannels.filter fun ch => !keep.contains ch).foldl (fun s ch => s.memClear (2 ^ 37 * ch) (2 ^ 37 * (ch + 1))) s1
  s2.memClear (2 ^ 40) (2 ^ 41)

/-- Registers and hidden state of every domain but AON at their reset values; what DRAM keeps stands. The luggage bank, the RTC and the
supervisor's registers are AON's. `pcie`: PCIE is not reset either (R586). -/
def State.resetDomains (s : State) (pcie : Bool) : State :=
  let range := fun (lo hi : Nat) (e : Nat × Nat) => decide (32 * lo ≤ e.1) && decide (e.1 < 32 * hi)
  { pending := s.pending
    variant := s.variant
    stepping := s.stepping
    freeCount := s.freeCount
    out := s.out
    regs := s.regs.filter fun e => range 0xA0000 0xA1000 e || (pcie && range 0x30000 0x40000 e)
    dram := s.dram
    mem := { bad := s.mem.bad }
    pcie := if pcie then s.pcie else {}
    sup := { s.sup with vbakReported := false, warned := false, inReset := true }
    rtcS := s.rtcS }

/-- The reset of every domain but AON: DRAM channels and ways in `RETAIN` stay so, with the configuration of a trained channel (R448). -/
def State.resetAll (s : State) (pcie : Bool) : State :=
  let chans := s.retainedChannels
  let ways := (List.range 16).filter fun w => s.domain (wayDomain w) == dRetain
  let kept := chans.filter fun ch => s.get (R.DRAM_STAT.STATE ch) == CH.READY || s.get (R.DRAM_STAT.STATE ch) == CH.RETAINED
  let fresh := (s.keepDram kept).resetDomains pcie
  let f1 := (chans.map dramDomain ++ ways.map wayDomain).foldl (fun s d => (s.put (R.PWR_STAT.STATE d) dRetain).put (R.PWR_REQ.REQ d) dRetain) fresh
  kept.foldl (fun t ch => ((((t.put (R.DRAM_STAT.STATE ch) CH.RETAINED).put (R.DRAM_CFG.PRESENT ch) (s.get (R.DRAM_CFG.PRESENT ch))).put
    (R.DRAM_CFG.RANKS ch) (s.get (R.DRAM_CFG.RANKS ch))).put (R.DRAM_CFG.DENS ch) (s.get (R.DRAM_CFG.DENS ch))).put
    (R.DRAM_CFG.RATE ch) (s.get (R.DRAM_CFG.RATE ch))) f1

/-- Writes to the bank that wait come from domains in reset, and are not made. -/
def State.dropWaiting (s : State) : State := { s with sup := { s.sup with waiting := [] } }

/-- RESET_FALL (R633): the bank is sealed and every domain but AON held in reset. -/
def execResetFall (midTest : Bool) (s : State) : Host.Outcome State Fault Refusal := .next (((s.lossSeal midTest).dropWaiting).resetAll false)

/-! ## Power-on (R571, R583 to R587, R607) -/

/-- Every byte of the luggage bank zero. -/
def State.emptyBank (s : State) : State := { s with sup := { s.sup with bank := [] } }

/-- The AON domain after a loss of its supply: bank, RTC and the supervisor's hidden state start from nothing. -/
def State.aonReset (s : State) : State := { s with sup := { inReset := true }, rtcS := {} }

/-- Fill the luggage bank with zeros. -/
def State.zeroBank (s : State) : State := s.emptyBank.zero R.LUG_CTL.SEALED

/-- The outcome of R571. -/
def State.lugOutcome (s : State) : Nat :=
  if s.on R.SUP_STAT.LATCH then 1
  else if s.lugRead lugSeal 4 ≠ sealedWord then 3
  else if s.lugRead (lugSeal + 12) 4 ≠ s.lugCrc then 2
  else 0

/-- The bays' journals as a valid bank holds them: every entry stale (R310); a bay's next SEQ is one above the highest. -/
def State.loadJournal (s : State) (n : Nat) : State :=
  let j := (List.range 64).foldl (fun (m : Sparse JEntry) i =>
    match JEntry.ofBytes (Sparse.bytes 0 s.sup.bank 32 (2048 * n + 32 * i)) with
    | some e => m.put i e
    | none => m) []
  let q := j.foldl (fun k e => max k (e.2.seq + 1)) 0
  (s.onWrite n fun w => { w with journal := j, jseq := q % 2 ^ 24 }).staleJournal n 1

/-- The SEQ with which the ledger series goes on (R607). -/
def State.tailSeq (s : State) : Nat :=
  let all := ((List.range 4096).map fun k => s.lugRead (0x40000 + 64 * k) 4 % 2 ^ 31).filter (· != 0)
  let seqs := all.eraseDups
  let p := 2 ^ 31 - 1
  match seqs.filter fun h => !seqs.any fun b => let d := (b + p - h) % p; decide (1 ≤ d) && decide (d ≤ 2 ^ 30) with
  | [h] => seqSucc h
  | _ => 1

/-- `REFCLK` deviation in 0.1 ppm from the cycles in 2,048 `RTCCLK` cycles (R585), saturating. -/
def State.refPpm (s : State) (ref : Nat) : Int × State :=
  let (x, s1) := s.roundOpen (((ref : Int) - 9765625) * 128) 125
  (clampInt (-32768) 32767 x, s1)

/-- The parts of the environment check that fail (R585): VDD, REF, RTC, TEMP. -/
def State.envFails (s : State) (running : Bool) (vdd ref : Nat) (temp : Int) : List Bool :=
  [decide (vdd < 730) || decide (780 < vdd), decide (ref + 977 < 9765625) || decide (9765625 + 977 < ref), !running,
   decide ((128 * s.acting R.TEMP_LIM.WARN_T 80 115 : Nat) ≤ temp) || s.bitOf R.CURFEW_CAUSE.CAUSE 1]

/-- The self-test record's place (R569). -/
def testRecord : Nat := 0x080000

/-- Whether the self-test record's CRC checks. -/
def State.testCrcOk (s : State) : Bool :=
  crc32 (Sparse.bytes 0 s.sup.bank 252 testRecord) == s.lugRead (testRecord + 252) 4

/-- The first condition of R584 that fails; 0 where all hold. -/
def State.whyFull (s : State) (outcome : Nat) (restart : Bool) : Nat :=
  let r := fun (o k : Nat) => s.lugRead (testRecord + o) k
  let tested := r 32 24
  if outcome ≠ 0 then 1
  else if r 0 4 ≠ 0x54534C47 ∨ r 4 2 ≠ 1 ∨ !s.testCrcOk then 2
  else if r 6 1 ≠ 0 then 3
  else if bitAt (r 7 1) 0 then 4
  else if r 8 1 ≠ s.stepping ∨ !bitAt tested 161 ∨ !bitAt tested 152 ∨ r 56 24 ≠ 0 then 5
  else if bitAt (r 7 1) 1 then 6
  else if restart then 7
  else 0

/-- The start is decided: CONSUMED is set in a record found (R584), and the record shows in `ST_REC`. -/
def State.consumeRecord (s : State) (outcome : Nat) : State :=
  if outcome = 0 ∧ s.testCrcOk then
    let flags := s.lugRead (testRecord + 7) 1
    let s1 := ((s.raise R.ST_REC.PRESENT).putB R.ST_REC.PASS (s.lugRead (testRecord + 6) 1 == 0)).putB R.ST_REC.RESTORE_FAIL (bitAt flags 2)
    let s2 := s1.lugWrite (testRecord + 7) (bytesLE 1 (setBit flags 0 true))
    s2.lugWrite (testRecord + 252) (bytesLE 4 (crc32 (Sparse.bytes 0 s2.sup.bank 252 testRecord)))
  else (s.zero R.ST_REC.PRESENT).zero R.ST_REC.PASS |>.zero R.ST_REC.RESTORE_FAIL

/-- How the start ends, and which BIST failed in it (R586). -/
def State.startResult (s : State) (o : StartSeen) (why : Nat) (restart : Bool) : State :=
  let env := (s.envFails o.running o.vdd o.ref o.temp).any (· == true)
  let logic := why != 0 && !env
  let fs := (logic && o.lbistSys) || o.mbistSys
  let fp := !restart && ((logic && o.lbistPcie) || o.mbistPcie)
  let m := o.mbistSys || (!restart && o.mbistPcie)
  let start := if why = 0 then 0 else if env then 3 else if fs || fp then 2 else 1
  let (ppm, s1) := if why = 0 then ((0 : Int), s) else s.refPpm o.ref
  let s2 := (((s1.put R.ST_STAT.START start).put R.ST_STAT.WHY_FULL why).putB R.ST_STAT.FAIL_SYS fs).putB R.ST_STAT.FAIL_PCIE fp
  (((s2.putB R.ST_STAT.MBIST_FAIL m).put R.ST_STAT.START_MS (min 65535 o.ms)).putS R.ST_ENV.REF_PPM ppm).put R.ST_ENV.VDD_MV o.vdd

/-- Steps 3 to 9 of R583, from the reset state: the bank's validity, the start, the fill, and the entry to `CONFIGURE`. -/
def State.powerOn (s : State) (o : StartSeen) (restart : Bool) : State :=
  let s0 := { s with sup := { s.sup with inReset := false } }
  let out := s0.lugOutcome
  let seals := s0.lugRead (lugSeal + 4) 4
  let s1 := if out = 0 then s0.raise R.LUG_CTL.SEALED else s0
  let s2 := (s1.zero R.SUP_STAT.LATCH).put R.LUGGAGE_STATUS.OUTCOME out
  let flags := s2.lugRead (testRecord + 7) 1
  let owed := out = 0 && s2.testCrcOk && bitAt flags 2 && !bitAt flags 0
  let wtime := s2.lugRead (testRecord + 12) 5
  let s3 := (s2.startResult o (s2.whyFull out restart) restart).put R.LEDGER_SEQ.SEQ (if out = 0 then s2.tailSeq else 1)
  let s4 := if out = 0 then (s3.putB R.RTC_STAT.VALID (s3.lugRead (lugSeal + 8) 4 == 1)).consumeRecord 0
    else ((s3.zero R.RTC_STAT.VALID).consumeRecord out).zeroBank
  let s5 := s4.record srcPower 0x1209 [out, seals]
  let s6 := if out = 0 then (List.range s5.variant.bays).foldl (fun s n => s.loadJournal n) s5 else s5
  let s7 := s6.record srcSelftest 0x1301 [s6.get R.ST_STAT.START, s6.get R.ST_STAT.WHY_FULL, s6.get R.ST_STAT.START_MS, out]
  let s8 := if owed then s7.record srcSelftest 0x1302 [wtime] else s7
  if s8.on R.SUP_STAT.INTLK then s8.curfew 0 else s8

/-- What AON and the board bring to a start: after a loss of all AON power its registers are at reset and the bank holds no seal; after
a power cycle no DRAM or way is retained. -/
def State.startBoard (s : State) (o : StartSeen) : State :=
  let s0 := if s.sup.inReset then s else s.resetAll false
  let s1 := s0.sealEnd
  let s2 := if o.aonLost then (s1.resetRegs 0xA0000 0xA1000).aonReset else s1
  let s3 := if o.cycled || o.aonLost then
      let s4 := (((List.range 16).map wayDomain ++ dramChannels.map dramDomain).foldl (fun s d => (s.put (R.PWR_STAT.STATE d) dOff).put (R.PWR_REQ.REQ d) dOff) s2)
      ((s4.resetRegs 0x50000 0x60000).keepDram []).onMem fun m => { m with bad := [] }
    else s2
  let s5 := (s3.zero R.SUP_STAT.SRC).putB R.RTC_STAT.RUNNING o.running
  let s6 := if o.intlkLow then s5.raise R.SUP_STAT.INTLK else s5
  { s6 with rtcS := { base := -(1000 * (o.sub : Int)), latch := none } }

/-- RESET_RISE (R583, R633): the power-on sequence runs to `CONFIGURE`; a seal in progress has completed. -/
def execResetRise (seen : StartSeen) (s : State) : Host.Outcome State Fault Refusal := .next ((s.startBoard seen).powerOn seen false)

/-- RESTART_FULL (R586, R595). -/
def execRestartFull (seen : StartSeen) (s : State) : Host.Outcome State Fault Refusal :=
  .next (
    if s.mode = 0 ∧ dramChannels.all fun ch => s.get (R.DRAM_STAT.STATE ch) == CH.UNUSED then
      let s1 := (((s.sealStart).sealEnd).resetAll true).putB R.RTC_STAT.RUNNING seen.running
      { s1 with rtcS := { s1.rtcS with base := -(1000 * (seen.sub : Int)) } }.powerOn seen true
    else s.raise R.ST_CTL.REJ)

/-! ## The self-test of `SHUTDOWN` (R562, R590 to R592) -/

/-- The record of R592, its first 252 bytes. -/
def State.testBytes (s : State) (o : TestSeen) (result flags : Nat) (ppm : Int) : List Byte :=
  let ran := result != 2
  let f := fun (v : Nat) => if ran then v else 0
  bytesLE 4 0x54534C47 ++ bytesLE 2 1 ++ bytesLE 1 result ++ bytesLE 1 flags ++ bytesLE 1 s.stepping ++ bytesLE 3 0 ++ bytesLE 5 s.sup.testAt ++
  bytesLE 1 0 ++ bytesLE 2 (if s.on R.MC_UID.VALID then s.get R.MC_UID.ID else 0xFFFF) ++ bytesLE 2 o.vdd ++ bytesLE 2 (ofInt 16 ppm) ++
  bytesLE 4 (f o.lbistMs) ++ bytesLE 4 (f o.mbistMs) ++ bytesLE 24 (f (o.tested % 2 ^ 163)) ++ bytesLE 24 (f (o.failed % 2 ^ 163)) ++
  bytesLE 2 (if ran then o.firstDom else 0xFFFF) ++ bytesLE 1 (f o.kind) ++ bytesLE 1 0 ++ bytesLE 4 (f o.memFails) ++
  bytesLE 8 (if ran && o.kind == 1 then o.sigExp else 0) ++ bytesLE 8 (if ran && o.kind == 1 then o.sigGot else 0) ++ bytesLE 148 0

/-- The bank's contents did not come back (R591): it is filled with zeros, and the journals with it. -/
def State.restoreFailed (s : State) : State :=
  (List.range s.variant.bays).foldl (fun (s : State) n => (s.onWrite n fun w => { w with journal := [] }).showJournal n) s.zeroBank

/-- Every domain other than AON, SYS and PCIE goes `OFF` (R562 step 5). -/
def State.allOff (s : State) : State :=
  ((List.range 161).filter (· != 152)).foldl (fun s d => if s.domain d = dOff then s else ((s.setPhase d .steady).domainEnters d dOff).put (R.PWR_REQ.REQ d) dOff) s

/-- SELFTEST_DONE (R590 to R592, R562 steps 4 and 5): once in each `SHUTDOWN`.  Its scan and BIST enables clear the secrets, cause 3; a
test that the environment check stopped makes none. -/
def execSelftestDone (seen : TestSeen) (s : State) : Host.Outcome State Fault Refusal :=
  .next (
    if s.mode ≠ 5 ∨ s.on R.MODE_STAT.SD_DONE then s
    else
      let env := s.envFails seen.running seen.vdd seen.ref seen.temp
      let stop := env.any (· == true)
      let bad := seen.failed % 2 ^ 163 != 0 || seen.memFails != 0 || seen.changed || seen.hot
      let result := if stop then 2 else if bad then 1 else 0
      let s0 := s.sealEnd
      let (ppm, s1) := s0.refPpm seen.ref
      let flags := 2 * s1.get R.ST_CTL.NEXT_FULL + 4 * b2n (!stop && seen.changed) + 8 * b2n (env.getD 0 false) + 16 * b2n (env.getD 1 false) +
        32 * b2n (env.getD 2 false) + 64 * b2n (env.getD 3 false || (!stop && seen.hot))
      let s2 := if stop then s1 else s1.clearSecrets 3
      let s3 := if !stop && seen.changed then s2.restoreFailed else s2
      let body := s3.testBytes seen result flags ppm
      let s4 := ((s3.lugWrite testRecord (body ++ bytesLE 4 (crc32 body))).sealStart).raise R.MODE_STAT.SD_DONE
      (s4.record srcPower 0x1204 [result]).allOff)

/-! ## Test access port and reference clock (R593, R632) -/

/-- TAP_INTERNAL_SCAN (R593, R594): secrets are cleared, and every domain but AON is held in reset until `RST_N` rises again; their
state is open, and nothing of it is retained. -/
def execTapInternalScan (s : State) : Host.Outcome State Fault Refusal :=
  .next (
    let s1 := s.resetAll false
    let s2 := ((List.range 16).map wayDomain ++ dramChannels.map dramDomain).foldl (fun s d => (s.put (R.PWR_STAT.STATE d) dOff).put (R.PWR_REQ.REQ d) dOff) s1
    (((s2.resetRegs 0x50000 0x60000).keepDram []).onMem fun m => { m with bad := [] }))

/-- TAP_BOUNDARY_INSTRUCTION (R593): BYPASS, IDCODE, SAMPLE/PRELOAD and EXTEST change no internal state. -/
def execTapBoundaryInstruction (s : State) : Host.Outcome State Fault Refusal := .next s

/-- REFERENCE_CLOCK_STOP (R632, R647): every downstream lane stops and the front-ends turn their lasers off. What else the controller
does until `RST_N` falls is undefined (DESIGN CHOICE, log entry 22). -/
def execReferenceClockStop (s : State) : Host.Outcome State Fault Refusal :=
  .next ((List.range s.variant.bays).foldl (fun s n =>
    let b := s.bay n
    s.setBay n { b with link := { b.link with lasers := 0 }, writing := { b.writing with powers := [] } }) s)

/-! ## `BAY_CTL` (R589) -/

/-- MISSING of a bay: bits [6:0] of `BAY_CTL`. -/
def State.bayMissing (s : State) (n : Nat) : Nat :=
  64 * b2n s.curfewOrShutdown + 32 * b2n (!s.on R.CADDY_CTL.EN) + 16 * b2n (!s.seqRuns n) + 8 * b2n (!s.on (R.RC_CTL.ZT_OK n)) +
    4 * b2n (!s.on (R.SPIN_CTL.PARAMS_OK n)) + 2 * b2n (!s.on (R.FT_CTL.TABLES_OK n)) + b2n (s.get (R.SRV_STAT.REC_VALID n) != 255)

/-- BAY_ENABLE (R589, R564). -/
def execBayEnable (n : Nat) (s : State) : Host.Outcome State Fault Refusal :=
  s.onBay n fun s =>
    if s.bayState n = BS.BRINGUP ∧ s.bayMissing n = 0 then
      if s.on (R.BAY_CTL.SUSP n) then s.mountStart n Why.register (bayBase n + 4)
      else s.setBayState n BS.EMPTY Why.register (bayBase n + 4)
    else s.raise (R.BAY_CTL.REJ n)

end Sys2Proof.Machine
end

