-- ==== Sys2Proof/Machine/CStore.lean ====
section
/-!
DEFINITION. Control stores: the microword's fields and their legal encodings (R487 to R492), check bits (R498), images (R504 to R506),
the window (R507, R520), and live update (R510, R511).
-/

namespace Sys2Proof.Machine

/-! ## The microword (R487) -/
namespace MW
/-- R487. -/ def ie (w : Nat) : Bool := bitAt w 144
/-- R487. -/ def ovt (w : Nat) : Bool := bitAt w 145
/-- R487. -/ def nac (w : Nat) : Nat := bitsAt w 140 4
/-- R487. -/ def stk (w : Nat) : Nat := bitsAt w 138 2
/-- R487. -/ def next (w : Nat) : Nat := bitsAt w 123 15
/-- R487. -/ def cond (w : Nat) : Nat := bitsAt w 118 5
/-- R487. -/ def tmr (w : Nat) : Nat := bitsAt w 116 2
/-- R487. -/ def cpAreg (w : Nat) : Nat := bitsAt w 110 6
/-- R487. -/ def cpOp (w : Nat) : Nat := bitsAt w 106 4
/-- R487. -/ def bayReg (w : Nat) : Nat := bitsAt w 92 14
/-- R487. -/ def baySel (w : Nat) : Nat := bitsAt w 89 3
/-- R487. -/ def bayOp (w : Nat) : Nat := bitsAt w 85 4
/-- R487. -/ def memDreg (w : Nat) : Nat := bitsAt w 79 6
/-- R487. -/ def memAreg (w : Nat) : Nat := bitsAt w 73 6
/-- R487. -/ def memSize (w : Nat) : Nat := bitsAt w 71 2
/-- R487. -/ def memOp (w : Nat) : Nat := bitsAt w 67 4
/-- R487. -/ def flg (w : Nat) : Bool := bitAt w 66
/-- R487. -/ def dest (w : Nat) : Nat := bitsAt w 59 7
/-- R487. -/ def shKind (w : Nat) : Nat := bitsAt w 57 2
/-- R487. -/ def shAmount (w : Nat) : Nat := bitsAt w 51 6
/-- R487. -/ def aluOp (w : Nat) : Nat := bitsAt w 46 5
/-- R487. -/ def srcB (w : Nat) : Nat := bitsAt w 39 7
/-- R487. -/ def srcA (w : Nat) : Nat := bitsAt w 32 7
/-- R487. -/ def imm (w : Nat) : Nat := bitsAt w 0 32

/-- Whether every field holds a legal encoding (R487 to R492). -/
def legal (w : Nat) : Bool :=
  let src := fun (v : Nat) => decide (v ≤ 75) || v == 127
  decide (tmr w ≤ 1) && decide (nac w ≤ 8) && decide (stk w ≤ 2) && (nac w != 5 || stk w == 2) && decide (cond w ≤ 15) &&
    decide (aluOp w ≤ 14) && src (srcA w) && src (srcB w) && (decide (dest w ≤ 65) || dest w == 127) && decide (memOp w ≤ 3) &&
    decide (bayOp w ≤ 6) && decide (cpOp w ≤ 4) && (cpOp w != 1 || decide (cpAreg w ≤ 62))

/-- Whether a customer-region word obeys R500 as far as its fields show (R506). -/
def customerOk (w : Nat) : Bool :=
  !([1, 2, 3, 4].contains (nac w) && decide (next w < 0x7000)) && bayOp w != 6
end MW

/-! ## Check bits (R498) -/

/-- The position of each data bit: from 3 upward, powers of two left out. -/
def eccPositions : List Nat := ((List.range 201).drop 3).filter fun p => !([4, 8, 16, 32, 64, 128].contains p)

/-- Exclusive or of a list of bits. -/
def parity (l : List Bool) : Bool := l.foldl (fun a b => a != b) false

/-- C[9:0] of a word at an address of a bank. -/
def csCheckBits (b a w : Nat) : Nat :=
  let data := (eccPositions.zipIdx).map fun (p, d) => (p, bitAt w d)
  let c := (List.range 8).map fun i => parity (data.map fun e => e.2 && bitAt e.1 i)
  let c8 := parity (data.map (·.2) ++ c)
  let c9 := parity (bitAt b 0 :: (List.range 15).map (bitAt a))
  ((c ++ [c8, c9]).zipIdx).foldl (fun v e => v + b2n e.1 * 2 ^ e.2) 0

/-! ## Images (R504, R505) -/

/-- Whether the cluster's domain is `ON`. -/
def State.clusterPowered (s : State) (c : Nat) : Bool := s.domain (128 + c) == dOn

/-- A refused request of a cluster, with its reason. -/
def State.csRefuse (s : State) (c reason : Nat) : State := (s.raise (R.CS_STAT.REJ c)).put (R.CS_STAT.REASON c) reason

/-- Whether a LOAD or VERIFY of the cluster is in progress. -/
def State.csBusy (s : State) (c : Nat) : Bool := (s.cluster c).loading.isSome || (s.cluster c).verifying.isSome

/-- A stage of a bank ends in failure (R505, R506). -/
def State.csFail (s : State) (c b reason : Nat) : State := ((s.csRefuse c reason).setBank c b 4 reason)

/-- A field of an image header. -/
def headField (h : List Byte) (o k : Nat) : Nat := ofBytesLE ((h.drop o).take k)

/-- Whether a header is well-formed (R504, R505). -/
def headOk (h : List Byte) : Bool :=
  let kind := headField h 6 1
  let count := headField h 14 2
  headField h 0 4 == 0x4355594B && headField h 4 2 == 1 && decide (kind ≤ 2) && decide (headField h 40 4 ≤ 80000) &&
    (if kind = 0 then count == 32768 else if kind = 1 then count == 4096 else decide (1 ≤ count) && decide (count ≤ 4096))

/-- Whether the reserved bits of a header are zero (R504). -/
def headReserved (h : List Byte) : Bool :=
  headField h 7 1 == 0 && headField h 52 8 == 0 && ((h.drop 24).take 16).all fun b => decide (b.toNat < 4)

/-- Cut a byte string into pieces of `k`. -/
def pieces (k : Nat) : Nat → List Byte → List (List Byte)
  | 0, _ => []
  | n + 1, l => l.take k :: pieces k n (l.drop k)

/-- Whether record addresses are strictly ascending, in range, and as the image's kind requires (R504). -/
def recordsOk (kind : Nat) (addrs : List Nat) : Bool :=
  (addrs.zip (addrs.drop 1)).all (fun e => decide (e.1 < e.2)) && addrs.all (fun a => decide (a < 32768)) &&
    (kind != 0 || addrs == List.range addrs.length) && (kind != 1 || addrs == (List.range addrs.length).map (0x7000 + ·))

/-- CS_LOAD (R505, R514): the bank becomes LOADING, or the request is refused. -/
def execCsLoad (c : Nat) (s : State) : Host.Outcome State Fault Refusal :=
  .next (
    if 4 ≤ c then s
    else
      let b := s.get (R.CS_CTL.BANK c)
      if !s.clusterPowered c || s.csBusy c || s.bankSelected c b || s.get (R.CS_STAT.UPD c) != 0 then s.csRefuse c 12
      else ((s.raise (R.CS_CTL.LOAD c)).onCluster c fun k => { k with loading := some b }).setBank c b 1 0)

/-- What the load of bank `b` finds, its base and image read: the reason it fails, or the bank with the image's header. -/
def loadImage (base : Bank) (baseOk : Bool) (head body : List Byte) : Nat ⊕ Bank :=
  let kind := headField head 6 1
  let recs := pieces 32 (headField head 14 2) body
  let addrs := recs.map fun r => headField r 24 2
  if !recordsOk kind addrs then .inl 2
  else if kind ≠ 0 ∧ !baseOk then .inl 5
  else if kind ≠ 0 ∧ headField base.head 8 4 ≠ headField head 8 4 then .inl 4
  else
    let keep := fun (a : Nat) => kind == 2 || (kind == 1 && decide (a < 0x7000))
    let words := recs.foldl (fun m r => Sparse.putNorm 0 m (headField r 24 2) (headField r 0 24)) (base.words.filter fun e => keep e.1)
    .inr { words := words
           bad := base.bad.filter fun a => keep a && !addrs.contains a
           head := head.take 60
           crc := headField head 60 4
           recs := addrs
           resv := recs.any fun r => headField r 26 6 != 0
           whole := true }

/-- Write a register from the bank chosen. -/
def State.showBank (s : State) (c b : Nat) : State :=
  let h := (s.bank c b).head
  let s1 := ((s.put (R.HOOK_LO.MASK c b) (headField h 16 4)).put (R.HOOK_HI.MASK c b) (headField h 20 4)).put (R.VREV.VENDOR_REV c b) (headField h 8 4)
  s1.put (if b = 0 then R.STATE_FMT.FMT_A c else R.STATE_FMT.FMT_B c) (headField h 12 2)

/-- CS_LOAD_DONE (R505): the image is read and checked; the bank is LOADED, or FAILED.  An access that is held keeps it LOADING. -/
def execCsLoadDone (c : Nat) (seen : MemSeen) (s : State) : Host.Outcome State Fault Refusal :=
  .next (match (s.cluster c).loading with
    | none => s
    | some b =>
      let src := s.get (R.CS_SRC_LO.ADDR c) * 64 + 2 ^ 32 * s.get (R.CS_SRC_HI.ADDR c)
      let fin := fun (s : State) => (s.zero (R.CS_CTL.LOAD c)).onCluster c fun k => { k with loading := none }
      let (id, s0) := s.fresh 8
      match s0.memRead true id src 64 seen with
      | (.done head, s1) =>
        if !headOk head then (fin s1).csFail c b 1
        else match s1.memRead true id (src + 64) (32 * headField head 14 2) {} with
          | (.done body, s2) =>
            match loadImage (s2.bank c (1 - b)) (s2.get (fBank c (1 - b)) == 3) head body with
            | .inl r => (fin s2).csFail c b r
            | .inr k => (((fin s2).onBank c b fun _ => k).showBank c b).setBank c b 2 0
          | (.held _, s2) => s2
          | (_, s2) => (fin s2).csFail c b 6
      | (.held _, s1) => s1
      | (_, s1) => (fin s1).csFail c b 6)

/-- CS_VERIFY (R506, R514). -/
def execCsVerify (c : Nat) (s : State) : Host.Outcome State Fault Refusal :=
  .next (
    if 4 ≤ c then s
    else
      let b := s.get (R.CS_CTL.BANK c)
      if !s.clusterPowered c || s.csBusy c || s.get (fBank c b) != 2 then s.csRefuse c 12
      else (s.raise (R.CS_CTL.VERIFY c)).onCluster c fun k => { k with verifying := some b })

/-- The CRC-32 rebuilt over the stored header fields and records (R506). -/
def Bank.imageCrc (k : Bank) : Nat :=
  crc32 (k.head ++ k.recs.flatMap fun a => bytesLE 24 (Sparse.get 0 k.words a) ++ bytesLE 2 a ++ bytesLE 6 0)

/-- The first check of R506 that a bank fails; 0 where all pass. -/
def Bank.verify (k : Bank) : Nat :=
  if !headReserved k.head || k.resv || k.words.any fun e => e.2 / 2 ^ 146 != 0 then 3
  else if !k.words.all fun e => MW.legal e.2 then 7
  else if k.words.any fun e => decide (0x7000 ≤ e.1) && !MW.customerOk e.2 then 8
  else if !k.bad.isEmpty then 9
  else if !k.whole || k.imageCrc != k.crc then 10
  else 0

/-- CS_VERIFY_DONE (R506): `undecoded` are addresses whose words were found uncorrectable. -/
def execCsVerifyDone (c : Nat) (undecoded : List Nat) (s : State) : Host.Outcome State Fault Refusal :=
  .next (match (s.cluster c).verifying with
    | none => s
    | some b =>
      let s1 := (s.zero (R.CS_CTL.VERIFY c)).onCluster c fun k => { k with verifying := none }
      let s2 := s1.onBank c b fun k => { k with bad := (undecoded.filter fun a => decide (a < 32768) && !k.bad.contains a) ++ k.bad }
      let r := (s2.bank c b).verify
      if r = 0 then s2.setBank c b 3 0 else s2.csFail c b r)

/-! ## Live update (R510, R511) -/

/-- The sequencers named switch: those in RUN at their next idle boundary, the others at once. -/
def State.switchAll (s : State) (c : Nat) (dest : Nat → Option Nat) : State :=
  let s1 := (clusterSeqs c).foldl (fun s q => s.onSeq q fun x => { x with switch := dest q }) s
  let s2 := ((clusterSeqs c).filter fun q => s1.seqState q != SQ.RUN).foldl (fun s q => s.applySwitch q) s1
  s2.updStep c

/-- Whether a bay that the cluster serves works or holds a tag (R510). -/
def State.clusterWorks (s : State) (c : Nat) : Bool :=
  (clusterSeqs c).any fun q => (s.servedBays q).any fun n => !(s.bay n).tags.isEmpty || !s.on (R.SCHED_STAT.IDLE n)

/-- CS_ACTIVATE (R510). -/
def execCsActivate (c : Nat) (s : State) : Host.Outcome State Fault Refusal :=
  .next (
    if 4 ≤ c then s
    else
      let b := s.get (R.CS_CTL.BANK c)
      if s.get (fBank c b) ≠ 3 ∨ s.bankSelected c b ∨ s.get (R.CS_STAT.UPD c) ≠ 0 ∨ s.csBusy c then s.csRefuse c 12
      else if s.curfewOrShutdown then s.csRefuse c 13
      else if s.get (R.STATE_FMT.FMT_A c) ≠ s.get (R.STATE_FMT.FMT_B c) ∧ s.clusterWorks c then s.csRefuse c 11
      else
        let s1 := (s.put (R.USTORE_SEL.PREV c) (s.get (R.USTORE_SEL.BANK c))).zero (R.CS_STAT.SWITCHED c)
        let s2 := (s1.onCluster c fun k => { k with target := b, late := false }).setStage c 1 0
        s2.switchAll c fun _ => some b)

/-- The sequencers that have switched go back to the bank they used before (R510, R511). -/
def State.csBack (s : State) (c : Nat) (late : Bool) : State :=
  let reason := if late then 14 else 0
  let prev := s.get (R.USTORE_SEL.PREV c)
  let done := s.get (R.CS_STAT.SWITCHED c)
  let s1 := (s.onCluster c fun k => { k with late := late }).setStage c 3 reason
  s1.switchAll c fun q => if bitAt done (q % 8) then some (bitsAt prev (q % 8) 1) else none

/-- ACTIVATE_TIMEOUT (R510): ACT_TMO expires in ACTIVATING. -/
def execActivateTimeout (c : Nat) (s : State) : Host.Outcome State Fault Refusal :=
  .next (if c < 4 ∧ s.get (R.CS_STAT.UPD c) = 1 then (s.csRefuse c 14).csBack c true else s)

/-- CS_CONFIRM (R511). -/
def execCsConfirm (c : Nat) (s : State) : Host.Outcome State Fault Refusal :=
  .next (
    if 4 ≤ c then s
    else if s.get (R.CS_STAT.UPD c) ≠ 2 then s.csRefuse c 12
    else if s.curfewOrShutdown then s.csRefuse c 13
    else (s.raise (R.CS_STAT.CONFIRMED c)).setStage c 0 0)

/-- CS_REVERT (R511). -/
def execCsRevert (c : Nat) (s : State) : Host.Outcome State Fault Refusal :=
  .next (if 4 ≤ c then s else if s.get (R.CS_STAT.UPD c) ≠ 2 then s.csRefuse c 12 else s.csBack c false)

/-- CONFIRM_TIMEOUT (R511). -/
def execConfirmTimeout (c : Nat) (s : State) : Host.Outcome State Fault Refusal :=
  .next (if c < 4 ∧ s.get (R.CS_STAT.UPD c) = 2 then s.csBack c false else s)

/-! ## The window (R507, R520) and bank selection (R516) -/

/-- The window's offset of word `a` of a bank (R520). -/
def windowBase (c b a : Nat) : Nat := 0x800000 + c * 0x200000 + b * 0x100000 + 32 * a

/-- CS_WINDOW_WRITE (R507, R520): the write of the last 32 bits; the five before are those staged, or the word's own. -/
def execCsWindowWrite (c b a v : Nat) (s : State) : Host.Outcome State Fault Refusal :=
  .next (
    if 4 ≤ c ∨ 2 ≤ b ∨ 32768 ≤ a ∨ !s.clusterPowered c then s
    else
      let at0 := windowBase c b a
      let ok := (s.mode == 2 || (clusterSeqs c).all fun q => s.seqState q == SQ.HELD) && !s.bankSelected c b
      if (s.cluster c).loading = some b ∨ (s.cluster c).verifying = some b then s.csRefuse c 12
      else if !ok then s.raise (R.CS_STAT.REJ c)
      else
        let old := Sparse.get 0 (s.bank c b).words a
        let low := (List.range 5).foldl (fun w j => w + 2 ^ (32 * j) * Sparse.get (bitsAt old (32 * j) 32) s.staged (at0 + 4 * j)) 0
        let w := low + 2 ^ 160 * (v % 2 ^ 32)
        let s1 := { s with staged := Sparse.clear s.staged at0 (at0 + 20) }
        (s1.onBank c b fun k => { k with words := Sparse.putNorm 0 k.words a w, bad := k.bad.filter (· != a), whole := false }).setBank c b 2 0)

/-- A word of the window as read (R507, R520); what an uncorrectable word reads as is open. -/
def State.windowRead (s : State) (off : Nat) : Nat × State :=
  let r := off - 0x800000
  let c := r / 0x200000
  let b := r % 0x200000 / 0x100000
  let a := r % 0x100000 / 32
  let j := r % 32 / 4
  let k := s.bank c b
  let w := Sparse.get 0 k.words a
  let bad := k.bad.contains a
  if j = 7 then (0, s)
  else if bad then
    let (v, s1) := s.fresh 32
    (if j = 6 then 2 ^ 31 + v % 1024 else v, s1)
  else (if j = 6 then csCheckBits b a w else bitsAt w (32 * j) 32, s)

/-- USTORE_SEL_WRITE (R516): bits of sequencers that are not HELD keep their value. -/
def execUstoreSelWrite (c v : Nat) (s : State) : Host.Outcome State Fault Refusal :=
  .next (
    if 4 ≤ c then s
    else
      let old := s.get (R.USTORE_SEL.BANK c)
      let held := fun (i : Nat) => s.seqState (8 * c + i) == SQ.HELD
      let new := (List.range 8).foldl (fun m i => if held i then setBit m i (bitAt v i) else m) old
      let s1 := s.put (R.USTORE_SEL.BANK c) new
      if (List.range 8).any fun i => !held i && bitAt v i != bitAt old i then s1.raise (R.CS_STAT.REJ c) else s1)

end Sys2Proof.Machine
end

