-- ==== Sys2Proof/Machine/RegFile.lean ====
section
/-!
DEFINITION. The register file as a bus sees it (R4 to R8, R12 to R14, R617 to R620, R648): reads, writes by access type, 64-bit pairs,
reserved offsets, absent and unpowered blocks, and writes that a block ignores.
-/

namespace Sys2Proof.Machine

/-! ## Registers by offset -/

/-- The fields of the register at an offset in one row's array. -/
def RegRow.at? (r : RegRow) (off : Nat) : Option (List FieldRow) :=
  if off < r.base then none
  else
    let d := off - r.base
    let i := if r.stride1 = 0 then 0 else d / r.stride1
    let e := d - r.stride1 * i
    let j := if r.stride2 = 0 then 0 else e / r.stride2
    if decide (i < r.count1) && decide (j < r.count2) && r.stride1 * i + r.stride2 * j == d then some (r.fields i j) else none

/-- The fields of the register at an offset; none where the offset is reserved. -/
def regAt (off : Nat) : Option (List FieldRow) := regRows.findSome? fun r => r.at? off

/-- The 64-bit pairs: offsets of the first `_LO` and `_HI` halves, stride and count.  The entries of the MSI-X table are not pairs of R12
(R620). -/
def regPairs : List (Nat × Nat × Nat × Nat) :=
  [(0x40, 0x44, 4, 1), (0x10004, 0x10008, 4, 1), (0x11000, 0x11004, 0x20, 256), (0x13000, 0x13004, 0x20, 256), (0x16008, 0x1600C, 0x10, 389),
   (0x40104, 0x40108, 0x20, 16), (0x500A4, 0x500A8, 4, 1), (0x500AC, 0x500B0, 4, 1), (0x500B4, 0x500B8, 4, 1), (0x500C4, 0x500C8, 4, 1),
   (0x500CC, 0x500D0, 4, 1), (0x60044, 0x60048, 4, 1), (0x70008, 0x7000C, 4, 1), (0x91104, 0x91100, 0x40, 2), (0x9110C, 0x91108, 0x40, 2),
   (0x91114, 0x91110, 0x40, 2), (0x91204, 0x91208, 0x20, 16), (0xA0100, 0xA0104, 4, 1), (0xC0004, 0xC0008, 4, 1), (0xD0004, 0xD0008, 0x100, 4),
   (0xD0020, 0xD0024, 0x100, 4), (0xD0028, 0xD002C, 0x100, 4), (0x1000404, 0x1000408, 0x10000, 128), (0x1000628, 0x100062C, 0x10000, 128)]

/-- The element of an array that an offset names. -/
def arrayIndex (base stride count off : Nat) : Option Nat :=
  if base ≤ off ∧ (off - base) % stride = 0 ∧ (off - base) / stride < count then some ((off - base) / stride) else none

/-- The pair of which `off` is the `_LO` half (`true`) or the `_HI` half: its two offsets. -/
def pairOf (lo : Bool) (off : Nat) : Option (Nat × Nat) :=
  regPairs.findSome? fun (l, h, st, k) => (arrayIndex (if lo then l else h) st k off).map fun i => (l + st * i, h + st * i)

/-- Whether a register is absent from the variant or lies in a domain that is not `ON` (R4 to R8, R619). -/
def State.hidden (s : State) (off : Nat) : Bool :=
  let within := fun (lo hi : Nat) => decide (lo ≤ off) && decide (off < hi)
  if within 0x41000 0x41400 then s.idAbsent ((off - 0x41000) / 4)
  else if within 0x70000 0x80000 then !s.variant.stripe
  else if within 0x80100 0x8014C then !s.variant.crypto
  else if within 0x91400 0x91424 then !s.variant.crypto || !s.variant.fabric
  else if within 0x91000 0x91500 then !s.variant.fabric
  else if within 0xD1000 0xD2000 then !s.clusterPowered ((off - 0xD1000) / 0x400)
  else if within 0xD2000 0xD2200 then !s.bayPresent ((off - 0xD2000) / 4)
  else if within 0x800000 0x1000000 then !s.clusterPowered ((off - 0x800000) / 0x200000)
  else if within 0x1000000 0x1800000 then
    let n := (off - 0x1000000) / 0x10000
    !s.bayPresent n || (decide (8 ≤ off % 0x10000) && s.domain n != dOn)
  else false

/-! ## Reads -/

/-- A register's bits as its fields hold them; write-only fields read as zero (R13). -/
def State.fieldWord (s : State) (l : List FieldRow) : Nat :=
  l.foldl (fun v r => if r.acc = .wo then v else v + s.get r.field * 2 ^ (r.field.key % 32)) 0

/-- The 32 bytes of a global trace record (R608). -/
def TraceRec.bytes (r : TraceRec) : List Byte :=
  bytesLE 8 r.time ++ bytesLE 1 r.stream ++ bytesLE 1 r.source ++ bytesLE 2 r.code ++ bytesLE 4 r.arg0 ++ bytesLE 8 r.arg1 ++ bytesLE 8 r.arg2

/-- A word of the global trace window (R616). -/
def State.gtrcWindow (s : State) (off : Nat) : Nat :=
  let i := 1024 * s.get R.GTRC_PAGE.PAGE + off / 32
  let k := (i + traceSize - s.gtrc.base) % traceSize
  match s.gtrc.buf[k]? with
  | some r => ofBytesLE ((r.bytes.drop (off % 32)).take 4)
  | none => 0

/-- A word of a bay's trace window (R140). -/
def State.servoWindow (s : State) (n off : Nat) : Nat :=
  let l := Sparse.get [] (s.bay n).servo.trc (512 * s.get (R.TRC_PAGE.PAGE n) + off / 8)
  let j := 2 * (off % 8 / 4)
  l.getD j 0 + 2 ^ 16 * l.getD (j + 1) 0

/-- `CAP` (R2). -/
def State.capWord (s : State) : Nat := s.variant.cap + 2 ^ 24 * s.stepping

/-- A register's value in use, without side effect; the RTC registers give their latched values while a latch is in force (R581). -/
def State.regValue (s : State) (off : Nat) : Nat :=
  let live := match regAt off with | some l => s.fieldWord l | none => 0
  let rtc := fun (f : Nat × Nat × Nat × Nat → Nat) (v : Nat) => match s.rtcS.latch with | some l => f l | none => v
  if off = 0x10 then s.capWord
  else if off = 0xA0104 then rtc (·.1) live
  else if off = 0xA0108 then rtc (·.2.2.2) s.rtcSub
  else if off = 0xA010C then rtc (·.2.1) s.rtcDateWord
  else if off = 0xA0110 then rtc (·.2.2.1) s.rtcTimeWord
  else if off = 0xA0010 then s.lugRead (4 * s.get R.LUG_ADDR.ADDR) 4
  else if off = 0x91000 ∧ !s.variant.crypto then setBit live 29 false
  else if 0xC8000 ≤ off ∧ off < 0xD0000 then s.gtrcWindow (off - 0xC8000)
  else if 0x1000000 ≤ off ∧ off < 0x1800000 ∧ off % 0x10000 = 4 then live / 128 * 128 + s.bayMissing ((off - 0x1000000) / 0x10000)
  else if 0x1000000 ≤ off ∧ off < 0x1800000 ∧ 0x3000 ≤ off % 0x10000 ∧ off % 0x10000 < 0x4000 then
    s.servoWindow ((off - 0x1000000) / 0x10000) (off % 0x10000 - 0x3000)
  else live

/-- A 32-bit read (R12, R13): its value, and its effects: the latch of a pair, fields that a read clears, the RTC's latch, and the
advance of `LUG_ADDR`.  Before step 9 of R583 a read gives all ones. -/
def State.regRead (s : State) (off : Nat) : Nat × State :=
  if s.sup.inReset then (0xFFFFFFFF, s)
  else if s.hidden off then (0, s)
  else if 0x800000 ≤ off ∧ off < 0x1000000 then s.windowRead off
  else
    let v := s.regValue off
    match pairOf false off with
    | some (lo, _) => (Sparse.get v s.latched lo, s)
    | none =>
      let s1 := match pairOf true off with
        | some (lo, hi) => { s with latched := s.latched.put lo (s.regValue hi) }
        | none => s
      let s2 := if off = 0xA0100 then
          { s1 with rtcS := { s1.rtcS with latch := some (s.get R.RTC_SEC_HI.SEC, s.rtcDateWord, s.rtcTimeWord, s.rtcSub) } }
        else if off = 0xA0010 then s1.lugNext
        else s1
      let rc := ((regAt off).getD []).filter fun r => r.acc == .rc
      (v, rc.foldl (fun s r => s.zero r.field) s2)

/-- A read of the host: its value leaves. -/
def State.hostRead (s : State) (off : Nat) : State :=
  let (v, s1) := s.regRead off
  s1.emit (.readData off v)

/-! ## Writes -/

/-- Whether a MOUNT or UNMOUNT is in progress on some bay (R385). -/
def State.mountRuns (s : State) : Bool :=
  s.bays.any fun e => e.2.tags.any fun c => c.wb.opcode == Op.MOUNT || c.wb.opcode == Op.UNMOUNT

/-- A write that its block ignores: the flag that it sets, if any; `none` where the write is accepted.  `bit` is the field's lowest bit
and `same` says that the field would keep its value: a field that shares a register with others is refused only where it would
change. -/
def State.guard (s : State) (host : Bool) (off bit : Nat) (same : Bool) (v : Nat) : Option (Option Field) :=
  let blk := fun (lo hi : Nat) => decide (lo ≤ off) && decide (off < hi)
  let flag := fun (b : Bool) (f : Field) => if b then some (some f) else none
  let mute := fun (b : Bool) => if b then some none else none
  if off = 0x40 ∨ off = 0x44 ∨ (off = 0x48 ∧ bit ≠ 31 ∧ !same) then flag s.mountRuns R.MT_COUNT.CFG_REJ
  else if off = 0x10004 ∨ off = 0x10008 then flag (s.on R.PORTER_CTL.ENABLE) R.PORTER_STAT.CFG_REJ
  else if blk 0x11000 0x13000 then
    let r := (off - 0x11000) / 0x20
    let o := off % 0x20
    flag ((decide (o < 8) || (o == 8 && bit == 0 && !same)) && s.on (R.SUB_CFG.EN r)) (R.SUB_STAT.CFG_REJ r)
  else if blk 0x13000 0x15000 then
    let r := (off - 0x13000) / 0x20
    let o := off % 0x20
    flag ((decide (o < 8) || (o == 8 && bit == 0 && !same)) && (s.on (R.RCP_CFG.EN r) || s.on (R.RCP_CFG.DRAINING r))) (R.RCP_STAT.CFG_REJ r)
  else if blk 0x40100 0x40300 then
    let r := (off - 0x40100) / 0x20
    let o := off % 0x20
    let cfg := o == 0 && bit != 30 && !same
    flag ((cfg || o == 4 || o == 8 || o == 12) && s.on (R.CADDY_RGN_CFG.EN r)) (R.CADDY_RGN_FLAGS.CFG_REJ r)
  else if 0x60000 ≤ off ∧ off < 0x70000 then
    match (List.range 8).find? fun k => (R.CACHE_SCRATCH.WAY k).key == 32 * off + bit with
    | some k => mute (s.on (R.CACHE_SCRATCH.EN k))
    | none => none
  else if off = 0x91000 then mute (bit == 29 && !s.variant.crypto && bitAt v 29)
  else if blk 0x91004 0x91014 then flag (s.get R.FAB_CTL.EN != 0) R.FAB_CTL.REJ
  else if blk 0x91200 0x91400 then
    let w := (off - 0x91200) / 0x20
    let o := off % 0x20
    flag (o != 0 && s.on (R.FW_CFG.EN w)) (R.FW_CFG.REJ w)
  else if blk 0xC0004 0xC0010 then flag (s.on R.LEDGER_CTL.EN) R.LEDGER_STAT.CFG_REJ
  else if 0x1000000 ≤ off then
    let n := (off - 0x1000000) / 0x10000
    let o := off % 0x10000
    if o = 0x58 ∨ o = 0x5C then mute (bit != 29 && s.on (R.FE_ACC.GO n))
    else if o = 0x380 ∨ o = 0x3A0 ∨ (R.SA_ERR.ERR n).key = 32 * off + bit then flag (host && !s.stepHostOk n) (R.STEP_STAT.WR_REJ n)
    else none
  else none

/-- Store a value in a field unless the write is ignored. -/
def State.storeField (s : State) (r : FieldRow) (x : Nat) : Option (Option Field) → State
  | some (some flag) => s.raise flag
  | some none => s
  | none => if r.keep.contains x then s else s.put r.field x

/-- The bits of a word that are not reserved in a loop record (R113, R14); of every other word all. -/
def recordMask (off : Nat) : Nat :=
  if decide (0x1000000 ≤ off) && decide (off < 0x1800000) && decide (0x1000 ≤ off % 0x10000) && decide (off % 0x10000 < 0x1400) then
    if off % 128 = 0 then 0xF3F else if off % 128 = 124 then 0 else 0xFFFFFFFF
  else 0xFFFFFFFF

/-- Write one field by its access type (R13); a value that the field does not take leaves it as it is (R648). -/
def State.writeField (s : State) (host : Bool) (off v : Nat) (r : FieldRow) : State :=
  let f := r.field
  let lo := f.key % 32
  let x := bitsAt (v &&& recordMask off) lo f.width
  match r.acc with
  | .ro => s
  | .rc => s
  | .own => s
  | .w1c => s.put f (s.get f - (s.get f &&& x))
  | .w1s => s.put f (s.get f ||| x)
  | .rw => s.storeField r x (s.guard host off lo (x == s.get f) v)
  | .wo => s.storeField r x (s.guard host off lo (x == s.get f) v)

/-- What a write sets going in other blocks: the vectors it unmasks, the ring whose message it makes due, the key slot that it shows,
the requests that it lets be served. -/
def State.afterWrite (s : State) (off : Nat) : State :=
  if 0x30000 ≤ off ∧ off < 0x38000 ∧ off % 16 = 12 then s.releaseVectors
  else if 0x13000 ≤ off ∧ off < 0x15000 ∧ off % 0x20 = 12 then
    let r := (off - 0x13000) / 0x20
    if s.ringDue r then s.ringMessage r else s
  else if 0x40000 ≤ off ∧ off < 0x42000 then s.caddyServe
  else if off = R.KEY_CTL.SLOT.key / 32 then s.keyShow
  else if 0xC0000 ≤ off ∧ off < 0xC0020 then s.ledgerStat
  else s

/-- Write every field of a register; a write of a reserved offset does nothing (R618). -/
def State.writeWord (s : State) (host : Bool) (off v : Nat) : State :=
  match regAt off with
  | some l => (l.foldl (fun s r => s.writeField host off v r) s).afterWrite off
  | none => s

/-- A 32-bit write of a register without a command of its own (R12, R13, R618, R619): a `_LO` half is staged, a `_HI` half takes effect
with it and ends the latch. -/
def State.regWrite (s : State) (host : Bool) (off v : Nat) : State :=
  if s.sup.inReset || s.hidden off then s
  else if 0x800000 ≤ off ∧ off < 0x1000000 then
    if off % 32 < 20 then { s with staged := s.staged.put off (v % 2 ^ 32) } else s
  else match pairOf true off with
    | some (lo, _) =>
      match s.guard host off 0 false v with
      | some (some flag) => s.raise flag
      | some none => s
      | none => { s with staged := s.staged.put lo (v % 2 ^ 32) }
    | none => match pairOf false off with
      | some (lo, hi) =>
        match s.guard host off 0 false v with
        | some (some flag) => s.raise flag
        | some none => s
        | none =>
          let s1 := { s with latched := s.latched.erase lo }
          let s2 := match s1.staged.find? fun e => e.1 == lo with
            | some (_, x) => { s1 with staged := s1.staged.erase lo }.writeWord host lo x
            | none => s1
          s2.writeWord host hi v
      | none => s.writeWord host off v

/-! ## Commands -/

/-- Whether an access that is not of 32 bits is one that the MSI-X table and PBA take (R620): an aligned 64-bit one. -/
def msixWide (off width : Nat) : Bool := decide (0x30000 ≤ off) && decide (off < 0x40000) && width == 8 && off % 8 == 0

/-- BAD_WIDTH_ACCESS (R12, R618, R620): a read gives all ones; a write is discarded and recorded. -/
def execBadWidthAccess (write : Bool) (offset width : Nat) (s : State) : Host.Outcome State Fault Refusal :=
  .next (
    if s.sup.inReset || msixWide offset width || (width == 4 && offset % 4 == 0) then s
    else if write then s.record srcRegs 0x1501 [offset, width, 0]
    else s.emit (.readData offset (2 ^ (8 * width) - 1)))

/-- PAIR_LO_WRITE (R12). -/
def execPairLoWrite (offset value : Nat) (s : State) : Host.Outcome State Fault Refusal :=
  .next (if (pairOf true offset).isSome then s.regWrite true offset value else s)

/-- PAIR_HI_WRITE (R12). -/
def execPairHiWrite (offset value : Nat) (s : State) : Host.Outcome State Fault Refusal :=
  .next (if (pairOf false offset).isSome then s.regWrite true offset value else s)

/-- PAIR_LO_READ (R12, R581). -/
def execPairLoRead (offset : Nat) (s : State) : Host.Outcome State Fault Refusal :=
  .next (if (pairOf true offset).isSome then s.hostRead offset else s)

/-- RC_FIELD_READ (R13): a read of any register; fields of access RC clear. -/
def execRcFieldRead (offset : Nat) (s : State) : Host.Outcome State Fault Refusal := .next (s.hostRead offset)

/-- REGISTER_WRITE (R13): a field with a command of its own keeps its value (DESIGN CHOICE, log entry 6). -/
def execRegisterWrite (offset value : Nat) (s : State) : Host.Outcome State Fault Refusal := .next (s.regWrite true offset value)

end Sys2Proof.Machine
end

