-- ==== Sys2Proof/Machine/Seq.lean ====
section
/-!
DEFINITION. The microsequencers (18_microsequencers.md): operands, ALU and conditions of a microword (R488 to R490), next address and
stack (R491), the three ports (R492), a word's execution and idle boundaries (R493), traps (R494 to R497), the regions and hook calls
(R500 to R502), the sequencer states (R509), the move of a bay (R485), and customer opcodes (R398, R501).
-/

namespace Sys2Proof.Machine

/-! ## Registers of a sequencer -/

/-- G`k` of a sequencer. -/
def Seq.reg (x : Seq) (k : Nat) : Nat := Sparse.get 0 x.g k
/-- Write it. -/
def Seq.setReg (x : Seq) (k v : Nat) : Seq := { x with g := Sparse.putNorm 0 x.g k (v % 2 ^ 64) }

/-- The timer: microseconds since release or the last clear (R488). -/
def State.seqTimer (s : State) (q : Nat) : Nat := (s.cycle / 1000 - (s.seq q).t0) % 2 ^ 32

/-- Whether an address lies in the customer region (R500). -/
def isCustomer (a : Nat) : Bool := decide (0x7000 ≤ a)

/-- The bay and the tag of a work item, 0xFF for none. -/
def SeqWork.place : SeqWork → Nat × Nat
  | .waybill n t => (n, t) | .event n t => (n, t) | .decision n => (n, 0xFF) | .attention n => (n, 0xFF) | .unit _ => (0xFF, 0xFF)

/-- The waybill of a work item. -/
def State.workWaybill (s : State) : SeqWork → Option Waybill
  | .waybill n t => (s.tag? n t).map (·.wb)
  | .event n t => (s.tag? n t).map (·.wb)
  | .unit k => (s.unit? k).map (·.wb)
  | _ => none

/-- 64-bit word `i` of the trap frame (R495). -/
def State.frameWord (s : State) (q i : Nat) : Nat := s.get (R.SEQ_FRAME.DATA q (2 * i)) + 2 ^ 32 * s.get (R.SEQ_FRAME.DATA q (2 * i + 1))

/-! ## Operands, ALU and conditions (R488 to R490) -/

/-- The value of source `v` (R488); the waybill word of an item without one is open. -/
def State.operand (s : State) (q w v : Nat) : Nat × State :=
  let x := s.seq q
  if v < 64 then (x.reg v, s)
  else if v = 64 then (ofInt 64 (toInt 32 (MW.imm w)), s)
  else if v = 65 then (MW.imm w, s)
  else if v = 66 then (MW.imm w * 2 ^ 32, s)
  else if v = 67 then (x.memData, s)
  else if v = 68 then (x.bayData, s)
  else if v = 69 then (x.cpResp, s)
  else if v = 70 then (x.upc, s)
  else if v = 71 then (q % 32 + 32 * (q / 8), s)
  else if v = 72 then (s.seqTimer q, s)
  else if v = 73 then
    match x.item.bind s.workWaybill with
    | some wb => (ofBytesLE ((wb.bytes.drop (4 * (MW.imm w % 16))).take 4), s)
    | none => s.fresh 32
  else if v = 74 then (x.flags, s)
  else if v = 75 then (s.frameWord q (MW.imm w % 8), s)
  else (0, s)

/-- SHIFT of the B operand (R487): LSL, LSR, ASR, ROR. -/
def shiftB (kind amount b : Nat) : Nat :=
  match kind with
  | 0 => b * 2 ^ amount % 2 ^ 64
  | 1 => b / 2 ^ amount
  | 2 => ofInt 64 (toInt 64 b / ((2 ^ amount : Nat) : Int))
  | _ => b / 2 ^ amount + b * 2 ^ (64 - amount) % 2 ^ 64

/-- Leading zeros of a 64-bit value. -/
def leadingZeros (b : Nat) : Nat := ((List.range 64).filter fun j => decide (b < 2 ^ j)).length

/-- A result, its carry and its signed overflow. -/
structure AluOut where
  result : Nat
  c      : Bool
  v      : Bool
  deriving DecidableEq, Repr

/-- The ALU (R489). -/
def alu (op a b : Nat) : AluOut :=
  let plain := fun (r : Nat) => (⟨r, false, false⟩ : AluOut)
  let fits := fun (x : Int) => decide (-(2 ^ 63 : Int) ≤ x) && decide (x < (2 ^ 63 : Int))
  let sa := toInt 64 a
  let sb := toInt 64 b
  match op with
  | 0 => ⟨(a + b) % 2 ^ 64, decide (2 ^ 64 ≤ a + b), !fits (sa + sb)⟩
  | 1 => ⟨(a + 2 ^ 64 - b) % 2 ^ 64, decide (b ≤ a), !fits (sa - sb)⟩
  | 2 => plain (a &&& b)
  | 3 => plain (a ||| b)
  | 4 => plain (a ^^^ b)
  | 5 => plain (a - (a &&& b))
  | 6 => plain a
  | 7 => plain b
  | 8 => plain (min a b)
  | 9 => plain (max a b)
  | 10 => plain (if sa ≤ sb then a else b)
  | 11 => plain (if sa ≤ sb then b else a)
  | 12 => plain (a % 2 ^ 32 * (b % 2 ^ 32))
  | 13 => plain (leadingZeros b)
  | _ => plain (popCount 64 b)

/-- Z, N, C and V of a result (R488, R489). -/
def AluOut.flags (r : AluOut) : Nat := b2n (r.result == 0) + 2 * b2n (bitAt r.result 63) + 4 * b2n r.c + 8 * b2n r.v

/-- Whether the scheduler of a bay has a decision due: no segment runs and some item is eligible. -/
def State.decisionDue (s : State) (n : Nat) : Bool :=
  let b := s.bay n
  b.sched.seg.isNone && b.cal.run.isNone && [BS.READY, BS.ACTIVE, BS.CAL, BS.DRAINING].contains (s.bayState n) && (s.allItems n).any (s.eligible n)

/-- The work items that wait for a sequencer (R493). -/
def State.workItems (s : State) (q : Nat) : List SeqWork :=
  (s.servedBays q).flatMap fun n =>
    let b := s.bay n
    b.arrived.map (SeqWork.waybill n ·) ++ (b.reports.take 1).map (fun e => SeqWork.event n e.tag) ++
      (if s.decisionDue n then [.decision n] else []) ++ (if b.attn then [.attention n] else [])

/-- A condition (R490): `f` and `a` are FLAGS and the A operand as they stood before the word. -/
def State.condition (s : State) (q f a imm k : Nat) : Bool :=
  let x := s.seq q
  if k = 0 then true
  else if k < 9 then bitAt f (k - 1)
  else if k = 9 then x.memAns.isNone
  else if k = 10 then x.bayAns.isNone
  else if k = 11 then !x.cpBusy
  else if k = 12 then decide (x.tcmp ≤ s.seqTimer q)
  else if k = 13 then (s.servedBays q).any fun n => !(s.bay n).reports.isEmpty
  else if k = 14 then !(s.workItems q).isEmpty
  else bitAt a (imm % 64)

/-! ## Traps (R494 to R497) -/

/-- The 64 bytes of a trap frame (R495). -/
def State.frameBytes (s : State) (q cause addr : Nat) : List Byte :=
  let x := s.seq q
  let inHook := isCustomer x.upc && x.hook.isSome
  let hook := match x.hook with | some h => h.hook | none => 0xFFFF
  let (bay, tag) := match x.item with | some i => i.place | none => (0xFF, 0xFF)
  bytesLE 2 (x.upc + 2 ^ 15 * s.get (R.SEQ_STAT.BANK q)) ++ bytesLE 1 cause ++ bytesLE 1 (s.get (R.SEQ_STAT.SP q)) ++ bytesLE 1 x.flags ++
    bytesLE 1 (1 + 2 * b2n inHook) ++ bytesLE 2 hook ++ bytesLE 8 addr ++ bytesLE 8 (x.reg 0) ++ bytesLE 8 (x.reg 1) ++ bytesLE 8 (x.reg 2) ++
    bytesLE 8 (x.reg 3) ++ bytesLE 4 (s.seqTimer q) ++ bytesLE 1 tag ++ bytesLE 1 bay ++ List.replicate 10 0

/-- Write the trap frame, set FRAME_BUSY and continue at the cause's vector (R495). -/
def State.takeTrap (s : State) (q cause addr : Nat) : State :=
  let l := s.frameBytes q cause addr
  let s1 := (List.range 16).foldl (fun s j => s.put (R.SEQ_FRAME.DATA q j) (ofBytesLE ((l.drop (4 * j)).take 4))) s
  (s1.raise (R.SEQ_STAT.FRAME_BUSY q)).onSeq q fun x => { x with upc := 0x40 + cause, wait := none }

/-- The command served by a sequencer ends `ST_MICRO_TRAP` and its buffers are released (R399, R469, R497). -/
def State.endServed (s : State) (q : Nat) : State :=
  let end_ := fun (n t : Nat) => match s.tag? n t with
    | some c => (s.endWork n t).endTag n c ST.MICRO_TRAP
    | none => s
  let s1 := match (s.seq q).item with
    | some (.waybill n t) => end_ n t
    | some (.event n t) => end_ n t
    | some (.unit k) => (match s.unit? k with | some c => s.endUnit c ST.MICRO_TRAP c.index c.done | none => s)
    | _ => s
  s1.onSeq q fun x => { x with item := none }

/-- A sequencer halts (R496, R497): its gate runs end as at a second miss, its tags end `ST_MICRO_TRAP`, its bays enter `FAULT`. -/
def State.seqHalt (s : State) (q : Nat) (causes : List Nat) : State :=
  let served := s.servedBays q
  let s1 := ((s.put (R.SEQ_STAT.STATE q) SQ.HALTED).put (R.SEQ_STAT.UPC q) (s.seq q).upc).zero (R.SEQ_CTL.HALT q)
  let s2 := served.foldl (fun s n => s.endGateRun n 4) s1
  let s3 := served.foldl (fun s n => s.endAllTags n ST.MICRO_TRAP) s2
  let s4 := match (s3.seq q).item with | some (.unit _) => s3.endServed q | _ => s3
  let s5 := served.foldl (fun s n => s.bayFaultStop n 0x1002) s4
  let bays := served.filter fun n => s4.bayState n != BS.FAULT && s5.bayState n == BS.FAULT
  (s5.record (srcSeq q) 0x1002 [q, holderWord causes, holderWord bays]).seqLeaves q

/-- A hook fault (R502): the call is abandoned, the stack goes back to its depth, and the default is taken: for hooks 16 to 31 the
command ends `ST_MICRO_TRAP`. -/
def State.hookFault (s : State) (q cause : Nat) : State :=
  match (s.seq q).hook with
  | none => s
  | some h =>
    let s1 := ((s.onSeq q fun x => { x with hook := none }).put (R.SEQ_STAT.SP q) h.depth).hookFaultRecord q h.hook cause
    if 16 ≤ h.hook ∧ h.hook < 32 then s1.endServed q else s1

/-- A trap other than an interrupt, at the word at µPC (R495 to R497). -/
def State.seqFault (s : State) (q cause addr : Nat) : State :=
  let at_ := (s.seq q).upc
  if s.on (R.SEQ_STAT.FRAME_BUSY q) then
    let old := s.get (R.SEQ_FRAME.DATA q 0)
    let s1 := (s.setBitOf (R.SEQ_FRAME.DATA q 1) 10 true).raise (R.SEQ_STAT.DOUBLE q)
    (s1.trapRecord q cause (s1.frameWord q 0) (s1.frameWord q 1)).seqHalt q [bitsAt old 16 8, cause]
  else
    let inHook := isCustomer at_ && (s.seq q).hook.isSome
    let s1 := s.takeTrap q cause addr
    let s2 := s1.trapRecord q cause (s1.frameWord q 0) (s1.frameWord q 1)
    if inHook then s2.hookFault q cause
    else if isCustomer at_ then s2
    else if cause = 2 ∨ cause = 6 ∨ cause = 7 then s2.endServed q
    else s2.seqHalt q [cause]

/-- The interrupt that may be taken after a word with IE (R494): the lowest position's cause is cleared. -/
def State.seqInterrupt (s : State) (q : Nat) : State :=
  match (s.servedBays q).find? fun n => (s.bay n).intr with
  | some n => (s.setBay n { s.bay n with intr := false }).takeTrap q 1 0
  | none => s

/-! ## The bay port (R492) -/

/-- The state that a command's meaning leaves. -/
def State.after (s : State) (f : State → Host.Outcome State Fault Refusal) : State := match f s with | .next t => t | _ => s

/-- Write a stepper's mode as the serving sequencer (R207): a mode that the field holds already, and modes 2 and above 4, change nothing. -/
def State.portMode (s : State) (n : Nat) (sa : Bool) (m : Nat) : State :=
  if m = s.get (fMode sa n) then s
  else match m with
    | 0 => s.after (execStepperOff n sa false)
    | 1 => s.after (execStepperHold n sa false)
    | 3 => s.after (execStepperFollow n sa false)
    | 4 => s.after (execStepperHome n sa false)
    | _ => s

/-- The fields of `SRV_CTL` as the serving sequencer writes them, under no check of R115. -/
def State.portLoops (s : State) (n v : Nat) : State :=
  let s1 := (List.range 8).foldl (fun s k => s.setAuto n k (bitAt v (8 + k))) s
  let s2 := (List.range 8).foldl (fun s k => s.hostEn n k (bitAt v k)) s1
  s2.after (execLoopCommit n (bitsAt v 16 8))

/-- WR of the bay port (R492): the register's plain fields, then what a command of its own does to the others (DESIGN CHOICE, log entry 6). -/
def State.portWrite (s : State) (n off v : Nat) : State :=
  let when_ := fun (b : Bool) (f : State → Host.Outcome State Fault Refusal) (s : State) => if b then s.after f else s
  let s0 := s.regWrite false (bayBase n + off) v
  if s0.domain n ≠ dOn then s0
  else if off = 0x4 then when_ (bitAt v 31) (execBayEnable n) s0
  else if off = 0x40 then
    when_ (bitAt v 31) (execLinkWithdraw n) (when_ (bitAt v 30) (execBayHostReset n) (s0.after (execAdcRateWrite n (bitsAt v 12 2))))
  else if off = 0x58 then when_ (bitAt v 31) (execFeAccessGo n) s0
  else if off = 0x100 then s0.portLoops n v
  else if off = 0x110 then when_ (bitAt v 30) (execRepTableClear n) s0
  else if 0x120 ≤ off ∧ off < 0x140 then s0.put (R.SRV_MAN.Q n ((off - 0x120) / 4)) v
  else if off = 0x164 then when_ (bitAt v 30) (execTraceForce n) (when_ (bitAt v 31) (execTraceArm n) s0)
  else if off = 0x180 then when_ (bitAt v 30) (execInfusionStop n) (when_ (bitAt v 31) (execInfusionStart n) s0)
  else if off = 0x240 then s0.after (execFallbackClearWrite n (bitsAt v 0 16))
  else if off = 0x300 then s0.after (execSpinDirWrite n (bitsAt v 30 1))
  else if off = 0x380 then when_ (bitAt v 31) (execStepperGo n false false) s0
  else if off = 0x3A0 then when_ (bitAt v 31) (execStepperGo n true false) s0
  else if off = 0x3C0 then (s0.portMode n false (bitsAt v 0 3)).portMode n true (bitsAt v 4 3)
  else if off = 0x3C4 then when_ (bitAt v 27) (execEncFaultClear n) s0
  else if off = 0x608 then when_ (bitAt v 31) (execDlCommitRequest n) s0
  else if off = 0x624 then when_ (bitAt v 30) (execJournalReleaseAll n) (when_ (bitAt v 31) (execJournalRelease n) s0)
  else if off = 0x700 then when_ (bitAt v 31) (execCalRequest n) s0
  else s0

/-- ARM (R98, R492): the entry is placed, or the answer says why not. -/
def State.portArm (s : State) (n r : Nat) : Nat × State :=
  let e : TimelineEntry := ⟨bitsAt r 0 24, bitsAt r 24 4, bitsAt r 28 2, bitsAt r 30 8, bitsAt r 38 6, bitsAt r 44 8⟩
  if e.cls = 3 then (2, s)
  else if 128 ≤ (s.bay n).tracker.events.length then (0, s)
  else (1, s.onTracker n fun t => { t with events := t.events ++ [e] })

/-- EPOP (R492): the next fired-event report, whose form the spec does not give, or 0. -/
def State.portPop (s : State) (n : Nat) : Nat × State :=
  match (s.bay n).reports with
  | [] => (0, s)
  | _ :: rest => (s.setBay n { s.bay n with reports := rest }).fresh 64

/-- Whether a word's use of the bay and Caddy ports is permitted (R492). -/
def State.portsPermit (s : State) (q w : Nat) : Bool :=
  let x := s.seq q
  let bay := MW.bayOp w == 0 || ((s.bayAt q (MW.baySel w)).isSome && !(MW.bayOp w == 6 && isCustomer x.upc))
  let id := bitsAt (x.reg (MW.cpAreg w)) 48 8
  let caddy := MW.cpOp w != 1 || id == idSeq q || (s.servedBays q).contains id || decide (165 ≤ id)
  bay && caddy

/-- Issue a word's bay-port operation; `r` is its result and `g` gives G60 to G63 as they stood before the word. -/
def State.bayIssue (s : State) (q w r : Nat) (g : Nat → Nat) : State :=
  match s.bayAt q (MW.baySel w) with
  | none => s
  | some n =>
    let i := MW.bayReg w % 64
    let answer := fun (a : Nat × State) => a.2.onSeq q fun x => { x with bayAns := some [a.1] }
    match MW.bayOp w with
    | 1 => answer (s.regRead (bayBase n + 4 * MW.bayReg w))
    | 2 => s.portWrite n (4 * MW.bayReg w) (r % 2 ^ 32)
    | 3 => answer (s.portArm n r)
    | 4 => answer (s.portPop n)
    | 5 => s.onSeq q fun x => { x with bayAns := some ((List.range 4).map fun j => s.lugRead (2048 * n + 32 * i + 8 * j) 8) }
    | 6 =>
      let l := (List.range 4).flatMap fun j => bytesLE 8 (g j)
      (match JEntry.ofBytes l with
        | some e => s.putEntry n i (some e)
        | none => (s.putEntry n i none).lugWrite (2048 * n + 32 * i) l)
    | _ => s

/-! ## The cache and Caddy port (R466, R492) -/

/-- A CADDY operation of a sequencer's port (R466); the response to an OP that the spec does not give is open. -/
def State.caddyIssue (s : State) (q r0 r1 : Nat) : State :=
  let op := bitsAt r0 56 8
  let id := bitsAt r0 48 8
  let cls := bitsAt r0 32 2
  let ptr := r1 % 2 ^ 41
  let busy := s.onSeq q fun x => { x with cpBusy := true, cpAns := none }
  let answer := fun (a : Nat × Nat × State) => a.2.2.onSeq q fun x => { x with cpAns := some (some (caddyWord a.1 a.2.1 ptr)) }
  if op = 1 then busy.caddyRequest id cls (.seq q)
  else if op = 2 then answer (busy.caddyShare id (bitsAt r0 40 8) cls ptr)
  else if op = 3 then answer (busy.caddyRelease id cls ptr)
  else
    let (v, s1) := busy.fresh 64
    s1.onSeq q fun x => { x with cpAns := some (some v) }

/-- Issue a word's operation of the cache and Caddy port. -/
def State.cpIssue (s : State) (q w r0 r1 : Nat) : State :=
  match MW.cpOp w with
  | 0 => s
  | 1 => s.caddyIssue q r0 r1
  | k => match s.cacheOp (k - 2) (r0 % 2 ^ 41) with
    | some t => t.onSeq q fun x => { x with cpBusy := true, cpAns := some none }
    | none => s

/-! ## The memory port (R492) -/

/-- Do a word's memory operation, on the allocating path (R458): what it answers, and what the port will answer with. -/
def State.memIssue (s : State) (q w : Nat) (seen : MemSeen) : MemAns × Option Nat × State :=
  let x := s.seq q
  let a := x.reg (MW.memAreg w) % 2 ^ 41
  let k := 2 ^ MW.memSize w
  let d := x.reg (MW.memDreg w)
  match MW.memOp w with
  | 1 => match s.memRead true (idSeq q) a k seen with
    | (.done l, s1) => (.done l, some (ofBytesLE l), s1)
    | (r, s1) => (r, none, s1)
  | 2 => let (r, s1) := s.memWrite true (idSeq q) a (bytesLE k d) seen
    (r, none, s1)
  | 3 => match s.memRead true (idSeq q) a k seen with
    | (.done l, s1) =>
      let (r, s2) := s1.memWrite true (idSeq q) a (bytesLE k (ofBytesLE l + d)) {}
      (r, some (ofBytesLE l), s2)
    | (r, s1) => (r, none, s1)
  | _ => (.done [], none, s)

/-! ## Execution of a word (R491, R493) -/

/-- The next address of a word that does not wait (R491): `a` is the A operand, `taken` the branch, `top` the entry popped. -/
def nextAddress (w upc a top mret : Nat) (taken : Bool) : Nat :=
  let seq := (upc + 1) % 2 ^ 15
  match MW.nac w with
  | 1 => MW.next w
  | 2 => if taken then MW.next w else seq
  | 3 => if taken then MW.next w else seq
  | 4 => (MW.next w + a % 64) % 2 ^ 15
  | 5 => top
  | 6 => mret
  | 8 => 0
  | _ => seq

/-- Whether the branch of a word is taken. -/
def branchTaken (w : Nat) (cond : Bool) : Bool := if MW.nac w = 3 then !cond else if MW.nac w = 2 then cond else true

/-- Whether a word pushes (R491). -/
def pushes (w : Nat) (cond : Bool) : Bool := MW.stk w == 1 && branchTaken w cond

/-- The fault of a word apart from its memory access and the hook budget: cause and FAULT_ADDR. -/
def State.wordFault (s : State) (q w nxt : Nat) (cond v : Bool) : Option (Nat × Nat) :=
  let x := s.seq q
  let busy := s.on (R.SEQ_STAT.FRAME_BUSY q)
  let sp := s.get (R.SEQ_STAT.SP q)
  let back := MW.nac w == 5 && (match x.hook with | some h => h.ret == nxt | none => false)
  let mem := x.reg (MW.memAreg w) % 2 ^ 41
  let line := x.reg (MW.cpAreg w) % 2 ^ 41
  if (MW.nac w = 6 ∧ !busy) ∨ (MW.nac w = 8 ∧ busy) then some (5, 0)
  else if pushes w cond ∧ 8 ≤ sp then some (3, 0)
  else if MW.stk w = 2 ∧ sp = 0 then some (4, 0)
  else if isCustomer x.upc ∧ !isCustomer nxt ∧ !back then some (0x0B, nxt)
  else if MW.ovt w ∧ v then some (9, 0)
  else if !s.portsPermit q w then some (0x0A, 0)
  else if MW.memOp w ≠ 0 ∧ mem % 2 ^ MW.memSize w ≠ 0 then some (8, mem)
  else if 2 ≤ MW.cpOp w ∧ !s.mapped line then some (7, line)
  else none

/-- The hook call that a vendor word starts or a RET ends (R501). -/
def nextHook (x : Seq) (w sp nxt : Nat) (push : Bool) : Option HookCall :=
  if MW.nac w = 8 then none
  else match x.hook with
    | some h => if MW.nac w = 5 ∧ h.ret = nxt ∧ isCustomer x.upc then none else some h
    | none =>
      if push && !isCustomer x.upc && isCustomer nxt && decide (nxt < 0x7040) then some ⟨nxt - 0x7000, (x.upc + 1) % 2 ^ 15, sp, 0⟩ else none

/-- Write DEST and the flags (R488, R493 step 3). -/
def Seq.writeDest (x : Seq) (w : Nat) (r : AluOut) : Seq :=
  let d := MW.dest w
  let x1 := if d < 64 then x.setReg d r.result else if d = 64 then { x with flags := r.result % 256 }
    else if d = 65 then { x with tcmp := r.result % 2 ^ 32 } else x
  if MW.flg w then { x1 with flags := x1.flags / 16 * 16 + r.flags } else x1

/-- Take the next work item at an idle boundary (R493 step 2); which of several kinds goes first is open. -/
def State.takeWork (s : State) (q : Nat) : State :=
  match s.workItems q with
  | [] => s.onSeq q fun x => { x with item := none }
  | w :: ws =>
    let (k, s0) := if ws.isEmpty then (0, s) else s.fresh 16
    let i := (w :: ws).getD (k % (ws.length + 1)) w
    let s1 := s0.onSeq q fun x => { x with item := some i }
    match i with
    | .waybill n t => s1.setBay n { s1.bay n with arrived := (s1.bay n).arrived.filter (· != t) }
    | .attention n => s1.setBay n { s1.bay n with attn := false }
    | _ => s1

/-- An idle boundary (R493): switches and moves, waiting waybills of the bays served, the next work item. -/
def State.idleWord (s : State) (q : Nat) : State :=
  let s1 := s.idleBoundary q
  ((s1.servedBays q).foldl (fun s n => State.fillTags n 64 s) s1).takeWork q

/-- MRET (R496): FLAGS, SP and G0 to G3 from the frame; FRAME_BUSY and BUSY clear.  µPC is the caller's. -/
def State.mret (s : State) (q : Nat) : State :=
  let f := fun (o k : Nat) => bitsAt (s.frameWord q (o / 8)) (8 * (o % 8)) (8 * k)
  let g := fun (k : Nat) => s.frameWord q (2 + k)
  let s1 := s.onSeq q fun x => { (((x.setReg 0 (g 0)).setReg 1 (g 1)).setReg 2 (g 2)).setReg 3 (g 3) with flags := f 4 1 }
  ((s1.put (R.SEQ_STAT.SP q) (f 3 1)).zero (R.SEQ_STAT.FRAME_BUSY q)).setBitOf (R.SEQ_FRAME.DATA q 1) 8 false

/-- Take a sequencer to STOPPED and show its µPC (R509, R518). -/
def State.stopSeq (s : State) (q : Nat) : State :=
  (((s.put (R.SEQ_STAT.STATE q) SQ.STOPPED).put (R.SEQ_STAT.UPC q) (s.seq q).upc).zero (R.SEQ_CTL.HALT q)).seqLeaves q

/-- The end of a word: an interrupt may be taken after a word with IE where no frame was busy before it (R494, R513); a HALT that waits
for the word boundary takes effect (R509). -/
def State.endWord (s : State) (q w : Nat) (busy : Bool) : State :=
  let s1 := if MW.ie w && !busy then s.seqInterrupt q else s
  if s1.on (R.SEQ_CTL.HALT q) ∧ s1.seqState q = SQ.RUN then s1.stopSeq q else s1

/-- The effects of a word that no trap stops (R493): `r` is its ALU result, `cond` its condition, `m` what the memory port will answer. -/
def State.wordEffects (s : State) (q w nxt a : Nat) (r : AluOut) (cond : Bool) (m : Option Nat) : State :=
  let x := s.seq q
  let busy := s.on (R.SEQ_STAT.FRAME_BUSY q)
  let sp := s.get (R.SEQ_STAT.SP q)
  let push := pushes w cond
  let s1 := s.onSeq q fun y => { y.writeDest w r with memAns := if MW.memOp w = 0 then y.memAns else some m }
  let s2 := (s1.bayIssue q w r.result (fun j => x.reg (60 + j))).cpIssue q w (x.reg (MW.cpAreg w)) (x.reg (MW.cpAreg w + 1))
  let s3 := if push then (s2.onSeq q fun y => { y with stack := y.stack.set sp ((x.upc + 1) % 2 ^ 15) }).put (R.SEQ_STAT.SP q) (sp + 1)
    else if MW.stk w = 2 then s2.put (R.SEQ_STAT.SP q) (sp - 1) else s2
  let s4 := if MW.tmr w = 1 then s3.onSeq q fun y => { y with t0 := s3.cycle / 1000 } else s3
  let s5 := if MW.nac w = 6 then s4.mret q else s4
  if MW.nac w = 7 ∧ !cond then s5.onSeq q fun y => { y with wait := some (x.flags, a) }
  else
    let s6 := s5.onSeq q fun y => { y with upc := nxt, hook := nextHook x w sp nxt push }
    (if MW.nac w = 8 then s6.idleWord q else s6).endWord q w busy

/-- Whether a word waits for a port (R488, R492): a source that has not been answered, or a port that is busy. -/
def Seq.held (x : Seq) (w : Nat) : Bool :=
  let uses := fun (v : Nat) => MW.srcA w == v || MW.srcB w == v
  (uses 67 && x.memAns.isSome) || (uses 68 && x.bayAns.isSome) || (uses 69 && x.cpBusy) ||
    (MW.memOp w != 0 && x.memAns.isSome) || (MW.bayOp w != 0 && x.bayAns.isSome) || (MW.cpOp w != 0 && x.cpBusy)

/-- Execute a word that has been fetched; `spent` says that the hook call in progress has used its budget (R501, R513). -/
def State.runWord (s : State) (q w : Nat) (spent : Bool) (seen : MemSeen) : State :=
  let x := s.seq q
  let budget := fun (s : State) => if spent then s.seqFault q 0x0C 0 else s
  if !MW.legal w then s.seqFault q 5 0
  else if x.held w then budget s
  else
    let (a, s1) := s.operand q w (MW.srcA w)
    let (b, s2) := s1.operand q w (MW.srcB w)
    let r := alu (MW.aluOp w) a (shiftB (MW.shKind w) (MW.shAmount w) b)
    let cond := s.condition q x.flags a (MW.imm w) (MW.cond w)
    let sp := s.get (R.SEQ_STAT.SP q)
    let nxt := nextAddress w x.upc a (x.stack.getD (sp - 1) 0) (bitsAt (s.get (R.SEQ_FRAME.DATA q 0)) 0 15) (branchTaken w cond)
    match s2.wordFault q w nxt cond r.v with
    | some (cause, addr) => s2.seqFault q cause addr
    | none =>
      let addr := x.reg (MW.memAreg w) % 2 ^ 41
      match s2.memIssue q w seen with
      | (.done _, m, s3) => if spent then s2.seqFault q 0x0C 0 else s3.wordEffects q w nxt a r cond m
      | (.held _, _, s3) => budget s3
      | (.unmapped _, _, s3) => s3.seqFault q 7 addr
      | (.uncorr _, _, s3) => s3.seqFault q 6 addr

/-- A corrected fetch is counted; more than 1,024 in one second are recorded once in it (R499). -/
def State.fetchCorrected (s : State) (c : Nat) : State :=
  let sec := s.cycle / 1000000000
  let (at_, k, done) := (s.cluster c).rate
  let (k1, done1) := if at_ = sec then (k + 1, done) else (1, false)
  let fire := decide (1024 < k1) && !done1
  let s1 := (s.count (R.CS_ERR.CORR c) 1).onCluster c fun y => { y with rate := (sec, k1, done1 || fire) }
  if fire then s1.record srcCstore 0x1007 [c, k1] else s1

/-- An uncorrectable fetch is recorded and traps (R499); the word stays so until the bank is loaded again. -/
def State.fetchUncorr (s : State) (q b a : Nat) : State :=
  let c := q / 8
  let s1 := s.onBank c b fun k => { k with bad := if k.bad.contains a then k.bad else a :: k.bad }
  let s2 := (((s1.raise (R.CS_BAD.VALID c)).put (R.CS_BAD.BANK c) b).put (R.CS_BAD.ADDR c) a).count (R.CS_ERR.UNCORR c) 1
  (s2.record srcCstore 0x1006 [c, b, a, q]).seqFault q 2 a

/-- One cycle of a sequencer (R493): a WAIT word in progress looks at its condition; else the word at µPC is fetched and executed. -/
def State.seqCycle (s : State) (q : Nat) (fetch : FetchSeen) (seen : MemSeen) : State :=
  let c := q / 8
  let b := s.get (R.SEQ_STAT.BANK q)
  let s0 := s.onSeq q fun x => { x with hook := x.hook.map fun h => { h with cycles := h.cycles + 1 } }
  let x := s0.seq q
  let spent := match x.hook with | some h => decide (s.hookBudget q < h.cycles) | none => false
  let w := Sparse.get 0 (s.bank c b).words x.upc
  match x.wait with
  | some (f, a) =>
    if spent then s0.seqFault q 0x0C 0
    else if s0.condition q f a (MW.imm w) (MW.cond w) then
      (s0.onSeq q fun y => { y with wait := none, upc := (x.upc + 1) % 2 ^ 15 }).endWord q w (s.on (R.SEQ_STAT.FRAME_BUSY q))
    else s0
  | none =>
    if fetch = .uncorrectable ∨ (s.bank c b).bad.contains x.upc then s0.fetchUncorr q b x.upc
    else (if fetch = .corrected then s0.fetchCorrected c else s0).runWord q w spent seen

/-- Whether a sequencer exists and its cluster is `ON`. -/
def State.seqThere (s : State) (q : Nat) : Bool := decide (q < 32) && s.clusterPowered (q / 8)

/-- MICROWORD_EXECUTE (R493): a cycle of a sequencer in RUN. -/
def execMicrowordExecute (q : Nat) (fetch : FetchSeen) (seen : MemSeen) (s : State) : Host.Outcome State Fault Refusal :=
  .next (if s.seqThere q && s.seqState q == SQ.RUN then s.seqCycle q fetch seen else s)

/-- MEM_PORT_ANSWER (R492). -/
def execMemPortAnswer (q : Nat) (s : State) : Host.Outcome State Fault Refusal :=
  .next (match (s.seq q).memAns with
    | some v => s.onSeq q fun x => { x with memAns := none, memData := v.getD x.memData }
    | none => s)

/-- BAY_PORT_ANSWER (R492): BAY_DATA, or G60 to G63 for a JRD. -/
def execBayPortAnswer (q : Nat) (s : State) : Host.Outcome State Fault Refusal :=
  .next (match (s.seq q).bayAns with
    | some [v] => s.onSeq q fun x => { x with bayAns := none, bayData := v }
    | some l => s.onSeq q fun x => { (l.zipIdx).foldl (fun (x : Seq) e => x.setReg (60 + e.2) e.1) x with bayAns := none }
    | none => s)

/-- CP_PORT_ANSWER (R466, R492): CP_RESP, where the operation has a response word; a REQUEST not yet granted has no answer. -/
def execCpPortAnswer (q : Nat) (s : State) : Host.Outcome State Fault Refusal :=
  .next (match (s.seq q).cpBusy, (s.seq q).cpAns with
    | true, some v => s.onSeq q fun x => { x with cpBusy := false, cpAns := none, cpResp := v.getD x.cpResp }
    | _, _ => s)

/-! ## Sequencer states (R509) -/

/-- A request of `SEQ_CTL` that does not meet its condition. -/
def State.seqRefuse (s : State) (q : Nat) : State := s.raise (R.SEQ_CTL.REJ q)

/-- SEQ_RELEASE (R509). -/
def execSeqRelease (q : Nat) (s : State) : Host.Outcome State Fault Refusal :=
  .next (
    if !s.seqThere q then s
    else
      let c := q / 8
      let b := bitsAt (s.get (R.USTORE_SEL.BANK c)) (q % 8) 1
      if s.seqState q ≠ SQ.HELD ∨ s.get (fBank c b) ≠ 3 ∨ s.curfewOrShutdown then s.seqRefuse q
      else ((s.put (R.SEQ_STAT.STATE q) SQ.RUN).put (R.SEQ_STAT.BANK q) b).onSeq q fun x => { x with upc := 0, t0 := s.cycle / 1000 })

/-- SEQ_RESET (R509). -/
def execSeqReset (q : Nat) (s : State) : Host.Outcome State Fault Refusal :=
  .next (
    if !s.seqThere q then s
    else
      let idle := (s.servedBays q).all fun n => (s.bay n).tags.isEmpty
      let st := s.seqState q
      if st = SQ.HALTED ∨ st = SQ.STOPPED ∨ (st = SQ.RUN ∧ idle) then (s.holdSeq q).zero (R.SEQ_CTL.HALT q) else s.seqRefuse q)

/-- SEQ_DIAG_HALT (R509): at once, or where a WAIT word is in progress at its end. -/
def execSeqDiagHalt (q : Nat) (s : State) : Host.Outcome State Fault Refusal :=
  .next (
    if !s.seqThere q then s
    else if s.seqState q ≠ SQ.RUN ∨ s.mode ≠ 2 then s.seqRefuse q
    else if (s.seq q).wait.isSome then s.raise (R.SEQ_CTL.HALT q)
    else s.stopSeq q)

/-- SEQ_STEP (R509). -/
def execSeqStep (q : Nat) (fetch : FetchSeen) (seen : MemSeen) (s : State) : Host.Outcome State Fault Refusal :=
  .next (
    if !s.seqThere q then s
    else if s.seqState q ≠ SQ.STOPPED ∨ s.mode ≠ 2 then s.seqRefuse q
    else
      let s1 := s.seqCycle q fetch seen
      s1.put (R.SEQ_STAT.UPC q) (s1.seq q).upc)

/-- SEQ_RESUME (R509). -/
def execSeqResume (q : Nat) (s : State) : Host.Outcome State Fault Refusal :=
  .next (
    if !s.seqThere q then s
    else if s.seqState q ≠ SQ.STOPPED ∨ s.mode ≠ 2 then s.seqRefuse q
    else s.put (R.SEQ_STAT.STATE q) SQ.RUN)

/-! ## Moving a bay (R485) -/

/-- Whether a position of a sequencer is free: no present bay holds it, and none moves to it. -/
def State.positionFree (s : State) (q p : Nat) : Bool :=
  (List.range 128).all fun n => !s.bayPresent n ||
    (!(s.get (R.BAY_SEQ.CUR_SEQ n) == q && s.get (R.BAY_SEQ.CUR_POS n) == p) &&
      (match (s.bay n).move with | some (t, r, _) => !(t == q && r == p) | none => true))

/-- BAY_SEQ_MOVE (R485): GO is accepted or refused; a sequencer that is not in RUN gives the bay up at once. -/
def execBaySeqMove (n : Nat) (s : State) : Host.Outcome State Fault Refusal :=
  s.onBay n fun s =>
    let b := s.bay n
    let q := s.get (R.BAY_SEQ.SEQ n)
    let p := s.get (R.BAY_SEQ.POS n)
    if b.tags.isEmpty && b.waiting.isEmpty && s.on (R.SCHED_STAT.IDLE n) && s.seqState q == SQ.RUN && s.positionFree q p &&
        !s.curfewOrShutdown && b.move.isNone then
      let s1 := (s.raise (R.BAY_SEQ.GO n)).setBay n { b with move := some (q, p, false) }
      let old := s.get (R.BAY_SEQ.CUR_SEQ n)
      if s1.seqState old = SQ.RUN then s1 else s1.giveUp old
    else s.raise (R.BAY_SEQ.REJ n)

/-! ## Customer opcodes (R398, R501, R502) -/

/-- The statuses that a customer hook may return (R400): those that the controller defines, and the customer codes of each class. -/
def statusDefined (v : Nat) : Bool :=
  let top := fun (cls hi : Nat) => decide (v / 256 = cls) && decide (v % 256 ≤ hi) && decide (1 ≤ v % 256)
  v == 0 || top 0x01 4 || top 0x10 0x15 || top 0x20 0x0B || top 0x30 4 || top 0x40 8 || top 0x50 6 ||
    ([0x00, 0x01, 0x10, 0x20, 0x30, 0x40, 0x50].contains (v / 256) && decide (0xE0 ≤ v % 256) && decide (v % 256 ≤ 0xEF))

/-- What the end of a hook call does to the command (R501, R502): the status and DONE, INDEX and RESULT it ends with, unless CONTINUE
keeps it queued. -/
def State.customEnd (s : State) (q k : Nat) : HookEnd → Option (Nat × Nat × Nat × Nat) × State
  | .fault cause w0 w1 => (some (ST.MICRO_TRAP, 0, 0xFFFFFFFF, 0), (s.trapRecord q cause w0 w1).hookFaultRecord q k cause)
  | .returned g0 g1 g2 g3 =>
    let st := g0 % 65536
    if bitAt g0 31 then (none, s)
    else if statusDefined st then (some (st, g1 % 2 ^ 32, g2 % 2 ^ 32, g3), s)
    else (some (ST.MICRO_TRAP, g1 % 2 ^ 32, g2 % 2 ^ 32, g3), s.hookOverride q k st ST.MICRO_TRAP)

/-- CUSTOMER_OPCODE (R398, R501): a selection of the work item calls the hook of its opcode, on the bay's serving sequencer or, for a unit
command (`n` 0xFF), on that of `SEQ_UNIT`. -/
def execCustomerOpcode (n id : Nat) (ret : HookEnd) (s : State) : Host.Outcome State Fault Refusal :=
  .next (
    if n = 0xFF then
      match s.unit? id with
      | none => s
      | some c =>
        let q := s.get R.SEQ_UNIT.SEQ
        let k := c.wb.opcode - 0xE0 + 16
        if !isCustomerOp c.wb.opcode || s.seqState q != SQ.RUN then s
        else if !s.hookLoaded q k then s.endUnit c ST.BAD_OPCODE 0 0
        else match s.customEnd q k ret with
          | (none, s1) => s1
          | (some (st, done, index, result), s1) => s1.endUnit { c with result := result } st index done
    else match s.tag? n id, s.servingSeq n with
      | some c, some q =>
        let k := c.wb.opcode - 0xE0 + 16
        if !isCustomerOp c.wb.opcode || !c.granted || s.seqState q != SQ.RUN then s
        else if !s.hookLoaded q k then (s.endWork n id).endTagAt n c ST.BAD_OPCODE 0 0
        else match s.customEnd q k ret with
          | (none, s1) => s1
          | (some (st, done, index, result), s1) => (s1.endWork n id).endTagAt n { c with result := result } st index done
      | _, _ => s)

end Sys2Proof.Machine
end

