-- ==== Sys2Proof/Machine/Dispatch.lean ====
section
/-!
DEFINITION. The command dispatch: one arm per constructor of `Instr`, each a direct call of its meaning.
-/

namespace Sys2Proof.Machine

/-- The effect of a command on everything but the queue. -/
def exec (i : Instr) (s : State) : Host.Outcome State Fault Refusal :=
  match i with
  | .badWidthAccess write offset width => Sys2Proof.Machine.execBadWidthAccess write offset width s
  | .pairLoWrite offset value => Sys2Proof.Machine.execPairLoWrite offset value s
  | .pairHiWrite offset value => Sys2Proof.Machine.execPairHiWrite offset value s
  | .pairLoRead offset => Sys2Proof.Machine.execPairLoRead offset s
  | .rcFieldRead offset => Sys2Proof.Machine.execRcFieldRead offset s
  | .registerWrite offset value => Sys2Proof.Machine.execRegisterWrite offset value s
  | .angleEventFire bay index now action => Sys2Proof.Machine.execAngleEventFire bay index now action s
  | .rfFrameReceive bay f => Sys2Proof.Machine.execRfFrameReceive bay f s
  | .servoFrameReceive bay f => Sys2Proof.Machine.execServoFrameReceive bay f s
  | .motorFrameReceive bay f tpwm now theta emf => Sys2Proof.Machine.execMotorFrameReceive bay f tpwm now theta emf s
  | .motorFrameMissing bay tpwm theta emf => Sys2Proof.Machine.execMotorFrameMissing bay tpwm theta emf s
  | .encoderFrameReceive bay f => Sys2Proof.Machine.execEncoderFrameReceive bay f s
  | .statusFrameReceive bay f => Sys2Proof.Machine.execStatusFrameReceive bay f s
  | .alertFrameReceive bay f => Sys2Proof.Machine.execAlertFrameReceive bay f s
  | .cfgRspReceive bay f => Sys2Proof.Machine.execCfgRspReceive bay f s
  | .echoResponseReceive bay f ps => Sys2Proof.Machine.execEchoResponseReceive bay f ps s
  | .presenceSample bay alertHigh => Sys2Proof.Machine.execPresenceSample bay alertHigh s
  | .bayResetRelease bay => Sys2Proof.Machine.execBayResetRelease bay s
  | .upstreamBlockLock bay => Sys2Proof.Machine.execUpstreamBlockLock bay s
  | .trainTimeout bay => Sys2Proof.Machine.execTrainTimeout bay s
  | .trainRetry bay => Sys2Proof.Machine.execTrainRetry bay s
  | .linkLossSyncErrors bay => Sys2Proof.Machine.execLinkLossSyncErrors bay s
  | .linkLossStatusTimeout bay => Sys2Proof.Machine.execLinkLossStatusTimeout bay s
  | .linkWithdraw bay => Sys2Proof.Machine.execLinkWithdraw bay s
  | .drainTimeout bay => Sys2Proof.Machine.execDrainTimeout bay s
  | .bayHostReset bay => Sys2Proof.Machine.execBayHostReset bay s
  | .feAccessGo bay => Sys2Proof.Machine.execFeAccessGo bay s
  | .feAccessTimeout bay => Sys2Proof.Machine.execFeAccessTimeout bay s
  | .alertPinTimeout bay => Sys2Proof.Machine.execAlertPinTimeout bay s
  | .interlockFall => Sys2Proof.Machine.execInterlockFall s
  | .loffRepeat => Sys2Proof.Machine.execLoffRepeat s
  | .adcRateWrite bay rate => Sys2Proof.Machine.execAdcRateWrite bay rate s
  | .wedgeDetection bay tau bits wobble => Sys2Proof.Machine.execWedgeDetection bay tau bits wobble s
  | .wedgeDecision bay now => Sys2Proof.Machine.execWedgeDecision bay now s
  | .toothReport bay tau agrees => Sys2Proof.Machine.execToothReport bay tau agrees s
  | .toothSynthesis bay now => Sys2Proof.Machine.execToothSynthesis bay now s
  | .acqTimeout bay => Sys2Proof.Machine.execAcqTimeout bay s
  | .bridgeExpire bay => Sys2Proof.Machine.execBridgeExpire bay s
  | .servoUpdate bay slot => Sys2Proof.Machine.execServoUpdate bay slot s
  | .loopCommit bay mask => Sys2Proof.Machine.execLoopCommit bay mask s
  | .loopCommitApply bay slot => Sys2Proof.Machine.execLoopCommitApply bay slot s
  | .srvEnWrite bay mask => Sys2Proof.Machine.execSrvEnWrite bay mask s
  | .srvAutoWrite bay mask => Sys2Proof.Machine.execSrvAutoWrite bay mask s
  | .srvManWrite bay slot value => Sys2Proof.Machine.execSrvManWrite bay slot value s
  | .repTableClear bay => Sys2Proof.Machine.execRepTableClear bay s
  | .defectHoldOverrun bay => Sys2Proof.Machine.execDefectHoldOverrun bay s
  | .traceArm bay => Sys2Proof.Machine.execTraceArm bay s
  | .traceForce bay => Sys2Proof.Machine.execTraceForce bay s
  | .infusionStart bay => Sys2Proof.Machine.execInfusionStart bay s
  | .infusionStop bay => Sys2Proof.Machine.execInfusionStop bay s
  | .focusSweepEnd bay => Sys2Proof.Machine.execFocusSweepEnd bay s
  | .focusSettleEnd bay => Sys2Proof.Machine.execFocusSettleEnd bay s
  | .layerProbeFail bay => Sys2Proof.Machine.execLayerProbeFail bay s
  | .trackingCloseTimeout bay => Sys2Proof.Machine.execTrackingCloseTimeout bay s
  | .ljKickEnd bay => Sys2Proof.Machine.execLjKickEnd bay s
  | .ljBrakeEnd bay => Sys2Proof.Machine.execLjBrakeEnd bay s
  | .ljCloseTimeout bay => Sys2Proof.Machine.execLjCloseTimeout bay s
  | .ljSettleEnd bay => Sys2Proof.Machine.execLjSettleEnd bay s
  | .tjKickEnd bay => Sys2Proof.Machine.execTjKickEnd bay s
  | .tjBrakeEnd bay => Sys2Proof.Machine.execTjBrakeEnd bay s
  | .tjSettleEnd bay => Sys2Proof.Machine.execTjSettleEnd bay s
  | .fallbackClearWrite bay mask => Sys2Proof.Machine.execFallbackClearWrite bay mask s
  | .recoveryTimeout bay => Sys2Proof.Machine.execRecoveryTimeout bay s
  | .spinAlignEnd bay => Sys2Proof.Machine.execSpinAlignEnd bay s
  | .spinHandoverTimeout bay => Sys2Proof.Machine.execSpinHandoverTimeout bay s
  | .spinSpeedStepTimeout bay => Sys2Proof.Machine.execSpinSpeedStepTimeout bay s
  | .spinDirWrite bay dir => Sys2Proof.Machine.execSpinDirWrite bay dir s
  | .zeroCrossingTimeout bay => Sys2Proof.Machine.execZeroCrossingTimeout bay s
  | .coastStoppedTimeout bay => Sys2Proof.Machine.execCoastStoppedTimeout bay s
  | .speedRegulationTimeout bay => Sys2Proof.Machine.execSpeedRegulationTimeout bay s
  | .stepperGo bay sa host => Sys2Proof.Machine.execStepperGo bay sa host s
  | .stepperOff bay sa host => Sys2Proof.Machine.execStepperOff bay sa host s
  | .stepperHold bay sa host => Sys2Proof.Machine.execStepperHold bay sa host s
  | .stepperFollow bay sa host => Sys2Proof.Machine.execStepperFollow bay sa host s
  | .stepperHome bay sa host => Sys2Proof.Machine.execStepperHome bay sa host s
  | .stepperPark bay sa => Sys2Proof.Machine.execStepperPark bay sa s
  | .plannerTick bay => Sys2Proof.Machine.execPlannerTick bay s
  | .stepperArrived bay sa => Sys2Proof.Machine.execStepperArrived bay sa s
  | .homeHoldEnd bay sa => Sys2Proof.Machine.execHomeHoldEnd bay sa s
  | .stallResync bay => Sys2Proof.Machine.execStallResync bay s
  | .encFaultClear bay => Sys2Proof.Machine.execEncFaultClear bay s
  | .zoneEntryFetchDone bay seen => Sys2Proof.Machine.execZoneEntryFetchDone bay seen s
  | .sectorPreambleStart bay pos => Sys2Proof.Machine.execSectorPreambleStart bay pos s
  | .detectorPassDone bay => Sys2Proof.Machine.execDetectorPassDone bay s
  | .otfDecodeDone bay => Sys2Proof.Machine.execOtfDecodeDone bay s
  | .sectorCrcCheck bay => Sys2Proof.Machine.execSectorCrcCheck bay s
  | .captureGrantTimeout bay psa => Sys2Proof.Machine.execCaptureGrantTimeout bay psa s
  | .recoveryDecodeStart bay => Sys2Proof.Machine.execRecoveryDecodeStart bay s
  | .recoveryDecodeDone bay => Sys2Proof.Machine.execRecoveryDecodeDone bay s
  | .extentReconDone bay x reads => Sys2Proof.Machine.execExtentReconDone bay x reads s
  | .ladderTimeout bay tag item => Sys2Proof.Machine.execLadderTimeout bay tag item s
  | .dmaReadDone bay tag data => Sys2Proof.Machine.execDmaReadDone bay tag data s
  | .dlCommitAgeTimer bay => Sys2Proof.Machine.execDlCommitAgeTimer bay s
  | .dlCommitRequest bay => Sys2Proof.Machine.execDlCommitRequest bay s
  | .dlCommitDone bay full sectors sysNext => Sys2Proof.Machine.execDlCommitDone bay full sectors sysNext s
  | .journalRelease bay => Sys2Proof.Machine.execJournalRelease bay s
  | .journalReleaseAll bay => Sys2Proof.Machine.execJournalReleaseAll bay s
  | .calRequest bay => Sys2Proof.Machine.execCalRequest bay s
  | .calTimeout bay => Sys2Proof.Machine.execCalTimeout bay s
  | .calTempCheck bay => Sys2Proof.Machine.execCalTempCheck bay s
  | .doorbellWake => Sys2Proof.Machine.execDoorbellWake s
  | .doorbellPollTimer => Sys2Proof.Machine.execDoorbellPollTimer s
  | .doorbellFetchDone tails heads => Sys2Proof.Machine.execDoorbellFetchDone tails heads s
  | .waybillReadDone ring wbs => Sys2Proof.Machine.execWaybillReadDone ring wbs s
  | .waybillAdmit ring list => Sys2Proof.Machine.execWaybillAdmit ring list s
  | .hostReadFail channel fault addr id bufs => Sys2Proof.Machine.execHostReadFail channel fault addr id bufs s
  | .hostReadCplTimeout channel addr id bufs => Sys2Proof.Machine.execHostReadCplTimeout channel addr id bufs s
  | .dmaRestart channel => Sys2Proof.Machine.execDmaRestart channel s
  | .receiptWrite => Sys2Proof.Machine.execReceiptWrite s
  | .coalesceTimer ring => Sys2Proof.Machine.execCoalesceTimer ring s
  | .vectorUnmask how => Sys2Proof.Machine.execVectorUnmask how s
  | .busMasterEnable => Sys2Proof.Machine.execBusMasterEnable s
  | .pcieReset kind => Sys2Proof.Machine.execPcieReset kind s
  | .subRingEnable ring => Sys2Proof.Machine.execSubRingEnable ring s
  | .subRingDisable ring => Sys2Proof.Machine.execSubRingDisable ring s
  | .rcpRingEnable ring => Sys2Proof.Machine.execRcpRingEnable ring s
  | .rcpRingDisable ring => Sys2Proof.Machine.execRcpRingDisable ring s
  | .mount bay tag copies anchors dir dl => Sys2Proof.Machine.execMount bay tag copies anchors dir dl s
  | .unmount bay tag reads full sectors sysNext => Sys2Proof.Machine.execUnmount bay tag reads full sectors sysNext s
  | .read bay tag => Sys2Proof.Machine.execRead bay tag s
  | .write bay tag written reads => Sys2Proof.Machine.execWrite bay tag written reads s
  | .verifyRange bay tag => Sys2Proof.Machine.execVerifyRange bay tag s
  | .verifyJournal bay tag full sectors sysNext => Sys2Proof.Machine.execVerifyJournal bay tag full sectors sysNext s
  | .flush bay tag full sectors sysNext => Sys2Proof.Machine.execFlush bay tag full sectors sysNext s
  | .closeExtent bay tag written reads => Sys2Proof.Machine.execCloseExtent bay tag written reads s
  | .closeExtentAbandon bay tag => Sys2Proof.Machine.execCloseExtentAbandon bay tag s
  | .mediaScan bay tag => Sys2Proof.Machine.execMediaScan bay tag s
  | .partitionCreate bay tag full dirPsa sectors sysNext => Sys2Proof.Machine.execPartitionCreate bay tag full dirPsa sectors sysNext s
  | .partitionRetire bay tag full dirPsa sectors sysNext => Sys2Proof.Machine.execPartitionRetire bay tag full dirPsa sectors sysNext s
  | .keyBind bay tag => Sys2Proof.Machine.execKeyBind bay tag s
  | .tableLoadRaw id data seen => Sys2Proof.Machine.execTableLoadRaw id data seen s
  | .tableLoadZone id data seen => Sys2Proof.Machine.execTableLoadZone id data seen s
  | .tableReadDram id seen => Sys2Proof.Machine.execTableReadDram id seen s
  | .tableReadRawSlot bay tag => Sys2Proof.Machine.execTableReadRawSlot bay tag s
  | .stripeEncode id table => Sys2Proof.Machine.execStripeEncode id table s
  | .stripeRebuild id table => Sys2Proof.Machine.execStripeRebuild id table s
  | .fixity id data old seen => Sys2Proof.Machine.execFixity id data old seen s
  | .fabricSend id data seen => Sys2Proof.Machine.execFabricSend id data seen s
  | .mode cmd => Sys2Proof.Machine.execMode cmd s
  | .modeSystemProposal cmd => Sys2Proof.Machine.execModeSystemProposal cmd s
  | .customerOpcode bay id ret => Sys2Proof.Machine.execCustomerOpcode bay id ret s
  | .rangeLockGrant bay tag => Sys2Proof.Machine.execRangeLockGrant bay tag s
  | .schedDecision bay => Sys2Proof.Machine.execSchedDecision bay s
  | .ageDeadline bay item => Sys2Proof.Machine.execAgeDeadline bay item s
  | .stripeSegmentDone id data seen => Sys2Proof.Machine.execStripeSegmentDone id data seen s
  | .keyLoad => Sys2Proof.Machine.execKeyLoad s
  | .keyClear => Sys2Proof.Machine.execKeyClear s
  | .keyClearAll => Sys2Proof.Machine.execKeyClearAll s
  | .dramTrain => Sys2Proof.Machine.execDramTrain s
  | .dramResume => Sys2Proof.Machine.execDramResume s
  | .dramTrainDone channel failed => Sys2Proof.Machine.execDramTrainDone channel failed s
  | .dramFillDone channel => Sys2Proof.Machine.execDramFillDone channel s
  | .dramCfgWrite channel value => Sys2Proof.Machine.execDramCfgWrite channel value s
  | .scrubGo => Sys2Proof.Machine.execScrubGo s
  | .scrubStop pos seen => Sys2Proof.Machine.execScrubStop pos seen s
  | .scrubPassEnd seen => Sys2Proof.Machine.execScrubPassEnd seen s
  | .dramRetire => Sys2Proof.Machine.execDramRetire s
  | .dramRetireDone => Sys2Proof.Machine.execDramRetireDone s
  | .cacheWayDisable mask => Sys2Proof.Machine.execCacheWayDisable mask s
  | .cacheWayCleanDone way => Sys2Proof.Machine.execCacheWayCleanDone way s
  | .scratchEnable slot => Sys2Proof.Machine.execScratchEnable slot s
  | .scratchFillDone slot => Sys2Proof.Machine.execScratchFillDone slot s
  | .scratchDisable slot => Sys2Proof.Machine.execScratchDisable slot s
  | .cacheClean => Sys2Proof.Machine.execCacheClean s
  | .cacheCleanInv => Sys2Proof.Machine.execCacheCleanInv s
  | .cacheZeroLine => Sys2Proof.Machine.execCacheZeroLine s
  | .evictionWriteback => Sys2Proof.Machine.execEvictionWriteback s
  | .caddyEnable on => Sys2Proof.Machine.execCaddyEnable on s
  | .caddyRegionEnable region => Sys2Proof.Machine.execCaddyRegionEnable region s
  | .caddyRequest id cls => Sys2Proof.Machine.execCaddyRequest id cls s
  | .caddyGrant => Sys2Proof.Machine.execCaddyGrant s
  | .caddyShare id newId cls ptr => Sys2Proof.Machine.execCaddyShare id newId cls ptr s
  | .caddyRelease id cls ptr => Sys2Proof.Machine.execCaddyRelease id cls ptr s
  | .caddyReclaim => Sys2Proof.Machine.execCaddyReclaim s
  | .microwordExecute seq fetch seen => Sys2Proof.Machine.execMicrowordExecute seq fetch seen s
  | .memPortAnswer seq => Sys2Proof.Machine.execMemPortAnswer seq s
  | .cpPortAnswer seq => Sys2Proof.Machine.execCpPortAnswer seq s
  | .baySeqMove bay => Sys2Proof.Machine.execBaySeqMove bay s
  | .seqRelease seq => Sys2Proof.Machine.execSeqRelease seq s
  | .seqReset seq => Sys2Proof.Machine.execSeqReset seq s
  | .seqDiagHalt seq => Sys2Proof.Machine.execSeqDiagHalt seq s
  | .seqStep seq fetch seen => Sys2Proof.Machine.execSeqStep seq fetch seen s
  | .seqResume seq => Sys2Proof.Machine.execSeqResume seq s
  | .csLoad cluster => Sys2Proof.Machine.execCsLoad cluster s
  | .csLoadDone cluster seen => Sys2Proof.Machine.execCsLoadDone cluster seen s
  | .csVerify cluster => Sys2Proof.Machine.execCsVerify cluster s
  | .csVerifyDone cluster undecoded => Sys2Proof.Machine.execCsVerifyDone cluster undecoded s
  | .csActivate cluster => Sys2Proof.Machine.execCsActivate cluster s
  | .activateTimeout cluster => Sys2Proof.Machine.execActivateTimeout cluster s
  | .csConfirm cluster => Sys2Proof.Machine.execCsConfirm cluster s
  | .csRevert cluster => Sys2Proof.Machine.execCsRevert cluster s
  | .confirmTimeout cluster => Sys2Proof.Machine.execConfirmTimeout cluster s
  | .csWindowWrite cluster bank addr value => Sys2Proof.Machine.execCsWindowWrite cluster bank addr value s
  | .ustoreSelWrite cluster value => Sys2Proof.Machine.execUstoreSelWrite cluster value s
  | .fabricPortEnable mask => Sys2Proof.Machine.execFabricPortEnable mask s
  | .fabricLinkChange port up seen => Sys2Proof.Machine.execFabricLinkChange port up seen s
  | .stOpenReceive port f seen => Sys2Proof.Machine.execStOpenReceive port f seen s
  | .stAcceptReceive port f seen => Sys2Proof.Machine.execStAcceptReceive port f seen s
  | .stRefuseReceive port f => Sys2Proof.Machine.execStRefuseReceive port f s
  | .stDataReceive port f seen => Sys2Proof.Machine.execStDataReceive port f seen s
  | .stAckReceive port f seen => Sys2Proof.Machine.execStAckReceive port f seen s
  | .stStaleReceive port f => Sys2Proof.Machine.execStStaleReceive port f s
  | .stAbortReceive port f => Sys2Proof.Machine.execStAbortReceive port f s
  | .neighborSolicitation port f target => Sys2Proof.Machine.execNeighborSolicitation port f target s
  | .icmpEchoRequest port f => Sys2Proof.Machine.execIcmpEchoRequest port f s
  | .rtoExpire own peer xid seen => Sys2Proof.Machine.execRtoExpire own peer xid seen s
  | .ackDelayTimer own peer xid => Sys2Proof.Machine.execAckDelayTimer own peer xid s
  | .peerTimeout own peer xid => Sys2Proof.Machine.execPeerTimeout own peer xid s
  | .epochHoldExpire k => Sys2Proof.Machine.execEpochHoldExpire k s
  | .rollCallReceive f => Sys2Proof.Machine.execRollCallReceive f s
  | .modeProposeReceive f => Sys2Proof.Machine.execModeProposeReceive f s
  | .modeAckReceive f => Sys2Proof.Machine.execModeAckReceive f s
  | .chainAlertReceive f => Sys2Proof.Machine.execChainAlertReceive f s
  | .chainFrameBadCrc => Sys2Proof.Machine.execChainFrameBadCrc s
  | .proposerDeadline cmd => Sys2Proof.Machine.execProposerDeadline cmd s
  | .modeProposalDeadline => Sys2Proof.Machine.execModeProposalDeadline s
  | .staleEpochWaybillTimeout bay => Sys2Proof.Machine.execStaleEpochWaybillTimeout bay s
  | .mcClearId => Sys2Proof.Machine.execMcClearId s
  | .epochWrite value => Sys2Proof.Machine.execEpochWrite value s
  | .epochCancel => Sys2Proof.Machine.execEpochCancel s
  | .fabKeyLoad => Sys2Proof.Machine.execFabKeyLoad s
  | .fabKeyClear => Sys2Proof.Machine.execFabKeyClear s
  | .fabWindowEnable window on => Sys2Proof.Machine.execFabWindowEnable window on s
  | .dieTempCurfew temp => Sys2Proof.Machine.execDieTempCurfew temp s
  | .dieTempClear temp => Sys2Proof.Machine.execDieTempClear temp s
  | .tempWarn temp => Sys2Proof.Machine.execTempWarn temp s
  | .mainloss midTest => Sys2Proof.Machine.execMainloss midTest s
  | .mainlossClear => Sys2Proof.Machine.execMainlossClear s
  | .mainPowerReturn => Sys2Proof.Machine.execMainPowerReturn s
  | .heartbeatExpire => Sys2Proof.Machine.execHeartbeatExpire s
  | .hbKick => Sys2Proof.Machine.execHbKick s
  | .curfewCauseClearWrite value high => Sys2Proof.Machine.execCurfewCauseClearWrite value high s
  | .selftestDone seen => Sys2Proof.Machine.execSelftestDone seen s
  | .powerRequest domain value => Sys2Proof.Machine.execPowerRequest domain value s
  | .powerStageReady domain => Sys2Proof.Machine.execPowerStageReady domain s
  | .powerStageTimeout domain => Sys2Proof.Machine.execPowerStageTimeout domain s
  | .powerEntryDrainDone domain => Sys2Proof.Machine.execPowerEntryDrainDone domain s
  | .vbakRetentionLow => Sys2Proof.Machine.execVbakRetentionLow s
  | .vbakMeasure mv => Sys2Proof.Machine.execVbakMeasure mv s
  | .luggageSealRequest => Sys2Proof.Machine.execLuggageSealRequest s
  | .luggageSealDone => Sys2Proof.Machine.execLuggageSealDone s
  | .luggageResealTimer => Sys2Proof.Machine.execLuggageResealTimer s
  | .lugDataRead => Sys2Proof.Machine.execLugDataRead s
  | .lugDataWrite value => Sys2Proof.Machine.execLugDataWrite value s
  | .rtcSecond => Sys2Proof.Machine.execRtcSecond s
  | .rtcCalCommit => Sys2Proof.Machine.execRtcCalCommit s
  | .rtcSecLoRead => Sys2Proof.Machine.execRtcSecLoRead s
  | .resetRise seen => Sys2Proof.Machine.execResetRise seen s
  | .resetFall midTest => Sys2Proof.Machine.execResetFall midTest s
  | .restartFull seen => Sys2Proof.Machine.execRestartFull seen s
  | .bayEnable bay => Sys2Proof.Machine.execBayEnable bay s
  | .tapInternalScan => Sys2Proof.Machine.execTapInternalScan s
  | .tapBoundaryInstruction => Sys2Proof.Machine.execTapBoundaryInstruction s
  | .ledgerWriteDone => Sys2Proof.Machine.execLedgerWriteDone s
  | .ledgerHoldExpire => Sys2Proof.Machine.execLedgerHoldExpire s
  | .ledgerHeadWrite value => Sys2Proof.Machine.execLedgerHeadWrite value s
  | .ledgerEnable => Sys2Proof.Machine.execLedgerEnable s
  | .ledgerDisable => Sys2Proof.Machine.execLedgerDisable s
  | .gtrcArm => Sys2Proof.Machine.execGtrcArm s
  | .gtrcForce => Sys2Proof.Machine.execGtrcForce s
  | .gtrcCaptureDone => Sys2Proof.Machine.execGtrcCaptureDone s
  | .upstreamBlockLockLoss bay => Sys2Proof.Machine.execUpstreamBlockLockLoss bay s
  | .feTempValidExpire bay => Sys2Proof.Machine.execFeTempValidExpire bay s
  | .bayPortAnswer seq => Sys2Proof.Machine.execBayPortAnswer seq s
  | .gapRevolutionElapsed bay => Sys2Proof.Machine.execGapRevolutionElapsed bay s
  | .priorityFlowControlReceive port pause => Sys2Proof.Machine.execPriorityFlowControlReceive port pause s
  | .mcInSymbolLock lock => Sys2Proof.Machine.execMcInSymbolLock lock s
  | .referenceClockStop => Sys2Proof.Machine.execReferenceClockStop s
  | .busMasterEnableClear cause => Sys2Proof.Machine.execBusMasterEnableClear cause s

end Sys2Proof.Machine
end

