-- ==== Sys2Proof/Laws/Sparse.lean ====
section
/-!
SUPPORT. Sparse stores: read after write, and that every operation keeps the canonical form.
-/

namespace Sys2Proof.Machine

variable {α : Type}

/-- A value written is read back. -/
theorem Sparse.get_put_same (d : α) (m : Sparse α) (k : Nat) (v : α) : Sparse.get d (Sparse.put m k v) k = v := by
  induction m with
  | nil => simp [Sparse.put, Sparse.get]
  | cons e r ih =>
    obtain ⟨j, u⟩ := e
    unfold Sparse.put
    split
    · simp [Sparse.get]
    · split
      · simp [Sparse.get]
      · rename_i h1 h2
        have : j ≠ k := fun e => h2 e.symm
        simp [Sparse.get, this, ih]

/-- A write leaves every other key alone. -/
theorem Sparse.get_put_other (d : α) (m : Sparse α) (k j : Nat) (v : α) (h : j ≠ k) :
    Sparse.get d (Sparse.put m k v) j = Sparse.get d m j := by
  induction m with
  | nil => simp [Sparse.put, Sparse.get, Ne.symm h]
  | cons e r ih =>
    obtain ⟨i, u⟩ := e
    unfold Sparse.put
    split
    · simp [Sparse.get, Ne.symm h]
    · split
      · rename_i h1 h2
        subst h2
        simp [Sparse.get, Ne.symm h]
      · simp [Sparse.get, ih]

/-- Read after write. -/
theorem Sparse.get_put (d : α) (m : Sparse α) (k j : Nat) (v : α) :
    Sparse.get d (Sparse.put m k v) j = if j = k then v else Sparse.get d m j := by
  by_cases h : j = k
  · subst h; simp [Sparse.get_put_same]
  · simp [h, Sparse.get_put_other]

theorem Sparse.above_put (m : Sparse α) (i k : Nat) (v : α) (h : Sparse.above i m = true) (hk : i < k) :
    Sparse.above i (Sparse.put m k v) = true := by
  induction m with
  | nil => simp [Sparse.put, Sparse.above, hk]
  | cons e r ih =>
    obtain ⟨j, u⟩ := e
    simp only [Sparse.above, Bool.and_eq_true, decide_eq_true_eq] at h
    unfold Sparse.put
    split
    · simp [Sparse.above, h.1, h.2, hk]
    · split
      · simp [Sparse.above, h.2, hk]
      · simp [Sparse.above, h.1, ih h.2]

theorem Sparse.above_mono (m : Sparse α) (i k : Nat) (h : Sparse.above k m = true) (hk : i ≤ k) : Sparse.above i m = true := by
  induction m with
  | nil => rfl
  | cons e r ih =>
    obtain ⟨j, u⟩ := e
    simp only [Sparse.above, Bool.and_eq_true, decide_eq_true_eq] at h ⊢
    exact ⟨by omega, ih h.2⟩

/-- A write keeps the keys rising. -/
theorem Sparse.rising_put (m : Sparse α) (k : Nat) (v : α) (h : m.rising = true) : (Sparse.put m k v).rising = true := by
  induction m with
  | nil => rfl
  | cons e r ih =>
    obtain ⟨j, u⟩ := e
    simp only [Sparse.rising, Bool.and_eq_true] at h
    unfold Sparse.put
    split
    · rename_i hk
      simp [Sparse.rising, Sparse.above, h.1, h.2, hk, Sparse.above_mono r k j h.1 (by omega)]
    · split
      · rename_i hk
        subst hk
        simp [Sparse.rising, h.1, h.2]
      · rename_i h1 h2
        simp only [Sparse.rising, Bool.and_eq_true]
        exact ⟨Sparse.above_put r j k v h.1 (by omega), ih h.2⟩

theorem Sparse.above_filter (m : Sparse α) (p : Nat × α → Bool) (i : Nat) (h : Sparse.above i m = true) :
    Sparse.above i (List.filter p m) = true := by
  induction m with
  | nil => rfl
  | cons e r ih =>
    simp only [Sparse.above, Bool.and_eq_true, decide_eq_true_eq] at h
    simp only [List.filter_cons]
    split
    · simp [Sparse.above, h.1, ih h.2]
    · exact ih h.2

/-- Filtering keeps the keys rising. -/
theorem Sparse.rising_filter (m : Sparse α) (p : Nat × α → Bool) (h : m.rising = true) : Sparse.rising (List.filter p m) = true := by
  induction m with
  | nil => rfl
  | cons e r ih =>
    obtain ⟨j, u⟩ := e
    simp only [Sparse.rising, Bool.and_eq_true] at h
    simp only [List.filter_cons]
    split
    · simp [Sparse.rising, Sparse.above_filter r p j h.1, ih h.2]
    · exact ih h.2

/-- Clearing a range keeps the keys rising. -/
theorem Sparse.rising_clear (m : Sparse α) (lo hi : Nat) (h : m.rising = true) : (Sparse.clear m lo hi).rising = true :=
  Sparse.rising_filter m _ h

variable [DecidableEq α]

theorem Sparse.noDefault_put (d : α) (m : Sparse α) (k : Nat) (v : α) (h : m.noDefault d = true) (hv : v ≠ d) :
    (Sparse.put m k v).noDefault d = true := by
  induction m with
  | nil => simp [Sparse.put, Sparse.noDefault, hv]
  | cons e r ih =>
    obtain ⟨j, u⟩ := e
    simp only [Sparse.noDefault, Bool.and_eq_true, decide_eq_true_eq] at h
    unfold Sparse.put
    split
    · simp [Sparse.noDefault, hv, h.1, h.2]
    · split
      · simp [Sparse.noDefault, hv, h.2]
      · simp [Sparse.noDefault, h.1, ih h.2]

theorem Sparse.noDefault_filter (d : α) (m : Sparse α) (p : Nat × α → Bool) (h : m.noDefault d = true) :
    Sparse.noDefault d (List.filter p m) = true := by
  induction m with
  | nil => rfl
  | cons e r ih =>
    simp only [Sparse.noDefault, Bool.and_eq_true] at h
    simp only [List.filter_cons]
    split
    · simp [Sparse.noDefault, ih h.2]; simpa using h.1
    · exact ih h.2

omit [DecidableEq α] in
theorem Sparse.above_erase (m : Sparse α) (i k : Nat) (h : Sparse.above i m = true) : Sparse.above i (Sparse.erase m k) = true := by
  induction m with
  | nil => rfl
  | cons e r ih =>
    obtain ⟨j, u⟩ := e
    simp only [Sparse.above, Bool.and_eq_true, decide_eq_true_eq] at h
    unfold Sparse.erase
    split
    · exact h.2
    · simp [Sparse.above, h.1, ih h.2]

theorem Sparse.wf_erase (d : α) (m : Sparse α) (k : Nat) (h : m.wf d = true) : (Sparse.erase m k).wf d = true := by
  induction m with
  | nil => rfl
  | cons e r ih =>
    obtain ⟨j, u⟩ := e
    simp only [Sparse.wf, Sparse.rising, Sparse.noDefault, Bool.and_eq_true] at h ih ⊢
    unfold Sparse.erase
    split
    · exact ⟨h.1.2, h.2.2⟩
    · have := ih ⟨h.1.2, h.2.2⟩
      simp only [Sparse.rising, Sparse.noDefault, Bool.and_eq_true]
      exact ⟨⟨Sparse.above_erase r j k h.1.1, this.1⟩, h.2.1, this.2⟩

/-- A normalising write keeps the canonical form. -/
theorem Sparse.wf_putNorm (d : α) (m : Sparse α) (k : Nat) (v : α) (h : m.wf d = true) : (Sparse.putNorm d m k v).wf d = true := by
  unfold Sparse.putNorm
  split
  · exact Sparse.wf_erase d m k h
  · rename_i hv
    simp only [Sparse.wf, Bool.and_eq_true] at h ⊢
    exact ⟨Sparse.rising_put m k v h.1, Sparse.noDefault_put d m k v h.2 hv⟩

/-- Consecutive writes keep the canonical form. -/
theorem Sparse.wf_putAll (d : α) (l : List α) (m : Sparse α) (k : Nat) (h : m.wf d = true) : (Sparse.putAll d m k l).wf d = true := by
  induction l generalizing m k with
  | nil => exact h
  | cons v r ih => exact ih _ _ (Sparse.wf_putNorm d m k v h)

/-- Filtering keeps the canonical form. -/
theorem Sparse.wf_filter (d : α) (m : Sparse α) (p : Nat × α → Bool) (h : m.wf d = true) : Sparse.wf d (List.filter p m) = true := by
  simp only [Sparse.wf, Bool.and_eq_true] at h ⊢
  exact ⟨Sparse.rising_filter m p h.1, Sparse.noDefault_filter d m p h.2⟩

/-- Clearing a range keeps the canonical form. -/
theorem Sparse.wf_clear (d : α) (m : Sparse α) (lo hi : Nat) (h : m.wf d = true) : (Sparse.clear m lo hi).wf d = true :=
  Sparse.wf_filter d m _ h

/-- An erased key reads as the default, in a store whose keys rise. -/
theorem Sparse.get_above (d : α) (m : Sparse α) (k : Nat) (h : Sparse.above k m = true) : Sparse.get d m k = d := by
  induction m with
  | nil => rfl
  | cons e r ih =>
    obtain ⟨j, u⟩ := e
    simp only [Sparse.above, Bool.and_eq_true, decide_eq_true_eq] at h
    have : j ≠ k := by omega
    simp [Sparse.get, this, ih h.2]

omit [DecidableEq α] in
theorem Sparse.get_erase (d : α) (m : Sparse α) (k j : Nat) (h : m.rising = true) :
    Sparse.get d (Sparse.erase m k) j = if j = k then d else Sparse.get d m j := by
  induction m with
  | nil => simp [Sparse.erase, Sparse.get]
  | cons e r ih =>
    obtain ⟨i, u⟩ := e
    simp only [Sparse.rising, Bool.and_eq_true] at h
    unfold Sparse.erase
    split
    · rename_i hi
      subst hi
      by_cases hj : j = i
      · subst hj
        simp only [if_true]
        clear ih
        have hr := h.1
        clear h
        induction r with
        | nil => rfl
        | cons e r ih =>
          obtain ⟨a, b⟩ := e
          simp only [Sparse.above, Bool.and_eq_true, decide_eq_true_eq] at hr
          have : a ≠ j := by omega
          simp [Sparse.get, this, ih hr.2]
      · simp [Sparse.get, hj, Ne.symm hj]
    · rename_i hi
      simp only [Sparse.get, ih h.2]
      by_cases hj : i = j
      · subst hj; simp [hi]
      · simp [hj]

/-- Read after a normalising write. -/
theorem Sparse.get_putNorm (d : α) (m : Sparse α) (k j : Nat) (v : α) (h : m.rising = true) :
    Sparse.get d (Sparse.putNorm d m k v) j = if j = k then v else Sparse.get d m j := by
  unfold Sparse.putNorm
  split
  · rename_i hv
    rw [Sparse.get_erase d m k j h, hv]
  · exact Sparse.get_put d m k j v

end Sys2Proof.Machine
end

