-- ==== Sys2Proof/Laws/State.lean ====
section
/-!
SUPPORT. One law per field of the state and update of it: what an update does not name it leaves; and reading back what was written.
-/

namespace Sys2Proof.Machine

variable (s : State)

/-! ## Reading a register field -/

/-- A field reads back as what was written, cut to its width. -/
@[simp] theorem State.get_put_same (f : Field) (v : Nat) : (s.put f v).get f = v % 2 ^ f.width := by
  unfold State.get State.put
  rw [Sparse.get_put_same, Nat.mod_mod]

/-- A field never reads as more than its bits hold. -/
theorem State.get_lt (f : Field) : s.get f < 2 ^ f.width := Nat.mod_lt _ (Nat.two_pow_pos _)

/-- A write leaves every field with another place as it was. -/
theorem State.get_put_other (f g : Field) (v : Nat) (h : g.key ≠ f.key) : (s.put f v).get g = s.get g := by
  unfold State.get State.put
  rw [Sparse.get_put_other _ _ _ _ _ h]

/-- The state of another bay is left by a change of bay `n`. -/
theorem State.bay_setBay_other (n m : Nat) (b : Bay) (h : m ≠ n) : (s.setBay n b).bay m = s.bay m := Sparse.get_put_other _ _ _ _ _ h

/-- A bay holds what was put there. -/
@[simp] theorem State.bay_setBay_same (n : Nat) (b : Bay) : (s.setBay n b).bay n = b := Sparse.get_put_same _ _ _ _

/-- A free value changes nothing but the count of free values. -/
@[simp] theorem State.fresh_snd (w : Nat) : (s.fresh w).2 = { s with freeCount := s.freeCount + 1 } := rfl

/-! ## `put` -/

@[simp] theorem State.put_pending (f : Field) (v : Nat) : (s.put f v).pending = s.pending := rfl
@[simp] theorem State.put_variant (f : Field) (v : Nat) : (s.put f v).variant = s.variant := rfl
@[simp] theorem State.put_stepping (f : Field) (v : Nat) : (s.put f v).stepping = s.stepping := rfl
@[simp] theorem State.put_cycle (f : Field) (v : Nat) : (s.put f v).cycle = s.cycle := rfl
@[simp] theorem State.put_freeCount (f : Field) (v : Nat) : (s.put f v).freeCount = s.freeCount := rfl
@[simp] theorem State.put_staged (f : Field) (v : Nat) : (s.put f v).staged = s.staged := rfl
@[simp] theorem State.put_latched (f : Field) (v : Nat) : (s.put f v).latched = s.latched := rfl
@[simp] theorem State.put_out (f : Field) (v : Nat) : (s.put f v).out = s.out := rfl
@[simp] theorem State.put_heldOut (f : Field) (v : Nat) : (s.put f v).heldOut = s.heldOut := rfl
@[simp] theorem State.put_dram (f : Field) (v : Nat) : (s.put f v).dram = s.dram := rfl
@[simp] theorem State.put_mem (f : Field) (v : Nat) : (s.put f v).mem = s.mem := rfl
@[simp] theorem State.put_caddy (f : Field) (v : Nat) : (s.put f v).caddy = s.caddy := rfl
@[simp] theorem State.put_keys (f : Field) (v : Nat) : (s.put f v).keys = s.keys := rfl
@[simp] theorem State.put_fabKeys (f : Field) (v : Nat) : (s.put f v).fabKeys = s.fabKeys := rfl
@[simp] theorem State.put_bays (f : Field) (v : Nat) : (s.put f v).bays = s.bays := rfl
@[simp] theorem State.put_porter (f : Field) (v : Nat) : (s.put f v).porter = s.porter := rfl
@[simp] theorem State.put_subs (f : Field) (v : Nat) : (s.put f v).subs = s.subs := rfl
@[simp] theorem State.put_rcps (f : Field) (v : Nat) : (s.put f v).rcps = s.rcps := rfl
@[simp] theorem State.put_channels (f : Field) (v : Nat) : (s.put f v).channels = s.channels := rfl
@[simp] theorem State.put_pcie (f : Field) (v : Nat) : (s.put f v).pcie = s.pcie := rfl
@[simp] theorem State.put_units (f : Field) (v : Nat) : (s.put f v).units = s.units := rfl
@[simp] theorem State.put_seqs (f : Field) (v : Nat) : (s.put f v).seqs = s.seqs := rfl
@[simp] theorem State.put_banks (f : Field) (v : Nat) : (s.put f v).banks = s.banks := rfl
@[simp] theorem State.put_clusters (f : Field) (v : Nat) : (s.put f v).clusters = s.clusters := rfl
@[simp] theorem State.put_fab (f : Field) (v : Nat) : (s.put f v).fab = s.fab := rfl
@[simp] theorem State.put_chain (f : Field) (v : Nat) : (s.put f v).chain = s.chain := rfl
@[simp] theorem State.put_ledger (f : Field) (v : Nat) : (s.put f v).ledger = s.ledger := rfl
@[simp] theorem State.put_gtrc (f : Field) (v : Nat) : (s.put f v).gtrc = s.gtrc := rfl
@[simp] theorem State.put_sup (f : Field) (v : Nat) : (s.put f v).sup = s.sup := rfl
@[simp] theorem State.put_rtcS (f : Field) (v : Nat) : (s.put f v).rtcS = s.rtcS := rfl
@[simp] theorem State.put_domPhase (f : Field) (v : Nat) : (s.put f v).domPhase = s.domPhase := rfl
@[simp] theorem State.put_pendMode (f : Field) (v : Nat) : (s.put f v).pendMode = s.pendMode := rfl
@[simp] theorem State.bay_put (f : Field) (v : Nat) (m : Nat) : (s.put f v).bay m = s.bay m := rfl

/-! ## `resetRegs` -/

@[simp] theorem State.resetRegs_pending (lo hi : Nat) : (s.resetRegs lo hi).pending = s.pending := rfl
@[simp] theorem State.resetRegs_variant (lo hi : Nat) : (s.resetRegs lo hi).variant = s.variant := rfl
@[simp] theorem State.resetRegs_stepping (lo hi : Nat) : (s.resetRegs lo hi).stepping = s.stepping := rfl
@[simp] theorem State.resetRegs_cycle (lo hi : Nat) : (s.resetRegs lo hi).cycle = s.cycle := rfl
@[simp] theorem State.resetRegs_freeCount (lo hi : Nat) : (s.resetRegs lo hi).freeCount = s.freeCount := rfl
@[simp] theorem State.resetRegs_staged (lo hi : Nat) : (s.resetRegs lo hi).staged = s.staged := rfl
@[simp] theorem State.resetRegs_latched (lo hi : Nat) : (s.resetRegs lo hi).latched = s.latched := rfl
@[simp] theorem State.resetRegs_out (lo hi : Nat) : (s.resetRegs lo hi).out = s.out := rfl
@[simp] theorem State.resetRegs_heldOut (lo hi : Nat) : (s.resetRegs lo hi).heldOut = s.heldOut := rfl
@[simp] theorem State.resetRegs_dram (lo hi : Nat) : (s.resetRegs lo hi).dram = s.dram := rfl
@[simp] theorem State.resetRegs_mem (lo hi : Nat) : (s.resetRegs lo hi).mem = s.mem := rfl
@[simp] theorem State.resetRegs_caddy (lo hi : Nat) : (s.resetRegs lo hi).caddy = s.caddy := rfl
@[simp] theorem State.resetRegs_keys (lo hi : Nat) : (s.resetRegs lo hi).keys = s.keys := rfl
@[simp] theorem State.resetRegs_fabKeys (lo hi : Nat) : (s.resetRegs lo hi).fabKeys = s.fabKeys := rfl
@[simp] theorem State.resetRegs_bays (lo hi : Nat) : (s.resetRegs lo hi).bays = s.bays := rfl
@[simp] theorem State.resetRegs_porter (lo hi : Nat) : (s.resetRegs lo hi).porter = s.porter := rfl
@[simp] theorem State.resetRegs_subs (lo hi : Nat) : (s.resetRegs lo hi).subs = s.subs := rfl
@[simp] theorem State.resetRegs_rcps (lo hi : Nat) : (s.resetRegs lo hi).rcps = s.rcps := rfl
@[simp] theorem State.resetRegs_channels (lo hi : Nat) : (s.resetRegs lo hi).channels = s.channels := rfl
@[simp] theorem State.resetRegs_pcie (lo hi : Nat) : (s.resetRegs lo hi).pcie = s.pcie := rfl
@[simp] theorem State.resetRegs_units (lo hi : Nat) : (s.resetRegs lo hi).units = s.units := rfl
@[simp] theorem State.resetRegs_seqs (lo hi : Nat) : (s.resetRegs lo hi).seqs = s.seqs := rfl
@[simp] theorem State.resetRegs_banks (lo hi : Nat) : (s.resetRegs lo hi).banks = s.banks := rfl
@[simp] theorem State.resetRegs_clusters (lo hi : Nat) : (s.resetRegs lo hi).clusters = s.clusters := rfl
@[simp] theorem State.resetRegs_fab (lo hi : Nat) : (s.resetRegs lo hi).fab = s.fab := rfl
@[simp] theorem State.resetRegs_chain (lo hi : Nat) : (s.resetRegs lo hi).chain = s.chain := rfl
@[simp] theorem State.resetRegs_ledger (lo hi : Nat) : (s.resetRegs lo hi).ledger = s.ledger := rfl
@[simp] theorem State.resetRegs_gtrc (lo hi : Nat) : (s.resetRegs lo hi).gtrc = s.gtrc := rfl
@[simp] theorem State.resetRegs_sup (lo hi : Nat) : (s.resetRegs lo hi).sup = s.sup := rfl
@[simp] theorem State.resetRegs_rtcS (lo hi : Nat) : (s.resetRegs lo hi).rtcS = s.rtcS := rfl
@[simp] theorem State.resetRegs_domPhase (lo hi : Nat) : (s.resetRegs lo hi).domPhase = s.domPhase := rfl
@[simp] theorem State.resetRegs_pendMode (lo hi : Nat) : (s.resetRegs lo hi).pendMode = s.pendMode := rfl
@[simp] theorem State.bay_resetRegs (lo hi : Nat) (m : Nat) : (s.resetRegs lo hi).bay m = s.bay m := rfl

/-! ## `setBay` -/

@[simp] theorem State.setBay_pending (n : Nat) (b : Bay) : (s.setBay n b).pending = s.pending := rfl
@[simp] theorem State.setBay_variant (n : Nat) (b : Bay) : (s.setBay n b).variant = s.variant := rfl
@[simp] theorem State.setBay_stepping (n : Nat) (b : Bay) : (s.setBay n b).stepping = s.stepping := rfl
@[simp] theorem State.setBay_cycle (n : Nat) (b : Bay) : (s.setBay n b).cycle = s.cycle := rfl
@[simp] theorem State.setBay_freeCount (n : Nat) (b : Bay) : (s.setBay n b).freeCount = s.freeCount := rfl
@[simp] theorem State.setBay_regs (n : Nat) (b : Bay) : (s.setBay n b).regs = s.regs := rfl
@[simp] theorem State.setBay_staged (n : Nat) (b : Bay) : (s.setBay n b).staged = s.staged := rfl
@[simp] theorem State.setBay_latched (n : Nat) (b : Bay) : (s.setBay n b).latched = s.latched := rfl
@[simp] theorem State.setBay_out (n : Nat) (b : Bay) : (s.setBay n b).out = s.out := rfl
@[simp] theorem State.setBay_heldOut (n : Nat) (b : Bay) : (s.setBay n b).heldOut = s.heldOut := rfl
@[simp] theorem State.setBay_dram (n : Nat) (b : Bay) : (s.setBay n b).dram = s.dram := rfl
@[simp] theorem State.setBay_mem (n : Nat) (b : Bay) : (s.setBay n b).mem = s.mem := rfl
@[simp] theorem State.setBay_caddy (n : Nat) (b : Bay) : (s.setBay n b).caddy = s.caddy := rfl
@[simp] theorem State.setBay_keys (n : Nat) (b : Bay) : (s.setBay n b).keys = s.keys := rfl
@[simp] theorem State.setBay_fabKeys (n : Nat) (b : Bay) : (s.setBay n b).fabKeys = s.fabKeys := rfl
@[simp] theorem State.setBay_porter (n : Nat) (b : Bay) : (s.setBay n b).porter = s.porter := rfl
@[simp] theorem State.setBay_subs (n : Nat) (b : Bay) : (s.setBay n b).subs = s.subs := rfl
@[simp] theorem State.setBay_rcps (n : Nat) (b : Bay) : (s.setBay n b).rcps = s.rcps := rfl
@[simp] theorem State.setBay_channels (n : Nat) (b : Bay) : (s.setBay n b).channels = s.channels := rfl
@[simp] theorem State.setBay_pcie (n : Nat) (b : Bay) : (s.setBay n b).pcie = s.pcie := rfl
@[simp] theorem State.setBay_units (n : Nat) (b : Bay) : (s.setBay n b).units = s.units := rfl
@[simp] theorem State.setBay_seqs (n : Nat) (b : Bay) : (s.setBay n b).seqs = s.seqs := rfl
@[simp] theorem State.setBay_banks (n : Nat) (b : Bay) : (s.setBay n b).banks = s.banks := rfl
@[simp] theorem State.setBay_clusters (n : Nat) (b : Bay) : (s.setBay n b).clusters = s.clusters := rfl
@[simp] theorem State.setBay_fab (n : Nat) (b : Bay) : (s.setBay n b).fab = s.fab := rfl
@[simp] theorem State.setBay_chain (n : Nat) (b : Bay) : (s.setBay n b).chain = s.chain := rfl
@[simp] theorem State.setBay_ledger (n : Nat) (b : Bay) : (s.setBay n b).ledger = s.ledger := rfl
@[simp] theorem State.setBay_gtrc (n : Nat) (b : Bay) : (s.setBay n b).gtrc = s.gtrc := rfl
@[simp] theorem State.setBay_sup (n : Nat) (b : Bay) : (s.setBay n b).sup = s.sup := rfl
@[simp] theorem State.setBay_rtcS (n : Nat) (b : Bay) : (s.setBay n b).rtcS = s.rtcS := rfl
@[simp] theorem State.setBay_domPhase (n : Nat) (b : Bay) : (s.setBay n b).domPhase = s.domPhase := rfl
@[simp] theorem State.setBay_pendMode (n : Nat) (b : Bay) : (s.setBay n b).pendMode = s.pendMode := rfl
@[simp] theorem State.get_setBay (n : Nat) (b : Bay) (g : Field) : (s.setBay n b).get g = s.get g := rfl

/-! ## `setLedger` -/

@[simp] theorem State.setLedger_pending (l : Ledger) : (s.setLedger l).pending = s.pending := rfl
@[simp] theorem State.setLedger_variant (l : Ledger) : (s.setLedger l).variant = s.variant := rfl
@[simp] theorem State.setLedger_stepping (l : Ledger) : (s.setLedger l).stepping = s.stepping := rfl
@[simp] theorem State.setLedger_cycle (l : Ledger) : (s.setLedger l).cycle = s.cycle := rfl
@[simp] theorem State.setLedger_freeCount (l : Ledger) : (s.setLedger l).freeCount = s.freeCount := rfl
@[simp] theorem State.setLedger_regs (l : Ledger) : (s.setLedger l).regs = s.regs := rfl
@[simp] theorem State.setLedger_staged (l : Ledger) : (s.setLedger l).staged = s.staged := rfl
@[simp] theorem State.setLedger_latched (l : Ledger) : (s.setLedger l).latched = s.latched := rfl
@[simp] theorem State.setLedger_out (l : Ledger) : (s.setLedger l).out = s.out := rfl
@[simp] theorem State.setLedger_heldOut (l : Ledger) : (s.setLedger l).heldOut = s.heldOut := rfl
@[simp] theorem State.setLedger_dram (l : Ledger) : (s.setLedger l).dram = s.dram := rfl
@[simp] theorem State.setLedger_mem (l : Ledger) : (s.setLedger l).mem = s.mem := rfl
@[simp] theorem State.setLedger_caddy (l : Ledger) : (s.setLedger l).caddy = s.caddy := rfl
@[simp] theorem State.setLedger_keys (l : Ledger) : (s.setLedger l).keys = s.keys := rfl
@[simp] theorem State.setLedger_fabKeys (l : Ledger) : (s.setLedger l).fabKeys = s.fabKeys := rfl
@[simp] theorem State.setLedger_bays (l : Ledger) : (s.setLedger l).bays = s.bays := rfl
@[simp] theorem State.setLedger_porter (l : Ledger) : (s.setLedger l).porter = s.porter := rfl
@[simp] theorem State.setLedger_subs (l : Ledger) : (s.setLedger l).subs = s.subs := rfl
@[simp] theorem State.setLedger_rcps (l : Ledger) : (s.setLedger l).rcps = s.rcps := rfl
@[simp] theorem State.setLedger_channels (l : Ledger) : (s.setLedger l).channels = s.channels := rfl
@[simp] theorem State.setLedger_pcie (l : Ledger) : (s.setLedger l).pcie = s.pcie := rfl
@[simp] theorem State.setLedger_units (l : Ledger) : (s.setLedger l).units = s.units := rfl
@[simp] theorem State.setLedger_seqs (l : Ledger) : (s.setLedger l).seqs = s.seqs := rfl
@[simp] theorem State.setLedger_banks (l : Ledger) : (s.setLedger l).banks = s.banks := rfl
@[simp] theorem State.setLedger_clusters (l : Ledger) : (s.setLedger l).clusters = s.clusters := rfl
@[simp] theorem State.setLedger_fab (l : Ledger) : (s.setLedger l).fab = s.fab := rfl
@[simp] theorem State.setLedger_chain (l : Ledger) : (s.setLedger l).chain = s.chain := rfl
@[simp] theorem State.setLedger_gtrc (l : Ledger) : (s.setLedger l).gtrc = s.gtrc := rfl
@[simp] theorem State.setLedger_sup (l : Ledger) : (s.setLedger l).sup = s.sup := rfl
@[simp] theorem State.setLedger_rtcS (l : Ledger) : (s.setLedger l).rtcS = s.rtcS := rfl
@[simp] theorem State.setLedger_domPhase (l : Ledger) : (s.setLedger l).domPhase = s.domPhase := rfl
@[simp] theorem State.setLedger_pendMode (l : Ledger) : (s.setLedger l).pendMode = s.pendMode := rfl
@[simp] theorem State.get_setLedger (l : Ledger) (g : Field) : (s.setLedger l).get g = s.get g := rfl
@[simp] theorem State.bay_setLedger (l : Ledger) (m : Nat) : (s.setLedger l).bay m = s.bay m := rfl

/-! ## `onMem` -/

@[simp] theorem State.onMem_pending (f : MemS → MemS) : (s.onMem f).pending = s.pending := rfl
@[simp] theorem State.onMem_variant (f : MemS → MemS) : (s.onMem f).variant = s.variant := rfl
@[simp] theorem State.onMem_stepping (f : MemS → MemS) : (s.onMem f).stepping = s.stepping := rfl
@[simp] theorem State.onMem_cycle (f : MemS → MemS) : (s.onMem f).cycle = s.cycle := rfl
@[simp] theorem State.onMem_freeCount (f : MemS → MemS) : (s.onMem f).freeCount = s.freeCount := rfl
@[simp] theorem State.onMem_regs (f : MemS → MemS) : (s.onMem f).regs = s.regs := rfl
@[simp] theorem State.onMem_staged (f : MemS → MemS) : (s.onMem f).staged = s.staged := rfl
@[simp] theorem State.onMem_latched (f : MemS → MemS) : (s.onMem f).latched = s.latched := rfl
@[simp] theorem State.onMem_out (f : MemS → MemS) : (s.onMem f).out = s.out := rfl
@[simp] theorem State.onMem_heldOut (f : MemS → MemS) : (s.onMem f).heldOut = s.heldOut := rfl
@[simp] theorem State.onMem_dram (f : MemS → MemS) : (s.onMem f).dram = s.dram := rfl
@[simp] theorem State.onMem_caddy (f : MemS → MemS) : (s.onMem f).caddy = s.caddy := rfl
@[simp] theorem State.onMem_keys (f : MemS → MemS) : (s.onMem f).keys = s.keys := rfl
@[simp] theorem State.onMem_fabKeys (f : MemS → MemS) : (s.onMem f).fabKeys = s.fabKeys := rfl
@[simp] theorem State.onMem_bays (f : MemS → MemS) : (s.onMem f).bays = s.bays := rfl
@[simp] theorem State.onMem_porter (f : MemS → MemS) : (s.onMem f).porter = s.porter := rfl
@[simp] theorem State.onMem_subs (f : MemS → MemS) : (s.onMem f).subs = s.subs := rfl
@[simp] theorem State.onMem_rcps (f : MemS → MemS) : (s.onMem f).rcps = s.rcps := rfl
@[simp] theorem State.onMem_channels (f : MemS → MemS) : (s.onMem f).channels = s.channels := rfl
@[simp] theorem State.onMem_pcie (f : MemS → MemS) : (s.onMem f).pcie = s.pcie := rfl
@[simp] theorem State.onMem_units (f : MemS → MemS) : (s.onMem f).units = s.units := rfl
@[simp] theorem State.onMem_seqs (f : MemS → MemS) : (s.onMem f).seqs = s.seqs := rfl
@[simp] theorem State.onMem_banks (f : MemS → MemS) : (s.onMem f).banks = s.banks := rfl
@[simp] theorem State.onMem_clusters (f : MemS → MemS) : (s.onMem f).clusters = s.clusters := rfl
@[simp] theorem State.onMem_fab (f : MemS → MemS) : (s.onMem f).fab = s.fab := rfl
@[simp] theorem State.onMem_chain (f : MemS → MemS) : (s.onMem f).chain = s.chain := rfl
@[simp] theorem State.onMem_ledger (f : MemS → MemS) : (s.onMem f).ledger = s.ledger := rfl
@[simp] theorem State.onMem_gtrc (f : MemS → MemS) : (s.onMem f).gtrc = s.gtrc := rfl
@[simp] theorem State.onMem_sup (f : MemS → MemS) : (s.onMem f).sup = s.sup := rfl
@[simp] theorem State.onMem_rtcS (f : MemS → MemS) : (s.onMem f).rtcS = s.rtcS := rfl
@[simp] theorem State.onMem_domPhase (f : MemS → MemS) : (s.onMem f).domPhase = s.domPhase := rfl
@[simp] theorem State.onMem_pendMode (f : MemS → MemS) : (s.onMem f).pendMode = s.pendMode := rfl
@[simp] theorem State.get_onMem (f : MemS → MemS) (g : Field) : (s.onMem f).get g = s.get g := rfl
@[simp] theorem State.bay_onMem (f : MemS → MemS) (m : Nat) : (s.onMem f).bay m = s.bay m := rfl

/-! ## `onCaddy` -/

@[simp] theorem State.onCaddy_pending (f : Caddy → Caddy) : (s.onCaddy f).pending = s.pending := rfl
@[simp] theorem State.onCaddy_variant (f : Caddy → Caddy) : (s.onCaddy f).variant = s.variant := rfl
@[simp] theorem State.onCaddy_stepping (f : Caddy → Caddy) : (s.onCaddy f).stepping = s.stepping := rfl
@[simp] theorem State.onCaddy_cycle (f : Caddy → Caddy) : (s.onCaddy f).cycle = s.cycle := rfl
@[simp] theorem State.onCaddy_freeCount (f : Caddy → Caddy) : (s.onCaddy f).freeCount = s.freeCount := rfl
@[simp] theorem State.onCaddy_regs (f : Caddy → Caddy) : (s.onCaddy f).regs = s.regs := rfl
@[simp] theorem State.onCaddy_staged (f : Caddy → Caddy) : (s.onCaddy f).staged = s.staged := rfl
@[simp] theorem State.onCaddy_latched (f : Caddy → Caddy) : (s.onCaddy f).latched = s.latched := rfl
@[simp] theorem State.onCaddy_out (f : Caddy → Caddy) : (s.onCaddy f).out = s.out := rfl
@[simp] theorem State.onCaddy_heldOut (f : Caddy → Caddy) : (s.onCaddy f).heldOut = s.heldOut := rfl
@[simp] theorem State.onCaddy_dram (f : Caddy → Caddy) : (s.onCaddy f).dram = s.dram := rfl
@[simp] theorem State.onCaddy_mem (f : Caddy → Caddy) : (s.onCaddy f).mem = s.mem := rfl
@[simp] theorem State.onCaddy_keys (f : Caddy → Caddy) : (s.onCaddy f).keys = s.keys := rfl
@[simp] theorem State.onCaddy_fabKeys (f : Caddy → Caddy) : (s.onCaddy f).fabKeys = s.fabKeys := rfl
@[simp] theorem State.onCaddy_bays (f : Caddy → Caddy) : (s.onCaddy f).bays = s.bays := rfl
@[simp] theorem State.onCaddy_porter (f : Caddy → Caddy) : (s.onCaddy f).porter = s.porter := rfl
@[simp] theorem State.onCaddy_subs (f : Caddy → Caddy) : (s.onCaddy f).subs = s.subs := rfl
@[simp] theorem State.onCaddy_rcps (f : Caddy → Caddy) : (s.onCaddy f).rcps = s.rcps := rfl
@[simp] theorem State.onCaddy_channels (f : Caddy → Caddy) : (s.onCaddy f).channels = s.channels := rfl
@[simp] theorem State.onCaddy_pcie (f : Caddy → Caddy) : (s.onCaddy f).pcie = s.pcie := rfl
@[simp] theorem State.onCaddy_units (f : Caddy → Caddy) : (s.onCaddy f).units = s.units := rfl
@[simp] theorem State.onCaddy_seqs (f : Caddy → Caddy) : (s.onCaddy f).seqs = s.seqs := rfl
@[simp] theorem State.onCaddy_banks (f : Caddy → Caddy) : (s.onCaddy f).banks = s.banks := rfl
@[simp] theorem State.onCaddy_clusters (f : Caddy → Caddy) : (s.onCaddy f).clusters = s.clusters := rfl
@[simp] theorem State.onCaddy_fab (f : Caddy → Caddy) : (s.onCaddy f).fab = s.fab := rfl
@[simp] theorem State.onCaddy_chain (f : Caddy → Caddy) : (s.onCaddy f).chain = s.chain := rfl
@[simp] theorem State.onCaddy_ledger (f : Caddy → Caddy) : (s.onCaddy f).ledger = s.ledger := rfl
@[simp] theorem State.onCaddy_gtrc (f : Caddy → Caddy) : (s.onCaddy f).gtrc = s.gtrc := rfl
@[simp] theorem State.onCaddy_sup (f : Caddy → Caddy) : (s.onCaddy f).sup = s.sup := rfl
@[simp] theorem State.onCaddy_rtcS (f : Caddy → Caddy) : (s.onCaddy f).rtcS = s.rtcS := rfl
@[simp] theorem State.onCaddy_domPhase (f : Caddy → Caddy) : (s.onCaddy f).domPhase = s.domPhase := rfl
@[simp] theorem State.onCaddy_pendMode (f : Caddy → Caddy) : (s.onCaddy f).pendMode = s.pendMode := rfl
@[simp] theorem State.get_onCaddy (f : Caddy → Caddy) (g : Field) : (s.onCaddy f).get g = s.get g := rfl
@[simp] theorem State.bay_onCaddy (f : Caddy → Caddy) (m : Nat) : (s.onCaddy f).bay m = s.bay m := rfl

/-! ## `onFab` -/

@[simp] theorem State.onFab_pending (f : Fab → Fab) : (s.onFab f).pending = s.pending := rfl
@[simp] theorem State.onFab_variant (f : Fab → Fab) : (s.onFab f).variant = s.variant := rfl
@[simp] theorem State.onFab_stepping (f : Fab → Fab) : (s.onFab f).stepping = s.stepping := rfl
@[simp] theorem State.onFab_cycle (f : Fab → Fab) : (s.onFab f).cycle = s.cycle := rfl
@[simp] theorem State.onFab_freeCount (f : Fab → Fab) : (s.onFab f).freeCount = s.freeCount := rfl
@[simp] theorem State.onFab_regs (f : Fab → Fab) : (s.onFab f).regs = s.regs := rfl
@[simp] theorem State.onFab_staged (f : Fab → Fab) : (s.onFab f).staged = s.staged := rfl
@[simp] theorem State.onFab_latched (f : Fab → Fab) : (s.onFab f).latched = s.latched := rfl
@[simp] theorem State.onFab_out (f : Fab → Fab) : (s.onFab f).out = s.out := rfl
@[simp] theorem State.onFab_heldOut (f : Fab → Fab) : (s.onFab f).heldOut = s.heldOut := rfl
@[simp] theorem State.onFab_dram (f : Fab → Fab) : (s.onFab f).dram = s.dram := rfl
@[simp] theorem State.onFab_mem (f : Fab → Fab) : (s.onFab f).mem = s.mem := rfl
@[simp] theorem State.onFab_caddy (f : Fab → Fab) : (s.onFab f).caddy = s.caddy := rfl
@[simp] theorem State.onFab_keys (f : Fab → Fab) : (s.onFab f).keys = s.keys := rfl
@[simp] theorem State.onFab_fabKeys (f : Fab → Fab) : (s.onFab f).fabKeys = s.fabKeys := rfl
@[simp] theorem State.onFab_bays (f : Fab → Fab) : (s.onFab f).bays = s.bays := rfl
@[simp] theorem State.onFab_porter (f : Fab → Fab) : (s.onFab f).porter = s.porter := rfl
@[simp] theorem State.onFab_subs (f : Fab → Fab) : (s.onFab f).subs = s.subs := rfl
@[simp] theorem State.onFab_rcps (f : Fab → Fab) : (s.onFab f).rcps = s.rcps := rfl
@[simp] theorem State.onFab_channels (f : Fab → Fab) : (s.onFab f).channels = s.channels := rfl
@[simp] theorem State.onFab_pcie (f : Fab → Fab) : (s.onFab f).pcie = s.pcie := rfl
@[simp] theorem State.onFab_units (f : Fab → Fab) : (s.onFab f).units = s.units := rfl
@[simp] theorem State.onFab_seqs (f : Fab → Fab) : (s.onFab f).seqs = s.seqs := rfl
@[simp] theorem State.onFab_banks (f : Fab → Fab) : (s.onFab f).banks = s.banks := rfl
@[simp] theorem State.onFab_clusters (f : Fab → Fab) : (s.onFab f).clusters = s.clusters := rfl
@[simp] theorem State.onFab_chain (f : Fab → Fab) : (s.onFab f).chain = s.chain := rfl
@[simp] theorem State.onFab_ledger (f : Fab → Fab) : (s.onFab f).ledger = s.ledger := rfl
@[simp] theorem State.onFab_gtrc (f : Fab → Fab) : (s.onFab f).gtrc = s.gtrc := rfl
@[simp] theorem State.onFab_sup (f : Fab → Fab) : (s.onFab f).sup = s.sup := rfl
@[simp] theorem State.onFab_rtcS (f : Fab → Fab) : (s.onFab f).rtcS = s.rtcS := rfl
@[simp] theorem State.onFab_domPhase (f : Fab → Fab) : (s.onFab f).domPhase = s.domPhase := rfl
@[simp] theorem State.onFab_pendMode (f : Fab → Fab) : (s.onFab f).pendMode = s.pendMode := rfl
@[simp] theorem State.get_onFab (f : Fab → Fab) (g : Field) : (s.onFab f).get g = s.get g := rfl
@[simp] theorem State.bay_onFab (f : Fab → Fab) (m : Nat) : (s.onFab f).bay m = s.bay m := rfl

/-! ## `onChain` -/

@[simp] theorem State.onChain_pending (f : Chain → Chain) : (s.onChain f).pending = s.pending := rfl
@[simp] theorem State.onChain_variant (f : Chain → Chain) : (s.onChain f).variant = s.variant := rfl
@[simp] theorem State.onChain_stepping (f : Chain → Chain) : (s.onChain f).stepping = s.stepping := rfl
@[simp] theorem State.onChain_cycle (f : Chain → Chain) : (s.onChain f).cycle = s.cycle := rfl
@[simp] theorem State.onChain_freeCount (f : Chain → Chain) : (s.onChain f).freeCount = s.freeCount := rfl
@[simp] theorem State.onChain_regs (f : Chain → Chain) : (s.onChain f).regs = s.regs := rfl
@[simp] theorem State.onChain_staged (f : Chain → Chain) : (s.onChain f).staged = s.staged := rfl
@[simp] theorem State.onChain_latched (f : Chain → Chain) : (s.onChain f).latched = s.latched := rfl
@[simp] theorem State.onChain_out (f : Chain → Chain) : (s.onChain f).out = s.out := rfl
@[simp] theorem State.onChain_heldOut (f : Chain → Chain) : (s.onChain f).heldOut = s.heldOut := rfl
@[simp] theorem State.onChain_dram (f : Chain → Chain) : (s.onChain f).dram = s.dram := rfl
@[simp] theorem State.onChain_mem (f : Chain → Chain) : (s.onChain f).mem = s.mem := rfl
@[simp] theorem State.onChain_caddy (f : Chain → Chain) : (s.onChain f).caddy = s.caddy := rfl
@[simp] theorem State.onChain_keys (f : Chain → Chain) : (s.onChain f).keys = s.keys := rfl
@[simp] theorem State.onChain_fabKeys (f : Chain → Chain) : (s.onChain f).fabKeys = s.fabKeys := rfl
@[simp] theorem State.onChain_bays (f : Chain → Chain) : (s.onChain f).bays = s.bays := rfl
@[simp] theorem State.onChain_porter (f : Chain → Chain) : (s.onChain f).porter = s.porter := rfl
@[simp] theorem State.onChain_subs (f : Chain → Chain) : (s.onChain f).subs = s.subs := rfl
@[simp] theorem State.onChain_rcps (f : Chain → Chain) : (s.onChain f).rcps = s.rcps := rfl
@[simp] theorem State.onChain_channels (f : Chain → Chain) : (s.onChain f).channels = s.channels := rfl
@[simp] theorem State.onChain_pcie (f : Chain → Chain) : (s.onChain f).pcie = s.pcie := rfl
@[simp] theorem State.onChain_units (f : Chain → Chain) : (s.onChain f).units = s.units := rfl
@[simp] theorem State.onChain_seqs (f : Chain → Chain) : (s.onChain f).seqs = s.seqs := rfl
@[simp] theorem State.onChain_banks (f : Chain → Chain) : (s.onChain f).banks = s.banks := rfl
@[simp] theorem State.onChain_clusters (f : Chain → Chain) : (s.onChain f).clusters = s.clusters := rfl
@[simp] theorem State.onChain_fab (f : Chain → Chain) : (s.onChain f).fab = s.fab := rfl
@[simp] theorem State.onChain_ledger (f : Chain → Chain) : (s.onChain f).ledger = s.ledger := rfl
@[simp] theorem State.onChain_gtrc (f : Chain → Chain) : (s.onChain f).gtrc = s.gtrc := rfl
@[simp] theorem State.onChain_sup (f : Chain → Chain) : (s.onChain f).sup = s.sup := rfl
@[simp] theorem State.onChain_rtcS (f : Chain → Chain) : (s.onChain f).rtcS = s.rtcS := rfl
@[simp] theorem State.onChain_domPhase (f : Chain → Chain) : (s.onChain f).domPhase = s.domPhase := rfl
@[simp] theorem State.onChain_pendMode (f : Chain → Chain) : (s.onChain f).pendMode = s.pendMode := rfl
@[simp] theorem State.get_onChain (f : Chain → Chain) (g : Field) : (s.onChain f).get g = s.get g := rfl
@[simp] theorem State.bay_onChain (f : Chain → Chain) (m : Nat) : (s.onChain f).bay m = s.bay m := rfl

/-! ## `onPorter` -/

@[simp] theorem State.onPorter_pending (f : Porter → Porter) : (s.onPorter f).pending = s.pending := rfl
@[simp] theorem State.onPorter_variant (f : Porter → Porter) : (s.onPorter f).variant = s.variant := rfl
@[simp] theorem State.onPorter_stepping (f : Porter → Porter) : (s.onPorter f).stepping = s.stepping := rfl
@[simp] theorem State.onPorter_cycle (f : Porter → Porter) : (s.onPorter f).cycle = s.cycle := rfl
@[simp] theorem State.onPorter_freeCount (f : Porter → Porter) : (s.onPorter f).freeCount = s.freeCount := rfl
@[simp] theorem State.onPorter_regs (f : Porter → Porter) : (s.onPorter f).regs = s.regs := rfl
@[simp] theorem State.onPorter_staged (f : Porter → Porter) : (s.onPorter f).staged = s.staged := rfl
@[simp] theorem State.onPorter_latched (f : Porter → Porter) : (s.onPorter f).latched = s.latched := rfl
@[simp] theorem State.onPorter_out (f : Porter → Porter) : (s.onPorter f).out = s.out := rfl
@[simp] theorem State.onPorter_heldOut (f : Porter → Porter) : (s.onPorter f).heldOut = s.heldOut := rfl
@[simp] theorem State.onPorter_dram (f : Porter → Porter) : (s.onPorter f).dram = s.dram := rfl
@[simp] theorem State.onPorter_mem (f : Porter → Porter) : (s.onPorter f).mem = s.mem := rfl
@[simp] theorem State.onPorter_caddy (f : Porter → Porter) : (s.onPorter f).caddy = s.caddy := rfl
@[simp] theorem State.onPorter_keys (f : Porter → Porter) : (s.onPorter f).keys = s.keys := rfl
@[simp] theorem State.onPorter_fabKeys (f : Porter → Porter) : (s.onPorter f).fabKeys = s.fabKeys := rfl
@[simp] theorem State.onPorter_bays (f : Porter → Porter) : (s.onPorter f).bays = s.bays := rfl
@[simp] theorem State.onPorter_subs (f : Porter → Porter) : (s.onPorter f).subs = s.subs := rfl
@[simp] theorem State.onPorter_rcps (f : Porter → Porter) : (s.onPorter f).rcps = s.rcps := rfl
@[simp] theorem State.onPorter_channels (f : Porter → Porter) : (s.onPorter f).channels = s.channels := rfl
@[simp] theorem State.onPorter_pcie (f : Porter → Porter) : (s.onPorter f).pcie = s.pcie := rfl
@[simp] theorem State.onPorter_units (f : Porter → Porter) : (s.onPorter f).units = s.units := rfl
@[simp] theorem State.onPorter_seqs (f : Porter → Porter) : (s.onPorter f).seqs = s.seqs := rfl
@[simp] theorem State.onPorter_banks (f : Porter → Porter) : (s.onPorter f).banks = s.banks := rfl
@[simp] theorem State.onPorter_clusters (f : Porter → Porter) : (s.onPorter f).clusters = s.clusters := rfl
@[simp] theorem State.onPorter_fab (f : Porter → Porter) : (s.onPorter f).fab = s.fab := rfl
@[simp] theorem State.onPorter_chain (f : Porter → Porter) : (s.onPorter f).chain = s.chain := rfl
@[simp] theorem State.onPorter_ledger (f : Porter → Porter) : (s.onPorter f).ledger = s.ledger := rfl
@[simp] theorem State.onPorter_gtrc (f : Porter → Porter) : (s.onPorter f).gtrc = s.gtrc := rfl
@[simp] theorem State.onPorter_sup (f : Porter → Porter) : (s.onPorter f).sup = s.sup := rfl
@[simp] theorem State.onPorter_rtcS (f : Porter → Porter) : (s.onPorter f).rtcS = s.rtcS := rfl
@[simp] theorem State.onPorter_domPhase (f : Porter → Porter) : (s.onPorter f).domPhase = s.domPhase := rfl
@[simp] theorem State.onPorter_pendMode (f : Porter → Porter) : (s.onPorter f).pendMode = s.pendMode := rfl
@[simp] theorem State.get_onPorter (f : Porter → Porter) (g : Field) : (s.onPorter f).get g = s.get g := rfl
@[simp] theorem State.bay_onPorter (f : Porter → Porter) (m : Nat) : (s.onPorter f).bay m = s.bay m := rfl

/-! ## `onSeq` -/

@[simp] theorem State.onSeq_pending (q : Nat) (f : Seq → Seq) : (s.onSeq q f).pending = s.pending := rfl
@[simp] theorem State.onSeq_variant (q : Nat) (f : Seq → Seq) : (s.onSeq q f).variant = s.variant := rfl
@[simp] theorem State.onSeq_stepping (q : Nat) (f : Seq → Seq) : (s.onSeq q f).stepping = s.stepping := rfl
@[simp] theorem State.onSeq_cycle (q : Nat) (f : Seq → Seq) : (s.onSeq q f).cycle = s.cycle := rfl
@[simp] theorem State.onSeq_freeCount (q : Nat) (f : Seq → Seq) : (s.onSeq q f).freeCount = s.freeCount := rfl
@[simp] theorem State.onSeq_regs (q : Nat) (f : Seq → Seq) : (s.onSeq q f).regs = s.regs := rfl
@[simp] theorem State.onSeq_staged (q : Nat) (f : Seq → Seq) : (s.onSeq q f).staged = s.staged := rfl
@[simp] theorem State.onSeq_latched (q : Nat) (f : Seq → Seq) : (s.onSeq q f).latched = s.latched := rfl
@[simp] theorem State.onSeq_out (q : Nat) (f : Seq → Seq) : (s.onSeq q f).out = s.out := rfl
@[simp] theorem State.onSeq_heldOut (q : Nat) (f : Seq → Seq) : (s.onSeq q f).heldOut = s.heldOut := rfl
@[simp] theorem State.onSeq_dram (q : Nat) (f : Seq → Seq) : (s.onSeq q f).dram = s.dram := rfl
@[simp] theorem State.onSeq_mem (q : Nat) (f : Seq → Seq) : (s.onSeq q f).mem = s.mem := rfl
@[simp] theorem State.onSeq_caddy (q : Nat) (f : Seq → Seq) : (s.onSeq q f).caddy = s.caddy := rfl
@[simp] theorem State.onSeq_keys (q : Nat) (f : Seq → Seq) : (s.onSeq q f).keys = s.keys := rfl
@[simp] theorem State.onSeq_fabKeys (q : Nat) (f : Seq → Seq) : (s.onSeq q f).fabKeys = s.fabKeys := rfl
@[simp] theorem State.onSeq_bays (q : Nat) (f : Seq → Seq) : (s.onSeq q f).bays = s.bays := rfl
@[simp] theorem State.onSeq_porter (q : Nat) (f : Seq → Seq) : (s.onSeq q f).porter = s.porter := rfl
@[simp] theorem State.onSeq_subs (q : Nat) (f : Seq → Seq) : (s.onSeq q f).subs = s.subs := rfl
@[simp] theorem State.onSeq_rcps (q : Nat) (f : Seq → Seq) : (s.onSeq q f).rcps = s.rcps := rfl
@[simp] theorem State.onSeq_channels (q : Nat) (f : Seq → Seq) : (s.onSeq q f).channels = s.channels := rfl
@[simp] theorem State.onSeq_pcie (q : Nat) (f : Seq → Seq) : (s.onSeq q f).pcie = s.pcie := rfl
@[simp] theorem State.onSeq_units (q : Nat) (f : Seq → Seq) : (s.onSeq q f).units = s.units := rfl
@[simp] theorem State.onSeq_banks (q : Nat) (f : Seq → Seq) : (s.onSeq q f).banks = s.banks := rfl
@[simp] theorem State.onSeq_clusters (q : Nat) (f : Seq → Seq) : (s.onSeq q f).clusters = s.clusters := rfl
@[simp] theorem State.onSeq_fab (q : Nat) (f : Seq → Seq) : (s.onSeq q f).fab = s.fab := rfl
@[simp] theorem State.onSeq_chain (q : Nat) (f : Seq → Seq) : (s.onSeq q f).chain = s.chain := rfl
@[simp] theorem State.onSeq_ledger (q : Nat) (f : Seq → Seq) : (s.onSeq q f).ledger = s.ledger := rfl
@[simp] theorem State.onSeq_gtrc (q : Nat) (f : Seq → Seq) : (s.onSeq q f).gtrc = s.gtrc := rfl
@[simp] theorem State.onSeq_sup (q : Nat) (f : Seq → Seq) : (s.onSeq q f).sup = s.sup := rfl
@[simp] theorem State.onSeq_rtcS (q : Nat) (f : Seq → Seq) : (s.onSeq q f).rtcS = s.rtcS := rfl
@[simp] theorem State.onSeq_domPhase (q : Nat) (f : Seq → Seq) : (s.onSeq q f).domPhase = s.domPhase := rfl
@[simp] theorem State.onSeq_pendMode (q : Nat) (f : Seq → Seq) : (s.onSeq q f).pendMode = s.pendMode := rfl
@[simp] theorem State.get_onSeq (q : Nat) (f : Seq → Seq) (g : Field) : (s.onSeq q f).get g = s.get g := rfl
@[simp] theorem State.bay_onSeq (q : Nat) (f : Seq → Seq) (m : Nat) : (s.onSeq q f).bay m = s.bay m := rfl

/-! ## `onBank` -/

@[simp] theorem State.onBank_pending (c b : Nat) (f : Bank → Bank) : (s.onBank c b f).pending = s.pending := rfl
@[simp] theorem State.onBank_variant (c b : Nat) (f : Bank → Bank) : (s.onBank c b f).variant = s.variant := rfl
@[simp] theorem State.onBank_stepping (c b : Nat) (f : Bank → Bank) : (s.onBank c b f).stepping = s.stepping := rfl
@[simp] theorem State.onBank_cycle (c b : Nat) (f : Bank → Bank) : (s.onBank c b f).cycle = s.cycle := rfl
@[simp] theorem State.onBank_freeCount (c b : Nat) (f : Bank → Bank) : (s.onBank c b f).freeCount = s.freeCount := rfl
@[simp] theorem State.onBank_regs (c b : Nat) (f : Bank → Bank) : (s.onBank c b f).regs = s.regs := rfl
@[simp] theorem State.onBank_staged (c b : Nat) (f : Bank → Bank) : (s.onBank c b f).staged = s.staged := rfl
@[simp] theorem State.onBank_latched (c b : Nat) (f : Bank → Bank) : (s.onBank c b f).latched = s.latched := rfl
@[simp] theorem State.onBank_out (c b : Nat) (f : Bank → Bank) : (s.onBank c b f).out = s.out := rfl
@[simp] theorem State.onBank_heldOut (c b : Nat) (f : Bank → Bank) : (s.onBank c b f).heldOut = s.heldOut := rfl
@[simp] theorem State.onBank_dram (c b : Nat) (f : Bank → Bank) : (s.onBank c b f).dram = s.dram := rfl
@[simp] theorem State.onBank_mem (c b : Nat) (f : Bank → Bank) : (s.onBank c b f).mem = s.mem := rfl
@[simp] theorem State.onBank_caddy (c b : Nat) (f : Bank → Bank) : (s.onBank c b f).caddy = s.caddy := rfl
@[simp] theorem State.onBank_keys (c b : Nat) (f : Bank → Bank) : (s.onBank c b f).keys = s.keys := rfl
@[simp] theorem State.onBank_fabKeys (c b : Nat) (f : Bank → Bank) : (s.onBank c b f).fabKeys = s.fabKeys := rfl
@[simp] theorem State.onBank_bays (c b : Nat) (f : Bank → Bank) : (s.onBank c b f).bays = s.bays := rfl
@[simp] theorem State.onBank_porter (c b : Nat) (f : Bank → Bank) : (s.onBank c b f).porter = s.porter := rfl
@[simp] theorem State.onBank_subs (c b : Nat) (f : Bank → Bank) : (s.onBank c b f).subs = s.subs := rfl
@[simp] theorem State.onBank_rcps (c b : Nat) (f : Bank → Bank) : (s.onBank c b f).rcps = s.rcps := rfl
@[simp] theorem State.onBank_channels (c b : Nat) (f : Bank → Bank) : (s.onBank c b f).channels = s.channels := rfl
@[simp] theorem State.onBank_pcie (c b : Nat) (f : Bank → Bank) : (s.onBank c b f).pcie = s.pcie := rfl
@[simp] theorem State.onBank_units (c b : Nat) (f : Bank → Bank) : (s.onBank c b f).units = s.units := rfl
@[simp] theorem State.onBank_seqs (c b : Nat) (f : Bank → Bank) : (s.onBank c b f).seqs = s.seqs := rfl
@[simp] theorem State.onBank_clusters (c b : Nat) (f : Bank → Bank) : (s.onBank c b f).clusters = s.clusters := rfl
@[simp] theorem State.onBank_fab (c b : Nat) (f : Bank → Bank) : (s.onBank c b f).fab = s.fab := rfl
@[simp] theorem State.onBank_chain (c b : Nat) (f : Bank → Bank) : (s.onBank c b f).chain = s.chain := rfl
@[simp] theorem State.onBank_ledger (c b : Nat) (f : Bank → Bank) : (s.onBank c b f).ledger = s.ledger := rfl
@[simp] theorem State.onBank_gtrc (c b : Nat) (f : Bank → Bank) : (s.onBank c b f).gtrc = s.gtrc := rfl
@[simp] theorem State.onBank_sup (c b : Nat) (f : Bank → Bank) : (s.onBank c b f).sup = s.sup := rfl
@[simp] theorem State.onBank_rtcS (c b : Nat) (f : Bank → Bank) : (s.onBank c b f).rtcS = s.rtcS := rfl
@[simp] theorem State.onBank_domPhase (c b : Nat) (f : Bank → Bank) : (s.onBank c b f).domPhase = s.domPhase := rfl
@[simp] theorem State.onBank_pendMode (c b : Nat) (f : Bank → Bank) : (s.onBank c b f).pendMode = s.pendMode := rfl
@[simp] theorem State.get_onBank (c b : Nat) (f : Bank → Bank) (g : Field) : (s.onBank c b f).get g = s.get g := rfl
@[simp] theorem State.bay_onBank (c b : Nat) (f : Bank → Bank) (m : Nat) : (s.onBank c b f).bay m = s.bay m := rfl

/-! ## `onCluster` -/

@[simp] theorem State.onCluster_pending (c : Nat) (f : Cluster → Cluster) : (s.onCluster c f).pending = s.pending := rfl
@[simp] theorem State.onCluster_variant (c : Nat) (f : Cluster → Cluster) : (s.onCluster c f).variant = s.variant := rfl
@[simp] theorem State.onCluster_stepping (c : Nat) (f : Cluster → Cluster) : (s.onCluster c f).stepping = s.stepping := rfl
@[simp] theorem State.onCluster_cycle (c : Nat) (f : Cluster → Cluster) : (s.onCluster c f).cycle = s.cycle := rfl
@[simp] theorem State.onCluster_freeCount (c : Nat) (f : Cluster → Cluster) : (s.onCluster c f).freeCount = s.freeCount := rfl
@[simp] theorem State.onCluster_regs (c : Nat) (f : Cluster → Cluster) : (s.onCluster c f).regs = s.regs := rfl
@[simp] theorem State.onCluster_staged (c : Nat) (f : Cluster → Cluster) : (s.onCluster c f).staged = s.staged := rfl
@[simp] theorem State.onCluster_latched (c : Nat) (f : Cluster → Cluster) : (s.onCluster c f).latched = s.latched := rfl
@[simp] theorem State.onCluster_out (c : Nat) (f : Cluster → Cluster) : (s.onCluster c f).out = s.out := rfl
@[simp] theorem State.onCluster_heldOut (c : Nat) (f : Cluster → Cluster) : (s.onCluster c f).heldOut = s.heldOut := rfl
@[simp] theorem State.onCluster_dram (c : Nat) (f : Cluster → Cluster) : (s.onCluster c f).dram = s.dram := rfl
@[simp] theorem State.onCluster_mem (c : Nat) (f : Cluster → Cluster) : (s.onCluster c f).mem = s.mem := rfl
@[simp] theorem State.onCluster_caddy (c : Nat) (f : Cluster → Cluster) : (s.onCluster c f).caddy = s.caddy := rfl
@[simp] theorem State.onCluster_keys (c : Nat) (f : Cluster → Cluster) : (s.onCluster c f).keys = s.keys := rfl
@[simp] theorem State.onCluster_fabKeys (c : Nat) (f : Cluster → Cluster) : (s.onCluster c f).fabKeys = s.fabKeys := rfl
@[simp] theorem State.onCluster_bays (c : Nat) (f : Cluster → Cluster) : (s.onCluster c f).bays = s.bays := rfl
@[simp] theorem State.onCluster_porter (c : Nat) (f : Cluster → Cluster) : (s.onCluster c f).porter = s.porter := rfl
@[simp] theorem State.onCluster_subs (c : Nat) (f : Cluster → Cluster) : (s.onCluster c f).subs = s.subs := rfl
@[simp] theorem State.onCluster_rcps (c : Nat) (f : Cluster → Cluster) : (s.onCluster c f).rcps = s.rcps := rfl
@[simp] theorem State.onCluster_channels (c : Nat) (f : Cluster → Cluster) : (s.onCluster c f).channels = s.channels := rfl
@[simp] theorem State.onCluster_pcie (c : Nat) (f : Cluster → Cluster) : (s.onCluster c f).pcie = s.pcie := rfl
@[simp] theorem State.onCluster_units (c : Nat) (f : Cluster → Cluster) : (s.onCluster c f).units = s.units := rfl
@[simp] theorem State.onCluster_seqs (c : Nat) (f : Cluster → Cluster) : (s.onCluster c f).seqs = s.seqs := rfl
@[simp] theorem State.onCluster_banks (c : Nat) (f : Cluster → Cluster) : (s.onCluster c f).banks = s.banks := rfl
@[simp] theorem State.onCluster_fab (c : Nat) (f : Cluster → Cluster) : (s.onCluster c f).fab = s.fab := rfl
@[simp] theorem State.onCluster_chain (c : Nat) (f : Cluster → Cluster) : (s.onCluster c f).chain = s.chain := rfl
@[simp] theorem State.onCluster_ledger (c : Nat) (f : Cluster → Cluster) : (s.onCluster c f).ledger = s.ledger := rfl
@[simp] theorem State.onCluster_gtrc (c : Nat) (f : Cluster → Cluster) : (s.onCluster c f).gtrc = s.gtrc := rfl
@[simp] theorem State.onCluster_sup (c : Nat) (f : Cluster → Cluster) : (s.onCluster c f).sup = s.sup := rfl
@[simp] theorem State.onCluster_rtcS (c : Nat) (f : Cluster → Cluster) : (s.onCluster c f).rtcS = s.rtcS := rfl
@[simp] theorem State.onCluster_domPhase (c : Nat) (f : Cluster → Cluster) : (s.onCluster c f).domPhase = s.domPhase := rfl
@[simp] theorem State.onCluster_pendMode (c : Nat) (f : Cluster → Cluster) : (s.onCluster c f).pendMode = s.pendMode := rfl
@[simp] theorem State.get_onCluster (c : Nat) (f : Cluster → Cluster) (g : Field) : (s.onCluster c f).get g = s.get g := rfl
@[simp] theorem State.bay_onCluster (c : Nat) (f : Cluster → Cluster) (m : Nat) : (s.onCluster c f).bay m = s.bay m := rfl

/-! ## `setSub` -/

@[simp] theorem State.setSub_pending (r : Nat) (x : SubRing) : (s.setSub r x).pending = s.pending := rfl
@[simp] theorem State.setSub_variant (r : Nat) (x : SubRing) : (s.setSub r x).variant = s.variant := rfl
@[simp] theorem State.setSub_stepping (r : Nat) (x : SubRing) : (s.setSub r x).stepping = s.stepping := rfl
@[simp] theorem State.setSub_cycle (r : Nat) (x : SubRing) : (s.setSub r x).cycle = s.cycle := rfl
@[simp] theorem State.setSub_freeCount (r : Nat) (x : SubRing) : (s.setSub r x).freeCount = s.freeCount := rfl
@[simp] theorem State.setSub_regs (r : Nat) (x : SubRing) : (s.setSub r x).regs = s.regs := rfl
@[simp] theorem State.setSub_staged (r : Nat) (x : SubRing) : (s.setSub r x).staged = s.staged := rfl
@[simp] theorem State.setSub_latched (r : Nat) (x : SubRing) : (s.setSub r x).latched = s.latched := rfl
@[simp] theorem State.setSub_out (r : Nat) (x : SubRing) : (s.setSub r x).out = s.out := rfl
@[simp] theorem State.setSub_heldOut (r : Nat) (x : SubRing) : (s.setSub r x).heldOut = s.heldOut := rfl
@[simp] theorem State.setSub_dram (r : Nat) (x : SubRing) : (s.setSub r x).dram = s.dram := rfl
@[simp] theorem State.setSub_mem (r : Nat) (x : SubRing) : (s.setSub r x).mem = s.mem := rfl
@[simp] theorem State.setSub_caddy (r : Nat) (x : SubRing) : (s.setSub r x).caddy = s.caddy := rfl
@[simp] theorem State.setSub_keys (r : Nat) (x : SubRing) : (s.setSub r x).keys = s.keys := rfl
@[simp] theorem State.setSub_fabKeys (r : Nat) (x : SubRing) : (s.setSub r x).fabKeys = s.fabKeys := rfl
@[simp] theorem State.setSub_bays (r : Nat) (x : SubRing) : (s.setSub r x).bays = s.bays := rfl
@[simp] theorem State.setSub_porter (r : Nat) (x : SubRing) : (s.setSub r x).porter = s.porter := rfl
@[simp] theorem State.setSub_rcps (r : Nat) (x : SubRing) : (s.setSub r x).rcps = s.rcps := rfl
@[simp] theorem State.setSub_channels (r : Nat) (x : SubRing) : (s.setSub r x).channels = s.channels := rfl
@[simp] theorem State.setSub_pcie (r : Nat) (x : SubRing) : (s.setSub r x).pcie = s.pcie := rfl
@[simp] theorem State.setSub_units (r : Nat) (x : SubRing) : (s.setSub r x).units = s.units := rfl
@[simp] theorem State.setSub_seqs (r : Nat) (x : SubRing) : (s.setSub r x).seqs = s.seqs := rfl
@[simp] theorem State.setSub_banks (r : Nat) (x : SubRing) : (s.setSub r x).banks = s.banks := rfl
@[simp] theorem State.setSub_clusters (r : Nat) (x : SubRing) : (s.setSub r x).clusters = s.clusters := rfl
@[simp] theorem State.setSub_fab (r : Nat) (x : SubRing) : (s.setSub r x).fab = s.fab := rfl
@[simp] theorem State.setSub_chain (r : Nat) (x : SubRing) : (s.setSub r x).chain = s.chain := rfl
@[simp] theorem State.setSub_ledger (r : Nat) (x : SubRing) : (s.setSub r x).ledger = s.ledger := rfl
@[simp] theorem State.setSub_gtrc (r : Nat) (x : SubRing) : (s.setSub r x).gtrc = s.gtrc := rfl
@[simp] theorem State.setSub_sup (r : Nat) (x : SubRing) : (s.setSub r x).sup = s.sup := rfl
@[simp] theorem State.setSub_rtcS (r : Nat) (x : SubRing) : (s.setSub r x).rtcS = s.rtcS := rfl
@[simp] theorem State.setSub_domPhase (r : Nat) (x : SubRing) : (s.setSub r x).domPhase = s.domPhase := rfl
@[simp] theorem State.setSub_pendMode (r : Nat) (x : SubRing) : (s.setSub r x).pendMode = s.pendMode := rfl
@[simp] theorem State.get_setSub (r : Nat) (x : SubRing) (g : Field) : (s.setSub r x).get g = s.get g := rfl
@[simp] theorem State.bay_setSub (r : Nat) (x : SubRing) (m : Nat) : (s.setSub r x).bay m = s.bay m := rfl

/-! ## `setPendingOf` -/

@[simp] theorem State.setPendingOf_pending (r k : Nat) : (s.setPendingOf r k).pending = s.pending := rfl
@[simp] theorem State.setPendingOf_variant (r k : Nat) : (s.setPendingOf r k).variant = s.variant := rfl
@[simp] theorem State.setPendingOf_stepping (r k : Nat) : (s.setPendingOf r k).stepping = s.stepping := rfl
@[simp] theorem State.setPendingOf_cycle (r k : Nat) : (s.setPendingOf r k).cycle = s.cycle := rfl
@[simp] theorem State.setPendingOf_freeCount (r k : Nat) : (s.setPendingOf r k).freeCount = s.freeCount := rfl
@[simp] theorem State.setPendingOf_regs (r k : Nat) : (s.setPendingOf r k).regs = s.regs := rfl
@[simp] theorem State.setPendingOf_staged (r k : Nat) : (s.setPendingOf r k).staged = s.staged := rfl
@[simp] theorem State.setPendingOf_latched (r k : Nat) : (s.setPendingOf r k).latched = s.latched := rfl
@[simp] theorem State.setPendingOf_out (r k : Nat) : (s.setPendingOf r k).out = s.out := rfl
@[simp] theorem State.setPendingOf_heldOut (r k : Nat) : (s.setPendingOf r k).heldOut = s.heldOut := rfl
@[simp] theorem State.setPendingOf_dram (r k : Nat) : (s.setPendingOf r k).dram = s.dram := rfl
@[simp] theorem State.setPendingOf_mem (r k : Nat) : (s.setPendingOf r k).mem = s.mem := rfl
@[simp] theorem State.setPendingOf_caddy (r k : Nat) : (s.setPendingOf r k).caddy = s.caddy := rfl
@[simp] theorem State.setPendingOf_keys (r k : Nat) : (s.setPendingOf r k).keys = s.keys := rfl
@[simp] theorem State.setPendingOf_fabKeys (r k : Nat) : (s.setPendingOf r k).fabKeys = s.fabKeys := rfl
@[simp] theorem State.setPendingOf_bays (r k : Nat) : (s.setPendingOf r k).bays = s.bays := rfl
@[simp] theorem State.setPendingOf_porter (r k : Nat) : (s.setPendingOf r k).porter = s.porter := rfl
@[simp] theorem State.setPendingOf_subs (r k : Nat) : (s.setPendingOf r k).subs = s.subs := rfl
@[simp] theorem State.setPendingOf_channels (r k : Nat) : (s.setPendingOf r k).channels = s.channels := rfl
@[simp] theorem State.setPendingOf_pcie (r k : Nat) : (s.setPendingOf r k).pcie = s.pcie := rfl
@[simp] theorem State.setPendingOf_units (r k : Nat) : (s.setPendingOf r k).units = s.units := rfl
@[simp] theorem State.setPendingOf_seqs (r k : Nat) : (s.setPendingOf r k).seqs = s.seqs := rfl
@[simp] theorem State.setPendingOf_banks (r k : Nat) : (s.setPendingOf r k).banks = s.banks := rfl
@[simp] theorem State.setPendingOf_clusters (r k : Nat) : (s.setPendingOf r k).clusters = s.clusters := rfl
@[simp] theorem State.setPendingOf_fab (r k : Nat) : (s.setPendingOf r k).fab = s.fab := rfl
@[simp] theorem State.setPendingOf_chain (r k : Nat) : (s.setPendingOf r k).chain = s.chain := rfl
@[simp] theorem State.setPendingOf_ledger (r k : Nat) : (s.setPendingOf r k).ledger = s.ledger := rfl
@[simp] theorem State.setPendingOf_gtrc (r k : Nat) : (s.setPendingOf r k).gtrc = s.gtrc := rfl
@[simp] theorem State.setPendingOf_sup (r k : Nat) : (s.setPendingOf r k).sup = s.sup := rfl
@[simp] theorem State.setPendingOf_rtcS (r k : Nat) : (s.setPendingOf r k).rtcS = s.rtcS := rfl
@[simp] theorem State.setPendingOf_domPhase (r k : Nat) : (s.setPendingOf r k).domPhase = s.domPhase := rfl
@[simp] theorem State.setPendingOf_pendMode (r k : Nat) : (s.setPendingOf r k).pendMode = s.pendMode := rfl
@[simp] theorem State.get_setPendingOf (r k : Nat) (g : Field) : (s.setPendingOf r k).get g = s.get g := rfl
@[simp] theorem State.bay_setPendingOf (r k : Nat) (m : Nat) : (s.setPendingOf r k).bay m = s.bay m := rfl

/-! ## `lugStore` -/

@[simp] theorem State.lugStore_pending (o : Nat) (l : List Byte) : (s.lugStore o l).pending = s.pending := rfl
@[simp] theorem State.lugStore_variant (o : Nat) (l : List Byte) : (s.lugStore o l).variant = s.variant := rfl
@[simp] theorem State.lugStore_stepping (o : Nat) (l : List Byte) : (s.lugStore o l).stepping = s.stepping := rfl
@[simp] theorem State.lugStore_cycle (o : Nat) (l : List Byte) : (s.lugStore o l).cycle = s.cycle := rfl
@[simp] theorem State.lugStore_freeCount (o : Nat) (l : List Byte) : (s.lugStore o l).freeCount = s.freeCount := rfl
@[simp] theorem State.lugStore_regs (o : Nat) (l : List Byte) : (s.lugStore o l).regs = s.regs := rfl
@[simp] theorem State.lugStore_staged (o : Nat) (l : List Byte) : (s.lugStore o l).staged = s.staged := rfl
@[simp] theorem State.lugStore_latched (o : Nat) (l : List Byte) : (s.lugStore o l).latched = s.latched := rfl
@[simp] theorem State.lugStore_out (o : Nat) (l : List Byte) : (s.lugStore o l).out = s.out := rfl
@[simp] theorem State.lugStore_heldOut (o : Nat) (l : List Byte) : (s.lugStore o l).heldOut = s.heldOut := rfl
@[simp] theorem State.lugStore_dram (o : Nat) (l : List Byte) : (s.lugStore o l).dram = s.dram := rfl
@[simp] theorem State.lugStore_mem (o : Nat) (l : List Byte) : (s.lugStore o l).mem = s.mem := rfl
@[simp] theorem State.lugStore_caddy (o : Nat) (l : List Byte) : (s.lugStore o l).caddy = s.caddy := rfl
@[simp] theorem State.lugStore_keys (o : Nat) (l : List Byte) : (s.lugStore o l).keys = s.keys := rfl
@[simp] theorem State.lugStore_fabKeys (o : Nat) (l : List Byte) : (s.lugStore o l).fabKeys = s.fabKeys := rfl
@[simp] theorem State.lugStore_bays (o : Nat) (l : List Byte) : (s.lugStore o l).bays = s.bays := rfl
@[simp] theorem State.lugStore_porter (o : Nat) (l : List Byte) : (s.lugStore o l).porter = s.porter := rfl
@[simp] theorem State.lugStore_subs (o : Nat) (l : List Byte) : (s.lugStore o l).subs = s.subs := rfl
@[simp] theorem State.lugStore_rcps (o : Nat) (l : List Byte) : (s.lugStore o l).rcps = s.rcps := rfl
@[simp] theorem State.lugStore_channels (o : Nat) (l : List Byte) : (s.lugStore o l).channels = s.channels := rfl
@[simp] theorem State.lugStore_pcie (o : Nat) (l : List Byte) : (s.lugStore o l).pcie = s.pcie := rfl
@[simp] theorem State.lugStore_units (o : Nat) (l : List Byte) : (s.lugStore o l).units = s.units := rfl
@[simp] theorem State.lugStore_seqs (o : Nat) (l : List Byte) : (s.lugStore o l).seqs = s.seqs := rfl
@[simp] theorem State.lugStore_banks (o : Nat) (l : List Byte) : (s.lugStore o l).banks = s.banks := rfl
@[simp] theorem State.lugStore_clusters (o : Nat) (l : List Byte) : (s.lugStore o l).clusters = s.clusters := rfl
@[simp] theorem State.lugStore_fab (o : Nat) (l : List Byte) : (s.lugStore o l).fab = s.fab := rfl
@[simp] theorem State.lugStore_chain (o : Nat) (l : List Byte) : (s.lugStore o l).chain = s.chain := rfl
@[simp] theorem State.lugStore_ledger (o : Nat) (l : List Byte) : (s.lugStore o l).ledger = s.ledger := rfl
@[simp] theorem State.lugStore_gtrc (o : Nat) (l : List Byte) : (s.lugStore o l).gtrc = s.gtrc := rfl
@[simp] theorem State.lugStore_rtcS (o : Nat) (l : List Byte) : (s.lugStore o l).rtcS = s.rtcS := rfl
@[simp] theorem State.lugStore_domPhase (o : Nat) (l : List Byte) : (s.lugStore o l).domPhase = s.domPhase := rfl
@[simp] theorem State.lugStore_pendMode (o : Nat) (l : List Byte) : (s.lugStore o l).pendMode = s.pendMode := rfl
@[simp] theorem State.get_lugStore (o : Nat) (l : List Byte) (g : Field) : (s.lugStore o l).get g = s.get g := rfl
@[simp] theorem State.bay_lugStore (o : Nat) (l : List Byte) (m : Nat) : (s.lugStore o l).bay m = s.bay m := rfl

end Sys2Proof.Machine
end

