-- ==== Sys2Proof/Safety.lean ====
section
/-!
DEFINITION. What the claims about this machine speak of: the canonical form of its memories, a step that completes, and a run.
-/

namespace Sys2Proof.Machine

/-- The canonical form of a byte memory: addresses strictly rising, no listed byte equal to the zero that an unlisted address reads as. -/
def Memory.wf (m : List Host.Cell) : Bool := Sparse.wf 0 m

/-- The canonical form of the state's stores: controller DRAM, the luggage bank, and the registers' keys. -/
def State.canonical (s : State) : Bool := Memory.wf s.dram && Memory.wf s.sup.bank && s.regs.rising

/-- The registers that writing a ledger record, a trace record or an MSI-X message may change: those of the ledger and trace block,
the pending bits of R620, and `LUG_CTL.SEALED`. -/
def Field.recorder (f : Field) : Bool :=
  (decide (32 * 0xC0000 ≤ f.key) && decide (f.key < 32 * 0xD0000)) || (decide (32 * 0x38000 ≤ f.key) && decide (f.key < 32 * 0x40000)) ||
    decide (f.key = R.LUG_CTL.SEALED.key)

/-- What a command leaves alone: every register field but those at the places of `fs`, every bay's hidden state but that of the bays
`bs`, memory, the luggage bank, and the state of every other unit. -/
structure Leaves (s t : State) (fs : List Field) (bs : List Nat) : Prop where
  regs  : ∀ g : Field, (∀ f ∈ fs, g.key ≠ f.key) → t.get g = s.get g
  bays  : ∀ m, m ∉ bs → t.bay m = s.bay m
  store : t.dram = s.dram ∧ t.mem = s.mem ∧ t.sup.bank = s.sup.bank ∧ t.keys = s.keys ∧ t.fabKeys = s.fabKeys
  units : t.caddy = s.caddy ∧ t.porter = s.porter ∧ t.subs = s.subs ∧ t.rcps = s.rcps ∧ t.channels = s.channels ∧ t.units = s.units ∧
    t.seqs = s.seqs ∧ t.banks = s.banks ∧ t.clusters = s.clusters ∧ t.fab = s.fab ∧ t.chain = s.chain ∧ t.pendMode = s.pendMode ∧
    t.domPhase = s.domPhase

/-- The same for a command that also writes ledger records: the registers of `Field.recorder` may change too, and the luggage bank's
copy of the ledger. -/
structure LeavesRec (s t : State) (fs : List Field) (bs : List Nat) : Prop where
  regs  : ∀ g : Field, (∀ f ∈ fs, g.key ≠ f.key) → g.recorder = false → t.get g = s.get g
  bays  : ∀ m, m ∉ bs → t.bay m = s.bay m
  store : t.dram = s.dram ∧ t.mem = s.mem ∧ t.keys = s.keys ∧ t.fabKeys = s.fabKeys
  units : t.caddy = s.caddy ∧ t.porter = s.porter ∧ t.subs = s.subs ∧ t.rcps = s.rcps ∧ t.channels = s.channels ∧ t.units = s.units ∧
    t.seqs = s.seqs ∧ t.banks = s.banks ∧ t.clusters = s.clusters ∧ t.fab = s.fab ∧ t.chain = s.chain ∧ t.pendMode = s.pendMode ∧
    t.domPhase = s.domPhase

/-- Two memories whose bytes differ at most at the `len` addresses from `lo` on. -/
def SameBytesOutside (m m' : List Host.Cell) (lo len : Nat) : Prop :=
  ∀ a, a < lo ∨ lo + len ≤ a → Sparse.get 0 m' a = Sparse.get 0 m a

/-- A final receipt with status `st` for the command `c` waits to be written. -/
def Reports (t : State) (c : Cmd) (st : Nat) : Prop :=
  ∃ r ∈ t.porter.receipts, r.ring = c.rring ∧ r.cid = c.wb.cid ∧ r.status = st ∧ r.kind = 0

/-- An offset that the register map assigns to no register, table or window (R618). -/
def reservedOffset (off : Nat) : Bool :=
  (regAt off).isNone && !(decide (0x800000 ≤ off) && decide (off < 0x1000000)) && !(decide (0xC8000 ≤ off) && decide (off < 0xD0000)) &&
    !(decide (0x1000000 ≤ off) && decide (off < 0x1800000) && decide (0x3000 ≤ off % 0x10000) && decide (off % 0x10000 < 0x4000))

/-- The command runs on `s` and its next state is as `P` says. -/
def Does (c : Instr) (s : State) (P : State → Prop) : Prop := ∃ t, exec c s = .next t ∧ P t

/-- A step that goes on: it neither faults nor refuses. -/
def State.runs (s : State) : Prop := ∃ t, step s = .next t

/-- Every step of `k` goes on. -/
def State.safeFor (s : State) : Nat → Prop
  | 0 => True
  | k + 1 => ∃ t, step s = .next t ∧ State.safeFor t k

end Sys2Proof.Machine
end

