-- ==== Sys2Proof/Laws/Record.lean ====
section
/-!
SUPPORT. What writing a ledger record, a trace record or an MSI-X message can change: the ledger and trace registers, the pending bits,
the seal flag, the engine's hidden state, the bank's bytes and what has left the controller; nothing else.
-/

namespace Sys2Proof.Machine

/-- `t` has come from `s` by operations of the ledger engine, the global trace, the MSI-X logic and the luggage bank's writer. -/
structure Records (s t : State) : Prop where
  get : ∀ g : Field, g.recorder = false → t.get g = s.get g
  pending : t.pending = s.pending
  variant : t.variant = s.variant
  stepping : t.stepping = s.stepping
  cycle : t.cycle = s.cycle
  freeCount : t.freeCount = s.freeCount
  staged : t.staged = s.staged
  latched : t.latched = s.latched
  dram : t.dram = s.dram
  mem : t.mem = s.mem
  caddy : t.caddy = s.caddy
  keys : t.keys = s.keys
  fabKeys : t.fabKeys = s.fabKeys
  bays : t.bays = s.bays
  porter : t.porter = s.porter
  subs : t.subs = s.subs
  rcps : t.rcps = s.rcps
  channels : t.channels = s.channels
  pcie : t.pcie = s.pcie
  units : t.units = s.units
  seqs : t.seqs = s.seqs
  banks : t.banks = s.banks
  clusters : t.clusters = s.clusters
  fab : t.fab = s.fab
  chain : t.chain = s.chain
  rtcS : t.rtcS = s.rtcS
  domPhase : t.domPhase = s.domPhase
  pendMode : t.pendMode = s.pendMode

variable {s0 s : State}

theorem Records.refl (s : State) : Records s s := ⟨fun _ _ => rfl, rfl, rfl, rfl, rfl, rfl, rfl, rfl, rfl, rfl, rfl, rfl, rfl, rfl, rfl, rfl, rfl, rfl, rfl, rfl, rfl, rfl, rfl, rfl, rfl, rfl, rfl, rfl⟩

theorem Records.put {f : Field} {v : Nat} (h : Records s0 s) (k : f.recorder = true) : Records s0 (s.put f v) := by
  refine { h with get := ?_ }
  intro g hg
  have ne : g.key ≠ f.key := by
    intro e
    simp only [Field.recorder, e] at hg k
    rw [hg] at k
    exact absurd k (by decide)
  rw [State.get_put_other _ _ _ _ ne]
  exact h.get g hg

theorem Records.update {pending variant stepping cycle freeCount regs staged latched out heldOut dram mem caddy keys fabKeys bays porter subs rcps channels pcie units seqs banks clusters fab chain ledger gtrc sup rtcS domPhase pendMode}
    (e : regs = s.regs) (e_pending : pending = s.pending) (e_variant : variant = s.variant) (e_stepping : stepping = s.stepping) (e_cycle : cycle = s.cycle) (e_freeCount : freeCount = s.freeCount) (e_staged : staged = s.staged) (e_latched : latched = s.latched) (e_dram : dram = s.dram) (e_mem : mem = s.mem) (e_caddy : caddy = s.caddy) (e_keys : keys = s.keys) (e_fabKeys : fabKeys = s.fabKeys) (e_bays : bays = s.bays) (e_porter : porter = s.porter) (e_subs : subs = s.subs) (e_rcps : rcps = s.rcps) (e_channels : channels = s.channels) (e_pcie : pcie = s.pcie) (e_units : units = s.units) (e_seqs : seqs = s.seqs) (e_banks : banks = s.banks) (e_clusters : clusters = s.clusters) (e_fab : fab = s.fab) (e_chain : chain = s.chain) (e_rtcS : rtcS = s.rtcS) (e_domPhase : domPhase = s.domPhase) (e_pendMode : pendMode = s.pendMode) (h : Records s0 s) :
    Records s0 (State.mk pending variant stepping cycle freeCount regs staged latched out heldOut dram mem caddy keys fabKeys bays porter subs rcps channels pcie units seqs banks clusters fab chain ledger gtrc sup rtcS domPhase pendMode) :=
  ⟨fun g hg => by
    have := h.get g hg
    simp only [State.get] at this ⊢
    rw [e, this], e_pending.trans h.pending, e_variant.trans h.variant, e_stepping.trans h.stepping, e_cycle.trans h.cycle, e_freeCount.trans h.freeCount, e_staged.trans h.staged, e_latched.trans h.latched, e_dram.trans h.dram, e_mem.trans h.mem, e_caddy.trans h.caddy, e_keys.trans h.keys, e_fabKeys.trans h.fabKeys, e_bays.trans h.bays, e_porter.trans h.porter, e_subs.trans h.subs, e_rcps.trans h.rcps, e_channels.trans h.channels, e_pcie.trans h.pcie, e_units.trans h.units, e_seqs.trans h.seqs, e_banks.trans h.banks, e_clusters.trans h.clusters, e_fab.trans h.fab, e_chain.trans h.chain, e_rtcS.trans h.rtcS, e_domPhase.trans h.domPhase, e_pendMode.trans h.pendMode⟩

theorem Records.ite {c : Prop} [Decidable c] {a b : State} (ha : Records s0 a) (hb : Records s0 b) : Records s0 (if c then a else b) := by
  split <;> assumption

theorem records_emit {e : Emission} (h : Records s0 s) : Records s0 (s.emit e) := by
  unfold State.emit
  repeat' first | with_reducible exact h | with_reducible assumption | with_reducible apply Records.put | rfl | with_reducible apply Records.ite | dsimp only | split | with_reducible apply Records.update

theorem records_raise {f : Field} (h : Records s0 s) (k : f.recorder = true) : Records s0 (s.raise f) := h.put k

theorem records_zero {f : Field} (h : Records s0 s) (k : f.recorder = true) : Records s0 (s.zero f) := h.put k

theorem records_putB {f : Field} {b : Bool} (h : Records s0 s) (k : f.recorder = true) : Records s0 (s.putB f b) := h.put k

theorem records_count {f : Field} {n : Nat} (h : Records s0 s) (k : f.recorder = true) : Records s0 (s.count f n) := h.put k

theorem records_trcKeep {b : List TraceRec} {n : Nat} (h : Records s0 s) : Records s0 (s.trcKeep b n) := by
  unfold State.trcKeep
  repeat' first | with_reducible exact h | with_reducible assumption | with_reducible apply Records.put | rfl | with_reducible apply Records.ite | dsimp only | split | with_reducible apply Records.update

theorem records_trcStore {r : TraceRec} (h : Records s0 s) : Records s0 (s.trcStore r) := by
  unfold State.trcStore
  repeat' first | with_reducible exact h | with_reducible assumption | with_reducible apply records_trcKeep | with_reducible apply records_zero | with_reducible apply records_raise | with_reducible apply Records.put | rfl | with_reducible apply Records.ite | dsimp only | split | with_reducible apply Records.update

theorem records_trace {a b c d e f : Nat} (h : Records s0 s) : Records s0 (s.trace a b c d e f) := by
  unfold State.trace
  repeat' first | with_reducible exact h | with_reducible assumption | with_reducible apply records_trcStore | with_reducible apply records_count | with_reducible apply Records.put | rfl | with_reducible apply Records.ite | dsimp only | split | with_reducible apply Records.update

theorem records_sendMsix {v : Nat} (h : Records s0 s) : Records s0 (s.sendMsix v) := by
  unfold State.sendMsix
  repeat' first | with_reducible exact h | with_reducible assumption | with_reducible apply records_emit | with_reducible apply Records.put | rfl | with_reducible apply Records.ite | dsimp only | split | with_reducible apply Records.update

theorem records_setLedger {l : Ledger} (h : Records s0 s) : Records s0 (s.setLedger l) := by
  unfold State.setLedger
  repeat' first | with_reducible exact h | with_reducible assumption | with_reducible apply Records.put | rfl | with_reducible apply Records.ite | dsimp only | split | with_reducible apply Records.update

theorem records_lugStore {o : Nat} {l : List Byte} (h : Records s0 s) : Records s0 (s.lugStore o l) := by
  unfold State.lugStore
  repeat' first | with_reducible exact h | with_reducible assumption | with_reducible apply Records.put | rfl | with_reducible apply Records.ite | dsimp only | split | with_reducible apply Records.update

theorem records_lugWrite {o : Nat} {l : List Byte} (h : Records s0 s) : Records s0 (s.lugWrite o l) := by
  unfold State.lugWrite
  repeat' first | with_reducible exact h | with_reducible assumption | with_reducible apply records_lugStore | with_reducible apply records_zero | with_reducible apply Records.put | rfl | with_reducible apply Records.ite | dsimp only | split | with_reducible apply Records.update

theorem records_sealStart  (h : Records s0 s) : Records s0 (s.sealStart) := by
  unfold State.sealStart
  repeat' first | with_reducible exact h | with_reducible assumption | with_reducible apply records_lugStore | with_reducible apply Records.put | rfl | with_reducible apply Records.ite | dsimp only | split | with_reducible apply Records.update

theorem records_ledgerStat  (h : Records s0 s) : Records s0 (s.ledgerStat) := by
  unfold State.ledgerStat
  repeat' first | with_reducible exact h | with_reducible assumption | with_reducible apply records_putB | with_reducible apply Records.put | rfl | with_reducible apply Records.ite | dsimp only | split | with_reducible apply Records.update

theorem records_tailWrite {r : Record} (h : Records s0 s) : Records s0 (s.tailWrite r) := by
  unfold State.tailWrite
  repeat' first | with_reducible exact h | with_reducible assumption | with_reducible apply records_lugWrite | with_reducible apply Records.put | rfl | with_reducible apply Records.ite | dsimp only | split | with_reducible apply Records.update

theorem Field.recorder_pend (v : Nat) (h : v < 2048) : (R.MSIX_PBA.PEND (v / 32)).recorder = true := by
  have a : 32 * 0x38000 ≤ (R.MSIX_PBA.PEND (v / 32)).key := by unfold R.MSIX_PBA.PEND; dsimp only; omega
  have b : (R.MSIX_PBA.PEND (v / 32)).key < 32 * 0x40000 := by unfold R.MSIX_PBA.PEND; dsimp only; omega
  simp [Field.recorder, a, b]

theorem records_signal {v : Nat} (h : Records s0 s) (hv : v < 2048) : Records s0 (s.signal v) := by
  unfold State.signal
  split
  · exact h.put (Field.recorder_pend v hv)
  · exact records_sendMsix h

theorem records_ringWrite {r : Record} (h : Records s0 s) : Records s0 (s.ringWrite r) := by
  unfold State.ringWrite
  repeat' first | with_reducible exact h | with_reducible assumption | with_reducible apply records_tailWrite | with_reducible apply records_signal | with_reducible apply records_emit | with_reducible apply records_zero | with_reducible apply Records.put | rfl | with_reducible apply Records.ite | dsimp only | split | with_reducible apply Records.update | exact State.get_lt _ _

theorem records_nextRecord {e : Event} (h : Records s0 s) : Records s0 ((s.nextRecord e).2) := by
  unfold State.nextRecord
  repeat' first | with_reducible exact h | with_reducible assumption | with_reducible apply Records.put | rfl | with_reducible apply Records.ite | dsimp only | split | with_reducible apply Records.update

theorem records_earlyPut {e : Event} (h : Records s0 s) : Records s0 (s.earlyPut e) := by
  unfold State.earlyPut
  repeat' first | with_reducible exact h | with_reducible assumption | with_reducible apply records_setLedger | with_reducible apply records_nextRecord | with_reducible apply records_raise | with_reducible apply Records.put | rfl | with_reducible apply Records.ite | dsimp only | split | with_reducible apply Records.update

theorem records_writerTake {e : Event} (h : Records s0 s) : Records s0 (s.writerTake e) := by
  unfold State.writerTake
  repeat' first | with_reducible exact h | with_reducible assumption | with_reducible apply records_setLedger | with_reducible apply records_ringWrite | with_reducible apply records_nextRecord | with_reducible apply records_earlyPut | with_reducible apply Records.put | rfl | with_reducible apply Records.ite | dsimp only | split | with_reducible apply Records.update

theorem records_writerOrdinary {e : Event} (h : Records s0 s) : Records s0 (s.writerOrdinary e) := by
  unfold State.writerOrdinary
  repeat' first | with_reducible exact h | with_reducible assumption | with_reducible apply records_writerTake | with_reducible apply records_setLedger | with_reducible apply Records.put | rfl | with_reducible apply Records.ite | dsimp only | split | with_reducible apply Records.update

theorem records_ledgerPump  (h : Records s0 s) : Records s0 (s.ledgerPump) := by
  unfold State.ledgerPump
  repeat' first | with_reducible exact h | with_reducible assumption | with_reducible apply records_ringWrite | with_reducible apply records_writerTake | with_reducible apply records_writerOrdinary | with_reducible apply records_setLedger | with_reducible apply Records.put | rfl | with_reducible apply Records.ite | dsimp only | split | with_reducible apply Records.update

theorem records_countDrop {n a b : Nat} (h : Records s0 s) : Records s0 (s.countDrop n a b) := by
  unfold State.countDrop
  repeat' first | with_reducible exact h | with_reducible assumption | with_reducible apply records_raise | with_reducible apply records_count | with_reducible apply records_setLedger | with_reducible apply Records.put | rfl | with_reducible apply Records.ite | dsimp only | split | with_reducible apply Records.update

theorem records_dropRecord {e : Event} (h : Records s0 s) : Records s0 (s.dropRecord e) := by
  unfold State.dropRecord
  repeat' first | with_reducible exact h | with_reducible assumption | with_reducible apply records_tailWrite | with_reducible apply records_nextRecord | with_reducible apply Records.put | rfl | with_reducible apply Records.ite | dsimp only | split | with_reducible apply Records.update

theorem records_offer {e : Event} (h : Records s0 s) : Records s0 (s.offer e) := by
  unfold State.offer
  repeat' first | with_reducible exact h | with_reducible assumption | with_reducible apply records_ledgerStat | with_reducible apply records_writerTake | with_reducible apply records_setLedger | with_reducible apply records_dropRecord | with_reducible apply records_countDrop | with_reducible apply records_writerOrdinary | with_reducible apply records_count | with_reducible apply records_trace | with_reducible apply Records.put | rfl | with_reducible apply Records.ite | dsimp only | split | with_reducible apply Records.update

theorem records_writerFree  (h : Records s0 s) : Records s0 (s.writerFree) := by
  unfold State.writerFree
  repeat' first | with_reducible exact h | with_reducible assumption | with_reducible apply records_ledgerStat | with_reducible apply records_ledgerPump | with_reducible apply records_setLedger | with_reducible apply Records.put | rfl | with_reducible apply Records.ite | dsimp only | split | with_reducible apply Records.update

theorem records_recordCls {c a b d : Nat} {l : List Nat} (h : Records s0 s) : Records s0 (s.recordCls c a b d l) := by
  unfold State.recordCls
  repeat' first | with_reducible exact h | with_reducible assumption | with_reducible apply records_offer | with_reducible apply Records.put | rfl | with_reducible apply Records.ite | dsimp only | split | with_reducible apply Records.update

theorem records_record {a b : Nat} {l : List Nat} (h : Records s0 s) : Records s0 (s.record a b l) := by
  unfold State.record
  repeat' first | with_reducible exact h | with_reducible assumption | with_reducible apply records_recordCls | with_reducible apply Records.put | rfl | with_reducible apply Records.ite | dsimp only | split | with_reducible apply Records.update

theorem records_recordBay {a b : Nat} {l : List Nat} (h : Records s0 s) : Records s0 (s.recordBay a b l) := by
  unfold State.recordBay
  repeat' first | with_reducible exact h | with_reducible assumption | with_reducible apply records_recordCls | with_reducible apply Records.put | rfl | with_reducible apply Records.ite | dsimp only | split | with_reducible apply Records.update

theorem records_recordFor {a b c : Nat} {l : List Nat} (h : Records s0 s) : Records s0 (s.recordFor a b c l) := by
  unfold State.recordFor
  repeat' first | with_reducible exact h | with_reducible assumption | with_reducible apply records_recordCls | with_reducible apply Records.put | rfl | with_reducible apply Records.ite | dsimp only | split | with_reducible apply Records.update

/-! ## What each leaves -/

theorem State.get_emit (s : State) (e : Emission) (g : Field) (k : g.recorder = false) : (s.emit e).get g = s.get g := (records_emit (Records.refl s)).get g k
@[simp] theorem State.emit_pending (s : State) (e : Emission) : (s.emit e).pending = s.pending := (records_emit (Records.refl s)).pending
@[simp] theorem State.emit_variant (s : State) (e : Emission) : (s.emit e).variant = s.variant := (records_emit (Records.refl s)).variant
@[simp] theorem State.emit_stepping (s : State) (e : Emission) : (s.emit e).stepping = s.stepping := (records_emit (Records.refl s)).stepping
@[simp] theorem State.emit_cycle (s : State) (e : Emission) : (s.emit e).cycle = s.cycle := (records_emit (Records.refl s)).cycle
@[simp] theorem State.emit_freeCount (s : State) (e : Emission) : (s.emit e).freeCount = s.freeCount := (records_emit (Records.refl s)).freeCount
@[simp] theorem State.emit_staged (s : State) (e : Emission) : (s.emit e).staged = s.staged := (records_emit (Records.refl s)).staged
@[simp] theorem State.emit_latched (s : State) (e : Emission) : (s.emit e).latched = s.latched := (records_emit (Records.refl s)).latched
@[simp] theorem State.emit_dram (s : State) (e : Emission) : (s.emit e).dram = s.dram := (records_emit (Records.refl s)).dram
@[simp] theorem State.emit_mem (s : State) (e : Emission) : (s.emit e).mem = s.mem := (records_emit (Records.refl s)).mem
@[simp] theorem State.emit_caddy (s : State) (e : Emission) : (s.emit e).caddy = s.caddy := (records_emit (Records.refl s)).caddy
@[simp] theorem State.emit_keys (s : State) (e : Emission) : (s.emit e).keys = s.keys := (records_emit (Records.refl s)).keys
@[simp] theorem State.emit_fabKeys (s : State) (e : Emission) : (s.emit e).fabKeys = s.fabKeys := (records_emit (Records.refl s)).fabKeys
@[simp] theorem State.emit_bays (s : State) (e : Emission) : (s.emit e).bays = s.bays := (records_emit (Records.refl s)).bays
@[simp] theorem State.emit_porter (s : State) (e : Emission) : (s.emit e).porter = s.porter := (records_emit (Records.refl s)).porter
@[simp] theorem State.emit_subs (s : State) (e : Emission) : (s.emit e).subs = s.subs := (records_emit (Records.refl s)).subs
@[simp] theorem State.emit_rcps (s : State) (e : Emission) : (s.emit e).rcps = s.rcps := (records_emit (Records.refl s)).rcps
@[simp] theorem State.emit_channels (s : State) (e : Emission) : (s.emit e).channels = s.channels := (records_emit (Records.refl s)).channels
@[simp] theorem State.emit_pcie (s : State) (e : Emission) : (s.emit e).pcie = s.pcie := (records_emit (Records.refl s)).pcie
@[simp] theorem State.emit_units (s : State) (e : Emission) : (s.emit e).units = s.units := (records_emit (Records.refl s)).units
@[simp] theorem State.emit_seqs (s : State) (e : Emission) : (s.emit e).seqs = s.seqs := (records_emit (Records.refl s)).seqs
@[simp] theorem State.emit_banks (s : State) (e : Emission) : (s.emit e).banks = s.banks := (records_emit (Records.refl s)).banks
@[simp] theorem State.emit_clusters (s : State) (e : Emission) : (s.emit e).clusters = s.clusters := (records_emit (Records.refl s)).clusters
@[simp] theorem State.emit_fab (s : State) (e : Emission) : (s.emit e).fab = s.fab := (records_emit (Records.refl s)).fab
@[simp] theorem State.emit_chain (s : State) (e : Emission) : (s.emit e).chain = s.chain := (records_emit (Records.refl s)).chain
@[simp] theorem State.emit_rtcS (s : State) (e : Emission) : (s.emit e).rtcS = s.rtcS := (records_emit (Records.refl s)).rtcS
@[simp] theorem State.emit_domPhase (s : State) (e : Emission) : (s.emit e).domPhase = s.domPhase := (records_emit (Records.refl s)).domPhase
@[simp] theorem State.emit_pendMode (s : State) (e : Emission) : (s.emit e).pendMode = s.pendMode := (records_emit (Records.refl s)).pendMode
@[simp] theorem State.bay_emit (s : State) (e : Emission) (m : Nat) : (s.emit e).bay m = s.bay m := by simp [State.bay]

theorem State.get_trace (s : State) (a b c d e f : Nat) (g : Field) (k : g.recorder = false) : (s.trace a b c d e f).get g = s.get g := (records_trace (Records.refl s)).get g k
@[simp] theorem State.trace_pending (s : State) (a b c d e f : Nat) : (s.trace a b c d e f).pending = s.pending := (records_trace (Records.refl s)).pending
@[simp] theorem State.trace_variant (s : State) (a b c d e f : Nat) : (s.trace a b c d e f).variant = s.variant := (records_trace (Records.refl s)).variant
@[simp] theorem State.trace_stepping (s : State) (a b c d e f : Nat) : (s.trace a b c d e f).stepping = s.stepping := (records_trace (Records.refl s)).stepping
@[simp] theorem State.trace_cycle (s : State) (a b c d e f : Nat) : (s.trace a b c d e f).cycle = s.cycle := (records_trace (Records.refl s)).cycle
@[simp] theorem State.trace_freeCount (s : State) (a b c d e f : Nat) : (s.trace a b c d e f).freeCount = s.freeCount := (records_trace (Records.refl s)).freeCount
@[simp] theorem State.trace_staged (s : State) (a b c d e f : Nat) : (s.trace a b c d e f).staged = s.staged := (records_trace (Records.refl s)).staged
@[simp] theorem State.trace_latched (s : State) (a b c d e f : Nat) : (s.trace a b c d e f).latched = s.latched := (records_trace (Records.refl s)).latched
@[simp] theorem State.trace_dram (s : State) (a b c d e f : Nat) : (s.trace a b c d e f).dram = s.dram := (records_trace (Records.refl s)).dram
@[simp] theorem State.trace_mem (s : State) (a b c d e f : Nat) : (s.trace a b c d e f).mem = s.mem := (records_trace (Records.refl s)).mem
@[simp] theorem State.trace_caddy (s : State) (a b c d e f : Nat) : (s.trace a b c d e f).caddy = s.caddy := (records_trace (Records.refl s)).caddy
@[simp] theorem State.trace_keys (s : State) (a b c d e f : Nat) : (s.trace a b c d e f).keys = s.keys := (records_trace (Records.refl s)).keys
@[simp] theorem State.trace_fabKeys (s : State) (a b c d e f : Nat) : (s.trace a b c d e f).fabKeys = s.fabKeys := (records_trace (Records.refl s)).fabKeys
@[simp] theorem State.trace_bays (s : State) (a b c d e f : Nat) : (s.trace a b c d e f).bays = s.bays := (records_trace (Records.refl s)).bays
@[simp] theorem State.trace_porter (s : State) (a b c d e f : Nat) : (s.trace a b c d e f).porter = s.porter := (records_trace (Records.refl s)).porter
@[simp] theorem State.trace_subs (s : State) (a b c d e f : Nat) : (s.trace a b c d e f).subs = s.subs := (records_trace (Records.refl s)).subs
@[simp] theorem State.trace_rcps (s : State) (a b c d e f : Nat) : (s.trace a b c d e f).rcps = s.rcps := (records_trace (Records.refl s)).rcps
@[simp] theorem State.trace_channels (s : State) (a b c d e f : Nat) : (s.trace a b c d e f).channels = s.channels := (records_trace (Records.refl s)).channels
@[simp] theorem State.trace_pcie (s : State) (a b c d e f : Nat) : (s.trace a b c d e f).pcie = s.pcie := (records_trace (Records.refl s)).pcie
@[simp] theorem State.trace_units (s : State) (a b c d e f : Nat) : (s.trace a b c d e f).units = s.units := (records_trace (Records.refl s)).units
@[simp] theorem State.trace_seqs (s : State) (a b c d e f : Nat) : (s.trace a b c d e f).seqs = s.seqs := (records_trace (Records.refl s)).seqs
@[simp] theorem State.trace_banks (s : State) (a b c d e f : Nat) : (s.trace a b c d e f).banks = s.banks := (records_trace (Records.refl s)).banks
@[simp] theorem State.trace_clusters (s : State) (a b c d e f : Nat) : (s.trace a b c d e f).clusters = s.clusters := (records_trace (Records.refl s)).clusters
@[simp] theorem State.trace_fab (s : State) (a b c d e f : Nat) : (s.trace a b c d e f).fab = s.fab := (records_trace (Records.refl s)).fab
@[simp] theorem State.trace_chain (s : State) (a b c d e f : Nat) : (s.trace a b c d e f).chain = s.chain := (records_trace (Records.refl s)).chain
@[simp] theorem State.trace_rtcS (s : State) (a b c d e f : Nat) : (s.trace a b c d e f).rtcS = s.rtcS := (records_trace (Records.refl s)).rtcS
@[simp] theorem State.trace_domPhase (s : State) (a b c d e f : Nat) : (s.trace a b c d e f).domPhase = s.domPhase := (records_trace (Records.refl s)).domPhase
@[simp] theorem State.trace_pendMode (s : State) (a b c d e f : Nat) : (s.trace a b c d e f).pendMode = s.pendMode := (records_trace (Records.refl s)).pendMode
@[simp] theorem State.bay_trace (s : State) (a b c d e f : Nat) (m : Nat) : (s.trace a b c d e f).bay m = s.bay m := by simp [State.bay]

theorem State.get_lugWrite (s : State) (o : Nat) (l : List Byte) (g : Field) (k : g.recorder = false) : (s.lugWrite o l).get g = s.get g := (records_lugWrite (Records.refl s)).get g k
@[simp] theorem State.lugWrite_pending (s : State) (o : Nat) (l : List Byte) : (s.lugWrite o l).pending = s.pending := (records_lugWrite (Records.refl s)).pending
@[simp] theorem State.lugWrite_variant (s : State) (o : Nat) (l : List Byte) : (s.lugWrite o l).variant = s.variant := (records_lugWrite (Records.refl s)).variant
@[simp] theorem State.lugWrite_stepping (s : State) (o : Nat) (l : List Byte) : (s.lugWrite o l).stepping = s.stepping := (records_lugWrite (Records.refl s)).stepping
@[simp] theorem State.lugWrite_cycle (s : State) (o : Nat) (l : List Byte) : (s.lugWrite o l).cycle = s.cycle := (records_lugWrite (Records.refl s)).cycle
@[simp] theorem State.lugWrite_freeCount (s : State) (o : Nat) (l : List Byte) : (s.lugWrite o l).freeCount = s.freeCount := (records_lugWrite (Records.refl s)).freeCount
@[simp] theorem State.lugWrite_staged (s : State) (o : Nat) (l : List Byte) : (s.lugWrite o l).staged = s.staged := (records_lugWrite (Records.refl s)).staged
@[simp] theorem State.lugWrite_latched (s : State) (o : Nat) (l : List Byte) : (s.lugWrite o l).latched = s.latched := (records_lugWrite (Records.refl s)).latched
@[simp] theorem State.lugWrite_dram (s : State) (o : Nat) (l : List Byte) : (s.lugWrite o l).dram = s.dram := (records_lugWrite (Records.refl s)).dram
@[simp] theorem State.lugWrite_mem (s : State) (o : Nat) (l : List Byte) : (s.lugWrite o l).mem = s.mem := (records_lugWrite (Records.refl s)).mem
@[simp] theorem State.lugWrite_caddy (s : State) (o : Nat) (l : List Byte) : (s.lugWrite o l).caddy = s.caddy := (records_lugWrite (Records.refl s)).caddy
@[simp] theorem State.lugWrite_keys (s : State) (o : Nat) (l : List Byte) : (s.lugWrite o l).keys = s.keys := (records_lugWrite (Records.refl s)).keys
@[simp] theorem State.lugWrite_fabKeys (s : State) (o : Nat) (l : List Byte) : (s.lugWrite o l).fabKeys = s.fabKeys := (records_lugWrite (Records.refl s)).fabKeys
@[simp] theorem State.lugWrite_bays (s : State) (o : Nat) (l : List Byte) : (s.lugWrite o l).bays = s.bays := (records_lugWrite (Records.refl s)).bays
@[simp] theorem State.lugWrite_porter (s : State) (o : Nat) (l : List Byte) : (s.lugWrite o l).porter = s.porter := (records_lugWrite (Records.refl s)).porter
@[simp] theorem State.lugWrite_subs (s : State) (o : Nat) (l : List Byte) : (s.lugWrite o l).subs = s.subs := (records_lugWrite (Records.refl s)).subs
@[simp] theorem State.lugWrite_rcps (s : State) (o : Nat) (l : List Byte) : (s.lugWrite o l).rcps = s.rcps := (records_lugWrite (Records.refl s)).rcps
@[simp] theorem State.lugWrite_channels (s : State) (o : Nat) (l : List Byte) : (s.lugWrite o l).channels = s.channels := (records_lugWrite (Records.refl s)).channels
@[simp] theorem State.lugWrite_pcie (s : State) (o : Nat) (l : List Byte) : (s.lugWrite o l).pcie = s.pcie := (records_lugWrite (Records.refl s)).pcie
@[simp] theorem State.lugWrite_units (s : State) (o : Nat) (l : List Byte) : (s.lugWrite o l).units = s.units := (records_lugWrite (Records.refl s)).units
@[simp] theorem State.lugWrite_seqs (s : State) (o : Nat) (l : List Byte) : (s.lugWrite o l).seqs = s.seqs := (records_lugWrite (Records.refl s)).seqs
@[simp] theorem State.lugWrite_banks (s : State) (o : Nat) (l : List Byte) : (s.lugWrite o l).banks = s.banks := (records_lugWrite (Records.refl s)).banks
@[simp] theorem State.lugWrite_clusters (s : State) (o : Nat) (l : List Byte) : (s.lugWrite o l).clusters = s.clusters := (records_lugWrite (Records.refl s)).clusters
@[simp] theorem State.lugWrite_fab (s : State) (o : Nat) (l : List Byte) : (s.lugWrite o l).fab = s.fab := (records_lugWrite (Records.refl s)).fab
@[simp] theorem State.lugWrite_chain (s : State) (o : Nat) (l : List Byte) : (s.lugWrite o l).chain = s.chain := (records_lugWrite (Records.refl s)).chain
@[simp] theorem State.lugWrite_rtcS (s : State) (o : Nat) (l : List Byte) : (s.lugWrite o l).rtcS = s.rtcS := (records_lugWrite (Records.refl s)).rtcS
@[simp] theorem State.lugWrite_domPhase (s : State) (o : Nat) (l : List Byte) : (s.lugWrite o l).domPhase = s.domPhase := (records_lugWrite (Records.refl s)).domPhase
@[simp] theorem State.lugWrite_pendMode (s : State) (o : Nat) (l : List Byte) : (s.lugWrite o l).pendMode = s.pendMode := (records_lugWrite (Records.refl s)).pendMode
@[simp] theorem State.bay_lugWrite (s : State) (o : Nat) (l : List Byte) (m : Nat) : (s.lugWrite o l).bay m = s.bay m := by simp [State.bay]

theorem State.get_offer (s : State) (e : Event) (g : Field) (k : g.recorder = false) : (s.offer e).get g = s.get g := (records_offer (Records.refl s)).get g k
@[simp] theorem State.offer_pending (s : State) (e : Event) : (s.offer e).pending = s.pending := (records_offer (Records.refl s)).pending
@[simp] theorem State.offer_variant (s : State) (e : Event) : (s.offer e).variant = s.variant := (records_offer (Records.refl s)).variant
@[simp] theorem State.offer_stepping (s : State) (e : Event) : (s.offer e).stepping = s.stepping := (records_offer (Records.refl s)).stepping
@[simp] theorem State.offer_cycle (s : State) (e : Event) : (s.offer e).cycle = s.cycle := (records_offer (Records.refl s)).cycle
@[simp] theorem State.offer_freeCount (s : State) (e : Event) : (s.offer e).freeCount = s.freeCount := (records_offer (Records.refl s)).freeCount
@[simp] theorem State.offer_staged (s : State) (e : Event) : (s.offer e).staged = s.staged := (records_offer (Records.refl s)).staged
@[simp] theorem State.offer_latched (s : State) (e : Event) : (s.offer e).latched = s.latched := (records_offer (Records.refl s)).latched
@[simp] theorem State.offer_dram (s : State) (e : Event) : (s.offer e).dram = s.dram := (records_offer (Records.refl s)).dram
@[simp] theorem State.offer_mem (s : State) (e : Event) : (s.offer e).mem = s.mem := (records_offer (Records.refl s)).mem
@[simp] theorem State.offer_caddy (s : State) (e : Event) : (s.offer e).caddy = s.caddy := (records_offer (Records.refl s)).caddy
@[simp] theorem State.offer_keys (s : State) (e : Event) : (s.offer e).keys = s.keys := (records_offer (Records.refl s)).keys
@[simp] theorem State.offer_fabKeys (s : State) (e : Event) : (s.offer e).fabKeys = s.fabKeys := (records_offer (Records.refl s)).fabKeys
@[simp] theorem State.offer_bays (s : State) (e : Event) : (s.offer e).bays = s.bays := (records_offer (Records.refl s)).bays
@[simp] theorem State.offer_porter (s : State) (e : Event) : (s.offer e).porter = s.porter := (records_offer (Records.refl s)).porter
@[simp] theorem State.offer_subs (s : State) (e : Event) : (s.offer e).subs = s.subs := (records_offer (Records.refl s)).subs
@[simp] theorem State.offer_rcps (s : State) (e : Event) : (s.offer e).rcps = s.rcps := (records_offer (Records.refl s)).rcps
@[simp] theorem State.offer_channels (s : State) (e : Event) : (s.offer e).channels = s.channels := (records_offer (Records.refl s)).channels
@[simp] theorem State.offer_pcie (s : State) (e : Event) : (s.offer e).pcie = s.pcie := (records_offer (Records.refl s)).pcie
@[simp] theorem State.offer_units (s : State) (e : Event) : (s.offer e).units = s.units := (records_offer (Records.refl s)).units
@[simp] theorem State.offer_seqs (s : State) (e : Event) : (s.offer e).seqs = s.seqs := (records_offer (Records.refl s)).seqs
@[simp] theorem State.offer_banks (s : State) (e : Event) : (s.offer e).banks = s.banks := (records_offer (Records.refl s)).banks
@[simp] theorem State.offer_clusters (s : State) (e : Event) : (s.offer e).clusters = s.clusters := (records_offer (Records.refl s)).clusters
@[simp] theorem State.offer_fab (s : State) (e : Event) : (s.offer e).fab = s.fab := (records_offer (Records.refl s)).fab
@[simp] theorem State.offer_chain (s : State) (e : Event) : (s.offer e).chain = s.chain := (records_offer (Records.refl s)).chain
@[simp] theorem State.offer_rtcS (s : State) (e : Event) : (s.offer e).rtcS = s.rtcS := (records_offer (Records.refl s)).rtcS
@[simp] theorem State.offer_domPhase (s : State) (e : Event) : (s.offer e).domPhase = s.domPhase := (records_offer (Records.refl s)).domPhase
@[simp] theorem State.offer_pendMode (s : State) (e : Event) : (s.offer e).pendMode = s.pendMode := (records_offer (Records.refl s)).pendMode
@[simp] theorem State.bay_offer (s : State) (e : Event) (m : Nat) : (s.offer e).bay m = s.bay m := by simp [State.bay]

theorem State.get_writerFree (s : State)  (g : Field) (k : g.recorder = false) : (s.writerFree).get g = s.get g := (records_writerFree (Records.refl s)).get g k
@[simp] theorem State.writerFree_pending (s : State)  : (s.writerFree).pending = s.pending := (records_writerFree (Records.refl s)).pending
@[simp] theorem State.writerFree_variant (s : State)  : (s.writerFree).variant = s.variant := (records_writerFree (Records.refl s)).variant
@[simp] theorem State.writerFree_stepping (s : State)  : (s.writerFree).stepping = s.stepping := (records_writerFree (Records.refl s)).stepping
@[simp] theorem State.writerFree_cycle (s : State)  : (s.writerFree).cycle = s.cycle := (records_writerFree (Records.refl s)).cycle
@[simp] theorem State.writerFree_freeCount (s : State)  : (s.writerFree).freeCount = s.freeCount := (records_writerFree (Records.refl s)).freeCount
@[simp] theorem State.writerFree_staged (s : State)  : (s.writerFree).staged = s.staged := (records_writerFree (Records.refl s)).staged
@[simp] theorem State.writerFree_latched (s : State)  : (s.writerFree).latched = s.latched := (records_writerFree (Records.refl s)).latched
@[simp] theorem State.writerFree_dram (s : State)  : (s.writerFree).dram = s.dram := (records_writerFree (Records.refl s)).dram
@[simp] theorem State.writerFree_mem (s : State)  : (s.writerFree).mem = s.mem := (records_writerFree (Records.refl s)).mem
@[simp] theorem State.writerFree_caddy (s : State)  : (s.writerFree).caddy = s.caddy := (records_writerFree (Records.refl s)).caddy
@[simp] theorem State.writerFree_keys (s : State)  : (s.writerFree).keys = s.keys := (records_writerFree (Records.refl s)).keys
@[simp] theorem State.writerFree_fabKeys (s : State)  : (s.writerFree).fabKeys = s.fabKeys := (records_writerFree (Records.refl s)).fabKeys
@[simp] theorem State.writerFree_bays (s : State)  : (s.writerFree).bays = s.bays := (records_writerFree (Records.refl s)).bays
@[simp] theorem State.writerFree_porter (s : State)  : (s.writerFree).porter = s.porter := (records_writerFree (Records.refl s)).porter
@[simp] theorem State.writerFree_subs (s : State)  : (s.writerFree).subs = s.subs := (records_writerFree (Records.refl s)).subs
@[simp] theorem State.writerFree_rcps (s : State)  : (s.writerFree).rcps = s.rcps := (records_writerFree (Records.refl s)).rcps
@[simp] theorem State.writerFree_channels (s : State)  : (s.writerFree).channels = s.channels := (records_writerFree (Records.refl s)).channels
@[simp] theorem State.writerFree_pcie (s : State)  : (s.writerFree).pcie = s.pcie := (records_writerFree (Records.refl s)).pcie
@[simp] theorem State.writerFree_units (s : State)  : (s.writerFree).units = s.units := (records_writerFree (Records.refl s)).units
@[simp] theorem State.writerFree_seqs (s : State)  : (s.writerFree).seqs = s.seqs := (records_writerFree (Records.refl s)).seqs
@[simp] theorem State.writerFree_banks (s : State)  : (s.writerFree).banks = s.banks := (records_writerFree (Records.refl s)).banks
@[simp] theorem State.writerFree_clusters (s : State)  : (s.writerFree).clusters = s.clusters := (records_writerFree (Records.refl s)).clusters
@[simp] theorem State.writerFree_fab (s : State)  : (s.writerFree).fab = s.fab := (records_writerFree (Records.refl s)).fab
@[simp] theorem State.writerFree_chain (s : State)  : (s.writerFree).chain = s.chain := (records_writerFree (Records.refl s)).chain
@[simp] theorem State.writerFree_rtcS (s : State)  : (s.writerFree).rtcS = s.rtcS := (records_writerFree (Records.refl s)).rtcS
@[simp] theorem State.writerFree_domPhase (s : State)  : (s.writerFree).domPhase = s.domPhase := (records_writerFree (Records.refl s)).domPhase
@[simp] theorem State.writerFree_pendMode (s : State)  : (s.writerFree).pendMode = s.pendMode := (records_writerFree (Records.refl s)).pendMode
@[simp] theorem State.bay_writerFree (s : State)  (m : Nat) : (s.writerFree).bay m = s.bay m := by simp [State.bay]

theorem State.get_recordCls (s : State) (c a b d : Nat) (l : List Nat) (g : Field) (k : g.recorder = false) : (s.recordCls c a b d l).get g = s.get g := (records_recordCls (Records.refl s)).get g k
@[simp] theorem State.recordCls_pending (s : State) (c a b d : Nat) (l : List Nat) : (s.recordCls c a b d l).pending = s.pending := (records_recordCls (Records.refl s)).pending
@[simp] theorem State.recordCls_variant (s : State) (c a b d : Nat) (l : List Nat) : (s.recordCls c a b d l).variant = s.variant := (records_recordCls (Records.refl s)).variant
@[simp] theorem State.recordCls_stepping (s : State) (c a b d : Nat) (l : List Nat) : (s.recordCls c a b d l).stepping = s.stepping := (records_recordCls (Records.refl s)).stepping
@[simp] theorem State.recordCls_cycle (s : State) (c a b d : Nat) (l : List Nat) : (s.recordCls c a b d l).cycle = s.cycle := (records_recordCls (Records.refl s)).cycle
@[simp] theorem State.recordCls_freeCount (s : State) (c a b d : Nat) (l : List Nat) : (s.recordCls c a b d l).freeCount = s.freeCount := (records_recordCls (Records.refl s)).freeCount
@[simp] theorem State.recordCls_staged (s : State) (c a b d : Nat) (l : List Nat) : (s.recordCls c a b d l).staged = s.staged := (records_recordCls (Records.refl s)).staged
@[simp] theorem State.recordCls_latched (s : State) (c a b d : Nat) (l : List Nat) : (s.recordCls c a b d l).latched = s.latched := (records_recordCls (Records.refl s)).latched
@[simp] theorem State.recordCls_dram (s : State) (c a b d : Nat) (l : List Nat) : (s.recordCls c a b d l).dram = s.dram := (records_recordCls (Records.refl s)).dram
@[simp] theorem State.recordCls_mem (s : State) (c a b d : Nat) (l : List Nat) : (s.recordCls c a b d l).mem = s.mem := (records_recordCls (Records.refl s)).mem
@[simp] theorem State.recordCls_caddy (s : State) (c a b d : Nat) (l : List Nat) : (s.recordCls c a b d l).caddy = s.caddy := (records_recordCls (Records.refl s)).caddy
@[simp] theorem State.recordCls_keys (s : State) (c a b d : Nat) (l : List Nat) : (s.recordCls c a b d l).keys = s.keys := (records_recordCls (Records.refl s)).keys
@[simp] theorem State.recordCls_fabKeys (s : State) (c a b d : Nat) (l : List Nat) : (s.recordCls c a b d l).fabKeys = s.fabKeys := (records_recordCls (Records.refl s)).fabKeys
@[simp] theorem State.recordCls_bays (s : State) (c a b d : Nat) (l : List Nat) : (s.recordCls c a b d l).bays = s.bays := (records_recordCls (Records.refl s)).bays
@[simp] theorem State.recordCls_porter (s : State) (c a b d : Nat) (l : List Nat) : (s.recordCls c a b d l).porter = s.porter := (records_recordCls (Records.refl s)).porter
@[simp] theorem State.recordCls_subs (s : State) (c a b d : Nat) (l : List Nat) : (s.recordCls c a b d l).subs = s.subs := (records_recordCls (Records.refl s)).subs
@[simp] theorem State.recordCls_rcps (s : State) (c a b d : Nat) (l : List Nat) : (s.recordCls c a b d l).rcps = s.rcps := (records_recordCls (Records.refl s)).rcps
@[simp] theorem State.recordCls_channels (s : State) (c a b d : Nat) (l : List Nat) : (s.recordCls c a b d l).channels = s.channels := (records_recordCls (Records.refl s)).channels
@[simp] theorem State.recordCls_pcie (s : State) (c a b d : Nat) (l : List Nat) : (s.recordCls c a b d l).pcie = s.pcie := (records_recordCls (Records.refl s)).pcie
@[simp] theorem State.recordCls_units (s : State) (c a b d : Nat) (l : List Nat) : (s.recordCls c a b d l).units = s.units := (records_recordCls (Records.refl s)).units
@[simp] theorem State.recordCls_seqs (s : State) (c a b d : Nat) (l : List Nat) : (s.recordCls c a b d l).seqs = s.seqs := (records_recordCls (Records.refl s)).seqs
@[simp] theorem State.recordCls_banks (s : State) (c a b d : Nat) (l : List Nat) : (s.recordCls c a b d l).banks = s.banks := (records_recordCls (Records.refl s)).banks
@[simp] theorem State.recordCls_clusters (s : State) (c a b d : Nat) (l : List Nat) : (s.recordCls c a b d l).clusters = s.clusters := (records_recordCls (Records.refl s)).clusters
@[simp] theorem State.recordCls_fab (s : State) (c a b d : Nat) (l : List Nat) : (s.recordCls c a b d l).fab = s.fab := (records_recordCls (Records.refl s)).fab
@[simp] theorem State.recordCls_chain (s : State) (c a b d : Nat) (l : List Nat) : (s.recordCls c a b d l).chain = s.chain := (records_recordCls (Records.refl s)).chain
@[simp] theorem State.recordCls_rtcS (s : State) (c a b d : Nat) (l : List Nat) : (s.recordCls c a b d l).rtcS = s.rtcS := (records_recordCls (Records.refl s)).rtcS
@[simp] theorem State.recordCls_domPhase (s : State) (c a b d : Nat) (l : List Nat) : (s.recordCls c a b d l).domPhase = s.domPhase := (records_recordCls (Records.refl s)).domPhase
@[simp] theorem State.recordCls_pendMode (s : State) (c a b d : Nat) (l : List Nat) : (s.recordCls c a b d l).pendMode = s.pendMode := (records_recordCls (Records.refl s)).pendMode
@[simp] theorem State.bay_recordCls (s : State) (c a b d : Nat) (l : List Nat) (m : Nat) : (s.recordCls c a b d l).bay m = s.bay m := by simp [State.bay]

theorem State.get_record (s : State) (a b : Nat) (l : List Nat) (g : Field) (k : g.recorder = false) : (s.record a b l).get g = s.get g := (records_record (Records.refl s)).get g k
@[simp] theorem State.record_pending (s : State) (a b : Nat) (l : List Nat) : (s.record a b l).pending = s.pending := (records_record (Records.refl s)).pending
@[simp] theorem State.record_variant (s : State) (a b : Nat) (l : List Nat) : (s.record a b l).variant = s.variant := (records_record (Records.refl s)).variant
@[simp] theorem State.record_stepping (s : State) (a b : Nat) (l : List Nat) : (s.record a b l).stepping = s.stepping := (records_record (Records.refl s)).stepping
@[simp] theorem State.record_cycle (s : State) (a b : Nat) (l : List Nat) : (s.record a b l).cycle = s.cycle := (records_record (Records.refl s)).cycle
@[simp] theorem State.record_freeCount (s : State) (a b : Nat) (l : List Nat) : (s.record a b l).freeCount = s.freeCount := (records_record (Records.refl s)).freeCount
@[simp] theorem State.record_staged (s : State) (a b : Nat) (l : List Nat) : (s.record a b l).staged = s.staged := (records_record (Records.refl s)).staged
@[simp] theorem State.record_latched (s : State) (a b : Nat) (l : List Nat) : (s.record a b l).latched = s.latched := (records_record (Records.refl s)).latched
@[simp] theorem State.record_dram (s : State) (a b : Nat) (l : List Nat) : (s.record a b l).dram = s.dram := (records_record (Records.refl s)).dram
@[simp] theorem State.record_mem (s : State) (a b : Nat) (l : List Nat) : (s.record a b l).mem = s.mem := (records_record (Records.refl s)).mem
@[simp] theorem State.record_caddy (s : State) (a b : Nat) (l : List Nat) : (s.record a b l).caddy = s.caddy := (records_record (Records.refl s)).caddy
@[simp] theorem State.record_keys (s : State) (a b : Nat) (l : List Nat) : (s.record a b l).keys = s.keys := (records_record (Records.refl s)).keys
@[simp] theorem State.record_fabKeys (s : State) (a b : Nat) (l : List Nat) : (s.record a b l).fabKeys = s.fabKeys := (records_record (Records.refl s)).fabKeys
@[simp] theorem State.record_bays (s : State) (a b : Nat) (l : List Nat) : (s.record a b l).bays = s.bays := (records_record (Records.refl s)).bays
@[simp] theorem State.record_porter (s : State) (a b : Nat) (l : List Nat) : (s.record a b l).porter = s.porter := (records_record (Records.refl s)).porter
@[simp] theorem State.record_subs (s : State) (a b : Nat) (l : List Nat) : (s.record a b l).subs = s.subs := (records_record (Records.refl s)).subs
@[simp] theorem State.record_rcps (s : State) (a b : Nat) (l : List Nat) : (s.record a b l).rcps = s.rcps := (records_record (Records.refl s)).rcps
@[simp] theorem State.record_channels (s : State) (a b : Nat) (l : List Nat) : (s.record a b l).channels = s.channels := (records_record (Records.refl s)).channels
@[simp] theorem State.record_pcie (s : State) (a b : Nat) (l : List Nat) : (s.record a b l).pcie = s.pcie := (records_record (Records.refl s)).pcie
@[simp] theorem State.record_units (s : State) (a b : Nat) (l : List Nat) : (s.record a b l).units = s.units := (records_record (Records.refl s)).units
@[simp] theorem State.record_seqs (s : State) (a b : Nat) (l : List Nat) : (s.record a b l).seqs = s.seqs := (records_record (Records.refl s)).seqs
@[simp] theorem State.record_banks (s : State) (a b : Nat) (l : List Nat) : (s.record a b l).banks = s.banks := (records_record (Records.refl s)).banks
@[simp] theorem State.record_clusters (s : State) (a b : Nat) (l : List Nat) : (s.record a b l).clusters = s.clusters := (records_record (Records.refl s)).clusters
@[simp] theorem State.record_fab (s : State) (a b : Nat) (l : List Nat) : (s.record a b l).fab = s.fab := (records_record (Records.refl s)).fab
@[simp] theorem State.record_chain (s : State) (a b : Nat) (l : List Nat) : (s.record a b l).chain = s.chain := (records_record (Records.refl s)).chain
@[simp] theorem State.record_rtcS (s : State) (a b : Nat) (l : List Nat) : (s.record a b l).rtcS = s.rtcS := (records_record (Records.refl s)).rtcS
@[simp] theorem State.record_domPhase (s : State) (a b : Nat) (l : List Nat) : (s.record a b l).domPhase = s.domPhase := (records_record (Records.refl s)).domPhase
@[simp] theorem State.record_pendMode (s : State) (a b : Nat) (l : List Nat) : (s.record a b l).pendMode = s.pendMode := (records_record (Records.refl s)).pendMode
@[simp] theorem State.bay_record (s : State) (a b : Nat) (l : List Nat) (m : Nat) : (s.record a b l).bay m = s.bay m := by simp [State.bay]

theorem State.get_recordBay (s : State) (a b : Nat) (l : List Nat) (g : Field) (k : g.recorder = false) : (s.recordBay a b l).get g = s.get g := (records_recordBay (Records.refl s)).get g k
@[simp] theorem State.recordBay_pending (s : State) (a b : Nat) (l : List Nat) : (s.recordBay a b l).pending = s.pending := (records_recordBay (Records.refl s)).pending
@[simp] theorem State.recordBay_variant (s : State) (a b : Nat) (l : List Nat) : (s.recordBay a b l).variant = s.variant := (records_recordBay (Records.refl s)).variant
@[simp] theorem State.recordBay_stepping (s : State) (a b : Nat) (l : List Nat) : (s.recordBay a b l).stepping = s.stepping := (records_recordBay (Records.refl s)).stepping
@[simp] theorem State.recordBay_cycle (s : State) (a b : Nat) (l : List Nat) : (s.recordBay a b l).cycle = s.cycle := (records_recordBay (Records.refl s)).cycle
@[simp] theorem State.recordBay_freeCount (s : State) (a b : Nat) (l : List Nat) : (s.recordBay a b l).freeCount = s.freeCount := (records_recordBay (Records.refl s)).freeCount
@[simp] theorem State.recordBay_staged (s : State) (a b : Nat) (l : List Nat) : (s.recordBay a b l).staged = s.staged := (records_recordBay (Records.refl s)).staged
@[simp] theorem State.recordBay_latched (s : State) (a b : Nat) (l : List Nat) : (s.recordBay a b l).latched = s.latched := (records_recordBay (Records.refl s)).latched
@[simp] theorem State.recordBay_dram (s : State) (a b : Nat) (l : List Nat) : (s.recordBay a b l).dram = s.dram := (records_recordBay (Records.refl s)).dram
@[simp] theorem State.recordBay_mem (s : State) (a b : Nat) (l : List Nat) : (s.recordBay a b l).mem = s.mem := (records_recordBay (Records.refl s)).mem
@[simp] theorem State.recordBay_caddy (s : State) (a b : Nat) (l : List Nat) : (s.recordBay a b l).caddy = s.caddy := (records_recordBay (Records.refl s)).caddy
@[simp] theorem State.recordBay_keys (s : State) (a b : Nat) (l : List Nat) : (s.recordBay a b l).keys = s.keys := (records_recordBay (Records.refl s)).keys
@[simp] theorem State.recordBay_fabKeys (s : State) (a b : Nat) (l : List Nat) : (s.recordBay a b l).fabKeys = s.fabKeys := (records_recordBay (Records.refl s)).fabKeys
@[simp] theorem State.recordBay_bays (s : State) (a b : Nat) (l : List Nat) : (s.recordBay a b l).bays = s.bays := (records_recordBay (Records.refl s)).bays
@[simp] theorem State.recordBay_porter (s : State) (a b : Nat) (l : List Nat) : (s.recordBay a b l).porter = s.porter := (records_recordBay (Records.refl s)).porter
@[simp] theorem State.recordBay_subs (s : State) (a b : Nat) (l : List Nat) : (s.recordBay a b l).subs = s.subs := (records_recordBay (Records.refl s)).subs
@[simp] theorem State.recordBay_rcps (s : State) (a b : Nat) (l : List Nat) : (s.recordBay a b l).rcps = s.rcps := (records_recordBay (Records.refl s)).rcps
@[simp] theorem State.recordBay_channels (s : State) (a b : Nat) (l : List Nat) : (s.recordBay a b l).channels = s.channels := (records_recordBay (Records.refl s)).channels
@[simp] theorem State.recordBay_pcie (s : State) (a b : Nat) (l : List Nat) : (s.recordBay a b l).pcie = s.pcie := (records_recordBay (Records.refl s)).pcie
@[simp] theorem State.recordBay_units (s : State) (a b : Nat) (l : List Nat) : (s.recordBay a b l).units = s.units := (records_recordBay (Records.refl s)).units
@[simp] theorem State.recordBay_seqs (s : State) (a b : Nat) (l : List Nat) : (s.recordBay a b l).seqs = s.seqs := (records_recordBay (Records.refl s)).seqs
@[simp] theorem State.recordBay_banks (s : State) (a b : Nat) (l : List Nat) : (s.recordBay a b l).banks = s.banks := (records_recordBay (Records.refl s)).banks
@[simp] theorem State.recordBay_clusters (s : State) (a b : Nat) (l : List Nat) : (s.recordBay a b l).clusters = s.clusters := (records_recordBay (Records.refl s)).clusters
@[simp] theorem State.recordBay_fab (s : State) (a b : Nat) (l : List Nat) : (s.recordBay a b l).fab = s.fab := (records_recordBay (Records.refl s)).fab
@[simp] theorem State.recordBay_chain (s : State) (a b : Nat) (l : List Nat) : (s.recordBay a b l).chain = s.chain := (records_recordBay (Records.refl s)).chain
@[simp] theorem State.recordBay_rtcS (s : State) (a b : Nat) (l : List Nat) : (s.recordBay a b l).rtcS = s.rtcS := (records_recordBay (Records.refl s)).rtcS
@[simp] theorem State.recordBay_domPhase (s : State) (a b : Nat) (l : List Nat) : (s.recordBay a b l).domPhase = s.domPhase := (records_recordBay (Records.refl s)).domPhase
@[simp] theorem State.recordBay_pendMode (s : State) (a b : Nat) (l : List Nat) : (s.recordBay a b l).pendMode = s.pendMode := (records_recordBay (Records.refl s)).pendMode
@[simp] theorem State.bay_recordBay (s : State) (a b : Nat) (l : List Nat) (m : Nat) : (s.recordBay a b l).bay m = s.bay m := by simp [State.bay]

theorem State.get_recordFor (s : State) (a b c : Nat) (l : List Nat) (g : Field) (k : g.recorder = false) : (s.recordFor a b c l).get g = s.get g := (records_recordFor (Records.refl s)).get g k
@[simp] theorem State.recordFor_pending (s : State) (a b c : Nat) (l : List Nat) : (s.recordFor a b c l).pending = s.pending := (records_recordFor (Records.refl s)).pending
@[simp] theorem State.recordFor_variant (s : State) (a b c : Nat) (l : List Nat) : (s.recordFor a b c l).variant = s.variant := (records_recordFor (Records.refl s)).variant
@[simp] theorem State.recordFor_stepping (s : State) (a b c : Nat) (l : List Nat) : (s.recordFor a b c l).stepping = s.stepping := (records_recordFor (Records.refl s)).stepping
@[simp] theorem State.recordFor_cycle (s : State) (a b c : Nat) (l : List Nat) : (s.recordFor a b c l).cycle = s.cycle := (records_recordFor (Records.refl s)).cycle
@[simp] theorem State.recordFor_freeCount (s : State) (a b c : Nat) (l : List Nat) : (s.recordFor a b c l).freeCount = s.freeCount := (records_recordFor (Records.refl s)).freeCount
@[simp] theorem State.recordFor_staged (s : State) (a b c : Nat) (l : List Nat) : (s.recordFor a b c l).staged = s.staged := (records_recordFor (Records.refl s)).staged
@[simp] theorem State.recordFor_latched (s : State) (a b c : Nat) (l : List Nat) : (s.recordFor a b c l).latched = s.latched := (records_recordFor (Records.refl s)).latched
@[simp] theorem State.recordFor_dram (s : State) (a b c : Nat) (l : List Nat) : (s.recordFor a b c l).dram = s.dram := (records_recordFor (Records.refl s)).dram
@[simp] theorem State.recordFor_mem (s : State) (a b c : Nat) (l : List Nat) : (s.recordFor a b c l).mem = s.mem := (records_recordFor (Records.refl s)).mem
@[simp] theorem State.recordFor_caddy (s : State) (a b c : Nat) (l : List Nat) : (s.recordFor a b c l).caddy = s.caddy := (records_recordFor (Records.refl s)).caddy
@[simp] theorem State.recordFor_keys (s : State) (a b c : Nat) (l : List Nat) : (s.recordFor a b c l).keys = s.keys := (records_recordFor (Records.refl s)).keys
@[simp] theorem State.recordFor_fabKeys (s : State) (a b c : Nat) (l : List Nat) : (s.recordFor a b c l).fabKeys = s.fabKeys := (records_recordFor (Records.refl s)).fabKeys
@[simp] theorem State.recordFor_bays (s : State) (a b c : Nat) (l : List Nat) : (s.recordFor a b c l).bays = s.bays := (records_recordFor (Records.refl s)).bays
@[simp] theorem State.recordFor_porter (s : State) (a b c : Nat) (l : List Nat) : (s.recordFor a b c l).porter = s.porter := (records_recordFor (Records.refl s)).porter
@[simp] theorem State.recordFor_subs (s : State) (a b c : Nat) (l : List Nat) : (s.recordFor a b c l).subs = s.subs := (records_recordFor (Records.refl s)).subs
@[simp] theorem State.recordFor_rcps (s : State) (a b c : Nat) (l : List Nat) : (s.recordFor a b c l).rcps = s.rcps := (records_recordFor (Records.refl s)).rcps
@[simp] theorem State.recordFor_channels (s : State) (a b c : Nat) (l : List Nat) : (s.recordFor a b c l).channels = s.channels := (records_recordFor (Records.refl s)).channels
@[simp] theorem State.recordFor_pcie (s : State) (a b c : Nat) (l : List Nat) : (s.recordFor a b c l).pcie = s.pcie := (records_recordFor (Records.refl s)).pcie
@[simp] theorem State.recordFor_units (s : State) (a b c : Nat) (l : List Nat) : (s.recordFor a b c l).units = s.units := (records_recordFor (Records.refl s)).units
@[simp] theorem State.recordFor_seqs (s : State) (a b c : Nat) (l : List Nat) : (s.recordFor a b c l).seqs = s.seqs := (records_recordFor (Records.refl s)).seqs
@[simp] theorem State.recordFor_banks (s : State) (a b c : Nat) (l : List Nat) : (s.recordFor a b c l).banks = s.banks := (records_recordFor (Records.refl s)).banks
@[simp] theorem State.recordFor_clusters (s : State) (a b c : Nat) (l : List Nat) : (s.recordFor a b c l).clusters = s.clusters := (records_recordFor (Records.refl s)).clusters
@[simp] theorem State.recordFor_fab (s : State) (a b c : Nat) (l : List Nat) : (s.recordFor a b c l).fab = s.fab := (records_recordFor (Records.refl s)).fab
@[simp] theorem State.recordFor_chain (s : State) (a b c : Nat) (l : List Nat) : (s.recordFor a b c l).chain = s.chain := (records_recordFor (Records.refl s)).chain
@[simp] theorem State.recordFor_rtcS (s : State) (a b c : Nat) (l : List Nat) : (s.recordFor a b c l).rtcS = s.rtcS := (records_recordFor (Records.refl s)).rtcS
@[simp] theorem State.recordFor_domPhase (s : State) (a b c : Nat) (l : List Nat) : (s.recordFor a b c l).domPhase = s.domPhase := (records_recordFor (Records.refl s)).domPhase
@[simp] theorem State.recordFor_pendMode (s : State) (a b c : Nat) (l : List Nat) : (s.recordFor a b c l).pendMode = s.pendMode := (records_recordFor (Records.refl s)).pendMode
@[simp] theorem State.bay_recordFor (s : State) (a b c : Nat) (l : List Nat) (m : Nat) : (s.recordFor a b c l).bay m = s.bay m := by simp [State.bay]

end Sys2Proof.Machine
end

