-- ==== Sys2Proof/Laws/Keeps.lean ====
section
/-!
SUPPORT. What no operation of the model changes: the queue of commands, the part that the controller is, and the canonical form of its
stores.  `Keeps s t` says that `t` has come from `s` by such operations; the files beside this one say it of every operation.
-/

namespace Sys2Proof.Machine

/-- `t` has the queue and the part of `s`, and canonical stores if `s` has. -/
structure Keeps (s t : State) : Prop where
  pending   : t.pending = s.pending
  variant   : t.variant = s.variant
  stepping  : t.stepping = s.stepping
  canonical : s.canonical = true → t.canonical = true

/-- Every state that `R` finds in `x` keeps what `s` has. -/
structure Holds {β : Type} (R : β → State → Prop) (s : State) (x : β) : Prop where
  all : ∀ t, R x t → Keeps s t

/-- The state of a pair. -/
def inSnd {α : Type} (x : α × State) (t : State) : Prop := x.2 = t
/-- The state of a triple. -/
def inThird {α β : Type} (x : α × β × State) (t : State) : Prop := x.2.2 = t
/-- The state at the front of a pair. -/
def inFst {α : Type} (x : State × α) (t : State) : Prop := x.1 = t
/-- The state of an option. -/
def inSome (x : Option State) (t : State) : Prop := x = some t
/-- The state of an optional pair. -/
def inSomeSnd {α : Type} (x : Option (α × State)) (t : State) : Prop := ∃ a, x = some (a, t)
/-- The next state of an outcome. -/
def inNext (x : Host.Outcome State Fault Refusal) (t : State) : Prop := x = .next t

theorem Keeps.refl (s : State) : Keeps s s := ⟨rfl, rfl, rfl, id⟩

theorem Keeps.trans {s t u : State} (h : Keeps s t) (k : Keeps t u) : Keeps s u :=
  ⟨k.1.trans h.1, k.2.trans h.2, k.3.trans h.3, fun c => k.4 (h.4 c)⟩

variable {s0 s : State} {α β γ : Type}

/-- A record update that leaves queue, part, DRAM, luggage bank and register file alone. -/
theorem Keeps.update {pending variant stepping cycle freeCount regs staged latched out heldOut dram mem caddy keys fabKeys
    bays porter subs rcps channels pcie units seqs banks clusters fab chain ledger gtrc sup rtcS domPhase pendMode}
    (e1 : pending = s.pending) (e2 : variant = s.variant) (e3 : stepping = s.stepping) (e4 : dram = s.dram) (e5 : sup.bank = s.sup.bank)
    (e6 : regs = s.regs) (h : Keeps s0 s) :
    Keeps s0 (State.mk pending variant stepping cycle freeCount regs staged latched out heldOut dram mem caddy keys fabKeys
      bays porter subs rcps channels pcie units seqs banks clusters fab chain ledger gtrc sup rtcS domPhase pendMode) :=
  ⟨e1.trans h.1, e2.trans h.2, e3.trans h.3, fun c => by
    have := h.4 c
    simp only [State.canonical, e4, e5, e6] at this ⊢
    exact this⟩

/-- A record update that changes DRAM, the bank or the register file and keeps their form. -/
theorem Keeps.stores (h : Keeps s0 s) {t : State} (e1 : t.pending = s.pending) (e2 : t.variant = s.variant) (e3 : t.stepping = s.stepping)
    (e4 : Memory.wf s.dram = true → Memory.wf t.dram = true) (e5 : Memory.wf s.sup.bank = true → Memory.wf t.sup.bank = true)
    (e6 : s.regs.rising = true → t.regs.rising = true) : Keeps s0 t :=
  ⟨e1.trans h.1, e2.trans h.2, e3.trans h.3, fun c => by
    have := h.4 c
    simp only [State.canonical, Bool.and_eq_true] at this ⊢
    exact ⟨⟨e4 this.1.1, e5 this.1.2⟩, e6 this.2⟩⟩

theorem Keeps.ite {c : Prop} [Decidable c] {a b : State} (ha : Keeps s0 a) (hb : Keeps s0 b) : Keeps s0 (if c then a else b) := by
  split <;> assumption

theorem Keeps.foldl {l : List α} {f : State → α → State} (hf : ∀ t, Keeps s0 t → ∀ x, Keeps s0 (f t x)) (h : Keeps s0 s) :
    Keeps s0 (l.foldl f s) := by
  induction l generalizing s with
  | nil => exact h
  | cons x r ih => exact ih (hf s h x)

theorem Holds.ite {R : β → State → Prop} {c : Prop} [Decidable c] {a b : β} (ha : Holds R s0 a) (hb : Holds R s0 b) :
    Holds R s0 (if c then a else b) := by
  split <;> assumption

theorem Holds.pair {a : α} (h : Keeps s0 s) : Holds inSnd s0 (a, s) := ⟨fun _ e => e ▸ h⟩
theorem Holds.triple {a : α} {b : β} (h : Keeps s0 s) : Holds inThird s0 (a, b, s) := ⟨fun _ e => e ▸ h⟩
theorem Holds.front {a : α} (h : Keeps s0 s) : Holds inFst s0 (s, a) := ⟨fun _ e => e ▸ h⟩
theorem Holds.none : Holds inSome s0 Option.none := ⟨fun _ e => nomatch e⟩
theorem Holds.some (h : Keeps s0 s) : Holds inSome s0 (some s) := ⟨fun _ e => (Option.some.inj e) ▸ h⟩
theorem Holds.nonePair : Holds (inSomeSnd (α := α)) s0 Option.none := ⟨fun _ ⟨_, e⟩ => nomatch e⟩
theorem Holds.somePair {a : α} (h : Keeps s0 s) : Holds inSomeSnd s0 (Option.some (a, s)) :=
  ⟨fun _ ⟨_, e⟩ => (Prod.mk.inj (Option.some.inj e)).2 ▸ h⟩
theorem Holds.next (h : Keeps s0 s) : Holds inNext s0 (.next s) := ⟨fun _ e => (Host.Outcome.next.inj e) ▸ h⟩
theorem Holds.map {o : Option α} {f : α → β × State} (h : ∀ a, Holds inSnd s0 (f a)) : Holds inSomeSnd s0 (o.map f) :=
  ⟨fun t ⟨b, e⟩ => by
    cases o with
    | none => cases e
    | some a => exact (h a).1 t (by rw [Option.map_some] at e; rw [Option.some.inj e]; rfl)⟩
theorem Holds.mapSome {o : Option α} {f : α → State} (h : ∀ a, Keeps s0 (f a)) : Holds inSome s0 (o.map f) :=
  ⟨fun t e => by
    cases o with
    | none => cases e
    | some a => rw [Option.map_some] at e; exact (Option.some.inj e) ▸ h a⟩
theorem Holds.bindSome {o : Option α} {f : α → Option State} (h : ∀ a, Holds inSome s0 (f a)) : Holds inSome s0 (o.bind f) := by
  cases o with
  | none => exact Holds.none
  | some a => exact h a
theorem Keeps.getD {o : Option State} {d : State} (h : Holds inSome s0 o) (k : Keeps s0 d) : Keeps s0 (o.getD d) := by
  cases o with
  | none => exact k
  | some a => exact h.1 a rfl
theorem Holds.foldlPair {l : List γ} {f : α × State → γ → α × State} {p : α × State}
    (hf : ∀ p, Holds inSnd s0 p → ∀ x, Holds inSnd s0 (f p x)) (h : Holds inSnd s0 p) : Holds inSnd s0 (l.foldl f p) := by
  induction l generalizing p with
  | nil => exact h
  | cons x r ih => exact ih (hf p h x)

theorem Keeps.snd {p : α × State} (h : Holds inSnd s0 p) : Keeps s0 p.2 := h.1 _ rfl
theorem Keeps.third {p : α × β × State} (h : Holds inThird s0 p) : Keeps s0 p.2.2 := h.1 _ rfl
theorem Keeps.fst {p : State × α} (h : Holds inFst s0 p) : Keeps s0 p.1 := h.1 _ rfl
theorem Keeps.ofPair {p : α × State} {a : α} {t : State} (e : p = (a, t)) (h : Holds inSnd s0 p) : Keeps s0 t := h.1 _ (by rw [e]; rfl)
theorem Keeps.ofTriple {p : α × β × State} {a : α} {b : β} {t : State} (e : p = (a, b, t)) (h : Holds inThird s0 p) : Keeps s0 t :=
  h.1 _ (by rw [e]; rfl)
theorem Keeps.ofFront {p : State × α} {a : α} {t : State} (e : p = (t, a)) (h : Holds inFst s0 p) : Keeps s0 t := h.1 _ (by rw [e]; rfl)
theorem Keeps.ofSome {o : Option State} {t : State} (e : o = some t) (h : Holds inSome s0 o) : Keeps s0 t := h.1 _ e
theorem Keeps.ofSomePair {o : Option (α × State)} {a : α} {t : State} (e : o = some (a, t)) (h : Holds inSomeSnd s0 o) : Keeps s0 t :=
  h.1 _ ⟨a, e⟩
theorem Keeps.ofNext {o : Host.Outcome State Fault Refusal} {t : State} (e : o = .next t) (h : Holds inNext s0 o) : Keeps s0 t := h.1 _ e

end Sys2Proof.Machine
end

