-- ==== Sys2Proof/Laws/KeepsOps.lean ====
section
/-!
SUPPORT. Every operation of Ops.lean keeps the queue, the part and the canonical stores (Keeps.lean).
-/

namespace Sys2Proof.Machine

theorem keeps_put {s0 : State} {s : State} {a0} {a1} (h : Keeps s0 s) :
    Keeps s0 (State.put s a0 a1) := by
  exact Keeps.stores h rfl rfl rfl id id (Sparse.rising_put _ _ _)

theorem keeps_putB {s0 : State} {s : State} {a0} {a1} (h : Keeps s0 s) :
    Keeps s0 (State.putB s a0 a1) := by
  unfold State.putB
  repeat' (with_reducible first | exact h | apply keeps_put)

theorem keeps_raise {s0 : State} {s : State} {a0} (h : Keeps s0 s) :
    Keeps s0 (State.raise s a0) := by
  unfold State.raise
  repeat' (with_reducible first | exact h | apply keeps_put)

theorem keeps_zero {s0 : State} {s : State} {a0} (h : Keeps s0 s) :
    Keeps s0 (State.zero s a0) := by
  unfold State.zero
  repeat' (with_reducible first | exact h | apply keeps_put)

theorem keeps_putS {s0 : State} {s : State} {a0} {a1} (h : Keeps s0 s) :
    Keeps s0 (State.putS s a0 a1) := by
  unfold State.putS
  repeat' (with_reducible first | exact h | apply keeps_put)

theorem keeps_count {s0 : State} {s : State} {a0} {a1} (h : Keeps s0 s) :
    Keeps s0 (State.count s a0 a1) := by
  unfold State.count
  repeat' (with_reducible first | exact h | apply keeps_put)

theorem keeps_resetRegs {s0 : State} {s : State} {a0} {a1} (h : Keeps s0 s) :
    Keeps s0 (State.resetRegs s a0 a1) := by
  exact Keeps.stores h rfl rfl rfl id id (Sparse.rising_clear _ _ _)

theorem keeps_fresh {s0 : State} {s : State} {a0} (h : Keeps s0 s) :
    Holds inSnd s0 (State.fresh s a0) := by
  unfold State.fresh
  repeat' (with_reducible first | exact h | rfl | apply Holds.pair | apply Keeps.update)

theorem keeps_roundOpen {s0 : State} {s : State} {a0} {a1} (h : Keeps s0 s) :
    Holds inSnd s0 (State.roundOpen s a0 a1) := by
  unfold State.roundOpen
  repeat' first | (with_reducible first | exact h | apply keeps_fresh | apply Keeps.snd) | split | with_reducible apply Holds.pair

theorem keeps_emit {s0 : State} {s : State} {a0} (h : Keeps s0 s) :
    Keeps s0 (State.emit s a0) := by
  unfold State.emit
  repeat' (with_reducible first | exact h | rfl | apply Keeps.ite | apply Keeps.update)

theorem keeps_setBay {s0 : State} {s : State} {a0} {a1} (h : Keeps s0 s) :
    Keeps s0 (State.setBay s a0 a1) := by
  unfold State.setBay
  repeat' (with_reducible first | exact h | rfl | apply Keeps.update)

theorem keeps_trcKeep {s0 : State} {s : State} {a0} {a1} (h : Keeps s0 s) :
    Keeps s0 (State.trcKeep s a0 a1) := by
  unfold State.trcKeep
  repeat' first | (with_reducible first | exact h | apply keeps_put | rfl) | dsimp only | with_reducible apply Keeps.update

theorem keeps_trcStore {s0 : State} {s : State} {a0} (h : Keeps s0 s) :
    Keeps s0 (State.trcStore s a0) := by
  unfold State.trcStore
  repeat' first
    | (with_reducible first
      | exact h | apply keeps_trcKeep | apply keeps_zero | apply keeps_put | apply keeps_raise | rfl | apply Keeps.ite)
    | dsimp only | with_reducible apply Keeps.update

theorem keeps_trace {s0 : State} {s : State} {a0} {a1} {a2} {a3} {a4} {a5} (h : Keeps s0 s) :
    Keeps s0 (State.trace s a0 a1 a2 a3 a4 a5) := by
  unfold State.trace
  repeat' first
    | (with_reducible first | exact h | apply keeps_trcStore | apply keeps_count | rfl | apply Keeps.ite) | dsimp only
    | with_reducible apply Keeps.update

theorem keeps_pbaSet {s0 : State} {s : State} {a0} {a1} (h : Keeps s0 s) :
    Keeps s0 (State.pbaSet s a0 a1) := by
  unfold State.pbaSet
  repeat' (with_reducible first | exact h | apply keeps_put)

theorem keeps_sendMsix {s0 : State} {s : State} {a0} (h : Keeps s0 s) :
    Keeps s0 (State.sendMsix s a0) := by
  unfold State.sendMsix
  repeat' (with_reducible first | exact h | apply keeps_emit)

theorem keeps_signal {s0 : State} {s : State} {a0} (h : Keeps s0 s) :
    Keeps s0 (State.signal s a0) := by
  unfold State.signal
  repeat' (with_reducible first | exact h | apply keeps_pbaSet | apply keeps_sendMsix | apply Keeps.ite)

theorem keeps_lugStore {s0 : State} {s : State} {a0} {a1} (h : Keeps s0 s) :
    Keeps s0 (State.lugStore s a0 a1) := by
  exact Keeps.stores h rfl rfl rfl id (Sparse.wf_putAll 0 _ _ _) id

theorem keeps_lugWrite {s0 : State} {s : State} {a0} {a1} (h : Keeps s0 s) :
    Keeps s0 (State.lugWrite s a0 a1) := by
  unfold State.lugWrite
  repeat' first
    | (with_reducible first | exact h | apply keeps_zero | apply keeps_lugStore | rfl | apply Keeps.ite) | dsimp only
    | with_reducible apply Keeps.update

theorem keeps_sealStart {s0 : State} {s : State} (h : Keeps s0 s) :
    Keeps s0 (State.sealStart s) := by
  unfold State.sealStart
  repeat' first
    | (with_reducible first | exact h | apply keeps_lugStore | rfl | apply Keeps.ite) | dsimp only
    | with_reducible apply Keeps.update

theorem keeps_setLedger {s0 : State} {s : State} {a0} (h : Keeps s0 s) :
    Keeps s0 (State.setLedger s a0) := by
  unfold State.setLedger
  repeat' (with_reducible first | exact h | rfl | apply Keeps.update)

theorem keeps_ledgerStat {s0 : State} {s : State} (h : Keeps s0 s) :
    Keeps s0 (State.ledgerStat s) := by
  unfold State.ledgerStat
  repeat' (with_reducible first | exact h | apply keeps_putB | apply keeps_put)

theorem keeps_tailWrite {s0 : State} {s : State} {a0} (h : Keeps s0 s) :
    Keeps s0 (State.tailWrite s a0) := by
  unfold State.tailWrite
  repeat' (with_reducible first | exact h | apply keeps_lugWrite | apply Keeps.ite)

theorem keeps_ringWrite {s0 : State} {s : State} {a0} (h : Keeps s0 s) :
    Keeps s0 (State.ringWrite s a0) := by
  unfold State.ringWrite
  repeat' (with_reducible first
    | exact h | apply keeps_emit | apply keeps_put | apply keeps_zero | apply keeps_signal | apply keeps_tailWrite
    | apply Keeps.ite)

theorem keeps_nextRecord {s0 : State} {s : State} {a0} (h : Keeps s0 s) :
    Holds inSnd s0 (State.nextRecord s a0) := by
  unfold State.nextRecord
  repeat' first | (with_reducible first | exact h | apply keeps_put) | dsimp only | with_reducible apply Holds.pair

theorem keeps_earlyPut {s0 : State} {s : State} {a0} (h : Keeps s0 s) :
    Keeps s0 (State.earlyPut s a0) := by
  unfold State.earlyPut
  repeat' (with_reducible first
    | exact h | apply keeps_nextRecord | apply keeps_setLedger | apply keeps_raise | apply Keeps.ite | apply Keeps.snd)

theorem keeps_writerTake {s0 : State} {s : State} {a0} (h : Keeps s0 s) :
    Keeps s0 (State.writerTake s a0) := by
  unfold State.writerTake
  repeat' (with_reducible first
    | exact h | apply keeps_nextRecord | apply keeps_ringWrite | apply keeps_earlyPut | apply keeps_setLedger | apply Keeps.ite
    | apply Keeps.snd)

theorem keeps_writerOrdinary {s0 : State} {s : State} {a0} (h : Keeps s0 s) :
    Keeps s0 (State.writerOrdinary s a0) := by
  unfold State.writerOrdinary
  repeat' (with_reducible first | exact h | apply keeps_writerTake | apply keeps_setLedger | apply Keeps.ite)

theorem keeps_ledgerPump {s0 : State} {s : State} (h : Keeps s0 s) :
    Keeps s0 (State.ledgerPump s) := by
  unfold State.ledgerPump
  repeat' first
    | (with_reducible first
      | exact h | apply keeps_ringWrite | apply keeps_setLedger | apply keeps_writerTake | apply keeps_writerOrdinary
      | apply Keeps.ite)
    | dsimp only | split

theorem keeps_countDrop {s0 : State} {s : State} {a0} {a1} {a2} (h : Keeps s0 s) :
    Keeps s0 (State.countDrop s a0 a1 a2) := by
  unfold State.countDrop
  repeat' (with_reducible first | exact h | apply keeps_raise | apply keeps_count | apply keeps_setLedger)

theorem keeps_dropRecord {s0 : State} {s : State} {a0} (h : Keeps s0 s) :
    Keeps s0 (State.dropRecord s a0) := by
  unfold State.dropRecord
  repeat' (with_reducible first | exact h | apply keeps_nextRecord | apply keeps_tailWrite | apply Keeps.snd)

theorem keeps_offer {s0 : State} {s : State} {a0} (h : Keeps s0 s) :
    Keeps s0 (State.offer s a0) := by
  unfold State.offer
  repeat' (with_reducible first
    | exact h | apply keeps_trace | apply keeps_writerTake | apply keeps_setLedger | apply keeps_dropRecord
    | apply keeps_countDrop | apply keeps_writerOrdinary | apply keeps_count | apply keeps_ledgerStat | apply Keeps.ite)

theorem keeps_writerFree {s0 : State} {s : State} (h : Keeps s0 s) :
    Keeps s0 (State.writerFree s) := by
  unfold State.writerFree
  repeat' (with_reducible first | exact h | apply keeps_ledgerStat | apply keeps_ledgerPump | apply keeps_setLedger)

theorem keeps_drainSafety {s0 : State} {a0} {s : State} (h : Keeps s0 s) :
    Keeps s0 (State.drainSafety a0 s) := by
  induction a0 generalizing s with
  | zero =>
    unfold State.drainSafety
    repeat' with_reducible exact h
  | succ k ih =>
    unfold State.drainSafety
    repeat' (with_reducible first | exact h | apply ih | apply keeps_writerFree | apply Keeps.ite)

theorem keeps_recordCls {s0 : State} {s : State} {a0} {a1} {a2} {a3} {a4} (h : Keeps s0 s) :
    Keeps s0 (State.recordCls s a0 a1 a2 a3 a4) := by
  unfold State.recordCls
  repeat' (with_reducible first | exact h | apply keeps_offer)

theorem keeps_record {s0 : State} {s : State} {a0} {a1} {a2} (h : Keeps s0 s) :
    Keeps s0 (State.record s a0 a1 a2) := by
  unfold State.record
  repeat' (with_reducible first | exact h | apply keeps_recordCls)

theorem keeps_recordBay {s0 : State} {s : State} {a0} {a1} {a2} (h : Keeps s0 s) :
    Keeps s0 (State.recordBay s a0 a1 a2) := by
  unfold State.recordBay
  repeat' (with_reducible first | exact h | apply keeps_recordCls)

theorem keeps_recordFor {s0 : State} {s : State} {a0} {a1} {a2} {a3} (h : Keeps s0 s) :
    Keeps s0 (State.recordFor s a0 a1 a2 a3) := by
  unfold State.recordFor
  repeat' (with_reducible first | exact h | apply keeps_recordCls)

end Sys2Proof.Machine
end

