-- ==== Sys2Proof/Laws/KeepsSeqOps.lean ====
section
/-!
SUPPORT. Every operation of SeqOps.lean keeps the queue, the part and the canonical stores (Keeps.lean).
-/

namespace Sys2Proof.Machine

theorem keeps_onSeq {s0 : State} {s : State} {a0} {a1} (h : Keeps s0 s) :
    Keeps s0 (State.onSeq s a0 a1) := by
  unfold State.onSeq
  repeat' (with_reducible first | exact h | rfl | apply Keeps.update)

theorem keeps_onBank {s0 : State} {s : State} {a0} {a1} {a2} (h : Keeps s0 s) :
    Keeps s0 (State.onBank s a0 a1 a2) := by
  unfold State.onBank
  repeat' (with_reducible first | exact h | rfl | apply Keeps.update)

theorem keeps_onCluster {s0 : State} {s : State} {a0} {a1} (h : Keeps s0 s) :
    Keeps s0 (State.onCluster s a0 a1) := by
  unfold State.onCluster
  repeat' (with_reducible first | exact h | rfl | apply Keeps.update)

theorem keeps_attend {s0 : State} {s : State} {a0} (h : Keeps s0 s) :
    Keeps s0 (State.attend s a0) := by
  unfold State.attend
  repeat' (with_reducible first | exact h | apply keeps_setBay)

theorem keeps_csUpdate {s0 : State} {s : State} {a0} {a1} {a2} {a3} (h : Keeps s0 s) :
    Keeps s0 (State.csUpdate s a0 a1 a2 a3) := by
  unfold State.csUpdate
  repeat' (with_reducible first | exact h | apply keeps_record)

theorem keeps_setBank {s0 : State} {s : State} {a0} {a1} {a2} {a3} (h : Keeps s0 s) :
    Keeps s0 (State.setBank s a0 a1 a2 a3) := by
  unfold State.setBank
  repeat' (with_reducible first | exact h | apply keeps_csUpdate | apply keeps_put)

theorem keeps_setStage {s0 : State} {s : State} {a0} {a1} {a2} (h : Keeps s0 s) :
    Keeps s0 (State.setStage s a0 a1 a2) := by
  unfold State.setStage
  repeat' (with_reducible first | exact h | apply keeps_csUpdate | apply keeps_put)

theorem keeps_updStep {s0 : State} {s : State} {a0} (h : Keeps s0 s) :
    Keeps s0 (State.updStep s a0) := by
  unfold State.updStep
  repeat' (with_reducible first | exact h | apply keeps_setStage | apply keeps_raise | apply Keeps.ite)

theorem keeps_applySwitch {s0 : State} {s : State} {a0} (h : Keeps s0 s) :
    Keeps s0 (State.applySwitch s a0) := by
  unfold State.applySwitch
  repeat' first
    | (with_reducible first | exact h | apply keeps_onSeq | apply keeps_put | apply keeps_updStep) | dsimp only | split

theorem keeps_askSwitch {s0 : State} {s : State} {a0} {a1} (h : Keeps s0 s) :
    Keeps s0 (State.askSwitch s a0 a1) := by
  unfold State.askSwitch
  repeat' (with_reducible first | exact h | apply keeps_onSeq | apply keeps_applySwitch | apply Keeps.ite)

theorem keeps_giveUp {s0 : State} {s : State} {a0} (h : Keeps s0 s) :
    Keeps s0 (State.giveUp s a0) := by
  unfold State.giveUp
  repeat' first
    | intro _
    | (with_reducible first
      | exact h | assumption | apply keeps_setBay | apply Keeps.ite | apply Keeps.foldl)
    | dsimp only | split

theorem keeps_takeBays {s0 : State} {s : State} {a0} (h : Keeps s0 s) :
    Keeps s0 (State.takeBays s a0) := by
  unfold State.takeBays
  repeat' first
    | intro _
    | (with_reducible first
      | exact h | assumption | apply keeps_zero | apply keeps_put | apply keeps_setBay | apply keeps_recordBay | apply Keeps.ite
      | apply Keeps.foldl)
    | dsimp only | split

theorem keeps_idleBoundary {s0 : State} {s : State} {a0} (h : Keeps s0 s) :
    Keeps s0 (State.idleBoundary s a0) := by
  unfold State.idleBoundary
  repeat' (with_reducible first | exact h | apply keeps_takeBays | apply keeps_giveUp | apply keeps_applySwitch)

theorem keeps_dropSeqRequest {s0 : State} {s : State} {a0} (h : Keeps s0 s) :
    Keeps s0 (State.dropSeqRequest s a0) := by
  unfold State.dropSeqRequest
  repeat' first | (with_reducible first | exact h | apply keeps_put | rfl) | dsimp only | with_reducible apply Keeps.update

theorem keeps_seqLeaves {s0 : State} {s : State} {a0} (h : Keeps s0 s) :
    Keeps s0 (State.seqLeaves s a0) := by
  unfold State.seqLeaves
  repeat' (with_reducible first | exact h | apply keeps_giveUp | apply keeps_applySwitch)

theorem keeps_holdSeq {s0 : State} {s : State} {a0} (h : Keeps s0 s) :
    Keeps s0 (State.holdSeq s a0) := by
  unfold State.holdSeq
  repeat' first
    | intro _
    | (with_reducible first
      | exact h | assumption | apply keeps_zero | apply keeps_put | apply keeps_seqLeaves | apply keeps_dropSeqRequest
      | apply keeps_onSeq | apply Keeps.foldl)

theorem keeps_holdAllSeqs {s0 : State} {s : State} (h : Keeps s0 s) :
    Keeps s0 (State.holdAllSeqs s) := by
  unfold State.holdAllSeqs
  repeat' first | intro _ | (with_reducible first | exact h | assumption | apply keeps_holdSeq | apply Keeps.foldl)

theorem keeps_resumeStopped {s0 : State} {s : State} (h : Keeps s0 s) :
    Keeps s0 (State.resumeStopped s) := by
  unfold State.resumeStopped
  repeat' first | intro _ | (with_reducible first | exact h | assumption | apply keeps_put | apply Keeps.ite | apply Keeps.foldl)

theorem keeps_clusterOn {s0 : State} {s : State} {a0} {a1} (h : Keeps s0 s) :
    Keeps s0 (State.clusterOn s a0 a1) := by
  unfold State.clusterOn
  repeat' first
    | intro _
    | (with_reducible first
      | exact h | assumption | apply keeps_holdSeq | apply keeps_resetRegs | apply keeps_onBank | apply keeps_onCluster
      | apply keeps_zero | apply Keeps.ite | apply Keeps.foldl)

theorem keeps_trapRecord {s0 : State} {s : State} {a0} {a1} {a2} {a3} (h : Keeps s0 s) :
    Keeps s0 (State.trapRecord s a0 a1 a2 a3) := by
  unfold State.trapRecord
  repeat' (with_reducible first | exact h | apply keeps_record | apply keeps_count | apply keeps_put)

theorem keeps_hookFaultRecord {s0 : State} {s : State} {a0} {a1} {a2} (h : Keeps s0 s) :
    Keeps s0 (State.hookFaultRecord s a0 a1 a2) := by
  unfold State.hookFaultRecord
  repeat' (with_reducible first | exact h | apply keeps_record | apply keeps_count)

theorem keeps_hookOverride {s0 : State} {s : State} {a0} {a1} {a2} {a3} (h : Keeps s0 s) :
    Keeps s0 (State.hookOverride s a0 a1 a2 a3) := by
  unfold State.hookOverride
  repeat' (with_reducible first | exact h | apply keeps_record)

theorem keeps_callHook {s0 : State} {s : State} {a0} {a1} (h : Keeps s0 s) :
    Holds inSnd s0 (State.callHook s a0 a1) := by
  unfold State.callHook
  repeat' first
    | (with_reducible first
      | exact h | apply keeps_fresh | apply keeps_hookFaultRecord | apply keeps_trapRecord | apply Holds.ite | apply Keeps.snd)
    | dsimp only | split | with_reducible apply Holds.pair

end Sys2Proof.Machine
end

