-- ==== Sys2Proof/Laws/KeepsCrypto.lean ====
section
/-!
SUPPORT. Every operation of Crypto.lean keeps the queue, the part and the canonical stores (Keeps.lean).
-/

namespace Sys2Proof.Machine

theorem keeps_keyShow {s0 : State} {s : State} (h : Keeps s0 s) :
    Keeps s0 (State.keyShow s) := by
  unfold State.keyShow
  repeat' (with_reducible first | exact h | apply keeps_put | apply keeps_putB)

theorem keeps_zeroKeyData {s0 : State} {s : State} (h : Keeps s0 s) :
    Keeps s0 (State.zeroKeyData s) := by
  unfold State.zeroKeyData
  repeat' first | intro _ | (with_reducible first | exact h | assumption | apply keeps_zero | apply Keeps.foldl)

theorem keeps_keyRefuse {s0 : State} {s : State} (h : Keeps s0 s) :
    Keeps s0 (State.keyRefuse s) := by
  unfold State.keyRefuse
  repeat' (with_reducible first | exact h | apply keeps_raise | apply keeps_zeroKeyData)

theorem keeps_clearSecrets {s0 : State} {s : State} {a0} (h : Keeps s0 s) :
    Keeps s0 (State.clearSecrets s a0) := by
  unfold State.clearSecrets
  repeat' first
    | (with_reducible first
      | exact h | apply keeps_zero | apply keeps_zeroKeyData | apply keeps_put | apply keeps_raise | apply keeps_keyShow
      | apply keeps_record | rfl | apply Keeps.ite)
    | dsimp only | with_reducible apply Keeps.update

theorem keeps_execKeyLoad {s0 : State} {s : State} (h : Keeps s0 s) :
    Holds inNext s0 (execKeyLoad s) := by
  unfold execKeyLoad
  repeat' first
    | (with_reducible first
      | exact h | apply keeps_keyRefuse | apply keeps_keyShow | apply keeps_zeroKeyData | rfl | apply Holds.ite
      | apply Holds.next)
    | dsimp only | with_reducible apply Keeps.update

theorem keeps_execKeyClear {s0 : State} {s : State} (h : Keeps s0 s) :
    Holds inNext s0 (execKeyClear s) := by
  unfold execKeyClear
  repeat' (with_reducible first
    | exact h | apply keeps_keyRefuse | apply keeps_keyShow | rfl | apply Holds.ite | apply Holds.next | apply Keeps.update)

theorem keeps_execKeyClearAll {s0 : State} {s : State} (h : Keeps s0 s) :
    Holds inNext s0 (execKeyClearAll s) := by
  unfold execKeyClearAll
  repeat' (with_reducible first | exact h | apply keeps_keyRefuse | apply keeps_clearSecrets | apply Holds.ite | apply Holds.next)

theorem keeps_writeFix {s0 : State} {s : State} {a0} {a1} (h : Keeps s0 s) :
    Keeps s0 (State.writeFix s a0 a1) := by
  unfold State.writeFix
  repeat' (with_reducible first | exact h | apply keeps_count | apply keeps_emit)

end Sys2Proof.Machine
end

