-- ==== Sys2Proof/Laws/KeepsFabOps.lean ====
section
/-!
SUPPORT. Every operation of FabOps.lean keeps the queue, the part and the canonical stores (Keeps.lean).
-/

namespace Sys2Proof.Machine

theorem keeps_onChain {s0 : State} {s : State} {a0} (h : Keeps s0 s) :
    Keeps s0 (State.onChain s a0) := by
  unfold State.onChain
  repeat' (with_reducible first | exact h | rfl | apply Keeps.update)

theorem keeps_chainOut {s0 : State} {s : State} {a0} {a1} (h : Keeps s0 s) :
    Keeps s0 (State.chainOut s a0 a1) := by
  unfold State.chainOut
  repeat' (with_reducible first | exact h | apply keeps_emit)

theorem keeps_chainSend {s0 : State} {s : State} {a0} {a1} (h : Keeps s0 s) :
    Keeps s0 (State.chainSend s a0 a1) := by
  unfold State.chainSend
  repeat' (with_reducible first | exact h | apply keeps_chainOut | apply keeps_onChain | apply Keeps.ite)

theorem keeps_alert {s0 : State} {s : State} {a0} {a1} (h : Keeps s0 s) :
    Keeps s0 (State.alert s a0 a1) := by
  unfold State.alert
  repeat' (with_reducible first | exact h | apply keeps_chainSend | apply keeps_onChain | apply Keeps.ite)

theorem keeps_onFab {s0 : State} {s : State} {a0} (h : Keeps s0 s) :
    Keeps s0 (State.onFab s a0) := by
  unfold State.onFab
  repeat' (with_reducible first | exact h | rfl | apply Keeps.update)

theorem keeps_portEmit {s0 : State} {s : State} {a0} {a1} (h : Keeps s0 s) :
    Keeps s0 (State.portEmit s a0 a1) := by
  unfold State.portEmit
  repeat' (with_reducible first | exact h | apply keeps_onFab | apply keeps_emit | apply Keeps.ite)

theorem keeps_fabSend {s0 : State} {s : State} {a0} {a1} {a2} {a3} {a4} {a5} {a6} {a7} {a8} (h : Keeps s0 s) :
    Keeps s0 (State.fabSend s a0 a1 a2 a3 a4 a5 a6 a7 a8) := by
  unfold State.fabSend
  repeat' first
    | (with_reducible first
      | exact h | apply keeps_fresh | apply keeps_count | apply keeps_portEmit | apply Holds.ite | apply Keeps.snd)
    | dsimp only | split | with_reducible apply Holds.pair

theorem keeps_setXfer {s0 : State} {s : State} {a0} (h : Keeps s0 s) :
    Keeps s0 (State.setXfer s a0) := by
  unfold State.setXfer
  repeat' (with_reducible first | exact h | apply keeps_onFab)

theorem keeps_showXfers {s0 : State} {s : State} (h : Keeps s0 s) :
    Keeps s0 (State.showXfers s) := by
  unfold State.showXfers
  repeat' (with_reducible first | exact h | apply keeps_put)

theorem keeps_fabControl {s0 : State} {s : State} {a0} {a1} {a2} (h : Keeps s0 s) :
    Keeps s0 (State.fabControl s a0 a1 a2) := by
  unfold State.fabControl
  repeat' (with_reducible first | exact h | apply keeps_fabSend | apply keeps_setXfer | apply Keeps.ite)

theorem keeps_sendOpen {s0 : State} {s : State} {a0} (h : Keeps s0 s) :
    Keeps s0 (State.sendOpen s a0) := by
  unfold State.sendOpen
  repeat' (with_reducible first | exact h | apply keeps_fabControl)

theorem keeps_dropXfer {s0 : State} {s : State} {a0} (h : Keeps s0 s) :
    Keeps s0 (State.dropXfer s a0) := by
  unfold State.dropXfer
  repeat' first
    | (with_reducible first
      | exact h | apply keeps_onFab | apply keeps_sendOpen | apply keeps_setXfer | apply keeps_showXfers | apply Keeps.ite)
    | split

theorem keeps_abortXfer {s0 : State} {s : State} {a0} {a1} (h : Keeps s0 s) :
    Keeps s0 (State.abortXfer s a0 a1) := by
  unfold State.abortXfer
  repeat' (with_reducible first | exact h | apply keeps_dropXfer | apply keeps_fabControl | apply Keeps.ite)

theorem keeps_endXfers {s0 : State} {s : State} {a0} (h : Keeps s0 s) :
    Keeps s0 (State.endXfers s a0) := by
  unfold State.endXfers
  repeat' first | intro _ | (with_reducible first | exact h | assumption | apply keeps_abortXfer | apply Keeps.foldl)

end Sys2Proof.Machine
end

