-- ==== Sys2Proof/Laws/KeepsCommands.lean ====
section
/-!
SUPPORT. Every operation of Commands.lean keeps the queue, the part and the canonical stores (Keeps.lean).
-/

namespace Sys2Proof.Machine

theorem keeps_unreserve {s0 : State} {s : State} {a0} {a1} (h : Keeps s0 s) :
    Keeps s0 (State.unreserve s a0 a1) := by
  unfold State.unreserve
  repeat' (with_reducible first | exact h | apply keeps_put)

theorem keeps_drainRing {s0 : State} {s : State} {a0} (h : Keeps s0 s) :
    Keeps s0 (State.drainRing s a0) := by
  unfold State.drainRing
  repeat' (with_reducible first | exact h | apply keeps_zero | apply Keeps.ite)

theorem keeps_queueReceipt {s0 : State} {s : State} {a0} (h : Keeps s0 s) :
    Keeps s0 (State.queueReceipt s a0) := by
  unfold State.queueReceipt
  repeat' first | (with_reducible first | exact h | rfl) | dsimp only | with_reducible apply Keeps.update

theorem keeps_formReceipt {s0 : State} {s : State} {a0} {a1} {a2} {a3} {a4} (h : Keeps s0 s) :
    Keeps s0 (State.formReceipt s a0 a1 a2 a3 a4) := by
  unfold State.formReceipt
  repeat' (with_reducible first | exact h | apply keeps_queueReceipt)

theorem keeps_finalReceipt {s0 : State} {s : State} {a0} {a1} {a2} {a3} (h : Keeps s0 s) :
    Keeps s0 (State.finalReceipt s a0 a1 a2 a3) := by
  unfold State.finalReceipt
  repeat' (with_reducible first
    | exact h | apply keeps_drainRing | apply keeps_unreserve | apply keeps_formReceipt | apply Keeps.ite)

theorem keeps_refuse {s0 : State} {s : State} {a0} {a1} (h : Keeps s0 s) :
    Keeps s0 (State.refuse s a0 a1) := by
  unfold State.refuse
  repeat' (with_reducible first | exact h | apply keeps_finalReceipt)

theorem keeps_hostPut {s0 : State} {s : State} {a0} {a1} (h : Keeps s0 s) :
    Keeps s0 (State.hostPut s a0 a1) := by
  induction a0 generalizing s a1 with
  | nil =>
    unfold State.hostPut
    repeat' with_reducible exact h
  | cons x r ih =>
    unfold State.hostPut
    repeat' (with_reducible first | exact h | apply ih | apply keeps_emit)

theorem keeps_hostGet {s0 : State} {s : State} {a0} {a1} (h : Keeps s0 s) :
    Keeps s0 (State.hostGet s a0 a1) := by
  unfold State.hostGet
  repeat' first | intro _ | (with_reducible first | exact h | assumption | apply keeps_emit | apply Keeps.foldl)

theorem keeps_deliverItem {s0 : State} {s : State} {a0} {a1} {a2} {a3} (h : Keeps s0 s) :
    Keeps s0 (State.deliverItem s a0 a1 a2 a3) := by
  unfold State.deliverItem
  repeat' (with_reducible first | exact h | apply keeps_onFab | apply keeps_hostPut | apply Keeps.ite)

theorem keeps_deliver {s0 : State} {a0} {a1} {a2} {a3} {s : State} (h : Keeps s0 s) :
    Holds inSnd s0 (State.deliver a0 a1 a2 a3 s) := by
  induction a2 generalizing a0 a1 a3 s with
  | zero =>
    unfold State.deliver
    repeat' (with_reducible first | exact h | apply Holds.pair)
  | succ k ih =>
    unfold State.deliver
    repeat' first
      | (with_reducible first | exact h | apply ih | apply keeps_deliverItem | apply Holds.ite) | split
      | with_reducible apply Holds.pair

theorem keeps_report {s0 : State} {s : State} {a0} {a1} (h : Keeps s0 s) :
    Holds inSnd s0 (State.report s a0 a1) := by
  unfold State.report
  repeat' first
    | intro _
    | (with_reducible first
      | exact h | assumption | apply keeps_emit | apply Keeps.foldl | apply Holds.ite)
    | dsimp only | with_reducible apply Holds.pair

theorem keeps_settleRead {s0 : State} {s : State} {a0} {a1} {a2} (h : Keeps s0 s) :
    Holds inSnd s0 (State.settleRead s a0 a1 a2) := by
  unfold State.settleRead
  repeat' (with_reducible first
    | exact h | apply keeps_deliver | apply keeps_report | apply Holds.ite | apply Keeps.snd | apply Holds.pair)

theorem keeps_setTag {s0 : State} {s : State} {a0} {a1} (h : Keeps s0 s) :
    Keeps s0 (State.setTag s a0 a1) := by
  unfold State.setTag
  repeat' (with_reducible first | exact h | apply keeps_setBay)

theorem keeps_dropTag {s0 : State} {s : State} {a0} {a1} {a2} (h : Keeps s0 s) :
    Keeps s0 (State.dropTag s a0 a1 a2) := by
  unfold State.dropTag
  repeat' (with_reducible first | exact h | apply keeps_setBay)

theorem keeps_endTagAt {s0 : State} {s : State} {a0} {a1} {a2} {a3} {a4} (h : Keeps s0 s) :
    Keeps s0 (State.endTagAt s a0 a1 a2 a3 a4) := by
  unfold State.endTagAt
  repeat' (with_reducible first
    | exact h | apply keeps_settleRead | apply keeps_endXfers | apply keeps_dropTag | apply keeps_finalReceipt | apply keeps_put
    | apply Keeps.snd)

theorem keeps_endTag {s0 : State} {s : State} {a0} {a1} {a2} (h : Keeps s0 s) :
    Keeps s0 (State.endTag s a0 a1 a2) := by
  unfold State.endTag
  repeat' (with_reducible first | exact h | apply keeps_endTagAt)

theorem keeps_endTagNatural {s0 : State} {s : State} {a0} {a1} (h : Keeps s0 s) :
    Keeps s0 (State.endTagNatural s a0 a1) := by
  unfold State.endTagNatural
  repeat' (with_reducible first | exact h | apply keeps_endTag)

theorem keeps_endAllTags {s0 : State} {s : State} {a0} {a1} (h : Keeps s0 s) :
    Keeps s0 (State.endAllTags s a0 a1) := by
  unfold State.endAllTags
  repeat' first | intro _ | (with_reducible first | exact h | assumption | apply keeps_endTag | apply Keeps.foldl)

theorem keeps_refuseQueued {s0 : State} {s : State} {a0} {a1} (h : Keeps s0 s) :
    Keeps s0 (State.refuseQueued s a0 a1) := by
  unfold State.refuseQueued
  repeat' first
    | intro _
    | (with_reducible first
      | exact h | assumption | apply keeps_refuse | apply keeps_setBay | apply Keeps.foldl)

theorem keeps_setUnit {s0 : State} {s : State} {a0} (h : Keeps s0 s) :
    Keeps s0 (State.setUnit s a0) := by
  unfold State.setUnit
  repeat' (with_reducible first | exact h | rfl | apply Keeps.update)

theorem keeps_stripeShow {s0 : State} {s : State} (h : Keeps s0 s) :
    Keeps s0 (State.stripeShow s) := by
  unfold State.stripeShow
  repeat' (with_reducible first | exact h | apply keeps_put | apply keeps_putB)

theorem keeps_endUnit {s0 : State} {s : State} {a0} {a1} {a2} {a3} (h : Keeps s0 s) :
    Keeps s0 (State.endUnit s a0 a1 a2 a3) := by
  unfold State.endUnit
  repeat' (with_reducible first
    | exact h | apply keeps_finalReceipt | apply keeps_stripeShow | apply keeps_endXfers | rfl | apply Keeps.update)

end Sys2Proof.Machine
end

