-- ==== Sys2Proof/Laws/KeepsMotion.lean ====
section
/-!
SUPPORT. Every operation of Motion.lean keeps the queue, the part and the canonical stores (Keeps.lean).
-/

namespace Sys2Proof.Machine

theorem keeps_send {s0 : State} {s : State} {a0} {a1} {a2} {a3} (h : Keeps s0 s) :
    Keeps s0 (State.send s a0 a1 a2 a3) := by
  unfold State.send
  repeat' (with_reducible first | exact h | apply keeps_emit | apply keeps_setBay | apply Keeps.ite)

theorem keeps_setStepper {s0 : State} {s : State} {a0} {a1} {a2} (h : Keeps s0 s) :
    Keeps s0 (State.setStepper s a0 a1 a2) := by
  unfold State.setStepper
  repeat' (with_reducible first | exact h | apply keeps_setBay)

theorem keeps_planPos {s0 : State} {s : State} {a0} {a1} (h : Keeps s0 s) :
    Holds inSnd s0 (State.planPos s a0 a1) := by
  unfold State.planPos
  repeat' (with_reducible first | exact h | apply keeps_roundOpen | apply Holds.ite | apply Keeps.snd | apply Holds.pair)

theorem keeps_stepFrameAt {s0 : State} {s : State} {a0} {a1} {a2} (h : Keeps s0 s) :
    Keeps s0 (State.stepFrameAt s a0 a1 a2) := by
  unfold State.stepFrameAt
  repeat' (with_reducible first | exact h | apply keeps_send)

theorem keeps_stepFrame {s0 : State} {s : State} {a0} (h : Keeps s0 s) :
    Keeps s0 (State.stepFrame s a0) := by
  unfold State.stepFrame
  repeat' (with_reducible first | exact h | apply keeps_stepFrameAt)

theorem keeps_stepMode {s0 : State} {s : State} {a0} {a1} {a2} (h : Keeps s0 s) :
    Keeps s0 (State.stepMode s a0 a1 a2) := by
  unfold State.stepMode
  repeat' (with_reducible first | exact h | apply keeps_put | apply keeps_stepFrame | apply Keeps.ite)

theorem keeps_stepShow {s0 : State} {s : State} {a0} {a1} (h : Keeps s0 s) :
    Keeps s0 (State.stepShow s a0 a1) := by
  unfold State.stepShow
  repeat' (with_reducible first | exact h | apply keeps_roundOpen | apply keeps_putS | apply Keeps.snd)

theorem keeps_stepArrive {s0 : State} {s : State} {a0} {a1} (h : Keeps s0 s) :
    Keeps s0 (State.stepArrive s a0 a1) := by
  unfold State.stepArrive
  repeat' (with_reducible first | exact h | apply keeps_put | apply keeps_zero | apply keeps_raise | apply keeps_setStepper)

theorem keeps_stepFinal {s0 : State} {s : State} {a0} {a1} (h : Keeps s0 s) :
    Keeps s0 (State.stepFinal s a0 a1) := by
  unfold State.stepFinal
  repeat' (with_reducible first | exact h | apply keeps_stepArrive | apply keeps_setStepper | apply Keeps.ite)

theorem keeps_stepPlan {s0 : State} {s : State} {a0} {a1} {a2} {a3} (h : Keeps s0 s) :
    Keeps s0 (State.stepPlan s a0 a1 a2 a3) := by
  unfold State.stepPlan
  repeat' (with_reducible first | exact h | apply keeps_setStepper | apply keeps_stepFinal | apply Keeps.ite)

theorem keeps_stepBegin {s0 : State} {s : State} {a0} {a1} {a2} (h : Keeps s0 s) :
    Keeps s0 (State.stepBegin s a0 a1 a2) := by
  unfold State.stepBegin
  repeat' first
    | (with_reducible first
      | exact h | apply keeps_put | apply keeps_stepPlan | apply keeps_setBay | apply keeps_setStepper | apply Keeps.ite)
    | dsimp only | split

theorem keeps_stepRequest {s0 : State} {s : State} {a0} {a1} {a2} (h : Keeps s0 s) :
    Keeps s0 (State.stepRequest s a0 a1 a2) := by
  unfold State.stepRequest
  repeat' (with_reducible first | exact h | apply keeps_setStepper | apply keeps_stepBegin | apply Keeps.ite)

theorem keeps_stepGo {s0 : State} {s : State} {a0} {a1} {a2} (h : Keeps s0 s) :
    Keeps s0 (State.stepGo s a0 a1 a2) := by
  unfold State.stepGo
  repeat' (with_reducible first
    | exact h | apply keeps_recordBay | apply keeps_raise | apply keeps_zero | apply keeps_setBay | apply keeps_put
    | apply keeps_stepRequest | apply keeps_setStepper | apply Keeps.ite)

theorem keeps_stepHold {s0 : State} {s : State} {a0} {a1} (h : Keeps s0 s) :
    Keeps s0 (State.stepHold s a0 a1) := by
  unfold State.stepHold
  repeat' (with_reducible first | exact h | apply keeps_stepRequest | apply keeps_stepMode | apply keeps_zero)

theorem keeps_stallForget {s0 : State} {s : State} {a0} {a1} (h : Keeps s0 s) :
    Keeps s0 (State.stallForget s a0 a1) := by
  unfold State.stallForget
  repeat' (with_reducible first | exact h | apply keeps_setBay | apply Keeps.ite)

theorem keeps_stepDrop {s0 : State} {s : State} {a0} {a1} (h : Keeps s0 s) :
    Keeps s0 (State.stepDrop s a0 a1) := by
  unfold State.stepDrop
  repeat' (with_reducible first | exact h | apply keeps_stallForget | apply keeps_zero | apply keeps_setStepper)

theorem keeps_stepOff {s0 : State} {s : State} {a0} {a1} (h : Keeps s0 s) :
    Keeps s0 (State.stepOff s a0 a1) := by
  unfold State.stepOff
  repeat' (with_reducible first | exact h | apply keeps_stepMode | apply keeps_stepDrop)

theorem keeps_stepLost {s0 : State} {s : State} {a0} {a1} (h : Keeps s0 s) :
    Keeps s0 (State.stepLost s a0 a1) := by
  unfold State.stepLost
  repeat' (with_reducible first | exact h | apply keeps_stepDrop | apply keeps_put)

theorem keeps_stepPark {s0 : State} {s : State} {a0} {a1} (h : Keeps s0 s) :
    Keeps s0 (State.stepPark s a0 a1) := by
  unfold State.stepPark
  repeat' (with_reducible first
    | exact h | apply keeps_stepRequest | apply keeps_zero | apply keeps_stepMode | apply keeps_stepHold | apply Keeps.ite)

theorem keeps_stepFollow {s0 : State} {s : State} {a0} {a1} (h : Keeps s0 s) :
    Keeps s0 (State.stepFollow s a0 a1) := by
  unfold State.stepFollow
  repeat' (with_reducible first | exact h | apply keeps_stepRequest | apply keeps_stepMode | apply keeps_zero | apply Keeps.ite)

theorem keeps_stepHome {s0 : State} {s : State} {a0} {a1} (h : Keeps s0 s) :
    Keeps s0 (State.stepHome s a0 a1) := by
  unfold State.stepHome
  repeat' (with_reducible first | exact h | apply keeps_stepRequest | apply keeps_zero | apply keeps_stepMode)

theorem keeps_stepParkAll {s0 : State} {s : State} {a0} (h : Keeps s0 s) :
    Keeps s0 (State.stepParkAll s a0) := by
  unfold State.stepParkAll
  repeat' (with_reducible first | exact h | apply keeps_stepHold | apply keeps_stepPark)

end Sys2Proof.Machine
end

