-- ==== Sys2Proof/Laws/KeepsJournal.lean ====
section
/-!
SUPPORT. Every operation of Journal.lean keeps the queue, the part and the canonical stores (Keeps.lean).
-/

namespace Sys2Proof.Machine

theorem keeps_onWrite {s0 : State} {s : State} {a0} {a1} (h : Keeps s0 s) :
    Keeps s0 (State.onWrite s a0 a1) := by
  unfold State.onWrite
  repeat' (with_reducible first | exact h | apply keeps_setBay)

theorem keeps_onRead {s0 : State} {s : State} {a0} {a1} (h : Keeps s0 s) :
    Keeps s0 (State.onRead s a0 a1) := by
  unfold State.onRead
  repeat' (with_reducible first | exact h | apply keeps_setBay)

theorem keeps_onCal {s0 : State} {s : State} {a0} {a1} (h : Keeps s0 s) :
    Keeps s0 (State.onCal s a0 a1) := by
  unfold State.onCal
  repeat' (with_reducible first | exact h | apply keeps_setBay)

theorem keeps_onDisc {s0 : State} {s : State} {a0} {a1} (h : Keeps s0 s) :
    Keeps s0 (State.onDisc s a0 a1) := by
  unfold State.onDisc
  repeat' (with_reducible first | exact h | apply keeps_setBay)

theorem keeps_onSched {s0 : State} {s : State} {a0} {a1} (h : Keeps s0 s) :
    Keeps s0 (State.onSched s a0 a1) := by
  unfold State.onSched
  repeat' (with_reducible first | exact h | apply keeps_setBay)

theorem keeps_showJournal {s0 : State} {s : State} {a0} (h : Keeps s0 s) :
    Keeps s0 (State.showJournal s a0) := by
  unfold State.showJournal
  repeat' (with_reducible first | exact h | apply keeps_put)

theorem keeps_putEntry {s0 : State} {s : State} {a0} {a1} {a2} (h : Keeps s0 s) :
    Keeps s0 (State.putEntry s a0 a1 a2) := by
  unfold State.putEntry
  repeat' (with_reducible first | exact h | apply keeps_lugWrite | apply keeps_showJournal | apply keeps_onWrite)

theorem keeps_createEntry {s0 : State} {s : State} {a0} {a1} {a2} {a3} {a4} {a5} {a6} (h : Keeps s0 s) :
    Holds inSomeSnd s0 (State.createEntry s a0 a1 a2 a3 a4 a5 a6) := by
  unfold State.createEntry
  repeat' first
    | intro _ | (with_reducible first | exact h | apply keeps_onWrite | apply keeps_putEntry | apply Holds.map) | dsimp only
    | split | with_reducible apply Holds.pair

theorem keeps_advanceEntry {s0 : State} {s : State} {a0} {a1} {a2} (h : Keeps s0 s) :
    Keeps s0 (State.advanceEntry s a0 a1 a2) := by
  unfold State.advanceEntry
  repeat' first | (with_reducible first | exact h | apply keeps_putEntry | apply Keeps.ite) | split

theorem keeps_staleJournalBut {s0 : State} {s : State} {a0} {a1} {a2} (h : Keeps s0 s) :
    Keeps s0 (State.staleJournalBut s a0 a1 a2) := by
  unfold State.staleJournalBut
  repeat' (with_reducible first
    | exact h | apply keeps_showJournal | apply keeps_onWrite | apply keeps_recordBay | apply Keeps.ite)

theorem keeps_staleJournal {s0 : State} {s : State} {a0} {a1} (h : Keeps s0 s) :
    Keeps s0 (State.staleJournal s a0 a1) := by
  unfold State.staleJournal
  repeat' (with_reducible first | exact h | apply keeps_staleJournalBut)

theorem keeps_sendRecords {s0 : State} {s : State} {a0} {a1} {a2} {a3} {a4} {a5} (h : Keeps s0 s) :
    Keeps s0 (State.sendRecords s a0 a1 a2 a3 a4 a5) := by
  induction a4 generalizing s a0 a1 a2 a3 a5 with
  | zero =>
    unfold State.sendRecords
    repeat' with_reducible exact h
  | succ k ih =>
    unfold State.sendRecords
    repeat' (with_reducible first | exact h | apply ih | apply keeps_send | apply Keeps.ite)

theorem keeps_showWrite {s0 : State} {s : State} {a0} (h : Keeps s0 s) :
    Keeps s0 (State.showWrite s a0) := by
  unfold State.showWrite
  repeat' (with_reducible first | exact h | apply keeps_put)

theorem keeps_queueReloc {s0 : State} {s : State} {a0} {a1} {a2} (h : Keeps s0 s) :
    Keeps s0 (State.queueReloc s a0 a1 a2) := by
  unfold State.queueReloc
  repeat' (with_reducible first | exact h | apply keeps_onWrite | apply keeps_showWrite | apply keeps_count | apply Keeps.ite)

theorem keeps_entryWritten {s0 : State} {s : State} {a0} {a1} (h : Keeps s0 s) :
    Keeps s0 (State.entryWritten s a0 a1) := by
  unfold State.entryWritten
  repeat' first | (with_reducible first | exact h | apply keeps_advanceEntry | apply Keeps.ite) | split

theorem keeps_markClosed {s0 : State} {s : State} {a0} {a1} (h : Keeps s0 s) :
    Keeps s0 (State.markClosed s a0 a1) := by
  unfold State.markClosed
  repeat' (with_reducible first | exact h | apply keeps_onDisc)

theorem keeps_gateEnded {s0 : State} {s : State} {a0} {a1} (h : Keeps s0 s) :
    Keeps s0 (State.gateEnded s a0 a1) := by
  unfold State.gateEnded
  repeat' first
    | (with_reducible first
      | exact h | apply keeps_onWrite | apply keeps_count | apply keeps_entryWritten | apply keeps_markClosed | apply Keeps.ite)
    | dsimp only | split

theorem keeps_endGateRun {s0 : State} {s : State} {a0} {a1} (h : Keeps s0 s) :
    Keeps s0 (State.endGateRun s a0 a1) := by
  unfold State.endGateRun
  repeat' first
    | (with_reducible first
      | exact h | apply keeps_gateEnded | apply keeps_sendRecords | apply keeps_queueReloc)
    | dsimp only | split

theorem keeps_stopGateRun {s0 : State} {s : State} {a0} (h : Keeps s0 s) :
    Keeps s0 (State.stopGateRun s a0) := by
  unfold State.stopGateRun
  repeat' (with_reducible first | exact h | apply keeps_onWrite)

theorem keeps_entryDone {s0 : State} {s : State} {a0} {a1} (h : Keeps s0 s) :
    Keeps s0 (State.entryDone s a0 a1) := by
  unfold State.entryDone
  repeat' first | (with_reducible first | exact h | apply keeps_advanceEntry | apply Keeps.ite) | split

theorem keeps_dropSector {s0 : State} {s : State} {a0} {a1} (h : Keeps s0 s) :
    Keeps s0 (State.dropSector s a0 a1) := by
  unfold State.dropSector
  repeat' (with_reducible first | exact h | apply keeps_entryDone | apply keeps_onWrite)

theorem keeps_abandonReads {s0 : State} {s : State} {a0} (h : Keeps s0 s) :
    Keeps s0 (State.abandonReads s a0) := by
  unfold State.abandonReads
  repeat' first
    | intro _
    | (with_reducible first
      | exact h | assumption | apply keeps_count | apply keeps_zero | apply keeps_onRead | apply Keeps.foldl)

end Sys2Proof.Machine
end

