-- ==== Sys2Proof/Laws/KeepsMemory.lean ====
section
/-!
SUPPORT. Every operation of Memory.lean keeps the queue, the part and the canonical stores (Keeps.lean).
-/

namespace Sys2Proof.Machine

theorem keeps_dramFold {s0 s : State} {l : List (Byte × Nat)} {p : Byte × Nat → Bool} {a : Nat} (h : Keeps s0 s) :
    Keeps s0 { s with dram := l.foldl (fun d x => if p x = true then d else Sparse.putNorm 0 d (a + x.2) x.1) s.dram } := by
  refine Keeps.stores h rfl rfl rfl (fun w => ?_) id id
  show Memory.wf (List.foldl _ s.dram l) = true
  generalize s.dram = d at w
  induction l generalizing d with
  | nil => exact w
  | cons x r ih =>
    refine ih _ ?_
    dsimp only
    split
    · exact w
    · exact Sparse.wf_putNorm 0 d _ _ w

theorem keeps_onMem {s0 : State} {s : State} {a0} (h : Keeps s0 s) :
    Keeps s0 (State.onMem s a0) := by
  unfold State.onMem
  repeat' (with_reducible first | exact h | rfl | apply Keeps.update)

theorem keeps_memCorrected {s0 : State} {s : State} {a0} {a1} (h : Keeps s0 s) :
    Keeps s0 (State.memCorrected s a0 a1) := by
  unfold State.memCorrected
  repeat' (with_reducible first
    | exact h | apply keeps_put | apply keeps_raise | apply keeps_count | apply keeps_onMem | apply keeps_record
    | apply Keeps.ite)

theorem keeps_memUncorr {s0 : State} {s : State} {a0} {a1} (h : Keeps s0 s) :
    Keeps s0 (State.memUncorr s a0 a1) := by
  unfold State.memUncorr
  repeat' (with_reducible first | exact h | apply keeps_count | apply keeps_record | apply Keeps.ite)

theorem keeps_cacheUncorr {s0 : State} {s : State} {a0} (h : Keeps s0 s) :
    Keeps s0 (State.cacheUncorr s a0) := by
  unfold State.cacheUncorr
  repeat' first
    | (with_reducible first
      | exact h | apply keeps_count | apply keeps_record | apply keeps_onMem | apply Keeps.ite)
    | dsimp only | split

theorem keeps_memSeen {s0 : State} {s : State} {a0} (h : Keeps s0 s) :
    Keeps s0 (State.memSeen s a0) := by
  unfold State.memSeen
  repeat' first
    | intro _
    | (with_reducible first
      | exact h | assumption | apply keeps_memCorrected | apply keeps_count | apply keeps_cacheUncorr | apply keeps_onMem
      | apply Keeps.foldl)

theorem keeps_evbShow {s0 : State} {s : State} (h : Keeps s0 s) :
    Keeps s0 (State.evbShow s) := by
  unfold State.evbShow
  repeat' (with_reducible first | exact h | apply keeps_put)

theorem keeps_evbDrain {s0 : State} {s : State} (h : Keeps s0 s) :
    Keeps s0 (State.evbDrain s) := by
  unfold State.evbDrain
  repeat' first | (with_reducible first | exact h | apply keeps_evbShow | apply keeps_count | apply keeps_onMem) | split

theorem keeps_evbPut {s0 : State} {s : State} {a0} {a1} (h : Keeps s0 s) :
    Keeps s0 (State.evbPut s a0 a1) := by
  unfold State.evbPut
  repeat' (with_reducible first | exact h | apply keeps_evbDrain | apply keeps_evbShow | apply keeps_onMem | apply Keeps.ite)

theorem keeps_evict {s0 : State} {s : State} {a0} {a1} (h : Keeps s0 s) :
    Keeps s0 (State.evict s a0 a1) := by
  unfold State.evict
  repeat' (with_reducible first | exact h | apply keeps_evbPut | apply keeps_onMem)

theorem keeps_chooseWay {s0 : State} {s : State} {a0} (h : Keeps s0 s) :
    Holds inSnd s0 (State.chooseWay s a0) := by
  unfold State.chooseWay
  repeat' first
    | (with_reducible first | exact h | apply keeps_fresh | apply keeps_evict | apply Keeps.snd) | dsimp only | split
    | with_reducible apply Holds.pair

theorem keeps_allocTouch {s0 : State} {s : State} {a0} {a1} (h : Keeps s0 s) :
    Keeps s0 (State.allocTouch s a0 a1) := by
  unfold State.allocTouch
  repeat' first
    | (with_reducible first
      | exact h | apply keeps_count | apply keeps_onMem | apply keeps_chooseWay | apply Keeps.ite | apply Keeps.snd)
    | dsimp only | split

theorem keeps_streamTouch {s0 : State} {s : State} {a0} {a1} (h : Keeps s0 s) :
    Keeps s0 (State.streamTouch s a0 a1) := by
  unfold State.streamTouch
  repeat' first | (with_reducible first | exact h | apply keeps_count | apply keeps_onMem | apply Keeps.ite) | dsimp only | split

theorem keeps_memUnmapped {s0 : State} {s : State} {a0} {a1} (h : Keeps s0 s) :
    Keeps s0 (State.memUnmapped s a0 a1) := by
  unfold State.memUnmapped
  repeat' (with_reducible first | exact h | apply keeps_record)

theorem keeps_memHold {s0 : State} {s : State} {a0} {a1} (h : Keeps s0 s) :
    Keeps s0 (State.memHold s a0 a1) := by
  unfold State.memHold
  repeat' (with_reducible first | exact h | apply keeps_record | apply keeps_raise | apply Keeps.ite)

theorem keeps_memRead {s0 : State} {s : State} {a0} {a1} {a2} {a3} {a4} (h : Keeps s0 s) :
    Holds inSnd s0 (State.memRead s a0 a1 a2 a3 a4) := by
  unfold State.memRead
  repeat' first
    | intro _
    | (with_reducible first
      | exact h | assumption | apply keeps_memHold | apply keeps_memUnmapped | apply keeps_memSeen | apply keeps_memUncorr
      | apply keeps_allocTouch | apply keeps_streamTouch | apply Keeps.foldl)
    | dsimp only | split | with_reducible apply Holds.pair

theorem keeps_memWrite {s0 : State} {s : State} {a0} {a1} {a2} {a3} {a4} (h : Keeps s0 s) :
    Holds inSnd s0 (State.memWrite s a0 a1 a2 a3 a4) := by
  unfold State.memWrite
  repeat' first
    | with_reducible exact h
    | with_reducible assumption
    | with_reducible apply keeps_memHold
    | with_reducible apply keeps_memUnmapped
    | with_reducible apply keeps_memSeen
    | with_reducible apply keeps_memUncorr
    | with_reducible apply keeps_dramFold
    | with_reducible apply keeps_onMem
    | with_reducible apply keeps_allocTouch
    | with_reducible apply keeps_streamTouch
    | with_reducible apply Keeps.ite
    | with_reducible apply Keeps.foldl
    | with_reducible apply Holds.ite
    | intro _
    | dsimp only
    | split
    | with_reducible apply Holds.pair

theorem keeps_cacheForget {s0 : State} {s : State} {a0} {a1} (h : Keeps s0 s) :
    Keeps s0 (State.cacheForget s a0 a1) := by
  unfold State.cacheForget
  refine keeps_evbShow (keeps_onMem (Keeps.stores h rfl rfl rfl (fun w => ?_) id id))
  have back : ∀ (l : List (Nat × List Byte)) (k : Nat) (d : List Host.Cell), Memory.wf d = true →
      Memory.wf (l.foldl (fun d e => Sparse.putAll 0 d (256 * k + 64 * e.1) e.2) d) = true := by
    intro l k
    induction l with
    | nil => exact fun d w => w
    | cons x r ih => exact fun d w => ih _ (Sparse.wf_putAll 0 _ _ _ w)
  have all : ∀ (l : List (Nat × CacheLine)) (d : List Host.Cell), Memory.wf d = true →
      Memory.wf (l.foldl (fun d e => e.2.under.foldl (fun d x => Sparse.putAll 0 d (256 * e.1 + 64 * x.1) x.2) d) d) = true := by
    intro l
    induction l with
    | nil => exact fun d w => w
    | cons x r ih => exact fun d w => ih _ (back _ _ _ w)
  dsimp only
  generalize List.filter _ s.mem.evb = ev
  induction ev with
  | nil => exact all _ _ w
  | cons x r ih => exact back _ _ _ ih

theorem keeps_memClear {s0 : State} {s : State} {a0} {a1} (h : Keeps s0 s) :
    Keeps s0 (State.memClear s a0 a1) := by
  unfold State.memClear
  exact keeps_onMem (Keeps.stores h rfl rfl rfl (Sparse.wf_clear 0 _ _ _) id id)

theorem keeps_fillDone {s0 : State} {s : State} (h : Keeps s0 s) :
    Keeps s0 (State.fillDone s) := by
  unfold State.fillDone
  repeat' (with_reducible first | exact h | apply keeps_raise | apply Keeps.ite)

theorem keeps_trainShow {s0 : State} {s : State} (h : Keeps s0 s) :
    Keeps s0 (State.trainShow s) := by
  unfold State.trainShow
  repeat' (with_reducible first | exact h | apply keeps_zero | apply Keeps.ite)

theorem keeps_trainGo {s0 : State} {s : State} (h : Keeps s0 s) :
    Keeps s0 (State.trainGo s) := by
  unfold State.trainGo
  repeat' first
    | intro _
    | (with_reducible first
      | exact h | assumption | apply keeps_raise | apply keeps_onMem | apply keeps_trainShow | apply keeps_put
      | apply keeps_zero | apply Keeps.ite | apply Keeps.foldl)

theorem keeps_execDramTrain {s0 : State} {s : State} (h : Keeps s0 s) :
    Holds inNext s0 (execDramTrain s) := by
  unfold execDramTrain
  repeat' (with_reducible first | exact h | apply keeps_trainGo | apply Holds.next)

theorem keeps_execDramResume {s0 : State} {s : State} (h : Keeps s0 s) :
    Holds inNext s0 (execDramResume s) := by
  unfold execDramResume
  repeat' (with_reducible first | exact h | apply keeps_trainGo | apply keeps_raise | apply Holds.next)

theorem keeps_execDramTrainDone {s0 : State} {a0} {a1} {s : State} (h : Keeps s0 s) :
    Holds inNext s0 (execDramTrainDone a0 a1 s) := by
  unfold execDramTrainDone
  repeat' (with_reducible first
    | exact h | apply keeps_onMem | apply keeps_fillDone | apply keeps_trainShow | apply keeps_put | apply keeps_record
    | apply keeps_memClear | apply Keeps.ite | apply Holds.ite | apply Holds.next)

theorem keeps_execDramFillDone {s0 : State} {a0} {s : State} (h : Keeps s0 s) :
    Holds inNext s0 (execDramFillDone a0 s) := by
  unfold execDramFillDone
  repeat' (with_reducible first
    | exact h | apply keeps_fillDone | apply keeps_trainShow | apply keeps_put | apply keeps_memClear | apply keeps_cacheForget
    | apply Holds.ite | apply Holds.next)

theorem keeps_execDramCfgWrite {s0 : State} {a0} {a1} {s : State} (h : Keeps s0 s) :
    Holds inNext s0 (execDramCfgWrite a0 a1 s) := by
  unfold execDramCfgWrite
  repeat' (with_reducible first
    | exact h | apply keeps_put | apply keeps_raise | apply Keeps.ite | apply Holds.ite | apply Holds.next)

theorem keeps_execDramRetire {s0 : State} {s : State} (h : Keeps s0 s) :
    Holds inNext s0 (execDramRetire s) := by
  unfold execDramRetire
  repeat' (with_reducible first
    | exact h | apply keeps_put | apply keeps_raise | apply keeps_cacheForget | apply Holds.ite | apply Holds.next)

theorem keeps_execDramRetireDone {s0 : State} {s : State} (h : Keeps s0 s) :
    Holds inNext s0 (execDramRetireDone s) := by
  unfold execDramRetireDone
  repeat' (with_reducible first
    | exact h | apply keeps_put | apply keeps_trace | apply keeps_record | apply keeps_memClear | apply keeps_zero
    | apply Holds.ite | apply Holds.next)

theorem keeps_putPair {s0 : State} {s : State} {a0} {a1} {a2} (h : Keeps s0 s) :
    Keeps s0 (State.putPair s a0 a1 a2) := by
  unfold State.putPair
  repeat' (with_reducible first | exact h | apply keeps_put)

theorem keeps_execScrubGo {s0 : State} {s : State} (h : Keeps s0 s) :
    Holds inNext s0 (execScrubGo s) := by
  unfold execScrubGo
  repeat' (with_reducible first
    | exact h | apply keeps_raise | apply keeps_zero | apply keeps_putPair | apply keeps_onMem | apply Holds.ite
    | apply Holds.next)

theorem keeps_scrubEnd {s0 : State} {s : State} {a0} (h : Keeps s0 s) :
    Keeps s0 (State.scrubEnd s a0) := by
  unfold State.scrubEnd
  repeat' (with_reducible first
    | exact h | apply keeps_put | apply keeps_raise | apply keeps_zero | apply keeps_record | apply keeps_signal
    | apply Keeps.ite)

theorem keeps_scrubTake {s0 : State} {s : State} {a0} {a1} (h : Keeps s0 s) :
    Keeps s0 (State.scrubTake s a0 a1) := by
  unfold State.scrubTake
  repeat' first
    | intro _
    | (with_reducible first
      | exact h | assumption | apply keeps_memSeen | apply keeps_fresh | apply keeps_memUncorr | apply keeps_count
      | apply keeps_putPair | apply Keeps.ite | apply Keeps.foldl | apply Keeps.snd)

theorem keeps_execScrubStop {s0 : State} {a0} {a1} {s : State} (h : Keeps s0 s) :
    Holds inNext s0 (execScrubStop a0 a1 s) := by
  unfold execScrubStop
  repeat' (with_reducible first | exact h | apply keeps_scrubEnd | apply keeps_scrubTake | apply Keeps.ite | apply Holds.next)

theorem keeps_execScrubPassEnd {s0 : State} {a0} {s : State} (h : Keeps s0 s) :
    Holds inNext s0 (execScrubPassEnd a0 s) := by
  unfold execScrubPassEnd
  repeat' (with_reducible first | exact h | apply keeps_scrubEnd | apply keeps_scrubTake | apply Keeps.ite | apply Holds.next)

theorem keeps_cleanWay {s0 : State} {s : State} {a0} (h : Keeps s0 s) :
    Keeps s0 (State.cleanWay s a0) := by
  unfold State.cleanWay
  repeat' (with_reducible first | exact h | apply keeps_put | apply Keeps.ite)

theorem keeps_wayReturn {s0 : State} {s : State} {a0} (h : Keeps s0 s) :
    Keeps s0 (State.wayReturn s a0) := by
  unfold State.wayReturn
  repeat' (with_reducible first | exact h | apply keeps_put | apply Keeps.ite)

theorem keeps_wayLines {s0 : State} {s : State} {a0} (h : Keeps s0 s) :
    Keeps s0 (State.wayLines s a0) := by
  unfold State.wayLines
  repeat' first | intro _ | (with_reducible first | exact h | assumption | apply keeps_evict | apply Keeps.foldl)

theorem keeps_execCacheWayDisable {s0 : State} {a0} {s : State} (h : Keeps s0 s) :
    Holds inNext s0 (execCacheWayDisable a0 s) := by
  unfold execCacheWayDisable
  repeat' first
    | intro _
    | (with_reducible first
      | exact h | assumption | apply keeps_raise | apply keeps_cleanWay | apply keeps_put | apply keeps_wayReturn
      | apply Keeps.foldl | apply Holds.ite | apply Holds.next)

theorem keeps_execCacheWayCleanDone {s0 : State} {a0} {s : State} (h : Keeps s0 s) :
    Holds inNext s0 (execCacheWayCleanDone a0 s) := by
  unfold execCacheWayCleanDone
  repeat' (with_reducible first
    | exact h | apply keeps_wayLines | apply keeps_put | apply keeps_wayReturn | apply Holds.ite | apply Holds.next)

theorem keeps_execScratchEnable {s0 : State} {a0} {s : State} (h : Keeps s0 s) :
    Holds inNext s0 (execScratchEnable a0 s) := by
  unfold execScratchEnable
  repeat' (with_reducible first | exact h | apply keeps_raise | apply keeps_cleanWay | apply Holds.ite | apply Holds.next)

theorem keeps_execScratchFillDone {s0 : State} {a0} {s : State} (h : Keeps s0 s) :
    Holds inNext s0 (execScratchFillDone a0 s) := by
  unfold execScratchFillDone
  repeat' (with_reducible first | exact h | apply keeps_raise | apply keeps_memClear | apply Holds.ite | apply Holds.next)

theorem keeps_execScratchDisable {s0 : State} {a0} {s : State} (h : Keeps s0 s) :
    Holds inNext s0 (execScratchDisable a0 s) := by
  unfold execScratchDisable
  repeat' (with_reducible first
    | exact h | apply keeps_raise | apply keeps_memClear | apply keeps_zero | apply keeps_wayReturn | apply Holds.ite
    | apply Holds.next)

theorem keeps_cleanLine {s0 : State} {s : State} {a0} {a1} (h : Keeps s0 s) :
    Keeps s0 (State.cleanLine s a0 a1) := by
  unfold State.cleanLine
  repeat' first | (with_reducible first | exact h | apply keeps_count | apply keeps_onMem) | dsimp only | split

theorem keeps_zeroLine {s0 : State} {s : State} {a0} (h : Keeps s0 s) :
    Keeps s0 (State.zeroLine s a0) := by
  unfold State.zeroLine
  repeat' first
    | intro _
    | (with_reducible first
      | exact h | assumption | apply keeps_onMem | apply keeps_chooseWay | apply keeps_memClear | apply Keeps.ite
      | apply Keeps.foldl | apply Keeps.snd)
    | dsimp only | split

theorem keeps_cacheOp {s0 : State} {s : State} {a0} {a1} (h : Keeps s0 s) :
    Holds inSome s0 (State.cacheOp s a0 a1) := by
  unfold State.cacheOp
  repeat' (with_reducible first
    | exact h | apply keeps_zeroLine | apply keeps_cleanLine | apply Holds.ite | apply Holds.some | apply Holds.none)

theorem keeps_hostCacheOp {s0 : State} {s : State} {a0} (h : Keeps s0 s) :
    Keeps s0 (State.hostCacheOp s a0) := by
  unfold State.hostCacheOp
  repeat' first
    | (with_reducible first | exact h | apply keeps_cacheOp | apply keeps_raise)
    | (refine Keeps.ofSome (by with_reducible assumption) ?_) | split

theorem keeps_execCacheClean {s0 : State} {s : State} (h : Keeps s0 s) :
    Holds inNext s0 (execCacheClean s) := by
  unfold execCacheClean
  repeat' (with_reducible first | exact h | apply keeps_hostCacheOp | apply Holds.next)

theorem keeps_execCacheCleanInv {s0 : State} {s : State} (h : Keeps s0 s) :
    Holds inNext s0 (execCacheCleanInv s) := by
  unfold execCacheCleanInv
  repeat' (with_reducible first | exact h | apply keeps_hostCacheOp | apply Holds.next)

theorem keeps_execCacheZeroLine {s0 : State} {s : State} (h : Keeps s0 s) :
    Holds inNext s0 (execCacheZeroLine s) := by
  unfold execCacheZeroLine
  repeat' (with_reducible first | exact h | apply keeps_hostCacheOp | apply Holds.next)

theorem keeps_execEvictionWriteback {s0 : State} {s : State} (h : Keeps s0 s) :
    Holds inNext s0 (execEvictionWriteback s) := by
  unfold execEvictionWriteback
  repeat' (with_reducible first | exact h | apply keeps_evbDrain | apply Holds.next)

end Sys2Proof.Machine
end

