-- ==== Sys2Proof/Laws/KeepsCaddy.lean ====
section
/-!
SUPPORT. Every operation of Caddy.lean keeps the queue, the part and the canonical stores (Keeps.lean).
-/

namespace Sys2Proof.Machine

theorem keeps_onCaddy {s0 : State} {s : State} {a0} (h : Keeps s0 s) :
    Keeps s0 (State.onCaddy s a0) := by
  unfold State.onCaddy
  repeat' (with_reducible first | exact h | rfl | apply Keeps.update)

theorem keeps_caddyShow {s0 : State} {s : State} (h : Keeps s0 s) :
    Keeps s0 (State.caddyShow s) := by
  unfold State.caddyShow
  repeat' first | intro _ | (with_reducible first | exact h | assumption | apply keeps_put | apply Keeps.ite | apply Keeps.foldl)

theorem keeps_chargeShow {s0 : State} {s : State} {a0} {a1} (h : Keeps s0 s) :
    Keeps s0 (State.chargeShow s a0 a1) := by
  unfold State.chargeShow
  repeat' (with_reducible first | exact h | apply keeps_put)

theorem keeps_takeBuffer {s0 : State} {s : State} {a0} (h : Keeps s0 s) :
    Holds inSnd s0 (State.takeBuffer s a0) := by
  unfold State.takeBuffer
  repeat' first | (with_reducible first | exact h | apply keeps_onCaddy) | dsimp only | split | with_reducible apply Holds.pair

theorem keeps_caddyGrant {s0 : State} {s : State} {a0} {a1} (h : Keeps s0 s) :
    Holds inSomeSnd s0 (State.caddyGrant s a0 a1) := by
  unfold State.caddyGrant
  repeat' first
    | (with_reducible first
      | exact h | apply keeps_takeBuffer | apply keeps_caddyShow | apply keeps_chargeShow | apply keeps_onCaddy
      | apply Holds.ite | apply Holds.somePair | apply Holds.nonePair | apply Keeps.snd)
    | dsimp only | split

theorem keeps_pumpRungs {s0 : State} {s : State} {a0} (h : Keeps s0 s) :
    Keeps s0 (State.pumpRungs s a0) := by
  unfold State.pumpRungs
  repeat' (with_reducible first | exact h | apply keeps_onRead | apply keeps_put)

theorem keeps_caddyDeliver {s0 : State} {s : State} {a0} {a1} {a2} (h : Keeps s0 s) :
    Keeps s0 (State.caddyDeliver s a0 a1 a2) := by
  unfold State.caddyDeliver
  repeat' first
    | (with_reducible first
      | exact h | apply keeps_onCaddy | apply keeps_pumpRungs | apply keeps_onRead | apply keeps_showWrite | apply keeps_onWrite
      | apply keeps_onDisc | apply keeps_onSeq)
    | dsimp only | split

theorem keeps_caddyServe {s0 : State} {s : State} (h : Keeps s0 s) :
    Keeps s0 (State.caddyServe s) := by
  unfold State.caddyServe
  repeat' first
    | intro _
    | (with_reducible first
      | exact h | assumption | apply keeps_caddyShow | apply keeps_caddyGrant | apply keeps_caddyDeliver | apply keeps_onCaddy
      | apply Keeps.foldl)
    | (refine Keeps.ofSomePair (by with_reducible assumption) ?_) | split

theorem keeps_caddyRequest {s0 : State} {s : State} {a0} {a1} {a2} (h : Keeps s0 s) :
    Keeps s0 (State.caddyRequest s a0 a1 a2) := by
  unfold State.caddyRequest
  repeat' (with_reducible first | exact h | apply keeps_caddyServe | apply keeps_onCaddy)

theorem keeps_caddyCancel {s0 : State} {s : State} {a0} (h : Keeps s0 s) :
    Keeps s0 (State.caddyCancel s a0) := by
  unfold State.caddyCancel
  repeat' (with_reducible first | exact h | apply keeps_caddyShow | apply keeps_onCaddy)

theorem keeps_dropHolder {s0 : State} {s : State} {a0} {a1} (h : Keeps s0 s) :
    Keeps s0 (State.dropHolder s a0 a1) := by
  unfold State.dropHolder
  repeat' first
    | (with_reducible first
      | exact h | apply keeps_caddyShow | apply keeps_chargeShow | apply keeps_onCaddy | apply Keeps.ite)
    | dsimp only | split

theorem keeps_caddyReject {s0 : State} {s : State} {a0} {a1} {a2} (h : Keeps s0 s) :
    Keeps s0 (State.caddyReject s a0 a1 a2) := by
  unfold State.caddyReject
  repeat' (with_reducible first | exact h | apply keeps_record | apply keeps_count)

theorem keeps_caddyRelease {s0 : State} {s : State} {a0} {a1} {a2} (h : Keeps s0 s) :
    Holds inThird s0 (State.caddyRelease s a0 a1 a2) := by
  unfold State.caddyRelease
  repeat' first
    | (with_reducible first
      | exact h | apply keeps_caddyReject | apply keeps_caddyServe | apply keeps_dropHolder | apply Holds.ite)
    | dsimp only | split | with_reducible apply Holds.triple

theorem keeps_caddyShare {s0 : State} {s : State} {a0} {a1} {a2} {a3} (h : Keeps s0 s) :
    Holds inThird s0 (State.caddyShare s a0 a1 a2 a3) := by
  unfold State.caddyShare
  repeat' first
    | (with_reducible first | exact h | apply keeps_caddyReject | apply keeps_onCaddy | apply Holds.ite) | split
    | with_reducible apply Holds.triple

theorem keeps_caddyAnswer {s0 : State} {a0} {a1} {a2} (ha2 : Holds inThird s0 a2) :
    Keeps s0 (State.caddyAnswer a0 a1 a2) := by
  unfold State.caddyAnswer
  repeat' (with_reducible first | assumption | apply keeps_onCaddy | apply Keeps.third)

theorem keeps_freePtr {s0 : State} {s : State} {a0} {a1} (h : Keeps s0 s) :
    Keeps s0 (State.freePtr s a0 a1) := by
  unfold State.freePtr
  repeat' first | (with_reducible first | exact h | apply keeps_dropHolder) | split

theorem keeps_dropHoldings {s0 : State} {s : State} {a0} {a1} (h : Keeps s0 s) :
    Holds inSnd s0 (State.dropHoldings s a0 a1) := by
  unfold State.dropHoldings
  repeat' first
    | intro _
    | (with_reducible first
      | exact h | assumption | apply keeps_caddyServe | apply keeps_dropHolder | apply Keeps.foldl)
    | dsimp only | with_reducible apply Holds.pair

theorem keeps_releaseBuffers {s0 : State} {s : State} {a0} {a1} (h : Keeps s0 s) :
    Keeps s0 (State.releaseBuffers s a0 a1) := by
  unfold State.releaseBuffers
  repeat' (with_reducible first | exact h | apply keeps_onCaddy | apply keeps_dropHoldings | apply Keeps.snd)

theorem keeps_execCaddyEnable {s0 : State} {a0} {s : State} (h : Keeps s0 s) :
    Holds inNext s0 (execCaddyEnable a0 s) := by
  unfold execCaddyEnable
  repeat' (with_reducible first
    | exact h | apply keeps_caddyServe | apply keeps_raise | apply keeps_zero | apply Holds.ite | apply Holds.next)

theorem keeps_execCaddyRegionEnable {s0 : State} {a0} {s : State} (h : Keeps s0 s) :
    Holds inNext s0 (execCaddyRegionEnable a0 s) := by
  unfold execCaddyRegionEnable
  repeat' (with_reducible first
    | exact h | apply keeps_caddyServe | apply keeps_onCaddy | apply keeps_raise | apply Holds.ite | apply Holds.next)

theorem keeps_execCaddyRequest {s0 : State} {a0} {a1} {s : State} (h : Keeps s0 s) :
    Holds inNext s0 (execCaddyRequest a0 a1 s) := by
  unfold execCaddyRequest
  repeat' (with_reducible first | exact h | apply keeps_caddyRequest | apply Holds.next)

theorem keeps_execCaddyGrant {s0 : State} {s : State} (h : Keeps s0 s) :
    Holds inNext s0 (execCaddyGrant s) := by
  unfold execCaddyGrant
  repeat' (with_reducible first | exact h | apply keeps_caddyServe | apply Holds.next)

theorem keeps_execCaddyShare {s0 : State} {a0} {a1} {a2} {a3} {s : State} (h : Keeps s0 s) :
    Holds inNext s0 (execCaddyShare a0 a1 a2 a3 s) := by
  unfold execCaddyShare
  repeat' (with_reducible first | exact h | apply keeps_caddyAnswer | apply keeps_caddyShare | apply Holds.next)

theorem keeps_execCaddyRelease {s0 : State} {a0} {a1} {a2} {s : State} (h : Keeps s0 s) :
    Holds inNext s0 (execCaddyRelease a0 a1 a2 s) := by
  unfold execCaddyRelease
  repeat' (with_reducible first | exact h | apply keeps_caddyAnswer | apply keeps_caddyRelease | apply Holds.next)

theorem keeps_execCaddyReclaim {s0 : State} {s : State} (h : Keeps s0 s) :
    Holds inNext s0 (execCaddyReclaim s) := by
  unfold execCaddyReclaim
  repeat' (with_reducible first
    | exact h | apply keeps_raise | apply keeps_dropHoldings | apply keeps_showWrite | apply keeps_onWrite | apply keeps_record
    | apply Keeps.ite | apply Holds.ite | apply Holds.next | apply Keeps.snd)

end Sys2Proof.Machine
end

