-- ==== Sys2Proof/Laws/KeepsHooks.lean ====
section
/-!
SUPPORT. Every operation of Hooks.lean keeps the queue, the part and the canonical stores (Keeps.lean).
-/

namespace Sys2Proof.Machine

theorem keeps_dramWrite {s0 : State} {s : State} {a0} {a1} (h : Keeps s0 s) :
    Keeps s0 (State.dramWrite s a0 a1) := by
  exact Keeps.stores h rfl rfl rfl (Sparse.wf_putAll 0 _ _ _) id id

theorem keeps_calIdle {s0 : State} {s : State} {a0} {a1} (h : Keeps s0 s) :
    Keeps s0 (State.calIdle s a0 a1) := by
  unfold State.calIdle
  repeat' (with_reducible first | exact h | apply keeps_count | apply keeps_put | apply keeps_zero)

theorem keeps_dropCal {s0 : State} {s : State} {a0} {a1} (h : Keeps s0 s) :
    Keeps s0 (State.dropCal s a0 a1) := by
  unfold State.dropCal
  repeat' first
    | (with_reducible first
      | exact h | apply keeps_onCal | apply keeps_calIdle | apply keeps_zero | apply Keeps.ite)
    | dsimp only | split

theorem keeps_passSafe {s0 : State} {s : State} {a0} (h : Keeps s0 s) :
    Keeps s0 (State.passSafe s a0) := by
  unfold State.passSafe
  repeat' (with_reducible first | exact h | rfl | apply Keeps.update)

theorem keeps_dropWork {s0 : State} {s : State} {a0} (h : Keeps s0 s) :
    Keeps s0 (State.dropWork s a0) := by
  unfold State.dropWork
  repeat' (with_reducible first
    | exact h | apply keeps_onSched | apply keeps_passSafe | apply keeps_onWrite | apply keeps_onRead | apply keeps_showWrite
    | apply keeps_raise | apply keeps_zero)

theorem keeps_endMount {s0 : State} {s : State} {a0} (h : Keeps s0 s) :
    Keeps s0 (State.endMount s a0) := by
  unfold State.endMount
  repeat' (with_reducible first | exact h | apply keeps_zero | apply keeps_setBay)

theorem keeps_resumeFails {s0 : State} {s : State} {a0} {a1} (h : Keeps s0 s) :
    Keeps s0 (State.resumeFails s a0 a1) := by
  unfold State.resumeFails
  repeat' (with_reducible first | exact h | apply keeps_recordBay | apply Keeps.ite)

theorem keeps_freeRung {s0 : State} {s : State} {a0} {a1} (h : Keeps s0 s) :
    Keeps s0 (State.freeRung s a0 a1) := by
  unfold State.freeRung
  repeat' first
    | intro _
    | (with_reducible first
      | exact h | assumption | apply keeps_caddyCancel | apply keeps_caddyServe | apply keeps_freePtr | apply Keeps.ite
      | apply Keeps.foldl)

theorem keeps_endWork {s0 : State} {s : State} {a0} {a1} (h : Keeps s0 s) :
    Keeps s0 (State.endWork s a0 a1) := by
  unfold State.endWork
  repeat' first
    | intro _
    | (with_reducible first
      | exact h | assumption | apply keeps_freeRung | apply keeps_pumpRungs | apply keeps_onRead | apply keeps_dropSector
      | apply keeps_showWrite | apply keeps_onWrite | apply Keeps.foldl)

end Sys2Proof.Machine
end

