-- ==== Sys2Proof/Laws/KeepsBayOps.lean ====
section
/-!
SUPPORT. Every operation of BayOps.lean keeps the queue, the part and the canonical stores (Keeps.lean).
-/

namespace Sys2Proof.Machine

theorem keeps_setBayState {s0 : State} {s : State} {a0} {a1} {a2} {a3} (h : Keeps s0 s) :
    Keeps s0 (State.setBayState s a0 a1 a2 a3) := by
  unfold State.setBayState
  repeat' (with_reducible first
    | exact h | apply keeps_put | apply keeps_attend | apply keeps_zero | apply keeps_trace | apply keeps_recordBay
    | apply Keeps.ite)

theorem keeps_sendPower {s0 : State} {s : State} {a0} {a1} {a2} (h : Keeps s0 s) :
    Keeps s0 (State.sendPower s a0 a1 a2) := by
  unfold State.sendPower
  repeat' (with_reducible first | exact h | apply keeps_send | apply keeps_setBay)

theorem keeps_lasersOff {s0 : State} {s : State} {a0} (h : Keeps s0 s) :
    Keeps s0 (State.lasersOff s a0) := by
  unfold State.lasersOff
  repeat' (with_reducible first | exact h | apply keeps_sendPower)

theorem keeps_setBitOf {s0 : State} {s : State} {a0} {a1} {a2} (h : Keeps s0 s) :
    Keeps s0 (State.setBitOf s a0 a1 a2) := by
  unfold State.setBitOf
  repeat' (with_reducible first | exact h | apply keeps_put)

theorem keeps_setLoop {s0 : State} {s : State} {a0} {a1} {a2} (h : Keeps s0 s) :
    Keeps s0 (State.setLoop s a0 a1 a2) := by
  unfold State.setLoop
  repeat' (with_reducible first | exact h | apply keeps_setBay)

theorem keeps_infuseStop {s0 : State} {s : State} {a0} {a1} {a2} (h : Keeps s0 s) :
    Keeps s0 (State.infuseStop s a0 a1 a2) := by
  unfold State.infuseStop
  repeat' first | (with_reducible first | exact h | apply keeps_setBay | apply Keeps.ite) | dsimp only | split

theorem keeps_setAuto {s0 : State} {s : State} {a0} {a1} {a2} (h : Keeps s0 s) :
    Keeps s0 (State.setAuto s a0 a1 a2) := by
  unfold State.setAuto
  repeat' (with_reducible first | exact h | apply keeps_infuseStop | apply keeps_setBitOf | apply keeps_putS | apply Keeps.ite)

theorem keeps_setEn {s0 : State} {s : State} {a0} {a1} {a2} (h : Keeps s0 s) :
    Keeps s0 (State.setEn s a0 a1 a2) := by
  unfold State.setEn
  repeat' (with_reducible first | exact h | apply keeps_infuseStop | apply keeps_setBitOf | apply keeps_setLoop | apply Keeps.ite)

theorem keeps_setMan {s0 : State} {s : State} {a0} {a1} {a2} (h : Keeps s0 s) :
    Keeps s0 (State.setMan s a0 a1 a2) := by
  unfold State.setMan
  repeat' (with_reducible first | exact h | apply keeps_putS)

theorem keeps_setLearn {s0 : State} {s : State} {a0} {a1} (h : Keeps s0 s) :
    Keeps s0 (State.setLearn s a0 a1) := by
  unfold State.setLearn
  repeat' (with_reducible first | exact h | apply keeps_putB)

theorem keeps_onServo {s0 : State} {s : State} {a0} {a1} (h : Keeps s0 s) :
    Keeps s0 (State.onServo s a0 a1) := by
  unfold State.onServo
  repeat' (with_reducible first | exact h | apply keeps_setBay)

theorem keeps_onFocus {s0 : State} {s : State} {a0} {a1} (h : Keeps s0 s) :
    Keeps s0 (State.onFocus s a0 a1) := by
  unfold State.onFocus
  repeat' (with_reducible first | exact h | apply keeps_setBay)

theorem keeps_onSpin {s0 : State} {s : State} {a0} {a1} (h : Keeps s0 s) :
    Keeps s0 (State.onSpin s a0 a1) := by
  unfold State.onSpin
  repeat' (with_reducible first | exact h | apply keeps_setBay)

theorem keeps_onTracker {s0 : State} {s : State} {a0} {a1} (h : Keeps s0 s) :
    Keeps s0 (State.onTracker s a0 a1) := by
  unfold State.onTracker
  repeat' (with_reducible first | exact h | apply keeps_setBay)

theorem keeps_onLink {s0 : State} {s : State} {a0} {a1} (h : Keeps s0 s) :
    Keeps s0 (State.onLink s a0 a1) := by
  unfold State.onLink
  repeat' (with_reducible first | exact h | apply keeps_setBay)

theorem keeps_rampOutputs {s0 : State} {s : State} {a0} (h : Keeps s0 s) :
    Keeps s0 (State.rampOutputs s a0) := by
  unfold State.rampOutputs
  repeat' (with_reducible first | exact h | apply keeps_zero | apply keeps_onServo | apply keeps_setAuto)

theorem keeps_alignedFall {s0 : State} {s : State} {a0} (h : Keeps s0 s) :
    Keeps s0 (State.alignedFall s a0) := by
  unfold State.alignedFall
  repeat' (with_reducible first | exact h | apply keeps_attend | apply keeps_onTracker | apply keeps_zero | apply Keeps.ite)

theorem keeps_dropEvents {s0 : State} {s : State} {a0} (h : Keeps s0 s) :
    Keeps s0 (State.dropEvents s a0) := by
  unfold State.dropEvents
  repeat' (with_reducible first | exact h | apply keeps_attend | apply keeps_onTracker | apply Keeps.ite)

theorem keeps_closeBridge {s0 : State} {s : State} {a0} (h : Keeps s0 s) :
    Keeps s0 (State.closeBridge s a0) := by
  unfold State.closeBridge
  repeat' (with_reducible first | exact h | apply keeps_onTracker | apply keeps_zero | apply Keeps.ite)

theorem keeps_openBridge {s0 : State} {s : State} {a0} {a1} {a2} (h : Keeps s0 s) :
    Keeps s0 (State.openBridge s a0 a1 a2) := by
  unfold State.openBridge
  repeat' (with_reducible first | exact h | apply keeps_onTracker | apply keeps_put | apply keeps_raise)

theorem keeps_startAcq {s0 : State} {s : State} {a0} (h : Keeps s0 s) :
    Keeps s0 (State.startAcq s a0) := by
  unfold State.startAcq
  repeat' (with_reducible first | exact h | apply keeps_onTracker | apply keeps_raise | apply Keeps.ite)

theorem keeps_spinCoast {s0 : State} {s : State} {a0} {a1} (h : Keeps s0 s) :
    Keeps s0 (State.spinCoast s a0 a1) := by
  unfold State.spinCoast
  repeat' (with_reducible first | exact h | apply keeps_onSpin | apply keeps_zero | apply keeps_put)

theorem keeps_spinZero {s0 : State} {s : State} {a0} (h : Keeps s0 s) :
    Keeps s0 (State.spinZero s a0) := by
  unfold State.spinZero
  repeat' (with_reducible first | exact h | apply keeps_onSpin | apply keeps_zero | apply keeps_put)

theorem keeps_spinStop {s0 : State} {s : State} {a0} (h : Keeps s0 s) :
    Keeps s0 (State.spinStop s a0) := by
  unfold State.spinStop
  repeat' (with_reducible first
    | exact h | apply keeps_onSpin | apply keeps_spinZero | apply keeps_zero | apply keeps_raise | apply keeps_put
    | apply Keeps.ite)

theorem keeps_dropMotion {s0 : State} {s : State} {a0} (h : Keeps s0 s) :
    Keeps s0 (State.dropMotion s a0) := by
  unfold State.dropMotion
  repeat' (with_reducible first | exact h | apply keeps_onFocus)

theorem keeps_quietBay {s0 : State} {s : State} {a0} (h : Keeps s0 s) :
    Keeps s0 (State.quietBay s a0) := by
  unfold State.quietBay
  repeat' (with_reducible first
    | exact h | apply keeps_dropMotion | apply keeps_setLearn | apply keeps_rampOutputs | apply keeps_lasersOff)

theorem keeps_bayFault {s0 : State} {s : State} {a0} {a1} {a2} (h : Keeps s0 s) (hfa2 : ∀ t, Keeps s0 t → Keeps s0 (a2 t)) :
    Keeps s0 (State.bayFault s a0 a1 a2) := by
  unfold State.bayFault
  repeat' (with_reducible first
    | exact h | apply hfa2 | apply keeps_resumeFails | apply keeps_dropCal | apply keeps_abandonReads | apply keeps_endGateRun
    | apply keeps_quietBay | apply keeps_setBayState | apply keeps_stepHold | apply keeps_refuseQueued | apply keeps_endMount
    | apply keeps_endAllTags | apply keeps_releaseBuffers | apply keeps_dropWork | apply keeps_staleJournal | apply Keeps.ite)

theorem keeps_bayFaultStop {s0 : State} {s : State} {a0} {a1} (h : Keeps s0 s) :
    Keeps s0 (State.bayFaultStop s a0 a1) := by
  unfold State.bayFaultStop
  repeat' first | intro _ | (with_reducible first | exact h | assumption | apply keeps_bayFault | apply keeps_spinStop)

theorem keeps_acqStep1 {s0 : State} {s : State} {a0} (h : Keeps s0 s) :
    Keeps s0 (State.acqStep1 s a0) := by
  unfold State.acqStep1
  repeat' (with_reducible first
    | exact h | apply keeps_zero | apply keeps_sendPower | apply keeps_onFocus | apply keeps_stepGo | apply Keeps.ite)

theorem keeps_startFocusing {s0 : State} {s : State} {a0} {a1} {a2} {a3} (h : Keeps s0 s) :
    Keeps s0 (State.startFocusing s a0 a1 a2 a3) := by
  unfold State.startFocusing
  repeat' (with_reducible first
    | exact h | apply keeps_setBayState | apply keeps_dropMotion | apply keeps_setAuto | apply keeps_setLearn
    | apply keeps_onServo | apply keeps_setMan | apply keeps_acqStep1 | apply keeps_onFocus)

theorem keeps_enterRecovery {s0 : State} {s : State} {a0} {a1} {a2} {a3} (h : Keeps s0 s) :
    Keeps s0 (State.enterRecovery s a0 a1 a2 a3) := by
  unfold State.enterRecovery
  repeat' (with_reducible first
    | exact h | apply keeps_setBayState | apply keeps_dropCal | apply keeps_abandonReads | apply keeps_setAuto
    | apply keeps_setLearn | apply keeps_dropMotion | apply keeps_dropEvents | apply keeps_onFocus | apply keeps_closeBridge | apply keeps_bayFaultStop
    | apply keeps_recordBay | apply keeps_startFocusing | apply keeps_startAcq | apply Keeps.ite)

theorem keeps_parkBay {s0 : State} {s : State} {a0} {a1} {a2} (h : Keeps s0 s) :
    Keeps s0 (State.parkBay s a0 a1 a2) := by
  unfold State.parkBay
  repeat' (with_reducible first
    | exact h | apply keeps_stepParkAll | apply keeps_spinStop | apply keeps_quietBay | apply keeps_setBayState)

theorem keeps_bayRetained {s0 : State} {s : State} {a0} (h : Keeps s0 s) :
    Keeps s0 (State.bayRetained s a0) := by
  unfold State.bayRetained
  repeat' (with_reducible first | exact h | apply keeps_resetRegs | apply keeps_put)

theorem keeps_bayLeaves {s0 : State} {s : State} {a0} {a1} {a2} {a3} (h : Keeps s0 s) :
    Keeps s0 (State.bayLeaves s a0 a1 a2 a3) := by
  unfold State.bayLeaves
  repeat' (with_reducible first
    | exact h | apply keeps_spinCoast | apply keeps_staleJournalBut | apply keeps_stepLost | apply keeps_dropCal
    | apply keeps_zero | apply keeps_setBayState | apply keeps_raise | apply keeps_onDisc | apply keeps_endMount
    | apply keeps_releaseBuffers | apply keeps_dropWork | apply keeps_bayRetained | apply keeps_setBay | apply keeps_showWrite
    | apply keeps_showJournal | apply keeps_resetRegs | apply Keeps.ite)

theorem keeps_bayDomainOff {s0 : State} {s : State} {a0} {a1} {a2} (h : Keeps s0 s) :
    Keeps s0 (State.bayDomainOff s a0 a1 a2) := by
  unfold State.bayDomainOff
  repeat' (with_reducible first | exact h | apply keeps_trace | apply keeps_put | apply keeps_bayLeaves)

theorem keeps_endDrain {s0 : State} {s : State} {a0} (h : Keeps s0 s) :
    Keeps s0 (State.endDrain s a0) := by
  unfold State.endDrain
  repeat' (with_reducible first | exact h | apply keeps_parkBay | apply keeps_bayDomainOff | apply Keeps.ite)

theorem keeps_trainStart {s0 : State} {s : State} {a0} (h : Keeps s0 s) :
    Keeps s0 (State.trainStart s a0) := by
  unfold State.trainStart
  repeat' (with_reducible first | exact h | apply keeps_onLink | apply keeps_zero)

theorem keeps_failAccess {s0 : State} {s : State} {a0} (h : Keeps s0 s) :
    Keeps s0 (State.failAccess s a0) := by
  unfold State.failAccess
  repeat' (with_reducible first | exact h | apply keeps_raise | apply keeps_zero | apply Keeps.ite)

theorem keeps_linkLoss {s0 : State} {s : State} {a0} {a1} (h : Keeps s0 s) :
    Keeps s0 (State.linkLoss s a0 a1) := by
  unfold State.linkLoss
  repeat' (with_reducible first
    | exact h | apply keeps_resumeFails | apply keeps_count | apply keeps_dropCal | apply keeps_abandonReads
    | apply keeps_recordBay | apply keeps_attend | apply keeps_setBayState | apply keeps_releaseBuffers | apply keeps_dropWork
    | apply keeps_staleJournal | apply keeps_refuseQueued | apply keeps_endMount | apply keeps_endAllTags | apply keeps_stepLost
    | apply keeps_setLearn | apply keeps_dropMotion | apply keeps_spinCoast | apply keeps_trainStart | apply keeps_failAccess
    | apply Keeps.ite)

end Sys2Proof.Machine
end

