-- ==== Sys2Proof/Laws/KeepsLink.lean ====
section
/-!
SUPPORT. Every operation of Link.lean keeps the queue, the part and the canonical stores (Keeps.lean).
-/

namespace Sys2Proof.Machine

theorem keeps_onBay {s0 : State} {s : State} {a0} {a1} (h : Keeps s0 s) (hfa1 : ∀ t, Keeps s0 t → Keeps s0 (a1 t)) :
    Holds inNext s0 (State.onBay s a0 a1) := by
  unfold State.onBay
  repeat' (with_reducible first | exact h | apply hfa1 | apply Keeps.ite | apply Holds.next)

theorem keeps_takeFrame {s0 : State} {s : State} {a0} {a1} {a2} (h : Keeps s0 s) :
    Keeps s0 (State.takeFrame s a0 a1 a2) := by
  unfold State.takeFrame
  repeat' (with_reducible first | exact h | apply keeps_onLink | apply keeps_count | apply Keeps.ite)

theorem keeps_trainFail {s0 : State} {s : State} {a0} {a1} {a2} (h : Keeps s0 s) :
    Keeps s0 (State.trainFail s a0 a1 a2) := by
  unfold State.trainFail
  repeat' (with_reducible first | exact h | apply keeps_onLink | apply keeps_zero | apply keeps_recordBay)

theorem keeps_linkUp {s0 : State} {s : State} {a0} {a1} (h : Keeps s0 s) :
    Keeps s0 (State.linkUp s a0 a1) := by
  unfold State.linkUp
  repeat' (with_reducible first
    | exact h | apply keeps_onLink | apply keeps_put | apply keeps_raise | apply keeps_setBayState | apply Keeps.ite)

theorem keeps_sendCfg {s0 : State} {s : State} {a0} {a1} {a2} {a3} (h : Keeps s0 s) :
    Keeps s0 (State.sendCfg s a0 a1 a2 a3) := by
  unfold State.sendCfg
  repeat' (with_reducible first | exact h | apply keeps_send)

theorem keeps_execPresenceSample {s0 : State} {a0} {a1} {s : State} (h : Keeps s0 s) :
    Holds inNext s0 (execPresenceSample a0 a1 s) := by
  unfold execPresenceSample
  repeat' first | intro _ | (with_reducible first | exact h | assumption | apply keeps_onBay | apply keeps_putB | apply Keeps.ite)

theorem keeps_execBayResetRelease {s0 : State} {a0} {s : State} (h : Keeps s0 s) :
    Holds inNext s0 (execBayResetRelease a0 s) := by
  unfold execBayResetRelease
  repeat' first
    | intro _
    | (with_reducible first
      | exact h | assumption | apply keeps_onBay | apply keeps_emit | apply keeps_onLink | apply Keeps.ite)

theorem keeps_execUpstreamBlockLock {s0 : State} {a0} {s : State} (h : Keeps s0 s) :
    Holds inNext s0 (execUpstreamBlockLock a0 s) := by
  unfold execUpstreamBlockLock
  repeat' first
    | intro _
    | (with_reducible first
      | exact h | assumption | apply keeps_onBay | apply keeps_raise | apply keeps_zero | apply keeps_onLink | apply keeps_send
      | apply Keeps.ite | apply Keeps.foldl)

theorem keeps_execUpstreamBlockLockLoss {s0 : State} {a0} {s : State} (h : Keeps s0 s) :
    Holds inNext s0 (execUpstreamBlockLockLoss a0 s) := by
  unfold execUpstreamBlockLockLoss
  repeat' first
    | intro _
    | (with_reducible first
      | exact h | assumption | apply keeps_onBay | apply keeps_zero | apply keeps_trainFail)
    | dsimp only | split

theorem keeps_execEchoResponseReceive {s0 : State} {a0} {a1} {a2} {s : State} (h : Keeps s0 s) :
    Holds inNext s0 (execEchoResponseReceive a0 a1 a2 s) := by
  unfold execEchoResponseReceive
  repeat' first
    | intro _
    | (with_reducible first
      | exact h | assumption | apply keeps_onBay | apply keeps_takeFrame | apply keeps_put | apply keeps_trainFail
      | apply keeps_onLink | apply keeps_sendCfg | apply Keeps.ite)

theorem keeps_execCfgRspReceive {s0 : State} {a0} {a1} {s : State} (h : Keeps s0 s) :
    Holds inNext s0 (execCfgRspReceive a0 a1 s) := by
  unfold execCfgRspReceive
  repeat' first
    | intro _
    | (with_reducible first
      | exact h | assumption | apply keeps_onBay | apply keeps_takeFrame | apply keeps_linkUp | apply keeps_trainFail
      | apply keeps_onLink | apply keeps_zero | apply keeps_put | apply Keeps.ite)
    | dsimp only | split

theorem keeps_execTrainTimeout {s0 : State} {a0} {s : State} (h : Keeps s0 s) :
    Holds inNext s0 (execTrainTimeout a0 s) := by
  unfold execTrainTimeout
  repeat' first | intro _ | (with_reducible first | exact h | assumption | apply keeps_onBay | apply keeps_trainFail) | split

theorem keeps_execTrainRetry {s0 : State} {a0} {s : State} (h : Keeps s0 s) :
    Holds inNext s0 (execTrainRetry a0 s) := by
  unfold execTrainRetry
  repeat' first
    | intro _
    | (with_reducible first
      | exact h | assumption | apply keeps_onBay | apply keeps_trainStart | apply Keeps.ite)

theorem keeps_execLinkLossSyncErrors {s0 : State} {a0} {s : State} (h : Keeps s0 s) :
    Holds inNext s0 (execLinkLossSyncErrors a0 s) := by
  unfold execLinkLossSyncErrors
  repeat' first | intro _ | (with_reducible first | exact h | assumption | apply keeps_onBay | apply keeps_linkLoss)

theorem keeps_execLinkLossStatusTimeout {s0 : State} {a0} {s : State} (h : Keeps s0 s) :
    Holds inNext s0 (execLinkLossStatusTimeout a0 s) := by
  unfold execLinkLossStatusTimeout
  repeat' first | intro _ | (with_reducible first | exact h | assumption | apply keeps_onBay | apply keeps_linkLoss)

theorem keeps_execLinkWithdraw {s0 : State} {a0} {s : State} (h : Keeps s0 s) :
    Holds inNext s0 (execLinkWithdraw a0 s) := by
  unfold execLinkWithdraw
  repeat' first
    | intro _
    | (with_reducible first
      | exact h | assumption | apply keeps_onBay | apply keeps_refuseQueued | apply keeps_setBayState | apply keeps_dropCal
      | apply keeps_raise | apply keeps_endDrain | apply Keeps.ite)

theorem keeps_execDrainTimeout {s0 : State} {a0} {s : State} (h : Keeps s0 s) :
    Holds inNext s0 (execDrainTimeout a0 s) := by
  unfold execDrainTimeout
  repeat' first
    | intro _
    | (with_reducible first
      | exact h | assumption | apply keeps_onBay | apply keeps_onWrite | apply keeps_endAllTags | apply keeps_releaseBuffers
      | apply keeps_dropWork | apply keeps_staleJournal | apply keeps_endDrain | apply Keeps.ite)

theorem keeps_execBayHostReset {s0 : State} {a0} {s : State} (h : Keeps s0 s) :
    Holds inNext s0 (execBayHostReset a0 s) := by
  unfold execBayHostReset
  repeat' first
    | intro _
    | (with_reducible first
      | exact h | assumption | apply keeps_onBay | apply keeps_trainStart | apply keeps_failAccess | apply keeps_endMount
      | apply keeps_setBayState | apply Keeps.ite)

theorem keeps_execFeAccessGo {s0 : State} {a0} {s : State} (h : Keeps s0 s) :
    Holds inNext s0 (execFeAccessGo a0 s) := by
  unfold execFeAccessGo
  repeat' first
    | intro _
    | (with_reducible first
      | exact h | assumption | apply keeps_onBay | apply keeps_raise | apply keeps_sendCfg | apply keeps_onLink
      | apply Keeps.ite)

theorem keeps_execFeAccessTimeout {s0 : State} {a0} {s : State} (h : Keeps s0 s) :
    Holds inNext s0 (execFeAccessTimeout a0 s) := by
  unfold execFeAccessTimeout
  repeat' first
    | intro _
    | (with_reducible first
      | exact h | assumption | apply keeps_onBay | apply keeps_onLink | apply keeps_raise | apply keeps_zero | apply Keeps.ite)

theorem keeps_takeAlert {s0 : State} {s : State} {a0} {a1} (h : Keeps s0 s) :
    Keeps s0 (State.takeAlert s a0 a1) := by
  unfold State.takeAlert
  repeat' first
    | intro _
    | (with_reducible first
      | exact h | assumption | apply keeps_onLink | apply keeps_put | apply keeps_recordCls | apply keeps_raise
      | apply keeps_endGateRun | apply keeps_bayFault | apply keeps_spinCoast | apply keeps_spinStop | apply keeps_stepOff
      | apply Keeps.ite)

theorem keeps_execAlertFrameReceive {s0 : State} {a0} {a1} {s : State} (h : Keeps s0 s) :
    Holds inNext s0 (execAlertFrameReceive a0 a1 s) := by
  unfold execAlertFrameReceive
  repeat' first
    | intro _
    | (with_reducible first
      | exact h | assumption | apply keeps_onBay | apply keeps_takeFrame | apply keeps_takeAlert | apply Keeps.ite)

theorem keeps_execStatusFrameReceive {s0 : State} {a0} {a1} {s : State} (h : Keeps s0 s) :
    Holds inNext s0 (execStatusFrameReceive a0 a1 s) := by
  unfold execStatusFrameReceive
  repeat' first
    | intro _
    | (with_reducible first
      | exact h | assumption | apply keeps_onBay | apply keeps_takeFrame | apply keeps_put | apply keeps_onCal
      | apply keeps_raise | apply keeps_onLink | apply keeps_takeAlert | apply Keeps.ite)

theorem keeps_execAlertPinTimeout {s0 : State} {a0} {s : State} (h : Keeps s0 s) :
    Holds inNext s0 (execAlertPinTimeout a0 s) := by
  unfold execAlertPinTimeout
  repeat' first
    | intro _
    | (with_reducible first
      | exact h | assumption | apply keeps_onBay | apply keeps_onLink | apply Keeps.ite)

theorem keeps_execFeTempValidExpire {s0 : State} {a0} {s : State} (h : Keeps s0 s) :
    Holds inNext s0 (execFeTempValidExpire a0 s) := by
  unfold execFeTempValidExpire
  repeat' first | intro _ | (with_reducible first | exact h | assumption | apply keeps_onBay | apply keeps_zero)

theorem keeps_loffAll {s0 : State} {s : State} (h : Keeps s0 s) :
    Keeps s0 (State.loffAll s) := by
  unfold State.loffAll
  repeat' first | intro _ | (with_reducible first | exact h | assumption | apply keeps_emit | apply Keeps.foldl)

theorem keeps_execLoffRepeat {s0 : State} {s : State} (h : Keeps s0 s) :
    Holds inNext s0 (execLoffRepeat s) := by
  unfold execLoffRepeat
  repeat' (with_reducible first | exact h | apply keeps_loffAll | apply Keeps.ite | apply Holds.next)

end Sys2Proof.Machine
end

