-- ==== Sys2Proof/Laws/KeepsServo.lean ====
section
/-!
SUPPORT. Every operation of Servo.lean keeps the queue, the part and the canonical stores (Keeps.lean).
-/

namespace Sys2Proof.Machine

theorem keeps_speedFactor {s0 : State} {s : State} {a0} (h : Keeps s0 s) :
    Keeps s0 (State.speedFactor s a0) := by
  unfold State.speedFactor
  repeat' (with_reducible first | exact h | apply keeps_roundOpen | apply keeps_onServo | apply Keeps.ite | apply Keeps.snd)

theorem keeps_trcFinish {s0 : State} {s : State} {a0} (h : Keeps s0 s) :
    Keeps s0 (State.trcFinish s a0) := by
  unfold State.trcFinish
  repeat' (with_reducible first | exact h | apply keeps_put | apply keeps_zero | apply keeps_raise | apply Keeps.ite)

theorem keeps_trcRecord {s0 : State} {s : State} {a0} {a1} {a2} {a3} {a4} {a5} (h : Keeps s0 s) :
    Keeps s0 (State.trcRecord s a0 a1 a2 a3 a4 a5) := by
  unfold State.trcRecord
  repeat' (with_reducible first
    | exact h | apply keeps_onServo | apply keeps_put | apply keeps_zero | apply keeps_raise | apply keeps_trcFinish
    | apply Keeps.ite)

theorem keeps_infuseEnd {s0 : State} {s : State} {a0} {a1} (h : Keeps s0 s) :
    Keeps s0 (State.infuseEnd s a0 a1) := by
  unfold State.infuseEnd
  repeat' (with_reducible first
    | exact h | apply keeps_put | apply keeps_zero | apply keeps_onServo | apply keeps_raise | apply keeps_recordBay
    | apply Keeps.ite)

theorem keeps_infuseWindow {s0 : State} {s : State} {a0} {a1} (h : Keeps s0 s) :
    Keeps s0 (State.infuseWindow s a0 a1) := by
  unfold State.infuseWindow
  repeat' (with_reducible first
    | exact h | apply keeps_putS | apply keeps_onServo | apply keeps_put | apply keeps_infuseEnd | apply Keeps.ite)

theorem keeps_infuseAdvance {s0 : State} {s : State} {a0} {a1} {a2} {a3} (h : Keeps s0 s) :
    Keeps s0 (State.infuseAdvance s a0 a1 a2 a3) := by
  unfold State.infuseAdvance
  repeat' (with_reducible first
    | exact h | apply keeps_count | apply keeps_onServo | apply keeps_raise | apply keeps_infuseEnd | apply keeps_infuseWindow
    | apply Keeps.ite)

theorem keeps_sendAct {s0 : State} {s : State} {a0} {a1} {a2} (h : Keeps s0 s) :
    Keeps s0 (State.sendAct s a0 a1 a2) := by
  unfold State.sendAct
  repeat' (with_reducible first | exact h | apply keeps_send)

theorem keeps_loopOutput {s0 : State} {s : State} {a0} {a1} {a2} (h : Keeps s0 s) :
    Keeps s0 (State.loopOutput s a0 a1 a2) := by
  unfold State.loopOutput
  repeat' (with_reducible first | exact h | apply keeps_setLoop | apply keeps_sendAct | apply keeps_onServo | apply Keeps.ite)

theorem keeps_defectStart {s0 : State} {s : State} {a0} {a1} (h : Keeps s0 s) :
    Holds inFst s0 (State.defectStart s a0 a1) := by
  unfold State.defectStart
  repeat' (with_reducible first
    | exact h | apply keeps_onServo | apply keeps_count | apply keeps_raise | apply Holds.ite | apply Holds.front)

theorem keeps_nodeFlags {s0 : State} {s : State} {a0} {a1} {a2} (h : Keeps s0 s) :
    Keeps s0 (State.nodeFlags s a0 a1 a2) := by
  unfold State.nodeFlags
  repeat' (with_reducible first | exact h | apply keeps_put | apply keeps_recordBay | apply Keeps.ite)

theorem keeps_learnTable {s0 : State} {s : State} {a0} {a1} {a2} (h : Keeps s0 s) :
    Holds inFst s0 (State.learnTable s a0 a1 a2) := by
  unfold State.learnTable
  repeat' first | (with_reducible first | exact h | apply keeps_putS) | dsimp only | split | with_reducible apply Holds.front

theorem keeps_updateLoop {s0 : State} {s : State} {a0} {a1} {a2} (h : Keeps s0 s) :
    Keeps s0 (State.updateLoop s a0 a1 a2) := by
  unfold State.updateLoop
  repeat' first
    | (with_reducible first
      | exact h | apply keeps_defectStart | apply keeps_infuseEnd | apply keeps_loopOutput | apply keeps_setLoop
      | apply keeps_setBitOf | apply keeps_infuseAdvance | apply keeps_trcRecord | apply keeps_raise | apply keeps_learnTable
      | apply keeps_nodeFlags | apply Keeps.ite | apply Holds.ite | apply Keeps.fst)
    | dsimp only | split | with_reducible apply Holds.front

theorem keeps_offerSample {s0 : State} {s : State} {a0} {a1} {a2} (h : Keeps s0 s) :
    Keeps s0 (State.offerSample s a0 a1 a2) := by
  unfold State.offerSample
  repeat' (with_reducible first | exact h | apply keeps_onServo | apply Keeps.ite)

theorem keeps_execServoUpdate {s0 : State} {a0} {a1} {s : State} (h : Keeps s0 s) :
    Holds inNext s0 (execServoUpdate a0 a1 s) := by
  unfold execServoUpdate
  repeat' first
    | intro _
    | (with_reducible first
      | exact h | assumption | apply keeps_onBay | apply keeps_onServo | apply keeps_updateLoop | apply Keeps.ite)
    | dsimp only | split

theorem keeps_commitCheck {s0 : State} {s : State} {a0} {a1} (h : Keeps s0 s) :
    Keeps s0 (State.commitCheck s a0 a1) := by
  unfold State.commitCheck
  repeat' (with_reducible first | exact h | apply keeps_setBitOf | apply keeps_recordBay | apply keeps_raise | apply Keeps.ite)

theorem keeps_execLoopCommit {s0 : State} {a0} {a1} {s : State} (h : Keeps s0 s) :
    Holds inNext s0 (execLoopCommit a0 a1 s) := by
  unfold execLoopCommit
  repeat' first
    | intro _
    | (with_reducible first
      | exact h | assumption | apply keeps_onBay | apply keeps_commitCheck | apply Keeps.ite | apply Keeps.foldl)

theorem keeps_execLoopCommitApply {s0 : State} {a0} {a1} {s : State} (h : Keeps s0 s) :
    Holds inNext s0 (execLoopCommitApply a0 a1 s) := by
  unfold execLoopCommitApply
  repeat' first
    | intro _
    | (with_reducible first
      | exact h | assumption | apply keeps_onBay | apply keeps_infuseStop | apply keeps_setBitOf | apply keeps_onServo
      | apply Keeps.ite)

theorem keeps_hostEn {s0 : State} {s : State} {a0} {a1} {a2} (h : Keeps s0 s) :
    Keeps s0 (State.hostEn s a0 a1 a2) := by
  unfold State.hostEn
  repeat' (with_reducible first | exact h | apply keeps_raise | apply keeps_setEn | apply Keeps.ite)

theorem keeps_execSrvEnWrite {s0 : State} {a0} {a1} {s : State} (h : Keeps s0 s) :
    Holds inNext s0 (execSrvEnWrite a0 a1 s) := by
  unfold execSrvEnWrite
  repeat' first
    | intro _
    | (with_reducible first
      | exact h | assumption | apply keeps_onBay | apply keeps_hostEn | apply keeps_raise | apply Keeps.ite | apply Keeps.foldl)

theorem keeps_execSrvAutoWrite {s0 : State} {a0} {a1} {s : State} (h : Keeps s0 s) :
    Holds inNext s0 (execSrvAutoWrite a0 a1 s) := by
  unfold execSrvAutoWrite
  repeat' first
    | intro _
    | (with_reducible first
      | exact h | assumption | apply keeps_onBay | apply keeps_setAuto | apply keeps_raise | apply Keeps.ite | apply Keeps.foldl)

theorem keeps_execSrvManWrite {s0 : State} {a0} {a1} {a2} {s : State} (h : Keeps s0 s) :
    Holds inNext s0 (execSrvManWrite a0 a1 a2 s) := by
  unfold execSrvManWrite
  repeat' first
    | intro _
    | (with_reducible first
      | exact h | assumption | apply keeps_onBay | apply keeps_put | apply keeps_raise | apply Keeps.ite)

theorem keeps_clearTable {s0 : State} {s : State} {a0} (h : Keeps s0 s) :
    Keeps s0 (State.clearTable s a0) := by
  unfold State.clearTable
  repeat' (with_reducible first | exact h | apply keeps_zero | apply keeps_resetRegs)

theorem keeps_execRepTableClear {s0 : State} {a0} {s : State} (h : Keeps s0 s) :
    Holds inNext s0 (execRepTableClear a0 s) := by
  unfold execRepTableClear
  repeat' first | intro _ | (with_reducible first | exact h | assumption | apply keeps_onBay | apply keeps_clearTable)

theorem keeps_execDefectHoldOverrun {s0 : State} {a0} {s : State} (h : Keeps s0 s) :
    Holds inNext s0 (execDefectHoldOverrun a0 s) := by
  unfold execDefectHoldOverrun
  repeat' first
    | intro _
    | (with_reducible first
      | exact h | assumption | apply keeps_onBay | apply keeps_recordBay | apply keeps_attend | apply keeps_raise
      | apply keeps_zero | apply Keeps.ite)

theorem keeps_execTraceArm {s0 : State} {a0} {s : State} (h : Keeps s0 s) :
    Holds inNext s0 (execTraceArm a0 s) := by
  unfold execTraceArm
  repeat' first
    | intro _
    | (with_reducible first
      | exact h | assumption | apply keeps_onBay | apply keeps_onServo | apply keeps_zero | apply keeps_raise | apply Keeps.ite)

theorem keeps_execTraceForce {s0 : State} {a0} {s : State} (h : Keeps s0 s) :
    Holds inNext s0 (execTraceForce a0 s) := by
  unfold execTraceForce
  repeat' first
    | intro _
    | (with_reducible first
      | exact h | assumption | apply keeps_onBay | apply keeps_raise | apply Keeps.ite)

theorem keeps_execInfusionStart {s0 : State} {a0} {s : State} (h : Keeps s0 s) :
    Holds inNext s0 (execInfusionStart a0 s) := by
  unfold execInfusionStart
  repeat' first
    | intro _
    | (with_reducible first
      | exact h | assumption | apply keeps_onBay | apply keeps_onServo | apply keeps_zero | apply keeps_raise | apply Keeps.ite)

theorem keeps_execInfusionStop {s0 : State} {a0} {s : State} (h : Keeps s0 s) :
    Holds inNext s0 (execInfusionStop a0 s) := by
  unfold execInfusionStop
  repeat' first
    | intro _
    | (with_reducible first
      | exact h | assumption | apply keeps_onBay | apply keeps_infuseStop | apply Keeps.ite)

end Sys2Proof.Machine
end

