-- ==== Sys2Proof/Laws/KeepsTracker.lean ====
section
/-!
SUPPORT. Every operation of Tracker.lean keeps the queue, the part and the canonical stores (Keeps.lean).
-/

namespace Sys2Proof.Machine

theorem keeps_setAcc {s0 : State} {s : State} {a0} {a1} {a2} (h : Keeps s0 s) :
    Keeps s0 (State.setAcc s a0 a1 a2) := by
  unfold State.setAcc
  repeat' (with_reducible first | exact h | apply keeps_put | apply keeps_onTracker | apply keeps_putS | apply Keeps.ite)

theorem keeps_runTo {s0 : State} {s : State} {a0} {a1} (h : Keeps s0 s) :
    Keeps s0 (State.runTo s a0 a1) := by
  unfold State.runTo
  repeat' (with_reducible first | exact h | apply keeps_setAcc)

theorem keeps_phaseUpdate {s0 : State} {s : State} {a0} {a1} {a2} {a3} {a4} {a5} {a6} (h : Keeps s0 s) :
    Keeps s0 (State.phaseUpdate s a0 a1 a2 a3 a4 a5 a6) := by
  unfold State.phaseUpdate
  repeat' (with_reducible first
    | exact h | apply keeps_setAcc | apply keeps_roundOpen | apply keeps_fresh | apply keeps_put | apply keeps_putS
    | apply Holds.ite | apply Keeps.snd | apply Holds.pair)

theorem keeps_wedgeAccept {s0 : State} {s : State} {a0} {a1} {a2} {a3} (h : Keeps s0 s) :
    Keeps s0 (State.wedgeAccept s a0 a1 a2 a3) := by
  unfold State.wedgeAccept
  repeat' (with_reducible first | exact h | apply keeps_phaseUpdate | apply keeps_put | apply keeps_count | apply keeps_zero)

theorem keeps_wedgeMiss {s0 : State} {s : State} {a0} (h : Keeps s0 s) :
    Keeps s0 (State.wedgeMiss s a0) := by
  unfold State.wedgeMiss
  repeat' (with_reducible first | exact h | apply keeps_zero | apply keeps_count | apply keeps_put | apply Keeps.ite)

theorem keeps_setTracker {s0 : State} {s : State} {a0} {a1} (h : Keeps s0 s) :
    Keeps s0 (State.setTracker s a0 a1) := by
  unfold State.setTracker
  repeat' (with_reducible first | exact h | apply keeps_put)

theorem keeps_takeCandidate {s0 : State} {s : State} {a0} {a1} {a2} {a3} (h : Keeps s0 s) :
    Keeps s0 (State.takeCandidate s a0 a1 a2 a3) := by
  unfold State.takeCandidate
  repeat' (with_reducible first | exact h | apply keeps_put | apply keeps_raise | apply keeps_onTracker | apply keeps_zero)

theorem keeps_toothAccept {s0 : State} {s : State} {a0} {a1} (h : Keeps s0 s) :
    Keeps s0 (State.toothAccept s a0 a1) := by
  unfold State.toothAccept
  repeat' (with_reducible first
    | exact h | apply keeps_onTracker | apply keeps_roundOpen | apply keeps_phaseUpdate | apply keeps_setTracker
    | apply Keeps.ite | apply Keeps.snd)

theorem keeps_toothInsert {s0 : State} {s : State} {a0} (h : Keeps s0 s) :
    Keeps s0 (State.toothInsert s a0) := by
  unfold State.toothInsert
  repeat' (with_reducible first | exact h | apply keeps_onTracker | apply keeps_count)

theorem keeps_toothSeek {s0 : State} {s : State} {a0} {a1} (h : Keeps s0 s) :
    Keeps s0 (State.toothSeek s a0 a1) := by
  unfold State.toothSeek
  repeat' (with_reducible first
    | exact h | apply keeps_onTracker | apply keeps_roundOpen | apply keeps_setTracker | apply keeps_put | apply Keeps.ite
    | apply Keeps.snd)

end Sys2Proof.Machine
end

