-- ==== Sys2Proof/Laws/KeepsFocus.lean ====
section
/-!
SUPPORT. Every operation of Focus.lean keeps the queue, the part and the canonical stores (Keeps.lean).
-/

namespace Sys2Proof.Machine

theorem keeps_recordFocus {s0 : State} {s : State} {a0} {a1} {a2} (h : Keeps s0 s) :
    Keeps s0 (State.recordFocus s a0 a1 a2) := by
  unfold State.recordFocus
  repeat' (with_reducible first | exact h | apply keeps_recordBay)

theorem keeps_beginRamp {s0 : State} {s : State} {a0} {a1} (h : Keeps s0 s) :
    Keeps s0 (State.beginRamp s a0 a1) := by
  unfold State.beginRamp
  repeat' (with_reducible first | exact h | apply keeps_put | apply keeps_setMan | apply keeps_setAuto | apply keeps_onFocus)

theorem keeps_beginProbe {s0 : State} {s : State} {a0} (h : Keeps s0 s) :
    Keeps s0 (State.beginProbe s a0) := by
  unfold State.beginProbe
  repeat' (with_reducible first | exact h | apply keeps_onFocus)

theorem keeps_saRehome {s0 : State} {s : State} {a0} {a1} (h : Keeps s0 s) :
    Keeps s0 (State.saRehome s a0 a1) := by
  unfold State.saRehome
  repeat' (with_reducible first | exact h | apply keeps_recordBay | apply keeps_onFocus | apply keeps_stepHome | apply keeps_zero)

theorem keeps_acqFailFuel {s0 : State} {a0} {a1} {a2} {s : State} (h : Keeps s0 s) :
    Keeps s0 (State.acqFailFuel a0 a1 a2 s) := by
  induction a1 generalizing a0 a2 s with
  | zero =>
    unfold State.acqFailFuel
    repeat' with_reducible exact h
  | succ k ih =>
    unfold State.acqFailFuel
    repeat' (with_reducible first
      | exact h | apply ih | apply keeps_onFocus | apply keeps_bayFaultStop | apply keeps_recordFocus | apply keeps_fresh
      | apply keeps_saRehome | apply keeps_beginRamp | apply keeps_beginProbe | apply Keeps.ite | apply Keeps.snd)

theorem keeps_acqFail {s0 : State} {s : State} {a0} {a1} (h : Keeps s0 s) :
    Keeps s0 (State.acqFail s a0 a1) := by
  unfold State.acqFail
  repeat' (with_reducible first | exact h | apply keeps_acqFailFuel)

theorem keeps_beginSweep {s0 : State} {s : State} {a0} (h : Keeps s0 s) :
    Keeps s0 (State.beginSweep s a0) := by
  unfold State.beginSweep
  repeat' (with_reducible first | exact h | apply keeps_beginRamp | apply keeps_acqFail | apply Keeps.ite)

theorem keeps_acqProceed {s0 : State} {s : State} {a0} (h : Keeps s0 s) :
    Keeps s0 (State.acqProceed s a0) := by
  unfold State.acqProceed
  repeat' (with_reducible first | exact h | apply keeps_acqStep1 | apply keeps_beginSweep | apply keeps_stepGo | apply Keeps.ite)

theorem keeps_beginWedges {s0 : State} {s : State} {a0} {a1} (h : Keeps s0 s) :
    Keeps s0 (State.beginWedges s a0 a1) := by
  unfold State.beginWedges
  repeat' (with_reducible first | exact h | apply keeps_startAcq | apply keeps_put | apply keeps_onFocus)

theorem keeps_beginJump {s0 : State} {s : State} {a0} {a1} {a2} (h : Keeps s0 s) :
    Keeps s0 (State.beginJump s a0 a1 a2) := by
  unfold State.beginJump
  repeat' (with_reducible first
    | exact h | apply keeps_openBridge | apply keeps_setAuto | apply keeps_setLearn | apply keeps_onFocus | apply keeps_stepGo
    | apply keeps_put | apply keeps_zero)

theorem keeps_jumpKick {s0 : State} {s : State} {a0} (h : Keeps s0 s) :
    Keeps s0 (State.jumpKick s a0) := by
  unfold State.jumpKick
  repeat' (with_reducible first | exact h | apply keeps_onFocus | apply keeps_setMan | apply keeps_setAuto)

theorem keeps_jumpProceed {s0 : State} {s : State} {a0} (h : Keeps s0 s) :
    Keeps s0 (State.jumpProceed s a0) := by
  unfold State.jumpProceed
  repeat' first | (with_reducible first | exact h | apply keeps_jumpKick | apply keeps_beginProbe | apply Keeps.ite) | split

theorem keeps_jumpFail {s0 : State} {s : State} {a0} {a1} (h : Keeps s0 s) :
    Keeps s0 (State.jumpFail s a0 a1) := by
  unfold State.jumpFail
  repeat' (with_reducible first
    | exact h | apply keeps_onFocus | apply keeps_recordFocus | apply keeps_acqFail | apply keeps_closeBridge
    | apply keeps_enterRecovery | apply Keeps.ite)

theorem keeps_probeFound {s0 : State} {s : State} {a0} {a1} (h : Keeps s0 s) :
    Keeps s0 (State.probeFound s a0 a1) := by
  unfold State.probeFound
  repeat' (with_reducible first
    | exact h | apply keeps_onFocus | apply keeps_put | apply keeps_closeBridge | apply keeps_beginWedges | apply keeps_jumpFail
    | apply keeps_saRehome | apply keeps_beginJump | apply Keeps.ite)

theorem keeps_probeDetection {s0 : State} {s : State} {a0} {a1} (h : Keeps s0 s) :
    Keeps s0 (State.probeDetection s a0 a1) := by
  unfold State.probeDetection
  repeat' (with_reducible first | exact h | apply keeps_onFocus | apply keeps_probeFound | apply Keeps.ite)

theorem keeps_fineKick {s0 : State} {s : State} {a0} {a1} (h : Keeps s0 s) :
    Keeps s0 (State.fineKick s a0 a1) := by
  unfold State.fineKick
  repeat' (with_reducible first
    | exact h | apply keeps_openBridge | apply keeps_setAuto | apply keeps_setLearn | apply keeps_onFocus | apply keeps_setMan)

theorem keeps_fineJump {s0 : State} {s : State} {a0} {a1} (h : Keeps s0 s) :
    Keeps s0 (State.fineJump s a0 a1) := by
  unfold State.fineJump
  repeat' (with_reducible first | exact h | apply keeps_onFocus | apply Keeps.ite)

theorem keeps_coarseStep {s0 : State} {s : State} {a0} {a1} (h : Keeps s0 s) :
    Keeps s0 (State.coarseStep s a0 a1) := by
  unfold State.coarseStep
  repeat' (with_reducible first
    | exact h | apply keeps_openBridge | apply keeps_setMan | apply keeps_setAuto | apply keeps_setLearn | apply keeps_stepGo
    | apply keeps_stepHold | apply keeps_onFocus)

theorem keeps_seekProceed {s0 : State} {s : State} {a0} (h : Keeps s0 s) :
    Keeps s0 (State.seekProceed s a0) := by
  unfold State.seekProceed
  repeat' first
    | (with_reducible first
      | exact h | apply keeps_onFocus | apply keeps_fineJump | apply keeps_enterRecovery | apply keeps_recordFocus
      | apply keeps_coarseStep | apply Keeps.ite)
    | dsimp only | split

theorem keeps_seek {s0 : State} {s : State} {a0} {a1} (h : Keeps s0 s) :
    Keeps s0 (State.seek s a0 a1) := by
  unfold State.seek
  repeat' (with_reducible first | exact h | apply keeps_seekProceed | apply keeps_onFocus)

theorem keeps_sideCount {s0 : State} {s : State} {a0} {a1} {a2} {a3} (h : Keeps s0 s) :
    Keeps s0 (State.sideCount s a0 a1 a2 a3) := by
  unfold State.sideCount
  repeat' (with_reducible first
    | exact h | apply keeps_onFocus | apply keeps_recordFocus | apply keeps_setBitOf | apply Keeps.ite)

theorem keeps_execFocusSweepEnd {s0 : State} {a0} {s : State} (h : Keeps s0 s) :
    Holds inNext s0 (execFocusSweepEnd a0 s) := by
  unfold execFocusSweepEnd
  repeat' first
    | intro _
    | (with_reducible first
      | exact h | assumption | apply keeps_onBay | apply keeps_beginRamp | apply keeps_acqFail | apply Keeps.ite)
    | dsimp only | split

theorem keeps_execFocusSettleEnd {s0 : State} {a0} {s : State} (h : Keeps s0 s) :
    Holds inNext s0 (execFocusSettleEnd a0 s) := by
  unfold execFocusSettleEnd
  repeat' first
    | intro _
    | (with_reducible first
      | exact h | assumption | apply keeps_onBay | apply keeps_beginProbe | apply keeps_onFocus | apply Keeps.ite)

theorem keeps_execLayerProbeFail {s0 : State} {a0} {s : State} (h : Keeps s0 s) :
    Holds inNext s0 (execLayerProbeFail a0 s) := by
  unfold execLayerProbeFail
  repeat' first
    | intro _
    | (with_reducible first
      | exact h | assumption | apply keeps_onBay | apply keeps_fresh | apply keeps_jumpFail | apply keeps_acqFail
      | apply keeps_onFocus | apply Keeps.ite | apply Keeps.snd)

theorem keeps_execTrackingCloseTimeout {s0 : State} {a0} {s : State} (h : Keeps s0 s) :
    Holds inNext s0 (execTrackingCloseTimeout a0 s) := by
  unfold execTrackingCloseTimeout
  repeat' first
    | intro _
    | (with_reducible first
      | exact h | assumption | apply keeps_onBay | apply keeps_acqFail | apply Keeps.ite)

theorem keeps_execLjKickEnd {s0 : State} {a0} {s : State} (h : Keeps s0 s) :
    Holds inNext s0 (execLjKickEnd a0 s) := by
  unfold execLjKickEnd
  repeat' first
    | intro _
    | (with_reducible first
      | exact h | assumption | apply keeps_onBay | apply keeps_onFocus | apply keeps_setMan | apply Keeps.ite)

theorem keeps_execLjBrakeEnd {s0 : State} {a0} {s : State} (h : Keeps s0 s) :
    Holds inNext s0 (execLjBrakeEnd a0 s) := by
  unfold execLjBrakeEnd
  repeat' first
    | intro _
    | (with_reducible first
      | exact h | assumption | apply keeps_onBay | apply keeps_onFocus | apply keeps_setMan | apply Keeps.ite)

theorem keeps_execLjCloseTimeout {s0 : State} {a0} {s : State} (h : Keeps s0 s) :
    Holds inNext s0 (execLjCloseTimeout a0 s) := by
  unfold execLjCloseTimeout
  repeat' first
    | intro _
    | (with_reducible first
      | exact h | assumption | apply keeps_onBay | apply keeps_fresh | apply keeps_jumpFail | apply Keeps.ite | apply Keeps.snd)

theorem keeps_execLjSettleEnd {s0 : State} {a0} {s : State} (h : Keeps s0 s) :
    Holds inNext s0 (execLjSettleEnd a0 s) := by
  unfold execLjSettleEnd
  repeat' first
    | intro _
    | (with_reducible first
      | exact h | assumption | apply keeps_onBay | apply keeps_jumpProceed | apply keeps_onFocus | apply keeps_openBridge
      | apply Keeps.ite)

theorem keeps_execTjKickEnd {s0 : State} {a0} {s : State} (h : Keeps s0 s) :
    Holds inNext s0 (execTjKickEnd a0 s) := by
  unfold execTjKickEnd
  repeat' first
    | intro _
    | (with_reducible first
      | exact h | assumption | apply keeps_onBay | apply keeps_onFocus | apply keeps_setMan | apply Keeps.ite)

theorem keeps_execTjBrakeEnd {s0 : State} {a0} {s : State} (h : Keeps s0 s) :
    Holds inNext s0 (execTjBrakeEnd a0 s) := by
  unfold execTjBrakeEnd
  repeat' first
    | intro _
    | (with_reducible first
      | exact h | assumption | apply keeps_onBay | apply keeps_onFocus | apply keeps_setMan | apply Keeps.ite)

theorem keeps_execTjSettleEnd {s0 : State} {a0} {s : State} (h : Keeps s0 s) :
    Holds inNext s0 (execTjSettleEnd a0 s) := by
  unfold execTjSettleEnd
  repeat' first
    | intro _
    | (with_reducible first
      | exact h | assumption | apply keeps_onBay | apply keeps_onFocus | apply Keeps.ite)

theorem keeps_execFallbackClearWrite {s0 : State} {a0} {a1} {s : State} (h : Keeps s0 s) :
    Holds inNext s0 (execFallbackClearWrite a0 a1 s) := by
  unfold execFallbackClearWrite
  repeat' first | intro _ | (with_reducible first | exact h | assumption | apply keeps_onBay | apply keeps_put)

theorem keeps_execRecoveryTimeout {s0 : State} {a0} {s : State} (h : Keeps s0 s) :
    Holds inNext s0 (execRecoveryTimeout a0 s) := by
  unfold execRecoveryTimeout
  repeat' first
    | intro _
    | (with_reducible first
      | exact h | assumption | apply keeps_onBay | apply keeps_startFocusing | apply Keeps.ite)

end Sys2Proof.Machine
end

