-- ==== Sys2Proof/Laws/KeepsSpindle.lean ====
section
/-!
SUPPORT. Every operation of Spindle.lean keeps the queue, the part and the canonical stores (Keeps.lean).
-/

namespace Sys2Proof.Machine

theorem keeps_recordSpin {s0 : State} {s : State} {a0} {a1} {a2} (h : Keeps s0 s) :
    Keeps s0 (State.recordSpin s a0 a1 a2) := by
  unfold State.recordSpin
  repeat' (with_reducible first | exact h | apply keeps_recordBay)

theorem keeps_showSpeed {s0 : State} {s : State} {a0} (h : Keeps s0 s) :
    Keeps s0 (State.showSpeed s a0) := by
  unfold State.showSpeed
  repeat' (with_reducible first | exact h | apply keeps_roundOpen | apply keeps_put | apply Keeps.snd)

theorem keeps_spinAlign {s0 : State} {s : State} {a0} (h : Keeps s0 s) :
    Keeps s0 (State.spinAlign s a0) := by
  unfold State.spinAlign
  repeat' (with_reducible first
    | exact h | apply keeps_setEn | apply keeps_zero | apply keeps_put | apply keeps_onSpin | apply keeps_setAuto)

theorem keeps_spinUp {s0 : State} {s : State} {a0} (h : Keeps s0 s) :
    Keeps s0 (State.spinUp s a0) := by
  unfold State.spinUp
  repeat' (with_reducible first | exact h | apply keeps_spinAlign | apply keeps_onSpin | apply keeps_spinZero | apply Keeps.ite)

theorem keeps_spinRest {s0 : State} {s : State} {a0} {a1} (h : Keeps s0 s) :
    Keeps s0 (State.spinRest s a0 a1) := by
  unfold State.spinRest
  repeat' (with_reducible first | exact h | apply keeps_spinCoast | apply keeps_spinAlign | apply Keeps.ite)

theorem keeps_startFail {s0 : State} {s : State} {a0} {a1} (h : Keeps s0 s) :
    Keeps s0 (State.startFail s a0 a1) := by
  unfold State.startFail
  repeat' first
    | intro _
    | (with_reducible first
      | exact h | assumption | apply keeps_onSpin | apply keeps_count | apply keeps_bayFault | apply keeps_recordSpin
      | apply keeps_spinZero | apply Keeps.ite)

theorem keeps_observerTooth {s0 : State} {s : State} {a0} {a1} (h : Keeps s0 s) :
    Keeps s0 (State.observerTooth s a0 a1) := by
  unfold State.observerTooth
  repeat' (with_reducible first
    | exact h | apply keeps_setAuto | apply keeps_setEn | apply keeps_put | apply keeps_onSpin | apply keeps_setMan
    | apply Keeps.ite)

theorem keeps_setTarget {s0 : State} {s : State} {a0} {a1} (h : Keeps s0 s) :
    Keeps s0 (State.setTarget s a0 a1) := by
  unfold State.setTarget
  repeat' (with_reducible first
    | exact h | apply keeps_put | apply keeps_onSpin | apply keeps_zero | apply keeps_raise | apply Keeps.ite)

theorem keeps_spinAutoSpeed {s0 : State} {s : State} {a0} (h : Keeps s0 s) :
    Keeps s0 (State.spinAutoSpeed s a0) := by
  unfold State.spinAutoSpeed
  repeat' (with_reducible first | exact h | apply keeps_onSpin | apply keeps_setAuto | apply keeps_setTarget | apply Keeps.ite)

theorem keeps_speedFlags {s0 : State} {s : State} {a0} (h : Keeps s0 s) :
    Keeps s0 (State.speedFlags s a0) := by
  unfold State.speedFlags
  repeat' (with_reducible first | exact h | apply keeps_putB)

theorem keeps_speedSample {s0 : State} {s : State} {a0} {a1} (h : Keeps s0 s) :
    Keeps s0 (State.speedSample s a0 a1) := by
  unfold State.speedSample
  repeat' first
    | intro _
    | (with_reducible first
      | exact h | assumption | apply keeps_showSpeed | apply keeps_onSpin | apply keeps_roundOpen | apply keeps_speedFlags
      | apply keeps_offerSample | apply keeps_bayFault | apply keeps_recordSpin | apply keeps_spinZero
      | apply keeps_startFocusing | apply Keeps.ite | apply Keeps.snd)

theorem keeps_observerLoss {s0 : State} {s : State} {a0} {a1} (h : Keeps s0 s) :
    Keeps s0 (State.observerLoss s a0 a1) := by
  unfold State.observerLoss
  repeat' first
    | intro _
    | (with_reducible first
      | exact h | assumption | apply keeps_startFail | apply keeps_bayFault | apply keeps_recordSpin | apply keeps_spinCoast
      | apply Keeps.ite)

theorem keeps_keRevolution {s0 : State} {s : State} {a0} (h : Keeps s0 s) :
    Keeps s0 (State.keRevolution s a0) := by
  unfold State.keRevolution
  repeat' first
    | intro _
    | (with_reducible first
      | exact h | assumption | apply keeps_onSpin | apply keeps_roundOpen | apply keeps_put | apply keeps_bayFault
      | apply keeps_recordSpin | apply keeps_raise | apply keeps_spinZero | apply Keeps.ite | apply Keeps.snd)

theorem keeps_predictAxis {s0 : State} {s : State} {a0} {a1} {a2} {a3} {a4} (h : Keeps s0 s) :
    Holds inSnd s0 (State.predictAxis s a0 a1 a2 a3 a4) := by
  unfold State.predictAxis
  repeat' first
    | (with_reducible first | exact h | apply keeps_roundOpen | apply Keeps.snd) | dsimp only | with_reducible apply Holds.pair

theorem keeps_decouple {s0 : State} {s : State} {a0} {a1} {a2} (h : Keeps s0 s) :
    Keeps s0 (State.decouple s a0 a1 a2) := by
  unfold State.decouple
  repeat' (with_reducible first | exact h | apply keeps_roundOpen | apply keeps_putS | apply Keeps.ite | apply Keeps.snd)

theorem keeps_sendPwm {s0 : State} {s : State} {a0} {a1} {a2} {a3} {a4} (h : Keeps s0 s) :
    Keeps s0 (State.sendPwm s a0 a1 a2 a3 a4) := by
  unfold State.sendPwm
  repeat' (with_reducible first | exact h | apply keeps_send)

theorem keeps_currentStep {s0 : State} {s : State} {a0} {a1} {a2} {a3} {a4} {a5} (h : Keeps s0 s) :
    Keeps s0 (State.currentStep s a0 a1 a2 a3 a4 a5) := by
  unfold State.currentStep
  repeat' first
    | (with_reducible first
      | exact h | apply keeps_decouple | apply keeps_updateLoop | apply keeps_roundOpen | apply keeps_raise
      | apply keeps_sendPwm | apply keeps_onSpin | apply Holds.ite | apply Keeps.third | apply Keeps.snd)
    | dsimp only | split | with_reducible apply Holds.triple

theorem keeps_forcedStep {s0 : State} {s : State} {a0} {a1} (h : Keeps s0 s) :
    Keeps s0 (State.forcedStep s a0 a1) := by
  unfold State.forcedStep
  repeat' (with_reducible first | exact h | apply keeps_onSpin)

theorem keeps_rampStep {s0 : State} {s : State} {a0} {a1} (h : Keeps s0 s) :
    Keeps s0 (State.rampStep s a0 a1) := by
  unfold State.rampStep
  repeat' (with_reducible first | exact h | apply keeps_onSpin | apply keeps_zero | apply Keeps.ite)

theorem keeps_stopStep {s0 : State} {s : State} {a0} (h : Keeps s0 s) :
    Keeps s0 (State.stopStep s a0) := by
  unfold State.stopStep
  repeat' (with_reducible first
    | exact h | apply keeps_spinRest | apply keeps_spinZero | apply keeps_onSpin | apply keeps_put | apply keeps_recordSpin
    | apply Keeps.ite)

theorem keeps_predictEnd {s0 : State} {s : State} {a0} (h : Keeps s0 s) :
    Keeps s0 (State.predictEnd s a0) := by
  unfold State.predictEnd
  repeat' (with_reducible first | exact h | apply keeps_onSpin | apply keeps_recordSpin | apply keeps_zero | apply Keeps.ite)

theorem keeps_predictCount {s0 : State} {s : State} {a0} (h : Keeps s0 s) :
    Keeps s0 (State.predictCount s a0) := by
  unfold State.predictCount
  repeat' (with_reducible first
    | exact h | apply keeps_onSpin | apply keeps_count | apply keeps_recordSpin | apply keeps_raise | apply Keeps.ite)

theorem keeps_emfCount {s0 : State} {s : State} {a0} {a1} (h : Keeps s0 s) :
    Keeps s0 (State.emfCount s a0 a1) := by
  unfold State.emfCount
  repeat' (with_reducible first | exact h | apply keeps_onSpin | apply keeps_observerLoss | apply Keeps.ite)

theorem keeps_parkCurrents {s0 : State} {s : State} {a0} {a1} {a2} {a3} (h : Keeps s0 s) :
    Holds inThird s0 (State.parkCurrents s a0 a1 a2 a3) := by
  unfold State.parkCurrents
  repeat' first
    | (with_reducible first | exact h | apply keeps_roundOpen | apply Keeps.snd) | dsimp only | split
    | with_reducible apply Holds.triple

theorem keeps_keAccumulate {s0 : State} {s : State} {a0} {a1} {a2} {a3} (h : Keeps s0 s) :
    Keeps s0 (State.keAccumulate s a0 a1 a2 a3) := by
  unfold State.keAccumulate
  repeat' (with_reducible first | exact h | apply keeps_onSpin)

theorem keeps_stopBus {s0 : State} {s : State} {a0} (h : Keeps s0 s) :
    Keeps s0 (State.stopBus s a0) := by
  unfold State.stopBus
  repeat' (with_reducible first | exact h | apply keeps_stopStep | apply Keeps.ite)

theorem keeps_motorPeriod {s0 : State} {s : State} {a0} {a1} {a2} {a3} {a4} {a5} (h : Keeps s0 s) :
    Keeps s0 (State.motorPeriod s a0 a1 a2 a3 a4 a5) := by
  unfold State.motorPeriod
  repeat' first
    | (with_reducible first
      | exact h | apply keeps_onSpin | apply keeps_sendPwm | apply keeps_stopBus | apply keeps_forcedStep | apply keeps_rampStep
      | apply keeps_parkCurrents | apply keeps_predictEnd | apply keeps_keAccumulate | apply keeps_predictCount
      | apply keeps_predictAxis | apply keeps_emfCount | apply keeps_currentStep | apply keeps_stopStep | apply Keeps.ite
      | apply Keeps.third | apply Keeps.snd)
    | dsimp only | split | with_reducible apply Holds.triple

theorem keeps_iaCrossing {s0 : State} {s : State} {a0} {a1} {a2} (h : Keeps s0 s) :
    Keeps s0 (State.iaCrossing s a0 a1 a2) := by
  unfold State.iaCrossing
  repeat' (with_reducible first | exact h | apply keeps_showSpeed | apply keeps_onSpin | apply keeps_spinRest | apply Keeps.ite)

theorem keeps_execMotorFrameReceive {s0 : State} {a0} {a1} {a2} {a3} {a4} {a5} {s : State} (h : Keeps s0 s) :
    Holds inNext s0 (execMotorFrameReceive a0 a1 a2 a3 a4 a5 s) := by
  unfold execMotorFrameReceive
  repeat' first
    | intro _
    | (with_reducible first
      | exact h | assumption | apply keeps_onBay | apply keeps_takeFrame | apply keeps_onSpin | apply keeps_motorPeriod
      | apply keeps_iaCrossing | apply Keeps.ite)

theorem keeps_execMotorFrameMissing {s0 : State} {a0} {a1} {a2} {a3} {s : State} (h : Keeps s0 s) :
    Holds inNext s0 (execMotorFrameMissing a0 a1 a2 a3 s) := by
  unfold execMotorFrameMissing
  repeat' first | intro _ | (with_reducible first | exact h | assumption | apply keeps_onBay | apply keeps_motorPeriod)

theorem keeps_execSpinAlignEnd {s0 : State} {a0} {s : State} (h : Keeps s0 s) :
    Holds inNext s0 (execSpinAlignEnd a0 s) := by
  unfold execSpinAlignEnd
  repeat' first
    | intro _
    | (with_reducible first
      | exact h | assumption | apply keeps_onBay | apply keeps_onSpin | apply keeps_put | apply Keeps.ite)

theorem keeps_execSpinHandoverTimeout {s0 : State} {a0} {s : State} (h : Keeps s0 s) :
    Holds inNext s0 (execSpinHandoverTimeout a0 s) := by
  unfold execSpinHandoverTimeout
  repeat' first
    | intro _
    | (with_reducible first
      | exact h | assumption | apply keeps_onBay | apply keeps_startFail | apply Keeps.ite)

theorem keeps_execSpinSpeedStepTimeout {s0 : State} {a0} {s : State} (h : Keeps s0 s) :
    Holds inNext s0 (execSpinSpeedStepTimeout a0 s) := by
  unfold execSpinSpeedStepTimeout
  repeat' first
    | intro _
    | (with_reducible first
      | exact h | assumption | apply keeps_onBay | apply keeps_startFail | apply Keeps.ite)

theorem keeps_execSpinDirWrite {s0 : State} {a0} {a1} {s : State} (h : Keeps s0 s) :
    Holds inNext s0 (execSpinDirWrite a0 a1 s) := by
  unfold execSpinDirWrite
  repeat' first
    | intro _
    | (with_reducible first
      | exact h | assumption | apply keeps_onBay | apply keeps_recordSpin | apply keeps_count | apply keeps_raise
      | apply keeps_put | apply Keeps.ite)

theorem keeps_execZeroCrossingTimeout {s0 : State} {a0} {s : State} (h : Keeps s0 s) :
    Holds inNext s0 (execZeroCrossingTimeout a0 s) := by
  unfold execZeroCrossingTimeout
  repeat' first
    | intro _
    | (with_reducible first
      | exact h | assumption | apply keeps_onBay | apply keeps_spinRest | apply Keeps.ite)

theorem keeps_execSpeedRegulationTimeout {s0 : State} {a0} {s : State} (h : Keeps s0 s) :
    Holds inNext s0 (execSpeedRegulationTimeout a0 s) := by
  unfold execSpeedRegulationTimeout
  repeat' first
    | intro _
    | (with_reducible first
      | exact h | assumption | apply keeps_onBay | apply keeps_bayFaultStop | apply keeps_recordSpin | apply Keeps.ite)

end Sys2Proof.Machine
end

