-- ==== Sys2Proof/Laws/KeepsStepper.lean ====
section
/-!
SUPPORT. Every operation of Stepper.lean keeps the queue, the part and the canonical stores (Keeps.lean).
-/

namespace Sys2Proof.Machine

theorem keeps_recordStep {s0 : State} {s : State} {a0} {a1} {a2} {a3} (h : Keeps s0 s) :
    Keeps s0 (State.recordStep s a0 a1 a2 a3) := by
  unfold State.recordStep
  repeat' (with_reducible first | exact h | apply keeps_recordBay)

theorem keeps_stepDueBy {s0 : State} {s : State} {a0} {a1} {a2} {a3} (h : Keeps s0 s) :
    Keeps s0 (State.stepDueBy s a0 a1 a2 a3) := by
  unfold State.stepDueBy
  repeat' first
    | (with_reducible first | exact h | apply keeps_stepFrameAt | apply keeps_setBay | apply Keeps.ite) | dsimp only | split

theorem keeps_stepEvents {s0 : State} {a0} {a1} {a2} {a3} {s : State} (h : Keeps s0 s) :
    Keeps s0 (State.stepEvents a0 a1 a2 a3 s) := by
  induction a1 generalizing a0 a2 a3 s with
  | nil =>
    unfold State.stepEvents
    repeat' (with_reducible first | exact h | apply keeps_stepDueBy | apply keeps_setBay)
  | cons x r ih =>
    unfold State.stepEvents
    repeat' (with_reducible first | exact h | apply ih | apply keeps_stepDueBy | apply keeps_setBay)

theorem keeps_followTick {s0 : State} {s : State} {a0} {a1} (h : Keeps s0 s) :
    Keeps s0 (State.followTick s a0 a1) := by
  unfold State.followTick
  repeat' (with_reducible first
    | exact h | apply keeps_roundOpen | apply keeps_setStepper | apply keeps_fresh | apply keeps_recordStep | apply keeps_raise
    | apply Keeps.ite | apply Keeps.snd)

theorem keeps_homeHold {s0 : State} {s : State} {a0} {a1} (h : Keeps s0 s) :
    Keeps s0 (State.homeHold s a0 a1) := by
  unfold State.homeHold
  repeat' (with_reducible first | exact h | apply keeps_setStepper)

theorem keeps_stepTick {s0 : State} {s : State} {a0} {a1} (h : Keeps s0 s) :
    Keeps s0 (State.stepTick s a0 a1) := by
  unfold State.stepTick
  repeat' first
    | (with_reducible first
      | exact h | apply keeps_setStepper | apply keeps_homeHold | apply keeps_stepFinal | apply keeps_stepBegin
      | apply keeps_planPos | apply keeps_followTick | apply Keeps.ite | apply Keeps.snd)
    | dsimp only | split

theorem keeps_stepSamples {s0 : State} {s : State} {a0} (h : Keeps s0 s) :
    Keeps s0 (State.stepSamples s a0) := by
  unfold State.stepSamples
  repeat' first
    | (with_reducible first
      | exact h | apply keeps_fresh | apply keeps_roundOpen | apply keeps_offerSample | apply keeps_onServo | apply Holds.ite
      | apply Keeps.snd)
    | dsimp only | with_reducible apply Holds.pair

theorem keeps_plannerTick {s0 : State} {s : State} {a0} (h : Keeps s0 s) :
    Keeps s0 (State.plannerTick s a0) := by
  unfold State.plannerTick
  repeat' (with_reducible first
    | exact h | apply keeps_stepTick | apply keeps_stepSamples | apply keeps_stepShow | apply keeps_stepEvents)

theorem keeps_setCount {s0 : State} {s : State} {a0} {a1} (h : Keeps s0 s) :
    Keeps s0 (State.setCount s a0 a1) := by
  unfold State.setCount
  repeat' (with_reducible first | exact h | apply keeps_putS)

theorem keeps_homeDone {s0 : State} {s : State} {a0} {a1} (h : Keeps s0 s) :
    Keeps s0 (State.homeDone s a0 a1) := by
  unfold State.homeDone
  repeat' (with_reducible first
    | exact h | apply keeps_setStepper | apply keeps_stepShow | apply keeps_put | apply keeps_raise | apply keeps_setCount
    | apply keeps_stepGo | apply Keeps.ite)

theorem keeps_homeHoldEnd {s0 : State} {s : State} {a0} {a1} (h : Keeps s0 s) :
    Keeps s0 (State.homeHoldEnd s a0 a1) := by
  unfold State.homeHoldEnd
  repeat' first | (with_reducible first | exact h | apply keeps_setStepper | apply keeps_homeDone) | dsimp only | split

theorem keeps_onEnc {s0 : State} {s : State} {a0} {a1} (h : Keeps s0 s) :
    Keeps s0 (State.onEnc s a0 a1) := by
  unfold State.onEnc
  repeat' (with_reducible first | exact h | apply keeps_setBay)

theorem keeps_stallResume {s0 : State} {s : State} {a0} (h : Keeps s0 s) :
    Keeps s0 (State.stallResume s a0) := by
  unfold State.stallResume
  repeat' (with_reducible first | exact h | apply keeps_stepBegin | apply keeps_setStepper | apply keeps_onEnc)

theorem keeps_encFault {s0 : State} {s : State} {a0} (h : Keeps s0 s) :
    Keeps s0 (State.encFault s a0) := by
  unfold State.encFault
  repeat' (with_reducible first
    | exact h | apply keeps_recordStep | apply keeps_raise | apply keeps_stallResume | apply Keeps.ite)

theorem keeps_stall {s0 : State} {s : State} {a0} {a1} (h : Keeps s0 s) :
    Keeps s0 (State.stall s a0 a1) := by
  unfold State.stall
  repeat' (with_reducible first
    | exact h | apply keeps_setStepper | apply keeps_endGateRun | apply keeps_onEnc | apply keeps_put | apply keeps_count
    | apply keeps_raise | apply keeps_recordStep | apply keeps_bayFaultStop | apply Keeps.ite)

theorem keeps_devCheck {s0 : State} {s : State} {a0} {a1} (h : Keeps s0 s) :
    Keeps s0 (State.devCheck s a0 a1) := by
  unfold State.devCheck
  repeat' (with_reducible first | exact h | apply keeps_onEnc | apply keeps_putS | apply keeps_stall | apply Keeps.ite)

theorem keeps_encTake {s0 : State} {s : State} {a0} {a1} (h : Keeps s0 s) :
    Keeps s0 (State.encTake s a0 a1) := by
  unfold State.encTake
  repeat' (with_reducible first
    | exact h | apply keeps_onEnc | apply keeps_count | apply keeps_setCount | apply keeps_raise | apply keeps_encFault
    | apply keeps_homeHold | apply keeps_devCheck | apply Keeps.ite)

theorem keeps_stallResync {s0 : State} {s : State} {a0} (h : Keeps s0 s) :
    Keeps s0 (State.stallResync s a0) := by
  unfold State.stallResync
  repeat' (with_reducible first
    | exact h | apply keeps_stallResume | apply keeps_stepShow | apply keeps_setStepper | apply Keeps.ite)

theorem keeps_stepWrite {s0 : State} {s : State} {a0} {a1} {a2} (h : Keeps s0 s) (hfa2 : ∀ t, Keeps s0 t → Keeps s0 (a2 t)) :
    Keeps s0 (State.stepWrite s a0 a1 a2) := by
  unfold State.stepWrite
  repeat' (with_reducible first | exact h | apply hfa2 | apply keeps_raise | apply Keeps.ite)

theorem keeps_execStepperGo {s0 : State} {a0} {a1} {a2} {s : State} (h : Keeps s0 s) :
    Holds inNext s0 (execStepperGo a0 a1 a2 s) := by
  unfold execStepperGo
  repeat' first
    | intro _
    | (with_reducible first
      | exact h | assumption | apply keeps_onBay | apply keeps_stepWrite | apply keeps_stepGo | apply keeps_raise
      | apply Keeps.ite)

theorem keeps_execStepperOff {s0 : State} {a0} {a1} {a2} {s : State} (h : Keeps s0 s) :
    Holds inNext s0 (execStepperOff a0 a1 a2 s) := by
  unfold execStepperOff
  repeat' first
    | intro _
    | (with_reducible first
      | exact h | assumption | apply keeps_onBay | apply keeps_stepWrite | apply keeps_stepOff)

theorem keeps_execStepperHold {s0 : State} {a0} {a1} {a2} {s : State} (h : Keeps s0 s) :
    Holds inNext s0 (execStepperHold a0 a1 a2 s) := by
  unfold execStepperHold
  repeat' first
    | intro _
    | (with_reducible first
      | exact h | assumption | apply keeps_onBay | apply keeps_stepWrite | apply keeps_stepHold)

theorem keeps_execStepperFollow {s0 : State} {a0} {a1} {a2} {s : State} (h : Keeps s0 s) :
    Holds inNext s0 (execStepperFollow a0 a1 a2 s) := by
  unfold execStepperFollow
  repeat' first
    | intro _
    | (with_reducible first
      | exact h | assumption | apply keeps_onBay | apply keeps_stepWrite | apply keeps_stepFollow)

theorem keeps_execStepperHome {s0 : State} {a0} {a1} {a2} {s : State} (h : Keeps s0 s) :
    Holds inNext s0 (execStepperHome a0 a1 a2 s) := by
  unfold execStepperHome
  repeat' first
    | intro _
    | (with_reducible first
      | exact h | assumption | apply keeps_onBay | apply keeps_stepWrite | apply keeps_stepHome)

theorem keeps_execStepperPark {s0 : State} {a0} {a1} {s : State} (h : Keeps s0 s) :
    Holds inNext s0 (execStepperPark a0 a1 s) := by
  unfold execStepperPark
  repeat' first | intro _ | (with_reducible first | exact h | assumption | apply keeps_onBay | apply keeps_stepPark)

theorem keeps_execEncFaultClear {s0 : State} {a0} {s : State} (h : Keeps s0 s) :
    Holds inNext s0 (execEncFaultClear a0 s) := by
  unfold execEncFaultClear
  repeat' first
    | intro _
    | (with_reducible first
      | exact h | assumption | apply keeps_onBay | apply keeps_onEnc | apply keeps_setCount | apply keeps_zero | apply Keeps.ite)

end Sys2Proof.Machine
end

