-- ==== Sys2Proof/Laws/KeepsItems.lean ====
section
/-!
SUPPORT. Every operation of Items.lean keeps the queue, the part and the canonical stores (Keeps.lean).
-/

namespace Sys2Proof.Machine

theorem keeps_resolveItem {s0 : State} {s : State} {a0} {a1} {a2} {a3} (h : Keeps s0 s) :
    Keeps s0 (State.resolveItem s a0 a1 a2 a3) := by
  unfold State.resolveItem
  repeat' first | (with_reducible first | exact h | apply keeps_setTag | apply Keeps.ite) | split

theorem keeps_onTag {s0 : State} {s : State} {a0} {a1} {a2} (h : Keeps s0 s) :
    Keeps s0 (State.onTag s a0 a1 a2) := by
  unfold State.onTag
  repeat' first | (with_reducible first | exact h | apply keeps_setTag) | split

end Sys2Proof.Machine
end

