-- ==== Sys2Proof/Laws/KeepsCalib.lean ====
section
/-!
SUPPORT. Every operation of Calib.lean keeps the queue, the part and the canonical stores (Keeps.lean).
-/

namespace Sys2Proof.Machine

theorem keeps_ztWrite {s0 : State} {s : State} {a0} {a1} {a2} (h : Keeps s0 s) :
    Keeps s0 (State.ztWrite s a0 a1 a2) := by
  unfold State.ztWrite
  repeat' (with_reducible first | exact h | apply keeps_dramWrite)

theorem keeps_ztMark {s0 : State} {s : State} {a0} {a1} {a2} (h : Keeps s0 s) :
    Keeps s0 (State.ztMark s a0 a1 a2) := by
  unfold State.ztMark
  repeat' (with_reducible first | exact h | apply keeps_ztWrite)

theorem keeps_showWcal {s0 : State} {s : State} {a0} (h : Keeps s0 s) :
    Keeps s0 (State.showWcal s a0) := by
  unfold State.showWcal
  repeat' (with_reducible first | exact h | apply keeps_putB)

theorem keeps_applyBias {s0 : State} {s : State} {a0} {a1} (h : Keeps s0 s) :
    Keeps s0 (State.applyBias s a0 a1) := by
  unfold State.applyBias
  repeat' (with_reducible first | exact h | apply keeps_put)

theorem keeps_comp {s0 : State} {s : State} {a0} {a1} (h : Keeps s0 s) :
    Holds inSnd s0 (State.comp s a0 a1) := by
  unfold State.comp
  repeat' first
    | (with_reducible first
      | exact h | apply keeps_fresh | apply keeps_roundOpen | apply Holds.ite | apply Keeps.snd)
    | dsimp only | with_reducible apply Holds.pair

theorem keeps_beamResult {s0 : State} {s : State} {a0} {a1} {a2} {a3} {a4} (h : Keeps s0 s) :
    Holds inSnd s0 (State.beamResult s a0 a1 a2 a3 a4) := by
  unfold State.beamResult
  repeat' first
    | (with_reducible first
      | exact h | apply keeps_fresh | apply keeps_comp | apply Holds.ite | apply Keeps.snd)
    | dsimp only | split | with_reducible apply Holds.pair

theorem keeps_beamResults {s0 : State} {s : State} {a0} {a1} {a2} (h : Keeps s0 s) :
    Holds inSnd s0 (State.beamResults s a0 a1 a2) := by
  induction a2 generalizing s a0 a1 with
  | nil =>
    unfold State.beamResults
    repeat' (with_reducible first | exact h | apply Holds.pair)
  | cons x r ih =>
    unfold State.beamResults
    repeat' first
      | (with_reducible first | exact h | apply ih | apply keeps_beamResult | apply Keeps.snd) | dsimp only
      | with_reducible apply Holds.pair

theorem keeps_sideResult {s0 : State} {s : State} {a0} {a1} {a2} (h : Keeps s0 s) :
    Holds inSnd s0 (State.sideResult s a0 a1 a2) := by
  unfold State.sideResult
  repeat' first
    | (with_reducible first | exact h | apply keeps_comp | apply Holds.ite | apply Keeps.snd) | dsimp only
    | with_reducible apply Holds.pair

theorem keeps_crossResult {s0 : State} {s : State} {a0} {a1} {a2} (h : Keeps s0 s) :
    Holds inSnd s0 (State.crossResult s a0 a1 a2) := by
  unfold State.crossResult
  repeat' first
    | (with_reducible first | exact h | apply keeps_sideResult | apply keeps_comp | apply Keeps.snd) | dsimp only | split
    | with_reducible apply Holds.pair

theorem keeps_xnoise {s0 : State} {s : State} {a0} {a1} (h : Keeps s0 s) :
    Holds inSnd s0 (State.xnoise s a0 a1) := by
  unfold State.xnoise
  repeat' (with_reducible first | exact h | apply keeps_comp | apply Holds.ite | apply Holds.pair)

theorem keeps_vertex {s0 : State} {s : State} {a0} (h : Keeps s0 s) :
    Holds inSnd s0 (State.vertex s a0) := by
  unfold State.vertex
  repeat' first
    | (with_reducible first | exact h | apply keeps_comp | apply Holds.ite | apply Keeps.snd) | dsimp only
    | with_reducible apply Holds.pair

theorem keeps_pcaResult {s0 : State} {s : State} {a0} {a1} {a2} (h : Keeps s0 s) :
    Holds inSnd s0 (State.pcaResult s a0 a1 a2) := by
  unfold State.pcaResult
  repeat' first
    | (with_reducible first | exact h | apply keeps_comp | apply Holds.ite | apply Keeps.snd) | dsimp only
    | with_reducible apply Holds.pair

theorem keeps_putFields {s0 : State} {s : State} {a0} {a1} {a2} (h : Keeps s0 s) :
    Holds inSnd s0 (State.putFields s a0 a1 a2) := by
  induction a1 generalizing s a0 a2 with
  | nil => exact Holds.pair h
  | cons x r ih =>
    cases a2 with
    | nil => exact Holds.pair h
    | cons y l => exact ih (Keeps.snd (keeps_roundOpen h))

theorem keeps_calQueue {s0 : State} {s : State} {a0} {a1} (h : Keeps s0 s) :
    Keeps s0 (State.calQueue s a0 a1) := by
  unfold State.calQueue
  repeat' first
    | (with_reducible first | exact h | apply keeps_onCal | apply keeps_onSched | apply Keeps.ite) | dsimp only | split

theorem keeps_tempCheck {s0 : State} {s : State} {a0} {a1} (h : Keeps s0 s) :
    Keeps s0 (State.tempCheck s a0 a1) := by
  unfold State.tempCheck
  repeat' first
    | intro _
    | (with_reducible first
      | exact h | assumption | apply keeps_showWcal | apply keeps_onDisc | apply keeps_count | apply keeps_calQueue
      | apply keeps_ztMark | apply keeps_roundOpen | apply keeps_recordBay | apply Keeps.ite | apply Keeps.foldl
      | apply Keeps.snd)

theorem keeps_zoneEnter {s0 : State} {s : State} {a0} {a1} (h : Keeps s0 s) :
    Keeps s0 (State.zoneEnter s a0 a1) := by
  unfold State.zoneEnter
  repeat' (with_reducible first | exact h | apply keeps_tempCheck | apply keeps_calQueue | apply Keeps.ite)

theorem keeps_calAtFocus {s0 : State} {s : State} {a0} (h : Keeps s0 s) :
    Keeps s0 (State.calAtFocus s a0) := by
  unfold State.calAtFocus
  repeat' (with_reducible first | exact h | apply keeps_calQueue | apply Keeps.ite)

theorem keeps_calShow {s0 : State} {s : State} {a0} (h : Keeps s0 s) :
    Keeps s0 (State.calShow s a0) := by
  unfold State.calShow
  repeat' first | (with_reducible first | exact h | apply keeps_put | apply keeps_raise) | dsimp only | split

theorem keeps_pcaStart {s0 : State} {s : State} {a0} {a1} (h : Keeps s0 s) :
    Holds inSome s0 (State.pcaStart s a0 a1) := by
  unfold State.pcaStart
  repeat' first
    | (with_reducible first
      | exact h | apply keeps_createEntry | apply keeps_onCal | apply keeps_onWrite | apply keeps_seek | apply keeps_put
      | apply keeps_putS | apply Holds.some | apply Holds.none)
    | (refine Keeps.ofSomePair (by with_reducible assumption) ?_) | dsimp only | split

theorem keeps_calRunStart {s0 : State} {s : State} {a0} {a1} (h : Keeps s0 s) :
    Keeps s0 (State.calRunStart s a0 a1) := by
  unfold State.calRunStart
  repeat' first
    | (with_reducible first
      | exact h | apply keeps_setTarget | apply keeps_putS | apply keeps_roundOpen | apply keeps_stepFollow | apply keeps_put
      | apply keeps_pcaStart | apply Keeps.ite | apply Keeps.getD | apply Keeps.snd)
    | dsimp only | split

theorem keeps_calFinish {s0 : State} {s : State} {a0} {a1} (h : Keeps s0 s) :
    Keeps s0 (State.calFinish s a0 a1) := by
  unfold State.calFinish
  repeat' (with_reducible first
    | exact h | apply keeps_onSched | apply keeps_passSafe | apply keeps_onCal | apply keeps_calIdle | apply keeps_zero
    | apply keeps_onWrite | apply keeps_showWcal | apply keeps_applyBias | apply keeps_raise | apply keeps_setBayState
    | apply Keeps.ite)

theorem keeps_calWrite {s0 : State} {s : State} {a0} {a1} {a2} (h : Keeps s0 s) :
    Keeps s0 (State.calWrite s a0 a1 a2) := by
  unfold State.calWrite
  repeat' (with_reducible first | exact h | apply keeps_ztWrite | apply keeps_onDisc | apply keeps_calFinish | apply Keeps.ite)

theorem keeps_calNext {s0 : State} {s : State} {a0} {a1} (h : Keeps s0 s) :
    Keeps s0 (State.calNext s a0 a1) := by
  unfold State.calNext
  repeat' (with_reducible first
    | exact h | apply keeps_calWrite | apply keeps_onCal | apply keeps_calRunStart | apply keeps_calShow | apply Keeps.ite)

theorem keeps_shownResult {s0 : State} {s : State} {a0} (h : Keeps s0 s) :
    Holds inSnd s0 (State.shownResult s a0) := by
  unfold State.shownResult
  repeat' first | (with_reducible first | exact h | apply keeps_fresh) | split | with_reducible apply Holds.pair

theorem keeps_calUnsettled {s0 : State} {s : State} {a0} {a1} (h : Keeps s0 s) :
    Keeps s0 (State.calUnsettled s a0 a1) := by
  unfold State.calUnsettled
  repeat' (with_reducible first
    | exact h | apply keeps_shownResult | apply keeps_recordBay | apply keeps_count | apply keeps_calNext | apply Keeps.snd)

theorem keeps_pcaFull {s0 : State} {s : State} {a0} {a1} (h : Keeps s0 s) :
    Keeps s0 (State.pcaFull s a0 a1) := by
  unfold State.pcaFull
  repeat' (with_reducible first | exact h | apply keeps_calNext | apply keeps_recordBay)

theorem keeps_calInherit {s0 : State} {s : State} {a0} {a1} (h : Keeps s0 s) :
    Keeps s0 (State.calInherit s a0 a1) := by
  unfold State.calInherit
  repeat' (with_reducible first | exact h | apply keeps_recordBay | apply keeps_calNext)

theorem keeps_runResult {s0 : State} {s : State} {a0} {a1} {a2} {a3} (h : Keeps s0 s) :
    Holds inSnd s0 (State.runResult s a0 a1 a2 a3) := by
  unfold State.runResult
  repeat' first
    | (with_reducible first
      | exact h | apply keeps_beamResults | apply keeps_crossResult | apply keeps_xnoise | apply keeps_vertex
      | apply keeps_pcaResult | apply Holds.ite | apply Keeps.snd)
    | dsimp only | split | with_reducible apply Holds.pair

theorem keeps_calSettled {s0 : State} {s : State} {a0} {a1} {a2} {a3} (h : Keeps s0 s) :
    Keeps s0 (State.calSettled s a0 a1 a2 a3) := by
  unfold State.calSettled
  repeat' first
    | (with_reducible first | exact h | apply keeps_putFields | apply keeps_calNext | apply Keeps.snd) | split
    | with_reducible apply Holds.pair

theorem keeps_pcaFound {s0 : State} {s : State} {a0} {a1} {a2} {a3} (h : Keeps s0 s) :
    Keeps s0 (State.pcaFound s a0 a1 a2 a3) := by
  unfold State.pcaFound
  repeat' (with_reducible first | exact h | apply keeps_put | apply keeps_putS | apply keeps_raise)

theorem keeps_calRunEnd {s0 : State} {s : State} {a0} {a1} (h : Keeps s0 s) :
    Keeps s0 (State.calRunEnd s a0 a1) := by
  unfold State.calRunEnd
  repeat' first
    | (with_reducible first
      | exact h | apply keeps_pcaFound | apply keeps_calRunStart | apply keeps_pcaFull | apply keeps_runResult
      | apply keeps_stepGo | apply keeps_zero | apply keeps_calInherit | apply keeps_calNext | apply keeps_calSettled
      | apply keeps_calUnsettled | apply Keeps.ite | apply Keeps.snd)
    | dsimp only | split

theorem keeps_calBegin {s0 : State} {s : State} {a0} (h : Keeps s0 s) :
    Keeps s0 (State.calBegin s a0) := by
  unfold State.calBegin
  repeat' first
    | intro _
    | (with_reducible first
      | exact h | assumption | apply keeps_fresh | apply keeps_roundOpen | apply keeps_setBayState | apply keeps_onSched
      | apply keeps_onCal | apply keeps_calShow | apply keeps_calNext | apply keeps_calFinish | apply keeps_recordBay
      | apply keeps_endTag | apply keeps_endWork | apply Keeps.ite | apply Keeps.foldl | apply Keeps.snd)
    | dsimp only | split | with_reducible apply Holds.pair

theorem keeps_sweepSlot {s0 : State} {s : State} {a0} {a1} {a2} (h : Keeps s0 s) :
    Keeps s0 (State.sweepSlot s a0 a1 a2) := by
  unfold State.sweepSlot
  repeat' first
    | (with_reducible first | exact h | apply keeps_roundOpen | apply keeps_putS | apply Keeps.snd) | dsimp only | split

theorem keeps_gapRevolution {s0 : State} {s : State} {a0} (h : Keeps s0 s) :
    Keeps s0 (State.gapRevolution s a0) := by
  unfold State.gapRevolution
  repeat' (with_reducible first | exact h | apply keeps_onSched | apply keeps_zero | apply Keeps.ite)

theorem keeps_execCalRequest {s0 : State} {a0} {s : State} (h : Keeps s0 s) :
    Holds inNext s0 (execCalRequest a0 s) := by
  unfold execCalRequest
  repeat' (with_reducible first | exact h | apply keeps_calQueue | apply keeps_raise | apply Holds.ite | apply Holds.next)

theorem keeps_execCalTimeout {s0 : State} {a0} {s : State} (h : Keeps s0 s) :
    Holds inNext s0 (execCalTimeout a0 s) := by
  unfold execCalTimeout
  repeat' first
    | (with_reducible first
      | exact h | apply keeps_calWrite | apply keeps_recordBay | apply Holds.ite | apply Holds.next)
    | dsimp only | split

theorem keeps_execCalTempCheck {s0 : State} {a0} {s : State} (h : Keeps s0 s) :
    Holds inNext s0 (execCalTempCheck a0 s) := by
  unfold execCalTempCheck
  repeat' (with_reducible first | exact h | apply keeps_tempCheck | apply Holds.ite | apply Holds.next)

end Sys2Proof.Machine
end

