-- ==== Sys2Proof/Laws/KeepsReading.lean ====
section
/-!
SUPPORT. Every operation of Reading.lean keeps the queue, the part and the canonical stores (Keeps.lean).
-/

namespace Sys2Proof.Machine

theorem keeps_onFrames {s0 : State} {s : State} {a0} {a1} (h : Keeps s0 s) :
    Keeps s0 (State.onFrames s a0 a1) := by
  unfold State.onFrames
  repeat' (with_reducible first | exact h | apply keeps_onRead)

theorem keeps_showFraming {s0 : State} {s : State} {a0} (h : Keeps s0 s) :
    Keeps s0 (State.showFraming s a0) := by
  unfold State.showFraming
  repeat' (with_reducible first | exact h | apply keeps_putB | apply keeps_put)

theorem keeps_frameStart {s0 : State} {s : State} {a0} {a1} (h : Keeps s0 s) :
    Keeps s0 (State.frameStart s a0 a1) := by
  unfold State.frameStart
  repeat' (with_reducible first | exact h | apply keeps_onFrames | apply Keeps.ite)

theorem keeps_readMiss {s0 : State} {s : State} {a0} {a1} (h : Keeps s0 s) :
    Keeps s0 (State.readMiss s a0 a1) := by
  unfold State.readMiss
  repeat' (with_reducible first | exact h | apply keeps_onFrames)

theorem keeps_readWedge {s0 : State} {s : State} {a0} {a1} {a2} (h : Keeps s0 s) :
    Keeps s0 (State.readWedge s a0 a1 a2) := by
  unfold State.readWedge
  repeat' (with_reducible first | exact h | apply keeps_onFrames | apply keeps_onRead)

theorem keeps_showEntry {s0 : State} {s : State} {a0} (h : Keeps s0 s) :
    Keeps s0 (State.showEntry s a0) := by
  unfold State.showEntry
  repeat' first | (with_reducible first | exact h | apply keeps_put | apply keeps_putB | apply keeps_zero) | split

theorem keeps_entryBad {s0 : State} {s : State} {a0} {a1} {a2} (h : Keeps s0 s) :
    Keeps s0 (State.entryBad s a0 a1 a2) := by
  unfold State.entryBad
  repeat' (with_reducible first | exact h | apply keeps_onRead | apply keeps_recordBay | apply keeps_calQueue | apply Keeps.ite)

theorem keeps_execZoneEntryFetchDone {s0 : State} {a0} {a1} {s : State} (h : Keeps s0 s) :
    Holds inNext s0 (execZoneEntryFetchDone a0 a1 s) := by
  unfold execZoneEntryFetchDone
  repeat' first
    | intro _
    | (with_reducible first
      | exact h | assumption | apply keeps_onBay | apply keeps_onFrames | apply keeps_memRead | apply keeps_onRead
      | apply keeps_entryBad | apply Keeps.ite)
    | (refine Keeps.ofPair (by with_reducible assumption) ?_) | dsimp only | split

theorem keeps_execSectorPreambleStart {s0 : State} {a0} {a1} {s : State} (h : Keeps s0 s) :
    Holds inNext s0 (execSectorPreambleStart a0 a1 s) := by
  unfold execSectorPreambleStart
  repeat' first
    | intro _
    | (with_reducible first
      | exact h | assumption | apply keeps_onBay | apply keeps_onFrames | apply keeps_count | apply keeps_showFraming
      | apply keeps_showEntry | apply keeps_onRead | apply Keeps.ite | apply Keeps.foldl)
    | dsimp only | split

theorem keeps_countFrame {s0 : State} {s : State} {a0} {a1} (h : Keeps s0 s) :
    Keeps s0 (State.countFrame s a0 a1) := by
  unfold State.countFrame
  repeat' (with_reducible first | exact h | apply keeps_count | apply Keeps.ite)

theorem keeps_skewTake {s0 : State} {s : State} {a0} {a1} {a2} (h : Keeps s0 s) :
    Keeps s0 (State.skewTake s a0 a1 a2) := by
  unfold State.skewTake
  repeat' first
    | (with_reducible first | exact h | apply keeps_roundOpen | apply keeps_putS | apply Keeps.snd) | dsimp only | split

theorem keeps_pushSample {s0 : State} {s : State} {a0} {a1} {a2} (h : Keeps s0 s) :
    Keeps s0 (State.pushSample s a0 a1 a2) := by
  unfold State.pushSample
  repeat' (with_reducible first | exact h | apply keeps_onFrames)

theorem keeps_defectFollow {s0 : State} {s : State} {a0} {a1} (h : Keeps s0 s) :
    Keeps s0 (State.defectFollow s a0 a1) := by
  unfold State.defectFollow
  repeat' (with_reducible first | exact h | apply keeps_onServo | apply keeps_zero | apply Keeps.ite)

theorem keeps_reflSample {s0 : State} {s : State} {a0} {a1} {a2} (h : Keeps s0 s) :
    Keeps s0 (State.reflSample s a0 a1 a2) := by
  unfold State.reflSample
  repeat' (with_reducible first | exact h | apply keeps_onRead | apply keeps_defectFollow | apply Keeps.ite)

theorem keeps_pushRaw {s0 : State} {s : State} {a0} {a1} (h : Keeps s0 s) :
    Keeps s0 (State.pushRaw s a0 a1) := by
  unfold State.pushRaw
  repeat' (with_reducible first | exact h | apply keeps_onRead)

theorem keeps_samplePeriod {s0 : State} {s : State} {a0} {a1} (h : Keeps s0 s) :
    Keeps s0 (State.samplePeriod s a0 a1) := by
  unfold State.samplePeriod
  repeat' first
    | intro _
    | (with_reducible first
      | exact h | assumption | apply keeps_reflSample | apply keeps_pushSample | apply keeps_pushRaw | apply Keeps.foldl)

theorem keeps_frameComplete {s0 : State} {s : State} {a0} {a1} (h : Keeps s0 s) (hfa1 : ∀ t, Keeps s0 t → ∀ m b, Keeps s0 (a1 t m b)) :
    Keeps s0 (State.frameComplete s a0 a1) := by
  unfold State.frameComplete
  repeat' first
    | intro _
    | (with_reducible first
      | exact h | assumption | apply hfa1 | apply keeps_showFraming | apply keeps_onFrames | apply keeps_countFrame
      | apply keeps_skewTake | apply Keeps.ite | apply Keeps.foldl)
    | dsimp only | split

theorem keeps_execDetectorPassDone {s0 : State} {a0} {s : State} (h : Keeps s0 s) :
    Holds inNext s0 (execDetectorPassDone a0 s) := by
  unfold execDetectorPassDone
  repeat' first | intro _ | (with_reducible first | exact h | assumption | apply keeps_onBay | apply keeps_onFrames) | split

end Sys2Proof.Machine
end

