-- ==== Sys2Proof/Laws/KeepsLadder.lean ====
section
/-!
SUPPORT. Every operation of Ladder.lean keeps the queue, the part and the canonical stores (Keeps.lean).
-/

namespace Sys2Proof.Machine

theorem keeps_onRung {s0 : State} {s : State} {a0} {a1} {a2} {a3} (h : Keeps s0 s) :
    Keeps s0 (State.onRung s a0 a1 a2 a3) := by
  unfold State.onRung
  repeat' (with_reducible first | exact h | apply keeps_onRead)

theorem keeps_leaveLadder {s0 : State} {s : State} {a0} {a1} (h : Keeps s0 s) :
    Keeps s0 (State.leaveLadder s a0 a1) := by
  unfold State.leaveLadder
  repeat' (with_reducible first | exact h | apply keeps_pumpRungs | apply keeps_onRead | apply keeps_freeRung)

theorem keeps_uncorrectable {s0 : State} {s : State} {a0} {a1} {a2} (h : Keeps s0 s) :
    Keeps s0 (State.uncorrectable s a0 a1 a2) := by
  unfold State.uncorrectable
  repeat' (with_reducible first
    | exact h | apply keeps_recordBay | apply keeps_count | apply keeps_leaveLadder | apply keeps_resolveItem)

theorem keeps_hookStep {s0 : State} {s : State} {a0} {a1} {a2} (h : Keeps s0 s) :
    Holds inSnd s0 (State.hookStep s a0 a1 a2) := by
  unfold State.hookStep
  repeat' first
    | (with_reducible first | exact h | apply keeps_callHook | apply keeps_hookOverride | apply Holds.ite)
    | (refine Keeps.ofPair (by with_reducible assumption) ?_) | split | with_reducible apply Holds.pair

theorem keeps_climbFrom {s0 : State} {a0} {a1} {a2} {a3} {a4} {a5} {s : State} (h : Keeps s0 s) :
    Keeps s0 (State.climbFrom a0 a1 a2 a3 a4 a5 s) := by
  induction a4 generalizing a0 a1 a2 a3 a5 s with
  | zero =>
    unfold State.climbFrom
    repeat' with_reducible exact h
  | succ k ih =>
    unfold State.climbFrom
    repeat' first
      | (with_reducible first
        | exact h | apply ih | apply keeps_uncorrectable | apply keeps_caddyCancel | apply keeps_pumpRungs | apply keeps_onRung
        | apply Keeps.ite)
      | dsimp only | split

theorem keeps_climb {s0 : State} {a0} {a1} {a2} {a3} {a4} {a5} {s : State} (h : Keeps s0 s) :
    Keeps s0 (State.climb a0 a1 a2 a3 a4 a5 s) := by
  unfold State.climb
  repeat' first
    | (with_reducible first | exact h | apply keeps_hookStep | apply keeps_climbFrom | apply Keeps.snd) | dsimp only | split

theorem keeps_rungNext {s0 : State} {s : State} {a0} {a1} (h : Keeps s0 s) :
    Keeps s0 (State.rungNext s a0 a1) := by
  unfold State.rungNext
  repeat' (with_reducible first | exact h | apply keeps_onRung | apply keeps_pumpRungs | apply keeps_climb | apply Keeps.ite)

theorem keeps_takeCapture {s0 : State} {s : State} {a0} {a1} {a2} {a3} (h : Keeps s0 s) :
    Keeps s0 (State.takeCapture s a0 a1 a2 a3) := by
  unfold State.takeCapture
  repeat' (with_reducible first
    | exact h | apply keeps_onRung | apply keeps_pumpRungs | apply keeps_caddyRequest | apply Keeps.ite)

theorem keeps_keepKnown {s0 : State} {s : State} {a0} {a1} {a2} (h : Keeps s0 s) :
    Keeps s0 (State.keepKnown s a0 a1 a2) := by
  unfold State.keepKnown
  repeat' (with_reducible first | exact h | apply keeps_onRead)

theorem keeps_stopTag {s0 : State} {s : State} {a0} {a1} {a2} (h : Keeps s0 s) :
    Keeps s0 (State.stopTag s a0 a1 a2) := by
  unfold State.stopTag
  repeat' (with_reducible first | exact h | apply keeps_onTag)

theorem keeps_enterLadder {s0 : State} {s : State} {a0} {a1} {a2} {a3} {a4} {a5} {a6} (h : Keeps s0 s) :
    Keeps s0 (State.enterLadder s a0 a1 a2 a3 a4 a5 a6) := by
  unfold State.enterLadder
  repeat' first
    | (with_reducible first
      | exact h | apply keeps_onRead | apply keeps_climb | apply keeps_takeCapture | apply keeps_onRung)
    | dsimp only | split

theorem keeps_idReject {s0 : State} {s : State} {a0} {a1} {a2} (h : Keeps s0 s) :
    Keeps s0 (State.idReject s a0 a1 a2) := by
  unfold State.idReject
  repeat' (with_reducible first | exact h | apply keeps_recordBay | apply keeps_count)

theorem keeps_holdSector {s0 : State} {s : State} {a0} {a1} {a2} {a3} {a4} {a5} {a6} (h : Keeps s0 s) :
    Keeps s0 (State.holdSector s a0 a1 a2 a3 a4 a5 a6) := by
  unfold State.holdSector
  repeat' (with_reducible first | exact h | apply keeps_onRead)

theorem keeps_sawParity {s0 : State} {s : State} {a0} {a1} {a2} (h : Keeps s0 s) :
    Keeps s0 (State.sawParity s a0 a1 a2) := by
  unfold State.sawParity
  repeat' first
    | (with_reducible first | exact h | apply keeps_keepKnown | apply keeps_markClosed | apply Keeps.ite)
    | dsimp only | split

theorem keeps_learnClosed {s0 : State} {s : State} {a0} {a1} {a2} (h : Keeps s0 s) :
    Keeps s0 (State.learnClosed s a0 a1 a2) := by
  unfold State.learnClosed
  repeat' (with_reducible first | exact h | apply keeps_markClosed | apply Keeps.ite)

theorem keeps_otfEnd {s0 : State} {s : State} {a0} {a1} {a2} (h : Keeps s0 s) :
    Keeps s0 (State.otfEnd s a0 a1 a2) := by
  unfold State.otfEnd
  repeat' first
    | (with_reducible first
      | exact h | apply keeps_count | apply keeps_onRung | apply keeps_rungNext | apply keeps_holdSector | apply keeps_idReject
      | apply keeps_enterLadder | apply keeps_takeCapture | apply keeps_sawParity | apply Keeps.ite)
    | dsimp only | split

theorem keeps_foundBlank {s0 : State} {s : State} {a0} {a1} (h : Keeps s0 s) :
    Keeps s0 (State.foundBlank s a0 a1) := by
  unfold State.foundBlank
  repeat' first
    | (with_reducible first
      | exact h | apply keeps_leaveLadder | apply keeps_resolveItem | apply keeps_onRead)
    | dsimp only | split

theorem keeps_dropDone {s0 : State} {s : State} {a0} (h : Keeps s0 s) :
    Keeps s0 (State.dropDone s a0) := by
  unfold State.dropDone
  repeat' (with_reducible first | exact h | apply keeps_onFrames)

theorem keeps_acceptSector {s0 : State} {s : State} {a0} {a1} {a2} (h : Keeps s0 s) :
    Keeps s0 (State.acceptSector s a0 a1 a2) := by
  unfold State.acceptSector
  repeat' first
    | (with_reducible first
      | exact h | apply keeps_keepKnown | apply keeps_count | apply keeps_leaveLadder | apply keeps_resolveItem
      | apply keeps_onTag)
    | dsimp only | split

theorem keeps_crcReject {s0 : State} {s : State} {a0} {a1} {a2} (h : Keeps s0 s) :
    Keeps s0 (State.crcReject s a0 a1 a2) := by
  unfold State.crcReject
  repeat' first
    | (with_reducible first
      | exact h | apply keeps_count | apply keeps_setTag | apply keeps_recordFor | apply keeps_rungNext
      | apply keeps_enterLadder | apply Keeps.ite)
    | dsimp only | split

theorem keeps_crcCheck {s0 : State} {s : State} {a0} {a1} (h : Keeps s0 s) :
    Keeps s0 (State.crcCheck s a0 a1) := by
  unfold State.crcCheck
  repeat' first
    | (with_reducible first
      | exact h | apply keeps_acceptSector | apply keeps_count | apply keeps_leaveLadder | apply keeps_resolveItem
      | apply keeps_stopTag | apply keeps_crcReject | apply Keeps.ite)
    | dsimp only | split

theorem keeps_execSectorCrcCheck {s0 : State} {a0} {s : State} (h : Keeps s0 s) :
    Holds inNext s0 (execSectorCrcCheck a0 s) := by
  unfold execSectorCrcCheck
  repeat' first
    | intro _
    | (with_reducible first
      | exact h | assumption | apply keeps_onBay | apply keeps_crcCheck | apply keeps_onRead)
    | split

theorem keeps_execCaptureGrantTimeout {s0 : State} {a0} {a1} {s : State} (h : Keeps s0 s) :
    Holds inNext s0 (execCaptureGrantTimeout a0 a1 s) := by
  unfold execCaptureGrantTimeout
  repeat' first
    | intro _
    | (with_reducible first
      | exact h | assumption | apply keeps_onBay | apply keeps_rungNext | apply keeps_count | apply keeps_caddyCancel)
    | split

theorem keeps_execRecoveryDecodeStart {s0 : State} {a0} {s : State} (h : Keeps s0 s) :
    Holds inNext s0 (execRecoveryDecodeStart a0 s) := by
  unfold execRecoveryDecodeStart
  repeat' first
    | intro _
    | (with_reducible first
      | exact h | assumption | apply keeps_onBay | apply keeps_pumpRungs | apply keeps_onRung)
    | split

theorem keeps_keepSet {s0 : State} {s : State} {a0} {a1} {a2} (h : Keeps s0 s) :
    Keeps s0 (State.keepSet s a0 a1 a2) := by
  unfold State.keepSet
  repeat' first
    | (with_reducible first | exact h | apply keeps_caddyGrant | apply keeps_onRung | apply Keeps.ite)
    | (refine Keeps.ofSomePair (by with_reducible assumption) ?_) | split

theorem keeps_execRecoveryDecodeDone {s0 : State} {a0} {s : State} (h : Keeps s0 s) :
    Holds inNext s0 (execRecoveryDecodeDone a0 s) := by
  unfold execRecoveryDecodeDone
  repeat' first
    | intro _
    | (with_reducible first
      | exact h | assumption | apply keeps_onBay | apply keeps_onRung | apply keeps_holdSector | apply keeps_rungNext
      | apply keeps_idReject | apply keeps_keepSet | apply Keeps.ite)
    | dsimp only | split

theorem keeps_giveRebuilt {s0 : State} {s : State} {a0} {a1} {a2} {a3} {a4} {a5} {a6} (h : Keeps s0 s) :
    Keeps s0 (State.giveRebuilt s a0 a1 a2 a3 a4 a5 a6) := by
  unfold State.giveRebuilt
  repeat' (with_reducible first | exact h | apply keeps_resolveItem | apply keeps_count)

theorem keeps_failRung {s0 : State} {s : State} {a0} {a1} {a2} {a3} (h : Keeps s0 s) :
    Keeps s0 (State.failRung s a0 a1 a2 a3) := by
  unfold State.failRung
  repeat' (with_reducible first | exact h | apply keeps_climb | apply Keeps.ite)

theorem keeps_execExtentReconDone {s0 : State} {a0} {a1} {a2} {s : State} (h : Keeps s0 s) :
    Holds inNext s0 (execExtentReconDone a0 a1 a2 s) := by
  unfold execExtentReconDone
  repeat' first
    | intro _
    | (with_reducible first
      | exact h | assumption | apply keeps_onBay | apply keeps_onRead | apply keeps_failRung | apply keeps_learnClosed | apply keeps_recordBay
      | apply keeps_count | apply keeps_giveRebuilt | apply keeps_leaveLadder | apply keeps_keepKnown | apply keeps_stopTag
      | apply Keeps.ite | apply Keeps.foldl)
    | dsimp only | split

theorem keeps_execLadderTimeout {s0 : State} {a0} {a1} {a2} {s : State} (h : Keeps s0 s) :
    Holds inNext s0 (execLadderTimeout a0 a1 a2 s) := by
  unfold execLadderTimeout
  repeat' first
    | intro _
    | (with_reducible first
      | exact h | assumption | apply keeps_onBay | apply keeps_onRung | apply keeps_recordBay | apply keeps_climb
      | apply Keeps.ite)
    | dsimp only | split

end Sys2Proof.Machine
end

