-- ==== Sys2Proof/Laws/KeepsWrite.lean ====
section
/-!
SUPPORT. Every operation of Write.lean keeps the queue, the part and the canonical stores (Keeps.lean).
-/

namespace Sys2Proof.Machine

theorem keeps_onSector {s0 : State} {s : State} {a0} {a1} {a2} (h : Keeps s0 s) :
    Keeps s0 (State.onSector s a0 a1 a2) := by
  unfold State.onSector
  repeat' (with_reducible first | exact h | apply keeps_onWrite)

theorem keeps_setItem {s0 : State} {s : State} {a0} {a1} {a2} {a3} (h : Keeps s0 s) :
    Keeps s0 (State.setItem s a0 a1 a2 a3) := by
  unfold State.setItem
  repeat' (with_reducible first | exact h | apply keeps_onTag)

theorem keeps_armRun {s0 : State} {a0} {a1} {s : State} (h : Keeps s0 s) :
    Keeps s0 (State.armRun a0 a1 s) := by
  induction a1 generalizing a0 s with
  | zero =>
    unfold State.armRun
    repeat' with_reducible exact h
  | succ k ih =>
    unfold State.armRun
    repeat' first
      | (with_reducible first | exact h | apply ih | apply keeps_createEntry | apply keeps_onWrite)
      | (refine Keeps.ofSomePair (by with_reducible assumption) ?_) | dsimp only | split

theorem keeps_wantCommit {s0 : State} {s : State} {a0} {a1} (h : Keeps s0 s) :
    Keeps s0 (State.wantCommit s a0 a1) := by
  unfold State.wantCommit
  repeat' (with_reducible first | exact h | apply keeps_onSched)

theorem keeps_stageRecord {s0 : State} {s : State} {a0} {a1} {a2} {a3} {a4} (h : Keeps s0 s) :
    Keeps s0 (State.stageRecord s a0 a1 a2 a3 a4) := by
  unfold State.stageRecord
  repeat' (with_reducible first
    | exact h | apply keeps_showWrite | apply keeps_onWrite | apply keeps_wantCommit | apply Keeps.ite)

theorem keeps_dropFailed {s0 : State} {s : State} {a0} {a1} (h : Keeps s0 s) :
    Keeps s0 (State.dropFailed s a0 a1) := by
  unfold State.dropFailed
  repeat' first | intro _ | (with_reducible first | exact h | assumption | apply keeps_dropSector | apply Keeps.foldl)

theorem keeps_chooseSpare {s0 : State} {s : State} {a0} {a1} (h : Keeps s0 s) :
    Holds inSnd s0 (State.chooseSpare s a0 a1) := by
  unfold State.chooseSpare
  repeat' first
    | (with_reducible first | exact h | apply keeps_callHook | apply keeps_hookOverride | apply Holds.ite)
    | (refine Keeps.ofPair (by with_reducible assumption) ?_) | dsimp only | split | with_reducible apply Holds.pair

theorem keeps_relocOne {s0 : State} {s : State} {a0} {a1} (h : Keeps s0 s) :
    Holds inSnd s0 (State.relocOne s a0 a1) := by
  unfold State.relocOne
  repeat' first
    | (with_reducible first
      | exact h | apply keeps_onWrite | apply keeps_chooseSpare | apply keeps_recordBay | apply keeps_raise
      | apply keeps_stageRecord | apply keeps_showWrite | apply keeps_dropFailed | apply keeps_setItem | apply keeps_createEntry)
    | (refine Keeps.ofPair (by with_reducible assumption) ?_) | (refine Keeps.ofSomePair (by with_reducible assumption) ?_)
    | dsimp only | split | with_reducible apply Holds.pair

theorem keeps_relocAll {s0 : State} {a0} {a1} {s : State} (h : Keeps s0 s) :
    Keeps s0 (State.relocAll a0 a1 s) := by
  induction a1 generalizing a0 s with
  | zero =>
    unfold State.relocAll
    repeat' with_reducible exact h
  | succ k ih =>
    unfold State.relocAll
    repeat' first
      | (with_reducible first
        | exact h | apply ih | apply keeps_relocOne | apply Keeps.ite | apply Keeps.snd)
      | dsimp only | split

theorem keeps_addParity {s0 : State} {s : State} {a0} {a1} {a2} {a3} (h : Keeps s0 s) :
    Keeps s0 (State.addParity s a0 a1 a2 a3) := by
  unfold State.addParity
  repeat' (with_reducible first | exact h | apply keeps_onWrite)

theorem keeps_freeParity {s0 : State} {s : State} {a0} {a1} {a2} (h : Keeps s0 s) :
    Keeps s0 (State.freeParity s a0 a1 a2) := by
  unfold State.freeParity
  repeat' first
    | (with_reducible first
      | exact h | apply keeps_showWrite | apply keeps_caddyServe | apply keeps_freePtr | apply keeps_onWrite)
    | split

theorem keeps_extentDone {s0 : State} {s : State} {a0} {a1} {a2} (h : Keeps s0 s) :
    Keeps s0 (State.extentDone s a0 a1 a2) := by
  unfold State.extentDone
  repeat' first
    | (with_reducible first
      | exact h | apply keeps_onTag | apply keeps_freeParity | apply keeps_markClosed | apply Keeps.ite)
    | split

theorem keeps_sectorDurable {s0 : State} {s : State} {a0} {a1} (h : Keeps s0 s) :
    Keeps s0 (State.sectorDurable s a0 a1) := by
  unfold State.sectorDurable
  repeat' (with_reducible first
    | exact h | apply keeps_stageRecord | apply keeps_advanceEntry | apply keeps_onTag | apply keeps_recordBay
    | apply keeps_showWrite | apply keeps_dropSector | apply keeps_setItem | apply keeps_extentDone | apply Keeps.ite)

theorem keeps_failWrite {s0 : State} {s : State} {a0} {a1} {a2} {a3} (h : Keeps s0 s) :
    Keeps s0 (State.failWrite s a0 a1 a2 a3) := by
  unfold State.failWrite
  repeat' first
    | intro _
    | (with_reducible first
      | exact h | assumption | apply keeps_dropSector | apply keeps_stopTag | apply keeps_setItem | apply Keeps.foldl)

theorem keeps_blankTested {s0 : State} {s : State} {a0} {a1} {a2} (h : Keeps s0 s) :
    Keeps s0 (State.blankTested s a0 a1 a2) := by
  unfold State.blankTested
  repeat' first
    | (with_reducible first
      | exact h | apply keeps_onSector | apply keeps_dropSector | apply keeps_onDisc | apply keeps_onWrite
      | apply keeps_recordBay | apply keeps_count | apply keeps_failWrite | apply Keeps.ite)
    | dsimp only | split

theorem keeps_verifyFail {s0 : State} {s : State} {a0} {a1} {a2} {a3} {a4} (h : Keeps s0 s) :
    Keeps s0 (State.verifyFail s a0 a1 a2 a3 a4) := by
  unfold State.verifyFail
  repeat' (with_reducible first | exact h | apply keeps_queueReloc | apply keeps_recordBay | apply keeps_count)

theorem keeps_replayed {s0 : State} {s : State} {a0} {a1} {a2} (h : Keeps s0 s) :
    Keeps s0 (State.replayed s a0 a1 a2) := by
  unfold State.replayed
  repeat' (with_reducible first | exact h | apply keeps_resolveItem | apply keeps_dropSector)

theorem keeps_verifyGiveUp {s0 : State} {s : State} {a0} {a1} (h : Keeps s0 s) :
    Keeps s0 (State.verifyGiveUp s a0 a1) := by
  unfold State.verifyGiveUp
  repeat' (with_reducible first | exact h | apply keeps_replayed | apply keeps_verifyFail | apply Keeps.ite)

theorem keeps_verifyEnd {s0 : State} {s : State} {a0} {a1} (h : Keeps s0 s) :
    Keeps s0 (State.verifyEnd s a0 a1) := by
  unfold State.verifyEnd
  repeat' first
    | (with_reducible first
      | exact h | apply keeps_replayed | apply keeps_sectorDurable | apply keeps_verifyFail | apply Keeps.ite)
    | dsimp only | split

theorem keeps_verifyStart {s0 : State} {s : State} {a0} {a1} (h : Keeps s0 s) :
    Holds inSnd s0 (State.verifyStart s a0 a1) := by
  unfold State.verifyStart
  repeat' first
    | (with_reducible first
      | exact h | apply keeps_verifyGiveUp | apply keeps_count | apply keeps_onSector | apply Holds.ite)
    | dsimp only | split | with_reducible apply Holds.pair

theorem keeps_execDlCommitAgeTimer {s0 : State} {a0} {s : State} (h : Keeps s0 s) :
    Holds inNext s0 (execDlCommitAgeTimer a0 s) := by
  unfold execDlCommitAgeTimer
  repeat' first
    | intro _
    | (with_reducible first
      | exact h | assumption | apply keeps_onBay | apply keeps_wantCommit | apply Keeps.ite)

theorem keeps_execDlCommitRequest {s0 : State} {a0} {s : State} (h : Keeps s0 s) :
    Holds inNext s0 (execDlCommitRequest a0 s) := by
  unfold execDlCommitRequest
  repeat' first
    | intro _
    | (with_reducible first
      | exact h | assumption | apply keeps_onBay | apply keeps_raise | apply keeps_wantCommit | apply keeps_onDisc
      | apply Keeps.ite)

theorem keeps_commitEnds {s0 : State} {s : State} {a0} (h : Keeps s0 s) :
    Keeps s0 (State.commitEnds s a0) := by
  unfold State.commitEnds
  repeat' (with_reducible first | exact h | apply keeps_onSched | apply keeps_onWrite | apply keeps_zero)

theorem keeps_commitDone {s0 : State} {s : State} {a0} {a1} {a2} (h : Keeps s0 s) :
    Keeps s0 (State.commitDone s a0 a1 a2) := by
  unfold State.commitDone
  repeat' first
    | intro _
    | (with_reducible first
      | exact h | assumption | apply keeps_onDisc | apply keeps_advanceEntry | apply keeps_showWrite | apply keeps_onWrite
      | apply keeps_caddyRequest | apply keeps_commitEnds | apply keeps_recordBay | apply Keeps.ite | apply Keeps.foldl)

theorem keeps_failRun {s0 : State} {s : State} {a0} {a1} (h : Keeps s0 s) :
    Keeps s0 (State.failRun s a0 a1) := by
  unfold State.failRun
  repeat' first
    | intro _
    | (with_reducible first
      | exact h | assumption | apply keeps_failWrite | apply keeps_onWrite | apply keeps_setItem | apply Keeps.foldl)

theorem keeps_commitFail {s0 : State} {s : State} {a0} {a1} (h : Keeps s0 s) :
    Keeps s0 (State.commitFail s a0 a1) := by
  unfold State.commitFail
  repeat' (with_reducible first
    | exact h | apply keeps_recordBay | apply keeps_raise | apply keeps_commitEnds | apply keeps_showWrite | apply keeps_failRun
    | apply keeps_onDisc)

end Sys2Proof.Machine
end

