-- ==== Sys2Proof/Laws/KeepsSched.lean ====
section
/-!
SUPPORT. Every operation of Sched.lean keeps the queue, the part and the canonical stores (Keeps.lean).
-/

namespace Sys2Proof.Machine

theorem keeps_setUrgent {s0 : State} {s : State} {a0} {a1} (h : Keeps s0 s) :
    Keeps s0 (State.setUrgent s a0 a1) := by
  unfold State.setUrgent
  repeat' first | (with_reducible first | exact h | apply keeps_onTag | apply keeps_onSched) | split

theorem keeps_inheritUrgent {s0 : State} {s : State} {a0} (h : Keeps s0 s) :
    Keeps s0 (State.inheritUrgent s a0) := by
  unfold State.inheritUrgent
  repeat' first
    | intro _
    | (with_reducible first
      | exact h | assumption | apply keeps_count | apply keeps_setUrgent | apply Keeps.foldl)

theorem keeps_showUrgent {s0 : State} {s : State} {a0} (h : Keeps s0 s) :
    Keeps s0 (State.showUrgent s a0) := by
  unfold State.showUrgent
  repeat' (with_reducible first | exact h | apply keeps_put)

theorem keeps_promoteItem {s0 : State} {s : State} {a0} {a1} (h : Keeps s0 s) :
    Keeps s0 (State.promoteItem s a0 a1) := by
  unfold State.promoteItem
  repeat' (with_reducible first
    | exact h | apply keeps_count | apply keeps_setUrgent | apply keeps_showUrgent | apply keeps_inheritUrgent
    | apply keeps_recordBay | apply Keeps.ite)

theorem keeps_promoteAll {s0 : State} {s : State} {a0} (h : Keeps s0 s) :
    Keeps s0 (State.promoteAll s a0) := by
  unfold State.promoteAll
  repeat' first | intro _ | (with_reducible first | exact h | assumption | apply keeps_promoteItem | apply Keeps.foldl)

theorem keeps_disarm {s0 : State} {s : State} {a0} (h : Keeps s0 s) :
    Keeps s0 (State.disarm s a0) := by
  unfold State.disarm
  repeat' (with_reducible first | exact h | apply keeps_onTracker)

theorem keeps_endSegment {s0 : State} {s : State} {a0} (h : Keeps s0 s) :
    Keeps s0 (State.endSegment s a0) := by
  unfold State.endSegment
  repeat' (with_reducible first
    | exact h | apply keeps_zero | apply keeps_raise | apply keeps_onSched | apply keeps_passSafe | apply keeps_disarm)

theorem keeps_armEvent {s0 : State} {s : State} {a0} {a1} {a2} {a3} {a4} (h : Keeps s0 s) :
    Keeps s0 (State.armEvent s a0 a1 a2 a3 a4) := by
  unfold State.armEvent
  repeat' (with_reducible first | exact h | apply keeps_onTracker | apply Keeps.ite)

theorem keeps_armFrames {s0 : State} {s : State} {a0} {a1} {a2} (h : Keeps s0 s) :
    Keeps s0 (State.armFrames s a0 a1 a2) := by
  unfold State.armFrames
  repeat' first | intro _ | (with_reducible first | exact h | assumption | apply keeps_armEvent | apply Keeps.foldl)

theorem keeps_readPoll {s0 : State} {s : State} {a0} {a1} (h : Keeps s0 s) :
    Keeps s0 (State.readPoll s a0 a1) := by
  unfold State.readPoll
  repeat' first
    | (with_reducible first
      | exact h | apply keeps_endSegment | apply keeps_onSched | apply keeps_armFrames | apply keeps_beginJump
      | apply keeps_seek | apply keeps_armEvent | apply Keeps.ite)
    | dsimp only | split

theorem keeps_armWrites {s0 : State} {s : State} {a0} {a1} (h : Keeps s0 s) :
    Keeps s0 (State.armWrites s a0 a1) := by
  unfold State.armWrites
  repeat' first | intro _ | (with_reducible first | exact h | assumption | apply keeps_armEvent | apply Keeps.foldl)

theorem keeps_writePoll {s0 : State} {s : State} {a0} {a1} (h : Keeps s0 s) :
    Keeps s0 (State.writePoll s a0 a1) := by
  unfold State.writePoll
  repeat' first
    | (with_reducible first
      | exact h | apply keeps_onSched | apply keeps_armFrames | apply keeps_armWrites | apply keeps_fineJump
      | apply keeps_beginJump | apply keeps_seek | apply keeps_relocAll | apply keeps_endSegment | apply Keeps.ite)
    | dsimp only | split

theorem keeps_segmentPoll {s0 : State} {s : State} {a0} (h : Keeps s0 s) :
    Keeps s0 (State.segmentPoll s a0) := by
  unfold State.segmentPoll
  repeat' first
    | (with_reducible first
      | exact h | apply keeps_armWrites | apply keeps_relocAll | apply keeps_endSegment | apply keeps_writePoll
      | apply keeps_armRun | apply keeps_readPoll | apply Keeps.ite)
    | dsimp only | split

theorem keeps_openGap {s0 : State} {s : State} {a0} (h : Keeps s0 s) :
    Keeps s0 (State.openGap s a0) := by
  unfold State.openGap
  repeat' (with_reducible first | exact h | apply keeps_raise | apply keeps_onSched | apply Keeps.ite)

theorem keeps_startSegment {s0 : State} {s : State} {a0} {a1} (h : Keeps s0 s) :
    Keeps s0 (State.startSegment s a0 a1) := by
  unfold State.startSegment
  repeat' first
    | (with_reducible first
      | exact h | apply keeps_put | apply keeps_setBayState | apply keeps_putB | apply keeps_zero | apply keeps_onSched
      | apply keeps_calBegin | apply keeps_raise | apply keeps_endSegment | apply keeps_commitFail | apply keeps_zoneEnter
      | apply keeps_calQueue | apply keeps_onCal | apply keeps_setTarget | apply keeps_segmentPoll | apply keeps_applyBias
      | apply keeps_armRun | apply Keeps.ite)
    | dsimp only | split

theorem keeps_schedDecision {s0 : State} {s : State} {a0} (h : Keeps s0 s) :
    Keeps s0 (State.schedDecision s a0) := by
  unfold State.schedDecision
  repeat' first
    | (with_reducible first
      | exact h | apply keeps_promoteAll | apply keeps_showUrgent | apply keeps_put | apply keeps_startSegment
      | apply keeps_openGap | apply keeps_count | apply keeps_setBayState | apply Keeps.ite)
    | dsimp only | split

theorem keeps_execAgeDeadline {s0 : State} {a0} {a1} {s : State} (h : Keeps s0 s) :
    Holds inNext s0 (execAgeDeadline a0 a1 s) := by
  unfold execAgeDeadline
  repeat' first | intro _ | (with_reducible first | exact h | assumption | apply keeps_onBay | apply keeps_promoteItem) | split

theorem keeps_execGapRevolutionElapsed {s0 : State} {a0} {s : State} (h : Keeps s0 s) :
    Holds inNext s0 (execGapRevolutionElapsed a0 s) := by
  unfold execGapRevolutionElapsed
  repeat' first
    | intro _
    | (with_reducible first
      | exact h | assumption | apply keeps_onBay | apply keeps_gapRevolution | apply Keeps.ite)

end Sys2Proof.Machine
end

