-- ==== Sys2Proof/Laws/KeepsWedge.lean ====
section
/-!
SUPPORT. Every operation of Wedge.lean keeps the queue, the part and the canonical stores (Keeps.lean).
-/

namespace Sys2Proof.Machine

theorem keeps_wobble {s0 : State} {s : State} {a0} (h : Keeps s0 s) :
    Holds inSnd s0 (State.wobble s a0) := by
  unfold State.wobble
  repeat' first
    | (with_reducible first | exact h | apply keeps_roundOpen | apply Holds.ite | apply Keeps.snd) | dsimp only
    | with_reducible apply Holds.pair

theorem keeps_acqDone {s0 : State} {s : State} {a0} (h : Keeps s0 s) :
    Keeps s0 (State.acqDone s a0) := by
  unfold State.acqDone
  repeat' (with_reducible first
    | exact h | apply keeps_onFocus | apply keeps_put | apply keeps_setLearn | apply keeps_seek | apply keeps_setBayState
    | apply keeps_calAtFocus | apply keeps_calBegin | apply Keeps.ite)

theorem keeps_trackOff {s0 : State} {s : State} {a0} {a1} {a2} (h : Keeps s0 s) :
    Keeps s0 (State.trackOff s a0 a1 a2) := by
  unfold State.trackOff
  repeat' (with_reducible first
    | exact h | apply keeps_recordFocus | apply keeps_count | apply keeps_endGateRun | apply keeps_enterRecovery)

theorem keeps_slip {s0 : State} {s : State} {a0} {a1} {a2} (h : Keeps s0 s) :
    Keeps s0 (State.slip s a0 a1 a2) := by
  unfold State.slip
  repeat' (with_reducible first
    | exact h | apply keeps_recordFocus | apply keeps_count | apply keeps_endGateRun | apply keeps_onFocus
    | apply keeps_enterRecovery | apply keeps_fineJump | apply Keeps.ite)

theorem keeps_closeTracking {s0 : State} {s : State} {a0} (h : Keeps s0 s) :
    Keeps s0 (State.closeTracking s a0) := by
  unfold State.closeTracking
  repeat' (with_reducible first | exact h | apply keeps_setAuto)

theorem keeps_fineConfirm {s0 : State} {s : State} {a0} {a1} (h : Keeps s0 s) :
    Keeps s0 (State.fineConfirm s a0 a1) := by
  unfold State.fineConfirm
  repeat' (with_reducible first
    | exact h | apply keeps_closeBridge | apply keeps_closeTracking | apply keeps_onFocus | apply keeps_fineJump
    | apply keeps_seekProceed | apply keeps_setLearn | apply keeps_slip | apply Keeps.ite)

theorem keeps_trackWedge {s0 : State} {s : State} {a0} {a1} {a2} {a3} (h : Keeps s0 s) :
    Keeps s0 (State.trackWedge s a0 a1 a2 a3) := by
  unfold State.trackWedge
  repeat' (with_reducible first
    | exact h | apply keeps_fineConfirm | apply keeps_onFocus | apply keeps_putS | apply keeps_closeTracking
    | apply keeps_seekProceed | apply keeps_setLearn | apply keeps_closeBridge | apply keeps_showWcal | apply keeps_slip
    | apply keeps_trackOff | apply keeps_endGateRun | apply keeps_recordFocus | apply keeps_count | apply keeps_acqDone
    | apply keeps_setAuto | apply Keeps.ite)

theorem keeps_sideWedge {s0 : State} {s : State} {a0} {a1} (h : Keeps s0 s) :
    Keeps s0 (State.sideWedge s a0 a1) := by
  unfold State.sideWedge
  repeat' first
    | (with_reducible first
      | exact h | apply keeps_wobble | apply keeps_putS | apply keeps_sideCount | apply Keeps.ite | apply Keeps.snd)
    | dsimp only | split

theorem keeps_applyPowers {s0 : State} {s : State} {a0} {a1} {a2} (h : Keeps s0 s) :
    Keeps s0 (State.applyPowers s a0 a1 a2) := by
  unfold State.applyPowers
  repeat' (with_reducible first | exact h | apply keeps_raise | apply keeps_send | apply keeps_onWrite | apply Keeps.ite)

theorem keeps_gateCommit {s0 : State} {s : State} {a0} {a1} {a2} (h : Keeps s0 s) :
    Keeps s0 (State.gateCommit s a0 a1 a2) := by
  unfold State.gateCommit
  repeat' (with_reducible first
    | exact h | apply keeps_applyPowers | apply keeps_roundOpen | apply keeps_sendRecords | apply keeps_onWrite
    | apply Keeps.snd)

theorem keeps_gateGuard {s0 : State} {s : State} {a0} {a1} {a2} (h : Keeps s0 s) :
    Keeps s0 (State.gateGuard s a0 a1 a2) := by
  unfold State.gateGuard
  repeat' first
    | (with_reducible first
      | exact h | apply keeps_onTracker | apply keeps_gateCommit | apply keeps_count | apply Keeps.ite)
    | dsimp only | split

theorem keeps_gateCommits {s0 : State} {s : State} {a0} {a1} {a2} (h : Keeps s0 s) :
    Keeps s0 (State.gateCommits s a0 a1 a2) := by
  unfold State.gateCommits
  repeat' first | intro _ | (with_reducible first | exact h | assumption | apply keeps_gateGuard | apply Keeps.foldl)

theorem keeps_gateMiss {s0 : State} {s : State} {a0} {a1} {a2} (h : Keeps s0 s) :
    Keeps s0 (State.gateMiss s a0 a1 a2) := by
  unfold State.gateMiss
  repeat' first
    | (with_reducible first
      | exact h | apply keeps_onWrite | apply keeps_count | apply keeps_endGateRun | apply keeps_recordBay | apply Keeps.ite)
    | split

theorem keeps_gateRelease {s0 : State} {s : State} {a0} {a1} (h : Keeps s0 s) :
    Keeps s0 (State.gateRelease s a0 a1) := by
  unfold State.gateRelease
  repeat' first
    | (with_reducible first
      | exact h | apply keeps_onWrite | apply keeps_sendRecords | apply keeps_gateEnded | apply keeps_endDrain | apply Keeps.ite)
    | dsimp only | split

theorem keeps_execWedgeDetection {s0 : State} {a0} {a1} {a2} {a3} {s : State} (h : Keeps s0 s) :
    Holds inNext s0 (execWedgeDetection a0 a1 a2 a3 s) := by
  unfold execWedgeDetection
  repeat' first
    | intro _
    | (with_reducible first
      | exact h | assumption | apply keeps_onBay | apply keeps_probeDetection | apply keeps_onTracker
      | apply keeps_takeCandidate | apply keeps_count | apply Keeps.ite)

theorem keeps_angLost {s0 : State} {s : State} {a0} (h : Keeps s0 s) :
    Keeps s0 (State.angLost s a0) := by
  unfold State.angLost
  repeat' (with_reducible first
    | exact h | apply keeps_recordBay | apply keeps_alignedFall | apply keeps_closeBridge | apply keeps_setTracker
    | apply keeps_abandonReads | apply keeps_startAcq | apply keeps_enterRecovery | apply Keeps.ite)

theorem keeps_acqComplete {s0 : State} {s : State} {a0} (h : Keeps s0 s) :
    Keeps s0 (State.acqComplete s a0) := by
  unfold State.acqComplete
  repeat' (with_reducible first
    | exact h | apply keeps_onTracker | apply keeps_zero | apply keeps_setTracker | apply keeps_onFocus)

theorem keeps_acceptState {s0 : State} {s : State} {a0} (h : Keeps s0 s) :
    Keeps s0 (State.acceptState s a0) := by
  unfold State.acceptState
  repeat' (with_reducible first | exact h | apply keeps_setTracker | apply keeps_acqComplete | apply Keeps.ite)

theorem keeps_missState {s0 : State} {s : State} {a0} (h : Keeps s0 s) :
    Keeps s0 (State.missState s a0) := by
  unfold State.missState
  repeat' (with_reducible first
    | exact h | apply keeps_alignedFall | apply keeps_setTracker | apply keeps_angLost | apply Keeps.ite)

theorem keeps_wedgeSamples {s0 : State} {s : State} {a0} {a1} {a2} {a3} (h : Keeps s0 s) :
    Keeps s0 (State.wedgeSamples s a0 a1 a2 a3) := by
  unfold State.wedgeSamples
  repeat' first
    | (with_reducible first
      | exact h | apply keeps_offerSample | apply keeps_fresh | apply keeps_roundOpen | apply keeps_onServo
      | apply keeps_speedSample | apply Keeps.ite | apply Holds.ite | apply Keeps.snd)
    | dsimp only | split | with_reducible apply Holds.pair

theorem keeps_wedgeZero {s0 : State} {s : State} {a0} {a1} (h : Keeps s0 s) :
    Keeps s0 (State.wedgeZero s a0 a1) := by
  unfold State.wedgeZero
  repeat' (with_reducible first
    | exact h | apply keeps_onSched | apply keeps_keRevolution | apply keeps_onFocus | apply keeps_gapRevolution
    | apply Keeps.ite)

theorem keeps_execWedgeDecision {s0 : State} {a0} {a1} {s : State} (h : Keeps s0 s) :
    Holds inNext s0 (execWedgeDecision a0 a1 s) := by
  unfold execWedgeDecision
  repeat' first
    | intro _
    | (with_reducible first
      | exact h | assumption | apply keeps_onBay | apply keeps_onTracker | apply keeps_speedFactor | apply keeps_acceptState
      | apply keeps_wedgeAccept | apply keeps_wobble | apply keeps_sideWedge | apply keeps_wedgeSamples | apply keeps_readWedge
      | apply keeps_trackWedge | apply keeps_fineKick | apply keeps_segmentPoll | apply keeps_wedgeZero
      | apply keeps_gateRelease | apply keeps_gateCommits | apply keeps_missState | apply keeps_wedgeMiss | apply keeps_runTo
      | apply keeps_closeTracking | apply keeps_readMiss | apply keeps_gateMiss | apply Keeps.ite | apply Keeps.snd)
    | dsimp only | split

theorem keeps_execBridgeExpire {s0 : State} {a0} {s : State} (h : Keeps s0 s) :
    Holds inNext s0 (execBridgeExpire a0 s) := by
  unfold execBridgeExpire
  repeat' first | intro _ | (with_reducible first | exact h | assumption | apply keeps_onBay | apply keeps_closeBridge)

theorem keeps_execAcqTimeout {s0 : State} {a0} {s : State} (h : Keeps s0 s) :
    Holds inNext s0 (execAcqTimeout a0 s) := by
  unfold execAcqTimeout
  repeat' first
    | intro _
    | (with_reducible first
      | exact h | assumption | apply keeps_onBay | apply keeps_recordBay | apply keeps_zero | apply keeps_alignedFall
      | apply keeps_acqFail | apply Keeps.ite)

theorem keeps_toothLoss {s0 : State} {s : State} {a0} (h : Keeps s0 s) :
    Keeps s0 (State.toothLoss s a0) := by
  unfold State.toothLoss
  repeat' (with_reducible first
    | exact h | apply keeps_onTracker | apply keeps_recordBay | apply keeps_setTracker | apply keeps_alignedFall
    | apply keeps_fresh | apply keeps_observerLoss | apply Keeps.ite | apply Keeps.snd)

theorem keeps_toothMissing {s0 : State} {s : State} {a0} (h : Keeps s0 s) :
    Keeps s0 (State.toothMissing s a0) := by
  unfold State.toothMissing
  repeat' (with_reducible first | exact h | apply keeps_toothInsert | apply keeps_toothLoss | apply Keeps.ite)

theorem keeps_toothEffects {s0 : State} {s : State} {a0} {a1} (h : Keeps s0 s) :
    Keeps s0 (State.toothEffects s a0 a1) := by
  unfold State.toothEffects
  repeat' (with_reducible first
    | exact h | apply keeps_speedFactor | apply keeps_speedSample | apply keeps_roundOpen | apply keeps_onSpin
    | apply keeps_keRevolution | apply Keeps.ite | apply Keeps.snd)

theorem keeps_toothJudge {s0 : State} {a0} {a1} {a2} {s : State} (h : Keeps s0 s) :
    Keeps s0 (State.toothJudge a0 a1 a2 s) := by
  induction a2 generalizing a0 a1 s with
  | zero =>
    unfold State.toothJudge
    repeat' with_reducible exact h
  | succ k ih =>
    unfold State.toothJudge
    repeat' first
      | (with_reducible first
        | exact h | apply ih | apply keeps_count | apply keeps_toothEffects | apply keeps_toothAccept | apply keeps_toothMissing
        | apply keeps_toothSeek | apply Keeps.ite)
      | dsimp only | split

theorem keeps_execToothReport {s0 : State} {a0} {a1} {a2} {s : State} (h : Keeps s0 s) :
    Holds inNext s0 (execToothReport a0 a1 a2 s) := by
  unfold execToothReport
  repeat' first
    | intro _
    | (with_reducible first
      | exact h | assumption | apply keeps_onBay | apply keeps_onSpin | apply keeps_observerTooth | apply keeps_toothSeek
      | apply keeps_speedFactor | apply keeps_spinAutoSpeed | apply keeps_toothJudge | apply Keeps.ite)

theorem keeps_execToothSynthesis {s0 : State} {a0} {a1} {s : State} (h : Keeps s0 s) :
    Holds inNext s0 (execToothSynthesis a0 a1 s) := by
  unfold execToothSynthesis
  repeat' first
    | intro _
    | (with_reducible first
      | exact h | assumption | apply keeps_onBay | apply keeps_toothMissing | apply keeps_runTo | apply Keeps.ite)

end Sys2Proof.Machine
end

