-- ==== Sys2Proof/Laws/KeepsEvents.lean ====
section
/-!
SUPPORT. Every operation of Events.lean keeps the queue, the part and the canonical stores (Keeps.lean).
-/

namespace Sys2Proof.Machine

theorem keeps_mtWrite {s0 : State} {s : State} {a0} {a1} {a2} (h : Keeps s0 s) :
    Keeps s0 (State.mtWrite s a0 a1 a2) := by
  unfold State.mtWrite
  repeat' (with_reducible first | exact h | apply keeps_emit | apply Keeps.ite)

theorem keeps_parkRecord {s0 : State} {s : State} {a0} (h : Keeps s0 s) :
    Keeps s0 (State.parkRecord s a0) := by
  unfold State.parkRecord
  repeat' first
    | (with_reducible first
      | exact h | apply keeps_mtWrite | apply keeps_staleJournal | apply keeps_endMount | apply keeps_showWrite
      | apply keeps_onWrite | apply Keeps.ite)
    | split

theorem keeps_parkEnd {s0 : State} {s : State} {a0} (h : Keeps s0 s) :
    Keeps s0 (State.parkEnd s a0) := by
  unfold State.parkEnd
  repeat' (with_reducible first
    | exact h | apply keeps_bayDomainOff | apply keeps_parkRecord | apply keeps_setBayState | apply Keeps.ite)

theorem keeps_execCoastStoppedTimeout {s0 : State} {a0} {s : State} (h : Keeps s0 s) :
    Holds inNext s0 (execCoastStoppedTimeout a0 s) := by
  unfold execCoastStoppedTimeout
  repeat' first
    | intro _
    | (with_reducible first
      | exact h | assumption | apply keeps_onBay | apply keeps_parkEnd | apply keeps_zero | apply keeps_raise | apply Keeps.ite)

theorem keeps_moveProceed {s0 : State} {s : State} {a0} (h : Keeps s0 s) :
    Keeps s0 (State.moveProceed s a0) := by
  unfold State.moveProceed
  repeat' (with_reducible first | exact h | apply keeps_parkEnd | apply keeps_jumpProceed | apply keeps_acqProceed)

theorem keeps_execPlannerTick {s0 : State} {a0} {s : State} (h : Keeps s0 s) :
    Holds inNext s0 (execPlannerTick a0 s) := by
  unfold execPlannerTick
  repeat' first
    | intro _
    | (with_reducible first
      | exact h | assumption | apply keeps_onBay | apply keeps_moveProceed | apply keeps_plannerTick)

theorem keeps_execStepperArrived {s0 : State} {a0} {a1} {s : State} (h : Keeps s0 s) :
    Holds inNext s0 (execStepperArrived a0 a1 s) := by
  unfold execStepperArrived
  repeat' first
    | intro _
    | (with_reducible first
      | exact h | assumption | apply keeps_onBay | apply keeps_moveProceed | apply keeps_stepArrive | apply Keeps.ite)

theorem keeps_execHomeHoldEnd {s0 : State} {a0} {a1} {s : State} (h : Keeps s0 s) :
    Holds inNext s0 (execHomeHoldEnd a0 a1 s) := by
  unfold execHomeHoldEnd
  repeat' first
    | intro _
    | (with_reducible first
      | exact h | assumption | apply keeps_onBay | apply keeps_moveProceed | apply keeps_homeHoldEnd)

theorem keeps_execStallResync {s0 : State} {a0} {s : State} (h : Keeps s0 s) :
    Holds inNext s0 (execStallResync a0 s) := by
  unfold execStallResync
  repeat' first | intro _ | (with_reducible first | exact h | assumption | apply keeps_onBay | apply keeps_stallResync)

theorem keeps_execEncoderFrameReceive {s0 : State} {a0} {a1} {s : State} (h : Keeps s0 s) :
    Holds inNext s0 (execEncoderFrameReceive a0 a1 s) := by
  unfold execEncoderFrameReceive
  repeat' first
    | intro _
    | (with_reducible first
      | exact h | assumption | apply keeps_onBay | apply keeps_takeFrame | apply keeps_encTake | apply Keeps.ite)

theorem keeps_execJournalRelease {s0 : State} {a0} {s : State} (h : Keeps s0 s) :
    Holds inNext s0 (execJournalRelease a0 s) := by
  unfold execJournalRelease
  repeat' first
    | intro _
    | (with_reducible first
      | exact h | assumption | apply keeps_onBay | apply keeps_putEntry | apply keeps_raise | apply Keeps.ite)
    | dsimp only | split

theorem keeps_execJournalReleaseAll {s0 : State} {a0} {s : State} (h : Keeps s0 s) :
    Holds inNext s0 (execJournalReleaseAll a0 s) := by
  unfold execJournalReleaseAll
  repeat' first
    | intro _
    | (with_reducible first
      | exact h | assumption | apply keeps_onBay | apply keeps_putEntry | apply Keeps.foldl)

theorem keeps_execDlCommitDone {s0 : State} {a0} {a1} {a2} {a3} {s : State} (h : Keeps s0 s) :
    Holds inNext s0 (execDlCommitDone a0 a1 a2 a3 s) := by
  unfold execDlCommitDone
  repeat' first
    | intro _
    | (with_reducible first
      | exact h | assumption | apply keeps_onBay | apply keeps_commitFail | apply keeps_commitDone | apply keeps_endSegment
      | apply Keeps.ite)

theorem keeps_markShadows {s0 : State} {s : State} {a0} {a1} {a2} (h : Keeps s0 s) :
    Keeps s0 (State.markShadows s a0 a1 a2) := by
  unfold State.markShadows
  repeat' first
    | intro _
    | (with_reducible first
      | exact h | assumption | apply keeps_onRead | apply Keeps.ite | apply Keeps.foldl)

theorem keeps_advance {s0 : State} {s : State} {a0} (h : Keeps s0 s) :
    Keeps s0 (State.advance s a0) := by
  unfold State.advance
  repeat' (with_reducible first
    | exact h | apply keeps_onFocus | apply keeps_putB | apply keeps_onRead | apply keeps_markShadows | apply keeps_fineKick
    | apply Keeps.ite)

theorem keeps_offsetsFor {s0 : State} {s : State} {a0} {a1} (h : Keeps s0 s) :
    Keeps s0 (State.offsetsFor s a0 a1) := by
  unfold State.offsetsFor
  repeat' first
    | (with_reducible first
      | exact h | apply keeps_applyBias | apply keeps_putS | apply keeps_stepGo | apply keeps_onRead | apply Keeps.ite)
    | dsimp only | split

theorem keeps_offsetsBack {s0 : State} {s : State} {a0} (h : Keeps s0 s) :
    Keeps s0 (State.offsetsBack s a0) := by
  unfold State.offsetsBack
  repeat' (with_reducible first | exact h | apply keeps_onRead | apply keeps_applyBias | apply keeps_stepGo | apply Keeps.ite)

theorem keeps_frameEvent {s0 : State} {s : State} {a0} {a1} (h : Keeps s0 s) :
    Keeps s0 (State.frameEvent s a0 a1) := by
  unfold State.frameEvent
  repeat' (with_reducible first
    | exact h | apply keeps_verifyStart | apply keeps_frameStart | apply keeps_offsetsFor | apply Keeps.ite | apply Keeps.snd)

theorem keeps_execAngleEventFire {s0 : State} {a0} {a1} {a2} {a3} {s : State} (h : Keeps s0 s) :
    Holds inNext s0 (execAngleEventFire a0 a1 a2 a3 s) := by
  unfold execAngleEventFire
  repeat' first
    | intro _
    | (with_reducible first
      | exact h | assumption | apply keeps_onBay | apply keeps_runTo | apply keeps_onTracker | apply keeps_count
      | apply keeps_setBay | apply keeps_trace | apply keeps_advance | apply keeps_frameEvent | apply keeps_calRunEnd
      | apply Keeps.ite)
    | dsimp only | split

theorem keeps_blankEnds {s0 : State} {s : State} {a0} {a1} (h : Keeps s0 s) :
    Keeps s0 (State.blankEnds s a0 a1) := by
  unfold State.blankEnds
  repeat' first
    | intro _
    | (with_reducible first
      | exact h | assumption | apply keeps_verifyEnd | apply keeps_foundBlank | apply Keeps.ite | apply Keeps.foldl)

theorem keeps_rfPeriods {s0 : State} {s : State} {a0} {a1} (h : Keeps s0 s) :
    Keeps s0 (State.rfPeriods s a0 a1) := by
  unfold State.rfPeriods
  repeat' first
    | intro _
    | (with_reducible first
      | exact h | assumption | apply keeps_samplePeriod | apply keeps_frameComplete | apply keeps_blankTested
      | apply keeps_offsetsBack | apply keeps_dropDone | apply keeps_blankEnds | apply Keeps.foldl)

theorem keeps_adcBoundary {s0 : State} {s : State} {a0} (h : Keeps s0 s) :
    Keeps s0 (State.adcBoundary s a0) := by
  unfold State.adcBoundary
  repeat' first | (with_reducible first | exact h | apply keeps_abandonReads | apply keeps_onRead | apply keeps_put) | split

theorem keeps_execRfFrameReceive {s0 : State} {a0} {a1} {s : State} (h : Keeps s0 s) :
    Holds inNext s0 (execRfFrameReceive a0 a1 s) := by
  unfold execRfFrameReceive
  repeat' first
    | intro _
    | (with_reducible first
      | exact h | assumption | apply keeps_onBay | apply keeps_adcBoundary | apply keeps_takeFrame | apply keeps_rfPeriods)

theorem keeps_execAdcRateWrite {s0 : State} {a0} {a1} {s : State} (h : Keeps s0 s) :
    Holds inNext s0 (execAdcRateWrite a0 a1 s) := by
  unfold execAdcRateWrite
  repeat' first
    | intro _
    | (with_reducible first
      | exact h | assumption | apply keeps_onBay | apply keeps_onRead | apply Keeps.ite)

theorem keeps_execOtfDecodeDone {s0 : State} {a0} {s : State} (h : Keeps s0 s) :
    Holds inNext s0 (execOtfDecodeDone a0 s) := by
  unfold execOtfDecodeDone
  repeat' first
    | intro _
    | (with_reducible first
      | exact h | assumption | apply keeps_onBay | apply keeps_onFrames | apply keeps_dropDone | apply keeps_verifyEnd
      | apply keeps_otfEnd | apply Keeps.ite)
    | dsimp only | split

theorem keeps_focusInput {s0 : State} {s : State} {a0} {a1} {a2} (h : Keeps s0 s) :
    Holds inSnd s0 (State.focusInput s a0 a1 a2) := by
  unfold State.focusInput
  repeat' first
    | (with_reducible first | exact h | apply keeps_roundOpen | apply Holds.ite | apply Keeps.snd) | dsimp only
    | with_reducible apply Holds.pair

theorem keeps_rampDrive {s0 : State} {s : State} {a0} (h : Keeps s0 s) :
    Holds inSnd s0 (State.rampDrive s a0) := by
  unfold State.rampDrive
  repeat' first
    | (with_reducible first
      | exact h | apply keeps_roundOpen | apply keeps_onFocus | apply keeps_setMan | apply Keeps.snd)
    | dsimp only | with_reducible apply Holds.pair

theorem keeps_curveEnd {s0 : State} {s : State} {a0} (h : Keeps s0 s) :
    Keeps s0 (State.curveEnd s a0) := by
  unfold State.curveEnd
  repeat' (with_reducible first | exact h | apply keeps_onFocus)

theorem keeps_sweepSample {s0 : State} {s : State} {a0} {a1} {a2} (h : Keeps s0 s) :
    Keeps s0 (State.sweepSample s a0 a1 a2) := by
  unfold State.sweepSample
  repeat' (with_reducible first
    | exact h | apply keeps_rampDrive | apply keeps_onFocus | apply keeps_curveEnd | apply Keeps.ite | apply Keeps.snd)

theorem keeps_captureSample {s0 : State} {s : State} {a0} {a1} {a2} (h : Keeps s0 s) :
    Keeps s0 (State.captureSample s a0 a1 a2) := by
  unfold State.captureSample
  repeat' (with_reducible first
    | exact h | apply keeps_rampDrive | apply keeps_onFocus | apply keeps_put | apply keeps_setAuto | apply Keeps.ite
    | apply Keeps.snd)

theorem keeps_jumpBrake {s0 : State} {s : State} {a0} (h : Keeps s0 s) :
    Keeps s0 (State.jumpBrake s a0) := by
  unfold State.jumpBrake
  repeat' (with_reducible first | exact h | apply keeps_onFocus | apply keeps_setMan)

theorem keeps_jumpSample {s0 : State} {s : State} {a0} {a1} {a2} (h : Keeps s0 s) :
    Keeps s0 (State.jumpSample s a0 a1 a2) := by
  unfold State.jumpSample
  repeat' first
    | (with_reducible first
      | exact h | apply keeps_onFocus | apply keeps_jumpBrake | apply keeps_setAuto | apply keeps_fresh | apply keeps_jumpFail
      | apply Keeps.ite | apply Keeps.snd)
    | dsimp only | split

theorem keeps_lossSample {s0 : State} {s : State} {a0} {a1} (h : Keeps s0 s) :
    Keeps s0 (State.lossSample s a0 a1) := by
  unfold State.lossSample
  repeat' (with_reducible first
    | exact h | apply keeps_onFocus | apply keeps_enterRecovery | apply keeps_recordFocus | apply keeps_count
    | apply keeps_endGateRun | apply Keeps.ite)

theorem keeps_rampOffSample {s0 : State} {s : State} {a0} (h : Keeps s0 s) :
    Keeps s0 (State.rampOffSample s a0) := by
  unfold State.rampOffSample
  repeat' first
    | (with_reducible first
      | exact h | apply keeps_roundOpen | apply keeps_loopOutput | apply keeps_setMan | apply keeps_onServo | apply Keeps.snd)
    | dsimp only | split

theorem keeps_execServoFrameReceive {s0 : State} {a0} {a1} {s : State} (h : Keeps s0 s) :
    Holds inNext s0 (execServoFrameReceive a0 a1 s) := by
  unfold execServoFrameReceive
  repeat' first
    | intro _
    | (with_reducible first
      | exact h | assumption | apply keeps_onBay | apply keeps_takeFrame | apply keeps_focusInput | apply keeps_onServo
      | apply keeps_offerSample | apply keeps_sweepSample | apply keeps_captureSample | apply keeps_acqFail
      | apply keeps_rampOffSample | apply keeps_lossSample | apply keeps_jumpSample | apply keeps_onFocus | apply Keeps.ite
      | apply Keeps.snd)
    | split

end Sys2Proof.Machine
end

