-- ==== Sys2Proof/Laws/KeepsPorter.lean ====
section
/-!
SUPPORT. Every operation of Porter.lean keeps the queue, the part and the canonical stores (Keeps.lean).
-/

namespace Sys2Proof.Machine

theorem keeps_setSub {s0 : State} {s : State} {a0} {a1} (h : Keeps s0 s) :
    Keeps s0 (State.setSub s a0 a1) := by
  unfold State.setSub
  repeat' (with_reducible first | exact h | rfl | apply Keeps.update)

theorem keeps_setPendingOf {s0 : State} {s : State} {a0} {a1} (h : Keeps s0 s) :
    Keeps s0 (State.setPendingOf s a0 a1) := by
  unfold State.setPendingOf
  repeat' (with_reducible first | exact h | rfl | apply Keeps.update)

theorem keeps_porterEvent {s0 : State} {s : State} (h : Keeps s0 s) :
    Keeps s0 (State.porterEvent s) := by
  unfold State.porterEvent
  repeat' (with_reducible first | exact h | apply keeps_signal)

theorem keeps_onPorter {s0 : State} {s : State} {a0} (h : Keeps s0 s) :
    Keeps s0 (State.onPorter s a0) := by
  unfold State.onPorter
  repeat' (with_reducible first | exact h | rfl | apply Keeps.update)

theorem keeps_showBusy {s0 : State} {s : State} (h : Keeps s0 s) :
    Keeps s0 (State.showBusy s) := by
  unfold State.showBusy
  repeat' (with_reducible first | exact h | apply keeps_putB)

theorem keeps_haltChannel {s0 : State} {s : State} {a0} {a1} {a2} {a3} {a4} {a5} (h : Keeps s0 s) :
    Keeps s0 (State.haltChannel s a0 a1 a2 a3 a4 a5) := by
  unfold State.haltChannel
  repeat' first
    | (with_reducible first
      | exact h | apply keeps_put | apply keeps_setBitOf | apply keeps_raise | apply keeps_porterEvent | apply keeps_record
      | rfl)
    | split | with_reducible apply Keeps.update

theorem keeps_unhalt {s0 : State} {s : State} {a0} (h : Keeps s0 s) :
    Keeps s0 (State.unhalt s a0) := by
  unfold State.unhalt
  repeat' first
    | intro _
    | (with_reducible first
      | exact h | assumption | apply keeps_zero | apply keeps_setBitOf | apply keeps_caddyServe | apply keeps_freePtr | rfl
      | apply Keeps.foldl)
    | split | with_reducible apply Keeps.update

theorem keeps_haltCommand {s0 : State} {s : State} {a0} {a1} {a2} (h : Keeps s0 s) :
    Keeps s0 (State.haltCommand s a0 a1 a2) := by
  unfold State.haltCommand
  repeat' first
    | intro _
    | (with_reducible first
      | exact h | assumption | apply keeps_dropSector | apply keeps_onTag | apply keeps_stopTag | apply keeps_endTag
      | apply keeps_endWork | apply keeps_endUnit | apply Keeps.ite | apply Keeps.foldl)
    | dsimp only | split

theorem keeps_channelFail {s0 : State} {s : State} {a0} {a1} {a2} {a3} {a4} (h : Keeps s0 s) :
    Keeps s0 (State.channelFail s a0 a1 a2 a3 a4) := by
  unfold State.channelFail
  repeat' first
    | (with_reducible first
      | exact h | apply keeps_haltChannel | apply keeps_endUnit | apply keeps_setSub | apply keeps_onPorter
      | apply keeps_haltCommand | apply Keeps.ite)
    | dsimp only | split

theorem keeps_doorbellFetch {s0 : State} {s : State} (h : Keeps s0 s) :
    Keeps s0 (State.doorbellFetch s) := by
  unfold State.doorbellFetch
  repeat' (with_reducible first | exact h | apply keeps_emit | apply keeps_onPorter | apply Keeps.ite)

theorem keeps_execDoorbellWake {s0 : State} {s : State} (h : Keeps s0 s) :
    Holds inNext s0 (execDoorbellWake s) := by
  unfold execDoorbellWake
  repeat' (with_reducible first | exact h | apply keeps_onPorter | apply keeps_doorbellFetch | apply Keeps.ite | apply Holds.next)

theorem keeps_execDoorbellPollTimer {s0 : State} {s : State} (h : Keeps s0 s) :
    Holds inNext s0 (execDoorbellPollTimer s) := by
  unfold execDoorbellPollTimer
  repeat' (with_reducible first | exact h | apply keeps_doorbellFetch | apply Keeps.ite | apply Holds.next)

theorem keeps_readRing {s0 : State} {s : State} {a0} (h : Keeps s0 s) :
    Keeps s0 (State.readRing s a0) := by
  unfold State.readRing
  repeat' (with_reducible first | exact h | apply keeps_emit | apply keeps_onPorter | apply keeps_setSub | apply Keeps.ite)

theorem keeps_readRings {s0 : State} {s : State} (h : Keeps s0 s) :
    Keeps s0 (State.readRings s) := by
  unfold State.readRings
  repeat' first
    | intro _
    | (with_reducible first
      | exact h | assumption | apply keeps_readRing | apply Keeps.ite | apply Keeps.foldl)

theorem keeps_takeTail {s0 : State} {s : State} {a0} {a1} (h : Keeps s0 s) :
    Keeps s0 (State.takeTail s a0 a1) := by
  unfold State.takeTail
  repeat' (with_reducible first | exact h | apply keeps_setSub | apply keeps_haltChannel | apply keeps_onPorter | apply keeps_put | apply Keeps.ite)

theorem keeps_takeHead {s0 : State} {s : State} {a0} {a1} (h : Keeps s0 s) :
    Keeps s0 (State.takeHead s a0 a1) := by
  unfold State.takeHead
  repeat' (with_reducible first | exact h | apply keeps_put | apply keeps_record | apply keeps_raise | apply Keeps.ite)

theorem keeps_execDoorbellFetchDone {s0 : State} {a0} {a1} {s : State} (h : Keeps s0 s) :
    Holds inNext s0 (execDoorbellFetchDone a0 a1 s) := by
  unfold execDoorbellFetchDone
  repeat' first
    | intro _
    | (with_reducible first
      | exact h | assumption | apply keeps_onPorter | apply keeps_takeHead | apply keeps_takeTail | apply keeps_showBusy
      | apply keeps_readRings | apply keeps_doorbellFetch | apply Keeps.ite | apply Keeps.foldl | apply Holds.next)

theorem keeps_execWaybillReadDone {s0 : State} {a0} {a1} {s : State} (h : Keeps s0 s) :
    Holds inNext s0 (execWaybillReadDone a0 a1 s) := by
  unfold execWaybillReadDone
  repeat' (with_reducible first | exact h | apply keeps_setSub | apply Holds.next)

theorem keeps_giveTag {s0 : State} {s : State} {a0} {a1} {a2} (h : Keeps s0 s) :
    Keeps s0 (State.giveTag s a0 a1 a2) := by
  unfold State.giveTag
  repeat' (with_reducible first | exact h | apply keeps_setBay | apply keeps_onTag | apply keeps_put)

theorem keeps_fillTags {s0 : State} {a0} {a1} {s : State} (h : Keeps s0 s) :
    Keeps s0 (State.fillTags a0 a1 s) := by
  induction a1 generalizing a0 s with
  | zero =>
    unfold State.fillTags
    repeat' with_reducible exact h
  | succ k ih =>
    unfold State.fillTags
    repeat' first
      | (with_reducible first
        | exact h | apply ih | apply keeps_giveTag | apply keeps_setBay | apply Keeps.ite)
      | dsimp only | split

theorem keeps_admitBay {s0 : State} {s : State} {a0} {a1} (h : Keeps s0 s) :
    Keeps s0 (State.admitBay s a0 a1) := by
  unfold State.admitBay
  repeat' (with_reducible first | exact h | apply keeps_setBay | apply keeps_fillTags | apply Keeps.ite)

theorem keeps_routeWaybill {s0 : State} {s : State} {a0} {a1} (h : Keeps s0 s) :
    Keeps s0 (State.routeWaybill s a0 a1) := by
  unfold State.routeWaybill
  repeat' first
    | (with_reducible first | exact h | apply keeps_refuse | apply keeps_admitBay | rfl | apply Keeps.ite) | dsimp only
    | with_reducible apply Keeps.update

theorem keeps_execWaybillAdmit {s0 : State} {a0} {a1} {s : State} (h : Keeps s0 s) :
    Holds inNext s0 (execWaybillAdmit a0 a1 s) := by
  unfold execWaybillAdmit
  repeat' first
    | (with_reducible first
      | exact h | apply keeps_fillTags | apply keeps_raise | apply keeps_trace | apply keeps_put | apply keeps_zero
      | apply keeps_setSub | apply keeps_routeWaybill | apply keeps_refuse | apply keeps_porterEvent | apply keeps_record
      | apply keeps_count | apply keeps_showBusy | apply keeps_readRings | apply Keeps.ite | apply Holds.next)
    | dsimp only | split

theorem keeps_execHostReadFail {s0 : State} {a0} {a1} {a2} {a3} {a4} {s : State} (h : Keeps s0 s) :
    Holds inNext s0 (execHostReadFail a0 a1 a2 a3 a4 s) := by
  unfold execHostReadFail
  repeat' (with_reducible first | exact h | apply keeps_channelFail | apply Holds.next)

theorem keeps_execHostReadCplTimeout {s0 : State} {a0} {a1} {a2} {a3} {s : State} (h : Keeps s0 s) :
    Holds inNext s0 (execHostReadCplTimeout a0 a1 a2 a3 s) := by
  unfold execHostReadCplTimeout
  repeat' (with_reducible first | exact h | apply keeps_channelFail | apply Holds.next)

theorem keeps_execDmaRestart {s0 : State} {a0} {s : State} (h : Keeps s0 s) :
    Holds inNext s0 (execDmaRestart a0 s) := by
  unfold execDmaRestart
  repeat' (with_reducible first
    | exact h | apply keeps_raise | apply keeps_unhalt | apply keeps_setSub | apply Keeps.ite | apply Holds.next)

theorem keeps_ringMessage {s0 : State} {s : State} {a0} (h : Keeps s0 s) :
    Keeps s0 (State.ringMessage s a0) := by
  unfold State.ringMessage
  repeat' (with_reducible first
    | exact h | apply keeps_pbaSet | apply keeps_setPendingOf | apply keeps_sendMsix | apply Keeps.ite)

theorem keeps_execReceiptWrite {s0 : State} {s : State} (h : Keeps s0 s) :
    Holds inNext s0 (execReceiptWrite s) := by
  unfold execReceiptWrite
  repeat' first
    | (with_reducible first
      | exact h | apply keeps_emit | apply keeps_onPorter | apply keeps_trace | apply keeps_put | apply keeps_zero
      | apply keeps_drainRing | apply keeps_unreserve | apply keeps_setPendingOf | apply keeps_ringMessage
      | apply keeps_showBusy | apply keeps_readRings | apply Keeps.ite | apply Holds.next)
    | dsimp only | split

theorem keeps_execCoalesceTimer {s0 : State} {a0} {s : State} (h : Keeps s0 s) :
    Holds inNext s0 (execCoalesceTimer a0 s) := by
  unfold execCoalesceTimer
  repeat' (with_reducible first | exact h | apply keeps_ringMessage | apply Keeps.ite | apply Holds.next)

theorem keeps_releaseVectors {s0 : State} {s : State} (h : Keeps s0 s) :
    Keeps s0 (State.releaseVectors s) := by
  unfold State.releaseVectors
  repeat' first
    | intro _
    | (with_reducible first
      | exact h | assumption | apply keeps_setPendingOf | apply keeps_pbaSet | apply keeps_sendMsix | apply Keeps.ite
      | apply Keeps.foldl)

theorem keeps_execVectorUnmask {s0 : State} {a0} {s : State} (h : Keeps s0 s) :
    Holds inNext s0 (execVectorUnmask a0 s) := by
  unfold execVectorUnmask
  repeat' first
    | (with_reducible first
      | exact h | apply keeps_releaseVectors | apply keeps_zero | rfl | apply Holds.next)
    | dsimp only | split | with_reducible apply Keeps.update

theorem keeps_execBusMasterEnable {s0 : State} {s : State} (h : Keeps s0 s) :
    Holds inNext s0 (execBusMasterEnable s) := by
  unfold execBusMasterEnable
  repeat' first
    | (with_reducible first | exact h | apply keeps_releaseVectors | rfl | apply Holds.next) | dsimp only
    | with_reducible apply Keeps.update

theorem keeps_execBusMasterEnableClear {s0 : State} {a0} {s : State} (h : Keeps s0 s) :
    Holds inNext s0 (execBusMasterEnableClear a0 s) := by
  unfold execBusMasterEnableClear
  repeat' first
    | (with_reducible first | exact h | rfl | apply Holds.next) | dsimp only | split | with_reducible apply Keeps.update

theorem keeps_execSubRingEnable {s0 : State} {a0} {s : State} (h : Keeps s0 s) :
    Holds inNext s0 (execSubRingEnable a0 s) := by
  unfold execSubRingEnable
  repeat' (with_reducible first
    | exact h | apply keeps_setSub | apply keeps_zero | apply keeps_raise | apply Keeps.ite | apply Holds.next)

theorem keeps_execSubRingDisable {s0 : State} {a0} {s : State} (h : Keeps s0 s) :
    Holds inNext s0 (execSubRingDisable a0 s) := by
  unfold execSubRingDisable
  repeat' (with_reducible first | exact h | apply keeps_setSub | apply keeps_zero | apply Holds.next)

theorem keeps_execRcpRingEnable {s0 : State} {a0} {s : State} (h : Keeps s0 s) :
    Holds inNext s0 (execRcpRingEnable a0 s) := by
  unfold execRcpRingEnable
  repeat' (with_reducible first
    | exact h | apply keeps_raise | apply keeps_setPendingOf | apply keeps_zero | apply Keeps.ite | apply Holds.next)

theorem keeps_execRcpRingDisable {s0 : State} {a0} {s : State} (h : Keeps s0 s) :
    Holds inNext s0 (execRcpRingDisable a0 s) := by
  unfold execRcpRingDisable
  repeat' (with_reducible first | exact h | apply keeps_putB | apply keeps_zero | apply Keeps.ite | apply Holds.next)

end Sys2Proof.Machine
end

