-- ==== Sys2Proof/Laws/KeepsStage.lean ====
section
/-!
SUPPORT. Every operation of Stage.lean keeps the queue, the part and the canonical stores (Keeps.lean).
-/

namespace Sys2Proof.Machine

theorem keeps_endStopped {s0 : State} {s : State} {a0} {a1} (h : Keeps s0 s) :
    Keeps s0 (State.endStopped s a0 a1) := by
  unfold State.endStopped
  repeat' first
    | (with_reducible first
      | exact h | apply keeps_endWork | apply keeps_endTag | apply keeps_endTagNatural)
    | dsimp only | split

theorem keeps_endRefused {s0 : State} {s : State} {a0} {a1} {a2} (h : Keeps s0 s) :
    Keeps s0 (State.endRefused s a0 a1 a2) := by
  unfold State.endRefused
  repeat' (with_reducible first | exact h | apply keeps_dropTag | apply keeps_finalReceipt | apply keeps_put)

theorem keeps_stageNext {s0 : State} {a0} {a1} {a2} {s : State} (h : Keeps s0 s) :
    Keeps s0 (State.stageNext a0 a1 a2 s) := by
  induction a2 generalizing a0 a1 s with
  | zero =>
    unfold State.stageNext
    repeat' with_reducible exact h
  | succ k ih =>
    unfold State.stageNext
    repeat' first
      | (with_reducible first
        | exact h | apply ih | apply keeps_stopTag | apply keeps_setItem | apply keeps_count | apply keeps_onWrite
        | apply keeps_addParity | apply keeps_setTag | apply Keeps.ite)
      | dsimp only | split

theorem keeps_stageData {s0 : State} {s : State} {a0} {a1} {a2} (h : Keeps s0 s) :
    Keeps s0 (State.stageData s a0 a1 a2) := by
  unfold State.stageData
  repeat' first | (with_reducible first | exact h | apply keeps_stageNext | apply keeps_setTag) | split

theorem keeps_execDmaReadDone {s0 : State} {a0} {a1} {a2} {s : State} (h : Keeps s0 s) :
    Holds inNext s0 (execDmaReadDone a0 a1 a2 s) := by
  unfold execDmaReadDone
  repeat' first
    | intro _
    | (with_reducible first
      | exact h | assumption | apply keeps_onBay | apply keeps_stageData | apply Keeps.ite)
    | split

theorem keeps_closeExtent {s0 : State} {s : State} {a0} {a1} {a2} {a3} {a4} (h : Keeps s0 s) :
    Holds inSome s0 (State.closeExtent s a0 a1 a2 a3 a4) := by
  unfold State.closeExtent
  repeat' first | intro _ | (with_reducible first | exact h | apply keeps_onWrite | apply Holds.mapSome | apply Holds.bindSome)

theorem keeps_openExtents {s0 : State} {s : State} {a0} {a1} {a2} (h : Keeps s0 s) :
    Keeps s0 (State.openExtents s a0 a1 a2) := by
  unfold State.openExtents
  repeat' first
    | intro _
    | (with_reducible first
      | exact h | assumption | apply keeps_setItem | apply keeps_setTag | apply keeps_caddyRequest | apply Keeps.ite
      | apply Keeps.foldl)
    | dsimp only | split

end Sys2Proof.Machine
end

