-- ==== Sys2Proof/Laws/KeepsFabric.lean ====
section
/-!
SUPPORT. Every operation of Fabric.lean keeps the queue, the part and the canonical stores (Keeps.lean).
-/

namespace Sys2Proof.Machine

theorem keeps_pfcCheck {s0 : State} {s : State} {a0} (h : Keeps s0 s) :
    Keeps s0 (State.pfcCheck s a0) := by
  unfold State.pfcCheck
  repeat' (with_reducible first | exact h | apply keeps_emit | apply keeps_onFab | apply Keeps.ite)

theorem keeps_fabEvent {s0 : State} {s : State} (h : Keeps s0 s) :
    Keeps s0 (State.fabEvent s) := by
  unfold State.fabEvent
  repeat' (with_reducible first | exact h | apply keeps_signal)

theorem keeps_xferStatus {s0 : State} {s : State} {a0} {a1} (h : Keeps s0 s) :
    Keeps s0 (State.xferStatus s a0 a1) := by
  unfold State.xferStatus
  repeat' first
    | (with_reducible first
      | exact h | apply keeps_endUnit | apply keeps_stopTag | apply keeps_endTagAt | apply keeps_endWork | apply Keeps.ite)
    | split

theorem keeps_xferFail {s0 : State} {s : State} {a0} {a1} {a2} (h : Keeps s0 s) :
    Keeps s0 (State.xferFail s a0 a1 a2) := by
  unfold State.xferFail
  repeat' first | (with_reducible first | exact h | apply keeps_xferStatus | apply keeps_abortXfer | apply keeps_dropXfer) | split

theorem keeps_peerLostRecord {s0 : State} {s : State} {a0} {a1} (h : Keeps s0 s) :
    Keeps s0 (State.peerLostRecord s a0 a1) := by
  unfold State.peerLostRecord
  repeat' first
    | (with_reducible first
      | exact h | apply keeps_fresh | apply keeps_fabEvent | apply keeps_alert | apply keeps_record | apply Keeps.snd)
    | split | with_reducible apply Holds.pair

theorem keeps_peerLost {s0 : State} {s : State} {a0} (h : Keeps s0 s) :
    Keeps s0 (State.peerLost s a0) := by
  unfold State.peerLost
  repeat' (with_reducible first
    | exact h | apply keeps_peerLostRecord | apply keeps_xferFail | apply keeps_dropXfer | apply Keeps.ite)

theorem keeps_xferDone {s0 : State} {s : State} {a0} {a1} {a2} (h : Keeps s0 s) :
    Keeps s0 (State.xferDone s a0 a1 a2) := by
  unfold State.xferDone
  repeat' first
    | (with_reducible first
      | exact h | apply keeps_setXfer | apply keeps_endUnit | apply keeps_dropXfer | apply keeps_onTag | apply Keeps.ite)
    | dsimp only | split

theorem keeps_sendFrame {s0 : State} {s : State} {a0} {a1} (h : Keeps s0 s) :
    Keeps s0 (State.sendFrame s a0 a1) := by
  unfold State.sendFrame
  repeat' first
    | (with_reducible first
      | exact h | apply keeps_peerLost | apply keeps_fabSend | apply keeps_setXfer | apply keeps_count | apply keeps_memRead
      | apply keeps_channelFail | apply keeps_abortXfer | apply Keeps.ite)
    | (refine Keeps.ofPair (by with_reducible assumption) ?_) | dsimp only | split

theorem keeps_pump {s0 : State} {a0} {a1} {a2} {a3} {s : State} (h : Keeps s0 s) :
    Keeps s0 (State.pump a0 a1 a2 a3 s) := by
  induction a3 generalizing a0 a1 a2 s with
  | zero =>
    unfold State.pump
    repeat' with_reducible exact h
  | succ k ih =>
    unfold State.pump
    repeat' first | (with_reducible first | exact h | apply ih | apply keeps_sendFrame | apply Keeps.ite) | dsimp only | split

theorem keeps_pumpXfer {s0 : State} {s : State} {a0} (h : Keeps s0 s) :
    Keeps s0 (State.pumpXfer s a0) := by
  unfold State.pumpXfer
  repeat' (with_reducible first | exact h | apply keeps_pump)

theorem keeps_pumpUse {s0 : State} {s : State} {a0} (h : Keeps s0 s) :
    Keeps s0 (State.pumpUse s a0) := by
  unfold State.pumpUse
  repeat' first | intro _ | (with_reducible first | exact h | assumption | apply keeps_pumpXfer | apply Keeps.foldl)

theorem keeps_resend {s0 : State} {s : State} {a0} {a1} (h : Keeps s0 s) :
    Keeps s0 (State.resend s a0 a1) := by
  unfold State.resend
  repeat' first | (with_reducible first | exact h | apply keeps_sendFrame | apply Keeps.ite) | split

theorem keeps_openXfer {s0 : State} {s : State} {a0} {a1} {a2} {a3} {a4} {a5} {a6} {a7} {a8} {a9} (h : Keeps s0 s) :
    Holds inSnd s0 (State.openXfer s a0 a1 a2 a3 a4 a5 a6 a7 a8 a9) := by
  unfold State.openXfer
  repeat' first
    | (with_reducible first
      | exact h | apply keeps_showXfers | apply keeps_onFab | apply keeps_sendOpen | apply Holds.ite)
    | dsimp only | split | with_reducible apply Holds.pair

theorem keeps_sendAck {s0 : State} {s : State} {a0} (h : Keeps s0 s) :
    Keeps s0 (State.sendAck s a0) := by
  unfold State.sendAck
  repeat' (with_reducible first | exact h | apply keeps_fabControl | apply keeps_setXfer)

theorem keeps_ackNow {s0 : State} {s : State} {a0} (h : Keeps s0 s) :
    Keeps s0 (State.ackNow s a0) := by
  unfold State.ackNow
  repeat' (with_reducible first | exact h | apply keeps_sendAck | apply keeps_xferDone | apply Keeps.ite)

theorem keeps_giveData {s0 : State} {s : State} {a0} {a1} (h : Keeps s0 s) :
    Keeps s0 (State.giveData s a0 a1) := by
  unfold State.giveData
  repeat' first | (with_reducible first | exact h | apply keeps_stageData | apply keeps_setXfer) | dsimp only | split

theorem keeps_takeData {s0 : State} {s : State} {a0} {a1} {a2} (h : Keeps s0 s) :
    Keeps s0 (State.takeData s a0 a1 a2) := by
  unfold State.takeData
  repeat' first
    | (with_reducible first
      | exact h | apply keeps_sendAck | apply keeps_ackNow | apply keeps_setXfer | apply keeps_memWrite | apply keeps_giveData
      | apply Keeps.ite | apply Keeps.snd)
    | (refine Keeps.ofPair (by with_reducible assumption) ?_) | dsimp only | split | with_reducible apply Holds.pair

theorem keeps_takeAck {s0 : State} {s : State} {a0} {a1} {a2} {a3} (h : Keeps s0 s) :
    Keeps s0 (State.takeAck s a0 a1 a2 a3) := by
  unfold State.takeAck
  repeat' first
    | intro _
    | (with_reducible first
      | exact h | assumption | apply keeps_setXfer | apply keeps_xferDone | apply keeps_dropXfer | apply keeps_pumpXfer
      | apply keeps_resend | apply Keeps.ite | apply Keeps.foldl)

theorem keeps_authDrop {s0 : State} {s : State} {a0} {a1} (h : Keeps s0 s) :
    Keeps s0 (State.authDrop s a0 a1) := by
  unfold State.authDrop
  repeat' first
    | (with_reducible first
      | exact h | apply keeps_count | apply keeps_setXfer | apply keeps_record | apply keeps_xferFail | apply keeps_abortXfer
      | apply Keeps.ite)
    | dsimp only | split

theorem keeps_staleNote {s0 : State} {s : State} {a0} {a1} (h : Keeps s0 s) :
    Keeps s0 (State.staleNote s a0 a1) := by
  unfold State.staleNote
  repeat' (with_reducible first | exact h | apply keeps_record | apply keeps_onFab | apply Keeps.ite)

theorem keeps_sendStale {s0 : State} {s : State} {a0} {a1} (h : Keeps s0 s) :
    Keeps s0 (State.sendStale s a0 a1) := by
  unfold State.sendStale
  repeat' first
    | (with_reducible first
      | exact h | apply keeps_staleNote | apply keeps_fabControl | apply keeps_fabSend | apply Keeps.ite)
    | dsimp only | split

theorem keeps_refuseOpen {s0 : State} {s : State} {a0} {a1} {a2} (h : Keeps s0 s) :
    Keeps s0 (State.refuseOpen s a0 a1 a2) := by
  unfold State.refuseOpen
  repeat' (with_reducible first | exact h | apply keeps_fabSend)

theorem keeps_takeOpen {s0 : State} {s : State} {a0} {a1} (h : Keeps s0 s) :
    Keeps s0 (State.takeOpen s a0 a1) := by
  unfold State.takeOpen
  repeat' first
    | (with_reducible first
      | exact h | apply keeps_sendAck | apply keeps_fabControl | apply keeps_refuseOpen | apply keeps_showXfers
      | apply keeps_onFab | apply keeps_pumpXfer | apply Keeps.ite)
    | dsimp only | split

theorem keeps_takeAccept {s0 : State} {s : State} {a0} (h : Keeps s0 s) :
    Keeps s0 (State.takeAccept s a0) := by
  unfold State.takeAccept
  repeat' first | (with_reducible first | exact h | apply keeps_pumpXfer | apply keeps_setXfer | apply Keeps.ite) | split

theorem keeps_takeRefuse {s0 : State} {s : State} {a0} (h : Keeps s0 s) :
    Keeps s0 (State.takeRefuse s a0) := by
  unfold State.takeRefuse
  repeat' first | (with_reducible first | exact h | apply keeps_setXfer | apply keeps_xferFail | apply Keeps.ite) | split

theorem keeps_takeDataFrame {s0 : State} {s : State} {a0} {a1} (h : Keeps s0 s) :
    Keeps s0 (State.takeDataFrame s a0 a1) := by
  unfold State.takeDataFrame
  repeat' first | (with_reducible first | exact h | apply keeps_takeData | apply Keeps.ite) | split

theorem keeps_takeAckFrame {s0 : State} {s : State} {a0} (h : Keeps s0 s) :
    Keeps s0 (State.takeAckFrame s a0) := by
  unfold State.takeAckFrame
  repeat' first | (with_reducible first | exact h | apply keeps_takeAck) | split

theorem keeps_takeStale {s0 : State} {s : State} {a0} {a1} (h : Keeps s0 s) :
    Keeps s0 (State.takeStale s a0 a1) := by
  unfold State.takeStale
  repeat' first
    | (with_reducible first
      | exact h | apply keeps_staleNote | apply keeps_xferFail | apply keeps_abortXfer | apply Keeps.ite)
    | dsimp only | split

theorem keeps_takeAbort {s0 : State} {s : State} {a0} (h : Keeps s0 s) :
    Keeps s0 (State.takeAbort s a0) := by
  unfold State.takeAbort
  repeat' first
    | (with_reducible first
      | exact h | apply keeps_dropXfer | apply keeps_peerLostRecord | apply keeps_xferFail | apply Keeps.ite)
    | dsimp only | split

theorem keeps_takeKind {s0 : State} {s : State} {a0} {a1} (h : Keeps s0 s) :
    Keeps s0 (State.takeKind s a0 a1) := by
  unfold State.takeKind
  repeat' (with_reducible first
    | exact h | apply keeps_takeOpen | apply keeps_takeAccept | apply keeps_takeRefuse | apply keeps_takeDataFrame
    | apply keeps_takeAckFrame | apply keeps_takeStale | apply keeps_takeAbort | apply Keeps.ite)

theorem keeps_holdFrame {s0 : State} {s : State} {a0} {a1} (h : Keeps s0 s) :
    Keeps s0 (State.holdFrame s a0 a1) := by
  unfold State.holdFrame
  repeat' first
    | (with_reducible first
      | exact h | apply keeps_caddyGrant | apply keeps_pfcCheck | apply keeps_onFab | apply keeps_count)
    | (refine Keeps.ofSomePair (by with_reducible assumption) ?_) | split

theorem keeps_admitFrame {s0 : State} {s : State} {a0} {a1} {a2} (h : Keeps s0 s) :
    Keeps s0 (State.admitFrame s a0 a1 a2) := by
  unfold State.admitFrame
  repeat' first
    | (with_reducible first
      | exact h | apply keeps_takeKind | apply keeps_holdFrame | apply keeps_refuseOpen | apply keeps_count
      | apply keeps_sendStale)
    | split

theorem keeps_stReceive {s0 : State} {s : State} {a0} {a1} {a2} {a3} (h : Keeps s0 s) :
    Keeps s0 (State.stReceive s a0 a1 a2 a3) := by
  unfold State.stReceive
  repeat' first
    | (with_reducible first
      | exact h | apply keeps_count | apply keeps_memSeen | apply keeps_authDrop | apply keeps_admitFrame | apply Keeps.ite)
    | dsimp only | split

theorem keeps_execStOpenReceive {s0 : State} {a0} {a1} {a2} {s : State} (h : Keeps s0 s) :
    Holds inNext s0 (execStOpenReceive a0 a1 a2 s) := by
  unfold execStOpenReceive
  repeat' (with_reducible first | exact h | apply keeps_stReceive | apply Holds.next)

theorem keeps_execStAcceptReceive {s0 : State} {a0} {a1} {a2} {s : State} (h : Keeps s0 s) :
    Holds inNext s0 (execStAcceptReceive a0 a1 a2 s) := by
  unfold execStAcceptReceive
  repeat' (with_reducible first | exact h | apply keeps_stReceive | apply Holds.next)

theorem keeps_execStRefuseReceive {s0 : State} {a0} {a1} {s : State} (h : Keeps s0 s) :
    Holds inNext s0 (execStRefuseReceive a0 a1 s) := by
  unfold execStRefuseReceive
  repeat' (with_reducible first | exact h | apply keeps_stReceive | apply Holds.next)

theorem keeps_execStDataReceive {s0 : State} {a0} {a1} {a2} {s : State} (h : Keeps s0 s) :
    Holds inNext s0 (execStDataReceive a0 a1 a2 s) := by
  unfold execStDataReceive
  repeat' (with_reducible first | exact h | apply keeps_stReceive | apply Holds.next)

theorem keeps_execStAckReceive {s0 : State} {a0} {a1} {a2} {s : State} (h : Keeps s0 s) :
    Holds inNext s0 (execStAckReceive a0 a1 a2 s) := by
  unfold execStAckReceive
  repeat' (with_reducible first | exact h | apply keeps_stReceive | apply Holds.next)

theorem keeps_execStStaleReceive {s0 : State} {a0} {a1} {s : State} (h : Keeps s0 s) :
    Holds inNext s0 (execStStaleReceive a0 a1 s) := by
  unfold execStStaleReceive
  repeat' (with_reducible first | exact h | apply keeps_stReceive | apply Holds.next)

theorem keeps_execStAbortReceive {s0 : State} {a0} {a1} {s : State} (h : Keeps s0 s) :
    Holds inNext s0 (execStAbortReceive a0 a1 s) := by
  unfold execStAbortReceive
  repeat' (with_reducible first | exact h | apply keeps_stReceive | apply Holds.next)

theorem keeps_execNeighborSolicitation {s0 : State} {a0} {a1} {a2} {s : State} (h : Keeps s0 s) :
    Holds inNext s0 (execNeighborSolicitation a0 a1 a2 s) := by
  unfold execNeighborSolicitation
  repeat' (with_reducible first | exact h | apply keeps_portEmit | apply Keeps.ite | apply Holds.next)

theorem keeps_execIcmpEchoRequest {s0 : State} {a0} {a1} {s : State} (h : Keeps s0 s) :
    Holds inNext s0 (execIcmpEchoRequest a0 a1 s) := by
  unfold execIcmpEchoRequest
  repeat' (with_reducible first | exact h | apply keeps_portEmit | apply Keeps.ite | apply Holds.next)

theorem keeps_execPriorityFlowControlReceive {s0 : State} {a0} {a1} {s : State} (h : Keeps s0 s) :
    Holds inNext s0 (execPriorityFlowControlReceive a0 a1 s) := by
  unfold execPriorityFlowControlReceive
  repeat' first
    | intro _
    | (with_reducible first
      | exact h | assumption | apply keeps_raise | apply keeps_zero | apply keeps_emit | apply keeps_onFab | apply Keeps.ite
      | apply Keeps.foldl | apply Holds.next)

theorem keeps_execRtoExpire {s0 : State} {a0} {a1} {a2} {a3} {s : State} (h : Keeps s0 s) :
    Holds inNext s0 (execRtoExpire a0 a1 a2 a3 s) := by
  unfold execRtoExpire
  repeat' first
    | (with_reducible first
      | exact h | apply keeps_sendOpen | apply keeps_resend | apply keeps_setXfer | apply keeps_memSeen | apply Keeps.ite
      | apply Holds.next)
    | dsimp only | split

theorem keeps_execAckDelayTimer {s0 : State} {a0} {a1} {a2} {s : State} (h : Keeps s0 s) :
    Holds inNext s0 (execAckDelayTimer a0 a1 a2 s) := by
  unfold execAckDelayTimer
  repeat' first | (with_reducible first | exact h | apply keeps_ackNow | apply Keeps.ite | apply Holds.next) | split

theorem keeps_execPeerTimeout {s0 : State} {a0} {a1} {a2} {s : State} (h : Keeps s0 s) :
    Holds inNext s0 (execPeerTimeout a0 a1 a2 s) := by
  unfold execPeerTimeout
  repeat' first
    | (with_reducible first
      | exact h | apply keeps_dropXfer | apply keeps_xferFail | apply keeps_peerLost | apply Keeps.ite | apply Holds.next)
    | split

theorem keeps_dropHeld {s0 : State} {s : State} {a0} (h : Keeps s0 s) :
    Keeps s0 (State.dropHeld s a0) := by
  unfold State.dropHeld
  repeat' (with_reducible first
    | exact h | apply keeps_pfcCheck | apply keeps_caddyServe | apply keeps_freePtr | apply keeps_onFab)

theorem keeps_execEpochHoldExpire {s0 : State} {a0} {s : State} (h : Keeps s0 s) :
    Holds inNext s0 (execEpochHoldExpire a0 s) := by
  unfold execEpochHoldExpire
  repeat' first
    | (with_reducible first
      | exact h | apply keeps_count | apply keeps_dropHeld | apply keeps_sendStale | apply Holds.next)
    | dsimp only | split

theorem keeps_retryHeld {s0 : State} {s : State} (h : Keeps s0 s) :
    Keeps s0 (State.retryHeld s) := by
  unfold State.retryHeld
  repeat' first
    | intro _
    | (with_reducible first
      | exact h | assumption | apply keeps_dropHeld | apply keeps_admitFrame | apply Keeps.foldl)
    | dsimp only | split

theorem keeps_portLost {s0 : State} {s : State} {a0} (h : Keeps s0 s) :
    Keeps s0 (State.portLost s a0) := by
  unfold State.portLost
  repeat' first
    | intro _
    | (with_reducible first
      | exact h | assumption | apply keeps_dropHeld | apply keeps_showXfers | apply keeps_setXfer | apply keeps_sendOpen
      | apply keeps_pumpXfer | apply keeps_resend | apply Keeps.ite | apply Keeps.foldl)

theorem keeps_portBack {s0 : State} {s : State} {a0} (h : Keeps s0 s) :
    Keeps s0 (State.portBack s a0) := by
  unfold State.portBack
  repeat' first
    | intro _
    | (with_reducible first
      | exact h | assumption | apply keeps_sendOpen | apply keeps_pumpXfer | apply keeps_resend | apply Keeps.ite
      | apply Keeps.foldl)

theorem keeps_execFabricLinkChange {s0 : State} {a0} {a1} {a2} {s : State} (h : Keeps s0 s) :
    Holds inNext s0 (execFabricLinkChange a0 a1 a2 s) := by
  unfold execFabricLinkChange
  repeat' (with_reducible first
    | exact h | apply keeps_fabEvent | apply keeps_record | apply keeps_putB | apply keeps_memSeen | apply keeps_portBack
    | apply keeps_zero | apply keeps_count | apply keeps_alert | apply keeps_portLost | apply keeps_onFab | apply Keeps.ite
    | apply Holds.next)

theorem keeps_execFabricPortEnable {s0 : State} {a0} {s : State} (h : Keeps s0 s) :
    Holds inNext s0 (execFabricPortEnable a0 s) := by
  unfold execFabricPortEnable
  repeat' first
    | intro _
    | (with_reducible first
      | exact h | assumption | apply keeps_raise | apply keeps_put | apply keeps_portLost | apply keeps_portBack
      | apply Keeps.ite | apply Keeps.foldl | apply Holds.next)

theorem keeps_execFabWindowEnable {s0 : State} {a0} {a1} {s : State} (h : Keeps s0 s) :
    Holds inNext s0 (execFabWindowEnable a0 a1 s) := by
  unfold execFabWindowEnable
  repeat' (with_reducible first | exact h | apply keeps_zero | apply keeps_raise | apply Keeps.ite | apply Holds.next)

theorem keeps_giveUpId {s0 : State} {s : State} (h : Keeps s0 s) :
    Keeps s0 (State.giveUpId s) := by
  unfold State.giveUpId
  repeat' first
    | intro _
    | (with_reducible first
      | exact h | assumption | apply keeps_abortXfer | apply keeps_dropXfer | apply keeps_xferFail | apply keeps_dropHeld
      | apply keeps_zero | apply Keeps.ite | apply Keeps.foldl)

theorem keeps_execMcClearId {s0 : State} {s : State} (h : Keeps s0 s) :
    Holds inNext s0 (execMcClearId s) := by
  unfold execMcClearId
  repeat' (with_reducible first | exact h | apply keeps_giveUpId | apply Holds.next)

theorem keeps_fabKeyShow {s0 : State} {s : State} (h : Keeps s0 s) :
    Keeps s0 (State.fabKeyShow s) := by
  unfold State.fabKeyShow
  repeat' (with_reducible first | exact h | apply keeps_putB)

theorem keeps_zeroFabKeyData {s0 : State} {s : State} (h : Keeps s0 s) :
    Keeps s0 (State.zeroFabKeyData s) := by
  unfold State.zeroFabKeyData
  repeat' first | intro _ | (with_reducible first | exact h | assumption | apply keeps_zero | apply Keeps.foldl)

theorem keeps_execFabKeyLoad {s0 : State} {s : State} (h : Keeps s0 s) :
    Holds inNext s0 (execFabKeyLoad s) := by
  unfold execFabKeyLoad
  repeat' first
    | (with_reducible first
      | exact h | apply keeps_raise | apply keeps_zeroFabKeyData | apply keeps_fabKeyShow | rfl | apply Keeps.ite
      | apply Holds.next)
    | dsimp only | with_reducible apply Keeps.update

theorem keeps_execFabKeyClear {s0 : State} {s : State} (h : Keeps s0 s) :
    Holds inNext s0 (execFabKeyClear s) := by
  unfold execFabKeyClear
  repeat' (with_reducible first
    | exact h | apply keeps_raise | apply keeps_zeroFabKeyData | apply keeps_fabKeyShow | rfl | apply Keeps.ite
    | apply Holds.next | apply Keeps.update)

theorem keeps_execFabricSend {s0 : State} {a0} {a1} {a2} {s : State} (h : Keeps s0 s) :
    Holds inNext s0 (execFabricSend a0 a1 a2 s) := by
  unfold execFabricSend
  repeat' first
    | (with_reducible first
      | exact h | apply keeps_endUnit | apply keeps_openXfer | apply keeps_memSeen | apply keeps_setUnit | apply keeps_hostGet
      | apply keeps_onFab | apply keeps_pumpUse | apply Keeps.ite | apply Holds.next | apply Keeps.snd)
    | dsimp only | split

end Sys2Proof.Machine
end

