-- ==== Sys2Proof/Laws/KeepsBayCmd.lean ====
section
/-!
SUPPORT. Every operation of BayCmd.lean keeps the queue, the part and the canonical stores (Keeps.lean).
-/

namespace Sys2Proof.Machine

theorem keeps_beginReplay {s0 : State} {s : State} {a0} {a1} (h : Keeps s0 s) :
    Keeps s0 (State.beginReplay s a0 a1) := by
  unfold State.beginReplay
  repeat' (with_reducible first | exact h | apply keeps_onWrite)

theorem keeps_execRangeLockGrant {s0 : State} {a0} {a1} {s : State} (h : Keeps s0 s) :
    Holds inNext s0 (execRangeLockGrant a0 a1 s) := by
  unfold execRangeLockGrant
  repeat' first
    | intro _
    | (with_reducible first
      | exact h | assumption | apply keeps_onBay | apply keeps_fillTags | apply keeps_onTag | apply keeps_beginReplay
      | apply keeps_endStopped | apply keeps_endRefused | apply Keeps.ite)
    | dsimp only | split

theorem keeps_onGranted {s0 : State} {s : State} {a0} {a1} {a2} {a3} (h : Keeps s0 s) (hfa3 : ∀ c, Keeps s0 (a3 c)) :
    Keeps s0 (State.onGranted s a0 a1 a2 a3) := by
  unfold State.onGranted
  repeat' first | (with_reducible first | exact h | apply hfa3 | apply Keeps.ite) | split

theorem keeps_commitNow {s0 : State} {s : State} {a0} {a1} {a2} {a3} (h : Keeps s0 s) :
    Keeps s0 (State.commitNow s a0 a1 a2 a3) := by
  unfold State.commitNow
  repeat' (with_reducible first | exact h | apply keeps_commitFail | apply keeps_commitDone | apply Keeps.ite)

theorem keeps_forgetReads {s0 : State} {s : State} {a0} (h : Keeps s0 s) :
    Keeps s0 (State.forgetReads s a0) := by
  unfold State.forgetReads
  repeat' (with_reducible first | exact h | apply keeps_onRead | apply Keeps.ite)

theorem keeps_deliverNow {s0 : State} {s : State} {a0} {a1} (h : Keeps s0 s) :
    Keeps s0 (State.deliverNow s a0 a1) := by
  unfold State.deliverNow
  repeat' (with_reducible first | exact h | apply keeps_deliver | apply keeps_pumpUse | apply keeps_onTag | apply Keeps.snd)

theorem keeps_fixRead {s0 : State} {s : State} {a0} (h : Keeps s0 s) :
    Keeps s0 (State.fixRead s a0) := by
  unfold State.fixRead
  repeat' (with_reducible first | exact h | apply keeps_writeFix | apply Keeps.ite)

theorem keeps_execRead {s0 : State} {a0} {a1} {s : State} (h : Keeps s0 s) :
    Holds inNext s0 (execRead a0 a1 s) := by
  unfold execRead
  repeat' first
    | intro _
    | (with_reducible first
      | exact h | assumption | apply keeps_onBay | apply keeps_onGranted | apply keeps_openXfer | apply keeps_onTag
      | apply keeps_endRefused | apply keeps_deliverNow | apply keeps_setTag | apply keeps_endWork | apply keeps_forgetReads
      | apply keeps_endStopped | apply keeps_fixRead | apply Keeps.ite | apply Keeps.snd)
    | split

theorem keeps_execVerifyRange {s0 : State} {a0} {a1} {s : State} (h : Keeps s0 s) :
    Holds inNext s0 (execVerifyRange a0 a1 s) := by
  unfold execVerifyRange
  repeat' first
    | intro _
    | (with_reducible first
      | exact h | assumption | apply keeps_onBay | apply keeps_onGranted | apply keeps_forgetReads | apply keeps_endStopped
      | apply Keeps.ite)

theorem keeps_stageReplay {s0 : State} {s : State} {a0} {a1} {a2} {a3} {a4} (h : Keeps s0 s) :
    Keeps s0 (State.stageReplay s a0 a1 a2 a3 a4) := by
  unfold State.stageReplay
  repeat' (with_reducible first | exact h | apply keeps_stageRecord | apply Keeps.ite)

theorem keeps_execVerifyJournal {s0 : State} {a0} {a1} {a2} {a3} {a4} {s : State} (h : Keeps s0 s) :
    Holds inNext s0 (execVerifyJournal a0 a1 a2 a3 a4 s) := by
  unfold execVerifyJournal
  repeat' first
    | intro _
    | (with_reducible first
      | exact h | assumption | apply keeps_onBay | apply keeps_onGranted | apply keeps_endStopped | apply keeps_stageReplay
      | apply keeps_commitNow | apply keeps_putEntry | apply Keeps.ite | apply Keeps.foldl)
    | dsimp only | split

theorem keeps_writeStaged {s0 : State} {s : State} {a0} {a1} {a2} (h : Keeps s0 s) :
    Keeps s0 (State.writeStaged s a0 a1 a2) := by
  unfold State.writeStaged
  repeat' first
    | intro _
    | (with_reducible first
      | exact h | assumption | apply keeps_setTag | apply keeps_closeExtent | apply keeps_stopTag | apply keeps_writeFix
      | apply keeps_onTag | apply keeps_formReceipt | apply Keeps.ite | apply Keeps.foldl)
    | (refine Keeps.ofSome (by with_reducible assumption) ?_) | dsimp only | split

theorem keeps_writeEnd {s0 : State} {s : State} {a0} {a1} (h : Keeps s0 s) :
    Keeps s0 (State.writeEnd s a0 a1) := by
  unfold State.writeEnd
  repeat' first | (with_reducible first | exact h | apply keeps_endStopped | apply Keeps.ite) | split

theorem keeps_execWrite {s0 : State} {a0} {a1} {a2} {a3} {s : State} (h : Keeps s0 s) :
    Holds inNext s0 (execWrite a0 a1 a2 a3 s) := by
  unfold execWrite
  repeat' first
    | intro _
    | (with_reducible first
      | exact h | assumption | apply keeps_onBay | apply keeps_onGranted | apply keeps_openXfer | apply keeps_endRefused
      | apply keeps_onTag | apply keeps_openExtents | apply keeps_hostGet | apply keeps_writeEnd | apply keeps_writeStaged
      | apply keeps_stageNext | apply Keeps.ite | apply Holds.ite | apply Keeps.snd)
    | dsimp only | split | with_reducible apply Holds.pair

theorem keeps_execFlush {s0 : State} {a0} {a1} {a2} {a3} {a4} {s : State} (h : Keeps s0 s) :
    Holds inNext s0 (execFlush a0 a1 a2 a3 a4 s) := by
  unfold execFlush
  repeat' first
    | intro _
    | (with_reducible first
      | exact h | assumption | apply keeps_onBay | apply keeps_onGranted | apply keeps_commitNow | apply keeps_endTag
      | apply Keeps.ite)

theorem keeps_closeOne {s0 : State} {s : State} {a0} {a1} {a2} {a3} {a4} (h : Keeps s0 s) :
    Keeps s0 (State.closeOne s a0 a1 a2 a3 a4) := by
  unfold State.closeOne
  repeat' first
    | (with_reducible first
      | exact h | apply keeps_setItem | apply keeps_onTag | apply keeps_markClosed | apply keeps_caddyRequest
      | apply keeps_closeExtent | apply keeps_stopTag | apply Keeps.ite)
    | (refine Keeps.ofSome (by with_reducible assumption) ?_) | dsimp only | split

theorem keeps_execCloseExtent {s0 : State} {a0} {a1} {a2} {a3} {s : State} (h : Keeps s0 s) :
    Holds inNext s0 (execCloseExtent a0 a1 a2 a3 s) := by
  unfold execCloseExtent
  repeat' first
    | intro _
    | (with_reducible first
      | exact h | assumption | apply keeps_onBay | apply keeps_onGranted | apply keeps_closeOne | apply keeps_endStopped
      | apply Keeps.ite | apply Keeps.foldl)
    | dsimp only | split

theorem keeps_freeParityAll {s0 : State} {s : State} {a0} {a1} (h : Keeps s0 s) :
    Keeps s0 (State.freeParityAll s a0 a1) := by
  unfold State.freeParityAll
  repeat' first | intro _ | (with_reducible first | exact h | assumption | apply keeps_freeParity | apply Keeps.foldl)

theorem keeps_execCloseExtentAbandon {s0 : State} {a0} {a1} {s : State} (h : Keeps s0 s) :
    Holds inNext s0 (execCloseExtentAbandon a0 a1 s) := by
  unfold execCloseExtentAbandon
  repeat' first
    | intro _
    | (with_reducible first
      | exact h | assumption | apply keeps_onBay | apply keeps_onGranted | apply keeps_endTagAt | apply keeps_freeParityAll
      | apply Keeps.ite | apply Keeps.foldl)

theorem keeps_scanCopies {s0 : State} {s : State} {a0} {a1} (h : Keeps s0 s) :
    Keeps s0 (State.scanCopies s a0 a1) := by
  unfold State.scanCopies
  repeat' first
    | intro _
    | (with_reducible first
      | exact h | assumption | apply keeps_showWrite | apply keeps_onWrite | apply Keeps.foldl)
    | dsimp only | split

theorem keeps_execMediaScan {s0 : State} {a0} {a1} {s : State} (h : Keeps s0 s) :
    Holds inNext s0 (execMediaScan a0 a1 s) := by
  unfold execMediaScan
  repeat' first
    | intro _
    | (with_reducible first
      | exact h | assumption | apply keeps_onBay | apply keeps_onGranted | apply keeps_forgetReads | apply keeps_endStopped
      | apply keeps_scanCopies | apply keeps_setTag | apply keeps_setBay | apply Keeps.ite)

theorem keeps_newDirectory {s0 : State} {s : State} {a0} {a1} {a2} {a3} {a4} {a5} {a6} {a7} (h : Keeps s0 s) :
    Keeps s0 (State.newDirectory s a0 a1 a2 a3 a4 a5 a6 a7) := by
  unfold State.newDirectory
  repeat' (with_reducible first
    | exact h | apply keeps_endTag | apply keeps_commitFail | apply keeps_onDisc | apply keeps_commitDone | apply keeps_onWrite | apply keeps_showWrite
    | apply Keeps.ite)

theorem keeps_execPartitionCreate {s0 : State} {a0} {a1} {a2} {a3} {a4} {a5} {s : State} (h : Keeps s0 s) :
    Holds inNext s0 (execPartitionCreate a0 a1 a2 a3 a4 a5 s) := by
  unfold execPartitionCreate
  repeat' first
    | intro _
    | (with_reducible first
      | exact h | assumption | apply keeps_onBay | apply keeps_onGranted | apply keeps_newDirectory)

theorem keeps_execPartitionRetire {s0 : State} {a0} {a1} {a2} {a3} {a4} {a5} {s : State} (h : Keeps s0 s) :
    Holds inNext s0 (execPartitionRetire a0 a1 a2 a3 a4 a5 s) := by
  unfold execPartitionRetire
  repeat' first
    | intro _
    | (with_reducible first
      | exact h | assumption | apply keeps_onBay | apply keeps_onGranted | apply keeps_freeParity | apply keeps_onDisc
      | apply keeps_newDirectory | apply Keeps.foldl)
    | dsimp only | split

theorem keeps_execKeyBind {s0 : State} {a0} {a1} {s : State} (h : Keeps s0 s) :
    Holds inNext s0 (execKeyBind a0 a1 s) := by
  unfold execKeyBind
  repeat' first
    | intro _
    | (with_reducible first
      | exact h | assumption | apply keeps_onBay | apply keeps_onGranted | apply keeps_endTag | apply keeps_onDisc)

theorem keeps_mountStart {s0 : State} {s : State} {a0} {a1} {a2} (h : Keeps s0 s) :
    Keeps s0 (State.mountStart s a0 a1 a2) := by
  unfold State.mountStart
  repeat' (with_reducible first
    | exact h | apply keeps_onSpin | apply keeps_setBayState | apply keeps_stepHome | apply keeps_spinUp)

theorem keeps_mountFail {s0 : State} {s : State} {a0} {a1} {a2} (h : Keeps s0 s) :
    Keeps s0 (State.mountFail s a0 a1 a2) := by
  unfold State.mountFail
  repeat' first
    | intro _
    | (with_reducible first
      | exact h | assumption | apply keeps_emit | apply keeps_freePtr | apply keeps_caddyCancel | apply keeps_endRefused
      | apply keeps_endMount | apply keeps_parkBay | apply keeps_caddyServe | apply Keeps.ite | apply Keeps.foldl)

theorem keeps_mountLost {s0 : State} {s : State} {a0} (h : Keeps s0 s) :
    Keeps s0 (State.mountLost s a0) := by
  unfold State.mountLost
  repeat' first
    | intro _
    | (with_reducible first
      | exact h | assumption | apply keeps_onWrite | apply keeps_staleJournal | apply keeps_resumeFails | apply keeps_freePtr
      | apply keeps_parkBay | apply keeps_endMount | apply keeps_showWrite | apply keeps_caddyServe | apply Keeps.foldl)

theorem keeps_mountResume {s0 : State} {s : State} {a0} {a1} (h : Keeps s0 s) :
    Keeps s0 (State.mountResume s a0 a1) := by
  unfold State.mountResume
  repeat' first
    | (with_reducible first
      | exact h | apply keeps_zero | apply keeps_onDisc | apply keeps_mountLost | apply Keeps.ite)
    | split

theorem keeps_execMount {s0 : State} {a0} {a1} {a2} {a3} {a4} {a5} {s : State} (h : Keeps s0 s) :
    Holds inNext s0 (execMount a0 a1 a2 a3 a4 a5 s) := by
  unfold execMount
  repeat' first
    | intro _
    | (with_reducible first
      | exact h | assumption | apply keeps_onBay | apply keeps_mountResume | apply keeps_onGranted | apply keeps_onTag
      | apply keeps_zero | apply keeps_mountStart | apply keeps_ztMark | apply keeps_mountFail | apply keeps_onDisc
      | apply keeps_caddyRequest | apply keeps_mtWrite | apply keeps_endTag | apply Keeps.ite | apply Keeps.foldl)
    | split

theorem keeps_execUnmount {s0 : State} {a0} {a1} {a2} {a3} {a4} {a5} {s : State} (h : Keeps s0 s) :
    Holds inNext s0 (execUnmount a0 a1 a2 a3 a4 a5 s) := by
  unfold execUnmount
  repeat' first
    | intro _
    | (with_reducible first
      | exact h | assumption | apply keeps_onBay | apply keeps_onGranted | apply keeps_onTag | apply keeps_onCal
      | apply keeps_closeExtent | apply keeps_stopTag | apply keeps_commitNow | apply keeps_onDisc | apply keeps_caddyServe
      | apply keeps_freePtr | apply keeps_parkBay | apply keeps_mtWrite | apply keeps_staleJournal | apply keeps_showWrite
      | apply keeps_onWrite | apply keeps_endTag | apply keeps_endMount | apply Keeps.ite | apply Keeps.foldl | apply Keeps.getD)
    | split

theorem keeps_execTableReadRawSlot {s0 : State} {a0} {a1} {s : State} (h : Keeps s0 s) :
    Holds inNext s0 (execTableReadRawSlot a0 a1 s) := by
  unfold execTableReadRawSlot
  repeat' first
    | intro _
    | (with_reducible first
      | exact h | assumption | apply keeps_onBay | apply keeps_onGranted | apply keeps_onTag | apply keeps_onRead
      | apply keeps_hostPut | apply keeps_endTag | apply Keeps.ite)
    | dsimp only | split

end Sys2Proof.Machine
end

