-- ==== Sys2Proof/Laws/KeepsUnitCmd.lean ====
section
/-!
SUPPORT. Every operation of UnitCmd.lean keeps the queue, the part and the canonical stores (Keeps.lean).
-/

namespace Sys2Proof.Machine

theorem keeps_onUnit {s0 : State} {s : State} {a0} {a1} {a2} (h : Keeps s0 s) (hfa2 : ∀ c, Keeps s0 (a2 c)) :
    Holds inNext s0 (State.onUnit s a0 a1 a2) := by
  unfold State.onUnit
  repeat' first | (with_reducible first | exact h | apply hfa2 | apply Keeps.ite | apply Holds.next) | split

theorem keeps_refuseUnit {s0 : State} {s : State} {a0} {a1} (h : Keeps s0 s) :
    Keeps s0 (State.refuseUnit s a0 a1) := by
  unfold State.refuseUnit
  repeat' (with_reducible first | exact h | apply keeps_endUnit)

theorem keeps_tableLoad {s0 : State} {s : State} {a0} {a1} {a2} {a3} (h : Keeps s0 s) :
    Keeps s0 (State.tableLoad s a0 a1 a2 a3) := by
  unfold State.tableLoad
  repeat' first
    | (with_reducible first
      | exact h | apply keeps_refuseUnit | apply keeps_hostGet | apply keeps_setUnit | apply keeps_endUnit
      | apply keeps_memWrite | apply Keeps.ite)
    | (refine Keeps.ofPair (by with_reducible assumption) ?_) | split

theorem keeps_execTableLoadRaw {s0 : State} {a0} {a1} {a2} {s : State} (h : Keeps s0 s) :
    Holds inNext s0 (execTableLoadRaw a0 a1 a2 s) := by
  unfold execTableLoadRaw
  repeat' first | intro _ | (with_reducible first | exact h | apply keeps_onUnit | apply keeps_tableLoad)

theorem keeps_execTableLoadZone {s0 : State} {a0} {a1} {a2} {s : State} (h : Keeps s0 s) :
    Holds inNext s0 (execTableLoadZone a0 a1 a2 s) := by
  unfold execTableLoadZone
  repeat' first | intro _ | (with_reducible first | exact h | apply keeps_onUnit | apply keeps_tableLoad)

theorem keeps_execTableReadDram {s0 : State} {a0} {a1} {s : State} (h : Keeps s0 s) :
    Holds inNext s0 (execTableReadDram a0 a1 s) := by
  unfold execTableReadDram
  repeat' first
    | intro _
    | (with_reducible first
      | exact h | apply keeps_onUnit | apply keeps_refuseUnit | apply keeps_memRead | apply keeps_endUnit | apply keeps_hostPut
      | apply keeps_channelFail | apply Keeps.ite)
    | (refine Keeps.ofPair (by with_reducible assumption) ?_) | split

theorem keeps_stripeFetch {s0 : State} {s : State} {a0} (h : Keeps s0 s) :
    Keeps s0 (State.stripeFetch s a0) := by
  unfold State.stripeFetch
  repeat' first | intro _ | (with_reducible first | exact h | assumption | apply keeps_emit | apply Keeps.foldl)

theorem keeps_stripeOpen {s0 : State} {a0} {a1} {s : State} (h : Keeps s0 s) :
    Holds inSnd s0 (State.stripeOpen a0 a1 s) := by
  induction a1 generalizing a0 s with
  | nil =>
    unfold State.stripeOpen
    repeat' (with_reducible first | exact h | apply Holds.pair)
  | cons x r ih =>
    unfold State.stripeOpen
    repeat' (with_reducible first | exact h | apply ih | apply keeps_openXfer | apply Holds.ite | apply Keeps.snd)

theorem keeps_stripeTurn {s0 : State} {s : State} {a0} (h : Keeps s0 s) :
    Keeps s0 (State.stripeTurn s a0) := by
  unfold State.stripeTurn
  repeat' (with_reducible first
    | exact h | apply keeps_stripeShow | apply keeps_stripeOpen | apply keeps_setUnit | apply keeps_endUnit
    | apply keeps_stripeFetch | apply Keeps.ite | apply Keeps.snd)

theorem keeps_stripeStep {s0 : State} {s : State} {a0} {a1} (h : Keeps s0 s) :
    Keeps s0 (State.stripeStep s a0 a1) := by
  unfold State.stripeStep
  repeat' (with_reducible first
    | exact h | apply keeps_refuseUnit | apply keeps_stripeShow | apply keeps_emit | apply keeps_setUnit
    | apply keeps_stripeTurn | apply Keeps.ite)

theorem keeps_execStripeEncode {s0 : State} {a0} {a1} {s : State} (h : Keeps s0 s) :
    Holds inNext s0 (execStripeEncode a0 a1 s) := by
  unfold execStripeEncode
  repeat' first | intro _ | (with_reducible first | exact h | apply keeps_onUnit | apply keeps_stripeStep)

theorem keeps_execStripeRebuild {s0 : State} {a0} {a1} {s : State} (h : Keeps s0 s) :
    Holds inNext s0 (execStripeRebuild a0 a1 s) := by
  unfold execStripeRebuild
  repeat' first | intro _ | (with_reducible first | exact h | apply keeps_onUnit | apply keeps_stripeStep)

theorem keeps_stripeRead {s0 : State} {a0} {a1} {a2} {a3} {s : State} (h : Keeps s0 s) :
    Holds inSnd s0 (State.stripeRead a0 a1 a2 a3 s) := by
  induction a3 generalizing a0 a1 a2 s with
  | nil =>
    unfold State.stripeRead
    repeat' (with_reducible first | exact h | apply Holds.pair)
  | cons x r ih =>
    unfold State.stripeRead
    repeat' first
      | (with_reducible first
        | exact h | apply ih | apply keeps_memRead | apply keeps_channelFail | apply Holds.ite)
      | (refine Keeps.ofPair (by with_reducible assumption) ?_) | dsimp only | split | with_reducible apply Holds.pair

theorem keeps_stripeWrite {s0 : State} {s : State} {a0} {a1} {a2} (h : Keeps s0 s) :
    Keeps s0 (State.stripeWrite s a0 a1 a2) := by
  unfold State.stripeWrite
  repeat' first
    | (with_reducible first
      | exact h | apply keeps_emit | apply keeps_memWrite | apply keeps_pumpUse | apply keeps_onFab | apply Keeps.snd)
    | dsimp only | split

theorem keeps_stripeEnd {s0 : State} {s : State} {a0} (h : Keeps s0 s) :
    Keeps s0 (State.stripeEnd s a0) := by
  unfold State.stripeEnd
  repeat' first
    | intro _
    | (with_reducible first
      | exact h | assumption | apply keeps_dropXfer | apply keeps_writeFix | apply keeps_count | apply keeps_endUnit
      | apply Keeps.ite | apply Keeps.foldl)

theorem keeps_execStripeSegmentDone {s0 : State} {a0} {a1} {a2} {s : State} (h : Keeps s0 s) :
    Holds inNext s0 (execStripeSegmentDone a0 a1 a2 s) := by
  unfold execStripeSegmentDone
  repeat' first
    | intro _
    | (with_reducible first
      | exact h | assumption | apply keeps_stripeEnd | apply keeps_stripeRead | apply keeps_putPair | apply keeps_stripeWrite
      | apply keeps_setUnit | apply keeps_stripeFetch | apply Keeps.ite | apply Keeps.foldl | apply Holds.next)
    | (refine Keeps.ofPair (by with_reducible assumption) ?_) | dsimp only | split

theorem keeps_fixityEnd {s0 : State} {s : State} {a0} {a1} {a2} (h : Keeps s0 s) :
    Keeps s0 (State.fixityEnd s a0 a1 a2) := by
  unfold State.fixityEnd
  repeat' (with_reducible first | exact h | apply keeps_writeFix | apply keeps_count | apply keeps_endUnit | apply Keeps.ite)

theorem keeps_execFixity {s0 : State} {a0} {a1} {a2} {a3} {s : State} (h : Keeps s0 s) :
    Holds inNext s0 (execFixity a0 a1 a2 a3 s) := by
  unfold execFixity
  repeat' first
    | intro _
    | (with_reducible first
      | exact h | apply keeps_onUnit | apply keeps_refuseUnit | apply keeps_setUnit | apply keeps_emit | apply keeps_hostGet
      | apply keeps_memRead | apply keeps_fixityEnd | apply keeps_channelFail | apply Keeps.ite)
    | (refine Keeps.ofPair (by with_reducible assumption) ?_) | split

end Sys2Proof.Machine
end

