-- ==== Sys2Proof/Laws/KeepsModes.lean ====
section
/-!
SUPPORT. Every operation of Modes.lean keeps the queue, the part and the canonical stores (Keeps.lean).
-/

namespace Sys2Proof.Machine

theorem keeps_showPend {s0 : State} {s : State} (h : Keeps s0 s) :
    Keeps s0 (State.showPend s) := by
  unfold State.showPend
  repeat' first | (with_reducible first | exact h | apply keeps_zero | apply keeps_put | apply keeps_raise) | dsimp only | split

theorem keeps_setPend {s0 : State} {s : State} {a0} (h : Keeps s0 s) :
    Keeps s0 (State.setPend s a0) := by
  unfold State.setPend
  repeat' (with_reducible first | exact h | apply keeps_showPend | rfl | apply Keeps.update)

theorem keeps_changeMode {s0 : State} {s : State} {a0} {a1} (h : Keeps s0 s) :
    Keeps s0 (State.changeMode s a0 a1) := by
  unfold State.changeMode
  repeat' (with_reducible first
    | exact h | apply keeps_put | apply keeps_trace | apply keeps_record | apply keeps_resumeStopped | apply Keeps.ite)

theorem keeps_proposerEnd {s0 : State} {s : State} {a0} (h : Keeps s0 s) :
    Keeps s0 (State.proposerEnd s a0) := by
  unfold State.proposerEnd
  repeat' first | (with_reducible first | exact h | apply keeps_onChain | apply keeps_endUnit) | dsimp only | split

theorem keeps_countAck {s0 : State} {s : State} {a0} {a1} {a2} (h : Keeps s0 s) :
    Keeps s0 (State.countAck s a0 a1 a2) := by
  unfold State.countAck
  repeat' first
    | intro _
    | (with_reducible first
      | exact h | assumption | apply keeps_onChain | apply keeps_proposerEnd | apply Keeps.foldl)

theorem keeps_modeAck {s0 : State} {s : State} {a0} {a1} {a2} (h : Keeps s0 s) :
    Keeps s0 (State.modeAck s a0 a1 a2) := by
  unfold State.modeAck
  repeat' (with_reducible first | exact h | apply keeps_countAck | apply keeps_chainSend)

theorem keeps_curfewBay {s0 : State} {s : State} {a0} (h : Keeps s0 s) :
    Keeps s0 (State.curfewBay s a0) := by
  unfold State.curfewBay
  repeat' first
    | intro _
    | (with_reducible first
      | exact h | assumption | apply keeps_infuseStop | apply keeps_setBayState | apply keeps_dropCal | apply keeps_abandonReads
      | apply keeps_stopGateRun | apply keeps_staleJournal | apply keeps_stepParkAll | apply keeps_spinStop
      | apply keeps_quietBay | apply keeps_refuseQueued | apply keeps_endAllTags | apply keeps_releaseBuffers
      | apply keeps_dropWork | apply Keeps.ite | apply Keeps.foldl)

theorem keeps_checkPend {s0 : State} {s : State} (h : Keeps s0 s) :
    Keeps s0 (State.checkPend s) := by
  unfold State.checkPend
  repeat' first
    | (with_reducible first
      | exact h | apply keeps_setPend | apply keeps_endUnit | apply keeps_modeAck | apply Keeps.ite)
    | dsimp only | split

theorem keeps_curfewEnter {s0 : State} {s : State} {a0} (h : Keeps s0 s) :
    Keeps s0 (State.curfewEnter s a0) := by
  unfold State.curfewEnter
  repeat' first
    | intro _
    | (with_reducible first
      | exact h | assumption | apply keeps_alert | apply keeps_record | apply keeps_loffAll | apply keeps_changeMode
      | apply keeps_curfewBay | apply keeps_endUnit | apply keeps_dropXfer | apply keeps_abortXfer | apply keeps_checkPend
      | apply keeps_scrubEnd | apply keeps_sealStart | apply Keeps.ite | apply Keeps.foldl)

theorem keeps_curfewCause {s0 : State} {s : State} {a0} (h : Keeps s0 s) :
    Keeps s0 (State.curfewCause s a0) := by
  unfold State.curfewCause
  repeat' (with_reducible first
    | exact h | apply keeps_setBitOf | apply keeps_record | apply keeps_loffAll | apply keeps_curfewEnter | apply Keeps.ite)

theorem keeps_curfewClear {s0 : State} {s : State} {a0} (h : Keeps s0 s) :
    Keeps s0 (State.curfewClear s a0) := by
  unfold State.curfewClear
  repeat' (with_reducible first | exact h | apply keeps_record | apply keeps_setBitOf | apply Keeps.ite)

theorem keeps_uncurfewBay {s0 : State} {s : State} {a0} (h : Keeps s0 s) :
    Keeps s0 (State.uncurfewBay s a0) := by
  unfold State.uncurfewBay
  repeat' (with_reducible first
    | exact h | apply keeps_setBayState | apply keeps_endMount | apply keeps_releaseBuffers | apply keeps_onWrite
    | apply Keeps.ite)

theorem keeps_rearmBay {s0 : State} {s : State} {a0} (h : Keeps s0 s) :
    Keeps s0 (State.rearmBay s a0) := by
  unfold State.rearmBay
  repeat' (with_reducible first | exact h | apply keeps_acqStep1 | apply Keeps.ite)

theorem keeps_testEntry {s0 : State} {s : State} (h : Keeps s0 s) :
    Keeps s0 (State.testEntry s) := by
  unfold State.testEntry
  repeat' first | (with_reducible first | exact h | rfl) | dsimp only | split | with_reducible apply Keeps.update

theorem keeps_enterMode {s0 : State} {s : State} {a0} {a1} (h : Keeps s0 s) :
    Keeps s0 (State.enterMode s a0 a1) := by
  unfold State.enterMode
  repeat' first
    | intro _
    | (with_reducible first
      | exact h | assumption | apply keeps_curfewCause | apply keeps_changeMode | apply keeps_curfewClear
      | apply keeps_uncurfewBay | apply keeps_holdAllSeqs | apply keeps_clearSecrets | apply keeps_sealStart
      | apply keeps_testEntry | apply keeps_raise | apply keeps_curfewEnter | apply keeps_rearmBay | apply Keeps.ite
      | apply Keeps.foldl)

theorem keeps_modeApply {s0 : State} {s : State} {a0} (h : Keeps s0 s) :
    Keeps s0 (State.modeApply s a0) := by
  unfold State.modeApply
  repeat' first
    | (with_reducible first
      | exact h | apply keeps_setPend | apply keeps_onChain | apply keeps_put | apply keeps_enterMode | apply keeps_endUnit
      | apply keeps_retryHeld | apply keeps_signal | apply keeps_modeAck)
    | dsimp only | split

theorem keeps_modePoll {s0 : State} {s : State} (h : Keeps s0 s) :
    Keeps s0 (State.modePoll s) := by
  unfold State.modePoll
  repeat' first | (with_reducible first | exact h | apply keeps_modeApply | apply Keeps.ite) | split

theorem keeps_curfew {s0 : State} {s : State} {a0} (h : Keeps s0 s) :
    Keeps s0 (State.curfew s a0) := by
  unfold State.curfew
  repeat' (with_reducible first | exact h | apply keeps_modePoll | apply keeps_curfewCause)

theorem keeps_tick {s0 : State} {s : State} (h : Keeps s0 s) :
    Keeps s0 (State.tick s) := by
  unfold State.tick
  repeat' first | (with_reducible first | exact h | apply keeps_modePoll | rfl) | dsimp only | with_reducible apply Keeps.update

theorem keeps_execMode {s0 : State} {a0} {s : State} (h : Keeps s0 s) :
    Holds inNext s0 (execMode a0 s) := by
  unfold execMode
  repeat' first
    | intro _
    | (with_reducible first
      | exact h | apply keeps_onUnit | apply keeps_modePoll | apply keeps_refuseUnit | apply keeps_setPend | apply keeps_setUnit
      | apply Keeps.ite)

theorem keeps_takeProposal {s0 : State} {s : State} {a0} {a1} {a2} (h : Keeps s0 s) :
    Keeps s0 (State.takeProposal s a0 a1 a2) := by
  unfold State.takeProposal
  repeat' first
    | (with_reducible first
      | exact h | apply keeps_modeAck | apply keeps_record | apply keeps_modePoll | apply keeps_signal | apply keeps_setPend
      | apply Keeps.ite)
    | split

theorem keeps_execModeSystemProposal {s0 : State} {a0} {s : State} (h : Keeps s0 s) :
    Holds inNext s0 (execModeSystemProposal a0 s) := by
  unfold execModeSystemProposal
  repeat' first
    | intro _
    | (with_reducible first
      | exact h | apply keeps_onUnit | apply keeps_refuseUnit | apply keeps_onChain | apply keeps_setUnit
      | apply keeps_takeProposal | apply keeps_chainSend | apply Keeps.ite)

theorem keeps_execProposerDeadline {s0 : State} {a0} {s : State} (h : Keeps s0 s) :
    Holds inNext s0 (execProposerDeadline a0 s) := by
  unfold execProposerDeadline
  repeat' first | (with_reducible first | exact h | apply keeps_proposerEnd | apply Holds.next) | split

theorem keeps_execModeProposalDeadline {s0 : State} {s : State} (h : Keeps s0 s) :
    Holds inNext s0 (execModeProposalDeadline s) := by
  unfold execModeProposalDeadline
  repeat' first
    | (with_reducible first
      | exact h | apply keeps_setPend | apply keeps_endUnit | apply keeps_modeAck | apply keeps_alert | apply keeps_record
      | apply Keeps.ite | apply Holds.next)
    | dsimp only | split

theorem keeps_execStaleEpochWaybillTimeout {s0 : State} {a0} {s : State} (h : Keeps s0 s) :
    Holds inNext s0 (execStaleEpochWaybillTimeout a0 s) := by
  unfold execStaleEpochWaybillTimeout
  repeat' first
    | intro _
    | (with_reducible first
      | exact h | assumption | apply keeps_onBay | apply keeps_refuse | apply keeps_setBay | apply Keeps.ite)
    | dsimp only | split

theorem keeps_execEpochWrite {s0 : State} {a0} {s : State} (h : Keeps s0 s) :
    Holds inNext s0 (execEpochWrite a0 s) := by
  unfold execEpochWrite
  repeat' (with_reducible first
    | exact h | apply keeps_raise | apply keeps_retryHeld | apply keeps_onChain | apply keeps_put | apply Keeps.ite
    | apply Holds.next)

theorem keeps_execEpochCancel {s0 : State} {s : State} (h : Keeps s0 s) :
    Holds inNext s0 (execEpochCancel s) := by
  unfold execEpochCancel
  repeat' first | (with_reducible first | exact h | apply keeps_setPend | apply Holds.next) | split

theorem keeps_chainTake {s0 : State} {s : State} {a0} {a1} {a2} (h : Keeps s0 s) (hfa2 : ∀ t, Keeps s0 t → Keeps s0 (a2 t)) :
    Keeps s0 (State.chainTake s a0 a1 a2) := by
  unfold State.chainTake
  repeat' (with_reducible first
    | exact h | apply hfa2 | apply keeps_count | apply keeps_onChain | apply keeps_emit | apply Keeps.ite)

theorem keeps_execModeProposeReceive {s0 : State} {a0} {s : State} (h : Keeps s0 s) :
    Holds inNext s0 (execModeProposeReceive a0 s) := by
  unfold execModeProposeReceive
  repeat' first
    | intro _
    | (with_reducible first
      | exact h | assumption | apply keeps_chainTake | apply keeps_takeProposal | apply Holds.next)

theorem keeps_execModeAckReceive {s0 : State} {a0} {s : State} (h : Keeps s0 s) :
    Holds inNext s0 (execModeAckReceive a0 s) := by
  unfold execModeAckReceive
  repeat' first
    | intro _
    | (with_reducible first
      | exact h | assumption | apply keeps_chainTake | apply keeps_countAck | apply Holds.next)

theorem keeps_execChainAlertReceive {s0 : State} {a0} {s : State} (h : Keeps s0 s) :
    Holds inNext s0 (execChainAlertReceive a0 s) := by
  unfold execChainAlertReceive
  repeat' first | intro _ | (with_reducible first | exact h | assumption | apply keeps_chainTake | apply Holds.next)

theorem keeps_execChainFrameBadCrc {s0 : State} {s : State} (h : Keeps s0 s) :
    Holds inNext s0 (execChainFrameBadCrc s) := by
  unfold execChainFrameBadCrc
  repeat' (with_reducible first | exact h | apply keeps_count | apply Holds.next)

theorem keeps_execMcInSymbolLock {s0 : State} {a0} {s : State} (h : Keeps s0 s) :
    Holds inNext s0 (execMcInSymbolLock a0 s) := by
  unfold execMcInSymbolLock
  repeat' (with_reducible first | exact h | apply keeps_putB | apply Holds.next)

theorem keeps_takeId {s0 : State} {s : State} {a0} {a1} (h : Keeps s0 s) :
    Keeps s0 (State.takeId s a0 a1) := by
  unfold State.takeId
  repeat' (with_reducible first
    | exact h | apply keeps_fresh | apply keeps_giveUpId | apply keeps_record | apply keeps_put | apply keeps_raise
    | apply keeps_signal | apply Keeps.ite | apply Keeps.snd)

theorem keeps_execRollCallReceive {s0 : State} {a0} {s : State} (h : Keeps s0 s) :
    Holds inNext s0 (execRollCallReceive a0 s) := by
  unfold execRollCallReceive
  repeat' (with_reducible first
    | exact h | apply keeps_count | apply keeps_record | apply keeps_takeId | apply keeps_chainOut | apply Keeps.ite
    | apply Holds.next)

theorem keeps_execInterlockFall {s0 : State} {s : State} (h : Keeps s0 s) :
    Holds inNext s0 (execInterlockFall s) := by
  unfold execInterlockFall
  repeat' (with_reducible first | exact h | apply keeps_curfew | apply keeps_raise | apply Holds.next)

theorem keeps_execCurfewCauseClearWrite {s0 : State} {a0} {a1} {s : State} (h : Keeps s0 s) :
    Holds inNext s0 (execCurfewCauseClearWrite a0 a1 s) := by
  unfold execCurfewCauseClearWrite
  repeat' (with_reducible first
    | exact h | apply keeps_modePoll | apply keeps_curfewClear | apply keeps_zero | apply Keeps.ite | apply Holds.next)

theorem keeps_execHeartbeatExpire {s0 : State} {s : State} (h : Keeps s0 s) :
    Holds inNext s0 (execHeartbeatExpire s) := by
  unfold execHeartbeatExpire
  repeat' (with_reducible first | exact h | apply keeps_curfew | apply Keeps.ite | apply Holds.next)

theorem keeps_execHbKick {s0 : State} {s : State} (h : Keeps s0 s) :
    Holds inNext s0 (execHbKick s) := by
  unfold execHbKick
  repeat' (with_reducible first | exact h | apply keeps_curfewClear | apply Holds.next)

theorem keeps_dieTemp {s0 : State} {s : State} {a0} (h : Keeps s0 s) :
    Keeps s0 (State.dieTemp s a0) := by
  unfold State.dieTemp
  repeat' first
    | (with_reducible first
      | exact h | apply keeps_putS | apply keeps_record | apply keeps_curfew | apply keeps_curfewClear | rfl | apply Keeps.ite)
    | dsimp only | with_reducible apply Keeps.update

theorem keeps_execDieTempCurfew {s0 : State} {a0} {s : State} (h : Keeps s0 s) :
    Holds inNext s0 (execDieTempCurfew a0 s) := by
  unfold execDieTempCurfew
  repeat' (with_reducible first | exact h | apply keeps_dieTemp | apply Holds.next)

theorem keeps_execDieTempClear {s0 : State} {a0} {s : State} (h : Keeps s0 s) :
    Holds inNext s0 (execDieTempClear a0 s) := by
  unfold execDieTempClear
  repeat' (with_reducible first | exact h | apply keeps_dieTemp | apply Holds.next)

theorem keeps_execTempWarn {s0 : State} {a0} {s : State} (h : Keeps s0 s) :
    Holds inNext s0 (execTempWarn a0 s) := by
  unfold execTempWarn
  repeat' (with_reducible first | exact h | apply keeps_dieTemp | apply Holds.next)

theorem keeps_execPcieReset {s0 : State} {a0} {s : State} (h : Keeps s0 s) :
    Holds inNext s0 (execPcieReset a0 s) := by
  unfold execPcieReset
  repeat' first
    | intro _
    | (with_reducible first
      | exact h | assumption | apply keeps_unhalt | apply keeps_resetRegs | apply keeps_curfew | apply keeps_record | rfl
      | apply Keeps.foldl | apply Holds.next)
    | dsimp only | with_reducible apply Keeps.update

theorem keeps_quiescePark {s0 : State} {s : State} {a0} (h : Keeps s0 s) :
    Keeps s0 (State.quiescePark s a0) := by
  unfold State.quiescePark
  repeat' first
    | intro _
    | (with_reducible first
      | exact h | assumption | apply keeps_startSegment | apply keeps_onDisc | apply keeps_onCal | apply keeps_setBay
      | apply keeps_caddyServe | apply keeps_freePtr | apply keeps_parkBay | apply Keeps.ite | apply Keeps.foldl)

theorem keeps_execSchedDecision {s0 : State} {a0} {s : State} (h : Keeps s0 s) :
    Holds inNext s0 (execSchedDecision a0 s) := by
  unfold execSchedDecision
  repeat' first
    | intro _
    | (with_reducible first
      | exact h | assumption | apply keeps_onBay | apply keeps_schedDecision | apply keeps_quiescePark | apply keeps_modePoll)

end Sys2Proof.Machine
end

