-- ==== Sys2Proof/Laws/KeepsPower.lean ====
section
/-!
SUPPORT. Every operation of Power.lean keeps the queue, the part and the canonical stores (Keeps.lean).
-/

namespace Sys2Proof.Machine

theorem keeps_setPhase {s0 : State} {s : State} {a0} {a1} (h : Keeps s0 s) :
    Keeps s0 (State.setPhase s a0 a1) := by
  unfold State.setPhase
  repeat' (with_reducible first | exact h | apply keeps_putB | rfl | apply Keeps.update)

theorem keeps_domainAt {s0 : State} {s : State} {a0} {a1} (h : Keeps s0 s) :
    Keeps s0 (State.domainAt s a0 a1) := by
  unfold State.domainAt
  repeat' (with_reducible first | exact h | apply keeps_trace | apply keeps_put)

theorem keeps_domainLost {s0 : State} {s : State} {a0} (h : Keeps s0 s) :
    Keeps s0 (State.domainLost s a0) := by
  unfold State.domainLost
  repeat' first
    | (with_reducible first
      | exact h | apply keeps_bayLeaves | apply keeps_clusterOn | apply keeps_memClear | apply keeps_zero | apply keeps_put
      | apply Keeps.ite)
    | split

theorem keeps_domainEnters {s0 : State} {s : State} {a0} {a1} (h : Keeps s0 s) :
    Keeps s0 (State.domainEnters s a0 a1) := by
  unfold State.domainEnters
  repeat' (with_reducible first
    | exact h | apply keeps_clearSecrets | apply keeps_domainLost | apply keeps_bayLeaves | apply keeps_domainAt
    | apply Keeps.ite)

theorem keeps_domainRises {s0 : State} {s : State} {a0} {a1} (h : Keeps s0 s) :
    Keeps s0 (State.domainRises s a0 a1) := by
  unfold State.domainRises
  repeat' (with_reducible first
    | exact h | apply keeps_domainAt | apply keeps_trainStart | apply keeps_setBayState | apply keeps_clusterOn
    | apply keeps_wayReturn | apply keeps_zero | apply keeps_put | apply Keeps.ite)

theorem keeps_powerRequest {s0 : State} {s : State} {a0} {a1} (h : Keeps s0 s) :
    Keeps s0 (State.powerRequest s a0 a1) := by
  unfold State.powerRequest
  repeat' (with_reducible first
    | exact h | apply keeps_raise | apply keeps_put | apply keeps_zero | apply keeps_setPhase | apply keeps_domainEnters
    | apply keeps_domainAt | apply keeps_domainLost | apply Keeps.ite)

theorem keeps_execPowerRequest {s0 : State} {a0} {a1} {s : State} (h : Keeps s0 s) :
    Holds inNext s0 (execPowerRequest a0 a1 s) := by
  unfold execPowerRequest
  repeat' first
    | (with_reducible first
      | exact h | apply keeps_powerRequest | apply keeps_setPhase | apply keeps_put | apply Keeps.ite | apply Holds.next)
    | split

theorem keeps_execPowerStageReady {s0 : State} {a0} {s : State} (h : Keeps s0 s) :
    Holds inNext s0 (execPowerStageReady a0 s) := by
  unfold execPowerStageReady
  repeat' first
    | (with_reducible first
      | exact h | apply keeps_setBitOf | apply keeps_setPhase | apply keeps_domainRises | apply keeps_powerRequest
      | apply Keeps.ite | apply Holds.next)
    | dsimp only | split

theorem keeps_execPowerStageTimeout {s0 : State} {a0} {s : State} (h : Keeps s0 s) :
    Holds inNext s0 (execPowerStageTimeout a0 s) := by
  unfold execPowerStageTimeout
  repeat' first
    | (with_reducible first
      | exact h | apply keeps_put | apply keeps_raise | apply keeps_setPhase | apply keeps_record | apply keeps_domainAt
      | apply keeps_domainLost | apply Holds.next)
    | dsimp only | split

theorem keeps_execPowerEntryDrainDone {s0 : State} {a0} {s : State} (h : Keeps s0 s) :
    Holds inNext s0 (execPowerEntryDrainDone a0 s) := by
  unfold execPowerEntryDrainDone
  repeat' first
    | (with_reducible first
      | exact h | apply keeps_powerRequest | apply keeps_record | apply keeps_count | apply keeps_put | apply keeps_setPhase
      | apply keeps_domainEnters | apply Keeps.ite | apply Holds.next)
    | dsimp only | split

theorem keeps_lossSeal {s0 : State} {s : State} {a0} (h : Keeps s0 s) :
    Keeps s0 (State.lossSeal s a0) := by
  unfold State.lossSeal
  repeat' first
    | (with_reducible first
      | exact h | apply keeps_zero | apply keeps_lugStore | apply keeps_sealStart | rfl | apply Keeps.ite)
    | dsimp only | with_reducible apply Keeps.update

theorem keeps_execMainloss {s0 : State} {a0} {s : State} (h : Keeps s0 s) :
    Holds inNext s0 (execMainloss a0 s) := by
  unfold execMainloss
  repeat' (with_reducible first
    | exact h | apply keeps_raise | apply keeps_drainSafety | apply keeps_lossSeal | apply keeps_curfew | apply Keeps.ite
    | apply Holds.next)

theorem keeps_execMainlossClear {s0 : State} {s : State} (h : Keeps s0 s) :
    Holds inNext s0 (execMainlossClear s) := by
  unfold execMainlossClear
  repeat' (with_reducible first | exact h | apply keeps_modePoll | apply keeps_curfewClear | apply Holds.next)

theorem keeps_execMainPowerReturn {s0 : State} {s : State} (h : Keeps s0 s) :
    Holds inNext s0 (execMainPowerReturn s) := by
  unfold execMainPowerReturn
  repeat' (with_reducible first | exact h | apply keeps_zero | apply Holds.next)

theorem keeps_execVbakRetentionLow {s0 : State} {s : State} (h : Keeps s0 s) :
    Holds inNext s0 (execVbakRetentionLow s) := by
  unfold execVbakRetentionLow
  repeat' (with_reducible first | exact h | apply keeps_raise | apply Keeps.ite | apply Holds.next)

theorem keeps_execVbakMeasure {s0 : State} {a0} {s : State} (h : Keeps s0 s) :
    Holds inNext s0 (execVbakMeasure a0 s) := by
  unfold execVbakMeasure
  repeat' first
    | (with_reducible first
      | exact h | apply keeps_put | apply keeps_raise | apply keeps_record | rfl | apply Keeps.ite | apply Holds.next)
    | dsimp only | with_reducible apply Keeps.update

theorem keeps_execLuggageSealRequest {s0 : State} {s : State} (h : Keeps s0 s) :
    Holds inNext s0 (execLuggageSealRequest s) := by
  unfold execLuggageSealRequest
  repeat' (with_reducible first | exact h | apply keeps_sealStart | apply keeps_raise | apply Holds.next)

theorem keeps_sealEnd {s0 : State} {s : State} (h : Keeps s0 s) :
    Keeps s0 (State.sealEnd s) := by
  unfold State.sealEnd
  repeat' first
    | intro _
    | (with_reducible first
      | exact h | assumption | apply keeps_lugStore | apply keeps_zero | apply keeps_raise | apply keeps_lugWrite | rfl
      | apply Keeps.ite | apply Keeps.foldl)
    | dsimp only | with_reducible apply Keeps.update

theorem keeps_execLuggageSealDone {s0 : State} {s : State} (h : Keeps s0 s) :
    Holds inNext s0 (execLuggageSealDone s) := by
  unfold execLuggageSealDone
  repeat' (with_reducible first | exact h | apply keeps_sealEnd | apply Holds.next)

theorem keeps_execLuggageResealTimer {s0 : State} {s : State} (h : Keeps s0 s) :
    Holds inNext s0 (execLuggageResealTimer s) := by
  unfold execLuggageResealTimer
  repeat' (with_reducible first | exact h | apply keeps_sealStart | apply Keeps.ite | apply Holds.next)

theorem keeps_lugNext {s0 : State} {s : State} (h : Keeps s0 s) :
    Keeps s0 (State.lugNext s) := by
  unfold State.lugNext
  repeat' (with_reducible first | exact h | apply keeps_put)

theorem keeps_execLugDataRead {s0 : State} {s : State} (h : Keeps s0 s) :
    Holds inNext s0 (execLugDataRead s) := by
  unfold execLugDataRead
  repeat' (with_reducible first | exact h | apply keeps_lugNext | apply keeps_emit | apply Holds.next)

theorem keeps_execLugDataWrite {s0 : State} {a0} {s : State} (h : Keeps s0 s) :
    Holds inNext s0 (execLugDataWrite a0 s) := by
  unfold execLugDataWrite
  repeat' (with_reducible first
    | exact h | apply keeps_lugNext | apply keeps_lugWrite | apply keeps_raise | apply Keeps.ite | apply Holds.next)

theorem keeps_setRtc {s0 : State} {s : State} {a0} (h : Keeps s0 s) :
    Keeps s0 (State.setRtc s a0) := by
  unfold State.setRtc
  repeat' first | (with_reducible first | exact h | apply keeps_put | rfl) | dsimp only | with_reducible apply Keeps.update

theorem keeps_execRtcSecond {s0 : State} {s : State} (h : Keeps s0 s) :
    Holds inNext s0 (execRtcSecond s) := by
  unfold execRtcSecond
  repeat' (with_reducible first | exact h | apply keeps_setRtc | apply keeps_raise | apply Keeps.ite | apply Holds.next)

theorem keeps_execRtcCalCommit {s0 : State} {s : State} (h : Keeps s0 s) :
    Holds inNext s0 (execRtcCalCommit s) := by
  unfold execRtcCalCommit
  repeat' first
    | (with_reducible first
      | exact h | apply keeps_raise | apply keeps_putB | apply keeps_setRtc | apply keeps_record | rfl | apply Keeps.ite
      | apply Holds.next)
    | dsimp only | with_reducible apply Keeps.update

theorem keeps_execRtcSecLoRead {s0 : State} {s : State} (h : Keeps s0 s) :
    Holds inNext s0 (execRtcSecLoRead s) := by
  unfold execRtcSecLoRead
  repeat' first
    | (with_reducible first | exact h | apply keeps_emit | rfl | apply Holds.next) | dsimp only
    | with_reducible apply Keeps.update

end Sys2Proof.Machine
end

