-- ==== Sys2Proof/Laws/KeepsLedgerCmd.lean ====
section
/-!
SUPPORT. Every operation of LedgerCmd.lean keeps the queue, the part and the canonical stores (Keeps.lean).
-/

namespace Sys2Proof.Machine

theorem keeps_execLedgerWriteDone {s0 : State} {s : State} (h : Keeps s0 s) :
    Holds inNext s0 (execLedgerWriteDone s) := by
  unfold execLedgerWriteDone
  repeat' (with_reducible first | exact h | apply keeps_writerFree | apply Keeps.ite | apply Holds.next)

theorem keeps_dropSlot {s0 : State} {s : State} {a0} (h : Keeps s0 s) :
    Keeps s0 (State.dropSlot s a0) := by
  unfold State.dropSlot
  repeat' (with_reducible first | exact h | apply keeps_dropRecord | apply keeps_countDrop)

theorem keeps_execLedgerHoldExpire {s0 : State} {s : State} (h : Keeps s0 s) :
    Holds inNext s0 (execLedgerHoldExpire s) := by
  unfold execLedgerHoldExpire
  repeat' first
    | intro _
    | (with_reducible first
      | exact h | assumption | apply keeps_dropRecord | apply keeps_countDrop | apply keeps_setLedger | apply keeps_dropSlot
      | apply keeps_ledgerStat | apply keeps_ledgerPump | apply Keeps.ite | apply Keeps.foldl | apply Holds.next)
    | dsimp only | split

theorem keeps_execLedgerHeadWrite {s0 : State} {a0} {s : State} (h : Keeps s0 s) :
    Holds inNext s0 (execLedgerHeadWrite a0 s) := by
  unfold execLedgerHeadWrite
  repeat' (with_reducible first
    | exact h | apply keeps_raise | apply keeps_ledgerStat | apply keeps_ledgerPump | apply keeps_put | apply Keeps.ite
    | apply Holds.next)

theorem keeps_execLedgerEnable {s0 : State} {s : State} (h : Keeps s0 s) :
    Holds inNext s0 (execLedgerEnable s) := by
  unfold execLedgerEnable
  repeat' (with_reducible first
    | exact h | apply keeps_put | apply keeps_zero | apply keeps_raise | apply keeps_ledgerStat | apply keeps_ledgerPump
    | apply keeps_setLedger | apply Keeps.ite | apply Holds.next)

theorem keeps_execLedgerDisable {s0 : State} {s : State} (h : Keeps s0 s) :
    Holds inNext s0 (execLedgerDisable s) := by
  unfold execLedgerDisable
  repeat' (with_reducible first
    | exact h | apply keeps_ledgerStat | apply keeps_ledgerPump | apply keeps_zero | apply Keeps.ite | apply Holds.next)

theorem keeps_execGtrcArm {s0 : State} {s : State} (h : Keeps s0 s) :
    Holds inNext s0 (execGtrcArm s) := by
  unfold execGtrcArm
  repeat' first
    | (with_reducible first | exact h | apply keeps_zero | apply keeps_raise | rfl | apply Holds.next) | dsimp only
    | with_reducible apply Keeps.update

theorem keeps_execGtrcForce {s0 : State} {s : State} (h : Keeps s0 s) :
    Holds inNext s0 (execGtrcForce s) := by
  unfold execGtrcForce
  repeat' (with_reducible first | exact h | apply keeps_raise | apply Keeps.ite | apply Holds.next)

theorem keeps_execGtrcCaptureDone {s0 : State} {s : State} (h : Keeps s0 s) :
    Holds inNext s0 (execGtrcCaptureDone s) := by
  unfold execGtrcCaptureDone
  repeat' (with_reducible first
    | exact h | apply keeps_raise | apply keeps_zero | apply keeps_record | apply Keeps.ite | apply Holds.next)

end Sys2Proof.Machine
end

