-- ==== Sys2Proof/Laws/KeepsBringup.lean ====
section
/-!
SUPPORT. Every operation of Bringup.lean keeps the queue, the part and the canonical stores (Keeps.lean).
-/

namespace Sys2Proof.Machine

theorem keeps_keepDram {s0 : State} {s : State} {a0} (h : Keeps s0 s) :
    Keeps s0 (State.keepDram s a0) := by
  unfold State.keepDram
  repeat' first
    | intro _
    | (with_reducible first
      | exact h | assumption | apply keeps_cacheForget | apply keeps_memClear | apply Keeps.foldl)

theorem keeps_resetDomains {s0 : State} {s : State} {a0} (h : Keeps s0 s) :
    Keeps s0 (State.resetDomains s a0) := by
  exact Keeps.stores h rfl rfl rfl id id (Sparse.rising_filter _ _)

theorem keeps_resetAll {s0 : State} {s : State} {a0} (h : Keeps s0 s) :
    Keeps s0 (State.resetAll s a0) := by
  unfold State.resetAll
  repeat' first
    | intro _
    | (with_reducible first
      | exact h | assumption | apply keeps_resetDomains | apply keeps_keepDram | apply keeps_put | apply Keeps.foldl)

theorem keeps_dropWaiting {s0 : State} {s : State} (h : Keeps s0 s) :
    Keeps s0 (State.dropWaiting s) := by
  unfold State.dropWaiting
  repeat' first | (with_reducible first | exact h | rfl) | dsimp only | with_reducible apply Keeps.update

theorem keeps_execResetFall {s0 : State} {a0} {s : State} (h : Keeps s0 s) :
    Holds inNext s0 (execResetFall a0 s) := by
  unfold execResetFall
  repeat' (with_reducible first
    | exact h | apply keeps_resetAll | apply keeps_dropWaiting | apply keeps_lossSeal | apply Holds.next)

theorem keeps_emptyBank {s0 : State} {s : State} (h : Keeps s0 s) :
    Keeps s0 (State.emptyBank s) := by
  exact Keeps.stores h rfl rfl rfl id (fun _ => rfl) id

theorem keeps_aonReset {s0 : State} {s : State} (h : Keeps s0 s) :
    Keeps s0 (State.aonReset s) := by
  exact Keeps.stores h rfl rfl rfl id (fun _ => rfl) id

theorem keeps_zeroBank {s0 : State} {s : State} (h : Keeps s0 s) :
    Keeps s0 (State.zeroBank s) := by
  unfold State.zeroBank
  repeat' (with_reducible first | exact h | apply keeps_zero | apply keeps_emptyBank)

theorem keeps_loadJournal {s0 : State} {s : State} {a0} (h : Keeps s0 s) :
    Keeps s0 (State.loadJournal s a0) := by
  unfold State.loadJournal
  repeat' (with_reducible first | exact h | apply keeps_staleJournal | apply keeps_onWrite)

theorem keeps_refPpm {s0 : State} {s : State} {a0} (h : Keeps s0 s) :
    Holds inSnd s0 (State.refPpm s a0) := by
  unfold State.refPpm
  repeat' first
    | (with_reducible first | exact h | apply keeps_roundOpen | apply Keeps.snd) | dsimp only | with_reducible apply Holds.pair

theorem keeps_consumeRecord {s0 : State} {s : State} {a0} (h : Keeps s0 s) :
    Keeps s0 (State.consumeRecord s a0) := by
  unfold State.consumeRecord
  repeat' (with_reducible first
    | exact h | apply keeps_putB | apply keeps_raise | apply keeps_lugWrite | apply keeps_zero | apply Keeps.ite)

theorem keeps_startResult {s0 : State} {s : State} {a0} {a1} {a2} (h : Keeps s0 s) :
    Keeps s0 (State.startResult s a0 a1 a2) := by
  unfold State.startResult
  repeat' (with_reducible first
    | exact h | apply keeps_refPpm | apply keeps_putB | apply keeps_put | apply keeps_putS | apply Holds.ite | apply Keeps.snd
    | apply Holds.pair)

theorem keeps_powerOn {s0 : State} {s : State} {a0} {a1} (h : Keeps s0 s) :
    Keeps s0 (State.powerOn s a0 a1) := by
  unfold State.powerOn
  repeat' first
    | intro _
    | (with_reducible first
      | exact h | assumption | apply keeps_raise | apply keeps_put | apply keeps_zero | apply keeps_startResult
      | apply keeps_consumeRecord | apply keeps_putB | apply keeps_zeroBank | apply keeps_record | apply keeps_loadJournal
      | apply keeps_curfew | rfl | apply Keeps.ite | apply Keeps.foldl)
    | dsimp only | with_reducible apply Keeps.update

theorem keeps_startBoard {s0 : State} {s : State} {a0} (h : Keeps s0 s) :
    Keeps s0 (State.startBoard s a0) := by
  unfold State.startBoard
  repeat' first
    | intro _
    | (with_reducible first
      | exact h | assumption | apply keeps_resetAll | apply keeps_sealEnd | apply keeps_aonReset | apply keeps_resetRegs
      | apply keeps_put | apply keeps_onMem | apply keeps_keepDram | apply keeps_putB | apply keeps_zero | apply keeps_raise
      | rfl | apply Keeps.foldl)
    | dsimp only | split | with_reducible apply Keeps.update

theorem keeps_execResetRise {s0 : State} {a0} {s : State} (h : Keeps s0 s) :
    Holds inNext s0 (execResetRise a0 s) := by
  unfold execResetRise
  repeat' (with_reducible first | exact h | apply keeps_powerOn | apply keeps_startBoard | apply Holds.next)

theorem keeps_execRestartFull {s0 : State} {a0} {s : State} (h : Keeps s0 s) :
    Holds inNext s0 (execRestartFull a0 s) := by
  unfold execRestartFull
  repeat' first
    | (with_reducible first
      | exact h | apply keeps_putB | apply keeps_resetAll | apply keeps_sealEnd | apply keeps_sealStart | apply keeps_powerOn
      | apply keeps_raise | rfl | apply Keeps.ite | apply Holds.next)
    | dsimp only | with_reducible apply Keeps.update

theorem keeps_restoreFailed {s0 : State} {s : State} (h : Keeps s0 s) :
    Keeps s0 (State.restoreFailed s) := by
  unfold State.restoreFailed
  repeat' first
    | intro _
    | (with_reducible first
      | exact h | assumption | apply keeps_showJournal | apply keeps_onWrite | apply keeps_zeroBank | apply Keeps.foldl)

theorem keeps_allOff {s0 : State} {s : State} (h : Keeps s0 s) :
    Keeps s0 (State.allOff s) := by
  unfold State.allOff
  repeat' first
    | intro _
    | (with_reducible first
      | exact h | assumption | apply keeps_put | apply keeps_domainEnters | apply keeps_setPhase | apply Keeps.ite
      | apply Keeps.foldl)

theorem keeps_execSelftestDone {s0 : State} {a0} {s : State} (h : Keeps s0 s) :
    Holds inNext s0 (execSelftestDone a0 s) := by
  unfold execSelftestDone
  repeat' (with_reducible first
    | exact h | apply keeps_sealEnd | apply keeps_refPpm | apply keeps_clearSecrets | apply keeps_restoreFailed
    | apply keeps_raise | apply keeps_sealStart | apply keeps_lugWrite | apply keeps_allOff | apply keeps_record
    | apply Keeps.ite | apply Holds.next | apply Keeps.snd)

theorem keeps_execTapInternalScan {s0 : State} {s : State} (h : Keeps s0 s) :
    Holds inNext s0 (execTapInternalScan s) := by
  unfold execTapInternalScan
  repeat' first
    | intro _
    | (with_reducible first
      | exact h | assumption | apply keeps_resetAll | apply keeps_put | apply keeps_onMem | apply keeps_keepDram
      | apply keeps_resetRegs | apply Keeps.foldl | apply Holds.next)

theorem keeps_execTapBoundaryInstruction {s0 : State} {s : State} (h : Keeps s0 s) :
    Holds inNext s0 (execTapBoundaryInstruction s) := by
  unfold execTapBoundaryInstruction
  repeat' (with_reducible first | exact h | apply Holds.next)

theorem keeps_execReferenceClockStop {s0 : State} {s : State} (h : Keeps s0 s) :
    Holds inNext s0 (execReferenceClockStop s) := by
  unfold execReferenceClockStop
  repeat' first
    | intro _
    | (with_reducible first
      | exact h | assumption | apply keeps_setBay | apply Keeps.foldl | apply Holds.next)

theorem keeps_execBayEnable {s0 : State} {a0} {s : State} (h : Keeps s0 s) :
    Holds inNext s0 (execBayEnable a0 s) := by
  unfold execBayEnable
  repeat' first
    | intro _
    | (with_reducible first
      | exact h | assumption | apply keeps_onBay | apply keeps_mountStart | apply keeps_setBayState | apply keeps_raise
      | apply Keeps.ite)

end Sys2Proof.Machine
end

