-- ==== Sys2Proof/Laws/KeepsCStore.lean ====
section
/-!
SUPPORT. Every operation of CStore.lean keeps the queue, the part and the canonical stores (Keeps.lean).
-/

namespace Sys2Proof.Machine

theorem keeps_csRefuse {s0 : State} {s : State} {a0} {a1} (h : Keeps s0 s) :
    Keeps s0 (State.csRefuse s a0 a1) := by
  unfold State.csRefuse
  repeat' (with_reducible first | exact h | apply keeps_put | apply keeps_raise)

theorem keeps_csFail {s0 : State} {s : State} {a0} {a1} {a2} (h : Keeps s0 s) :
    Keeps s0 (State.csFail s a0 a1 a2) := by
  unfold State.csFail
  repeat' (with_reducible first | exact h | apply keeps_setBank | apply keeps_csRefuse)

theorem keeps_execCsLoad {s0 : State} {a0} {s : State} (h : Keeps s0 s) :
    Holds inNext s0 (execCsLoad a0 s) := by
  unfold execCsLoad
  repeat' (with_reducible first
    | exact h | apply keeps_csRefuse | apply keeps_setBank | apply keeps_onCluster | apply keeps_raise | apply Keeps.ite
    | apply Holds.next)

theorem keeps_showBank {s0 : State} {s : State} {a0} {a1} (h : Keeps s0 s) :
    Keeps s0 (State.showBank s a0 a1) := by
  unfold State.showBank
  repeat' (with_reducible first | exact h | apply keeps_put)

theorem keeps_execCsLoadDone {s0 : State} {a0} {a1} {s : State} (h : Keeps s0 s) :
    Holds inNext s0 (execCsLoadDone a0 a1 s) := by
  unfold execCsLoadDone
  repeat' first
    | (with_reducible first
      | exact h | apply keeps_onCluster | apply keeps_zero | apply keeps_fresh | apply keeps_memRead | apply keeps_csFail
      | apply keeps_setBank | apply keeps_put | apply keeps_showBank | apply keeps_onBank | apply Keeps.ite | apply Holds.next
      | apply Keeps.snd)
    | (refine Keeps.ofPair (by with_reducible assumption) ?_) | dsimp only | split

theorem keeps_execCsVerify {s0 : State} {a0} {s : State} (h : Keeps s0 s) :
    Holds inNext s0 (execCsVerify a0 s) := by
  unfold execCsVerify
  repeat' (with_reducible first
    | exact h | apply keeps_csRefuse | apply keeps_onCluster | apply keeps_raise | apply Keeps.ite | apply Holds.next)

theorem keeps_execCsVerifyDone {s0 : State} {a0} {a1} {s : State} (h : Keeps s0 s) :
    Holds inNext s0 (execCsVerifyDone a0 a1 s) := by
  unfold execCsVerifyDone
  repeat' first
    | (with_reducible first
      | exact h | apply keeps_onCluster | apply keeps_zero | apply keeps_onBank | apply keeps_setBank | apply keeps_put
      | apply keeps_csFail | apply Keeps.ite | apply Holds.next)
    | dsimp only | split

theorem keeps_switchAll {s0 : State} {s : State} {a0} {a1} (h : Keeps s0 s) :
    Keeps s0 (State.switchAll s a0 a1) := by
  unfold State.switchAll
  repeat' first
    | intro _
    | (with_reducible first
      | exact h | assumption | apply keeps_onSeq | apply keeps_applySwitch | apply keeps_updStep | apply Keeps.foldl)

theorem keeps_execCsActivate {s0 : State} {a0} {s : State} (h : Keeps s0 s) :
    Holds inNext s0 (execCsActivate a0 s) := by
  unfold execCsActivate
  repeat' (with_reducible first
    | exact h | apply keeps_csRefuse | apply keeps_zero | apply keeps_put | apply keeps_setStage | apply keeps_onCluster
    | apply keeps_switchAll | apply Keeps.ite | apply Holds.next)

theorem keeps_csBack {s0 : State} {s : State} {a0} {a1} (h : Keeps s0 s) :
    Keeps s0 (State.csBack s a0 a1) := by
  unfold State.csBack
  repeat' (with_reducible first | exact h | apply keeps_setStage | apply keeps_onCluster | apply keeps_switchAll)

theorem keeps_execActivateTimeout {s0 : State} {a0} {s : State} (h : Keeps s0 s) :
    Holds inNext s0 (execActivateTimeout a0 s) := by
  unfold execActivateTimeout
  repeat' (with_reducible first | exact h | apply keeps_csBack | apply keeps_csRefuse | apply Keeps.ite | apply Holds.next)

theorem keeps_execCsConfirm {s0 : State} {a0} {s : State} (h : Keeps s0 s) :
    Holds inNext s0 (execCsConfirm a0 s) := by
  unfold execCsConfirm
  repeat' (with_reducible first
    | exact h | apply keeps_csRefuse | apply keeps_setStage | apply keeps_raise | apply Keeps.ite | apply Holds.next)

theorem keeps_execCsRevert {s0 : State} {a0} {s : State} (h : Keeps s0 s) :
    Holds inNext s0 (execCsRevert a0 s) := by
  unfold execCsRevert
  repeat' (with_reducible first | exact h | apply keeps_csRefuse | apply keeps_csBack | apply Keeps.ite | apply Holds.next)

theorem keeps_execConfirmTimeout {s0 : State} {a0} {s : State} (h : Keeps s0 s) :
    Holds inNext s0 (execConfirmTimeout a0 s) := by
  unfold execConfirmTimeout
  repeat' (with_reducible first | exact h | apply keeps_csBack | apply Keeps.ite | apply Holds.next)

theorem keeps_execCsWindowWrite {s0 : State} {a0} {a1} {a2} {a3} {s : State} (h : Keeps s0 s) :
    Holds inNext s0 (execCsWindowWrite a0 a1 a2 a3 s) := by
  unfold execCsWindowWrite
  repeat' (with_reducible first
    | exact h | apply keeps_csRefuse | apply keeps_raise | apply keeps_setBank | apply keeps_onBank | rfl | apply Keeps.ite
    | apply Holds.next | apply Keeps.update)

theorem keeps_windowRead {s0 : State} {s : State} {a0} (h : Keeps s0 s) :
    Holds inSnd s0 (State.windowRead s a0) := by
  unfold State.windowRead
  repeat' first
    | (with_reducible first | exact h | apply keeps_fresh | apply Holds.ite | apply Keeps.snd) | dsimp only | split
    | with_reducible apply Holds.pair

theorem keeps_execUstoreSelWrite {s0 : State} {a0} {a1} {s : State} (h : Keeps s0 s) :
    Holds inNext s0 (execUstoreSelWrite a0 a1 s) := by
  unfold execUstoreSelWrite
  repeat' (with_reducible first | exact h | apply keeps_put | apply keeps_raise | apply Keeps.ite | apply Holds.next)

end Sys2Proof.Machine
end

