-- ==== Sys2Proof/Laws/KeepsRegFile.lean ====
section
/-!
SUPPORT. Every operation of RegFile.lean keeps the queue, the part and the canonical stores (Keeps.lean).
-/

namespace Sys2Proof.Machine

theorem keeps_regRead {s0 : State} {s : State} {a0} (h : Keeps s0 s) :
    Holds inSnd s0 (State.regRead s a0) := by
  unfold State.regRead
  repeat' first
    | intro _
    | (with_reducible first
      | exact h | assumption | apply keeps_windowRead | apply keeps_lugNext | apply keeps_zero | rfl | apply Keeps.foldl
      | apply Holds.ite)
    | dsimp only | split | (with_reducible first | apply Holds.pair | apply Keeps.update)

theorem keeps_hostRead {s0 : State} {s : State} {a0} (h : Keeps s0 s) :
    Keeps s0 (State.hostRead s a0) := by
  unfold State.hostRead
  repeat' (with_reducible first | exact h | apply keeps_regRead | apply keeps_emit | apply Keeps.snd)

theorem keeps_storeField {s0 : State} {s : State} {a0} {a1} {a2} (h : Keeps s0 s) :
    Keeps s0 (State.storeField s a0 a1 a2) := by
  unfold State.storeField
  repeat' first | (with_reducible first | exact h | apply keeps_raise | apply keeps_put | apply Keeps.ite) | split

theorem keeps_writeField {s0 : State} {s : State} {a0} {a1} {a2} {a3} (h : Keeps s0 s) :
    Keeps s0 (State.writeField s a0 a1 a2 a3) := by
  unfold State.writeField
  repeat' first | (with_reducible first | exact h | apply keeps_put | apply keeps_storeField) | dsimp only | split

theorem keeps_afterWrite {s0 : State} {s : State} {a0} (h : Keeps s0 s) :
    Keeps s0 (State.afterWrite s a0) := by
  unfold State.afterWrite
  repeat' (with_reducible first
    | exact h | apply keeps_releaseVectors | apply keeps_ringMessage | apply keeps_caddyServe | apply keeps_keyShow
    | apply keeps_ledgerStat | apply Keeps.ite)

theorem keeps_writeWord {s0 : State} {s : State} {a0} {a1} {a2} (h : Keeps s0 s) :
    Keeps s0 (State.writeWord s a0 a1 a2) := by
  unfold State.writeWord
  split
  · repeat' first
      | intro _
      | (with_reducible first
        | exact h | assumption | apply keeps_afterWrite | apply keeps_writeField | apply Keeps.foldl)
  · exact h

theorem keeps_regWrite {s0 : State} {s : State} {a0} {a1} {a2} (h : Keeps s0 s) :
    Keeps s0 (State.regWrite s a0 a1 a2) := by
  unfold State.regWrite
  repeat' first
    | (with_reducible first | exact h | apply keeps_raise | apply keeps_writeWord | rfl | apply Keeps.ite) | dsimp only | split
    | with_reducible apply Keeps.update

theorem keeps_execBadWidthAccess {s0 : State} {a0} {a1} {a2} {s : State} (h : Keeps s0 s) :
    Holds inNext s0 (execBadWidthAccess a0 a1 a2 s) := by
  unfold execBadWidthAccess
  repeat' (with_reducible first | exact h | apply keeps_record | apply keeps_emit | apply Keeps.ite | apply Holds.next)

theorem keeps_execPairLoWrite {s0 : State} {a0} {a1} {s : State} (h : Keeps s0 s) :
    Holds inNext s0 (execPairLoWrite a0 a1 s) := by
  unfold execPairLoWrite
  repeat' (with_reducible first | exact h | apply keeps_regWrite | apply Keeps.ite | apply Holds.next)

theorem keeps_execPairHiWrite {s0 : State} {a0} {a1} {s : State} (h : Keeps s0 s) :
    Holds inNext s0 (execPairHiWrite a0 a1 s) := by
  unfold execPairHiWrite
  repeat' (with_reducible first | exact h | apply keeps_regWrite | apply Keeps.ite | apply Holds.next)

theorem keeps_execPairLoRead {s0 : State} {a0} {s : State} (h : Keeps s0 s) :
    Holds inNext s0 (execPairLoRead a0 s) := by
  unfold execPairLoRead
  repeat' (with_reducible first | exact h | apply keeps_hostRead | apply Keeps.ite | apply Holds.next)

theorem keeps_execRcFieldRead {s0 : State} {a0} {s : State} (h : Keeps s0 s) :
    Holds inNext s0 (execRcFieldRead a0 s) := by
  unfold execRcFieldRead
  repeat' (with_reducible first | exact h | apply keeps_hostRead | apply Holds.next)

theorem keeps_execRegisterWrite {s0 : State} {a0} {a1} {s : State} (h : Keeps s0 s) :
    Holds inNext s0 (execRegisterWrite a0 a1 s) := by
  unfold execRegisterWrite
  repeat' (with_reducible first | exact h | apply keeps_regWrite | apply Holds.next)

end Sys2Proof.Machine
end

