-- ==== Sys2Proof/Laws/KeepsSeq.lean ====
section
/-!
SUPPORT. Every operation of Seq.lean keeps the queue, the part and the canonical stores (Keeps.lean).
-/

namespace Sys2Proof.Machine

theorem keeps_operand {s0 : State} {s : State} {a0} {a1} {a2} (h : Keeps s0 s) :
    Holds inSnd s0 (State.operand s a0 a1 a2) := by
  unfold State.operand
  repeat' first | (with_reducible first | exact h | apply keeps_fresh | apply Holds.ite) | split | with_reducible apply Holds.pair

theorem keeps_takeTrap {s0 : State} {s : State} {a0} {a1} {a2} (h : Keeps s0 s) :
    Keeps s0 (State.takeTrap s a0 a1 a2) := by
  unfold State.takeTrap
  repeat' first
    | intro _
    | (with_reducible first
      | exact h | assumption | apply keeps_put | apply keeps_onSeq | apply keeps_raise | apply Keeps.foldl)

theorem keeps_endServed {s0 : State} {s : State} {a0} (h : Keeps s0 s) :
    Keeps s0 (State.endServed s a0) := by
  unfold State.endServed
  repeat' first
    | (with_reducible first
      | exact h | apply keeps_endTag | apply keeps_endWork | apply keeps_endUnit | apply keeps_onSeq)
    | dsimp only | split

theorem keeps_seqHalt {s0 : State} {s : State} {a0} {a1} (h : Keeps s0 s) :
    Keeps s0 (State.seqHalt s a0 a1) := by
  unfold State.seqHalt
  repeat' first
    | intro _
    | (with_reducible first
      | exact h | assumption | apply keeps_zero | apply keeps_put | apply keeps_endGateRun | apply keeps_endAllTags
      | apply keeps_endServed | apply keeps_bayFaultStop | apply keeps_seqLeaves | apply keeps_record | apply Keeps.foldl)
    | split

theorem keeps_hookFault {s0 : State} {s : State} {a0} {a1} (h : Keeps s0 s) :
    Keeps s0 (State.hookFault s a0 a1) := by
  unfold State.hookFault
  repeat' first
    | (with_reducible first
      | exact h | apply keeps_hookFaultRecord | apply keeps_put | apply keeps_onSeq | apply keeps_endServed | apply Keeps.ite)
    | dsimp only | split

theorem keeps_seqFault {s0 : State} {s : State} {a0} {a1} {a2} (h : Keeps s0 s) :
    Keeps s0 (State.seqFault s a0 a1 a2) := by
  unfold State.seqFault
  repeat' (with_reducible first
    | exact h | apply keeps_raise | apply keeps_setBitOf | apply keeps_seqHalt | apply keeps_trapRecord | apply keeps_takeTrap
    | apply keeps_hookFault | apply keeps_endServed | apply Keeps.ite)

theorem keeps_seqInterrupt {s0 : State} {s : State} {a0} (h : Keeps s0 s) :
    Keeps s0 (State.seqInterrupt s a0) := by
  unfold State.seqInterrupt
  repeat' first | (with_reducible first | exact h | apply keeps_takeTrap | apply keeps_setBay) | dsimp only | split

theorem keeps_after {s0 : State} {s : State} {a0} (h : Keeps s0 s) (hfa0 : ∀ t, Keeps s0 t → Holds inNext s0 (a0 t)) :
    Keeps s0 (State.after s a0) := by
  unfold State.after
  repeat' first | (with_reducible first | exact h | apply hfa0) | (refine Keeps.ofNext (by with_reducible assumption) ?_) | split

theorem keeps_portMode {s0 : State} {s : State} {a0} {a1} {a2} (h : Keeps s0 s) :
    Keeps s0 (State.portMode s a0 a1 a2) := by
  unfold State.portMode
  repeat' first
    | intro _
    | (with_reducible first
      | exact h | assumption | apply keeps_after | apply keeps_execStepperOff | apply keeps_execStepperHold
      | apply keeps_execStepperFollow | apply keeps_execStepperHome | apply Keeps.ite)
    | split

theorem keeps_portLoops {s0 : State} {s : State} {a0} {a1} (h : Keeps s0 s) :
    Keeps s0 (State.portLoops s a0 a1) := by
  unfold State.portLoops
  repeat' first
    | intro _
    | (with_reducible first
      | exact h | assumption | apply keeps_setAuto | apply keeps_hostEn | apply keeps_after | apply keeps_execLoopCommit
      | apply Keeps.foldl)

theorem keeps_portWrite {s0 : State} {s : State} {a0} {a1} {a2} (h : Keeps s0 s) :
    Keeps s0 (State.portWrite s a0 a1 a2) := by
  unfold State.portWrite
  repeat' first
    | intro _
    | (with_reducible first
      | exact h | assumption | apply keeps_after | apply keeps_regWrite | apply keeps_execBayEnable
      | apply keeps_execLinkWithdraw | apply keeps_execBayHostReset | apply keeps_execAdcRateWrite | apply keeps_execFeAccessGo
      | apply keeps_portLoops | apply keeps_execRepTableClear | apply keeps_put | apply keeps_execTraceForce
      | apply keeps_execTraceArm | apply keeps_execInfusionStop | apply keeps_execInfusionStart
      | apply keeps_execFallbackClearWrite | apply keeps_execSpinDirWrite | apply keeps_execStepperGo | apply keeps_portMode
      | apply keeps_execEncFaultClear | apply keeps_execDlCommitRequest | apply keeps_execJournalReleaseAll
      | apply keeps_execJournalRelease | apply keeps_execCalRequest | apply Keeps.ite)

theorem keeps_portArm {s0 : State} {s : State} {a0} {a1} (h : Keeps s0 s) :
    Holds inSnd s0 (State.portArm s a0 a1) := by
  unfold State.portArm
  repeat' (with_reducible first | exact h | apply keeps_onTracker | apply Holds.ite | apply Holds.pair)

theorem keeps_portPop {s0 : State} {s : State} {a0} (h : Keeps s0 s) :
    Holds inSnd s0 (State.portPop s a0) := by
  unfold State.portPop
  repeat' first
    | (with_reducible first | exact h | apply keeps_fresh | apply keeps_setBay) | dsimp only | split
    | with_reducible apply Holds.pair

theorem keeps_bayIssue {s0 : State} {s : State} {a0} {a1} {a2} {a3} (h : Keeps s0 s) :
    Keeps s0 (State.bayIssue s a0 a1 a2 a3) := by
  unfold State.bayIssue
  repeat' first
    | (with_reducible first
      | exact h | apply keeps_onSeq | apply keeps_regRead | apply keeps_portWrite | apply keeps_portArm | apply keeps_portPop
      | apply keeps_putEntry | apply keeps_lugWrite | apply Keeps.snd)
    | dsimp only | split

theorem keeps_caddyIssue {s0 : State} {s : State} {a0} {a1} {a2} (h : Keeps s0 s) :
    Keeps s0 (State.caddyIssue s a0 a1 a2) := by
  unfold State.caddyIssue
  repeat' (with_reducible first
    | exact h | apply keeps_onSeq | apply keeps_caddyRequest | apply keeps_caddyShare | apply keeps_caddyRelease
    | apply keeps_fresh | apply Keeps.ite | apply Keeps.third | apply Keeps.snd)

theorem keeps_cpIssue {s0 : State} {s : State} {a0} {a1} {a2} {a3} (h : Keeps s0 s) :
    Keeps s0 (State.cpIssue s a0 a1 a2 a3) := by
  unfold State.cpIssue
  repeat' first
    | (with_reducible first | exact h | apply keeps_caddyIssue | apply keeps_cacheOp | apply keeps_onSeq)
    | (refine Keeps.ofSome (by with_reducible assumption) ?_) | split

theorem keeps_memIssue {s0 : State} {s : State} {a0} {a1} {a2} (h : Keeps s0 s) :
    Holds inThird s0 (State.memIssue s a0 a1 a2) := by
  unfold State.memIssue
  repeat' first
    | (with_reducible first | exact h | apply keeps_memRead | apply keeps_memWrite | apply Keeps.snd)
    | (refine Keeps.ofPair (by with_reducible assumption) ?_) | dsimp only | split | with_reducible apply Holds.triple

theorem keeps_takeWork {s0 : State} {s : State} {a0} (h : Keeps s0 s) :
    Keeps s0 (State.takeWork s a0) := by
  unfold State.takeWork
  repeat' first
    | (with_reducible first
      | exact h | apply keeps_onSeq | apply keeps_fresh | apply keeps_setBay | apply Holds.ite | apply Keeps.snd)
    | dsimp only | split | with_reducible apply Holds.pair

theorem keeps_idleWord {s0 : State} {s : State} {a0} (h : Keeps s0 s) :
    Keeps s0 (State.idleWord s a0) := by
  unfold State.idleWord
  repeat' first
    | intro _
    | (with_reducible first
      | exact h | assumption | apply keeps_idleBoundary | apply keeps_takeWork | apply keeps_fillTags | apply Keeps.foldl)

theorem keeps_mret {s0 : State} {s : State} {a0} (h : Keeps s0 s) :
    Keeps s0 (State.mret s a0) := by
  unfold State.mret
  repeat' (with_reducible first | exact h | apply keeps_onSeq | apply keeps_setBitOf | apply keeps_zero | apply keeps_put)

theorem keeps_stopSeq {s0 : State} {s : State} {a0} (h : Keeps s0 s) :
    Keeps s0 (State.stopSeq s a0) := by
  unfold State.stopSeq
  repeat' (with_reducible first | exact h | apply keeps_seqLeaves | apply keeps_zero | apply keeps_put)

theorem keeps_endWord {s0 : State} {s : State} {a0} {a1} {a2} (h : Keeps s0 s) :
    Keeps s0 (State.endWord s a0 a1 a2) := by
  unfold State.endWord
  repeat' (with_reducible first | exact h | apply keeps_seqInterrupt | apply keeps_stopSeq | apply Keeps.ite)

theorem keeps_wordEffects {s0 : State} {s : State} {a0} {a1} {a2} {a3} {a4} {a5} {a6} (h : Keeps s0 s) :
    Keeps s0 (State.wordEffects s a0 a1 a2 a3 a4 a5 a6) := by
  unfold State.wordEffects
  repeat' (with_reducible first
    | exact h | apply keeps_onSeq | apply keeps_cpIssue | apply keeps_bayIssue | apply keeps_put | apply keeps_mret
    | apply keeps_endWord | apply keeps_idleWord | apply Keeps.ite)

theorem keeps_runWord {s0 : State} {s : State} {a0} {a1} {a2} {a3} (h : Keeps s0 s) :
    Keeps s0 (State.runWord s a0 a1 a2 a3) := by
  unfold State.runWord
  repeat' first
    | (with_reducible first
      | exact h | apply keeps_seqFault | apply keeps_operand | apply keeps_memIssue | apply keeps_wordEffects | apply Keeps.ite
      | apply Keeps.snd)
    | (refine Keeps.ofTriple (by with_reducible assumption) ?_) | dsimp only | split

theorem keeps_fetchCorrected {s0 : State} {s : State} {a0} (h : Keeps s0 s) :
    Keeps s0 (State.fetchCorrected s a0) := by
  unfold State.fetchCorrected
  repeat' (with_reducible first | exact h | apply keeps_onCluster | apply keeps_count | apply keeps_record | apply Keeps.ite)

theorem keeps_fetchUncorr {s0 : State} {s : State} {a0} {a1} {a2} (h : Keeps s0 s) :
    Keeps s0 (State.fetchUncorr s a0 a1 a2) := by
  unfold State.fetchUncorr
  repeat' (with_reducible first
    | exact h | apply keeps_onBank | apply keeps_count | apply keeps_put | apply keeps_raise | apply keeps_seqFault
    | apply keeps_record)

theorem keeps_seqCycle {s0 : State} {s : State} {a0} {a1} {a2} (h : Keeps s0 s) :
    Keeps s0 (State.seqCycle s a0 a1 a2) := by
  unfold State.seqCycle
  repeat' first
    | (with_reducible first
      | exact h | apply keeps_onSeq | apply keeps_seqFault | apply keeps_endWord | apply keeps_fetchUncorr | apply keeps_runWord
      | apply keeps_fetchCorrected | apply Keeps.ite)
    | dsimp only | split

theorem keeps_execMicrowordExecute {s0 : State} {a0} {a1} {a2} {s : State} (h : Keeps s0 s) :
    Holds inNext s0 (execMicrowordExecute a0 a1 a2 s) := by
  unfold execMicrowordExecute
  repeat' (with_reducible first | exact h | apply keeps_seqCycle | apply Keeps.ite | apply Holds.next)

theorem keeps_execMemPortAnswer {s0 : State} {a0} {s : State} (h : Keeps s0 s) :
    Holds inNext s0 (execMemPortAnswer a0 s) := by
  unfold execMemPortAnswer
  repeat' first | (with_reducible first | exact h | apply keeps_onSeq | apply Holds.next) | split

theorem keeps_execBayPortAnswer {s0 : State} {a0} {s : State} (h : Keeps s0 s) :
    Holds inNext s0 (execBayPortAnswer a0 s) := by
  unfold execBayPortAnswer
  repeat' first | (with_reducible first | exact h | apply keeps_onSeq | apply Holds.next) | dsimp only | split

theorem keeps_execCpPortAnswer {s0 : State} {a0} {s : State} (h : Keeps s0 s) :
    Holds inNext s0 (execCpPortAnswer a0 s) := by
  unfold execCpPortAnswer
  repeat' first | (with_reducible first | exact h | apply keeps_onSeq | apply Holds.next) | split

theorem keeps_seqRefuse {s0 : State} {s : State} {a0} (h : Keeps s0 s) :
    Keeps s0 (State.seqRefuse s a0) := by
  unfold State.seqRefuse
  repeat' (with_reducible first | exact h | apply keeps_raise)

theorem keeps_execSeqRelease {s0 : State} {a0} {s : State} (h : Keeps s0 s) :
    Holds inNext s0 (execSeqRelease a0 s) := by
  unfold execSeqRelease
  repeat' (with_reducible first
    | exact h | apply keeps_seqRefuse | apply keeps_onSeq | apply keeps_put | apply Keeps.ite | apply Holds.next)

theorem keeps_execSeqReset {s0 : State} {a0} {s : State} (h : Keeps s0 s) :
    Holds inNext s0 (execSeqReset a0 s) := by
  unfold execSeqReset
  repeat' (with_reducible first
    | exact h | apply keeps_zero | apply keeps_holdSeq | apply keeps_seqRefuse | apply Keeps.ite | apply Holds.next)

theorem keeps_execSeqDiagHalt {s0 : State} {a0} {s : State} (h : Keeps s0 s) :
    Holds inNext s0 (execSeqDiagHalt a0 s) := by
  unfold execSeqDiagHalt
  repeat' (with_reducible first
    | exact h | apply keeps_seqRefuse | apply keeps_raise | apply keeps_stopSeq | apply Keeps.ite | apply Holds.next)

theorem keeps_execSeqStep {s0 : State} {a0} {a1} {a2} {s : State} (h : Keeps s0 s) :
    Holds inNext s0 (execSeqStep a0 a1 a2 s) := by
  unfold execSeqStep
  repeat' (with_reducible first
    | exact h | apply keeps_seqRefuse | apply keeps_seqCycle | apply keeps_put | apply Keeps.ite | apply Holds.next)

theorem keeps_execSeqResume {s0 : State} {a0} {s : State} (h : Keeps s0 s) :
    Holds inNext s0 (execSeqResume a0 s) := by
  unfold execSeqResume
  repeat' (with_reducible first | exact h | apply keeps_seqRefuse | apply keeps_put | apply Keeps.ite | apply Holds.next)

theorem keeps_execBaySeqMove {s0 : State} {a0} {s : State} (h : Keeps s0 s) :
    Holds inNext s0 (execBaySeqMove a0 s) := by
  unfold execBaySeqMove
  repeat' first
    | intro _
    | (with_reducible first
      | exact h | assumption | apply keeps_onBay | apply keeps_setBay | apply keeps_raise | apply keeps_giveUp | apply Keeps.ite)

theorem keeps_customEnd {s0 : State} {s : State} {a0} {a1} {a2} (h : Keeps s0 s) :
    Holds inSnd s0 (State.customEnd s a0 a1 a2) := by
  unfold State.customEnd
  repeat' first
    | (with_reducible first
      | exact h | apply keeps_hookFaultRecord | apply keeps_trapRecord | apply keeps_hookOverride | apply Holds.ite)
    | dsimp only | split | with_reducible apply Holds.pair

theorem keeps_execCustomerOpcode {s0 : State} {a0} {a1} {a2} {s : State} (h : Keeps s0 s) :
    Holds inNext s0 (execCustomerOpcode a0 a1 a2 s) := by
  unfold execCustomerOpcode
  repeat' first
    | (with_reducible first
      | exact h | apply keeps_endUnit | apply keeps_customEnd | apply keeps_endTagAt | apply keeps_endWork | apply Keeps.ite
      | apply Holds.next)
    | (refine Keeps.ofPair (by with_reducible assumption) ?_) | dsimp only | split

end Sys2Proof.Machine
end

