-- ==== Sys2Proof/Laws/KeepsDispatch.lean ====
section
/-!
SUPPORT. Every operation of Dispatch.lean keeps the queue, the part and the canonical stores (Keeps.lean).
-/

namespace Sys2Proof.Machine

theorem keeps_exec {s0 : State} {a0} {s : State} (h : Keeps s0 s) :
    Holds inNext s0 (exec a0 s) := by
  unfold exec
  repeat' first
    | (with_reducible first
      | exact h | apply keeps_execBadWidthAccess | apply keeps_execPairLoWrite | apply keeps_execPairHiWrite
      | apply keeps_execPairLoRead | apply keeps_execRcFieldRead | apply keeps_execRegisterWrite
      | apply keeps_execAngleEventFire | apply keeps_execRfFrameReceive | apply keeps_execServoFrameReceive
      | apply keeps_execMotorFrameReceive | apply keeps_execMotorFrameMissing | apply keeps_execEncoderFrameReceive
      | apply keeps_execStatusFrameReceive | apply keeps_execAlertFrameReceive | apply keeps_execCfgRspReceive
      | apply keeps_execEchoResponseReceive | apply keeps_execPresenceSample | apply keeps_execBayResetRelease
      | apply keeps_execUpstreamBlockLock | apply keeps_execTrainTimeout | apply keeps_execTrainRetry
      | apply keeps_execLinkLossSyncErrors | apply keeps_execLinkLossStatusTimeout | apply keeps_execLinkWithdraw
      | apply keeps_execDrainTimeout | apply keeps_execBayHostReset | apply keeps_execFeAccessGo
      | apply keeps_execFeAccessTimeout | apply keeps_execAlertPinTimeout | apply keeps_execInterlockFall
      | apply keeps_execLoffRepeat | apply keeps_execAdcRateWrite | apply keeps_execWedgeDetection
      | apply keeps_execWedgeDecision | apply keeps_execToothReport | apply keeps_execToothSynthesis
      | apply keeps_execAcqTimeout | apply keeps_execBridgeExpire | apply keeps_execServoUpdate | apply keeps_execLoopCommit
      | apply keeps_execLoopCommitApply | apply keeps_execSrvEnWrite | apply keeps_execSrvAutoWrite
      | apply keeps_execSrvManWrite | apply keeps_execRepTableClear | apply keeps_execDefectHoldOverrun
      | apply keeps_execTraceArm | apply keeps_execTraceForce | apply keeps_execInfusionStart | apply keeps_execInfusionStop
      | apply keeps_execFocusSweepEnd | apply keeps_execFocusSettleEnd | apply keeps_execLayerProbeFail
      | apply keeps_execTrackingCloseTimeout | apply keeps_execLjKickEnd | apply keeps_execLjBrakeEnd
      | apply keeps_execLjCloseTimeout | apply keeps_execLjSettleEnd | apply keeps_execTjKickEnd | apply keeps_execTjBrakeEnd
      | apply keeps_execTjSettleEnd | apply keeps_execFallbackClearWrite | apply keeps_execRecoveryTimeout
      | apply keeps_execSpinAlignEnd | apply keeps_execSpinHandoverTimeout | apply keeps_execSpinSpeedStepTimeout
      | apply keeps_execSpinDirWrite | apply keeps_execZeroCrossingTimeout | apply keeps_execCoastStoppedTimeout
      | apply keeps_execSpeedRegulationTimeout | apply keeps_execStepperGo | apply keeps_execStepperOff
      | apply keeps_execStepperHold | apply keeps_execStepperFollow | apply keeps_execStepperHome | apply keeps_execStepperPark
      | apply keeps_execPlannerTick | apply keeps_execStepperArrived | apply keeps_execHomeHoldEnd | apply keeps_execStallResync
      | apply keeps_execEncFaultClear | apply keeps_execZoneEntryFetchDone | apply keeps_execSectorPreambleStart
      | apply keeps_execDetectorPassDone | apply keeps_execOtfDecodeDone | apply keeps_execSectorCrcCheck
      | apply keeps_execCaptureGrantTimeout | apply keeps_execRecoveryDecodeStart | apply keeps_execRecoveryDecodeDone
      | apply keeps_execExtentReconDone | apply keeps_execLadderTimeout | apply keeps_execDmaReadDone
      | apply keeps_execDlCommitAgeTimer | apply keeps_execDlCommitRequest | apply keeps_execDlCommitDone
      | apply keeps_execJournalRelease | apply keeps_execJournalReleaseAll | apply keeps_execCalRequest
      | apply keeps_execCalTimeout | apply keeps_execCalTempCheck | apply keeps_execDoorbellWake
      | apply keeps_execDoorbellPollTimer | apply keeps_execDoorbellFetchDone | apply keeps_execWaybillReadDone
      | apply keeps_execWaybillAdmit | apply keeps_execHostReadFail | apply keeps_execHostReadCplTimeout
      | apply keeps_execDmaRestart | apply keeps_execReceiptWrite | apply keeps_execCoalesceTimer | apply keeps_execVectorUnmask
      | apply keeps_execBusMasterEnable | apply keeps_execPcieReset | apply keeps_execSubRingEnable
      | apply keeps_execSubRingDisable | apply keeps_execRcpRingEnable | apply keeps_execRcpRingDisable | apply keeps_execMount
      | apply keeps_execUnmount | apply keeps_execRead | apply keeps_execWrite | apply keeps_execVerifyRange
      | apply keeps_execVerifyJournal | apply keeps_execFlush | apply keeps_execCloseExtent | apply keeps_execCloseExtentAbandon
      | apply keeps_execMediaScan | apply keeps_execPartitionCreate | apply keeps_execPartitionRetire | apply keeps_execKeyBind
      | apply keeps_execTableLoadRaw | apply keeps_execTableLoadZone | apply keeps_execTableReadDram
      | apply keeps_execTableReadRawSlot | apply keeps_execStripeEncode | apply keeps_execStripeRebuild | apply keeps_execFixity
      | apply keeps_execFabricSend | apply keeps_execMode | apply keeps_execModeSystemProposal | apply keeps_execCustomerOpcode
      | apply keeps_execRangeLockGrant | apply keeps_execSchedDecision | apply keeps_execAgeDeadline
      | apply keeps_execStripeSegmentDone | apply keeps_execKeyLoad | apply keeps_execKeyClear | apply keeps_execKeyClearAll
      | apply keeps_execDramTrain | apply keeps_execDramResume | apply keeps_execDramTrainDone | apply keeps_execDramFillDone
      | apply keeps_execDramCfgWrite | apply keeps_execScrubGo | apply keeps_execScrubStop | apply keeps_execScrubPassEnd
      | apply keeps_execDramRetire | apply keeps_execDramRetireDone | apply keeps_execCacheWayDisable
      | apply keeps_execCacheWayCleanDone | apply keeps_execScratchEnable | apply keeps_execScratchFillDone
      | apply keeps_execScratchDisable | apply keeps_execCacheClean | apply keeps_execCacheCleanInv
      | apply keeps_execCacheZeroLine | apply keeps_execEvictionWriteback | apply keeps_execCaddyEnable
      | apply keeps_execCaddyRegionEnable | apply keeps_execCaddyRequest | apply keeps_execCaddyGrant
      | apply keeps_execCaddyShare | apply keeps_execCaddyRelease | apply keeps_execCaddyReclaim
      | apply keeps_execMicrowordExecute | apply keeps_execMemPortAnswer | apply keeps_execCpPortAnswer
      | apply keeps_execBaySeqMove | apply keeps_execSeqRelease | apply keeps_execSeqReset | apply keeps_execSeqDiagHalt
      | apply keeps_execSeqStep | apply keeps_execSeqResume | apply keeps_execCsLoad | apply keeps_execCsLoadDone
      | apply keeps_execCsVerify | apply keeps_execCsVerifyDone | apply keeps_execCsActivate | apply keeps_execActivateTimeout
      | apply keeps_execCsConfirm | apply keeps_execCsRevert | apply keeps_execConfirmTimeout | apply keeps_execCsWindowWrite
      | apply keeps_execUstoreSelWrite | apply keeps_execFabricPortEnable | apply keeps_execFabricLinkChange
      | apply keeps_execStOpenReceive | apply keeps_execStAcceptReceive | apply keeps_execStRefuseReceive
      | apply keeps_execStDataReceive | apply keeps_execStAckReceive | apply keeps_execStStaleReceive
      | apply keeps_execStAbortReceive | apply keeps_execNeighborSolicitation | apply keeps_execIcmpEchoRequest
      | apply keeps_execRtoExpire | apply keeps_execAckDelayTimer | apply keeps_execPeerTimeout
      | apply keeps_execEpochHoldExpire | apply keeps_execRollCallReceive | apply keeps_execModeProposeReceive
      | apply keeps_execModeAckReceive | apply keeps_execChainAlertReceive | apply keeps_execChainFrameBadCrc
      | apply keeps_execProposerDeadline | apply keeps_execModeProposalDeadline | apply keeps_execStaleEpochWaybillTimeout
      | apply keeps_execMcClearId | apply keeps_execEpochWrite | apply keeps_execEpochCancel | apply keeps_execFabKeyLoad
      | apply keeps_execFabKeyClear | apply keeps_execFabWindowEnable | apply keeps_execDieTempCurfew
      | apply keeps_execDieTempClear | apply keeps_execTempWarn | apply keeps_execMainloss | apply keeps_execMainlossClear
      | apply keeps_execMainPowerReturn | apply keeps_execHeartbeatExpire | apply keeps_execHbKick
      | apply keeps_execCurfewCauseClearWrite | apply keeps_execSelftestDone | apply keeps_execPowerRequest
      | apply keeps_execPowerStageReady | apply keeps_execPowerStageTimeout | apply keeps_execPowerEntryDrainDone
      | apply keeps_execVbakRetentionLow | apply keeps_execVbakMeasure | apply keeps_execLuggageSealRequest
      | apply keeps_execLuggageSealDone | apply keeps_execLuggageResealTimer | apply keeps_execLugDataRead
      | apply keeps_execLugDataWrite | apply keeps_execRtcSecond | apply keeps_execRtcCalCommit | apply keeps_execRtcSecLoRead
      | apply keeps_execResetRise | apply keeps_execResetFall | apply keeps_execRestartFull | apply keeps_execBayEnable
      | apply keeps_execTapInternalScan | apply keeps_execTapBoundaryInstruction | apply keeps_execLedgerWriteDone
      | apply keeps_execLedgerHoldExpire | apply keeps_execLedgerHeadWrite | apply keeps_execLedgerEnable
      | apply keeps_execLedgerDisable | apply keeps_execGtrcArm | apply keeps_execGtrcForce | apply keeps_execGtrcCaptureDone
      | apply keeps_execUpstreamBlockLockLoss | apply keeps_execFeTempValidExpire | apply keeps_execBayPortAnswer
      | apply keeps_execGapRevolutionElapsed | apply keeps_execPriorityFlowControlReceive | apply keeps_execMcInSymbolLock
      | apply keeps_execReferenceClockStop | apply keeps_execBusMasterEnableClear)
    | split

end Sys2Proof.Machine
end

