-- ==== Sys2Proof/Laws/Step.lean ====
section
/-!
SUPPORT. What one step can be: a cycle with nothing waiting, or the command at the front of the queue run on the rest.
-/

namespace Sys2Proof.Machine

/-- Every way a step goes on. -/
theorem step_cases {s t : State} (h : step s = .next t) :
    (s.pending = [] ∧ t = s.tick) ∨ ∃ c r, s.pending = c :: r ∧ exec c { s with pending := r } = .next t := by
  unfold step at h
  split at h
  · exact .inl ⟨‹_›, (Host.Outcome.next.inj h).symm⟩
  · exact .inr ⟨_, _, ‹_›, h⟩

/-- A command leaves the queue, the part and the form of the stores (Keeps.lean). -/
theorem keeps_of_exec {s t : State} {c : Instr} (h : exec c s = .next t) : Keeps s t := (keeps_exec (Keeps.refl s)).1 t h

end Sys2Proof.Machine
end

