-- ==== Sys2Proof/Certificates/Slice0/Obligations.lean ====
section
/-!
DEFINITION. The statements about this machine that are to be proved, one definition each.  `Does c s P` says that the command `c`
completes on `s` with a next state of which `P` holds; `Leaves` and `LeavesRec` say what a command leaves alone (Safety.lean).
-/

open Sys2Proof Sys2Proof.Machine

/-- A step runs the command at the front of the queue. With command c at the front of the queue, a step is exec of c on the state with the rest of the queue. (00_scope.md) -/
def Obligations.StepRunsFrontCommand : Prop :=
  ∀ (c : Instr) (r : List Instr) (s : State), s.pending = c :: r → step s = exec c { s with pending := r }

/-- With no command waiting one SYSCLK cycle passes. On an empty queue and with no mode change pending, a step only adds one to the count of SYSCLK cycles and begins a new cycle of the global trace. That an idle step is a cycle is the model's choice (log entry 5). (21_bringup_selftest.md, 22_ledger_trace.md) -/
def Obligations.IdleStepPassesOneCycle : Prop :=
  ∀ s : State, s.pending = [] → s.pendMode = none →
    step s = .next { s with cycle := s.cycle + 1, gtrc := { s.gtrc with inCycle := 0 } }

/-- The state after reset has canonical stores and an empty queue. DRAM, the luggage bank and the register file of State.reset are in canonical form, its queue is empty, and its mode reads CONFIGURE. (17_memory_cache_caddy.md, 20_modes_power_time.md) -/
def Obligations.ResetIsCanonical : Prop :=
  State.reset.canonical = true ∧ State.reset.pending = [] ∧ State.reset.get R.MODE_STAT.MODE = 0

/-- Every step keeps the stores canonical. From every state whose DRAM, luggage bank and register file are in canonical form (addresses strictly rising; no listed byte equal to the zero that an unlisted one reads as), every step of every command leads to a state of which the same holds. (17_memory_cache_caddy.md, 20_modes_power_time.md, 23_register_map.md) -/
def Obligations.EveryStepKeepsCanonicalStores : Prop :=
  ∀ s t : State, s.canonical = true → step s = .next t → t.canonical = true

/-- A step takes one command off the queue and never changes the part. Whatever command a step runs, the queue afterwards is the queue without its front, and the variant and the stepping are those before. (00_scope.md) -/
def Obligations.EveryStepTakesOneCommandAndKeepsThePart : Prop :=
  ∀ s t : State, step s = .next t → t.pending = s.pending.drop 1 ∧ t.variant = s.variant ∧ t.stepping = s.stepping

/-- No step ends in a fault or a refusal. Every command has a next state in every state. (00_scope.md) -/
def Obligations.NoStepFaultsOrRefuses : Prop :=
  ∀ s : State, ∃ t, step s = .next t

/-- Each stage of Bay Link training does what R75 gives it. On a present bay: a presence sample in the hold stage shows the pin in PRESENT; releasing reset raises the pin and sends IDLE; block lock starts the echo stage with RTT 0 and 16 frames sent; a good echo of at most 280 ns keeps the largest round trip and counts; the FE_ID response with part code 0x4B33 sets UP and FE_REV; the retry begins again at step 1. (R75, R76) -/
def Obligations.LinkTrainingAdvances : Prop :=
  ∀ (n : Nat) (s : State), n < s.variant.bays → 
    (∀ (hi : Bool), (s.bay n).link.phase = .resetHold → 
      Does (.presenceSample n hi) s fun t => t.get (R.LINK_STAT.PRESENT n) = b2n (!hi) ∧ Leaves s t [R.LINK_STAT.PRESENT n] []) ∧
    ((s.bay n).link.phase = .resetHold → s.on (R.LINK_STAT.PRESENT n) = true → 
      Does (.bayResetRelease n) s fun t => (t.bay n).link.rstHigh = true ∧ (t.bay n).link.phase = .awaitLock ∧
        t.out = .blIdle n :: s.out ∧ Leaves s t [] [n]) ∧
    ((s.bay n).link.phase = .awaitLock → (s.bay n).link.rstHigh = true → 
      Does (.upstreamBlockLock n) s fun t => t.get (R.LINK_STAT.BLOCK_LOCK n) = 1 ∧ t.get (R.LINK_RTT.RTT n) = 0 ∧
        (t.bay n).link.phase = .echo ∧ (t.bay n).link.echoes = 0 ∧ t.out.length = s.out.length + 16 ∧
        Leaves s t [R.LINK_STAT.BLOCK_LOCK n, R.LINK_RTT.RTT n] [n]) ∧
    (∀ (f : UpFrame) (ps : Nat), (s.bay n).link.phase = .echo → (s.bay n).link.echoes < 15 → frameGood 0x08 f = true → ps ≤ 280000 → s.get (R.LINK_RTT.RTT n) ≤ 280000 → 
      Does (.echoResponseReceive n f ps) s fun t => t.get (R.LINK_RTT.RTT n) = max (s.get (R.LINK_RTT.RTT n)) ps ∧
        (t.bay n).link.phase = .echo ∧ (t.bay n).link.echoes = (s.bay n).link.echoes + 1 ∧
        Leaves s t [R.LINK_RTT.RTT n, R.LINK_ERR.SEQ_GAP n] [n]) ∧
    (∀ (f : UpFrame), (s.bay n).link.phase = .feId → (s.bay n).link.cfg = .feId → frameGood 0x07 f = true → bitsAt ((f.data.getD 0 0).toNat) 16 32 / 2 ^ 16 = 0x4B33 → 
      Does (.cfgRspReceive n f) s fun t => t.get (R.LINK_STAT.UP n) = 1 ∧ (t.bay n).link.phase = .up ∧
        t.get (R.LINK_STAT.FE_REV n) = bitsAt (bitsAt ((f.data.getD 0 0).toNat) 16 32) 8 8) ∧
    ((s.bay n).link.phase = .retryWait → 
      Does (.trainRetry n) s fun t => (t.bay n).link.phase = .resetHold ∧ (t.bay n).link.rstHigh = false ∧
        Leaves s t [R.LINK_STAT.UP n, R.LINK_STAT.BLOCK_LOCK n] [n])

/-- A training failure drives reset low and waits to retry. When training times out, when block lock is lost in the echo or FE_ID stage, when a round trip exceeds 280 ns and when the part code is wrong, the bay's reset pin goes low, BLOCK_LOCK clears and training waits to restart; block lock lost with the link up only clears BLOCK_LOCK. (R76, R85) -/
def Obligations.LinkTrainingFailureHoldsReset : Prop :=
  ∀ (n : Nat) (s : State), n < s.variant.bays → 
    let failed := fun (t : State) => (t.bay n).link.rstHigh = false ∧ (t.bay n).link.phase = .retryWait ∧ t.get (R.LINK_STAT.BLOCK_LOCK n) = 0
    ((s.bay n).link.phase = .awaitLock ∨ (s.bay n).link.phase = .echo ∨ (s.bay n).link.phase = .feId → 
      Does (.trainTimeout n) s fun t => failed t ∧ LeavesRec s t [R.LINK_STAT.BLOCK_LOCK n] [n]) ∧
    ((s.bay n).link.phase = .echo ∨ (s.bay n).link.phase = .feId → 
      Does (.upstreamBlockLockLoss n) s fun t => failed t ∧ LeavesRec s t [R.LINK_STAT.BLOCK_LOCK n] [n]) ∧
    ((s.bay n).link.phase = .up → Does (.upstreamBlockLockLoss n) s fun t => t = s.zero (R.LINK_STAT.BLOCK_LOCK n)) ∧
    (∀ (f : UpFrame) (ps : Nat), (s.bay n).link.phase = .echo → frameGood 0x08 f = true → 280000 < ps → 
      Does (.echoResponseReceive n f ps) s fun t => failed t) ∧
    (∀ (f : UpFrame), (s.bay n).link.phase = .feId → (s.bay n).link.cfg = .feId → frameGood 0x07 f = true → bitsAt ((f.data.getD 0 0).toNat) 16 32 / 2 ^ 16 ≠ 0x4B33 → 
      Does (.cfgRspReceive n f) s fun t => failed t)

/-- Link loss clears UP and restarts training at step 1. While the link is up, 8 sync errors in 1 ms or 25 ms without STATUS end it: UP and BLOCK_LOCK read 0, the reset pin is low and training stands at its first step. With the link down nothing happens. (R85) -/
def Obligations.LinkLossRestartsTraining : Prop :=
  ∀ (n : Nat) (s : State), n < s.variant.bays → 
    let lost := fun (t : State) => t.get (R.LINK_STAT.UP n) = 0 ∧ t.get (R.LINK_STAT.BLOCK_LOCK n) = 0 ∧ (t.bay n).link.rstHigh = false ∧ (t.bay n).link.phase = .resetHold ∧ (t.bay n).link.alerts = 0
    (s.on (R.LINK_STAT.UP n) = true → Does (.linkLossSyncErrors n) s fun t => lost t) ∧
    (s.on (R.LINK_STAT.UP n) = true → Does (.linkLossStatusTimeout n) s fun t => lost t) ∧
    (s.on (R.LINK_STAT.UP n) = false → Does (.linkLossSyncErrors n) s (· = s)) ∧
    (s.on (R.LINK_STAT.UP n) = false → Does (.linkLossStatusTimeout n) s (· = s))

/-- Bay reset restarts training; a withdrawal is taken in EMPTY to RECOVERY. BAY_CTL.RESET in LINKING, BRINGUP or FAULT leaves the bay in training step 1 with UP = 0. A withdrawal outside EMPTY to RECOVERY, or in CURFEW, only sets WD_REJ. An accepted withdrawal with a command in flight leaves the bay in DRAINING with WITHDRAW set and its sequencer told. When the drain time ends in DRAINING with no disc mounted and no gate run, the bay's power domain is OFF. (R77, R86, R589) -/
def Obligations.BayHostResetAndWithdrawal : Prop :=
  ∀ (n : Nat) (s : State), n < s.variant.bays → 
    (s.bayState n = BS.LINKING ∨ s.bayState n = BS.BRINGUP ∨ s.bayState n = BS.FAULT → 
      Does (.bayHostReset n) s fun t => t.get (R.LINK_STAT.UP n) = 0 ∧ t.get (R.LINK_STAT.BLOCK_LOCK n) = 0 ∧
        (t.bay n).link.phase = .resetHold ∧ (t.bay n).link.rstHigh = false) ∧
    (s.bayState n < BS.EMPTY ∨ BS.RECOVERY < s.bayState n ∨ s.mode = 4 → 
      Does (.linkWithdraw n) s fun t => t = s.raise (R.LINK_STAT.WD_REJ n)) ∧
    (s.bayState n = BS.READY → s.mode = 1 → (s.bay n).cal = {} → (s.bay n).sched.seg = none → (s.bay n).waiting = [] → (s.bay n).tags ≠ [] → 
      Does (.linkWithdraw n) s fun t => t.bayState n = BS.DRAINING ∧ t.get (R.STATE.PREV n) = BS.READY ∧
        t.get (R.LINK_CTL.WITHDRAW n) = 1 ∧ (t.bay n).intr = true ∧ (t.bay n).attn = true) ∧
    (s.bayState n = BS.DRAINING → (s.bay n).mounted = false → (s.bay n).writing.gate = none → 
      Does (.drainTimeout n) s fun t => t.get (R.PWR_STAT.STATE n) = 0 ∧ t.get (R.PWR_REQ.REQ n) = 0 ∧ t.get (R.PWR_STAT.RDY n) = 0)

/-- Front-end access, STATUS, ALERT and laser-off. An FE_ACC.GO with the link up sends the access and shows GO; without a link it sets ERR at once and changes nothing else; a response gives FE_DATA and clears GO; 100 us without one clear GO and set ERR. A good STATUS frame gives the temperature and its VALID, the laser-off latch and the alert bits; a good ALERT frame whose one bit is DS_CRC_BURST joins FE_ALERT; the alert pin's timeout asks for the bits from STATUS; an expired temperature is no longer VALID; LOFF blocks go to every bay while any CURFEW cause holds. (R68, R80, R81, R82, R84) -/
def Obligations.FrontEndAccessAndStatus : Prop :=
  ∀ (n : Nat) (s : State), n < s.variant.bays → 
    (s.on (R.FE_ACC.GO n) = false → s.on (R.LINK_STAT.UP n) = true → s.on (R.FE_ACC.WRITE n) = false → 
      Does (.feAccessGo n) s fun t => t.get (R.FE_ACC.GO n) = 1 ∧ (t.bay n).link.cfg = .hostAccess ∧
        Leaves s t [R.FE_ACC.GO n] [n]) ∧
    (s.on (R.FE_ACC.GO n) = false → s.on (R.LINK_STAT.UP n) = false → 
      Does (.feAccessGo n) s fun t => t = s.raise (R.FE_ACC.ERR n)) ∧
    (∀ (f : UpFrame), (s.bay n).link.phase = .up → (s.bay n).link.cfg = .hostAccess → frameGood 0x07 f = true → 
      Does (.cfgRspReceive n f) s fun t =>
        t.get (R.FE_DATA.DATA n) = bitsAt ((f.data.getD 0 0).toNat) 16 32 ∧ t.get (R.FE_ACC.GO n) = 0 ∧ (t.bay n).link.cfg = .none ∧
        Leaves s t [R.FE_DATA.DATA n, R.FE_ACC.GO n, R.LINK_ERR.SEQ_GAP n] [n]) ∧
    (s.on (R.FE_ACC.GO n) = true → 
      Does (.feAccessTimeout n) s fun t => t.get (R.FE_ACC.GO n) = 0 ∧ t.get (R.FE_ACC.ERR n) = 1 ∧ (t.bay n).link.cfg = .none ∧
        Leaves s t [R.FE_ACC.GO n, R.FE_ACC.ERR n] [n]) ∧
    (∀ (f : UpFrame), s.on (R.LINK_STAT.UP n) = true → frameGood 0x05 f = true → (s.bay n).link.alertRead = false → 
      Does (.statusFrameReceive n f) s fun t =>
        t.get (R.FE_TEMP.VALID n) = 1 ∧ t.get (R.FE_TEMP.TEMP n) = UpFrame16 f 0 ∧ t.get (R.LINK_STAT.LOFF n) = UpFrame16 f 3 % 2 ∧
        (t.bay n).link.alerts = UpFrame16 f 2 % 4096 ∧
        Leaves s t [R.FE_TEMP.VALID n, R.FE_TEMP.TEMP n, R.LINK_STAT.LOFF n, R.LINK_ERR.SEQ_GAP n] [n]) ∧
    (∀ (f : UpFrame), s.on (R.LINK_STAT.UP n) = true → frameGood 0x06 f = true → f.arg % 4096 = 0x400 → 
      Does (.alertFrameReceive n f) s fun t =>
        t.get (R.FE_ALERT.ALERT n) = (s.get (R.FE_ALERT.ALERT n) ||| 0x400) % 2 ^ (R.FE_ALERT.ALERT n).width ∧
        (t.bay n).link.alerts = ((s.bay n).link.alerts ||| 0x400) ∧ LeavesRec s t [R.FE_ALERT.ALERT n, R.LINK_ERR.SEQ_GAP n] [n]) ∧
    (s.on (R.LINK_STAT.UP n) = true → 
      Does (.alertPinTimeout n) s fun t => (t.bay n).link.alertRead = true ∧ Leaves s t [] [n]) ∧
    (Does (.feTempValidExpire n) s fun t => t = s.zero (R.FE_TEMP.VALID n)) ∧
    (s.on R.CURFEW_CAUSE.CAUSE = true → 
      Does .loffRepeat s fun t => t.out.length = s.out.length + s.variant.bays ∧ Leaves s t [] [])

/-- A mode command to a stepper at rest takes its mode. For a stepper of a present bay that stands, as the serving sequencer gives the command: HOLD leaves mode HOLD, FOLLOW mode FOLLOW, OFF mode OFF with HOMED and GO clear, HOME mode HOME on its way inward, PARK of a homed stepper mode PARK, and GO of a homed stepper to another place within its limits mode MOVE with GO set, ARRIVED clear and a planned move. GO of a stepper that is not homed, and any of the host's commands where the bay's state and mode do not allow it, only set WR_REJ. (R207, R208, R213, R214) -/
def Obligations.StepperModeCommands : Prop :=
  ∀ (n : Nat) (sa : Bool) (s : State), n < s.variant.bays → 
    (s.stepper sa n = {} → (s.bay n).enc.stalled = false → 
      Does (.stepperHold n sa false) s fun t => t.get (fMode sa n) = 1 ∧ t.get (fGo sa n) = 0) ∧
    (s.stepper sa n = {} → (s.bay n).enc.stalled = false → s.get (fMode sa n) = 1 → 
      Does (.stepperFollow n sa false) s fun t => t.get (fMode sa n) = 3 ∧ t.get (fGo sa n) = 0) ∧
    (s.stepper sa n = {} → (s.bay n).enc.stalled = false → 
      Does (.stepperOff n sa false) s fun t => t.get (fMode sa n) = 0 ∧ t.get (fHomed sa n) = 0 ∧ t.get (fGo sa n) = 0) ∧
    (s.stepper sa n = {} → (s.bay n).enc.stalled = false → 
      Does (.stepperHome n sa false) s fun t => t.get (fMode sa n) = 4 ∧ t.get (fGo sa n) = 0 ∧ (t.stepper sa n).home = .inward ∧ (t.stepper sa n).plan.isSome = true) ∧
    (s.stepper sa n = {} → (s.bay n).enc.stalled = false → s.on (fHomed sa n) = true → s.stepSettle sa n ≠ 0 → 
      Does (.stepperPark n sa) s fun t => t.get (fMode sa n) = 5 ∧ t.get (fGo sa n) = 0 ∧ t.get (fArrived sa n) = 0) ∧
    (s.stepper sa n = {} → (s.bay n).enc.stalled = false → s.on (fHomed sa n) = true → s.get (fMode sa n) = 1 → s.stepMin sa n ≤ posValue sa (s.get (fPos sa n)) → posValue sa (s.get (fPos sa n)) ≤ s.stepMax sa n → (planMove (s.on (fProf sa n)) (s.stepVmax sa n) (s.stepAcc sa n) (s.stepJerk sa n) 0 (65536 * posValue sa (s.get (fPos sa n)))).total ≠ 0 → 
      Does (.stepperGo n sa false) s fun t => t.get (fMode sa n) = 2 ∧ t.get (fGo sa n) = 1 ∧ t.get (fArrived sa n) = 0 ∧ (t.stepper sa n).plan.isSome = true) ∧
    (s.on (fHomed sa n) = false → Does (.stepperGo n sa false) s fun t => t = s.raise (R.STEP_STAT.WR_REJ n)) ∧
    (s.stepHostOk n = false → Does (.stepperGo n sa true) s fun t => t = s.raise (R.STEP_STAT.WR_REJ n)) ∧
    (s.stepHostOk n = false → Does (.stepperHold n sa true) s fun t => t = s.raise (R.STEP_STAT.WR_REJ n))

/-- Planner ticks, the ends of moves and the encoder. With no acquisition, layer jump or parking that waits for the move: once SETTLE has passed the stepper has ARRIVED, GO is clear and it holds; the first homing hold ends in the outward motion; a planner tick of a bay whose steppers stand shows their positions and uses up the samples of slot 4's mean; the end of a stall wait clears it; clearing an encoder fault starts decoding afresh; a good ENCODER frame without a fault gives the decoded count, and a corrupt one counts in CRC_UP. (R209, R212, R213, R217, R218) -/
def Obligations.StepperMotionEvents : Prop :=
  ∀ (n : Nat) (s : State), n < s.variant.bays → 
    (∀ (sa : Bool), (s.bay n).focus = {} → s.bayState n ≠ BS.PARKING → (s.stepper sa n).settling = true → (s.stepper sa n).toFollow = false → 
      Does (.stepperArrived n sa) s fun t => t.get (fArrived sa n) = 1 ∧ t.get (fGo sa n) = 0 ∧ t.get (fMode sa n) = 1 ∧ (t.stepper sa n).settling = false ∧ Leaves s t [fArrived sa n, fGo sa n, fMode sa n] [n]) ∧
    (∀ (sa : Bool), (s.bay n).focus = {} → s.bayState n ≠ BS.PARKING → (s.stepper sa n).home = .holdIn → 
      Does (.homeHoldEnd n sa) s fun t => (t.stepper sa n).home = .outward ∧ (t.stepper sa n).plan.isSome = true ∧ Leaves s t [] [n]) ∧
    ((s.bay n).focus = {} → s.bayState n ≠ BS.PARKING → (s.bay n).sled = {} → (s.bay n).sa = {} → s.get (R.STEP_CTL.SLED_MODE n) = 1 → s.get (R.STEP_CTL.SA_MODE n) = 1 → 
      Does (.plannerTick n) s fun t => t.get (R.SLED_POS.CMD n) = 0 ∧ t.get (R.SA_POS.CMD n) = 0 ∧ (t.bay n).servo.numU = 0 ∧ (t.bay n).servo.sumU = 0) ∧
    ((s.bay n).enc.stalled = true → (s.bay n).sled.resume = .none → 
      Does (.stallResync n) s fun t => (t.bay n).enc.stalled = false ∧ (t.bay n).enc.devRun = 0) ∧
    (s.on (R.STEP_STAT.ENC_FAULT n) = true → 
      Does (.encFaultClear n) s fun t => t.get (R.STEP_STAT.ENC_FAULT n) = 0 ∧ (t.bay n).enc.last = none ∧ (t.bay n).enc.illegal = [] ∧ Leaves s t [R.STEP_STAT.ENC_FAULT n, R.ENC_POS.COUNT n] [n]) ∧
    (∀ (f : UpFrame) (r : EncRun), s.on (R.STEP_STAT.ENC_FAULT n) = false → s.on (R.STEP_STAT.SLED_HOMED n) = false → (s.bay n).sled.home = .off → frameGood 0x04 f = true → r = encFrame (s.on (R.STEP_CTL.ENC_DIR n)) f ⟨(s.bay n).enc.last, s.getS (R.ENC_POS.COUNT n), (s.bay n).enc.illegal, 0, (s.bay n).enc.still, false⟩ → r.fault = false → r.fresh = 0 → 
      Does (.encoderFrameReceive n f) s fun t => t.get (R.ENC_POS.COUNT n) = ofInt (R.ENC_POS.COUNT n).width (clampInt (-524288) 524287 r.count) ∧
        (t.bay n).enc.last = r.last ∧ (t.bay n).enc.still = r.still) ∧
    (∀ (f : UpFrame), frameGood 0x04 f = false → 
      Does (.encoderFrameReceive n f) s fun t => t.get (R.LINK_ERR.CRC_UP n) = satAdd (R.LINK_ERR.CRC_UP n).width (s.get (R.LINK_ERR.CRC_UP n)) 1 ∧ Leaves s t [R.LINK_ERR.CRC_UP n] [n]) ∧
    (s.get (R.SPIN_STAT.PHASE n) = 6 → s.bayState n ≠ BS.PARKING → 
      Does (.coastStoppedTimeout n) s fun t => t.get (R.SPIN_STAT.STOPPED n) = 1 ∧ t.get (R.SPIN_STAT.PHASE n) = 0 ∧ Leaves s t [R.SPIN_STAT.STOPPED n, R.SPIN_STAT.PHASE n] [])

/-- Timeline entries fire as their class allows; stale journal entries are released. An armed entry with revolutions to let pass stays armed with one fewer; a write entry that its commit wedge did not take counts in WITHHELD and is gone; an entry of a class that may not fire is consumed without effect; one that fires is reported to the serving sequencer. A new ADC rate waits for the frame boundary and code 3 is not taken. JOURNAL_RELEASE frees the entry INDEX if it is stale and otherwise sets ERR; the release of all leaves no stale entry. (R98, R99, R232, R317) -/
def Obligations.TimelineEventsAndJournal : Prop :=
  ∀ (n : Nat) (s : State), n < s.variant.bays → 
    (∀ (e : TimelineEntry) (now : Nat) (a : EventAction), s.on (R.ANG_STAT.ALIGNED n) = false → (s.bay n).tracker.events = [e] → 0 < e.revs → 
      Does (.angleEventFire n 0 now a) s fun t => (t.bay n).tracker.events = [{ e with revs := e.revs - 1 }] ∧ Leaves s t [] [n]) ∧
    (∀ (e : TimelineEntry) (now : Nat) (a : EventAction), s.on (R.ANG_STAT.ALIGNED n) = false → (s.bay n).tracker.events = [e] → e.revs = 0 → e.cls = 2 → 
      Does (.angleEventFire n 0 now a) s fun t => (t.bay n).tracker.events = [] ∧ t.get (R.ANG_WR.WITHHELD n) = satAdd (R.ANG_WR.WITHHELD n).width (s.get (R.ANG_WR.WITHHELD n)) 1 ∧ Leaves s t [R.ANG_WR.WITHHELD n] [n]) ∧
    (∀ (e : TimelineEntry) (now : Nat) (a : EventAction), s.on (R.ANG_STAT.ALIGNED n) = false → (s.bay n).tracker.events = [e] → e.revs = 0 → e.cls < 2 → s.get (R.ANG_STAT.STATE n) < 2 → 
      Does (.angleEventFire n 0 now a) s fun t => (t.bay n).tracker.events = [] ∧ (t.bay n).reports = (s.bay n).reports ∧ Leaves s t [] [n]) ∧
    (∀ (e : TimelineEntry) (now : Nat), s.on (R.ANG_STAT.ALIGNED n) = false → (s.bay n).tracker.events = [e] → e.revs = 0 → e.cls = 0 → s.get (R.ANG_STAT.STATE n) = 2 → s.get R.GTRC_CTL.BAY ≠ n → 
      Does (.angleEventFire n 0 now .other) s fun t => (t.bay n).tracker.events = [] ∧ (t.bay n).reports = (s.bay n).reports ++ [e] ∧ Leaves s t [] [n]) ∧
    (∀ (r : Nat), r < 3 → Does (.adcRateWrite n r) s fun t => (t.bay n).reading.adcNew = some r ∧ Leaves s t [] [n]) ∧
    (Does (.adcRateWrite n 3) s (· = s)) ∧
    (∀ (f : UpFrame) (v : Nat), frameGood 0x01 f = true → (s.bay n).link.upSeq = [] → (s.bay n).reading = { adcNew := some v } → 
      Does (.rfFrameReceive n f) s fun t => t.get (R.LINK_CTL.ADC_RATE n) = v % 4 ∧ (t.bay n).reading.adcNew = none ∧ t.get (R.LINK_ERR.CRC_UP n) = s.get (R.LINK_ERR.CRC_UP n)) ∧
    (∀ (f : UpFrame), frameGood 0x02 f = true → 
      Does (.servoFrameReceive n f) s fun t => (t.bay n).focus.prevFe = toInt 16 (UpFrame16 f 0) ∧ (t.bay n).focus.prevSum = toInt 16 (UpFrame16 f 3)) ∧
    (∀ (f : UpFrame), frameGood 0x02 f = false → 
      Does (.servoFrameReceive n f) s fun t => t.get (R.LINK_ERR.CRC_UP n) = satAdd (R.LINK_ERR.CRC_UP n).width (s.get (R.LINK_ERR.CRC_UP n)) 1 ∧ Leaves s t [R.LINK_ERR.CRC_UP n] [n]) ∧
    (∀ (e : JEntry), Sparse.rising (s.bay n).writing.journal = true → s.jEntry n (s.get (R.WJ_RELEASE.INDEX n)) = some e → e.stale = true → 
      Does (.journalRelease n) s fun t => t.jEntry n (s.get (R.WJ_RELEASE.INDEX n)) = none) ∧
    (s.jEntry n (s.get (R.WJ_RELEASE.INDEX n)) = none → Does (.journalRelease n) s fun t => t = s.raise (R.WJ_RELEASE.ERR n)) ∧
    (∀ (i : Nat) (e : JEntry), (s.bay n).writing.journal = [(i, e)] → e.stale = true → 
      Does (.journalReleaseAll n) s fun t => t.jEntry n i = none)

/-- Spin-up steps, failed starts and the ends of braking. The end of the alignment begins open-loop acceleration at angle 0; a handover or speed step that takes too long counts START_FAIL and brakes with the zero vector before another try, while tries are left; the last zero crossing of braking goes to COAST; a new DIR is taken at rest, refused and counted while the spindle is driven, and is nothing when it is the present one; a regulation that does not settle sends the bay to FAULT. (R183, R189, R190, R192, R193) -/
def Obligations.SpindleStartAndStop : Prop :=
  ∀ (n : Nat) (s : State), n < s.variant.bays → 
    (s.get (R.SPIN_STAT.PHASE n) = 1 → 
      Does (.spinAlignEnd n) s fun t => t.get (R.SPIN_STAT.PHASE n) = 2 ∧ (t.bay n).spin.step = 2 ∧ (t.bay n).spin.forced = 0 ∧ (t.bay n).spin.theta = 0 ∧ Leaves s t [R.SPIN_STAT.PHASE n] [n]) ∧
    (s.get (R.SPIN_STAT.PHASE n) = 2 → (s.bay n).spin.fails + 1 < s.acting (R.SPIN_START.TRIES n) 1 8 → 
      Does (.spinHandoverTimeout n) s fun t => t.get (R.SPIN_STAT.PHASE n) = 5 ∧ t.get (R.SPIN_COUNT.START_FAIL n) = satAdd (R.SPIN_COUNT.START_FAIL n).width (s.get (R.SPIN_COUNT.START_FAIL n)) 1 ∧ (t.bay n).spin.wanted = true ∧ (t.bay n).spin.fails = (s.bay n).spin.fails + 1) ∧
    ((s.bay n).spin.step = 4 → (s.bay n).spin.fails + 1 < s.acting (R.SPIN_START.TRIES n) 1 8 → 
      Does (.spinSpeedStepTimeout n) s fun t => t.get (R.SPIN_STAT.PHASE n) = 5 ∧ (t.bay n).spin.wanted = true ∧ (t.bay n).spin.fails = (s.bay n).spin.fails + 1) ∧
    (s.get (R.SPIN_STAT.PHASE n) = 5 → (s.bay n).spin.wanted = false → 
      Does (.zeroCrossingTimeout n) s fun t => t.get (R.SPIN_STAT.PHASE n) = 6 ∧ t.get (R.SPIN_STAT.AT_SPEED n) = 0 ∧ t.get (R.SPIN_STAT.WR_OK n) = 0 ∧ (t.bay n).spin.lowCoast = true ∧ (t.bay n).spin.stop = none) ∧
    (s.get (R.SPIN_STAT.PHASE n) = 0 → s.get (R.SPIN_CTL.DIR n) = 0 → 
      Does (.spinDirWrite n 1) s fun t => t = s.put (R.SPIN_CTL.DIR n) 1) ∧
    (s.get (R.SPIN_STAT.PHASE n) = 3 → s.get (R.SPIN_CTL.DIR n) = 0 → 
      Does (.spinDirWrite n 1) s fun t => t.get (R.SPIN_CTL.DIR n) = 0 ∧ t.get (R.SPIN_STAT.REV_REJ n) = 1 ∧ t.get (R.SPIN_COUNT.REV_REF n) = satAdd (R.SPIN_COUNT.REV_REF n).width (s.get (R.SPIN_COUNT.REV_REF n)) 1 ∧ LeavesRec s t [R.SPIN_STAT.REV_REJ n, R.SPIN_COUNT.REV_REF n] []) ∧
    (∀ (d : Nat), d % 2 = s.get (R.SPIN_CTL.DIR n) → Does (.spinDirWrite n d) s (· = s)) ∧
    (s.get (R.SPIN_STAT.PHASE n) = 3 → s.bayState n = BS.READY → s.bay n = {} → 
      Does (.speedRegulationTimeout n) s fun t => t.get (R.STATE.STATE n) = BS.FAULT ∧ t.get (R.STATE.PREV n) = BS.READY) ∧
    (∀ (f : UpFrame) (tpwm now theta emf : Nat), s.on (R.LINK_STAT.UP n) = true → s.get (R.SPIN_STAT.PHASE n) = 1 → frameGood 0x03 f = true → 
      Does (.motorFrameReceive n f tpwm now theta emf) s fun t => (t.bay n).spin.period = f.arg ∧ (t.bay n).spin.lastWin = UpFrame16 f 3 ∧ (t.bay n).spin.vbus = UpFrame16 f 2) ∧
    (∀ (tpwm theta emf : Nat), s.get (R.SPIN_STAT.PHASE n) = 1 → 
      Does (.motorFrameMissing n tpwm theta emf) s fun t => (t.bay n).spin.period = (s.bay n).spin.period + 1)

/-- Wedges, teeth, bridges and the time limit of acquisition. During acquisition a wedge with good parity on the expected layer becomes the candidate: the counter is aligned, its number is LAST_W with GOOD_RUN 1 and MISS_RUN 0, and the next wedge is expected. A detection that is neither searched for nor expected counts as FALSE. At a decision the wedge expected next advances; a detection taken accepts the wedge, none counts it MISSED. A first tooth while SEEKING is remembered; a tooth that comes too soon counts SHORT; a tooth that fails to come is synthesised and counted. The time limit ends acquisition and drops its candidate; a bridge ends with MISS_RUN 0. (R89, R92, R93, R94, R95, R96, R97) -/
def Obligations.AngleTrackerEvents : Prop :=
  ∀ (n : Nat) (s : State), n < s.variant.bays → 
    (∀ (tau bits : Nat) (w : List (Int × Int)), s.on (R.ANG_STAT.ACQ n) = true → s.on (R.ANG_STAT.ALIGNED n) = false → (s.bay n).focus.probing = false → (decodeWedge bits).parity = true → (decodeWedge bits).layer = s.get (R.ANG_STAT.LAYER n) → 
      Does (.wedgeDetection n tau bits w) s fun t => t.get (R.ANG_STAT.ALIGNED n) = 1 ∧ (t.bay n).tracker.candidate = true ∧ t.get (R.ANG_STAT.GOOD_RUN n) = 1 ∧ t.get (R.ANG_STAT.MISS_RUN n) = 0 ∧
        t.get (R.ANG_STAT.LAST_W n) = (decodeWedge bits).wedge % 1024 ∧ (t.bay n).tracker.expectW = ((decodeWedge bits).wedge + 1) % 1024) ∧
    (∀ (tau bits : Nat) (w : List (Int × Int)), s.on (R.ANG_STAT.ACQ n) = false → s.on (R.ANG_STAT.ALIGNED n) = false → (s.bay n).focus.probing = false → 
      Does (.wedgeDetection n tau bits w) s fun t => t.get (R.ANG_MISS.FALSE n) = satAdd (R.ANG_MISS.FALSE n).width (s.get (R.ANG_MISS.FALSE n)) 1 ∧ Leaves s t [R.ANG_MISS.FALSE n] [n]) ∧
    (∀ (k : Tracker) (now : Nat), s.on (R.ANG_STAT.ALIGNED n) = true → s.bay n = { tracker := k } → k.hit = none → k.events = [] → 
      Does (.wedgeDecision n now) s fun t => (t.bay n).tracker.expectW = (k.expectW + 1) % 1024 ∧ t.get (R.ANG_MISS.MISSED n) = satAdd (R.ANG_MISS.MISSED n).width (s.get (R.ANG_MISS.MISSED n)) 1) ∧
    (∀ (k : Tracker) (h : Detection) (now : Nat), s.on (R.ANG_STAT.ALIGNED n) = true → s.bay n = { tracker := k } → k.hit = some h → k.events = [] → k.expectW < 1024 → 
      Does (.wedgeDecision n now) s fun t => (t.bay n).tracker.expectW = (k.expectW + 1) % 1024 ∧ t.get (R.ANG_STAT.LAST_W n) = k.expectW ∧ t.get (R.ANG_STAT.MISS_RUN n) = 0) ∧
    (∀ (tau : Nat) (a : Bool), s.get (R.ANG_STAT.STATE n) = 0 → (s.bay n).tracker.seekTeeth = 0 → s.get (R.SPIN_STAT.PHASE n) ≠ 2 → 
      Does (.toothReport n tau a) s fun t => (t.bay n).tracker.seekTeeth = 1 ∧ (t.bay n).tracker.toothAt = tau % 2 ^ 38 ∧ Leaves s t [] [n]) ∧
    (∀ (tau : Nat) (a : Bool), s.get (R.ANG_STAT.STATE n) = 1 → s.get (R.SPIN_STAT.PHASE n) ≠ 2 → toothClass (s.get (R.ANG_RATE.RATE n)) (elapsed (s.bay n).tracker.toothAt tau) = 0 → 
      Does (.toothReport n tau a) s fun t => t.get (R.ANG_TOOTH.SHORT n) = satAdd (R.ANG_TOOTH.SHORT n).width (s.get (R.ANG_TOOTH.SHORT n)) 1 ∧ Leaves s t [R.ANG_TOOTH.SHORT n] [n]) ∧
    (∀ (now : Nat), s.get (R.ANG_STAT.STATE n) = 1 → s.on (R.ANG_STAT.ALIGNED n) = false → (s.bay n).tracker.synth < 3 → 
      Does (.toothSynthesis n now) s fun t => t.get (R.ANG_TOOTH.SYNTH n) = satAdd (R.ANG_TOOTH.SYNTH n).width (s.get (R.ANG_TOOTH.SYNTH n)) 1 ∧ (t.bay n).tracker.synth = (s.bay n).tracker.synth + 1 ∧ Leaves s t [R.ANG_TOOTH.SYNTH n, R.ANG_NOW.ANGLE n] [n]) ∧
    (s.on (R.ANG_STAT.ACQ n) = true → (s.bay n).tracker.candidate = true → s.bayState n ≠ BS.FOCUSING → 
      Does (.acqTimeout n) s fun t => t.get (R.ANG_STAT.ACQ n) = 0 ∧ t.get (R.ANG_STAT.ALIGNED n) = 0 ∧ (t.bay n).tracker.candidate = false) ∧
    (s.on (R.ANG_STAT.BRIDGE n) = true → 
      Does (.bridgeExpire n) s fun t => t.get (R.ANG_STAT.BRIDGE n) = 0 ∧ t.get (R.ANG_STAT.MISS_RUN n) = 0 ∧ (t.bay n).tracker.bridge = 0 ∧ Leaves s t [R.ANG_STAT.BRIDGE n, R.ANG_STAT.MISS_RUN n] [n])

/-- Records, enables, modes and manual outputs of the servo engine. A commit of a slot whose shadow record passes its checks sets the slot's COMMIT bit; its copy makes the shadow record the active one, clears COMMIT and sets REC_VALID. Where the bay's state and mode allow it, writing 0 to EN or AUTO clears every bit and a manual output is taken as written; elsewhere the write only sets EN_REJ. A measured sample of an enabled slot in manual takes the manual output within the record's limits; a disabled slot's sample is dropped. Clearing the repetitive table empties it; a defect hold that lasts too long ends with DEF_OVR set and the sequencer told. (R114, R115, R116, R119, R122, R124) -/
def Obligations.ServoEngineCommands : Prop :=
  ∀ (n : Nat) (s : State), n < s.variant.bays → 
    (∀ (k : Nat), k < 8 → recFailure (s.shadowRec n k) = 0 → 
      Does (.loopCommit n (2 ^ k)) s fun t => t.bitOf (R.SRV_CTL.COMMIT n) k = true ∧ Leaves s t [R.SRV_CTL.COMMIT n] []) ∧
    (∀ (k : Nat), k < 8 → s.bitOf (R.SRV_CTL.COMMIT n) k = true → (s.bay n).servo.infuse = none → 
      Does (.loopCommitApply n k) s fun t => t.bitOf (R.SRV_CTL.COMMIT n) k = false ∧ t.bitOf (R.SRV_STAT.REC_VALID n) k = true ∧ Sparse.get [] (t.bay n).servo.active k = s.shadowRec n k ∧ Leaves s t [R.SRV_CTL.COMMIT n, R.SRV_STAT.REC_VALID n] [n]) ∧
    (s.loopWriteAllowed n = true → Does (.srvEnWrite n 0) s fun t => t.get (R.SRV_CTL.EN n) = 0) ∧
    (s.loopWriteAllowed n = true → Does (.srvAutoWrite n 0) s fun t => t.get (R.SRV_CTL.AUTO n) = 0) ∧
    (∀ (k v : Nat), s.loopWriteAllowed n = true → k < 8 → Does (.srvManWrite n k v) s fun t => t = s.put (R.SRV_MAN.Q n k) v) ∧
    (∀ (m : Nat), s.loopWriteAllowed n = false → Does (.srvEnWrite n m) s fun t => t = s.raise (R.SRV_STAT.EN_REJ n)) ∧
    (∀ (m : Nat), s.loopWriteAllowed n = false → Does (.srvAutoWrite n m) s fun t => t = s.raise (R.SRV_STAT.EN_REJ n)) ∧
    (∀ (k v : Nat), s.loopWriteAllowed n = false → Does (.srvManWrite n k v) s fun t => t = s.raise (R.SRV_STAT.EN_REJ n)) ∧
    (∀ (k : Nat) (x : Sample), (s.bay n).servo.queue = [(k, [x])] → x.input.isSome = true → (s.bay n).servo.infuse = none → (s.bay n).servo.defFlag = false → k < 8 → s.bitOf (R.SRV_CTL.EN n) k = true → s.bitOf (R.SRV_CTL.AUTO n) k = false → s.on (R.SRV_STAT.DEF_HOLD n) = false → s.on (R.TRC_STAT.ACTIVE n) = false → 
      Does (.servoUpdate n k) s fun t => (t.loop n k).lastU = clampInt (recInt (s.activeRec n k) 116) (recInt (s.activeRec n k) 112) (s.getS (R.SRV_MAN.Q n k)) ∧ (t.bay n).servo.queue = []) ∧
    (∀ (k : Nat) (x : Sample), (s.bay n).servo.queue = [(k, [x])] → s.bitOf (R.SRV_CTL.EN n) k = false → 
      Does (.servoUpdate n k) s fun t => (t.bay n).servo.queue = [] ∧ Leaves s t [] [n]) ∧
    (Does (.repTableClear n) s fun t => (∀ k ∈ List.range 1024, t.get (R.REP.DATA n k) = 0) ∧ t.get (R.SRV_REP_CTL.CLEAR n) = 0) ∧
    (s.on (R.SRV_STAT.DEF_HOLD n) = true → 
      Does (.defectHoldOverrun n) s fun t => t.get (R.SRV_STAT.DEF_HOLD n) = 0 ∧ t.get (R.SRV_STAT.DEF_OVR n) = 1 ∧ (t.bay n).intr = true ∧ LeavesRec s t [R.SRV_STAT.DEF_HOLD n, R.SRV_STAT.DEF_OVR n] [n])

/-- Servo trace and Infusion start and stop as asked. Arming a capture while no Infusion records makes it active with no record and no trigger; FORCE is taken while a capture is active; an Infusion that is allowed, on an enabled loop, with its registers in range, is busy at step 0 and starts its PRBS register at all ones; otherwise START only sets REJ; STOP asks a running Infusion to end with cause 1. (R125, R126, R127, R129, R130) -/
def Obligations.ServoTraceAndInfusion : Prop :=
  ∀ (n : Nat) (s : State), n < s.variant.bays → 
    (s.infuseTraces n = false → 
      Does (.traceArm n) s fun t => t.get (R.TRC_STAT.ACTIVE n) = 1 ∧ t.get (R.TRC_STAT.TRIGGERED n) = 0 ∧ t.get (R.TRC_STAT.DONE n) = 0 ∧ t.get (R.TRC_ARM.TRIG_MASK n) = 0 ∧ (t.bay n).servo.trc = [] ∧ Leaves s t [R.TRC_STAT.ACTIVE n, R.TRC_STAT.TRIGGERED n, R.TRC_STAT.DONE n, R.TRC_ARM.TRIG_MASK n] [n]) ∧
    (s.on (R.TRC_STAT.ACTIVE n) = true → Does (.traceForce n) s fun t => t = s.raise (R.TRC_ARM.FORCE n)) ∧
    (s.infuseAllowed n = true → s.bitOf (R.SRV_CTL.EN n) (s.get (R.INF_CTL.LOOP n)) = true → s.on (R.INF_STAT.BUSY n) = false → s.infuseRanges n = true → s.get (R.INF_CTL.MODE n) = 0 → 
      Does (.infusionStart n) s fun t => t.get (R.INF_STAT.BUSY n) = 1 ∧ t.get (R.INF_STAT.STEP n) = 0 ∧ t.get (R.INF_STAT.SKIPPED n) = 0 ∧ ((t.bay n).servo.infuse.map (·.lfsr)) = some (2 ^ s.acting (R.INF_CTL.PRBS_N n) 7 15 - 1) ∧ Leaves s t [R.INF_STAT.BUSY n, R.INF_STAT.STEP n, R.INF_STAT.SKIPPED n] [n]) ∧
    (s.infuseAllowed n = false → Does (.infusionStart n) s fun t => t = s.raise (R.INF_STAT.REJ n)) ∧
    (∀ (f : Infuse), s.on (R.INF_STAT.BUSY n) = true → (s.bay n).servo.infuse = some f → f.abort = none → 
      Does (.infusionStop n) s fun t => (t.bay n).servo.infuse = some { f with abort := some 1 } ∧ Leaves s t [] [n])

/-- Focus acquisition goes from stage to stage, and a failed stage starts the next attempt. The end of a sweep that found a curve begins the capture; a capture that closes no loop counts an attempt and sweeps again; the settle time leads to the layer probe; a probe or a closing of tracking that fails counts an attempt and probes again while attempts are left; RECOVERY that takes too long goes to FOCUSING on the layer to return to with no attempt counted. (R151, R152, R153, R163) -/
def Obligations.FocusAcquisitionStages : Prop :=
  ∀ (n : Nat) (s : State), n < s.variant.bays → 
    ((s.bay n).focus.acq = .sweep → 0 < (s.bay n).focus.curves → 
      Does (.focusSweepEnd n) s fun t => (t.bay n).focus.acq = .capture ∧ (t.bay n).focus.ramp = 0 ∧ t.get (R.FT_STAT.FOCUS n) = 1) ∧
    ((s.bay n).focus.acq = .capture → (s.bay n).focus.fails + 1 < s.acting (R.FOC_ACQ.TRIES n) 1 8 → (s.bay n).focus.fail35 = 0 → s.getS (R.FOC_SRCH.SRCH_LO n) < s.getS (R.FOC_SRCH.SRCH_HI n) → 
      Does (.focusSweepEnd n) s fun t => (t.bay n).focus.acq = .sweep ∧ (t.bay n).focus.fails = (s.bay n).focus.fails + 1 ∧ (t.bay n).focus.fail35 = 1) ∧
    ((s.bay n).focus.acq = .settle → 
      Does (.focusSettleEnd n) s fun t => (t.bay n).focus.acq = .probe ∧ (t.bay n).focus.probing = true ∧ (t.bay n).focus.probeN = 0 ∧ Leaves s t [] [n]) ∧
    ((s.bay n).focus.probing = true → (s.bay n).focus.jump = .off → (s.bay n).focus.acq = .probe → (s.bay n).focus.fails + 1 < s.acting (R.FOC_ACQ.TRIES n) 1 8 → 
      Does (.layerProbeFail n) s fun t => (t.bay n).focus.acq = .probe ∧ (t.bay n).focus.probing = true ∧ (t.bay n).focus.fails = (s.bay n).focus.fails + 1 ∧ Leaves s t [] [n]) ∧
    ((s.bay n).focus.acq = .track → s.bayState n = BS.FOCUSING → (s.bay n).focus.fails + 1 < s.acting (R.FOC_ACQ.TRIES n) 1 8 → 
      Does (.trackingCloseTimeout n) s fun t => (t.bay n).focus.acq = .probe ∧ (t.bay n).focus.fails = (s.bay n).focus.fails + 1 ∧ Leaves s t [] [n]) ∧
    (s.bayState n = BS.RECOVERY → 
      Does (.recoveryTimeout n) s fun t => t.get (R.STATE.STATE n) = BS.FOCUSING ∧ (t.bay n).focus.target = (s.bay n).focus.retLayer ∧ (t.bay n).focus.fails = 0)

/-- Layer jumps and fine jumps go from kick to brake to settle. The end of a layer jump's kick or brake puts the focus drive back to its base; a jump that does not close while FOCUSING is a failed attempt at the probe; a jump settled on its last layer probes it once the SA lens has arrived. The end of a fine jump's kick drives tracking the other way at the table's amplitude, the end of its brake puts the drive back, and the end of its settle time waits for the wedge that confirms it. A write to TRK_FALLBACK clears exactly the layers it names. (R154, R155, R156, R157) -/
def Obligations.LayerAndTrackJumps : Prop :=
  ∀ (n : Nat) (s : State), n < s.variant.bays → 
    ((s.bay n).focus.jump = .kick → 
      Does (.ljKickEnd n) s fun t => t.get (R.SRV_MAN.Q n 0) = ofInt 32 (s.bay n).focus.jumpBase ∧ (t.bay n).focus.jump = .leaving ∧ Leaves s t [R.SRV_MAN.Q n 0] [n]) ∧
    ((s.bay n).focus.jump = .brake → 
      Does (.ljBrakeEnd n) s fun t => t.get (R.SRV_MAN.Q n 0) = ofInt 32 (s.bay n).focus.jumpBase ∧ (t.bay n).focus.jump = .close ∧ Leaves s t [R.SRV_MAN.Q n 0] [n]) ∧
    ((s.bay n).focus.jump = .close → s.bayState n = BS.FOCUSING → (s.bay n).focus.fails + 1 < s.acting (R.FOC_ACQ.TRIES n) 1 8 → 
      Does (.ljCloseTimeout n) s fun t => (t.bay n).focus.jump = .off ∧ (t.bay n).focus.acq = .probe ∧ (t.bay n).focus.fails = (s.bay n).focus.fails + 1) ∧
    ((s.bay n).focus.jump = .settle → (s.bay n).focus.jumpTo = (s.bay n).focus.jumpEnd → s.on (R.STEP_STAT.SA_ARRIVED n) = true → (s.bay n).focus.probing = false → 
      Does (.ljSettleEnd n) s fun t => (t.bay n).focus.jump = .probe ∧ (t.bay n).focus.probing = true ∧ Leaves s t [] [n]) ∧
    ((s.bay n).focus.fine = .kick → 
      Does (.tjKickEnd n) s fun t => (t.bay n).focus.fine = .brake ∧ Leaves s t [R.SRV_MAN.Q n 1] [n] ∧
        t.get (R.SRV_MAN.Q n 1) = ofInt 32 (satQ31 ((s.bay n).focus.fineBase - (s.bay n).focus.fineD.sign *
          ((2 ^ 23 * s.get (R.TJ_TAB.AMP n (clampNat 1 16 (s.bay n).focus.fineD.natAbs - 1)) : Nat) : Int)))) ∧
    ((s.bay n).focus.fine = .brake → 
      Does (.tjBrakeEnd n) s fun t => t.get (R.SRV_MAN.Q n 1) = ofInt 32 (s.bay n).focus.fineBase ∧ (t.bay n).focus.fine = .settle ∧ Leaves s t [R.SRV_MAN.Q n 1] [n]) ∧
    ((s.bay n).focus.fine = .settle → Does (.tjSettleEnd n) s fun t => (t.bay n).focus.fine = .confirm ∧ Leaves s t [] [n]) ∧
    (∀ (m : Nat), 
      Does (.fallbackClearWrite n m) s fun t => (∀ i ∈ List.range 8, t.bitOf (R.TRK_FALLBACK.LAYERS n) i = (s.bitOf (R.TRK_FALLBACK.LAYERS n) i && !bitAt m i)) ∧ Leaves s t [R.TRK_FALLBACK.LAYERS n] [])

/-- A sector frame gets its entry, begins, and its beams are detected and decoded. With one sector frame open: the end of its entry fetch makes a valid zone-table entry the frame's; the preamble starts the frame with that entry, shown in RC_STAT, or drops it when its fetch failed; a detector pass works on every member not yet done; an on-the-fly decode that does not finish its only undecoded member leaves that member in its place, one pass decoded, and changes nothing else. (R235, R236, R262, R270) -/
def Obligations.SectorFramesAreReadInStages : Prop :=
  ∀ (n : Nat) (s : State), n < s.variant.bays → 
    (∀ (f : Frame) (o : MemSeen) (e : List Byte), (s.bay n).reading.frames = [f] → f.fetch = .running → (s.memRead true n (s.ztAddr n f.idx) 256 o).1 = .done e → (s.memRead true n (s.ztAddr n f.idx) 256 o).2.entryFault n f.idx e = 0 → 
      Does (.zoneEntryFetchDone n o) s fun t => (t.bay n).reading.frames = [{ f with fetch := .good e }] ∧
        (t.bay n).reading.badSeen = (s.bay n).reading.badSeen.filter (· != f.idx)) ∧
    (∀ (f : Frame) (e : List Byte) (pos : List Int), (s.bay n).reading.frames = [f] → f.started = false → f.fetch = .good e → f.idx < 512 → 
      Does (.sectorPreambleStart n pos) s fun t => ((t.bay n).reading.frames.map fun g => (g.started, g.entry)) = [(true, e)] ∧
        (t.bay n).reading.held = some (f.idx, e, true) ∧ t.get (R.RC_STAT.ENTRY n) = f.idx ∧ t.get (R.RC_STAT.ENTRY_OK n) = 1 ∧
        t.get (R.RC_STAT.GEN n) = zU e 10 2 % 65536 ∧
        Leaves s t [R.RC_STAT.ENTRY n, R.RC_STAT.ENTRY_STATE n, R.RC_STAT.ENTRY_OK n, R.RC_STAT.GEN n, R.RC_STAT.FRAMING n, R.RC_STAT.VERIFY n] [n]) ∧
    (∀ (f : Frame) (pos : List Int), (s.bay n).reading.frames = [f] → f.started = false → f.fetch = .bad → 
      Does (.sectorPreambleStart n pos) s fun t => (t.bay n).reading.frames = [] ∧ Leaves s t [] [n]) ∧
    (∀ (f : Frame), (s.bay n).reading.frames = [f] → f.ready = true → 
      Does (.detectorPassDone n) s fun t =>
        (t.bay n).reading.frames = [{ f with members := f.members.map fun m => if m.done then m else f.pass (s.on (R.RC_CTL.SIDE_EN n)) m }] ∧
        Leaves s t [] [n]) ∧
    (∀ (f : Frame) (m : Member), (s.bay n).reading.frames = [f] → f.started = true → f.members = [m] → m.framed = true → m.done = false → m.decoded < m.passes → (m.otf (min 7 (s.get (R.DEC_CTL.OFFSET n))) (s.acting (R.DEC_CTL.OTF_ITER n) 1 6) (min 2 (s.get (R.DEC_CTL.OTF_XCH n)) + 1)).done = false → 
      Does (.otfDecodeDone n) s fun t => Leaves s t [] [n] ∧
        (t.bay n).reading.frames = [{ f with members := [m.otf (min 7 (s.get (R.DEC_CTL.OFFSET n))) (s.acting (R.DEC_CTL.OTF_ITER n) 1 6) (min 2 (s.get (R.DEC_CTL.OTF_XCH n)) + 1)] }])

/-- The sector check and the recovery decoders take their work in order. A clear sector from the on-the-fly decoder that no item waits for is checked by its DATA_CRC: a match counts it accepted on the fly, a difference counts in CRC_FAIL and as failed on the fly. When no buffer comes within a sector time, CAPT_MISS counts and the item's next re-read is queued. The decoder starts the first queued request, and a decode that recovers nothing ends with the next re-read queued while step 1 has re-reads left. (R20, R271, R272, R276) -/
def Obligations.SectorChecksAndRecoveryDecoders : Prop :=
  ∀ (n : Nat) (s : State), n < s.variant.bays → 
    (∀ (d : Decoded) (rest : List Decoded), (s.bay n).reading.hold = d :: rest → d.tag = none → d.otf = true → isParityHome d.home = false → bitAt (sectorMeta d.bytes).flags 1 = false → crc32 (d.bytes.take 4096) ≠ (sectorMeta d.bytes).dataCrc → 
      Does (.sectorCrcCheck n) s fun t => (t.bay n).reading.hold = rest ∧
        t.get (R.DEC_CHK.CRC_FAIL n) = min 0xFFFFFFFF (s.get (R.DEC_CHK.CRC_FAIL n) + 1) ∧
        t.get (R.DEC_OTF_FAIL.COUNT n) = min 0xFFFFFFFF (s.get (R.DEC_OTF_FAIL.COUNT n) + 1) ∧ Leaves s t [R.DEC_CHK.CRC_FAIL n, R.DEC_OTF_FAIL.COUNT n] [n]) ∧
    (∀ (d : Decoded) (rest : List Decoded), (s.bay n).reading.hold = d :: rest → d.tag = none → d.otf = true → isParityHome d.home = false → bitAt (sectorMeta d.bytes).flags 1 = false → crc32 (d.bytes.take 4096) = (sectorMeta d.bytes).dataCrc → 
      Does (.sectorCrcCheck n) s fun t => (t.bay n).reading.hold = rest ∧ (t.bay n).reading.known.find? (fun e => e.1 == d.home) = some (d.home, uncopied d.bytes) ∧
        t.get (R.DEC_OTF_OK.COUNT n) = min 0xFFFFFFFF (s.get (R.DEC_OTF_OK.COUNT n) + 1) ∧ Leaves s t [R.DEC_OTF_OK.COUNT n] [n]) ∧
    (∀ (g : Rung), (s.bay n).reading.ladder = [g] → g.capture.isSome = true → g.capPtr = none → g.step = 1 → g.reads < s.acting (R.DR_CTL.REREAD_N n) 1 3 → 
      Does (.captureGrantTimeout n g.psa) s fun t => t.get (R.DEC_UNC.CAPT_MISS n) = min 0xFFFFFFFF (s.get (R.DEC_UNC.CAPT_MISS n) + 1) ∧
        (t.bay n).reading.ladder = queueRungs 8 [{ g with capture := none, queued := false, running := false }] ∧ ∀ w ∈ t.caddy.waiting, w.2.2 ≠ .capture n g.psa) ∧
    (∀ (g : Rung), (s.bay n).reading.ladder = [g] → g.queued = true → 
      Does (.recoveryDecodeStart n) s fun t => (t.bay n).reading.ladder = queueRungs 8 [{ g with queued := false, running := true }] ∧ t.get (R.DEC_RQ.LADDER n) = 1 ∧ Leaves s t [R.DEC_RQ.QUEUED n, R.DEC_RQ.LADDER n] [n]) ∧
    (∀ (g : Rung), (s.bay n).reading.ladder = [g] → g.running = true → g.step = 1 → g.reads < s.acting (R.DR_CTL.REREAD_N n) 1 3 → g.capture.bind (s.recover n) = none → 
      Does (.recoveryDecodeDone n) s fun t => (t.bay n).reading.ladder = queueRungs 8 [{ g with capture := none, queued := false, running := false }] ∧ Leaves s t [R.DEC_RQ.QUEUED n, R.DEC_RQ.LADDER n] [n])

/-- A rebuild resolves its extent; DR_TMO takes an item to step 5 at once. After a rebuild of an extent no shadowed home of it still waits. When DR_TMO passes before step 5, the item's capture and queue place are given up and, with no hook to ask and step 5 open to it, the item stands at step 5. (R278, R279, R280, R285) -/
def Obligations.ExtentRebuildAndLadderTimeout : Prop :=
  ∀ (n : Nat) (s : State), n < s.variant.bays → 
    (∀ (x : Nat) (reads : List (Nat × PosSeen)), 
      Does (.extentReconDone n x reads) s fun t =>
        ∀ h ∈ (t.bay n).reading.shadows, ∀ p ∈ List.range 64, homeExtent h ≠ some (x, p)) ∧
    (∀ (g : Rung), (s.bay n).reading.ladder = [g] → g.step < 5 → s.servingSeq n = none → s.stepOpen n 5 g = true → (match s.tag? n g.tag with | some c => decide (5 ≤ c.maxStep) | none => true) = true → 
      Does (.ladderTimeout n g.tag g.item) s fun t =>
        (t.bay n).reading.ladder = queueRungs 8 [{ g with
          capture := none, queued := false, running := false, step := 5, reads := 0
          top := if g.top = 0xFF then 5 else max 5 g.top, entered := setBit g.entered 5 true }])

/-- A commit of the staged defect records is asked for, and ends written or failed. The age timer and a written COMMIT make a commit due when records are staged. A commit that ends well puts the staged records into the disc's defect list, staged records become empty, the anchor's SEQ goes up by one and COMMIT and BUSY clear; one that finds no room sets FAIL and clears COMMIT and BUSY, the records staying staged. (R51, R56, R305) -/
def Obligations.DefectListCommits : Prop :=
  ∀ (n : Nat) (s : State), n < s.variant.bays → 
    ((s.bay n).writing.staged.isEmpty = false → 
      Does (.dlCommitAgeTimer n) s fun t => (t.bay n).sched.dlDue = true ∧ Leaves s t [] [n]) ∧
    ((s.bay n).writing.staged.isEmpty = false → 
      Does (.dlCommitRequest n) s fun t => (t.bay n).sched.dlDue = true ∧ t.get (R.DL_CTL.COMMIT n) = 1 ∧ Leaves s t [R.DL_CTL.COMMIT n] [n]) ∧
    (∀ (sectors : List Nat) (sysNext : Nat), s.on (R.DL_CTL.BUSY n) = true → (s.bay n).sched.seg ≠ some .commit → 
      Does (.dlCommitDone n false sectors sysNext) s fun t => (t.bay n).writing.staged = [] ∧
        (t.bay n).disc.defects = ((s.bay n).writing.staged.map (·.1)).reverse ++ (s.bay n).disc.defects ∧
        (t.bay n).disc.anchor.map (·.seq) = some ((((s.bay n).disc.anchor.map (·.seq)).getD 0) + 1) ∧
        t.get (R.DL_CTL.BUSY n) = 0 ∧ t.get (R.DL_CTL.COMMIT n) = 0 ∧ (t.bay n).sched.dlDue = false) ∧
    (∀ (sectors : List Nat) (sysNext : Nat), s.on (R.DL_CTL.BUSY n) = true → (s.bay n).sched.seg ≠ some .commit → 
      Does (.dlCommitDone n true sectors sysNext) s fun t => t.get (R.DL_CTL.FAIL n) = 1 ∧ t.get (R.DL_CTL.BUSY n) = 0 ∧ t.get (R.DL_CTL.COMMIT n) = 0 ∧
        (t.bay n).writing.staged = (s.bay n).writing.staged ∧ (t.bay n).disc.refuse = ST.MEDIA_SYSTEM_FULL)

/-- Calibration is requested, falls due by temperature and ends on time. A written REQ queues the (layer, zone) of INDEX and sets REQ. A temperature away from the entry's by TEMP_DELTA or more queues the pair and counts TEMP_TRIG, and the pair no longer stands as write calibrated. A calibration that runs out of time ends with LAST 4, not busy, counted, and writes no memory outside its zone-table entry. (R320, R330, R332) -/
def Obligations.CalibrationQueueAndEnds : Prop :=
  ∀ (n : Nat) (s : State), n < s.variant.bays → 
    ((s.bay n).cal.run = none → ((s.bay n).cal.queue.any fun q => q.idx == s.get (R.CAL_CTL.INDEX n)) = false → 
      Does (.calRequest n) s fun t => t.get (R.CAL_CTL.REQ n) = 1 ∧
        (t.bay n).cal.queue = (s.bay n).cal.queue ++ [⟨s.get (R.CAL_CTL.INDEX n), true, s.on (R.CAL_CTL.SCOPE n), true, true⟩] ∧ Leaves s t [R.CAL_CTL.REQ n] [n]) ∧
    ((s.bay n).mounted = true → s.on (R.FE_TEMP.VALID n) = true → s.tempFar n (s.ztEntry n (s.idxNow n)) = true → s.calDue n (s.idxNow n) = false → zCrcOk (s.ztEntry n (s.idxNow n)) = true → 
      Does (.calTempCheck n) s fun t => t.get (R.CAL_COUNT.TEMP_TRIG n) = min 0xFFFFFFFF (s.get (R.CAL_COUNT.TEMP_TRIG n) + 1) ∧
        s.idxNow n ∉ (t.bay n).disc.wcal ∧ t.calDue n (s.idxNow n) = true) ∧
    (∀ (r : CalRun), (s.bay n).cal.run = some r → 
      Does (.calTimeout n) s fun t => (t.bay n).cal.run = none ∧ t.get (R.CAL_STAT.LAST n) = 4 ∧ t.get (R.CAL_STAT.BUSY n) = 0 ∧
        t.get (R.CAL_COUNT.DONE n) = min 0xFFFFFFFF (s.get (R.CAL_COUNT.DONE n) + 1) ∧
        SameBytesOutside s.dram t.dram (s.ztAddr n r.req.idx) 256) ∧
    (∀ (c : Cmd) (data : List Byte), (s.bay n).tags = [c] → c.wb.opcode = Op.WRITE → c.stage = 1 → c.wb.dform ≠ 3 → c.buf.length + data.length < 4096 → 
      Does (.dmaReadDone n c.id data) s fun t => (t.bay n).tags = [{ c with buf := c.buf ++ data }] ∧ Leaves s t [] [n])

/-- MODE changes the mode at its moment; a proposal is sent, timed and withdrawn. A MODE from SERVICE to MAINTENANCE applies at once and its command ends. A MODE of SCOPE 1 with a newer epoch and a unit ID sends the proposal on the chain. A proposer's deadline removes its proposal. The deadline of a pending change leaves it pending, owing no receipt. A waiting command whose bay lags is taken from its queue. A written epoch with both fabric ports off becomes the unit's, and a cancelled proposal is pending no more. (R397, R539, R540, R541, R554, R555, R556) -/
def Obligations.ModeCommandsAndProposals : Prop :=
  ∀ (s : State), 
    (∀ (c : Cmd), s.units = [c] → c.wb.opcode = Op.MODE → c.wb.field 32 1 = 2 → c.wb.field 33 1 = 0 → c.stage = 0 → s.pendMode = none → s.mode = 1 → 
      Does (.mode c.id) s fun t => t.mode = 2 ∧ t.pendMode = none ∧ t.units = []) ∧
    (∀ (c : Cmd), s.units = [c] → c.wb.opcode = Op.MODE → c.wb.field 33 1 = 1 → c.stage = 0 → epochNewer (c.wb.field 36 4) (s.get R.EPOCH.EPOCH) = true → s.on R.MC_UID.VALID = true → 
      Does (.modeSystemProposal c.id) s fun t =>
        .chainFrame (chainBytes 2 (bytesLE 2 (s.get R.MC_UID.ID) ++ bytesLE 1 s.chain.fseq ++ (bytesLE 1 (c.wb.field 32 1) ++
          bytesLE 4 (c.wb.field 36 4) ++ bytesLE 4 (s.acting R.MODE_DL.DEADLINE 100 60000)))) ∈ t.out) ∧
    (∀ (k : Nat), Does (.proposerDeadline k) s fun t => t.chain.props = s.chain.props.filter fun x => x.id != k) ∧
    (∀ (p : PendingMode), s.pendMode = some p → p.late = false → p.proposal = none → 
      Does .modeProposalDeadline s fun t => t.pendMode = some { p with owed := none, late := true }) ∧
    (∀ (n : Nat) (c : Cmd) (rest : List Cmd), n < s.variant.bays → (s.bay n).waiting = c :: rest → s.bayLags n = true → 
      Does (.staleEpochWaybillTimeout n) s fun t => (t.bay n).waiting = rest) ∧
    (∀ (e : Nat), s.get R.FAB_CTL.EN = 0 → s.on R.EPOCH_CTL.PENDING = false → s.fab.held = [] → e < 2 ^ 32 → 
      Does (.epochWrite e) s fun t => t.get R.EPOCH.EPOCH = e ∧ t.get R.EPOCH_CTL.VALID = 1 ∧ t.chain.applied = none) ∧
    (∀ (e : Nat), s.get R.FAB_CTL.EN ≠ 0 ∨ s.on R.EPOCH_CTL.PENDING = true → 
      Does (.epochWrite e) s fun t => t = s.raise R.EPOCH_CTL.REJ) ∧
    (∀ (p : PendingMode), s.pendMode = some p → p.proposal.isSome = true → 
      Does .epochCancel s fun t => t.pendMode = none ∧ t.get R.EPOCH_CTL.PENDING = 0 ∧ t.get R.MODE_STAT.PENDING = 0)

/-- Management chain frames are counted, passed on and acted upon once. A good proposal frame not seen before that must wait for a bay becomes the pending change, with its origin and epoch; an acknowledgement is counted against its proposal; an alert is only passed on; a frame with a bad CRC only counts; lock shows in MC_STAT. A good roll call gives a unit without an ID its number and goes on with the count raised by one. (R526, R528, R540, R541, R545) -/
def Obligations.ManagementChainFrames : Prop :=
  ∀ (s : State), 
    (∀ (f : ChainFrame), chainGood f = true → (f.getD 0 0).toNat = 2 → (chainField f 0 2, chainField f 2 1) ∉ s.chain.seen → chainField f 0 2 ≠ 0xFFFF → s.pendMode = none → s.mode = 1 → epochNewer (chainField f 4 4) (s.get R.EPOCH.EPOCH) = true → chainField f 3 1 = 3 → s.bayWait 3 ≠ [] → 
      Does (.modeProposeReceive f) s fun t =>
        t.pendMode = some ⟨3, none, some (chainField f 0 2, chainField f 4 4), 2 + 65536 * chainField f 0 2, s.bayWait 3, false⟩ ∧
        t.get R.EPOCH_CTL.PENDING = 1 ∧ t.mode = 1 ∧ .chainFrame f ∈ t.out) ∧
    (∀ (f : ChainFrame) (x : Proposer), chainGood f = true → (f.getD 0 0).toNat = 3 → (chainField f 0 2, chainField f 2 1) ∉ s.chain.seen → s.chain.props = [x] → x.epoch = chainField f 4 4 → s.get R.MC_UNITS.UNITS = 0 → 
      Does (.modeAckReceive f) s fun t => t.chain.props = [x.count (chainField f 0 2) (chainField f 3 1)] ∧
        t.chain.seen.head? = some (chainField f 0 2, chainField f 2 1) ∧ t.out = .chainFrame f :: s.out) ∧
    (∀ (f : ChainFrame), chainGood f = true → (f.getD 0 0).toNat = 4 → (chainField f 0 2, chainField f 2 1) ∉ s.chain.seen → 
      Does (.chainAlertReceive f) s fun t => t.out = .chainFrame f :: s.out ∧ t.chain.seen.head? = some (chainField f 0 2, chainField f 2 1) ∧ t.regs = s.regs) ∧
    (Does .chainFrameBadCrc s fun t => t.get R.MC_STAT.CRC_ERR = min (2 ^ R.MC_STAT.CRC_ERR.width - 1) (s.get R.MC_STAT.CRC_ERR + 1) ∧ Leaves s t [R.MC_STAT.CRC_ERR] []) ∧
    (∀ (lock : Bool), 
      Does (.mcInSymbolLock lock) s fun t => t.get R.MC_STAT.LOCK = b2n lock ∧ Leaves s t [R.MC_STAT.LOCK] []) ∧
    (∀ (f : ChainFrame), chainGood f = true → (f.getD 0 0).toNat = 1 → chainField f 2 2 < 256 → s.on R.MC_CTL.ROLL_EN = true → s.on R.MC_UID.VALID = false → 
      Does (.rollCallReceive f) s fun t => t.get R.MC_UID.VALID = 1 ∧ t.get R.MC_UID.ID = 256 * chainField f 0 1 + chainField f 2 2 ∧
        .chainFrame (chainBytes 1 (bytesLE 1 (chainField f 0 1) ++ bytesLE 1 (chainField f 1 1) ++ bytesLE 2 (chainField f 2 2 + 1) ++
          bytesLE 2 (chainField f 4 2))) ∈ t.out)

/-- Each cause of CURFEW sets its bit; a cleared cause clears its own. The interlock, the heartbeat, the die temperature and a PCIe reset each set their bit of CURFEW_CAUSE, and from SERVICE with no change pending the interlock takes the unit to CURFEW. A written bit 0 with the interlock high clears INTLK and its bit; HB_KICK clears HEARTBEAT's bit; a temperature below CURFEW_T by more than HYST clears its bit; a temperature of WARN_T or more is remembered as warned of. In CURFEW a PCIe reset empties the rings and marks every command to be discarded. (R82, R341, R558, R560, R561, R577) -/
def Obligations.CurfewCausesAndTemperature : Prop :=
  ∀ (s : State), 
    (Does .interlockFall s fun t => t.bitOf R.CURFEW_CAUSE.CAUSE 0 = true ∧ t.get R.SUP_STAT.INTLK = 1) ∧
    (s.mode = 1 → s.pendMode = none → s.bitOf R.CURFEW_CAUSE.CAUSE 0 = false → Does .interlockFall s fun t => t.mode = 4) ∧
    (s.on R.HB_CTL.ARMED = true → Does .heartbeatExpire s fun t => t.bitOf R.CURFEW_CAUSE.CAUSE 3 = true) ∧
    (Does .hbKick s fun t => t.bitOf R.CURFEW_CAUSE.CAUSE 3 = false ∧ LeavesRec s t [R.CURFEW_CAUSE.CAUSE] []) ∧
    (∀ (v : Nat), bitAt v 0 = true → s.pendMode = none → 
      Does (.curfewCauseClearWrite v true) s fun t => t.bitOf R.CURFEW_CAUSE.CAUSE 0 = false ∧ t.get R.SUP_STAT.INTLK = 0 ∧ LeavesRec s t [R.CURFEW_CAUSE.CAUSE, R.SUP_STAT.INTLK] []) ∧
    (∀ (x : Int), ((128 * s.acting R.TEMP_LIM.CURFEW_T 95 120 : Nat) : Int) ≤ x → x < 2 ^ 15 → 
      Does (.dieTempCurfew x) s fun t => t.bitOf R.CURFEW_CAUSE.CAUSE 1 = true ∧ t.getS R.DIE_TEMP.TEMP = x) ∧
    (∀ (x : Int), x < ((128 * s.acting R.TEMP_LIM.CURFEW_T 95 120 : Nat) : Int) - ((128 * s.acting R.TEMP_LIM.HYST 2 30 : Nat) : Int) → - 2 ^ 15 ≤ x → 
      Does (.dieTempClear x) s fun t => t.bitOf R.CURFEW_CAUSE.CAUSE 1 = false ∧ t.getS R.DIE_TEMP.TEMP = x ∧
        LeavesRec s t [R.CURFEW_CAUSE.CAUSE, R.DIE_TEMP.TEMP, R.DIE_TEMP.PEAK] []) ∧
    (∀ (x : Int), ((128 * s.acting R.TEMP_LIM.WARN_T 80 115 : Nat) : Int) ≤ x → x < ((128 * s.acting R.TEMP_LIM.CURFEW_T 95 120 : Nat) : Int) → 
      Does (.tempWarn x) s fun t => t.sup.warned = true ∧ t.getS R.DIE_TEMP.TEMP = x ∧
        LeavesRec s t [R.CURFEW_CAUSE.CAUSE, R.DIE_TEMP.TEMP, R.DIE_TEMP.PEAK] []) ∧
    (∀ (k : PcieResetKind), Does (.pcieReset k) s fun t => t.bitOf R.CURFEW_CAUSE.CAUSE 4 = true) ∧
    (∀ (k : PcieResetKind), s.mode = 4 → s.pendMode = none → 
      Does (.pcieReset k) s fun t => t.subs = [] ∧ t.rcps = [] ∧ t.porter = {} ∧ (∀ c ∈ t.units, c.discard = true) ∧ t.units.length = s.units.length)

/-- The doorbell page is fetched, its tails taken, and waybills are read and admitted. WAKE and an enabled poll start a fetch of the 1 KiB doorbell page; WAKE during a fetch asks for one more. A fetched tail inside its ring becomes the ring's. Waybills that arrive stand staged in slot order. Admission advances HEAD past the slot and takes the waybill from the stage before it is routed to its unit or bay, with one receipt reserved. (R343, R346, R354) -/
def Obligations.DoorbellFetchAndAdmission : Prop :=
  ∀ (s : State), 
    (s.on R.PORTER_CTL.ENABLE = true → s.mode ≠ 5 → s.on R.PORTER_STAT.DB_HALT = false → s.porter.fetching = false → s.canIssue = true → 
      Does .doorbellWake s fun t => t.porter.fetching = true ∧ t.regs = s.regs ∧
        t.out = .hostRead 384 (s.get R.DB_BASE_LO.ADDR * 4096 + 2 ^ 32 * s.get R.DB_BASE_HI.ADDR) 1024 :: s.out) ∧
    (s.porter.fetching = true → 
      Does .doorbellWake s fun t => t.porter = { s.porter with again := true } ∧ t.regs = s.regs ∧ t.out = s.out) ∧
    (s.on R.PORTER_CTL.ENABLE = true → s.mode ≠ 5 → s.on R.PORTER_STAT.DB_HALT = false → s.porter.fetching = false → s.canIssue = true → s.get R.POLL.IDLE ≠ 0 → s.get R.POLL.BUSY ≠ 0 → 
      Does .doorbellPollTimer s fun t => t.porter.fetching = true ∧ t.regs = s.regs ∧
        t.out = .hostRead 384 (s.get R.DB_BASE_LO.ADDR * 4096 + 2 ^ 32 * s.get R.DB_BASE_HI.ADDR) 1024 :: s.out) ∧
    (∀ (r : Nat) (tails heads : List Nat), s.porter.fetching = true → s.porter.again = false → r < 256 → s.on (R.SUB_CFG.EN r) = true → s.on (R.SUB_STAT.HALTED r) = false → tails.getD r 0 < s.subSize r → 
      Does (.doorbellFetchDone tails heads) s fun t =>
        t.get (R.SUB_TAIL.TAIL r) = tails.getD r 0 ∧ t.porter.fetching = false) ∧
    (∀ (r : Nat) (wbs : List Waybill), (s.sub r).reading = wbs.length → wbs ≠ [] → 
      Does (.waybillReadDone r wbs) s fun t =>
        (t.sub r).staged.map (·.2) = (s.sub r).staged.map (·.2) ++ wbs ∧ (t.sub r).reading = 0 ∧ t.regs = s.regs) ∧
    (∀ (r slot : Nat) (w : Waybill) (rest : List (Nat × Waybill)) (list : List (Nat × Nat × Nat)), (s.sub r).staged = (slot, w) :: rest → rest ≠ [] → s.on (R.SUB_CFG.EN r) = true → s.bayPresent (targetBay w) = false → s.admissible r w = true → s.on (R.RCP_CFG.EN w.rring) = true → w.early = false → 
      Does (.waybillAdmit r list) s fun t => ∃ u : State,
        u.get (R.SUB_HEAD.HEAD r) = (slot + 1) % s.subSize r ∧ (u.sub r).staged = rest ∧
        u.get (R.RCP_STAT.RESERVED w.rring) = (s.get (R.RCP_STAT.RESERVED w.rring) + 1) % 2 ^ (R.RCP_STAT.RESERVED w.rring).width ∧
        t = (u.routeWaybill { id := 0, wb := w, sring := r, rring := w.rring, second := false, born := s.ms } (locate w list)).readRings.showBusy) ∧
    (∀ (r slot : Nat) (w : Waybill) (rest : List (Nat × Waybill)) (list : List (Nat × Nat × Nat)), (s.sub r).staged = (slot, w) :: rest → rest ≠ [] → s.on (R.SUB_CFG.EN r) = true → s.bayPresent (targetBay w) = false → s.admissible r w = true → s.on (R.RCP_CFG.EN w.rring) = true → isBayOp w.opcode = false → isCustomerOp w.opcode = false → w.opcode ≠ Op.TABLE_READ → 
      Does (.waybillAdmit r list) s fun t =>
        t.get (R.SUB_HEAD.HEAD r) = (slot + 1) % s.subSize r ∧ (t.sub r).staged = rest ∧ t.get (R.SUB_STAT.STALLED r) = 0)

/-- DMA channels halt and restart; receipts are written and messages sent. A failed or timed-out host read of a channel above the bays halts it with its cause; on a bay's channel a WRITE is stopped with ST_HOST_DMA. A restart clears the halt, and a restart of a channel not halted sets RST_ERR. The oldest receipt is written as two host writes and its ring's tail moves on, the pass value inverting at the end. A coalesce time that is reached sends the ring's message or leaves it pending in the PBA. (R352, R353, R356, R357, R358, R359) -/
def Obligations.HaltsReceiptsAndMessages : Prop :=
  ∀ (s : State), 
    (∀ (c addr id : Nat) (f : HostFault) (bufs : List Nat), 128 ≤ c → s.channelPresent c = true → s.channelHalted c = false → 
      Does (.hostReadFail c f addr id bufs) s fun t => t.get (R.HALT_W0.CAUSE c) = faultCause f ∧ t.bitOf (R.DMA_HALT_SUM.HALTED (c / 32)) (c % 32) = true) ∧
    (∀ (c addr id : Nat) (bufs : List Nat), 128 ≤ c → s.channelPresent c = true → s.channelHalted c = false → 
      Does (.hostReadCplTimeout c addr id bufs) s fun t => t.get (R.HALT_W0.CAUSE c) = 4 ∧ t.bitOf (R.DMA_HALT_SUM.HALTED (c / 32)) (c % 32) = true) ∧
    (∀ (c addr : Nat) (d : Cmd) (f : HostFault) (bufs : List Nat), c < 128 → s.bayPresent c = true → s.channelHalted c = false → (s.bay c).tags = [d] → d.wb.opcode = Op.WRITE → (s.bay c).writing.run = [] → 
      Does (.hostReadFail c f addr d.id bufs) s fun t => t.get (R.HALT_W0.CAUSE c) = faultCause f ∧ t.bitOf (R.DMA_HALT_SUM.HALTED (c / 32)) (c % 32) = true ∧ (t.bay c).tags = [{ d with stop := some ST.HOST_DMA }]) ∧
    (∀ (c addr : Nat) (d : Cmd) (bufs : List Nat), c < 128 → s.bayPresent c = true → s.channelHalted c = false → (s.bay c).tags = [d] → d.wb.opcode = Op.WRITE → (s.bay c).writing.run = [] → 
      Does (.hostReadCplTimeout c addr d.id bufs) s fun t => t.get (R.HALT_W0.CAUSE c) = 4 ∧ t.bitOf (R.DMA_HALT_SUM.HALTED (c / 32)) (c % 32) = true ∧ (t.bay c).tags = [{ d with stop := some ST.HOST_DMA }]) ∧
    (∀ (c : Nat), c < 389 → s.channelHalted c = true → Does (.dmaRestart c) s fun t => t.channelHalted c = false) ∧
    (∀ (c : Nat), 389 ≤ c ∨ s.channelHalted c = false → Does (.dmaRestart c) s fun t => t = s.raise R.PORTER_STAT.RST_ERR) ∧
    (∀ (q : Receipt) (rest : List Receipt), s.porter.receipts = q :: rest → s.canIssue = true → 
      Does .receiptWrite s fun t => t.porter.receipts = rest ∧
        (let a := s.get (R.RCP_BASE_LO.ADDR q.ring) * 4096 + 2 ^ 32 * s.get (R.RCP_BASE_HI.ADDR q.ring) + 32 * s.get (R.RCP_TAIL.TAIL q.ring)
         let b := q.bytes (s.get (R.RCP_TAIL.PHASE q.ring))
         Emission.hostWrite a (b.take 28) ∈ t.out ∧ Emission.hostWrite (a + 28) (b.drop 28) ∈ t.out) ∧
        (if s.get (R.RCP_TAIL.TAIL q.ring) + 1 = s.rcpSize q.ring then
          t.get (R.RCP_TAIL.TAIL q.ring) = 0 ∧ t.get (R.RCP_TAIL.PHASE q.ring) = 1 - s.get (R.RCP_TAIL.PHASE q.ring)
         else t.get (R.RCP_TAIL.TAIL q.ring) = (s.get (R.RCP_TAIL.TAIL q.ring) + 1) % 65536 ∧
          t.get (R.RCP_TAIL.PHASE q.ring) = s.get (R.RCP_TAIL.PHASE q.ring))) ∧
    (∀ (r : Nat), 1 ≤ s.pendingOf r → s.vectorHeld (s.get (R.RCP_CFG.VECTOR r)) = false → Sparse.rising s.rcps = true → 
      Does (.coalesceTimer r) s fun t => t.pendingOf r = 0 ∧ t.out = (s.sendMsix (s.get (R.RCP_CFG.VECTOR r))).out ∧ t.regs = s.regs) ∧
    (∀ (r : Nat), 1 ≤ s.pendingOf r → s.vectorHeld (s.get (R.RCP_CFG.VECTOR r)) = true → 
      Does (.coalesceTimer r) s fun t => t.pbaPending (s.get (R.RCP_CFG.VECTOR r)) = true ∧ t.pendingOf r = s.pendingOf r)

/-- Vectors, bus mastering and rings are switched on and off. Unmasking a vector clears its MASK and, when messages may be sent, its pending bit. Bus mastering enabled lets every held request issue; disabled, or in D3hot, nothing issues. A submit ring that is enabled starts at HEAD and TAIL 0; disabled, its staged waybills are dropped. A receipt ring that is enabled starts at TAIL 0 with pass value 1, refuses while it drains, and drains on when it is disabled with receipts reserved. (R340, R359, R361, R367, R368) -/
def Obligations.VectorsBusMasteringAndRings : Prop :=
  ∀ (s : State), 
    (∀ (v : Nat), v < 2048 → s.pcie.funcMask = false → s.pcie.msixEnable = true → s.canIssue = true → 
      Does (.vectorUnmask (.vector v)) s fun t => t.get (R.MSIX_CTL.MASK v) = 0 ∧ t.pbaPending v = false) ∧
    (Does .busMasterEnable s fun t => t.canIssue = true ∧ t.heldOut = [] ∧ ∀ e ∈ s.heldOut, e ∈ t.out) ∧
    (∀ (k : BusMasterLoss), Does (.busMasterEnableClear k) s fun t => t.canIssue = false ∧ t.out = s.out ∧ Leaves s t [] []) ∧
    (∀ (r : Nat), s.on (R.SUB_CFG.EN r) = false → Sparse.rising s.subs = true → 
      Does (.subRingEnable r) s fun t => t.get (R.SUB_CFG.EN r) = 1 ∧ t.get (R.SUB_HEAD.HEAD r) = 0 ∧ t.get (R.SUB_TAIL.TAIL r) = 0 ∧
        t.sub r = {} ∧ ∀ q ∈ List.range 256, q ≠ r → t.sub q = s.sub q) ∧
    (∀ (r : Nat), Sparse.rising s.subs = true → 
      Does (.subRingDisable r) s fun t => t.get (R.SUB_CFG.EN r) = 0 ∧ t.get (R.SUB_STAT.STALLED r) = 0 ∧ t.sub r = {}) ∧
    (∀ (r : Nat), s.on (R.RCP_CFG.EN r) = false → s.on (R.RCP_CFG.DRAINING r) = false → 
      Does (.rcpRingEnable r) s fun t => t.get (R.RCP_CFG.EN r) = 1 ∧ t.get (R.RCP_TAIL.TAIL r) = 0 ∧ t.get (R.RCP_TAIL.PHASE r) = 1 ∧
        t.get (R.RCP_HEAD.HEAD r) = 0) ∧
    (∀ (r : Nat), s.on (R.RCP_CFG.EN r) = false → s.on (R.RCP_CFG.DRAINING r) = true → 
      Does (.rcpRingEnable r) s fun t => t = s.raise (R.RCP_STAT.CFG_REJ r)) ∧
    (∀ (r : Nat), s.on (R.RCP_CFG.EN r) = true → 
      Does (.rcpRingDisable r) s fun t => t.get (R.RCP_CFG.EN r) = 0 ∧ t.get (R.RCP_CFG.DRAINING r) = b2n (s.get (R.RCP_STAT.RESERVED r) != 0) ∧
        Leaves s t [R.RCP_CFG.EN r, R.RCP_CFG.DRAINING r] [])

/-- Granted reads and verifies end with their outcome; a scan goes on extent by extent. A command that no earlier span meets and whose checks pass is granted. A READ or a VERIFY whose sectors are all resolved ends, with the status of its first failure or of success, and its receipt is queued. A VERIFY of a journal entry whose slots are all good frees the entry. A MEDIA_SCAN whose extent is read asks for the next one. (R373, R374, R381, R387, R389, R391) -/
def Obligations.ReadClassCommands : Prop :=
  ∀ (n : Nat) (s : State), n < s.variant.bays → 
    (∀ (c : Cmd), (s.bay n).tags = [c] → (s.bay n).waiting = [] → c.granted = false → c.wb.opcode = Op.FLUSH ∨ s.grantStatus n c = 0 → c.isReplay = false → 
      Does (.rangeLockGrant n c.id) s fun t => (t.bay n).tags = [{ c with granted := true }] ∧ Leaves s t [] [n]) ∧
    (∀ (c : Cmd), (s.bay n).tags = [c] → c.wb.opcode = Op.READ → c.granted = true → c.discard = false → c.wb.dform ≠ 3 → c.stop = none → c.settled = true → 
      Does (.read n c.id) s fun t => (t.bay n).tags = [] ∧ Reports t c (if c.failure = 0 then c.success else c.failure)) ∧
    (∀ (c : Cmd), (s.bay n).tags = [c] → c.wb.opcode = Op.VERIFY → c.granted = true → c.discard = false → c.isReplay = false → c.stop = none → c.settled = true → 
      Does (.verifyRange n c.id) s fun t => (t.bay n).tags = [] ∧ Reports t c (if c.failure = 0 then c.success else c.failure)) ∧
    (∀ (c : Cmd) (e : JEntry) (full : Bool) (sectors : List Nat) (sysNext : Nat), (s.bay n).tags = [c] → c.wb.opcode = Op.VERIFY → c.granted = true → c.discard = false → c.isReplay = true → c.stop = none → c.settled = true → s.jEntry n (c.wb.field 32 1) = some e → e.kind = 1 → ∀ i ∈ c.items, i.2.outcome ≠ outUncorrectable → (s.bay n).writing.journal.rising = true → 
      Does (.verifyJournal n c.id full sectors sysNext) s fun t => t.jEntry n (c.wb.field 32 1) = none ∧ (t.bay n).tags = [] ∧ Reports t c (if c.failure = 0 then c.success else c.failure)) ∧
    (∀ (c : Cmd), (s.bay n).tags = [c] → c.wb.opcode = Op.MEDIA_SCAN → c.granted = true → c.discard = false → c.stop = none → c.scanX + 1 < c.wb.field 36 4 → ((List.range 64).all fun p => c.items.has (64 * c.scanX + p)) = true → c.wb.flag4 = false → 
      Does (.mediaScan n c.id) s fun t => Leaves s t [] [n] ∧
        (t.bay n).tags = [{ c with scanX := c.scanX + 1, granted := false,
                                   span := some (slotNumber (c.wb.field 40 4 + c.scanX + 1) 0, slotNumber (c.wb.field 40 4 + c.scanX + 1) 63) }])

/-- Writes, closes, flushes and directory commands of a bay take effect and report. A WRITE asks for its extents and data. A CLOSE_EXTENT whose extents are all dealt with ends; one that abandons releases the parity buffers. A FLUSH that waits for nothing and has nothing staged ends OK. PARTITION_CREATE appends its entry to the directory and PARTITION_RETIRE retires its own; KEY_BIND binds the partition to its slot. Each that ends queues its receipt. (R56, R304, R307, R379, R388, R390, R392, R393, R394) -/
def Obligations.WriteClassCommands : Prop :=
  ∀ (n : Nat) (s : State), n < s.variant.bays → 
    (∀ (c : Cmd) (written : List Nat) (reads : List (Nat × Nat × PosSeen)), (s.bay n).tags = [c] → c.wb.opcode = Op.WRITE → c.granted = true → c.discard = false → c.stage = 0 → c.stop = none → c.wb.dform = 1 → 
      Does (.write n c.id written reads) s fun t => (t.tag? n c.id).map (·.stage) = some 1) ∧
    (∀ (c : Cmd) (written : List Nat) (reads : List (Nat × Nat × PosSeen)), (s.bay n).tags = [c] → c.wb.opcode = Op.CLOSE_EXTENT → c.granted = true → c.discard = false → c.wb.flag4 = false → c.stop = none → c.staged.length = c.count → s.tagWork n c.id = false → 
      Does (.closeExtent n c.id written reads) s fun t => (t.bay n).tags = [] ∧ Reports t c (if c.failure = 0 then c.success else c.failure)) ∧
    (∀ (c : Cmd), (s.bay n).tags = [c] → c.wb.opcode = Op.CLOSE_EXTENT → c.granted = true → c.discard = false → c.wb.flag4 = true → 
      Does (.closeExtentAbandon n c.id) s fun t => (t.bay n).tags = [] ∧ Reports t c ST.OK ∧
        ∀ k ∈ List.range c.count, ∀ b ∈ (t.bay n).writing.parity, ¬ (b.disc = s.discId n ∧ b.x = s.closeX n c k)) ∧
    (∀ (c : Cmd) (full : Bool) (sectors : List Nat) (sysNext : Nat), (s.bay n).tags = [c] → c.wb.opcode = Op.FLUSH → c.granted = true → c.discard = false → c.waits = [] → (s.bay n).writing.staged = [] → c.failedWr = 0 → 
      Does (.flush n c.id full sectors sysNext) s fun t => (t.bay n).tags = [] ∧ Reports t c ST.OK) ∧
    (∀ (c : Cmd) (dirPsa : Nat) (sectors : List Nat) (sysNext : Nat), (s.bay n).tags = [c] → c.wb.opcode = Op.PARTITION_CREATE → c.granted = true → c.discard = false → (s.bay n).writing.staged = [] → 
      Does (.partitionCreate n c.id false dirPsa sectors sysNext) s fun t => (t.bay n).tags = [] ∧ Reports t c ST.OK ∧
        (t.bay n).disc.dir = (s.bay n).disc.dir ++ [⟨1, b2n c.wb.flag4, c.wb.field 32 4, c.wb.field 36 4, s.rtc, 0, s.writer,
          ofBytesBE ((c.wb.param.drop 16).take 16), c.wb.field 40 8⟩]) ∧
    (∀ (c : Cmd) (p : PartEntry) (dirPsa : Nat) (sectors : List Nat) (sysNext : Nat), (s.bay n).tags = [c] → c.wb.opcode = Op.PARTITION_RETIRE → c.granted = true → c.discard = false → (s.bay n).writing.staged = [] → s.partEntry n c = some p → 
      Does (.partitionRetire n c.id false dirPsa sectors sysNext) s fun t => (t.bay n).tags = [] ∧ Reports t c ST.OK ∧
        (t.bay n).disc.dir = (s.bay n).disc.dir.set (c.wb.field 32 2) { p with state := 2, retired := s.rtc }) ∧
    (∀ (c : Cmd), (s.bay n).tags = [c] → c.wb.opcode = Op.KEY_BIND → c.granted = true → c.discard = false → 
      Does (.keyBind n c.id) s fun t => (t.bay n).tags = [] ∧ Reports t c ST.OK ∧
        (t.bay n).disc.binds = if c.wb.field 34 2 = 0xFFFF then (s.bay n).disc.binds.erase (c.wb.field 32 2) else (s.bay n).disc.binds.put (c.wb.field 32 2) (c.wb.field 34 2))

/-- MOUNT spins the bay up and ends OK; UNMOUNT ends the mount; a raw capture is delivered. A granted MOUNT puts the bay into SPINUP; once the disc's structures are read and their buffers held it ends OK. An UNMOUNT of a parked bay ends the mount: nothing of the disc remains, SUSP reads 0 and the receipt carries the stop or OK. A raw slot capture that is complete ends OK and leaves no capture open. (R382, R383, R395) -/
def Obligations.MountUnmountAndRawSlots : Prop :=
  ∀ (n : Nat) (s : State), n < s.variant.bays → 
    (∀ (c : Cmd) (copies anchors : List (Option (List Byte))) (dir : Option (List Byte)) (dl : List (Nat × Option (List Byte))), (s.bay n).tags = [c] → c.wb.opcode = Op.MOUNT → c.granted = true → c.discard = false → (s.bay n).disc.suspend = false → c.stage = 2 → s.bayState n = BS.READY ∨ s.bayState n = BS.ACTIVE → ((s.bay n).disc.defects.length + 65535) / 65536 ≤ (s.bay n).disc.dlBufs.length → 
      Does (.mount n c.id copies anchors dir dl) s fun t => (t.bay n).tags = [] ∧ Reports t c ST.OK) ∧
    (∀ (c : Cmd) (copies anchors : List (Option (List Byte))) (dir : Option (List Byte)) (dl : List (Nat × Option (List Byte))), (s.bay n).tags = [c] → c.wb.opcode = Op.MOUNT → c.granted = true → c.discard = false → (s.bay n).disc.suspend = false → c.stage = 0 → s.bayState n = BS.EMPTY → 
      Does (.mount n c.id copies anchors dir dl) s fun t => (t.bay n).tags = [{ c with stage := 1 }] ∧ t.get (R.STATE.PREV n) = BS.EMPTY) ∧
    (∀ (c : Cmd) (reads : List (Nat × Nat × PosSeen)) (full : Bool) (sectors : List Nat) (sysNext : Nat), (s.bay n).tags = [c] → c.wb.opcode = Op.UNMOUNT → c.granted = true → c.discard = false → c.stage = 2 → s.bayState n = BS.EMPTY ∨ s.bayState n = BS.OFF → 
      Does (.unmount n c.id reads full sectors sysNext) s fun t => (t.bay n).tags = [] ∧ Reports t c (c.stop.getD ST.OK) ∧
        (t.bay n).mounted = false ∧ (t.bay n).disc = {} ∧ t.get (R.BAY_CTL.SUSP n) = 0) ∧
    (∀ (c : Cmd) (k : Nat) (l : List Byte), (s.bay n).tags = [c] → c.wb.opcode = Op.TABLE_READ → c.granted = true → c.discard = false → c.stage = 1 → (s.bay n).reading.raw = some (k, l) → 
      Does (.tableReadRawSlot n c.id) s fun t => (t.bay n).tags = [] ∧ Reports t c ST.OK ∧ (t.bay n).reading.raw = none)

/-- TABLE_LOAD and TABLE_READ move a table between host memory and DRAM. A TABLE_LOAD gathers its data; once all of it has come it is written to DRAM at the command's address, nothing else of DRAM changes and the command ends OK; a zone table with a bad entry ends with TABLE_BAD. A TABLE_READ of DRAM ends OK once its range is read, its bytes sent to the host. (R395) -/
def Obligations.TableCommands : Prop :=
  ∀ (s : State), 
    (∀ (c : Cmd) (data : List Byte) (seen : MemSeen), s.units = [c] → c.wb.opcode = Op.TABLE_LOAD → c.discard = false → c.wb.field 32 1 ≠ 1 → c.stage = 1 → (c.buf ++ data).length = (c.wb.field 48 4) → (s.memWrite false idPorter (c.wb.field 40 8) (c.buf ++ data) seen).1 = .done [] → Memory.wf s.dram = true → 
      Does (.tableLoadRaw c.id data seen) s fun t => t.units = [] ∧ Reports t c ST.OK ∧
        SameBytesOutside s.dram t.dram (c.wb.field 40 8) (c.wb.field 48 4) ∧ Sparse.bytes 0 t.dram (c.wb.field 48 4) (c.wb.field 40 8) = c.buf ++ data) ∧
    (∀ (c : Cmd) (data : List Byte) (seen : MemSeen), s.units = [c] → c.wb.opcode = Op.TABLE_LOAD → c.wb.field 32 1 = 1 → c.stage = 1 → (c.buf ++ data).length < (c.wb.field 48 4) → 
      Does (.tableLoadZone c.id data seen) s fun t => t.units = [{ c with buf := c.buf ++ data }] ∧ t.regs = s.regs ∧ t.dram = s.dram) ∧
    (∀ (c : Cmd) (data : List Byte) (seen : MemSeen), s.units = [c] → c.wb.opcode = Op.TABLE_LOAD → c.discard = false → c.wb.field 32 1 = 1 → c.stage = 1 → (c.buf ++ data).length = (c.wb.field 48 4) → (s.memWrite false idPorter (c.wb.field 40 8) (c.buf ++ data) seen).1 = .done [] → Memory.wf s.dram = true → 
      Does (.tableLoadZone c.id data seen) s fun t =>
        if (badEntry (c.buf ++ data)).isSome then t.units = [] ∧ Reports t c ST.TABLE_BAD ∧ t.dram = s.dram
        else t.units = [] ∧ Reports t c ST.OK ∧ SameBytesOutside s.dram t.dram (c.wb.field 40 8) (c.wb.field 48 4) ∧ Sparse.bytes 0 t.dram (c.wb.field 48 4) (c.wb.field 40 8) = c.buf ++ data) ∧
    (∀ (c : Cmd) (seen : MemSeen) (l : List Byte) (a k : Nat) (rest : List (Nat × Nat)), s.units = [c] → c.wb.opcode = Op.TABLE_READ → c.loc = (a, k) :: rest → c.discard = false → s.rangeOk (c.wb.field 40 8) (c.wb.field 48 4) = true → (s.memRead false idPorter (c.wb.field 40 8) (c.wb.field 48 4) seen).1 = .done l → s.canIssue = true → 
      Does (.tableReadDram c.id seen) s fun t => t.units = [] ∧ Reports t c ST.OK ∧
        Emission.hostWrite a (l.take k) ∈ t.out)

/-- Stripe, fixity and fabric transfer commands start, compute and report. A stripe command whose fields are in range asks for its shard table. A segment of every source that has been read adds its bytes to STRIPE_BYTES. A FIXITY of host data without an expected record writes the record of the bytes and ends OK. A FABRIC_SEND that may go opens a transfer. (R423, R425, R429, R430, R538) -/
def Obligations.StripeFixityAndTransfers : Prop :=
  ∀ (s : State), 
    (∀ (c : Cmd), s.units = [c] → c.wb.opcode = Op.STRIPE_ENCODE → c.stage = 0 → c.stripeFields = true → s.canIssue = true → 
      Does (.stripeEncode c.id []) s fun t => t.units = [{ c with stage := 1 }] ∧ t.out = .hostRead 385 c.wb.daddr c.wb.dlen :: s.out) ∧
    (∀ (c : Cmd), s.units = [c] → c.wb.opcode = Op.STRIPE_REBUILD → c.stage = 0 → c.stripeFields = true → s.canIssue = true → 
      Does (.stripeRebuild c.id []) s fun t => t.units = [{ c with stage := 1 }] ∧ t.out = .hostRead 385 c.wb.daddr c.wb.dlen :: s.out) ∧
    (∀ (c : Cmd) (data : List (Nat × List Byte)) (seen : MemSeen) (src : List (Nat × List Byte)), s.units = [c] → c.stage = 3 → s.channelHalted 385 = false → (State.stripeRead c data seen c.sources s).1 = some src → 
      Does (.stripeSegmentDone c.id data seen) s fun t =>
        t.get R.STRIPE_BYTES_LO.BYTES + 2 ^ 32 * t.get R.STRIPE_BYTES_HI.BYTES =
          min (2 ^ 64 - 1) (s.get R.STRIPE_BYTES_LO.BYTES + 2 ^ 32 * s.get R.STRIPE_BYTES_HI.BYTES + c.segLen c.scanX * src.length)) ∧
    (∀ (c : Cmd) (data old : List Byte) (seen : MemSeen), s.units = [c] → c.wb.opcode = Op.FIXITY → c.discard = false → c.stage = 1 → s.channelHalted 386 = false → c.wb.field 33 1 ≠ 1 → data.length = c.wb.field 40 8 → c.wb.flag4 = false → s.canIssue = true → 
      Does (.fixity c.id data old seen) s fun t => t.units = [] ∧ Reports t c ST.OK ∧
        Emission.hostWrite (c.wb.field 56 8) (fixRecord (c.wb.field 32 1) data false false false) ∈ t.out ∧ t.get R.FIX_CNT.RECORDS = satAdd R.FIX_CNT.RECORDS.width (s.get R.FIX_CNT.RECORDS) 1) ∧
    (∀ (c : Cmd) (data : List Byte) (seen : MemSeen), s.units = [c] → c.wb.opcode = Op.FABRIC_SEND → c.stage = 0 → s.sendOk c = true → c.wb.field 32 1 = 0 → s.fabCheck (c.wb.field 33 1) (c.wb.field 34 2) = 0 → (s.choosePort (c.wb.field 33 1) s.fab.xid).isSome = true → 
      Does (.fabricSend c.id data seen) s fun t => t.units = [{ c with stage := 1 }] ∧ t.fab.xfers.length = s.fab.xfers.length + 1)

/-- A key load takes KEY_DATA into its slot and clears it; clears empty the slots. On a part with a crypto unit, outside CURFEW and SHUTDOWN: KEY_LOAD with two different halves puts the 64 bytes of KEY_DATA into the slot and KEY_DATA reads zero; KEY_CLEAR empties the slot; KEY_CLEAR_ALL empties every slot and the fabric's keys. Elsewhere, or with equal halves, KEY_DATA is cleared and KEY_REJ set. (R432, R435) -/
def Obligations.KeysAndSecrets : Prop :=
  ∀ (s : State), s.variant.crypto = true → 
    (s.keyClosed = false → s.keyData.take 32 ≠ s.keyData.drop 32 → 
      Does .keyLoad s fun t => t.keyOf (s.get R.KEY_CTL.SLOT) = some s.keyData ∧ t.get R.KEY_STAT.FULL = 1 ∧ (∀ w ∈ List.range 16, t.get (R.KEY_DATA.DATA w) = 0) ∧ t.dram = s.dram) ∧
    (s.keyClosed = true ∨ s.keyData.take 32 = s.keyData.drop 32 → 
      Does .keyLoad s fun t => t.get R.KEY_STAT.KEY_REJ = 1 ∧ (∀ w ∈ List.range 16, t.get (R.KEY_DATA.DATA w) = 0) ∧ t.keys = s.keys) ∧
    (s.keyClosed = false → Sparse.rising s.keys = true → 
      Does .keyClear s fun t => t.keyOf (s.get R.KEY_CTL.SLOT) = none ∧ t.get R.KEY_STAT.FULL = 0) ∧
    (s.keyClosed = false → 
      Does .keyClearAll s fun t => t.keys = [] ∧ t.fabKeys = [] ∧ t.get R.KEY_STAT.FULL_COUNT = 0 ∧ (∀ w ∈ List.range 16, t.get (R.KEY_DATA.DATA w) = 0))

/-- The scheduler starts work, makes aged work urgent and counts its gap down. In SERVICE, with only a commit due, room for it and background work enabled, a decision starts the commit: the bay is ACTIVE, not idle, with a background segment. A calibration or a commit whose age reaches its deadline becomes urgent and is counted. A revolution of elapsed time counts the urgent gap down while the spindle is not aligned. (R406, R407, R409, R410) -/
def Obligations.SchedulerDecisions : Prop :=
  ∀ (n : Nat) (s : State), n < s.variant.bays → 
    (s.mode = 1 → s.pendMode = none → (s.bay n).tags = [] → (s.bay n).cal.queue = [] → (s.bay n).cal.run = none → (s.bay n).sched.seg = none → (s.bay n).sched.dlDue = true → (s.bay n).sched.dlUrg = false → s.ms - (s.bay n).sched.dlBorn < s.ageLimit n 4 → s.bayState n = BS.READY → (s.freeEntryIndex n).isSome = true → s.on (R.SCHED_CTL.BG_EN n) = true → s.dlRoom n = true → 
      Does (.schedDecision n) s fun t => (t.bay n).sched.seg = some .commit ∧ t.bayState n = BS.ACTIVE ∧ t.get (R.SCHED_STAT.IDLE n) = 0 ∧
        t.get (R.SCHED_STAT.CUR_BG n) = 1 ∧ t.get (R.DL_CTL.BUSY n) = 1) ∧
    ((s.bay n).tags = [] → (s.bay n).sched.dlDue = true → (s.bay n).sched.dlUrg = false → 
      Does (.ageDeadline n 65) s fun t => (t.bay n).sched.dlUrg = true ∧ t.get (R.SCHED_CNT.PROMOTED n) = satAdd (R.SCHED_CNT.PROMOTED n).width (s.get (R.SCHED_CNT.PROMOTED n)) 1) ∧
    (s.on (R.ANG_STAT.ALIGNED n) = false → 0 < (s.bay n).sched.gap → 
      Does (.gapRevolutionElapsed n) s fun t => (t.bay n).sched.gap = (s.bay n).sched.gap - 1 ∧ ((s.bay n).sched.gap = 1 → t.get (R.SCHED_STAT.GAP n) = 0) ∧ Leaves s t [R.SCHED_STAT.GAP n] [n]) ∧
    (∀ (c : Cmd) (g0 g1 g2 g3 : Nat), (s.bay n).tags = [c] → isCustomerOp c.wb.opcode = true → c.granted = true → c.discard = false → (s.bay n).move = none → s.seqState (s.get (R.BAY_SEQ.CUR_SEQ n)) = SQ.RUN → s.hookLoaded (s.get (R.BAY_SEQ.CUR_SEQ n)) (c.wb.opcode - 0xE0 + 16) = true → bitAt g0 31 = false → statusDefined (g0 % 65536) = true → 
      Does (.customerOpcode n c.id (.returned g0 g1 g2 g3)) s fun t => (t.bay n).tags = [] ∧ Reports t c (g0 % 65536))

/-- DRAM channels train, resume, fill with zeros or fail. TRAIN with every selected channel present, powered and idle sets each TRAINING; RESUME also remembers the RETAINED ones. A trained channel is FILLING, or READY with its contents when it resumed; a channel that fails is FAILED with its step and empty. A filled channel is READY and empty. A DRAM_CFG write to an idle channel takes PRESENT; elsewhere it sets CFG_REJ. (R447, R448, R453, R472) -/
def Obligations.DramTrainingAndFill : Prop :=
  ∀ (s : State), 
    (((List.range 8).all fun ch => !bitAt (s.get R.DRAM_CTL.MASK) ch || (s.on (R.DRAM_CFG.PRESENT ch) && s.domain (dramDomain ch) == 2 &&
      [CH.UNUSED, CH.FAILED, CH.RETIRED, CH.RETAINED].contains (s.get (R.DRAM_STAT.STATE ch)))) = true → s.curfewOrShutdown = false → 
      Does .dramTrain s fun t => (∀ ch ∈ List.range 8, t.get (R.DRAM_STAT.STATE ch) =
        if bitAt (s.get R.DRAM_CTL.MASK) ch then CH.TRAINING else s.get (R.DRAM_STAT.STATE ch)) ∧ t.dram = s.dram) ∧
    (((List.range 8).all fun ch => !bitAt (s.get R.DRAM_CTL.MASK) ch || (s.on (R.DRAM_CFG.PRESENT ch) && s.domain (dramDomain ch) == 2 &&
      [CH.UNUSED, CH.FAILED, CH.RETIRED, CH.RETAINED].contains (s.get (R.DRAM_STAT.STATE ch)))) = true → s.curfewOrShutdown = false → 
      Does .dramResume s fun t => (∀ ch ∈ List.range 8, t.get (R.DRAM_STAT.STATE ch) =
        if bitAt (s.get R.DRAM_CTL.MASK) ch then CH.TRAINING else s.get (R.DRAM_STAT.STATE ch)) ∧ t.dram = s.dram ∧
        t.mem.resume = ((List.range 8).filter fun ch => bitAt (s.get R.DRAM_CTL.MASK) ch).filter fun ch => s.get (R.DRAM_STAT.STATE ch) == CH.RETAINED) ∧
    (s.curfewOrShutdown = true → Does .dramTrain s fun t => t = s.raise R.DRAM_CTL.TRAIN_REJ) ∧
    (∀ (ch : Nat), ch < 8 → s.get (R.DRAM_STAT.STATE ch) = CH.TRAINING → ch ∉ s.mem.resume → 
      Does (.dramTrainDone ch 0) s fun t => t.get (R.DRAM_STAT.STATE ch) = CH.FILLING ∧ Leaves s t [R.DRAM_STAT.STATE ch] []) ∧
    (∀ (ch : Nat), ch < 8 → s.get (R.DRAM_STAT.STATE ch) = CH.TRAINING → ch ∈ s.mem.resume → 
      Does (.dramTrainDone ch 0) s fun t => t.get (R.DRAM_STAT.STATE ch) = CH.READY ∧ t.dram = s.dram) ∧
    (∀ (ch failed : Nat), ch < 8 → s.get (R.DRAM_STAT.STATE ch) = CH.TRAINING → ch ∉ s.mem.resume → 1 ≤ failed → failed ≤ 5 → Memory.wf s.dram = true → 
      Does (.dramTrainDone ch failed) s fun t => t.get (R.DRAM_STAT.STATE ch) = CH.FAILED ∧ t.get (R.DRAM_STAT.FAIL_STEP ch) = failed ∧ (t.dram.filter fun e => decide (2 ^ 37 * ch ≤ e.1) && decide (e.1 < 2 ^ 37 * (ch + 1))) = [] ∧ SameBytesOutside s.dram t.dram (2 ^ 37 * ch) (2 ^ 37)) ∧
    (∀ (ch : Nat), ch < 8 → s.get (R.DRAM_STAT.STATE ch) = CH.FILLING → 
      Does (.dramFillDone ch) s fun t => t.get (R.DRAM_STAT.STATE ch) = CH.READY ∧ (t.dram.filter fun e => decide (2 ^ 37 * ch ≤ e.1) && decide (e.1 < 2 ^ 37 * (ch + 1))) = []) ∧
    (∀ (ch v : Nat), ch < 8 → s.get (R.DRAM_STAT.STATE ch) = CH.UNUSED ∨ s.get (R.DRAM_STAT.STATE ch) = CH.RETAINED → 
      Does (.dramCfgWrite ch v) s fun t => t.get (R.DRAM_CFG.PRESENT ch) = bitsAt v 31 1 ∧ t.get (R.DRAM_STAT.STATE ch) = CH.UNUSED) ∧
    (∀ (ch v : Nat), ch < 8 → s.get (R.DRAM_STAT.STATE ch) = CH.READY → 
      Does (.dramCfgWrite ch v) s fun t => t = s.raise (R.DRAM_STAT.CFG_REJ ch))

/-- A channel retires and a scrub pass runs from GO to DONE. An accepted retirement makes the channel RETIRING; at its end the channel is RETIRED, its domain OFF and nothing is left in it. A refused one gives its reason. SCRUB GO over an aligned range starts the counts at 0; a stop and the end of the pass clear GO and set DONE. (R454, R455, R456) -/
def Obligations.RetirementAndScrub : Prop :=
  ∀ (s : State), 
    (∀ (ch : Nat), s.get R.DRAM_RETIRE.CHAN = ch → s.on R.DRAM_RETIRE.GO = false → s.retireReason ch = 0 → 
      Does .dramRetire s fun t => t.get R.DRAM_RETIRE.GO = 1 ∧ t.get (R.DRAM_STAT.STATE ch) = CH.RETIRING) ∧
    (∀ (ch : Nat), s.get R.DRAM_RETIRE.CHAN = ch → s.on R.DRAM_RETIRE.GO = false → s.retireReason ch ≠ 0 → 
      Does .dramRetire s fun t => t.get R.DRAM_RETIRE.REJ = 1 ∧ t.get R.DRAM_RETIRE.REASON = s.retireReason ch ∧ Leaves s t [R.DRAM_RETIRE.REJ, R.DRAM_RETIRE.REASON] []) ∧
    (∀ (ch : Nat), s.get R.DRAM_RETIRE.CHAN = ch → s.on R.DRAM_RETIRE.GO = true → s.get (R.DRAM_STAT.STATE ch) = CH.RETIRING → 
      Does .dramRetireDone s fun t => t.get R.DRAM_RETIRE.GO = 0 ∧ t.get (R.DRAM_STAT.STATE ch) = CH.RETIRED ∧ t.get (R.PWR_STAT.STATE (dramDomain ch)) = 0 ∧ (t.dram.filter fun e => decide (2 ^ 37 * ch ≤ e.1) && decide (e.1 < 2 ^ 37 * (ch + 1))) = []) ∧
    (s.scrubStart % 64 = 0 → s.scrubLast % 64 = 0 → s.scrubStart ≤ s.scrubLast → s.scrubLast < 2 ^ 40 → s.on R.SCRUB_CTL.GO = false → s.curfewOrShutdown = false → 
      Does .scrubGo s fun t => t.get R.SCRUB_CTL.GO = 1 ∧ t.get R.SCRUB_CORR.COUNT = 0 ∧ t.get R.SCRUB_UNCORR.COUNT = 0 ∧ t.get R.SCRUB_TIME.COUNT = 0 ∧
        t.get R.SCRUB_POS_LO.ADDR + 2 ^ 32 * t.get R.SCRUB_POS_HI.ADDR = s.scrubStart) ∧
    (∀ (pos : Nat) (o : MemSeen), s.on R.SCRUB_CTL.GO = true → 
      Does (.scrubStop pos o) s fun t => t.get R.SCRUB_CTL.GO = 0 ∧ t.get R.SCRUB_CTL.DONE = 1 ∧ t.get R.SCRUB_CTL.STOP = 0 ∧ t.dram = s.dram) ∧
    (∀ (o : MemSeen), s.on R.SCRUB_CTL.GO = true → 
      Does (.scrubPassEnd o) s fun t => t.get R.SCRUB_CTL.GO = 0 ∧ t.get R.SCRUB_CTL.DONE = 1 ∧ t.dram = s.dram)

/-- Cache ways leave and return, scratch slots come and go, lines are cleaned and zeroed. A CACHE_WAY_EN write that leaves two open ways is taken and sets CLEANING for the ways that leave; one that does not sets REJ. A cleaned way that is not enabled is not ACTIVE. A scratch slot cleans its way, is READY once filled with zeros, and disabled holds nothing. CLEAN and CLEAN_INV of a mapped DRAM line change no byte, an invalidated line is in no way, and ZERO_LINE zeroes its 256 bytes only. A writeback takes the oldest entry. (R458, R460, R461, R462) -/
def Obligations.CacheWaysAndScratch : Prop :=
  ∀ (s : State), 
    (∀ (mask : Nat), mask < 65536 → 2 ≤ (s.openWays.filter fun w => bitAt mask w).length → 
      Does (.cacheWayDisable mask) s fun t => t.get R.CACHE_WAY_EN.EN = mask ∧
        ∀ w ∈ List.range 16, bitAt mask w = false → bitAt (s.get R.CACHE_WAY_EN.EN) w = true → s.scratchOf w = none →
          bitAt (s.get R.CACHE_WAY_STAT.ACTIVE) w = true → bitAt (t.get R.CACHE_WAY_STAT.CLEANING) w = true) ∧
    (∀ (mask : Nat), s.openWays = [] → mask = 1 → Does (.cacheWayDisable mask) s fun t => t = s.raise R.CACHE_WAY_EN.REJ) ∧
    (∀ (w : Nat), w < 16 → bitAt (s.get R.CACHE_WAY_STAT.CLEANING) w = true → bitAt (s.get R.CACHE_WAY_EN.EN) w = false → 
      Does (.cacheWayCleanDone w) s fun t => bitAt (t.get R.CACHE_WAY_STAT.CLEANING) w = false ∧ bitAt (t.get R.CACHE_WAY_STAT.ACTIVE) w = false ∧ t.dram = s.dram) ∧
    (∀ (k : Nat), k < 8 → s.on (R.CACHE_SCRATCH.EN k) = false → s.scratchOf (s.get (R.CACHE_SCRATCH.WAY k)) = none → 2 ≤ (s.openWays.filter (· != s.get (R.CACHE_SCRATCH.WAY k))).length → 
      Does (.scratchEnable k) s fun t => t.get (R.CACHE_SCRATCH.EN k) = 1 ∧ Leaves s t [R.CACHE_SCRATCH.EN k, R.CACHE_WAY_STAT.CLEANING] []) ∧
    (∀ (k : Nat), k < 8 → s.on (R.CACHE_SCRATCH.EN k) = true → s.on (R.CACHE_SCRATCH.READY k) = false → bitAt (s.get R.CACHE_WAY_STAT.CLEANING) (s.get (R.CACHE_SCRATCH.WAY k)) = false → Memory.wf s.dram = true → 
      Does (.scratchFillDone k) s fun t => t.get (R.CACHE_SCRATCH.READY k) = 1 ∧ (t.dram.filter fun e => decide (scratchBase k ≤ e.1) && decide (e.1 < scratchBase k + 0x600000)) = [] ∧ SameBytesOutside s.dram t.dram (scratchBase k) 0x600000) ∧
    (∀ (k : Nat), k < 8 → s.on (R.CACHE_SCRATCH.EN k) = true → ((List.range 16).any fun r => s.on (R.CADDY_RGN_CFG.EN r) && decide (scratchBase k ≤ s.rgnBase r) && decide (s.rgnBase r < scratchBase k + 0x600000)) = false → Memory.wf s.dram = true → 
      Does (.scratchDisable k) s fun t => t.get (R.CACHE_SCRATCH.EN k) = 0 ∧ t.get (R.CACHE_SCRATCH.READY k) = 0 ∧ (t.dram.filter fun e => decide (scratchBase k ≤ e.1) && decide (e.1 < scratchBase k + 0x600000)) = [] ∧ SameBytesOutside s.dram t.dram (scratchBase k) 0x600000) ∧
    (s.mapped s.opAddr = true → s.opAddr < 2 ^ 40 → 
      Does .cacheClean s fun t => t.dram = s.dram ∧ t.get R.CACHE_OP.ERR = s.get R.CACHE_OP.ERR) ∧
    (s.mapped s.opAddr = true → s.opAddr < 2 ^ 40 → Sparse.rising s.mem.lines = true → 
      Does .cacheCleanInv s fun t => t.dram = s.dram ∧ t.mem.lines.has (s.opAddr / 256) = false) ∧
    (s.mapped s.opAddr = true → Memory.wf s.dram = true → 
      Does .cacheZeroLine s fun t => (t.dram.filter fun e => decide (s.opAddr / 256 * 256 ≤ e.1) && decide (e.1 < s.opAddr / 256 * 256 + 256)) = [] ∧ SameBytesOutside s.dram t.dram (s.opAddr / 256 * 256) 256) ∧
    (∀ (e : Nat × Nat × Sparse (List Byte)) (r : List (Nat × Nat × Sparse (List Byte))), s.mem.evb = e :: r → r.length ≤ 15 → 
      Does .evictionWriteback s fun t => t.mem = { s.mem with evb := r } ∧ t.get R.CACHE_EVB.FILL = r.length ∧ t.dram = s.dram)

/-- The Caddy grants, shares, takes back and reclaims buffers. Enabled, the Caddy serves; with nothing held it can be disabled. A region that fits is enabled, any other sets CFG_REJ. A request, or a waiting one, that a region can serve is answered with its buffer and no longer waits. A share adds the new holder, a release by the only holder frees the buffer, and a reclaim leaves the requester holding nothing. (R464, R466, R467, R468, R470, R481) -/
def Obligations.CaddyBuffers : Prop :=
  ∀ (s : State), 
    (s.caddy.waiting = [] → Does (.caddyEnable true) s fun t => t.get R.CADDY_CTL.EN = 1 ∧ t.caddy = s.caddy) ∧
    (s.caddy.held = [] → Does (.caddyEnable false) s fun t => t.get R.CADDY_CTL.EN = 0 ∧ Leaves s t [R.CADDY_CTL.EN] []) ∧
    (∀ (r : Nat), r < 16 → s.on (R.CADDY_RGN_CFG.EN r) = false → s.regionOk r = true → 
      Does (.caddyRegionEnable r) s fun t => t.get (R.CADDY_RGN_CFG.EN r) = 1) ∧
    (∀ (r : Nat), r < 16 → s.on (R.CADDY_RGN_CFG.EN r) = false → s.regionOk r = false → 
      Does (.caddyRegionEnable r) s fun t => t = s.raise (R.CADDY_RGN_FLAGS.CFG_REJ r)) ∧
    (∀ (id c ptr : Nat), s.caddy.waiting = [] → id < 256 → c < 4 → (s.caddyGrant id c).map (·.1) = some ptr → 
      Does (.caddyRequest id c) s fun t => t.caddy.waiting = [] ∧ t.caddy.answers = (id, caddyWord 0 1 ptr) :: s.caddy.answers) ∧
    (∀ (id c ptr : Nat), s.caddy.waiting = [(id, c, .port)] → (s.caddyGrant id c).map (·.1) = some ptr → 
      Does .caddyGrant s fun t => t.caddy.waiting = [] ∧ t.caddy.answers = (id, caddyWord 0 1 ptr) :: s.caddy.answers) ∧
    (∀ (id new c ptr k : Nat) (h : HeldBuf), id < 256 → new < 256 → c < 4 → ptr < 2 ^ 41 → s.tagAt c ptr = some k → s.caddy.held.find? (fun e => e.1 == k) = some (k, h) → id ∈ h.holders → new ∉ h.holders → h.holders.length < 8 → 
      Does (.caddyShare id new c ptr) s fun t => t.caddy.held = s.caddy.held.put k { h with holders := h.holders ++ [new] } ∧
        t.caddy.answers = (id, caddyWord 0 (h.holders.length + 1) ptr) :: s.caddy.answers ∧ t.regs = s.regs) ∧
    (∀ (id c ptr k : Nat) (h : HeldBuf), id < 256 → c < 4 → ptr < 2 ^ 41 → s.tagAt c ptr = some k → s.caddy.held.find? (fun e => e.1 == k) = some (k, h) → h.holders = [id] → s.caddy.waiting = [] → 
      Does (.caddyRelease id c ptr) s fun t => t.caddy.held = s.caddy.held.erase k ∧
        t.caddy.answers = (id, caddyWord 0 0 ptr) :: s.caddy.answers) ∧
    (∀ (id : Nat), s.get R.CADDY_RECLAIM.ID = id → 128 ≤ id → s.idBusy id = false → s.idHalted id = false → s.caddy.waiting = [] → Sparse.rising s.caddy.held = true → 
      Does .caddyReclaim s fun t => ∀ e ∈ t.caddy.held, id ∉ e.2.holders)

/-- A microword that computes writes its destination and goes on; ports deliver their answers. A legal word that uses no port, stack, timer or interrupt, run by a sequencer in RUN, or stepped in MAINTENANCE, writes the ALU result of its operands to DEST, its flags where FLG is set, goes on to the next word or jumps, and changes no other general register and no memory. An answer that waits at a port is delivered to its source register and the port is free again. (R487, R488, R491, R493, R509) -/
def Obligations.MicrowordsCompute : Prop :=
  ∀ (s : State), 
    (∀ (q w : Nat) (seen : MemSeen), s.seqThere q = true → s.seqState q = SQ.RUN → (s.seq q).wait = none → (s.seq q).hook = none → (s.seq q).upc ∉ (s.bank (q / 8) (s.get (R.SEQ_STAT.BANK q))).bad → w = (Sparse.get 0 (s.bank (q / 8) (s.get (R.SEQ_STAT.BANK q))).words (s.seq q).upc) → MW.legal w = true → MW.memOp w = 0 → MW.bayOp w = 0 → MW.cpOp w = 0 → MW.nac w ≤ 1 → MW.stk w = 0 → MW.tmr w = 0 → MW.ie w = false → MW.ovt w = false → MW.srcA w < 64 → MW.srcB w < 64 → MW.dest w < 64 → isCustomer (s.seq q).upc = false → s.on (R.SEQ_CTL.HALT q) = false → (s.seq q).g.rising = true → 
      Does (.microwordExecute q .clean seen) s fun t => (let r := alu (MW.aluOp w) ((s.seq q).reg (MW.srcA w)) (shiftB (MW.shKind w) (MW.shAmount w) ((s.seq q).reg (MW.srcB w)))
        (t.seq q).reg (MW.dest w) = r.result % 2 ^ 64 ∧ (t.seq q).upc = (if MW.nac w = 1 then MW.next w else ((s.seq q).upc + 1) % 2 ^ 15) ∧
        (MW.flg w = true → (t.seq q).flags = (s.seq q).flags / 16 * 16 + r.flags) ∧
        (∀ k ∈ List.range 64, k ≠ MW.dest w → (t.seq q).reg k = (s.seq q).reg k)) ∧ t.regs = s.regs ∧ t.dram = s.dram ∧ t.bays = s.bays) ∧
    (∀ (q w : Nat) (seen : MemSeen), s.seqThere q = true → s.seqState q = SQ.STOPPED → (s.seq q).wait = none → (s.seq q).hook = none → (s.seq q).upc ∉ (s.bank (q / 8) (s.get (R.SEQ_STAT.BANK q))).bad → w = (Sparse.get 0 (s.bank (q / 8) (s.get (R.SEQ_STAT.BANK q))).words (s.seq q).upc) → MW.legal w = true → MW.memOp w = 0 → MW.bayOp w = 0 → MW.cpOp w = 0 → MW.nac w ≤ 1 → MW.stk w = 0 → MW.tmr w = 0 → MW.ie w = false → MW.ovt w = false → MW.srcA w < 64 → MW.srcB w < 64 → MW.dest w < 64 → isCustomer (s.seq q).upc = false → s.mode = 2 → (s.seq q).g.rising = true → 
      Does (.seqStep q .clean seen) s fun t => (let r := alu (MW.aluOp w) ((s.seq q).reg (MW.srcA w)) (shiftB (MW.shKind w) (MW.shAmount w) ((s.seq q).reg (MW.srcB w)))
        (t.seq q).reg (MW.dest w) = r.result % 2 ^ 64 ∧ (t.seq q).upc = (if MW.nac w = 1 then MW.next w else ((s.seq q).upc + 1) % 2 ^ 15) ∧
        (MW.flg w = true → (t.seq q).flags = (s.seq q).flags / 16 * 16 + r.flags) ∧
        (∀ k ∈ List.range 64, k ≠ MW.dest w → (t.seq q).reg k = (s.seq q).reg k)) ∧ t.get (R.SEQ_STAT.UPC q) = (if MW.nac w = 1 then MW.next w else ((s.seq q).upc + 1) % 2 ^ 15) ∧ t.dram = s.dram) ∧
    (∀ (q v : Nat), (s.seq q).memAns = some (some v) → 
      Does (.memPortAnswer q) s fun t => t.seq q = { s.seq q with memAns := none, memData := v } ∧ t.regs = s.regs ∧ t.dram = s.dram) ∧
    (∀ (q v : Nat), (s.seq q).bayAns = some [v] → 
      Does (.bayPortAnswer q) s fun t => t.seq q = { s.seq q with bayAns := none, bayData := v } ∧ t.regs = s.regs ∧ t.dram = s.dram) ∧
    (∀ (q v : Nat), (s.seq q).cpBusy = true → (s.seq q).cpAns = some (some v) → 
      Does (.cpPortAnswer q) s fun t => t.seq q = { s.seq q with cpBusy := false, cpAns := none, cpResp := v } ∧ t.regs = s.regs ∧ t.dram = s.dram)

/-- Sequencers are released, reset, halted and resumed; a bay moves between them. A HELD sequencer whose selected bank is VERIFIED is released into RUN at word 0 of that bank. One that is HALTED or STOPPED is reset to HELD. In MAINTENANCE a running one is stopped for diagnosis and a stopped one resumes. Outside these a request sets REJ. A bay with no work moves to a running sequencer with a free position. (R485, R509, R513) -/
def Obligations.SequencersStartAndStop : Prop :=
  ∀ (s : State), 
    (∀ (q : Nat), s.seqThere q = true → s.seqState q = SQ.HELD → s.get (fBank (q / 8) (bitsAt (s.get (R.USTORE_SEL.BANK (q / 8))) (q % 8) 1)) = 3 → s.curfewOrShutdown = false → 
      Does (.seqRelease q) s fun t => t.seqState q = SQ.RUN ∧ t.get (R.SEQ_STAT.BANK q) = (bitsAt (s.get (R.USTORE_SEL.BANK (q / 8))) (q % 8) 1) ∧ (t.seq q).upc = 0 ∧ Leaves { s with seqs := t.seqs } t [R.SEQ_STAT.STATE q, R.SEQ_STAT.BANK q] []) ∧
    (∀ (q : Nat), s.seqThere q = true → s.seqState q ≠ SQ.HELD → 
      Does (.seqRelease q) s fun t => t = s.raise (R.SEQ_CTL.REJ q)) ∧
    (∀ (q : Nat), s.seqThere q = true → s.seqState q = SQ.HALTED ∨ s.seqState q = SQ.STOPPED → 
      Does (.seqReset q) s fun t => t.seqState q = SQ.HELD ∧ t.get (R.SEQ_STAT.FRAME_BUSY q) = 0 ∧ t.get (R.SEQ_STAT.SP q) = 0 ∧ t.get (R.SEQ_STAT.UPC q) = 0 ∧ (t.seq q).upc = 0) ∧
    (∀ (q : Nat), s.seqThere q = true → s.seqState q = SQ.RUN → s.mode = 2 → (s.seq q).wait = none → 
      Does (.seqDiagHalt q) s fun t => t.seqState q = SQ.STOPPED ∧ t.get (R.SEQ_STAT.UPC q) = (s.seq q).upc % 2 ^ (R.SEQ_STAT.UPC q).width) ∧
    (∀ (q : Nat), s.seqThere q = true → s.seqState q = SQ.STOPPED → s.mode = 2 → 
      Does (.seqResume q) s fun t => t = s.put (R.SEQ_STAT.STATE q) SQ.RUN) ∧
    (∀ (n : Nat), n < s.variant.bays → (s.bay n).tags = [] → (s.bay n).waiting = [] → s.on (R.SCHED_STAT.IDLE n) = true → s.seqState (s.get (R.BAY_SEQ.SEQ n)) = SQ.RUN → s.positionFree (s.get (R.BAY_SEQ.SEQ n)) (s.get (R.BAY_SEQ.POS n)) = true → s.curfewOrShutdown = false → (s.bay n).move = none → s.seqState (s.get (R.BAY_SEQ.CUR_SEQ n)) = SQ.RUN → 
      Does (.baySeqMove n) s fun t => t.get (R.BAY_SEQ.GO n) = 1 ∧ (t.bay n).move = some (s.get (R.BAY_SEQ.SEQ n), s.get (R.BAY_SEQ.POS n), false) ∧
        Leaves s t [R.BAY_SEQ.GO n] [n])

/-- Banks are loaded and verified, activated, confirmed, reverted and written through the window. LOAD of a bank no sequencer selects makes it LOADING; an image whose header, records and base fit becomes the bank, LOADED; VERIFY checks it into VERIFIED or FAILED. ACTIVATE keeps the old selection in PREV and waits for running sequencers, else for the confirmation; CONFIRM ends the update, REVERT and a missed time take it back. A window write replaces the word's top 32 bits; a held sequencer's bank selection is written. (R505, R506, R508, R510, R511, R512, R514) -/
def Obligations.ControlStoreUpdates : Prop :=
  ∀ (s : State) (c : Nat), c < 4 → 
    (∀ (b : Nat), b = s.get (R.CS_CTL.BANK c) → s.clusterPowered c = true → s.csBusy c = false → s.bankSelected c b = false → s.get (R.CS_STAT.UPD c) = 0 → 
      Does (.csLoad c) s fun t => (t.cluster c).loading = some b ∧ t.get (fBank c b) = 1 ∧ t.get (R.CS_CTL.LOAD c) = 1 ∧ t.banks = s.banks) ∧
    (∀ (b : Nat) (seen : MemSeen) (head body : List Byte) (k : Bank), (s.cluster c).loading = some b → b < 2 → ((s.fresh 8).2.memRead true (s.fresh 8).1 (s.get (R.CS_SRC_LO.ADDR c) * 64 + 2 ^ 32 * s.get (R.CS_SRC_HI.ADDR c)) 64 seen).1 = .done head → headOk head = true → (((s.fresh 8).2.memRead true (s.fresh 8).1 (s.get (R.CS_SRC_LO.ADDR c) * 64 + 2 ^ 32 * s.get (R.CS_SRC_HI.ADDR c)) 64 seen).2.memRead true (s.fresh 8).1 ((s.get (R.CS_SRC_LO.ADDR c) * 64 + 2 ^ 32 * s.get (R.CS_SRC_HI.ADDR c)) + 64) (32 * headField head 14 2) {}).1 = .done body → loadImage (s.bank c (1 - b)) (s.get (fBank c (1 - b)) == 3) head body = .inr k → 
      Does (.csLoadDone c seen) s fun t => t.bank c b = k ∧ t.get (fBank c b) = 2 ∧ t.get (R.CS_CTL.LOAD c) = 0 ∧ (t.cluster c).loading = none ∧ t.get (R.CS_STAT.REASON c) = s.get (R.CS_STAT.REASON c)) ∧
    (∀ (b : Nat), b = s.get (R.CS_CTL.BANK c) → s.clusterPowered c = true → s.csBusy c = false → s.get (fBank c b) = 2 → 
      Does (.csVerify c) s fun t => (t.cluster c).verifying = some b ∧ t.get (R.CS_CTL.VERIFY c) = 1 ∧ Leaves { s with clusters := t.clusters } t [R.CS_CTL.VERIFY c] []) ∧
    (∀ (b : Nat), (s.cluster c).verifying = some b → b < 2 → 
      Does (.csVerifyDone c []) s fun t => t.get (R.CS_CTL.VERIFY c) = 0 ∧ (t.cluster c).verifying = none ∧ t.get (R.CS_STAT.REASON c) = (if (s.bank c b).verify = 0 then s.get (R.CS_STAT.REASON c) else (s.bank c b).verify) ∧
        t.get (fBank c b) = if (s.bank c b).verify = 0 then 3 else 4) ∧
    (∀ (b : Nat), b = s.get (R.CS_CTL.BANK c) → s.get (fBank c b) = 3 → s.bankSelected c b = false → s.get (R.CS_STAT.UPD c) = 0 → s.csBusy c = false → s.curfewOrShutdown = false → s.get (R.STATE_FMT.FMT_A c) = s.get (R.STATE_FMT.FMT_B c) → 
      Does (.csActivate c) s fun t => t.get (R.USTORE_SEL.PREV c) = s.get (R.USTORE_SEL.BANK c) ∧ (t.cluster c).target = b ∧
        t.get (R.CS_STAT.UPD c) = if (clusterSeqs c).any (fun q => s.seqState q == SQ.RUN) then 1 else 2) ∧
    (s.get (R.CS_STAT.UPD c) = 1 → 
      Does (.activateTimeout c) s fun t => (t.get (R.CS_STAT.UPD c) = 3 ∨ t.get (R.CS_STAT.UPD c) = 0) ∧ t.get (R.CS_STAT.REJ c) = 1 ∧ t.get (R.CS_STAT.REASON c) = 14) ∧
    (s.get (R.CS_STAT.UPD c) = 2 → s.curfewOrShutdown = false → 
      Does (.csConfirm c) s fun t => t.get (R.CS_STAT.CONFIRMED c) = 1 ∧ t.get (R.CS_STAT.UPD c) = 0 ∧ LeavesRec s t [R.CS_STAT.CONFIRMED c, R.CS_STAT.UPD c] []) ∧
    (s.get (R.CS_STAT.UPD c) = 2 → s.get (R.CS_STAT.SWITCHED c) = 0 → 
      Does (.csRevert c) s fun t => t.get (R.CS_STAT.UPD c) = 0 ∧ t.get (R.CS_STAT.REVERTED c) = 1) ∧
    (s.get (R.CS_STAT.UPD c) = 2 → s.get (R.CS_STAT.SWITCHED c) = 0 → 
      Does (.confirmTimeout c) s fun t => t.get (R.CS_STAT.UPD c) = 0 ∧ t.get (R.CS_STAT.REVERTED c) = 1) ∧
    (∀ (b a v : Nat), b < 2 → a < 32768 → s.clusterPowered c = true → s.csBusy c = false → (clusterSeqs c).all (fun q => s.seqState q == SQ.HELD) = true → s.staged = [] → v < 2 ^ 32 → (s.bank c b).words.rising = true → 
      Does (.csWindowWrite c b a v) s fun t =>
        bitsAt (Sparse.get 0 (t.bank c b).words a) 160 32 = v ∧ bitsAt (Sparse.get 0 (t.bank c b).words a) 0 160 = bitsAt (Sparse.get 0 (s.bank c b).words a) 0 160 ∧
        t.get (fBank c b) = 2 ∧ a ∉ (t.bank c b).bad) ∧
    (∀ (v : Nat), v < 256 → ((List.range 8).all fun i => s.seqState (8 * c + i) == SQ.HELD) = true → 
      Does (.ustoreSelWrite c v) s fun t => t.get (R.USTORE_SEL.BANK c) = v ∧ Leaves s t [R.USTORE_SEL.BANK c] [])

/-- Good fabric frames open, go on with, acknowledge, refuse and end their transfers. A frame that this unit's port takes, that authenticates and that its epoch admits: an OPEN that a window allows makes a transfer at the window's base plus offset; ACCEPT opens an own transfer; REFUSE BUSY makes it wait; DATA in turn is written and CUM goes up by one; ACK raises CUM to what the peer has, never beyond what was sent; STALE ends a transfer another unit started, and ABORT ends one likewise. (R529, R530, R531, R532, R533, R535, R542) -/
def Obligations.FabricFramesOfTransfers : Prop :=
  ∀ (s : State), 
    (∀ (p : Nat) (x : FabFrame) (f : StFrame) (seen : MemSeen), s.portTakes p x = true → x.packet.dport = s.acting R.FAB_UDP.DPORT 1024 65535 → s.parseFrame x.packet.payload = some f → f.kind = kOpen → s.authentic f x.packet.payload = true → s.gate f = .take → s.xfer? false f.src f.xid = none → f.own = true → s.inUse p < 256 → f.field 1 1 < 16 → s.on (R.FW_CFG.EN (f.field 1 1)) = true → f.field 4 4 = s.get (R.FW_WKEY.WKEY (f.field 1 1)) → s.on (if f.field 0 1 = 1 then R.FW_CFG.GET (f.field 1 1) else R.FW_CFG.PUT (f.field 1 1)) = true → f.field 8 8 % 4096 = 0 → f.field 16 8 % 4096 = 0 → f.field 16 8 ≠ 0 → f.field 8 8 + f.field 16 8 ≤ 4096 * s.get (R.FW_SIZE.PAGES (f.field 1 1)) → 
      Does (.stOpenReceive p x seen) s fun t => (t.xfer? (!f.own) f.src f.xid).map (fun y => (y.addr, y.len, y.opened)) =
        some (some (s.get (R.FW_BASE_LO.ADDR (f.field 1 1)) * 4096 + 2 ^ 32 * s.get (R.FW_BASE_HI.ADDR (f.field 1 1)) + f.field 8 8), f.field 16 8, true)) ∧
    (∀ (p : Nat) (x : FabFrame) (f : StFrame) (y : Xfer) (seen : MemSeen), s.portTakes p x = true → x.packet.dport = s.acting R.FAB_UDP.DPORT 1024 65535 → s.parseFrame x.packet.payload = some f → f.kind = kAccept → s.authentic f x.packet.payload = true → s.gate f = .take → s.fab.xfers = [y] → s.xfer? (!f.own) f.src f.xid = some y → y.own = true → y.get = true → 
      Does (.stAcceptReceive p x seen) s fun t => (t.xfer? (!f.own) f.src f.xid).map (fun z => (z.opened, z.busy)) = some (true, false)) ∧
    (∀ (p : Nat) (x : FabFrame) (f : StFrame) (y : Xfer), s.portTakes p x = true → x.packet.dport = s.acting R.FAB_UDP.DPORT 1024 65535 → s.parseFrame x.packet.payload = some f → f.kind = kRefuse → s.authentic f x.packet.payload = true → s.gate f = .take → s.xfer? (!f.own) f.src f.xid = some y → y.own = true → y.opened = false → f.field 0 1 = 1 → 
      Does (.stRefuseReceive p x) s fun t => (t.xfer? (!f.own) f.src f.xid).map (·.busy) = some true) ∧
    (∀ (p : Nat) (x : FabFrame) (f : StFrame) (y : Xfer) (a : Nat), s.portTakes p x = true → x.packet.dport = s.acting R.FAB_UDP.DPORT 1024 65535 → s.parseFrame x.packet.payload = some f → f.kind = kData → s.authentic f x.packet.payload = true → s.gate f = .take → s.fab.xfers = [y] → s.xfer? (!f.own) f.src f.xid = some y → y.own = false → y.port = p → y.sends = false → f.seq < y.frames → f.offset = f.seq * y.seg → f.payload.length = y.size f.seq → y.done = false → y.cum = f.seq → y.marks = [] → (s.caddyGrant (portId p) 1).isSome = true → s.channelHalted (387 + p) = false → y.addr = some a → (s.memWrite false (portId p) (a + f.seq * y.seg) f.payload {}).1 = .done [] → 
      Does (.stDataReceive p x {}) s fun t => (t.xfer? (!f.own) f.src f.xid).map (·.cum) = some (y.cum + 1) ∧ SameBytesOutside s.dram t.dram (a + f.seq * y.seg) f.payload.length) ∧
    (∀ (p : Nat) (x : FabFrame) (f : StFrame) (y : Xfer) (seen : MemSeen), s.portTakes p x = true → x.packet.dport = s.acting R.FAB_UDP.DPORT 1024 65535 → s.parseFrame x.packet.payload = some f → f.kind = kAck → s.authentic f x.packet.payload = true → s.gate f = .take → s.xfer? (!f.own) f.src f.xid = some y → s.fab.xfers = [y] → y.sends = true → y.done = false → bitAt (f.field 4 1) 0 = false → f.field 8 8 = 0 → y.marks = [] → y.opened = false → 
      Does (.stAckReceive p x seen) s fun t => (t.xfer? (!f.own) f.src f.xid).map (·.cum) = some (max y.cum (min (f.field 0 4) y.next))) ∧
    (∀ (p : Nat) (x : FabFrame) (f : StFrame) (y : Xfer), s.portTakes p x = true → x.packet.dport = s.acting R.FAB_UDP.DPORT 1024 65535 → s.parseFrame x.packet.payload = some f → f.kind = kStale → s.authentic f x.packet.payload = true → s.gate f = .take → s.fab.xfers = [y] → s.xfer? (!f.own) f.src f.xid = some y → y.own = false → y.done = false → 
      Does (.stStaleReceive p x) s fun t => (t.xfer? (!f.own) f.src f.xid) = none) ∧
    (∀ (p : Nat) (x : FabFrame) (f : StFrame) (y : Xfer), s.portTakes p x = true → x.packet.dport = s.acting R.FAB_UDP.DPORT 1024 65535 → s.parseFrame x.packet.payload = some f → f.kind = kAbort → s.authentic f x.packet.payload = true → s.gate f = .take → s.fab.xfers = [y] → s.xfer? (!f.own) f.src f.xid = some y → y.own = false → 
      Does (.stAbortReceive p x) s fun t => (t.xfer? (!f.own) f.src f.xid) = none)

/-- Transfer timers resend, acknowledge and give up; ports answer neighbours and echoes. A retransmit timer sends an own unopened transfer's OPEN again under the next SEQ; an ACK timer acknowledges what has come; a peer timeout ends a transfer another unit started; a held frame whose time has passed is dropped and counted STALE. A port answers a solicitation of its address and an echo request to it, and stops and goes on with priority flow control. (R522, R523, R533, R542) -/
def Obligations.FabricTimersAndLowerLayers : Prop :=
  ∀ (s : State), 
    (∀ (y : Xfer) (seen : MemSeen), s.fab.xfers = [y] → s.holdsFrame y = false → y.queued = false → y.done = false → y.own = true → y.opened = false → s.portUsable y.port = true → 
      Does (.rtoExpire true y.peer y.xid seen) s fun t => (t.xfer? y.own y.peer y.xid).map (fun z => Sparse.get 0 z.ctl kOpen) = some ((Sparse.get 0 y.ctl kOpen + 1) % 2 ^ 24)) ∧
    (∀ (y : Xfer), s.fab.xfers = [y] → y.own = false → y.sends = false → 0 < y.fresh → 
      Does (.ackDelayTimer false y.peer y.xid) s fun t => (t.xfer? y.own y.peer y.xid).map (·.fresh) = some 0) ∧
    (∀ (y : Xfer), s.fab.xfers = [y] → y.own = false → s.holdsFrame y = false → 
      Does (.peerTimeout false y.peer y.xid) s fun t => (t.xfer? y.own y.peer y.xid) = none) ∧
    (∀ (k : Nat) (h : HeldFrame), s.fab.held[k]? = some h → s.caddy.waiting = [] → 
      Does (.epochHoldExpire k) s fun t => t.fab.held = s.fab.held.erase h ∧ t.get (R.FP_DROP.STALE h.port) = satAdd (R.FP_DROP.STALE h.port).width (s.get (R.FP_DROP.STALE h.port)) 1) ∧
    (∀ (p target : Nat) (x : FabFrame), s.portTakes p x = true → target = s.fabAddr p (s.get R.MC_UID.ID) → s.portPaused p = false → 
      Does (.neighborSolicitation p x target) s fun t => t.out = .neighborAdvert p (s.nextHop p) x.packet.srcIp :: s.out ∧ Leaves s t [] []) ∧
    (∀ (p : Nat) (x : FabFrame), s.portTakes p x = true → x.packet.dstIp = s.fabAddr p (s.get R.MC_UID.ID) → s.portPaused p = false → 
      Does (.icmpEchoRequest p x) s fun t => t.out = .echoReply p (s.nextHop p) x.packet.srcIp x.packet.payload :: s.out ∧ Leaves s t [] []) ∧
    (∀ (p : Nat) (b : Bool), s.portOn p = true → s.on R.FAB_NET.PFC_EN = true → 
      Does (.priorityFlowControlReceive p b) s fun t => t.get (R.FP_STAT.PFC_RX p) = b2n b ∧ t.caddy = s.caddy ∧ t.dram = s.dram)

/-- Fabric links, ports, windows, IDs and keys are set and cleared. A link that changes shows in LINK, a fall is counted. With an ID and an epoch EN is taken as written. A window whose range is installed is enabled, and disabled at once. A cleared ID is 0 and not valid, and no port is enabled. A fabric key load takes FAB_KEY_DATA into its slot and clears it; a key clear empties the slot. (R528, R529, R532, R536, R549, R551) -/
def Obligations.FabricPortsWindowsAndKeys : Prop :=
  ∀ (s : State), s.variant.fabric = true → 
    (∀ (p : Nat) (seen : MemSeen), p < 2 → s.on (R.FP_STAT.LINK p) = false → 
      Does (.fabricLinkChange p true seen) s fun t => t.get (R.FP_STAT.LINK p) = 1) ∧
    (∀ (p : Nat) (seen : MemSeen), p < 2 → s.on (R.FP_STAT.LINK p) = true → 
      Does (.fabricLinkChange p false seen) s fun t => t.get (R.FP_STAT.LINK p) = 0 ∧ t.get (R.FP_STAT.LINK_DOWNS p) = satAdd (R.FP_STAT.LINK_DOWNS p).width (s.get (R.FP_STAT.LINK_DOWNS p)) 1) ∧
    (∀ (mask : Nat), mask < 4 → s.on R.MC_UID.VALID = true → s.on R.EPOCH_CTL.VALID = true → 
      Does (.fabricPortEnable mask) s fun t => t.get R.FAB_CTL.EN = mask) ∧
    (∀ (w : Nat), w < 16 → 
      Does (.fabWindowEnable w false) s fun t => t.get (R.FW_CFG.EN w) = 0 ∧ Leaves s t [R.FW_CFG.EN w] []) ∧
    (∀ (w : Nat), w < 16 → s.rangeOk (s.get (R.FW_BASE_LO.ADDR w) * 4096 + 2 ^ 32 * s.get (R.FW_BASE_HI.ADDR w)) (4096 * s.get (R.FW_SIZE.PAGES w)) = true → 
      Does (.fabWindowEnable w true) s fun t => t.get (R.FW_CFG.EN w) = 1 ∧ Leaves s t [R.FW_CFG.EN w] []) ∧
    (s.on R.MC_UID.VALID = true → 
      Does .mcClearId s fun t => t.get R.MC_UID.VALID = 0 ∧ t.get R.MC_UID.ID = 0 ∧ t.get R.FAB_CTL.EN = 0 ∧ t.fab.held = []) ∧
    (s.variant.crypto = true → s.keyClosed = false → 
      Does .fabKeyLoad s fun t => t.fabKey (s.get R.FAB_KEY_CTL.SLOT) = some ((List.range 8).flatMap fun w => bytesLE 4 (s.get (R.FAB_KEY_DATA.DATA w))) ∧
        (∀ w ∈ List.range 8, t.get (R.FAB_KEY_DATA.DATA w) = 0) ∧ t.keys = s.keys) ∧
    (s.variant.crypto = true → s.keyClosed = false → Sparse.rising s.fabKeys = true → 
      Does .fabKeyClear s fun t => t.fabKey (s.get R.FAB_KEY_CTL.SLOT) = none ∧ t.keys = s.keys)

/-- A power domain rises by its stages, enters RETAIN or OFF by its abort points, and fails by a stage. A request for ON in OFF or RETAIN starts stage 1; a request for RETAIN or OFF in ON starts the entry; a refused request only sets REJ; a request for ON during an entry makes it wake. A stage that is ready sets its bit and goes to the next one; the fourth makes the domain ON. A stage that times out sets FAIL and its number and leaves the domain OFF. An abort point passed without a wake goes on; with one the domain stays ON and counts an abort; the last point changes the state. (R562, R563, R565, R566) -/
def Obligations.PowerDomainsChangeState : Prop :=
  ∀ (d : Nat) (s : State), d < 163 → 
    (s.phaseOf d = .steady → s.powerRefused d 2 = false → s.domain d ≠ dOn → 
      Does (.powerRequest d 2) s fun t => t.phaseOf d = .rising ⟨1, s.domain d == dRetain, none⟩ ∧ t.get (R.PWR_REQ.REQ d) = 2 ∧ t.get (R.PWR_STAT.RDY d) = 0 ∧ t.domain d = s.domain d) ∧
    (∀ (v : Nat), v = 0 ∨ v = 1 → s.phaseOf d = .steady → s.powerRefused d v = false → s.domain d = dOn → 
      Does (.powerRequest d v) s fun t => t.phaseOf d = .entering ⟨v, 0, false, none⟩ ∧ t.get (R.PWR_REQ.REQ d) = v ∧ t.domain d = dOn) ∧
    (∀ (v : Nat), v < 3 → s.phaseOf d = .steady → s.powerRefused d v = true → 
      Does (.powerRequest d v) s fun t => t = s.raise (R.PWR_STAT.REJ d)) ∧
    (∀ (e : DomEntry), s.phaseOf d = .entering e → 
      Does (.powerRequest d 2) s fun t => t.phaseOf d = .entering { e with wake := true, next := none } ∧ t.domain d = s.domain d) ∧
    (∀ (u : DomUp), s.phaseOf d = .rising u → u.stage < 4 → 
      Does (.powerStageReady d) s fun t => t.phaseOf d = .rising { u with stage := u.stage + 1 } ∧ t.bitOf (R.PWR_STAT.RDY d) (u.stage - 1) = true ∧ t.domain d = s.domain d) ∧
    (∀ (u : DomUp), s.phaseOf d = .rising u → u.stage = 4 → u.queued = none → 
      Does (.powerStageReady d) s fun t => t.get (R.PWR_STAT.STATE d) = 2 ∧ t.get (R.PWR_STAT.RDY d) = 15) ∧
    (∀ (u : DomUp), s.phaseOf d = .rising u → u.stage < 8 → 
      Does (.powerStageTimeout d) s fun t => t.get (R.PWR_STAT.FAIL d) = 1 ∧ t.get (R.PWR_STAT.FAIL_STAGE d) = u.stage ∧ t.get (R.PWR_STAT.STATE d) = 0) ∧
    (∀ (e : DomEntry), s.phaseOf d = .entering e → e.wake = false → e.point < 2 → 
      Does (.powerEntryDrainDone d) s fun t => t.phaseOf d = .entering { e with point := e.point + 1 } ∧ t.domain d = s.domain d) ∧
    (∀ (e : DomEntry), s.phaseOf d = .entering e → e.wake = true → e.next = none → Sparse.rising s.domPhase = true → 
      Does (.powerEntryDrainDone d) s fun t => t.phaseOf d = .steady ∧ t.get (R.PWR_REQ.REQ d) = 2 ∧ t.domain d = s.domain d ∧ t.get (R.PWR_STAT.ABORTS d) = satAdd (R.PWR_STAT.ABORTS d).width (s.get (R.PWR_STAT.ABORTS d)) 1) ∧
    (∀ (e : DomEntry), s.phaseOf d = .entering e → e.wake = false → e.next = none → e.point = 2 → e.target < 2 → 
      Does (.powerEntryDrainDone d) s fun t => t.get (R.PWR_STAT.STATE d) = e.target ∧ t.get (R.PWR_STAT.RDY d) = 0)

/-- Losses and returns of supply, and seals of the luggage bank. The loss of main power shows SRC, sets bit 2 of CURFEW_CAUSE and starts a seal; its end clears the bit; its return clears SRC. VBAK below retention latches only while on VBAK; a measurement shows VBAK_MV and below 2,700 mV on main power VBAK_LOW. A requested or due seal makes one be in progress, and a seal that ends shows SEALED. A read of LUG_DATA returns the addressed word and goes on to the next; a write in the HOST area of an unsealed bank stores there and nowhere else, and below that area only sets REJ. (R558, R567, R569, R570, R572, R580, R591) -/
def Obligations.MainSupplyAndLuggageSeal : Prop :=
  ∀ (s : State), 
    (∀ (m : Bool), m = false ∨ s.mode ≠ 5 ∨ s.on R.MODE_STAT.SD_DONE = true → s.on R.LEDGER_CTL.EN = false → 
      Does (.mainloss m) s fun t => t.get R.SUP_STAT.SRC = 1 ∧ t.bitOf R.CURFEW_CAUSE.CAUSE 2 = true ∧ t.sup.sealing = true) ∧
    (s.pendMode = none → 
      Does .mainlossClear s fun t => t.bitOf R.CURFEW_CAUSE.CAUSE 2 = false ∧ LeavesRec s t [R.CURFEW_CAUSE.CAUSE] []) ∧
    (Does .mainPowerReturn s fun t => t.get R.SUP_STAT.SRC = 0 ∧ Leaves s t [R.SUP_STAT.SRC] []) ∧
    (s.on R.SUP_STAT.SRC = true → 
      Does .vbakRetentionLow s fun t => t.get R.SUP_STAT.LATCH = 1 ∧ Leaves s t [R.SUP_STAT.LATCH] []) ∧
    (s.on R.SUP_STAT.SRC = false → Does .vbakRetentionLow s fun t => t = s) ∧
    (∀ (mv : Nat), 
      Does (.vbakMeasure mv) s fun t => t.get R.SUP_STAT.VBAK_MV = min mv 4095 ∧ LeavesRec s t [R.SUP_STAT.VBAK_MV, R.SUP_STAT.VBAK_LOW] []) ∧
    (∀ (mv : Nat), mv < 2700 → s.on R.SUP_STAT.SRC = false → Does (.vbakMeasure mv) s fun t => t.get R.SUP_STAT.VBAK_LOW = 1) ∧
    (∀ (mv : Nat), 2700 ≤ mv ∨ s.on R.SUP_STAT.SRC = true → 
      Does (.vbakMeasure mv) s fun t => t.get R.SUP_STAT.VBAK_LOW = s.get R.SUP_STAT.VBAK_LOW) ∧
    (Does .luggageSealRequest s fun t => t.get R.LUG_CTL.SEAL = 1 ∧ t.sup.sealing = true ∧ Leaves { s with sup := { s.sup with bank := t.sup.bank } } t [R.LUG_CTL.SEAL] []) ∧
    (s.sup.sealing = true → s.sup.waiting = [] → 
      Does .luggageSealDone s fun t => t.sup.sealing = false ∧ t.get R.LUG_CTL.SEALED = 1 ∧ t.get R.LUG_CTL.SEAL = 0 ∧ SameBytesOutside s.sup.bank t.sup.bank lugSeal 16) ∧
    (s.mode = 4 ∨ s.mode = 5 → s.on R.LUG_CTL.SEALED = false → Does .luggageResealTimer s fun t => t.sup.sealing = true) ∧
    (Does .lugDataRead s fun t => t.out = .readData 0xA0010 (s.lugRead (4 * s.get R.LUG_ADDR.ADDR) 4) :: s.out ∧ t.get R.LUG_ADDR.ADDR = (s.get R.LUG_ADDR.ADDR + 1) % 2 ^ R.LUG_ADDR.ADDR.width ∧ Leaves s t [R.LUG_ADDR.ADDR] []) ∧
    (∀ (v : Nat), 0x100000 ≤ 4 * s.get R.LUG_ADDR.ADDR → s.sup.sealing = false → s.on R.LUG_CTL.SEALED = false → v < 2 ^ 32 → 
      Does (.lugDataWrite v) s fun t => t.lugRead (4 * s.get R.LUG_ADDR.ADDR) 4 = v ∧ SameBytesOutside s.sup.bank t.sup.bank (4 * s.get R.LUG_ADDR.ADDR) 4 ∧ t.get R.LUG_ADDR.ADDR = (s.get R.LUG_ADDR.ADDR + 1) % 2 ^ R.LUG_ADDR.ADDR.width) ∧
    (∀ (v : Nat), 4 * s.get R.LUG_ADDR.ADDR < 0x100000 → 
      Does (.lugDataWrite v) s fun t => t.get R.LUG_CTL.REJ = 1 ∧ t.sup.bank = s.sup.bank)

/-- The RTC counts seconds to its limit, is set from a valid date and time, and is latched by a read. A second raises the RTC by one up to 2399-12-31 23:59:59 and shows RUNNING. A valid date and time set the seconds since 2000-01-01, VALID, and end any latch; an invalid one only sets CAL_REJECT. A read of RTC_SEC_LO returns it and latches the other parts. (R573, R574, R581) -/
def Obligations.RealTimeClock : Prop :=
  ∀ (s : State), 
    (Does .rtcSecond s fun t => t.rtc = min 12622780799 (s.rtc + 1) ∧ t.get R.RTC_STAT.RUNNING = 1) ∧
    (2000 ≤ s.get R.CAL_SET_DATE.YEAR → s.get R.CAL_SET_DATE.YEAR ≤ 2399 → 1 ≤ s.get R.CAL_SET_DATE.MONTH → s.get R.CAL_SET_DATE.MONTH ≤ 12 → 1 ≤ s.get R.CAL_SET_DATE.DAY → s.get R.CAL_SET_DATE.DAY ≤ monthDays (s.get R.CAL_SET_DATE.YEAR) (s.get R.CAL_SET_DATE.MONTH) → s.get R.CAL_SET_TIME.HOUR ≤ 23 → s.get R.CAL_SET_TIME.MIN ≤ 59 → s.get R.CAL_SET_TIME.SEC ≤ 59 → 
      Does .rtcCalCommit s fun t => t.rtc = 86400 * (yearDays (s.get R.CAL_SET_DATE.YEAR) + ((List.range (s.get R.CAL_SET_DATE.MONTH - 1)).map fun k => monthDays (s.get R.CAL_SET_DATE.YEAR) (k + 1)).sum +
        (s.get R.CAL_SET_DATE.DAY - 1)) + 3600 * s.get R.CAL_SET_TIME.HOUR + 60 * s.get R.CAL_SET_TIME.MIN + s.get R.CAL_SET_TIME.SEC ∧ t.get R.RTC_STAT.VALID = 1 ∧ t.rtcS.latch = none) ∧
    (s.get R.CAL_SET_DATE.YEAR < 2000 ∨ 2399 < s.get R.CAL_SET_DATE.YEAR ∨ s.get R.CAL_SET_DATE.MONTH = 0 ∨ 12 < s.get R.CAL_SET_DATE.MONTH ∨ s.get R.CAL_SET_DATE.DAY = 0 ∨ monthDays (s.get R.CAL_SET_DATE.YEAR) (s.get R.CAL_SET_DATE.MONTH) < s.get R.CAL_SET_DATE.DAY ∨ 23 < s.get R.CAL_SET_TIME.HOUR ∨ 59 < s.get R.CAL_SET_TIME.MIN ∨ 59 < s.get R.CAL_SET_TIME.SEC → 
      Does .rtcCalCommit s fun t => t = s.raise R.RTC_STAT.CAL_REJECT) ∧
    (Does .rtcSecLoRead s fun t => t.out = .readData 0xA0100 (s.get R.RTC_SEC_LO.SEC) :: s.out ∧ t.rtcS.latch = some (s.get R.RTC_SEC_HI.SEC, s.rtcDateWord, s.rtcTimeWord, s.rtcSub) ∧ Leaves s t [] [])

/-- A fall of RST_N holds the unit in reset, a rise starts it, and RESTART_FULL restarts an idle one. After RST_N falls no bay, key, unit command or pending change remains, memory way retention aside every register outside the AON block is at reset, and the unit is in reset; after it rises the unit is out of reset with no linked bay, command or key. RESTART_FULL in CONFIGURE with every memory channel UNUSED starts anew; otherwise it only sets ST_CTL.REJ. With the reference clock stopped every laser is off. (R583, R587, R594, R595, R632, R633) -/
def Obligations.ResetsAndStarts : Prop :=
  ∀ (s : State), 
    (∀ (m : Bool), 
      Does (.resetFall m) s fun t => t.bays = [] ∧ t.keys = [] ∧ t.fabKeys = [] ∧ t.units = [] ∧ t.pendMode = none ∧ t.sup.inReset = true ∧ t.sup.waiting = [] ∧ t.mode = 0 ∧ t.porter = {} ∧ t.caddy = {} ∧ t.seqs = [] ∧ t.banks = []) ∧
    (∀ (seen : StartSeen), seen.intlkLow = false → seen.aonLost = false → 
      Does (.resetRise seen) s fun t => (∀ n ∈ List.range s.variant.bays, (t.bay n).tags = [] ∧ (t.bay n).link = {}) ∧ t.keys = [] ∧ t.units = [] ∧ t.sup.inReset = false ∧ t.get R.SUP_STAT.LATCH = 0 ∧ t.get R.SUP_STAT.SRC = 0 ∧ t.mode = 0) ∧
    (∀ (seen : StartSeen), s.mode = 0 → ∀ ch ∈ dramChannels, s.get (R.DRAM_STAT.STATE ch) = CH.UNUSED → 
      Does (.restartFull seen) s fun t => (∀ n ∈ List.range s.variant.bays, (t.bay n).tags = [] ∧ (t.bay n).link = {}) ∧ t.keys = [] ∧ t.units = [] ∧ t.sup.inReset = false ∧ t.get R.SUP_STAT.LATCH = 0) ∧
    (∀ (seen : StartSeen), s.mode ≠ 0 ∨ ¬ ∀ ch ∈ dramChannels, s.get (R.DRAM_STAT.STATE ch) = CH.UNUSED → 
      Does (.restartFull seen) s fun t => t = s.raise R.ST_CTL.REJ) ∧
    (Does .referenceClockStop s fun t => (∀ n ∈ List.range s.variant.bays, (t.bay n).link.lasers = 0 ∧ (t.bay n).writing.powers = []) ∧ t.regs = s.regs ∧ t.dram = s.dram ∧ t.keys = s.keys)

/-- SELFTEST ends with SD_DONE and every domain off; test access; BAY ENABLE. When SELFTEST ends in SHUTDOWN, SD_DONE is set and every switched domain is OFF, and when it ran no key is left; in another mode nothing happens. An internal scan leaves no bay, key or memory content; a boundary-scan instruction changes nothing. ENABLE in BRINGUP with nothing missing takes an unsuspended bay to EMPTY, and a refused one only sets REJ. (R562, R589, R590, R593, R638) -/
def Obligations.SelftestTestAccessAndBayEnable : Prop :=
  ∀ (s : State), 
    (∀ (seen : TestSeen), s.mode = 5 → s.on R.MODE_STAT.SD_DONE = false → s.sup.sealing = false → 
      Does (.selftestDone seen) s fun t => t.get R.MODE_STAT.SD_DONE = 1 ∧ ∀ d ∈ List.range 161, d ≠ 152 → t.get (R.PWR_STAT.STATE d) = 0) ∧
    (∀ (seen : TestSeen), s.mode = 5 → s.on R.MODE_STAT.SD_DONE = false → (s.envFails seen.running seen.vdd seen.ref seen.temp).any (· == true) = false → 
      Does (.selftestDone seen) s fun t => t.keys = [] ∧ t.fabKeys = []) ∧
    (∀ (seen : TestSeen), s.mode ≠ 5 ∨ s.on R.MODE_STAT.SD_DONE = true → Does (.selftestDone seen) s fun t => t = s) ∧
    (Does .tapInternalScan s fun t => t.bays = [] ∧ t.keys = [] ∧ t.dram = [] ∧ t.units = []) ∧
    (Does .tapBoundaryInstruction s fun t => t = s) ∧
    (∀ (n : Nat), n < s.variant.bays → s.get (R.STATE.STATE n) = BS.BRINGUP → s.bayMissing n = 0 → s.on (R.BAY_CTL.SUSP n) = false → 
      Does (.bayEnable n) s fun t => t.get (R.STATE.STATE n) = BS.EMPTY) ∧
    (∀ (n : Nat), n < s.variant.bays → s.get (R.STATE.STATE n) ≠ BS.BRINGUP ∨ s.bayMissing n ≠ 0 → 
      Does (.bayEnable n) s fun t => t = s.raise (R.BAY_CTL.REJ n))

/-- The ledger and the global trace start, stop and free their space. A record written with nothing behind it leaves the writer free. A ring short of room for its hold time drops every counted event and sets OVERRUN. A head below SIZE becomes HEAD; another sets BAD_HEAD. Enabling starts the ring at TAIL 0 with the early records first; disabling clears EN. ARM starts an empty capture, FORCE fires comparator 4, and a triggered capture that is full ends. (R604, R605, R606, R610, R613, R615) -/
def Obligations.LedgerAndGlobalTraceControl : Prop :=
  ∀ (s : State), 
    (s.flushing = [] → s.ledger.earlyLost = 0 → s.ledger.nextSafety = none → s.ledger.drops = 0 → s.ledger.held = none → s.ledger.coal = none → s.ledger.slots = [] → 
      Does .ledgerWriteDone s fun t => t.ledger.writing = false ∧ LeavesRec s t [] []) ∧
    (∀ (e : Event), s.on R.LEDGER_CTL.EN = true → s.ledgerFree ≤ 16 → s.ledger.held = some e → 
      Does .ledgerHoldExpire s fun t => t.ledger.slots = [] ∧ t.get R.LEDGER_STAT.OVERRUN = 1 ∧ LeavesRec s t [] []) ∧
    (s.on R.LEDGER_CTL.EN = false ∨ 16 < s.ledgerFree → Does .ledgerHoldExpire s fun t => t = s) ∧
    (∀ (h : Nat), h < s.ledgerSize → Does (.ledgerHeadWrite h) s fun t => t.get R.LEDGER_HEAD.HEAD = h ∧ LeavesRec s t [] []) ∧
    (∀ (h : Nat), s.ledgerSize ≤ h → h < 2 ^ 20 → Does (.ledgerHeadWrite h) s fun t => t = s.raise R.LEDGER_STAT.BAD_HEAD) ∧
    (s.on R.LEDGER_CTL.EN = false → s.ledger.flush = [] → s.ledger.early = [] → s.ledger.writing = true → 
      Does .ledgerEnable s fun t => t.get R.LEDGER_CTL.EN = 1 ∧ t.get R.LEDGER_TAIL.TAIL = 0 ∧ t.get R.LEDGER_TAIL.PHASE = 1 ∧ t.ledger.enabledOnce = true ∧ LeavesRec s t [] []) ∧
    (∀ (r : Record) (rest : List Record), s.on R.LEDGER_CTL.EN = false → s.ledger.flush = [] → s.ledger.early = r :: rest → s.ledger.writing = true → 
      Does .ledgerEnable s fun t => t.get R.LEDGER_CTL.EN = 1 ∧ t.ledger.early = [] ∧ t.ledger.flush = r :: rest) ∧
    (s.on R.LEDGER_CTL.EN = true → Does .ledgerDisable s fun t => t.get R.LEDGER_CTL.EN = 0) ∧
    (Does .gtrcArm s fun t => t.get R.GTRC_STAT.ACTIVE = 1 ∧ t.get R.GTRC_STAT.TRIGGERED = 0 ∧ t.get R.GTRC_STAT.DONE = 0 ∧ t.gtrc.buf = [] ∧ Leaves s t [R.GTRC_STAT.ACTIVE, R.GTRC_STAT.TRIGGERED, R.GTRC_STAT.DONE, R.GTRC_ARM.TRIG_MASK, R.GTRC_STAT.FIRST, R.GTRC_STAT.TRIG_IDX] []) ∧
    (s.on R.GTRC_STAT.ACTIVE = false ∨ s.on R.GTRC_STAT.TRIGGERED = false → 
      Does .gtrcForce s fun t => t.get R.GTRC_ARM.FORCE = 1 ∧ Leaves s t [R.GTRC_ARM.FORCE] []) ∧
    (s.on R.GTRC_STAT.ACTIVE = true → s.on R.GTRC_STAT.TRIGGERED = true → Does .gtrcForce s fun t => t = s) ∧
    (s.on R.GTRC_STAT.ACTIVE = true → s.on R.GTRC_STAT.TRIGGERED = true → traceSize ≤ s.gtrc.buf.length → 
      Does .gtrcCaptureDone s fun t => t.get R.GTRC_STAT.ACTIVE = 0 ∧ t.get R.GTRC_STAT.DONE = 1 ∧ LeavesRec s t [] [])

/-- Reserved offsets read zero and discard writes; a bad width comes first. A read of a reserved offset returns zero and a write of it is discarded; neither changes anything else or writes a record. An access of another width, or misaligned, to a reserved offset still returns all ones or writes REG_BAD_WIDTH with the offset and the width. (R618) -/
def Obligations.ReservedOffsetsReadZero : Prop :=
  ∀ (off : Nat) (s : State), reservedOffset off = true → s.sup.inReset = false → 
    (off % 4 = 0 → Does (.rcFieldRead off) s fun t => t = s.emit (.readData off 0)) ∧
    (∀ (v : Nat), off % 4 = 0 → Does (.registerWrite off v) s fun t => t = s) ∧
    (∀ (w : Nat), w ≠ 4 ∨ off % 4 ≠ 0 → 0x40000 ≤ off → 
      Does (.badWidthAccess false off w) s fun t => t = s.emit (.readData off (2 ^ (8 * w) - 1))) ∧
    (∀ (w : Nat), w ≠ 4 ∨ off % 4 ≠ 0 → 0x40000 ≤ off → 
      Does (.badWidthAccess true off w) s fun t => t = s.record srcRegs 0x1501 [off, w, 0])

/-- KEY_DATA[w] is write-only, resets to 0 and holds one word of key bytes. Every KEY_DATA[w] at 0x0100 + 4w of the fixity-and-crypto block is 0 after reset; a write of it puts the word there and changes nothing else; a read returns zero and changes nothing. Without a crypto unit a write changes nothing and a read returns zero. (R441) -/
def Obligations.KeyDataRegisters : Prop :=
  ∀ (w : Nat) (s : State), w < 16 → s.sup.inReset = false → 
    (State.reset.get (R.KEY_DATA.DATA w) = 0) ∧
    (∀ (v : Nat), s.variant.crypto = true → v < 2 ^ 32 → 
      Does (.registerWrite (0x80100 + 4 * w) v) s fun t => t.get (R.KEY_DATA.DATA w) = v ∧ Leaves s t [R.KEY_DATA.DATA w] []) ∧
    (∀ (v : Nat), s.variant.crypto = false → Does (.registerWrite (0x80100 + 4 * w) v) s fun t => t = s) ∧
    (Does (.rcFieldRead (0x80100 + 4 * w)) s fun t => t = s.emit (.readData (0x80100 + 4 * w) 0))

/-- A pair is written by its halves, a read of a low half latches, and an RC field is cleared by its read. With Porter off, a write of DB_BASE_LO is staged and changes no register; a write of DB_BASE_HI then puts both halves in use. A read of DB_BASE_LO returns it and latches the high half. A write of POLL puts IDLE and BUSY. A read of a register that is no pair and has no effect of its own returns its value, clears its RC fields and changes no other register. (R12, R13, R362, R363, R364) -/
def Obligations.RegisterPairsAndReadClears : Prop :=
  ∀ (s : State), s.sup.inReset = false → 
    (∀ (v : Nat), s.on R.PORTER_CTL.ENABLE = false → 
      Does (.pairLoWrite 0x10004 v) s fun t => t.staged = s.staged.put 0x10004 (v % 2 ^ 32) ∧ Leaves s t [] []) ∧
    (∀ (v lo : Nat), s.on R.PORTER_CTL.ENABLE = false → s.staged.find? (fun e => e.1 == 0x10004) = some (0x10004, lo) → v < 2 ^ 32 → 
      Does (.pairHiWrite 0x10008 v) s fun t => t.get R.DB_BASE_LO.ADDR = lo / 2 ^ 12 % 2 ^ 20 ∧ t.get R.DB_BASE_HI.ADDR = v ∧ Leaves s t [R.DB_BASE_LO.ADDR, R.DB_BASE_HI.ADDR] []) ∧
    (∀ (v : Nat), s.on R.PORTER_CTL.ENABLE = true → 
      Does (.pairHiWrite 0x10008 v) s fun t => t = s.raise R.PORTER_STAT.CFG_REJ) ∧
    (Does (.pairLoRead 0x10004) s fun t => t.out = .readData 0x10004 (4096 * s.get R.DB_BASE_LO.ADDR) :: s.out ∧ t.latched = s.latched.put 0x10004 (s.get R.DB_BASE_HI.ADDR) ∧ Leaves s t [] []) ∧
    (∀ (v : Nat), v < 2 ^ 32 → 
      Does (.registerWrite 0x10010 v) s fun t => t.get R.POLL.IDLE = v / 2 ^ 16 ∧ t.get R.POLL.BUSY = v % 2 ^ 16 ∧ Leaves s t [R.POLL.IDLE, R.POLL.BUSY] []) ∧
    (∀ (off : Nat), (regAt off).isSome = true → s.hidden off = false → off < 0x800000 ∨ 0x1000000 ≤ off → pairOf true off = none → pairOf false off = none → off ≠ 0xA0100 → off ≠ 0xA0010 → 
      Does (.rcFieldRead off) s fun t => t.out = .readData off (s.regValue off) :: s.out ∧ (∀ r ∈ (regAt off).getD [], r.acc = .rc → t.get r.field = 0) ∧
        Leaves s t ((((regAt off).getD []).filter fun r => r.acc == .rc).map (·.field)) [])
end

