-- ==== Sys2Proof/WellFormed.lean ====
section
/-!
DEFINITION. Which terms of `Instr` are commands: every operand that names a register of an array, a requester, a tag or a written value
lies in the range that the spec gives it.  Operands that say what the outside did (frames, measured values, answers) have no range.
-/

namespace Sys2Proof.WellFormed

/-- A bay of the largest variant (R2). -/
def isBay (n : Nat) : Bool := decide (n < 128)
/-- A command tag (R346). -/
def isTag (t : Nat) : Bool := decide (t < 64)
/-- A fabric port (R522). -/
def isPort (p : Nat) : Bool := decide (p < 2)
/-- A sequencer cluster (R29, R514). -/
def isCluster (c : Nat) : Bool := decide (c < 4)
/-- A sequencer (R518). -/
def isSeq (q : Nat) : Bool := decide (q < 32)
/-- A submit or receipt ring (R342). -/
def isRing (r : Nat) : Bool := decide (r < 256)
/-- A buffer class (R464). -/
def isClass (c : Nat) : Bool := decide (c < 4)
/-- A power domain (R29, R563). -/
def isDomain (d : Nat) : Bool := decide (d < 163)
/-- A Caddy region (R482). -/
def isRegion (r : Nat) : Bool := decide (r < 16)
/-- A fabric window (R532). -/
def isWindow (w : Nat) : Bool := decide (w < 16)
/-- A cache way (R457). -/
def isWay (w : Nat) : Bool := decide (w < 16)
/-- A Caddy requester (R463). -/
def isId (i : Nat) : Bool := decide (i < 256)
/-- A buffer address (R466). -/
def isPtr (p : Nat) : Bool := decide (p < 2 ^ 41)
/-- A BAR 0 offset (R617). -/
def isOffset (o : Nat) : Bool := decide (o < 2 ^ 25)
/-- A control-store bank (R500). -/
def isBank (b : Nat) : Bool := decide (b < 2)
/-- One of eight: loop slots (R110), scratch slots (R478), DRAM channels (R473). -/
def isSlot8 (k : Nat) : Bool := decide (k < 8)
/-- An 8-bit value. -/
def isByte (v : Nat) : Bool := decide (v < 256)
/-- A 16-bit value. -/
def isHalf (v : Nat) : Bool := decide (v < 65536)
/-- A 32-bit value. -/
def isWord (v : Nat) : Bool := decide (v < 2 ^ 32)
/-- A 2-bit value. -/
def isTwoBits (v : Nat) : Bool := decide (v < 4)
/-- A bit. -/
def isBit (v : Nat) : Bool := decide (v < 2)
/-- A DMA channel (R356). -/
def isChannel (c : Nat) : Bool := decide (c < 389)
/-- A microword address (R487). -/
def isWordAddr (a : Nat) : Bool := decide (a < 32768)
/-- An instant of the angle clock in 1/64 base period (R89). -/
def isInstant (t : Nat) : Bool := decide (t < 2 ^ 38)
/-- A place on the event timeline (R98). -/
def isEvent (i : Nat) : Bool := decide (i < 128)

end Sys2Proof.WellFormed

namespace Sys2Proof

open WellFormed

/-- Whether a term is a command. -/
def Instr.wf : Instr → Bool
  | .badWidthAccess _ offset _ => isOffset offset
  | .pairLoWrite offset value => isOffset offset && isWord value
  | .pairHiWrite offset value => isOffset offset && isWord value
  | .pairLoRead offset => isOffset offset
  | .rcFieldRead offset => isOffset offset
  | .registerWrite offset value => isOffset offset && isWord value
  | .angleEventFire bay index now _ => isBay bay && isEvent index && isInstant now
  | .rfFrameReceive bay _ => isBay bay
  | .servoFrameReceive bay _ => isBay bay
  | .motorFrameReceive bay _ _ now _ _ => isBay bay && isInstant now
  | .motorFrameMissing bay _ _ _ => isBay bay
  | .encoderFrameReceive bay _ => isBay bay
  | .statusFrameReceive bay _ => isBay bay
  | .alertFrameReceive bay _ => isBay bay
  | .cfgRspReceive bay _ => isBay bay
  | .echoResponseReceive bay _ _ => isBay bay
  | .presenceSample bay _ => isBay bay
  | .bayResetRelease bay => isBay bay
  | .upstreamBlockLock bay => isBay bay
  | .trainTimeout bay => isBay bay
  | .trainRetry bay => isBay bay
  | .linkLossSyncErrors bay => isBay bay
  | .linkLossStatusTimeout bay => isBay bay
  | .linkWithdraw bay => isBay bay
  | .drainTimeout bay => isBay bay
  | .bayHostReset bay => isBay bay
  | .feAccessGo bay => isBay bay
  | .feAccessTimeout bay => isBay bay
  | .alertPinTimeout bay => isBay bay
  | .interlockFall => true
  | .loffRepeat => true
  | .adcRateWrite bay rate => isBay bay && isTwoBits rate
  | .wedgeDetection bay tau _ _ => isBay bay && isInstant tau
  | .wedgeDecision bay now => isBay bay && isInstant now
  | .toothReport bay tau _ => isBay bay && isInstant tau
  | .toothSynthesis bay now => isBay bay && isInstant now
  | .acqTimeout bay => isBay bay
  | .bridgeExpire bay => isBay bay
  | .servoUpdate bay slot => isBay bay && isSlot8 slot
  | .loopCommit bay mask => isBay bay && isByte mask
  | .loopCommitApply bay slot => isBay bay && isSlot8 slot
  | .srvEnWrite bay mask => isBay bay && isByte mask
  | .srvAutoWrite bay mask => isBay bay && isByte mask
  | .srvManWrite bay slot value => isBay bay && isSlot8 slot && isWord value
  | .repTableClear bay => isBay bay
  | .defectHoldOverrun bay => isBay bay
  | .traceArm bay => isBay bay
  | .traceForce bay => isBay bay
  | .infusionStart bay => isBay bay
  | .infusionStop bay => isBay bay
  | .focusSweepEnd bay => isBay bay
  | .focusSettleEnd bay => isBay bay
  | .layerProbeFail bay => isBay bay
  | .trackingCloseTimeout bay => isBay bay
  | .ljKickEnd bay => isBay bay
  | .ljBrakeEnd bay => isBay bay
  | .ljCloseTimeout bay => isBay bay
  | .ljSettleEnd bay => isBay bay
  | .tjKickEnd bay => isBay bay
  | .tjBrakeEnd bay => isBay bay
  | .tjSettleEnd bay => isBay bay
  | .fallbackClearWrite bay mask => isBay bay && isHalf mask
  | .recoveryTimeout bay => isBay bay
  | .spinAlignEnd bay => isBay bay
  | .spinHandoverTimeout bay => isBay bay
  | .spinSpeedStepTimeout bay => isBay bay
  | .spinDirWrite bay dir => isBay bay && isBit dir
  | .zeroCrossingTimeout bay => isBay bay
  | .coastStoppedTimeout bay => isBay bay
  | .speedRegulationTimeout bay => isBay bay
  | .stepperGo bay _ _ => isBay bay
  | .stepperOff bay _ _ => isBay bay
  | .stepperHold bay _ _ => isBay bay
  | .stepperFollow bay _ _ => isBay bay
  | .stepperHome bay _ _ => isBay bay
  | .stepperPark bay _ => isBay bay
  | .plannerTick bay => isBay bay
  | .stepperArrived bay _ => isBay bay
  | .homeHoldEnd bay _ => isBay bay
  | .stallResync bay => isBay bay
  | .encFaultClear bay => isBay bay
  | .zoneEntryFetchDone bay _ => isBay bay
  | .sectorPreambleStart bay _ => isBay bay
  | .detectorPassDone bay => isBay bay
  | .otfDecodeDone bay => isBay bay
  | .sectorCrcCheck bay => isBay bay
  | .captureGrantTimeout bay _ => isBay bay
  | .recoveryDecodeStart bay => isBay bay
  | .recoveryDecodeDone bay => isBay bay
  | .extentReconDone bay _ _ => isBay bay
  | .ladderTimeout bay tag _ => isBay bay && isTag tag
  | .dmaReadDone bay tag _ => isBay bay && isTag tag
  | .dlCommitAgeTimer bay => isBay bay
  | .dlCommitRequest bay => isBay bay
  | .dlCommitDone bay _ _ _ => isBay bay
  | .journalRelease bay => isBay bay
  | .journalReleaseAll bay => isBay bay
  | .calRequest bay => isBay bay
  | .calTimeout bay => isBay bay
  | .calTempCheck bay => isBay bay
  | .doorbellWake => true
  | .doorbellPollTimer => true
  | .doorbellFetchDone _ _ => true
  | .waybillReadDone ring _ => isRing ring
  | .waybillAdmit ring _ => isRing ring
  | .hostReadFail channel _ _ _ _ => isChannel channel
  | .hostReadCplTimeout channel _ _ _ => isChannel channel
  | .dmaRestart channel => isChannel channel
  | .receiptWrite => true
  | .coalesceTimer ring => isRing ring
  | .vectorUnmask _ => true
  | .busMasterEnable => true
  | .pcieReset _ => true
  | .subRingEnable ring => isRing ring
  | .subRingDisable ring => isRing ring
  | .rcpRingEnable ring => isRing ring
  | .rcpRingDisable ring => isRing ring
  | .mount bay tag _ _ _ _ => isBay bay && isTag tag
  | .unmount bay tag _ _ _ _ => isBay bay && isTag tag
  | .read bay tag => isBay bay && isTag tag
  | .write bay tag _ _ => isBay bay && isTag tag
  | .verifyRange bay tag => isBay bay && isTag tag
  | .verifyJournal bay tag _ _ _ => isBay bay && isTag tag
  | .flush bay tag _ _ _ => isBay bay && isTag tag
  | .closeExtent bay tag _ _ => isBay bay && isTag tag
  | .closeExtentAbandon bay tag => isBay bay && isTag tag
  | .mediaScan bay tag => isBay bay && isTag tag
  | .partitionCreate bay tag _ _ _ _ => isBay bay && isTag tag
  | .partitionRetire bay tag _ _ _ _ => isBay bay && isTag tag
  | .keyBind bay tag => isBay bay && isTag tag
  | .tableLoadRaw _ _ _ => true
  | .tableLoadZone _ _ _ => true
  | .tableReadDram _ _ => true
  | .tableReadRawSlot bay tag => isBay bay && isTag tag
  | .stripeEncode _ _ => true
  | .stripeRebuild _ _ => true
  | .fixity _ _ _ _ => true
  | .fabricSend _ _ _ => true
  | .mode _ => true
  | .modeSystemProposal _ => true
  | .customerOpcode bay _ _ => (isBay bay || bay == 0xFF)
  | .rangeLockGrant bay tag => isBay bay && isTag tag
  | .schedDecision bay => isBay bay
  | .ageDeadline bay _ => isBay bay
  | .stripeSegmentDone _ _ _ => true
  | .keyLoad => true
  | .keyClear => true
  | .keyClearAll => true
  | .dramTrain => true
  | .dramResume => true
  | .dramTrainDone channel _ => isSlot8 channel
  | .dramFillDone channel => isSlot8 channel
  | .dramCfgWrite channel value => isSlot8 channel && isWord value
  | .scrubGo => true
  | .scrubStop _ _ => true
  | .scrubPassEnd _ => true
  | .dramRetire => true
  | .dramRetireDone => true
  | .cacheWayDisable mask => isHalf mask
  | .cacheWayCleanDone way => isWay way
  | .scratchEnable slot => isSlot8 slot
  | .scratchFillDone slot => isSlot8 slot
  | .scratchDisable slot => isSlot8 slot
  | .cacheClean => true
  | .cacheCleanInv => true
  | .cacheZeroLine => true
  | .evictionWriteback => true
  | .caddyEnable _ => true
  | .caddyRegionEnable region => isRegion region
  | .caddyRequest id cls => isId id && isClass cls
  | .caddyGrant => true
  | .caddyShare id newId cls ptr => isId id && isId newId && isClass cls && isPtr ptr
  | .caddyRelease id cls ptr => isId id && isClass cls && isPtr ptr
  | .caddyReclaim => true
  | .microwordExecute seq _ _ => isSeq seq
  | .memPortAnswer seq => isSeq seq
  | .cpPortAnswer seq => isSeq seq
  | .baySeqMove bay => isBay bay
  | .seqRelease seq => isSeq seq
  | .seqReset seq => isSeq seq
  | .seqDiagHalt seq => isSeq seq
  | .seqStep seq _ _ => isSeq seq
  | .seqResume seq => isSeq seq
  | .csLoad cluster => isCluster cluster
  | .csLoadDone cluster _ => isCluster cluster
  | .csVerify cluster => isCluster cluster
  | .csVerifyDone cluster _ => isCluster cluster
  | .csActivate cluster => isCluster cluster
  | .activateTimeout cluster => isCluster cluster
  | .csConfirm cluster => isCluster cluster
  | .csRevert cluster => isCluster cluster
  | .confirmTimeout cluster => isCluster cluster
  | .csWindowWrite cluster bank addr value => isCluster cluster && isBank bank && isWordAddr addr && isWord value
  | .ustoreSelWrite cluster value => isCluster cluster && isByte value
  | .fabricPortEnable mask => isTwoBits mask
  | .fabricLinkChange port _ _ => isPort port
  | .stOpenReceive port _ _ => isPort port
  | .stAcceptReceive port _ _ => isPort port
  | .stRefuseReceive port _ => isPort port
  | .stDataReceive port _ _ => isPort port
  | .stAckReceive port _ _ => isPort port
  | .stStaleReceive port _ => isPort port
  | .stAbortReceive port _ => isPort port
  | .neighborSolicitation port _ _ => isPort port
  | .icmpEchoRequest port _ => isPort port
  | .rtoExpire _ _ _ _ => true
  | .ackDelayTimer _ _ _ => true
  | .peerTimeout _ _ _ => true
  | .epochHoldExpire _ => true
  | .rollCallReceive _ => true
  | .modeProposeReceive _ => true
  | .modeAckReceive _ => true
  | .chainAlertReceive _ => true
  | .chainFrameBadCrc => true
  | .proposerDeadline _ => true
  | .modeProposalDeadline => true
  | .staleEpochWaybillTimeout bay => isBay bay
  | .mcClearId => true
  | .epochWrite value => isWord value
  | .epochCancel => true
  | .fabKeyLoad => true
  | .fabKeyClear => true
  | .fabWindowEnable window _ => isWindow window
  | .dieTempCurfew _ => true
  | .dieTempClear _ => true
  | .tempWarn _ => true
  | .mainloss _ => true
  | .mainlossClear => true
  | .mainPowerReturn => true
  | .heartbeatExpire => true
  | .hbKick => true
  | .curfewCauseClearWrite value _ => isWord value
  | .selftestDone _ => true
  | .powerRequest domain value => isDomain domain && isWord value
  | .powerStageReady domain => isDomain domain
  | .powerStageTimeout domain => isDomain domain
  | .powerEntryDrainDone domain => isDomain domain
  | .vbakRetentionLow => true
  | .vbakMeasure _ => true
  | .luggageSealRequest => true
  | .luggageSealDone => true
  | .luggageResealTimer => true
  | .lugDataRead => true
  | .lugDataWrite value => isWord value
  | .rtcSecond => true
  | .rtcCalCommit => true
  | .rtcSecLoRead => true
  | .resetRise _ => true
  | .resetFall _ => true
  | .restartFull _ => true
  | .bayEnable bay => isBay bay
  | .tapInternalScan => true
  | .tapBoundaryInstruction => true
  | .ledgerWriteDone => true
  | .ledgerHoldExpire => true
  | .ledgerHeadWrite value => isWord value
  | .ledgerEnable => true
  | .ledgerDisable => true
  | .gtrcArm => true
  | .gtrcForce => true
  | .gtrcCaptureDone => true
  | .upstreamBlockLockLoss bay => isBay bay
  | .feTempValidExpire bay => isBay bay
  | .bayPortAnswer seq => isSeq seq
  | .gapRevolutionElapsed bay => isBay bay
  | .priorityFlowControlReceive port _ => isPort port
  | .mcInSymbolLock _ => true
  | .referenceClockStop => true
  | .busMasterEnableClear _ => true

end Sys2Proof
end

