-- ==== Sys2Proof/Tests/Slice0.lean ====
section
/-!
SUPPORT. Small tests of single steps, ill-formed terms that well-formedness refuses, and for every statement that has hypotheses a state
and operands that meet them (`wit_…`).
-/

set_option linter.unusedVariables false
set_option maxRecDepth 20000
set_option Elab.async false

namespace Sys2Proof.Tests

open Sys2Proof Sys2Proof.Machine

/-! ## Small states -/

/-- The state after reset with hidden state in bay 0, in `SERVICE`. -/
def wBay (b : Bay) : State := ({ State.reset with bays := [(0, b)] } : State).put R.MODE_STAT.MODE 1
/-- Bay 0 in a stage of training, its reset pin high. -/
def wLink (p : TrainPhase) : State := wBay { link := { rstHigh := true, phase := p, cfg := .feId } }
/-- Bay 0 with its link up. -/
def wUp : State := (wBay { link := { rstHigh := true, phase := .up } }).put (R.LINK_STAT.UP 0) 1
/-- Bay 0 with its link up, hidden state `b` otherwise. -/
def wUpB (b : Bay) : State := (wBay { b with link := { rstHigh := true, phase := .up } }).put (R.LINK_STAT.UP 0) 1
/-- Bay 0 in a state. -/
def wState (st : Nat) : State := State.reset.put (R.STATE.STATE 0) st
/-- Bay 0 in a state with hidden state `b`, in `SERVICE`. -/
def wIn (st : Nat) (b : Bay) : State := (wBay b).put (R.STATE.STATE 0) st
/-- An upstream frame of a type with its CRC. -/
def wFrame (typ : Nat) (data : List (BitVec 64)) : UpFrame :=
  { seq := 0, len := data.length, arg := 0, crc := crc16 (frameBytes typ ⟨0, data.length, 0, 0, data, false⟩), data := data, cut := false }
/-- A command of an opcode with a PARAM. -/
def wCmd (op : Nat) (param : List Byte) : Cmd := { id := 0, wb := ⟨op, 0, 0, 0, 5, 0, 0, 0, 0, 0, 0, param⟩, sring := 0, rring := 0 }
/-- Bay 0 in a state with one command under tag 0. -/
def wTag (st : Nat) (c : Cmd) : State := wIn st { tags := [c] }
/-- The state after reset with registers written. -/
def wRegs (l : List (Field × Nat)) : State := l.foldl (fun s e => s.put e.1 e.2) State.reset
/-- The same with an ARG and no payload. -/
def wFrameA (typ arg : Nat) : UpFrame :=
  { seq := 0, len := 0, arg := arg, crc := crc16 (frameBytes typ ⟨0, 0, arg, 0, [], false⟩), data := [], cut := false }
/-- A zone-table entry of (layer 0, zone 0) that a bay at ADC rate 2 may use. -/
def wEntry : List Byte := zSeal ([0, 0, 1, 2, 0xB8, 0x0B, 0xB8, 0x0B] ++ List.replicate 248 0)
/-- Memory channel 0 in use, 1 GiB, with bytes at an address. -/
def wDram (s : State) (a : Nat) (l : List Byte) : State :=
  ((s.put (R.DRAM_STAT.STATE 0) CH.READY).put (R.DRAM_STAT.SIZE 0) 1).dramWrite a l
/-- One frame on layer 0, track 0. -/
def wReadFrame : Frame := ⟨0, ⟨0, 0, 0⟩, 0, false, .running, false, false, [], [], [], []⟩
/-- A sector on the recovery ladder, its capture of the home slot waiting for a buffer. -/
def wRung : Rung := { tag := 0, item := 0, home := 64, psa := 64, step := 1, capture := some ⟨wReadFrame, 0⟩ }
/-- A unit command of an opcode under ID 0. -/
def wUnit (c : Cmd) : State := { wState BS.EMPTY with units := [c] }
/-- A chain frame of a type from unit 7, FSEQ 9, with the rest of its payload. -/
def wChain (typ : Nat) (rest : List Byte) : ChainFrame := chainBytes typ (bytesLE 2 7 ++ bytesLE 1 9 ++ rest)
/-- A host that lets requests issue, Porter on, in `SERVICE`. -/
def wHost : State := { ((wBay {}).put R.PORTER_CTL.ENABLE 1) with pcie := { busMaster := true, msixEnable := true } }
/-- A waybill of an opcode that reports to ring 0. -/
def wWaybill (op : Nat) : Waybill := ⟨op, 0, 0, 0xFF, 5, 0, 0, 0, 0, 0, 0, []⟩
/-- A receipt of ring 0. -/
def wReceipt : Receipt := ⟨0, 5, 0, 0, 0xFF, 0, 0, 0, 0, 0, 0, 0, false⟩
/-- Bay 0 in a state with one command, hidden state `b` otherwise. -/
def wTagB (st : Nat) (c : Cmd) (b : Bay) : State := wIn st { b with tags := [c] }
/-- A VERIFY of journal entry 0 with no slot left. -/
def wJournalCmd : Cmd := { wCmd Op.VERIFY [] with wb := { wWaybill Op.VERIFY with flags := 16, bay := 0 } }
/-- Items resolved as decoded. -/
def wItems (k : Nat) : Sparse Item := (List.range k).map fun i => (i, { outcome := 0, fail := 0 })
/-- The state after reset of the big part, with one unit command under ID 0. -/
def wUnitIn (c : Cmd) : State := { wHost with units := [c], variant := .ky8128 }
/-- Parameters of an opcode: bytes at offsets from 32. -/
def wParam (l : List (Nat × Byte)) : List Byte := (List.range 32).map fun i => Sparse.get 0 l i
/-- A part whose clusters have power. -/
def wSeq (st : Nat) : State := ((wBay {}).put (R.PWR_STAT.STATE 128) 2).put (R.SEQ_STAT.STATE 0) st
/-- A microword: G1 := G2 + G3 with the flags, then the next word. -/
def wWord : Nat := 2 + 3 * 2 ^ 7 |> fun src => src * 2 ^ 32 + 1 * 2 ^ 59 + 2 ^ 66
/-- A sequencer in a state on bank A, with a word at µPC 0. -/
def wSeqWord (st : Nat) : State :=
  { wSeq st with banks := [(0, { words := [(0, wWord)] })], seqs := [(0, { g := [(2, 40), (3, 2)] })] }
/-- The header of a KIND 2 patch of one word. -/
def wPatch : List Byte := [0x4B, 0x59, 0x55, 0x43, 1, 0, 2, 0] ++ List.replicate 6 0 ++ [1, 0] ++ List.replicate 48 0
/-- Unit 3 of epoch 5 in `SERVICE`, port 0 up, no authentication, with transfers. -/
def wFab (l : List Xfer) : State :=
  { ((((((wHost.put R.MC_UID.VALID 1).put R.MC_UID.ID 3).put R.EPOCH.EPOCH 5).put R.EPOCH_CTL.VALID 1).put R.FAB_CTL.EN 1).put R.FAB_CTL.AUTH 0).put
      (R.FP_STAT.LINK 0) 1 with fab := { xfers := l } }
/-- An unauthenticated frame of unit 7 to unit 3 about transfer 4. -/
def wFabFrame (kind flags : Nat) (payload : List Byte) : FabFrame :=
  let s := wFab []
  let h := fabHeader kind flags 7 3 5 4 0 0 payload.length
  { packet := ⟨s.fabMac 0, 0, some (s.acting R.FAB_NET.VID 1 4094), 0, 1, 0, 0, 0, s.fabAddr 0 3, 0, s.acting R.FAB_UDP.DPORT 1024 65535,
      h ++ bytesLE 4 (crc32 (h ++ payload)) ++ List.replicate 12 0 ++ payload⟩, intact := true }
/-- A transfer with unit 7. -/
def wXfer (own get : Bool) : Xfer :=
  { port := 0, auto := false, own := own, peer := 7, xid := 4, get := get, win := 0, wkey := 0, wofs := 0, len := 8, seg := 4, use := .window }

/-! ## Ill-formed terms: one value beyond the range of each check is refused, the last value inside it is not -/

theorem test_wf_isBay : Instr.wf (.bayEnable 128) = false ∧ Instr.wf (.bayEnable 127) = true := by decide
theorem test_wf_isOffset : Instr.wf (.pairLoRead (2 ^ 25)) = false ∧ Instr.wf (.pairLoRead 0x10004) = true := by decide
theorem test_wf_isWord : Instr.wf (.lugDataWrite (2 ^ 32)) = false ∧ Instr.wf (.lugDataWrite 0xFFFFFFFF) = true := by decide
theorem test_wf_isEvent : Instr.wf (.angleEventFire 0 128 0 .other) = false ∧ Instr.wf (.angleEventFire 0 127 0 .other) = true := by decide
theorem test_wf_isInstant : Instr.wf (.wedgeDecision 0 (2 ^ 38)) = false ∧ Instr.wf (.wedgeDecision 0 (2 ^ 38 - 1)) = true := by decide
theorem test_wf_isTwoBits : Instr.wf (.adcRateWrite 0 4) = false ∧ Instr.wf (.adcRateWrite 0 3) = true := by decide
theorem test_wf_isSlot8 : Instr.wf (.srvManWrite 0 8 0) = false ∧ Instr.wf (.srvManWrite 0 7 0) = true := by decide
theorem test_wf_isByte : Instr.wf (.srvEnWrite 0 256) = false ∧ Instr.wf (.srvEnWrite 0 255) = true := by decide
theorem test_wf_isHalf : Instr.wf (.cacheWayDisable 65536) = false ∧ Instr.wf (.cacheWayDisable 65535) = true := by decide
theorem test_wf_isBit : Instr.wf (.spinDirWrite 0 2) = false ∧ Instr.wf (.spinDirWrite 0 1) = true := by decide
theorem test_wf_isTag : Instr.wf (.read 0 64) = false ∧ Instr.wf (.read 0 63) = true := by decide
theorem test_wf_isRing : Instr.wf (.subRingEnable 256) = false ∧ Instr.wf (.subRingEnable 255) = true := by decide
theorem test_wf_isChannel : Instr.wf (.dmaRestart 389) = false ∧ Instr.wf (.dmaRestart 388) = true := by decide
theorem test_wf_isWay : Instr.wf (.cacheWayCleanDone 16) = false ∧ Instr.wf (.cacheWayCleanDone 15) = true := by decide
theorem test_wf_isRegion : Instr.wf (.caddyRegionEnable 16) = false ∧ Instr.wf (.caddyRegionEnable 15) = true := by decide
theorem test_wf_isId : Instr.wf (.caddyRequest 256 0) = false ∧ Instr.wf (.caddyRequest 255 0) = true := by decide
theorem test_wf_isClass : Instr.wf (.caddyRequest 0 4) = false ∧ Instr.wf (.caddyRequest 0 3) = true := by decide
theorem test_wf_isPtr : Instr.wf (.caddyRelease 0 0 (2 ^ 41)) = false ∧ Instr.wf (.caddyRelease 0 0 (2 ^ 41 - 1)) = true := by decide
theorem test_wf_isSeq : Instr.wf (.seqRelease 32) = false ∧ Instr.wf (.seqRelease 31) = true := by decide
theorem test_wf_isCluster : Instr.wf (.csLoad 4) = false ∧ Instr.wf (.csLoad 3) = true := by decide
theorem test_wf_isBank : Instr.wf (.csWindowWrite 0 2 0 0) = false ∧ Instr.wf (.csWindowWrite 0 1 0 0) = true := by decide
theorem test_wf_isWordAddr : Instr.wf (.csWindowWrite 0 0 32768 0) = false ∧ Instr.wf (.csWindowWrite 0 0 32767 0) = true := by decide
theorem test_wf_isPort : Instr.wf (.priorityFlowControlReceive 2 true) = false ∧ Instr.wf (.priorityFlowControlReceive 1 true) = true := by decide
theorem test_wf_isWindow : Instr.wf (.fabWindowEnable 16 true) = false ∧ Instr.wf (.fabWindowEnable 15 true) = true := by decide
theorem test_wf_isDomain : Instr.wf (.powerStageReady 163) = false ∧ Instr.wf (.powerStageReady 162) = true := by decide

/-! ## Single steps and the numbers the spec gives -/

/-- R2: `CAP` [23:0] of each part. -/
theorem test_cap : [Variant.ky8128, .ky8128n, .ky8064, .ky8032e].map Variant.cap = [0x012C80, 0x010C80, 0x012440, 0x010020] := by decide
/-- R623: `IDENT`. -/
theorem test_ident : State.reset.regValue 0 = 0x474C4B59 := by decide +kernel
/-- The example of R523: unit 12.201 on ports 0 and 1, the reset IID_HI, prefix 2001:db8:40:1::/64. -/
theorem test_fabric_address : ([0, 1].map fun p => ((State.reset.put (R.FP_PREFIX_HI.ADDR p) 0x20010db8).put (R.FP_PREFIX_LO.ADDR p) 0x00400001).fabAddr p 0x0CC9) =
    [0x20010db8004000014b59383100000cc9, 0x20010db8004000014b59383100010cc9] := by decide +kernel
/-- R364: the reset values of `POLL`. -/
theorem test_poll_reset : State.reset.regValue 0x10010 = 100 * 65536 + 20 := by decide +kernel
/-- R614: the SEQ of the next record after reset. -/
theorem test_ledger_seq : State.reset.get R.LEDGER_SEQ.SEQ = 1 := by decide +kernel
/-- R574: 2000-03-01 is day 60 of a leap year. -/
theorem test_calendar : yearDays 2001 = 366 ∧ monthDays 2000 2 = 29 ∧ monthDays 2100 2 = 28 ∧ yearDays 2400 = 146097 := by decide
/-- A step takes the front command only. -/
theorem test_queue : (match step { State.reset with pending := [.mainPowerReturn, .rtcSecond] } with
    | .next t => t.pending == [.rtcSecond] | _ => false) = true := by decide +kernel
/-- R13: a read-only register ignores a write; a write-one-to-clear bit is cleared by 1 and kept by 0. -/
theorem test_access : (State.reset.regWrite true 0 5).regValue 0 = 0x474C4B59 ∧
    ((wRegs [(R.LEDGER_STAT.OVERRUN, 1)]).regWrite true 0xC0018 (2 ^ 31)).get R.LEDGER_STAT.OVERRUN = 0 ∧
    ((wRegs [(R.LEDGER_STAT.OVERRUN, 1)]).regWrite true 0xC0018 0).get R.LEDGER_STAT.OVERRUN = 1 := by decide +kernel
/-- R12: a staged low half is not in use. -/
theorem test_pair : (State.reset.regWrite true 0x10004 0x5000).get R.DB_BASE_LO.ADDR = 0 ∧
    ((State.reset.regWrite true 0x10004 0x5000).regWrite true 0x10008 1).get R.DB_BASE_LO.ADDR = 5 := by decide +kernel
/-- R7: an absent bay's block reads as zero and ignores writes. -/
theorem test_absent_bay : ({ State.reset with variant := .ky8032e }.regWrite true (0x1000000 + 40 * 0x10000 + 0x300) 0xFFFFFFFF).regRead (0x1000000 + 40 * 0x10000 + 0x300)
    = (0, { State.reset with variant := .ky8032e }) := by decide +kernel
/-- R427 names SHA-256 of FIPS 180-4: its example `abc`. -/
theorem test_sha256 : ofBytesBE (sha256 [0x61, 0x62, 0x63]) = 0xba7816bf8f01cfea414140de5dae2223b00361a396177a9cb410ff61f20015ad := by decide +kernel
/-- AES-256 (R431): the example of FIPS 197. -/
theorem test_aes256 : ofBytesBE (aesEncrypt (aesKeys ((List.range 32).map fun i => BitVec.ofNat 8 i)) ((List.range 16).map fun i => BitVec.ofNat 8 (17 * i)))
    = 0x8ea2b7ca516745bfeafc49904b496089 := by decide +kernel
/-- The check values of R32, the Bay Link chapter and R427 over "123456789". -/
theorem test_crc : (fun l => [crc32 l, crc16 l, crc64 l]) ((List.range 9).map fun i => BitVec.ofNat 8 (0x31 + i)) = [0xCBF43926, 0x29B1, 0x6C40DF5F0B497347] := by decide +kernel
/-- R34, R35: the last data track, and the first lead-in track from the top of the field (log entry 92). -/
theorem test_track : [0, 143999, 261144].map trackOfBits = [0, 143999, -1000] := by decide

/-! ## Witnesses -/

theorem wit_LinkTrainingAdvances_1 : ∃ (n : Nat) (s : State) (hi : Bool), (n < s.variant.bays) ∧ ((s.bay n).link.phase = .resetHold) :=
  ⟨0, wLink .resetHold, false, by decide +kernel⟩
theorem wit_LinkTrainingAdvances_2 : ∃ (n : Nat) (s : State), (n < s.variant.bays) ∧ ((s.bay n).link.phase = .resetHold) ∧ (s.on (R.LINK_STAT.PRESENT n) = true) :=
  ⟨0, (wLink .resetHold).put (R.LINK_STAT.PRESENT 0) 1, by decide +kernel⟩
theorem wit_LinkTrainingAdvances_3 : ∃ (n : Nat) (s : State), (n < s.variant.bays) ∧ ((s.bay n).link.phase = .awaitLock) ∧ ((s.bay n).link.rstHigh = true) :=
  ⟨0, wLink .awaitLock, by decide +kernel⟩
theorem wit_LinkTrainingAdvances_4 : ∃ (n : Nat) (s : State) (f : UpFrame) (ps : Nat), (n < s.variant.bays) ∧ ((s.bay n).link.phase = .echo) ∧ ((s.bay n).link.echoes < 15) ∧ (frameGood 0x08 f = true) ∧ (ps ≤ 280000) ∧ (s.get (R.LINK_RTT.RTT n) ≤ 280000) :=
  ⟨0, wLink .echo, wFrame 0x08 [], 200000, by decide +kernel⟩
theorem wit_LinkTrainingAdvances_5 : ∃ (n : Nat) (s : State) (f : UpFrame), (n < s.variant.bays) ∧ ((s.bay n).link.phase = .feId) ∧ ((s.bay n).link.cfg = .feId) ∧ (frameGood 0x07 f = true) ∧ (bitsAt ((f.data.getD 0 0).toNat) 16 32 / 2 ^ 16 = 0x4B33) :=
  ⟨0, wLink .feId, wFrame 0x07 [0x4B3301000000], by decide +kernel⟩
theorem wit_LinkTrainingAdvances_6 : ∃ (n : Nat) (s : State), (n < s.variant.bays) ∧ ((s.bay n).link.phase = .retryWait) :=
  ⟨0, wLink .retryWait, by decide +kernel⟩
theorem wit_LinkTrainingFailureHoldsReset_1 : ∃ (n : Nat) (s : State), (n < s.variant.bays) ∧ ((s.bay n).link.phase = .awaitLock ∨ (s.bay n).link.phase = .echo ∨ (s.bay n).link.phase = .feId) :=
  ⟨0, wLink .awaitLock, by decide +kernel⟩
theorem wit_LinkTrainingFailureHoldsReset_2 : ∃ (n : Nat) (s : State), (n < s.variant.bays) ∧ ((s.bay n).link.phase = .echo ∨ (s.bay n).link.phase = .feId) :=
  ⟨0, wLink .echo, by decide +kernel⟩
theorem wit_LinkTrainingFailureHoldsReset_3 : ∃ (n : Nat) (s : State), (n < s.variant.bays) ∧ ((s.bay n).link.phase = .up) :=
  ⟨0, wLink .up, by decide +kernel⟩
theorem wit_LinkTrainingFailureHoldsReset_4 : ∃ (n : Nat) (s : State) (f : UpFrame) (ps : Nat), (n < s.variant.bays) ∧ ((s.bay n).link.phase = .echo) ∧ (frameGood 0x08 f = true) ∧ (280000 < ps) :=
  ⟨0, wLink .echo, wFrame 0x08 [], 280001, by decide +kernel⟩
theorem wit_LinkTrainingFailureHoldsReset_5 : ∃ (n : Nat) (s : State) (f : UpFrame), (n < s.variant.bays) ∧ ((s.bay n).link.phase = .feId) ∧ ((s.bay n).link.cfg = .feId) ∧ (frameGood 0x07 f = true) ∧ (bitsAt ((f.data.getD 0 0).toNat) 16 32 / 2 ^ 16 ≠ 0x4B33) :=
  ⟨0, wLink .feId, wFrame 0x07 [0], by decide +kernel⟩
theorem wit_LinkLossRestartsTraining_1 : ∃ (n : Nat) (s : State), (n < s.variant.bays) ∧ (s.on (R.LINK_STAT.UP n) = true) :=
  ⟨0, wUp, by decide +kernel⟩
theorem wit_LinkLossRestartsTraining_2 : ∃ (n : Nat) (s : State), (n < s.variant.bays) ∧ (s.on (R.LINK_STAT.UP n) = true) :=
  ⟨0, wUp, by decide +kernel⟩
theorem wit_LinkLossRestartsTraining_3 : ∃ (n : Nat) (s : State), (n < s.variant.bays) ∧ (s.on (R.LINK_STAT.UP n) = false) :=
  ⟨0, State.reset, by decide +kernel⟩
theorem wit_LinkLossRestartsTraining_4 : ∃ (n : Nat) (s : State), (n < s.variant.bays) ∧ (s.on (R.LINK_STAT.UP n) = false) :=
  ⟨0, State.reset, by decide +kernel⟩
theorem wit_BayHostResetAndWithdrawal_1 : ∃ (n : Nat) (s : State), (n < s.variant.bays) ∧ (s.bayState n = BS.LINKING ∨ s.bayState n = BS.BRINGUP ∨ s.bayState n = BS.FAULT) :=
  ⟨0, wState BS.FAULT, by decide +kernel⟩
theorem wit_BayHostResetAndWithdrawal_2 : ∃ (n : Nat) (s : State), (n < s.variant.bays) ∧ (s.bayState n < BS.EMPTY ∨ BS.RECOVERY < s.bayState n ∨ s.mode = 4) :=
  ⟨0, wState BS.PARKING, by decide +kernel⟩
theorem wit_BayHostResetAndWithdrawal_3 : ∃ (n : Nat) (s : State), (n < s.variant.bays) ∧ (s.bayState n = BS.READY) ∧ (s.mode = 1) ∧ ((s.bay n).cal = {}) ∧ ((s.bay n).sched.seg = none) ∧ ((s.bay n).waiting = []) ∧ ((s.bay n).tags ≠ []) :=
  ⟨0, wTag BS.READY (wCmd 0x10 []), by decide +kernel⟩
theorem wit_BayHostResetAndWithdrawal_4 : ∃ (n : Nat) (s : State), (n < s.variant.bays) ∧ (s.bayState n = BS.DRAINING) ∧ ((s.bay n).mounted = false) ∧ ((s.bay n).writing.gate = none) :=
  ⟨0, wState BS.DRAINING, by decide +kernel⟩
theorem wit_FrontEndAccessAndStatus_1 : ∃ (n : Nat) (s : State), (n < s.variant.bays) ∧ (s.on (R.FE_ACC.GO n) = false) ∧ (s.on (R.LINK_STAT.UP n) = true) ∧ (s.on (R.FE_ACC.WRITE n) = false) :=
  ⟨0, wUp, by decide +kernel⟩
theorem wit_FrontEndAccessAndStatus_2 : ∃ (n : Nat) (s : State), (n < s.variant.bays) ∧ (s.on (R.FE_ACC.GO n) = false) ∧ (s.on (R.LINK_STAT.UP n) = false) :=
  ⟨0, State.reset, by decide +kernel⟩
theorem wit_FrontEndAccessAndStatus_3 : ∃ (n : Nat) (s : State) (f : UpFrame), (n < s.variant.bays) ∧ ((s.bay n).link.phase = .up) ∧ ((s.bay n).link.cfg = .hostAccess) ∧ (frameGood 0x07 f = true) :=
  ⟨0, wBay { link := { phase := .up, cfg := .hostAccess } }, wFrame 0x07 [0x123400000000], by decide +kernel⟩
theorem wit_FrontEndAccessAndStatus_4 : ∃ (n : Nat) (s : State), (n < s.variant.bays) ∧ (s.on (R.FE_ACC.GO n) = true) :=
  ⟨0, wRegs [(R.FE_ACC.GO 0, 1)], by decide +kernel⟩
theorem wit_FrontEndAccessAndStatus_5 : ∃ (n : Nat) (s : State) (f : UpFrame), (n < s.variant.bays) ∧ (s.on (R.LINK_STAT.UP n) = true) ∧ (frameGood 0x05 f = true) ∧ ((s.bay n).link.alertRead = false) :=
  ⟨0, wUp, wFrame 0x05 [0x0001000000000E00], by decide +kernel⟩
theorem wit_FrontEndAccessAndStatus_6 : ∃ (n : Nat) (s : State) (f : UpFrame), (n < s.variant.bays) ∧ (s.on (R.LINK_STAT.UP n) = true) ∧ (frameGood 0x06 f = true) ∧ (f.arg % 4096 = 0x400) :=
  ⟨0, wUp, wFrameA 0x06 0x400, by decide +kernel⟩
theorem wit_FrontEndAccessAndStatus_7 : ∃ (n : Nat) (s : State), (n < s.variant.bays) ∧ (s.on (R.LINK_STAT.UP n) = true) :=
  ⟨0, wUp, by decide +kernel⟩
theorem wit_FrontEndAccessAndStatus_8 : ∃ (n : Nat) (s : State), (n < s.variant.bays) :=
  ⟨0, State.reset, by decide +kernel⟩
theorem wit_FrontEndAccessAndStatus_9 : ∃ (n : Nat) (s : State), (n < s.variant.bays) ∧ (s.on R.CURFEW_CAUSE.CAUSE = true) :=
  ⟨0, wRegs [(R.CURFEW_CAUSE.CAUSE, 2)], by decide +kernel⟩
theorem wit_StepperModeCommands_1 : ∃ (n : Nat) (sa : Bool) (s : State), (n < s.variant.bays) ∧ (s.stepper sa n = {}) ∧ ((s.bay n).enc.stalled = false) :=
  ⟨0, true, State.reset, by decide +kernel⟩
theorem wit_StepperModeCommands_2 : ∃ (n : Nat) (sa : Bool) (s : State), (n < s.variant.bays) ∧ (s.stepper sa n = {}) ∧ ((s.bay n).enc.stalled = false) ∧ (s.get (fMode sa n) = 1) :=
  ⟨0, false, wRegs [(R.STEP_CTL.SLED_MODE 0, 1)], by decide +kernel⟩
theorem wit_StepperModeCommands_3 : ∃ (n : Nat) (sa : Bool) (s : State), (n < s.variant.bays) ∧ (s.stepper sa n = {}) ∧ ((s.bay n).enc.stalled = false) :=
  ⟨0, false, wRegs [(R.STEP_STAT.SLED_HOMED 0, 1)], by decide +kernel⟩
theorem wit_StepperModeCommands_4 : ∃ (n : Nat) (sa : Bool) (s : State), (n < s.variant.bays) ∧ (s.stepper sa n = {}) ∧ ((s.bay n).enc.stalled = false) :=
  ⟨0, false, State.reset, by decide +kernel⟩
theorem wit_StepperModeCommands_5 : ∃ (n : Nat) (sa : Bool) (s : State), (n < s.variant.bays) ∧ (s.stepper sa n = {}) ∧ ((s.bay n).enc.stalled = false) ∧ (s.on (fHomed sa n) = true) ∧ (s.stepSettle sa n ≠ 0) :=
  ⟨0, true, wRegs [(R.STEP_STAT.SA_HOMED 0, 1), (R.SA_MISC.SETTLE 0, 5)], by decide +kernel⟩
theorem wit_StepperModeCommands_6 : ∃ (n : Nat) (sa : Bool) (s : State), (n < s.variant.bays) ∧ (s.stepper sa n = {}) ∧ ((s.bay n).enc.stalled = false) ∧ (s.on (fHomed sa n) = true) ∧ (s.get (fMode sa n) = 1) ∧ (s.stepMin sa n ≤ posValue sa (s.get (fPos sa n))) ∧ (posValue sa (s.get (fPos sa n)) ≤ s.stepMax sa n) ∧ ((planMove (s.on (fProf sa n)) (s.stepVmax sa n) (s.stepAcc sa n) (s.stepJerk sa n) 0 (65536 * posValue sa (s.get (fPos sa n)))).total ≠ 0) :=
  ⟨0, false, wRegs [(R.STEP_STAT.SLED_HOMED 0, 1), (R.STEP_CTL.SLED_MODE 0, 1), (R.SLED_TGT.POS 0, 20000)], by decide +kernel⟩
theorem wit_StepperModeCommands_7 : ∃ (n : Nat) (sa : Bool) (s : State), (n < s.variant.bays) ∧ (s.on (fHomed sa n) = false) :=
  ⟨0, false, State.reset, by decide +kernel⟩
theorem wit_StepperModeCommands_8 : ∃ (n : Nat) (sa : Bool) (s : State), (n < s.variant.bays) ∧ (s.stepHostOk n = false) :=
  ⟨0, false, wState BS.READY, by decide +kernel⟩
theorem wit_StepperModeCommands_9 : ∃ (n : Nat) (sa : Bool) (s : State), (n < s.variant.bays) ∧ (s.stepHostOk n = false) :=
  ⟨0, false, wState BS.READY, by decide +kernel⟩
theorem wit_StepperMotionEvents_1 : ∃ (n : Nat) (s : State) (sa : Bool), (n < s.variant.bays) ∧ ((s.bay n).focus = {}) ∧ (s.bayState n ≠ BS.PARKING) ∧ ((s.stepper sa n).settling = true) ∧ ((s.stepper sa n).toFollow = false) :=
  ⟨0, wBay { sled := { settling := true } }, false, by decide +kernel⟩
theorem wit_StepperMotionEvents_2 : ∃ (n : Nat) (s : State) (sa : Bool), (n < s.variant.bays) ∧ ((s.bay n).focus = {}) ∧ (s.bayState n ≠ BS.PARKING) ∧ ((s.stepper sa n).home = .holdIn) :=
  ⟨0, wBay { sa := { home := .holdIn } }, true, by decide +kernel⟩
theorem wit_StepperMotionEvents_3 : ∃ (n : Nat) (s : State), (n < s.variant.bays) ∧ ((s.bay n).focus = {}) ∧ (s.bayState n ≠ BS.PARKING) ∧ ((s.bay n).sled = {}) ∧ ((s.bay n).sa = {}) ∧ (s.get (R.STEP_CTL.SLED_MODE n) = 1) ∧ (s.get (R.STEP_CTL.SA_MODE n) = 1) :=
  ⟨0, wRegs [(R.STEP_CTL.SLED_MODE 0, 1), (R.STEP_CTL.SA_MODE 0, 1)], by decide +kernel⟩
theorem wit_StepperMotionEvents_4 : ∃ (n : Nat) (s : State), (n < s.variant.bays) ∧ ((s.bay n).enc.stalled = true) ∧ ((s.bay n).sled.resume = .none) :=
  ⟨0, wBay { enc := { stalled := true } }, by decide +kernel⟩
theorem wit_StepperMotionEvents_5 : ∃ (n : Nat) (s : State), (n < s.variant.bays) ∧ (s.on (R.STEP_STAT.ENC_FAULT n) = true) :=
  ⟨0, wRegs [(R.STEP_STAT.ENC_FAULT 0, 1)], by decide +kernel⟩
theorem wit_StepperMotionEvents_6 : ∃ (n : Nat) (s : State) (f : UpFrame) (r : EncRun), (n < s.variant.bays) ∧ (s.on (R.STEP_STAT.ENC_FAULT n) = false) ∧ (s.on (R.STEP_STAT.SLED_HOMED n) = false) ∧ ((s.bay n).sled.home = .off) ∧ (frameGood 0x04 f = true) ∧ (r = encFrame (s.on (R.STEP_CTL.ENC_DIR n)) f ⟨(s.bay n).enc.last, s.getS (R.ENC_POS.COUNT n), (s.bay n).enc.illegal, 0, (s.bay n).enc.still, false⟩) ∧ (r.fault = false) ∧ (r.fresh = 0) :=
  ⟨0, State.reset, wFrame 0x04 [0, 0x5555555555555555], encFrame false (wFrame 0x04 [0, 0x5555555555555555]) ⟨none, 0, [], 0, 0, false⟩, by decide +kernel⟩
theorem wit_StepperMotionEvents_7 : ∃ (n : Nat) (s : State) (f : UpFrame), (n < s.variant.bays) ∧ (frameGood 0x04 f = false) :=
  ⟨0, State.reset, ⟨0, 0, 0, 0, [], true⟩, by decide +kernel⟩
theorem wit_StepperMotionEvents_8 : ∃ (n : Nat) (s : State), (n < s.variant.bays) ∧ (s.get (R.SPIN_STAT.PHASE n) = 6) ∧ (s.bayState n ≠ BS.PARKING) :=
  ⟨0, wRegs [(R.SPIN_STAT.PHASE 0, 6)], by decide +kernel⟩
theorem wit_TimelineEventsAndJournal_1 : ∃ (n : Nat) (s : State) (e : TimelineEntry) (now : Nat) (a : EventAction), (n < s.variant.bays) ∧ (s.on (R.ANG_STAT.ALIGNED n) = false) ∧ ((s.bay n).tracker.events = [e]) ∧ (0 < e.revs) :=
  ⟨0, wBay { tracker := { events := [⟨5, 2, 0, 0, 0, 0⟩] } }, ⟨5, 2, 0, 0, 0, 0⟩, 7, .other, by decide +kernel⟩
theorem wit_TimelineEventsAndJournal_2 : ∃ (n : Nat) (s : State) (e : TimelineEntry) (now : Nat) (a : EventAction), (n < s.variant.bays) ∧ (s.on (R.ANG_STAT.ALIGNED n) = false) ∧ ((s.bay n).tracker.events = [e]) ∧ (e.revs = 0) ∧ (e.cls = 2) :=
  ⟨0, wBay { tracker := { events := [⟨5, 0, 2, 0, 0, 0⟩] } }, ⟨5, 0, 2, 0, 0, 0⟩, 7, .other, by decide +kernel⟩
theorem wit_TimelineEventsAndJournal_3 : ∃ (n : Nat) (s : State) (e : TimelineEntry) (now : Nat) (a : EventAction), (n < s.variant.bays) ∧ (s.on (R.ANG_STAT.ALIGNED n) = false) ∧ ((s.bay n).tracker.events = [e]) ∧ (e.revs = 0) ∧ (e.cls < 2) ∧ (s.get (R.ANG_STAT.STATE n) < 2) :=
  ⟨0, wBay { tracker := { events := [⟨5, 0, 1, 0, 0, 0⟩] } }, ⟨5, 0, 1, 0, 0, 0⟩, 7, .other, by decide +kernel⟩
theorem wit_TimelineEventsAndJournal_4 : ∃ (n : Nat) (s : State) (e : TimelineEntry) (now : Nat), (n < s.variant.bays) ∧ (s.on (R.ANG_STAT.ALIGNED n) = false) ∧ ((s.bay n).tracker.events = [e]) ∧ (e.revs = 0) ∧ (e.cls = 0) ∧ (s.get (R.ANG_STAT.STATE n) = 2) ∧ (s.get R.GTRC_CTL.BAY ≠ n) :=
  ⟨0, ((wBay { tracker := { events := [⟨5, 0, 0, 0, 0, 0⟩] } }).put (R.ANG_STAT.STATE 0) 2).put R.GTRC_CTL.BAY 9, ⟨5, 0, 0, 0, 0, 0⟩, 7, by decide +kernel⟩
theorem wit_TimelineEventsAndJournal_5 : ∃ (n : Nat) (s : State) (r : Nat), (n < s.variant.bays) ∧ (r < 3) :=
  ⟨0, State.reset, 2, by decide +kernel⟩
theorem wit_TimelineEventsAndJournal_6 : ∃ (n : Nat) (s : State), (n < s.variant.bays) :=
  ⟨0, State.reset, by decide +kernel⟩
theorem wit_TimelineEventsAndJournal_7 : ∃ (n : Nat) (s : State) (f : UpFrame) (v : Nat), (n < s.variant.bays) ∧ (frameGood 0x01 f = true) ∧ ((s.bay n).link.upSeq = []) ∧ ((s.bay n).reading = { adcNew := some v }) :=
  ⟨0, wBay { reading := { adcNew := some 2 } }, wFrame 0x01 [], 2, by decide +kernel⟩
theorem wit_TimelineEventsAndJournal_8 : ∃ (n : Nat) (s : State) (f : UpFrame), (n < s.variant.bays) ∧ (frameGood 0x02 f = true) :=
  ⟨0, State.reset, wFrame 0x02 [0xFFF0000000001234, 0], by decide +kernel⟩
theorem wit_TimelineEventsAndJournal_9 : ∃ (n : Nat) (s : State) (f : UpFrame), (n < s.variant.bays) ∧ (frameGood 0x02 f = false) :=
  ⟨0, State.reset, ⟨0, 0, 0, 0, [], true⟩, by decide +kernel⟩
theorem wit_TimelineEventsAndJournal_10 : ∃ (n : Nat) (s : State) (e : JEntry), (n < s.variant.bays) ∧ (Sparse.rising (s.bay n).writing.journal = true) ∧ (s.jEntry n (s.get (R.WJ_RELEASE.INDEX n)) = some e) ∧ (e.stale = true) :=
  ⟨0, wBay { writing := { journal := [(0, ⟨1, 2, 2, 1, 3, 0, 0, 0, 7, true⟩)] } }, ⟨1, 2, 2, 1, 3, 0, 0, 0, 7, true⟩, by decide +kernel⟩
theorem wit_TimelineEventsAndJournal_11 : ∃ (n : Nat) (s : State), (n < s.variant.bays) ∧ (s.jEntry n (s.get (R.WJ_RELEASE.INDEX n)) = none) :=
  ⟨0, State.reset, by decide +kernel⟩
theorem wit_TimelineEventsAndJournal_12 : ∃ (n : Nat) (s : State) (i : Nat) (e : JEntry), (n < s.variant.bays) ∧ ((s.bay n).writing.journal = [(i, e)]) ∧ (e.stale = true) :=
  ⟨0, wBay { writing := { journal := [(3, ⟨1, 2, 2, 1, 3, 0, 0, 0, 7, true⟩)] } }, 3, ⟨1, 2, 2, 1, 3, 0, 0, 0, 7, true⟩, by decide +kernel⟩
theorem wit_SpindleStartAndStop_1 : ∃ (n : Nat) (s : State), (n < s.variant.bays) ∧ (s.get (R.SPIN_STAT.PHASE n) = 1) :=
  ⟨0, wRegs [(R.SPIN_STAT.PHASE 0, 1)], by decide +kernel⟩
theorem wit_SpindleStartAndStop_2 : ∃ (n : Nat) (s : State), (n < s.variant.bays) ∧ (s.get (R.SPIN_STAT.PHASE n) = 2) ∧ ((s.bay n).spin.fails + 1 < s.acting (R.SPIN_START.TRIES n) 1 8) :=
  ⟨0, wRegs [(R.SPIN_STAT.PHASE 0, 2), (R.SPIN_START.TRIES 0, 3)], by decide +kernel⟩
theorem wit_SpindleStartAndStop_3 : ∃ (n : Nat) (s : State), (n < s.variant.bays) ∧ ((s.bay n).spin.step = 4) ∧ ((s.bay n).spin.fails + 1 < s.acting (R.SPIN_START.TRIES n) 1 8) :=
  ⟨0, (wBay { spin := { step := 4 } }).put (R.SPIN_START.TRIES 0) 3, by decide +kernel⟩
theorem wit_SpindleStartAndStop_4 : ∃ (n : Nat) (s : State), (n < s.variant.bays) ∧ (s.get (R.SPIN_STAT.PHASE n) = 5) ∧ ((s.bay n).spin.wanted = false) :=
  ⟨0, wRegs [(R.SPIN_STAT.PHASE 0, 5)], by decide +kernel⟩
theorem wit_SpindleStartAndStop_5 : ∃ (n : Nat) (s : State), (n < s.variant.bays) ∧ (s.get (R.SPIN_STAT.PHASE n) = 0) ∧ (s.get (R.SPIN_CTL.DIR n) = 0) :=
  ⟨0, State.reset, by decide +kernel⟩
theorem wit_SpindleStartAndStop_6 : ∃ (n : Nat) (s : State), (n < s.variant.bays) ∧ (s.get (R.SPIN_STAT.PHASE n) = 3) ∧ (s.get (R.SPIN_CTL.DIR n) = 0) :=
  ⟨0, wRegs [(R.SPIN_STAT.PHASE 0, 3)], by decide +kernel⟩
theorem wit_SpindleStartAndStop_7 : ∃ (n : Nat) (s : State) (d : Nat), (n < s.variant.bays) ∧ (d % 2 = s.get (R.SPIN_CTL.DIR n)) :=
  ⟨0, State.reset, 0, by decide +kernel⟩
theorem wit_SpindleStartAndStop_8 : ∃ (n : Nat) (s : State), (n < s.variant.bays) ∧ (s.get (R.SPIN_STAT.PHASE n) = 3) ∧ (s.bayState n = BS.READY) ∧ (s.bay n = {}) :=
  ⟨0, wRegs [(R.SPIN_STAT.PHASE 0, 3), (R.STATE.STATE 0, BS.READY)], by decide +kernel⟩
theorem wit_SpindleStartAndStop_9 : ∃ (n : Nat) (s : State) (f : UpFrame) (tpwm now theta emf : Nat), (n < s.variant.bays) ∧ (s.on (R.LINK_STAT.UP n) = true) ∧ (s.get (R.SPIN_STAT.PHASE n) = 1) ∧ (frameGood 0x03 f = true) :=
  ⟨0, wUp.put (R.SPIN_STAT.PHASE 0) 1, wFrame 0x03 [0x0400123400000000], 40000, 7, 0, 0, by decide +kernel⟩
theorem wit_SpindleStartAndStop_10 : ∃ (n : Nat) (s : State) (tpwm theta emf : Nat), (n < s.variant.bays) ∧ (s.get (R.SPIN_STAT.PHASE n) = 1) :=
  ⟨0, wUp.put (R.SPIN_STAT.PHASE 0) 1, 40000, 0, 0, by decide +kernel⟩
theorem wit_AngleTrackerEvents_1 : ∃ (n : Nat) (s : State) (tau bits : Nat) (w : List (Int × Int)), (n < s.variant.bays) ∧ (s.on (R.ANG_STAT.ACQ n) = true) ∧ (s.on (R.ANG_STAT.ALIGNED n) = false) ∧ ((s.bay n).focus.probing = false) ∧ ((decodeWedge bits).parity = true) ∧ ((decodeWedge bits).layer = s.get (R.ANG_STAT.LAYER n)) :=
  ⟨0, wRegs [(R.ANG_STAT.ACQ 0, 1)], 77, 0, [], by decide +kernel⟩
theorem wit_AngleTrackerEvents_2 : ∃ (n : Nat) (s : State) (tau bits : Nat) (w : List (Int × Int)), (n < s.variant.bays) ∧ (s.on (R.ANG_STAT.ACQ n) = false) ∧ (s.on (R.ANG_STAT.ALIGNED n) = false) ∧ ((s.bay n).focus.probing = false) :=
  ⟨0, State.reset, 77, 0, [], by decide +kernel⟩
theorem wit_AngleTrackerEvents_3 : ∃ (n : Nat) (s : State) (k : Tracker) (now : Nat), (n < s.variant.bays) ∧ (s.on (R.ANG_STAT.ALIGNED n) = true) ∧ (s.bay n = { tracker := k }) ∧ (k.hit = none) ∧ (k.events = []) :=
  ⟨0, (wBay { tracker := { expectW := 9 } }).put (R.ANG_STAT.ALIGNED 0) 1, { expectW := 9 }, 5, by decide +kernel⟩
theorem wit_AngleTrackerEvents_4 : ∃ (n : Nat) (s : State) (k : Tracker) (h : Detection) (now : Nat), (n < s.variant.bays) ∧ (s.on (R.ANG_STAT.ALIGNED n) = true) ∧ (s.bay n = { tracker := k }) ∧ (k.hit = some h) ∧ (k.events = []) ∧ (k.expectW < 1024) :=
  ⟨0, (wBay { tracker := { expectW := 9, hit := some ⟨4, 7, []⟩ } }).put (R.ANG_STAT.ALIGNED 0) 1, { expectW := 9, hit := some ⟨4, 7, []⟩ }, ⟨4, 7, []⟩, 5, by decide +kernel⟩
theorem wit_AngleTrackerEvents_5 : ∃ (n : Nat) (s : State) (tau : Nat) (a : Bool), (n < s.variant.bays) ∧ (s.get (R.ANG_STAT.STATE n) = 0) ∧ ((s.bay n).tracker.seekTeeth = 0) ∧ (s.get (R.SPIN_STAT.PHASE n) ≠ 2) :=
  ⟨0, State.reset, 99, true, by decide +kernel⟩
theorem wit_AngleTrackerEvents_6 : ∃ (n : Nat) (s : State) (tau : Nat) (a : Bool), (n < s.variant.bays) ∧ (s.get (R.ANG_STAT.STATE n) = 1) ∧ (s.get (R.SPIN_STAT.PHASE n) ≠ 2) ∧ (toothClass (s.get (R.ANG_RATE.RATE n)) (elapsed (s.bay n).tracker.toothAt tau) = 0) :=
  ⟨0, wRegs [(R.ANG_STAT.STATE 0, 1)], 99, true, by decide +kernel⟩
theorem wit_AngleTrackerEvents_7 : ∃ (n : Nat) (s : State) (now : Nat), (n < s.variant.bays) ∧ (s.get (R.ANG_STAT.STATE n) = 1) ∧ (s.on (R.ANG_STAT.ALIGNED n) = false) ∧ ((s.bay n).tracker.synth < 3) :=
  ⟨0, wRegs [(R.ANG_STAT.STATE 0, 1)], 99, by decide +kernel⟩
theorem wit_AngleTrackerEvents_8 : ∃ (n : Nat) (s : State), (n < s.variant.bays) ∧ (s.on (R.ANG_STAT.ACQ n) = true) ∧ ((s.bay n).tracker.candidate = true) ∧ (s.bayState n ≠ BS.FOCUSING) :=
  ⟨0, (wBay { tracker := { candidate := true } }).put (R.ANG_STAT.ACQ 0) 1, by decide +kernel⟩
theorem wit_AngleTrackerEvents_9 : ∃ (n : Nat) (s : State), (n < s.variant.bays) ∧ (s.on (R.ANG_STAT.BRIDGE n) = true) :=
  ⟨0, wRegs [(R.ANG_STAT.BRIDGE 0, 1)], by decide +kernel⟩
theorem wit_ServoEngineCommands_1 : ∃ (n : Nat) (s : State) (k : Nat), (n < s.variant.bays) ∧ (k < 8) ∧ (recFailure (s.shadowRec n k) = 0) :=
  ⟨0, State.reset, 0, by decide +kernel⟩
theorem wit_ServoEngineCommands_2 : ∃ (n : Nat) (s : State) (k : Nat), (n < s.variant.bays) ∧ (k < 8) ∧ (s.bitOf (R.SRV_CTL.COMMIT n) k = true) ∧ ((s.bay n).servo.infuse = none) :=
  ⟨0, wRegs [(R.SRV_CTL.COMMIT 0, 4)], 2, by decide +kernel⟩
theorem wit_ServoEngineCommands_3 : ∃ (n : Nat) (s : State), (n < s.variant.bays) ∧ (s.loopWriteAllowed n = true) :=
  ⟨0, wRegs [(R.STATE.STATE 0, BS.EMPTY), (R.SRV_CTL.EN 0, 0xC3)], by decide +kernel⟩
theorem wit_ServoEngineCommands_4 : ∃ (n : Nat) (s : State), (n < s.variant.bays) ∧ (s.loopWriteAllowed n = true) :=
  ⟨0, wRegs [(R.STATE.STATE 0, BS.EMPTY), (R.SRV_CTL.AUTO 0, 0x3C)], by decide +kernel⟩
theorem wit_ServoEngineCommands_5 : ∃ (n : Nat) (s : State) (k v : Nat), (n < s.variant.bays) ∧ (s.loopWriteAllowed n = true) ∧ (k < 8) :=
  ⟨0, wRegs [(R.STATE.STATE 0, BS.EMPTY)], 3, 77, by decide +kernel⟩
theorem wit_ServoEngineCommands_6 : ∃ (n : Nat) (s : State) (m : Nat), (n < s.variant.bays) ∧ (s.loopWriteAllowed n = false) :=
  ⟨0, wState BS.READY, 5, by decide +kernel⟩
theorem wit_ServoEngineCommands_7 : ∃ (n : Nat) (s : State) (m : Nat), (n < s.variant.bays) ∧ (s.loopWriteAllowed n = false) :=
  ⟨0, wState BS.READY, 5, by decide +kernel⟩
theorem wit_ServoEngineCommands_8 : ∃ (n : Nat) (s : State) (k v : Nat), (n < s.variant.bays) ∧ (s.loopWriteAllowed n = false) :=
  ⟨0, wState BS.READY, 3, 77, by decide +kernel⟩
theorem wit_ServoEngineCommands_9 : ∃ (n : Nat) (s : State) (k : Nat) (x : Sample), (n < s.variant.bays) ∧ ((s.bay n).servo.queue = [(k, [x])]) ∧ (x.input.isSome = true) ∧ ((s.bay n).servo.infuse = none) ∧ ((s.bay n).servo.defFlag = false) ∧ (k < 8) ∧ (s.bitOf (R.SRV_CTL.EN n) k = true) ∧ (s.bitOf (R.SRV_CTL.AUTO n) k = false) ∧ (s.on (R.SRV_STAT.DEF_HOLD n) = false) ∧ (s.on (R.TRC_STAT.ACTIVE n) = false) :=
  ⟨0, ((wBay { servo := { queue := [(3, [⟨some 5, 0, true⟩])], active := [(3, List.replicate 28 0 ++ [0x7FFFFFFF, 0x80000000])] } }).put (R.SRV_CTL.EN 0) 8).put (R.SRV_MAN.Q 0 3) 99, 3, ⟨some 5, 0, true⟩, by decide +kernel⟩
theorem wit_ServoEngineCommands_10 : ∃ (n : Nat) (s : State) (k : Nat) (x : Sample), (n < s.variant.bays) ∧ ((s.bay n).servo.queue = [(k, [x])]) ∧ (s.bitOf (R.SRV_CTL.EN n) k = false) :=
  ⟨0, wBay { servo := { queue := [(3, [⟨some 5, 0, true⟩])] } }, 3, ⟨some 5, 0, true⟩, by decide +kernel⟩
theorem wit_ServoEngineCommands_11 : ∃ (n : Nat) (s : State), (n < s.variant.bays) :=
  ⟨0, State.reset, by decide +kernel⟩
theorem wit_ServoEngineCommands_12 : ∃ (n : Nat) (s : State), (n < s.variant.bays) ∧ (s.on (R.SRV_STAT.DEF_HOLD n) = true) :=
  ⟨0, wRegs [(R.SRV_STAT.DEF_HOLD 0, 1)], by decide +kernel⟩
theorem wit_ServoTraceAndInfusion_1 : ∃ (n : Nat) (s : State), (n < s.variant.bays) ∧ (s.infuseTraces n = false) :=
  ⟨0, State.reset, by decide +kernel⟩
theorem wit_ServoTraceAndInfusion_2 : ∃ (n : Nat) (s : State), (n < s.variant.bays) ∧ (s.on (R.TRC_STAT.ACTIVE n) = true) :=
  ⟨0, wRegs [(R.TRC_STAT.ACTIVE 0, 1)], by decide +kernel⟩
theorem wit_ServoTraceAndInfusion_3 : ∃ (n : Nat) (s : State), (n < s.variant.bays) ∧ (s.infuseAllowed n = true) ∧ (s.bitOf (R.SRV_CTL.EN n) (s.get (R.INF_CTL.LOOP n)) = true) ∧ (s.on (R.INF_STAT.BUSY n) = false) ∧ (s.infuseRanges n = true) ∧ (s.get (R.INF_CTL.MODE n) = 0) :=
  ⟨0, wRegs [(R.STATE.STATE 0, BS.BRINGUP), (R.SRV_CTL.EN 0, 1), (R.INF_AMP.AMP 0, 1), (R.INF_START.INC 0, 1), (R.INF_CTL.LOOP 0, 0), (R.INF_CTL.MODE 0, 0)], by decide +kernel⟩
theorem wit_ServoTraceAndInfusion_4 : ∃ (n : Nat) (s : State), (n < s.variant.bays) ∧ (s.infuseAllowed n = false) :=
  ⟨0, wState BS.READY, by decide +kernel⟩
theorem wit_ServoTraceAndInfusion_5 : ∃ (n : Nat) (s : State) (f : Infuse), (n < s.variant.bays) ∧ (s.on (R.INF_STAT.BUSY n) = true) ∧ ((s.bay n).servo.infuse = some f) ∧ (f.abort = none) :=
  ⟨0, (wBay { servo := { infuse := some {} } }).put (R.INF_STAT.BUSY 0) 1, {}, by decide +kernel⟩
theorem wit_FocusAcquisitionStages_1 : ∃ (n : Nat) (s : State), (n < s.variant.bays) ∧ ((s.bay n).focus.acq = .sweep) ∧ (0 < (s.bay n).focus.curves) :=
  ⟨0, wBay { focus := { acq := .sweep, curves := 2 } }, by decide +kernel⟩
theorem wit_FocusAcquisitionStages_2 : ∃ (n : Nat) (s : State), (n < s.variant.bays) ∧ ((s.bay n).focus.acq = .capture) ∧ ((s.bay n).focus.fails + 1 < s.acting (R.FOC_ACQ.TRIES n) 1 8) ∧ ((s.bay n).focus.fail35 = 0) ∧ (s.getS (R.FOC_SRCH.SRCH_LO n) < s.getS (R.FOC_SRCH.SRCH_HI n)) :=
  ⟨0, ((wBay { focus := { acq := .capture } }).put (R.FOC_ACQ.TRIES 0) 4).put (R.FOC_SRCH.SRCH_HI 0) 100, by decide +kernel⟩
theorem wit_FocusAcquisitionStages_3 : ∃ (n : Nat) (s : State), (n < s.variant.bays) ∧ ((s.bay n).focus.acq = .settle) :=
  ⟨0, wBay { focus := { acq := .settle } }, by decide +kernel⟩
theorem wit_FocusAcquisitionStages_4 : ∃ (n : Nat) (s : State), (n < s.variant.bays) ∧ ((s.bay n).focus.probing = true) ∧ ((s.bay n).focus.jump = .off) ∧ ((s.bay n).focus.acq = .probe) ∧ ((s.bay n).focus.fails + 1 < s.acting (R.FOC_ACQ.TRIES n) 1 8) :=
  ⟨0, (wBay { focus := { acq := .probe, probing := true } }).put (R.FOC_ACQ.TRIES 0) 4, by decide +kernel⟩
theorem wit_FocusAcquisitionStages_5 : ∃ (n : Nat) (s : State), (n < s.variant.bays) ∧ ((s.bay n).focus.acq = .track) ∧ (s.bayState n = BS.FOCUSING) ∧ ((s.bay n).focus.fails + 1 < s.acting (R.FOC_ACQ.TRIES n) 1 8) :=
  ⟨0, (wIn BS.FOCUSING { focus := { acq := .track } }).put (R.FOC_ACQ.TRIES 0) 4, by decide +kernel⟩
theorem wit_FocusAcquisitionStages_6 : ∃ (n : Nat) (s : State), (n < s.variant.bays) ∧ (s.bayState n = BS.RECOVERY) :=
  ⟨0, wIn BS.RECOVERY { focus := { retLayer := 5 } }, by decide +kernel⟩
theorem wit_LayerAndTrackJumps_1 : ∃ (n : Nat) (s : State), (n < s.variant.bays) ∧ ((s.bay n).focus.jump = .kick) :=
  ⟨0, wBay { focus := { jump := .kick, jumpBase := -5 } }, by decide +kernel⟩
theorem wit_LayerAndTrackJumps_2 : ∃ (n : Nat) (s : State), (n < s.variant.bays) ∧ ((s.bay n).focus.jump = .brake) :=
  ⟨0, wBay { focus := { jump := .brake, jumpBase := -5 } }, by decide +kernel⟩
theorem wit_LayerAndTrackJumps_3 : ∃ (n : Nat) (s : State), (n < s.variant.bays) ∧ ((s.bay n).focus.jump = .close) ∧ (s.bayState n = BS.FOCUSING) ∧ ((s.bay n).focus.fails + 1 < s.acting (R.FOC_ACQ.TRIES n) 1 8) :=
  ⟨0, (wIn BS.FOCUSING { focus := { jump := .close } }).put (R.FOC_ACQ.TRIES 0) 4, by decide +kernel⟩
theorem wit_LayerAndTrackJumps_4 : ∃ (n : Nat) (s : State), (n < s.variant.bays) ∧ ((s.bay n).focus.jump = .settle) ∧ ((s.bay n).focus.jumpTo = (s.bay n).focus.jumpEnd) ∧ (s.on (R.STEP_STAT.SA_ARRIVED n) = true) ∧ ((s.bay n).focus.probing = false) :=
  ⟨0, (wBay { focus := { jump := .settle } }).put (R.STEP_STAT.SA_ARRIVED 0) 1, by decide +kernel⟩
theorem wit_LayerAndTrackJumps_5 : ∃ (n : Nat) (s : State), (n < s.variant.bays) ∧ ((s.bay n).focus.fine = .kick) :=
  ⟨0, wBay { focus := { fine := .kick, fineD := -2 } }, by decide +kernel⟩
theorem wit_LayerAndTrackJumps_6 : ∃ (n : Nat) (s : State), (n < s.variant.bays) ∧ ((s.bay n).focus.fine = .brake) :=
  ⟨0, wBay { focus := { fine := .brake, fineBase := 7 } }, by decide +kernel⟩
theorem wit_LayerAndTrackJumps_7 : ∃ (n : Nat) (s : State), (n < s.variant.bays) ∧ ((s.bay n).focus.fine = .settle) :=
  ⟨0, wBay { focus := { fine := .settle } }, by decide +kernel⟩
theorem wit_LayerAndTrackJumps_8 : ∃ (n : Nat) (s : State) (m : Nat), (n < s.variant.bays) :=
  ⟨0, wRegs [(R.TRK_FALLBACK.LAYERS 0, 0x0F)], 5, by decide +kernel⟩
theorem wit_SectorFramesAreReadInStages_1 : ∃ (n : Nat) (s : State) (f : Frame) (o : MemSeen) (e : List Byte), (n < s.variant.bays) ∧ ((s.bay n).reading.frames = [f]) ∧ (f.fetch = .running) ∧ ((s.memRead true n (s.ztAddr n f.idx) 256 o).1 = .done e) ∧ ((s.memRead true n (s.ztAddr n f.idx) 256 o).2.entryFault n f.idx e = 0) :=
  ⟨0, wDram (((wBay { reading := { frames := [wReadFrame], badSeen := [0, 7] } }).put (R.LINK_CTL.ADC_RATE 0) 2).put (R.SPIN_SPEED.RD_RPM 0) 6000 |>.put (R.SPIN_SPEED.WR_RPM 0) 6000) 0 wEntry, wReadFrame, {}, wEntry, by decide +kernel⟩
theorem wit_SectorFramesAreReadInStages_2 : ∃ (n : Nat) (s : State) (f : Frame) (e : List Byte) (pos : List Int), (n < s.variant.bays) ∧ ((s.bay n).reading.frames = [f]) ∧ (f.started = false) ∧ (f.fetch = .good e) ∧ (f.idx < 512) :=
  ⟨0, wBay { reading := { frames := [{ wReadFrame with fetch := .good wEntry, idx := 3 }] } }, { wReadFrame with fetch := .good wEntry, idx := 3 }, wEntry, [100], by decide +kernel⟩
theorem wit_SectorFramesAreReadInStages_3 : ∃ (n : Nat) (s : State) (f : Frame) (pos : List Int), (n < s.variant.bays) ∧ ((s.bay n).reading.frames = [f]) ∧ (f.started = false) ∧ (f.fetch = .bad) :=
  ⟨0, wBay { reading := { frames := [{ wReadFrame with fetch := .bad }] } }, { wReadFrame with fetch := .bad }, [], by decide +kernel⟩
theorem wit_SectorFramesAreReadInStages_4 : ∃ (n : Nat) (s : State) (f : Frame), (n < s.variant.bays) ∧ ((s.bay n).reading.frames = [f]) ∧ (f.ready = true) :=
  ⟨0, wBay { reading := { frames := [{ wReadFrame with started := true, members := [{ beam := 0, psa := 0, framed := true }] }] } }, { wReadFrame with started := true, members := [{ beam := 0, psa := 0, framed := true }] }, by decide +kernel⟩
theorem wit_SectorFramesAreReadInStages_5 : ∃ (n : Nat) (s : State) (f : Frame) (m : Member), (n < s.variant.bays) ∧ ((s.bay n).reading.frames = [f]) ∧ (f.started = true) ∧ (f.members = [m]) ∧ (m.framed = true) ∧ (m.done = false) ∧ (m.decoded < m.passes) ∧ ((m.otf (min 7 (s.get (R.DEC_CTL.OFFSET n))) (s.acting (R.DEC_CTL.OTF_ITER n) 1 6) (min 2 (s.get (R.DEC_CTL.OTF_XCH n)) + 1)).done = false) :=
  ⟨0, wBay { reading := { frames := [{ wReadFrame with started := true, members := [{ beam := 0, psa := 0, framed := true, passes := 1 }] }] } }, { wReadFrame with started := true, members := [{ beam := 0, psa := 0, framed := true, passes := 1 }] }, { beam := 0, psa := 0, framed := true, passes := 1 }, by decide +kernel⟩
theorem wit_SectorChecksAndRecoveryDecoders_1 : ∃ (n : Nat) (s : State) (d : Decoded) (rest : List Decoded), (n < s.variant.bays) ∧ ((s.bay n).reading.hold = d :: rest) ∧ (d.tag = none) ∧ (d.otf = true) ∧ (isParityHome d.home = false) ∧ (bitAt (sectorMeta d.bytes).flags 1 = false) ∧ (crc32 (d.bytes.take 4096) ≠ (sectorMeta d.bytes).dataCrc) :=
  ⟨0, wBay { reading := { hold := [⟨none, 64, 64, [7], wRung.last, true⟩] } }, ⟨none, 64, 64, [7], wRung.last, true⟩, [], by decide +kernel⟩
theorem wit_SectorChecksAndRecoveryDecoders_2 : ∃ (n : Nat) (s : State) (d : Decoded) (rest : List Decoded), (n < s.variant.bays) ∧ ((s.bay n).reading.hold = d :: rest) ∧ (d.tag = none) ∧ (d.otf = true) ∧ (isParityHome d.home = false) ∧ (bitAt (sectorMeta d.bytes).flags 1 = false) ∧ (crc32 (d.bytes.take 4096) = (sectorMeta d.bytes).dataCrc) :=
  ⟨0, wBay { reading := { hold := [⟨none, 64, 64, [], wRung.last, true⟩] } }, ⟨none, 64, 64, [], wRung.last, true⟩, [], by decide +kernel⟩
theorem wit_SectorChecksAndRecoveryDecoders_3 : ∃ (n : Nat) (s : State) (g : Rung), (n < s.variant.bays) ∧ ((s.bay n).reading.ladder = [g]) ∧ (g.capture.isSome = true) ∧ (g.capPtr = none) ∧ (g.step = 1) ∧ (g.reads < s.acting (R.DR_CTL.REREAD_N n) 1 3) :=
  ⟨0, (wBay { reading := { ladder := [wRung] } }).put (R.DR_CTL.REREAD_N 0) 3, wRung, by decide +kernel⟩
theorem wit_SectorChecksAndRecoveryDecoders_4 : ∃ (n : Nat) (s : State) (g : Rung), (n < s.variant.bays) ∧ ((s.bay n).reading.ladder = [g]) ∧ (g.queued = true) :=
  ⟨0, wBay { reading := { ladder := [{ wRung with queued := true }] } }, { wRung with queued := true }, by decide +kernel⟩
theorem wit_SectorChecksAndRecoveryDecoders_5 : ∃ (n : Nat) (s : State) (g : Rung), (n < s.variant.bays) ∧ ((s.bay n).reading.ladder = [g]) ∧ (g.running = true) ∧ (g.step = 1) ∧ (g.reads < s.acting (R.DR_CTL.REREAD_N n) 1 3) ∧ (g.capture.bind (s.recover n) = none) :=
  ⟨0, (wBay { reading := { ladder := [{ wRung with running := true }] } }).put (R.DR_CTL.REREAD_N 0) 3, { wRung with running := true }, by decide +kernel⟩
theorem wit_ExtentRebuildAndLadderTimeout_1 : ∃ (n : Nat) (s : State) (x : Nat) (reads : List (Nat × PosSeen)), (n < s.variant.bays) :=
  ⟨0, wBay { reading := { shadows := [] } }, 5, [], by decide +kernel⟩
theorem wit_ExtentRebuildAndLadderTimeout_2 : ∃ (n : Nat) (s : State) (g : Rung), (n < s.variant.bays) ∧ ((s.bay n).reading.ladder = [g]) ∧ (g.step < 5) ∧ (s.servingSeq n = none) ∧ (s.stepOpen n 5 g = true) ∧ ((match s.tag? n g.tag with | some c => decide (5 ≤ c.maxStep) | none => true) = true) :=
  ⟨0, (wBay { reading := { ladder := [wRung] }, disc := { closed := [1] }, move := some (0, 0, true) }).put (R.DR_CTL.STEP_EN 0) 0x3F, wRung, by decide +kernel⟩
theorem wit_DefectListCommits_1 : ∃ (n : Nat) (s : State), (n < s.variant.bays) ∧ ((s.bay n).writing.staged.isEmpty = false) :=
  ⟨0, wBay { writing := { staged := [(⟨64, 128, 0, 1, 0⟩, 64)] } }, by decide +kernel⟩
theorem wit_DefectListCommits_2 : ∃ (n : Nat) (s : State), (n < s.variant.bays) ∧ ((s.bay n).writing.staged.isEmpty = false) :=
  ⟨0, wBay { writing := { staged := [(⟨64, 128, 0, 1, 0⟩, 64)] } }, by decide +kernel⟩
theorem wit_DefectListCommits_3 : ∃ (n : Nat) (s : State) (sectors : List Nat) (sysNext : Nat), (n < s.variant.bays) ∧ (s.on (R.DL_CTL.BUSY n) = true) ∧ ((s.bay n).sched.seg ≠ some .commit) :=
  ⟨0, (wBay { writing := { staged := [(⟨64, 128, 0, 1, 0⟩, 64)] } }).put (R.DL_CTL.BUSY 0) 1, [5], 6, by decide +kernel⟩
theorem wit_DefectListCommits_4 : ∃ (n : Nat) (s : State) (sectors : List Nat) (sysNext : Nat), (n < s.variant.bays) ∧ (s.on (R.DL_CTL.BUSY n) = true) ∧ ((s.bay n).sched.seg ≠ some .commit) :=
  ⟨0, (wBay { writing := { staged := [(⟨64, 128, 0, 1, 0⟩, 64)] } }).put (R.DL_CTL.BUSY 0) 1, [], 6, by decide +kernel⟩
theorem wit_CalibrationQueueAndEnds_1 : ∃ (n : Nat) (s : State), (n < s.variant.bays) ∧ ((s.bay n).cal.run = none) ∧ (((s.bay n).cal.queue.any fun q => q.idx == s.get (R.CAL_CTL.INDEX n)) = false) :=
  ⟨0, wRegs [(R.CAL_CTL.INDEX 0, 33)], by decide +kernel⟩
theorem wit_CalibrationQueueAndEnds_2 : ∃ (n : Nat) (s : State), (n < s.variant.bays) ∧ ((s.bay n).mounted = true) ∧ (s.on (R.FE_TEMP.VALID n) = true) ∧ (s.tempFar n (s.ztEntry n (s.idxNow n)) = true) ∧ (s.calDue n (s.idxNow n) = false) ∧ (zCrcOk (s.ztEntry n (s.idxNow n)) = true) :=
  ⟨0, wDram ((wBay { mounted := true, cal := { temps := [9000] } }).put (R.FE_TEMP.VALID 0) 1) 0 wEntry, by decide +kernel⟩
theorem wit_CalibrationQueueAndEnds_3 : ∃ (n : Nat) (s : State) (r : CalRun), (n < s.variant.bays) ∧ ((s.bay n).cal.run = some r) :=
  ⟨0, wBay { cal := { run := some ⟨⟨5, true, true, false, true⟩, wEntry, [], [], false, false, 0, none⟩ } }, ⟨⟨5, true, true, false, true⟩, wEntry, [], [], false, false, 0, none⟩, by decide +kernel⟩
theorem wit_CalibrationQueueAndEnds_4 : ∃ (n : Nat) (s : State) (c : Cmd) (data : List Byte), (n < s.variant.bays) ∧ ((s.bay n).tags = [c]) ∧ (c.wb.opcode = Op.WRITE) ∧ (c.stage = 1) ∧ (c.wb.dform ≠ 3) ∧ (c.buf.length + data.length < 4096) :=
  ⟨0, wTag BS.READY { wCmd Op.WRITE [] with stage := 1 }, { wCmd Op.WRITE [] with stage := 1 }, [1, 2, 3], by decide +kernel⟩
theorem wit_ModeCommandsAndProposals_1 : ∃ (s : State) (c : Cmd), (s.units = [c]) ∧ (c.wb.opcode = Op.MODE) ∧ (c.wb.field 32 1 = 2) ∧ (c.wb.field 33 1 = 0) ∧ (c.stage = 0) ∧ (s.pendMode = none) ∧ (s.mode = 1) :=
  ⟨(wUnit (wCmd Op.MODE [2])).put R.MODE_STAT.MODE 1, wCmd Op.MODE [2], by decide +kernel⟩
theorem wit_ModeCommandsAndProposals_2 : ∃ (s : State) (c : Cmd), (s.units = [c]) ∧ (c.wb.opcode = Op.MODE) ∧ (c.wb.field 33 1 = 1) ∧ (c.stage = 0) ∧ (epochNewer (c.wb.field 36 4) (s.get R.EPOCH.EPOCH) = true) ∧ (s.on R.MC_UID.VALID = true) :=
  ⟨(wUnit (wCmd Op.MODE [2, 1, 0, 0, 9])).put R.MC_UID.VALID 1, wCmd Op.MODE [2, 1, 0, 0, 9], by decide +kernel⟩
theorem wit_ModeCommandsAndProposals_3 : ∃ (s : State) (k : Nat), True :=
  ⟨{ State.reset with chain := { props := [{ id := 4, epoch := 2 }] } }, 4, by decide +kernel⟩
theorem wit_ModeCommandsAndProposals_4 : ∃ (s : State) (p : PendingMode), (s.pendMode = some p) ∧ (p.late = false) ∧ (p.proposal = none) :=
  ⟨{ State.reset with pendMode := some ⟨3, none, none, 0, [1], false⟩ }, ⟨3, none, none, 0, [1], false⟩, by decide +kernel⟩
theorem wit_ModeCommandsAndProposals_5 : ∃ (s : State) (n : Nat) (c : Cmd) (rest : List Cmd), (n < s.variant.bays) ∧ ((s.bay n).waiting = c :: rest) ∧ (s.bayLags n = true) :=
  ⟨{ wBay { waiting := [wCmd Op.READ []] } with pendMode := some ⟨3, none, some (1, 2), 0, [0], false⟩ }, 0, wCmd Op.READ [], [], by decide +kernel⟩
theorem wit_ModeCommandsAndProposals_6 : ∃ (s : State) (e : Nat), (s.get R.FAB_CTL.EN = 0) ∧ (s.on R.EPOCH_CTL.PENDING = false) ∧ (s.fab.held = []) ∧ (e < 2 ^ 32) :=
  ⟨State.reset, 77, by decide +kernel⟩
theorem wit_ModeCommandsAndProposals_7 : ∃ (s : State) (e : Nat), (s.get R.FAB_CTL.EN ≠ 0 ∨ s.on R.EPOCH_CTL.PENDING = true) :=
  ⟨wRegs [(R.FAB_CTL.EN, 1)], 77, by decide +kernel⟩
theorem wit_ModeCommandsAndProposals_8 : ∃ (s : State) (p : PendingMode), (s.pendMode = some p) ∧ (p.proposal.isSome = true) :=
  ⟨{ State.reset with pendMode := some ⟨3, none, some (1, 2), 0, [], false⟩ }, ⟨3, none, some (1, 2), 0, [], false⟩, by decide +kernel⟩
theorem wit_ManagementChainFrames_1 : ∃ (s : State) (f : ChainFrame), (chainGood f = true) ∧ ((f.getD 0 0).toNat = 2) ∧ ((chainField f 0 2, chainField f 2 1) ∉ s.chain.seen) ∧ (chainField f 0 2 ≠ 0xFFFF) ∧ (s.pendMode = none) ∧ (s.mode = 1) ∧ (epochNewer (chainField f 4 4) (s.get R.EPOCH.EPOCH) = true) ∧ (chainField f 3 1 = 3) ∧ (s.bayWait 3 ≠ []) :=
  ⟨((wBay { sched := { seg := some .commit } }).put (R.STATE.STATE 0) BS.READY), wChain 2 (bytesLE 1 3 ++ bytesLE 4 5 ++ bytesLE 4 1000), by decide +kernel⟩
theorem wit_ManagementChainFrames_2 : ∃ (s : State) (f : ChainFrame) (x : Proposer), (chainGood f = true) ∧ ((f.getD 0 0).toNat = 3) ∧ ((chainField f 0 2, chainField f 2 1) ∉ s.chain.seen) ∧ (s.chain.props = [x]) ∧ (x.epoch = chainField f 4 4) ∧ (s.get R.MC_UNITS.UNITS = 0) :=
  ⟨{ State.reset with chain := { props := [{ id := 4, epoch := 5 }] } }, wChain 3 (bytesLE 1 0 ++ bytesLE 4 5 ++ bytesLE 2 1), { id := 4, epoch := 5 }, by decide +kernel⟩
theorem wit_ManagementChainFrames_3 : ∃ (s : State) (f : ChainFrame), (chainGood f = true) ∧ ((f.getD 0 0).toNat = 4) ∧ ((chainField f 0 2, chainField f 2 1) ∉ s.chain.seen) :=
  ⟨State.reset, wChain 4 (bytesLE 1 0), by decide +kernel⟩
theorem wit_ManagementChainFrames_4 : ∃ (s : State), True :=
  ⟨State.reset, by decide +kernel⟩
theorem wit_ManagementChainFrames_5 : ∃ (s : State) (lock : Bool), True :=
  ⟨State.reset, true, by decide +kernel⟩
theorem wit_ManagementChainFrames_6 : ∃ (s : State) (f : ChainFrame), (chainGood f = true) ∧ ((f.getD 0 0).toNat = 1) ∧ (chainField f 2 2 < 256) ∧ (s.on R.MC_CTL.ROLL_EN = true) ∧ (s.on R.MC_UID.VALID = false) :=
  ⟨wRegs [(R.MC_CTL.ROLL_EN, 1)], chainBytes 1 [2, 0, 5, 0, 1, 0], by decide +kernel⟩
theorem wit_CurfewCausesAndTemperature_1 : ∃ (s : State), True :=
  ⟨wBay {}, by decide +kernel⟩
theorem wit_CurfewCausesAndTemperature_2 : ∃ (s : State), (s.mode = 1) ∧ (s.pendMode = none) ∧ (s.bitOf R.CURFEW_CAUSE.CAUSE 0 = false) :=
  ⟨wBay {}, by decide +kernel⟩
theorem wit_CurfewCausesAndTemperature_3 : ∃ (s : State), (s.on R.HB_CTL.ARMED = true) :=
  ⟨(wBay {}).put R.HB_CTL.ARMED 1, by decide +kernel⟩
theorem wit_CurfewCausesAndTemperature_4 : ∃ (s : State), True :=
  ⟨wRegs [(R.CURFEW_CAUSE.CAUSE, 8)], by decide +kernel⟩
theorem wit_CurfewCausesAndTemperature_5 : ∃ (s : State) (v : Nat), (bitAt v 0 = true) ∧ (s.pendMode = none) :=
  ⟨wRegs [(R.CURFEW_CAUSE.CAUSE, 1), (R.SUP_STAT.INTLK, 1)], 1, by decide +kernel⟩
theorem wit_CurfewCausesAndTemperature_6 : ∃ (s : State) (x : Int), (((128 * s.acting R.TEMP_LIM.CURFEW_T 95 120 : Nat) : Int) ≤ x) ∧ (x < 2 ^ 15) :=
  ⟨wBay {}, 15360, by decide +kernel⟩
theorem wit_CurfewCausesAndTemperature_7 : ∃ (s : State) (x : Int), (x < ((128 * s.acting R.TEMP_LIM.CURFEW_T 95 120 : Nat) : Int) - ((128 * s.acting R.TEMP_LIM.HYST 2 30 : Nat) : Int)) ∧ (- 2 ^ 15 ≤ x) :=
  ⟨wRegs [(R.CURFEW_CAUSE.CAUSE, 2)], 5120, by decide +kernel⟩
theorem wit_CurfewCausesAndTemperature_8 : ∃ (s : State) (x : Int), (((128 * s.acting R.TEMP_LIM.WARN_T 80 115 : Nat) : Int) ≤ x) ∧ (x < ((128 * s.acting R.TEMP_LIM.CURFEW_T 95 120 : Nat) : Int)) :=
  ⟨wRegs [(R.TEMP_LIM.WARN_T, 80), (R.TEMP_LIM.CURFEW_T, 120)], 12800, by decide +kernel⟩
theorem wit_CurfewCausesAndTemperature_9 : ∃ (s : State) (k : PcieResetKind), True :=
  ⟨wBay {}, .hot, by decide +kernel⟩
theorem wit_CurfewCausesAndTemperature_10 : ∃ (s : State) (k : PcieResetKind), (s.mode = 4) ∧ (s.pendMode = none) :=
  ⟨(wUnit (wCmd Op.MODE [2])).put R.MODE_STAT.MODE 4, .linkDown, by decide +kernel⟩
theorem wit_DoorbellFetchAndAdmission_1 : ∃ (s : State), (s.on R.PORTER_CTL.ENABLE = true) ∧ (s.mode ≠ 5) ∧ (s.on R.PORTER_STAT.DB_HALT = false) ∧ (s.porter.fetching = false) ∧ (s.canIssue = true) :=
  ⟨wHost, by decide +kernel⟩
theorem wit_DoorbellFetchAndAdmission_2 : ∃ (s : State), (s.porter.fetching = true) :=
  ⟨{ wHost with porter := { fetching := true } }, by decide +kernel⟩
theorem wit_DoorbellFetchAndAdmission_3 : ∃ (s : State), (s.on R.PORTER_CTL.ENABLE = true) ∧ (s.mode ≠ 5) ∧ (s.on R.PORTER_STAT.DB_HALT = false) ∧ (s.porter.fetching = false) ∧ (s.canIssue = true) ∧ (s.get R.POLL.IDLE ≠ 0) ∧ (s.get R.POLL.BUSY ≠ 0) :=
  ⟨(wHost.put R.POLL.IDLE 5).put R.POLL.BUSY 5, by decide +kernel⟩
theorem wit_DoorbellFetchAndAdmission_4 : ∃ (s : State) (r : Nat) (tails heads : List Nat), (s.porter.fetching = true) ∧ (s.porter.again = false) ∧ (r < 256) ∧ (s.on (R.SUB_CFG.EN r) = true) ∧ (s.on (R.SUB_STAT.HALTED r) = false) ∧ (tails.getD r 0 < s.subSize r) :=
  ⟨{ wHost.put (R.SUB_CFG.EN 1) 1 with porter := { fetching := true } }, 1, [0, 5], [], by decide +kernel⟩
theorem wit_DoorbellFetchAndAdmission_5 : ∃ (s : State) (r : Nat) (wbs : List Waybill), ((s.sub r).reading = wbs.length) ∧ (wbs ≠ []) :=
  ⟨wHost.setSub 2 { staged := [], reading := 1 }, 2, [wWaybill Op.MODE], by decide +kernel⟩
theorem wit_DoorbellFetchAndAdmission_6 : ∃ (s : State) (r slot : Nat) (w : Waybill) (rest : List (Nat × Waybill)) (list : List (Nat × Nat × Nat)), ((s.sub r).staged = (slot, w) :: rest) ∧ (rest ≠ []) ∧ (s.on (R.SUB_CFG.EN r) = true) ∧ (s.bayPresent (targetBay w) = false) ∧ (s.admissible r w = true) ∧ (s.on (R.RCP_CFG.EN w.rring) = true) ∧ (w.early = false) :=
  ⟨((wHost.put (R.SUB_CFG.EN 1) 1).put (R.RCP_CFG.EN 0) 1).setSub 1 ⟨[(4, wWaybill Op.MODE), (5, wWaybill Op.MODE)], 0, false⟩, 1, 4, wWaybill Op.MODE, [(5, wWaybill Op.MODE)], [], by decide +kernel⟩
theorem wit_DoorbellFetchAndAdmission_7 : ∃ (s : State) (r slot : Nat) (w : Waybill) (rest : List (Nat × Waybill)) (list : List (Nat × Nat × Nat)), ((s.sub r).staged = (slot, w) :: rest) ∧ (rest ≠ []) ∧ (s.on (R.SUB_CFG.EN r) = true) ∧ (s.bayPresent (targetBay w) = false) ∧ (s.admissible r w = true) ∧ (s.on (R.RCP_CFG.EN w.rring) = true) ∧ (isBayOp w.opcode = false) ∧ (isCustomerOp w.opcode = false) ∧ (w.opcode ≠ Op.TABLE_READ) :=
  ⟨((wHost.put (R.SUB_CFG.EN 1) 1).put (R.RCP_CFG.EN 0) 1).setSub 1 ⟨[(4, wWaybill Op.MODE), (5, wWaybill Op.MODE)], 0, false⟩, 1, 4, wWaybill Op.MODE, [(5, wWaybill Op.MODE)], [], by decide +kernel⟩
theorem wit_HaltsReceiptsAndMessages_1 : ∃ (s : State) (c addr id : Nat) (f : HostFault) (bufs : List Nat), (128 ≤ c) ∧ (s.channelPresent c = true) ∧ (s.channelHalted c = false) :=
  ⟨wHost, 384, 0x1000, 0, .poison, [], by decide +kernel⟩
theorem wit_HaltsReceiptsAndMessages_2 : ∃ (s : State) (c addr id : Nat) (bufs : List Nat), (128 ≤ c) ∧ (s.channelPresent c = true) ∧ (s.channelHalted c = false) :=
  ⟨wHost, 130, 0x1000, 0, [], by decide +kernel⟩
theorem wit_HaltsReceiptsAndMessages_3 : ∃ (s : State) (c addr : Nat) (d : Cmd) (f : HostFault) (bufs : List Nat), (c < 128) ∧ (s.bayPresent c = true) ∧ (s.channelHalted c = false) ∧ ((s.bay c).tags = [d]) ∧ (d.wb.opcode = Op.WRITE) ∧ ((s.bay c).writing.run = []) :=
  ⟨wTag BS.ACTIVE (wCmd Op.WRITE []), 0, 0x1000, wCmd Op.WRITE [], .ur, [], by decide +kernel⟩
theorem wit_HaltsReceiptsAndMessages_4 : ∃ (s : State) (c addr : Nat) (d : Cmd) (bufs : List Nat), (c < 128) ∧ (s.bayPresent c = true) ∧ (s.channelHalted c = false) ∧ ((s.bay c).tags = [d]) ∧ (d.wb.opcode = Op.WRITE) ∧ ((s.bay c).writing.run = []) :=
  ⟨wTag BS.ACTIVE (wCmd Op.WRITE []), 0, 0x1000, wCmd Op.WRITE [], [], by decide +kernel⟩
theorem wit_HaltsReceiptsAndMessages_5 : ∃ (s : State) (c : Nat), (c < 389) ∧ (s.channelHalted c = true) :=
  ⟨wHost.put (R.HALT_W0.CAUSE 130) 4, 130, by decide +kernel⟩
theorem wit_HaltsReceiptsAndMessages_6 : ∃ (s : State) (c : Nat), (389 ≤ c ∨ s.channelHalted c = false) :=
  ⟨wHost, 130, by decide +kernel⟩
theorem wit_HaltsReceiptsAndMessages_7 : ∃ (s : State) (q : Receipt) (rest : List Receipt), (s.porter.receipts = q :: rest) ∧ (s.canIssue = true) :=
  ⟨{ wHost.put (R.RCP_CFG.EN 0) 1 with porter := { receipts := [wReceipt] } }, wReceipt, [], by decide +kernel⟩
theorem wit_HaltsReceiptsAndMessages_8 : ∃ (s : State) (r : Nat), (1 ≤ s.pendingOf r) ∧ (s.vectorHeld (s.get (R.RCP_CFG.VECTOR r)) = false) ∧ (Sparse.rising s.rcps = true) :=
  ⟨(wHost.put (R.MSIX_CTL.MASK 0) 0).setPendingOf 3 2, 3, by decide +kernel⟩
theorem wit_HaltsReceiptsAndMessages_9 : ∃ (s : State) (r : Nat), (1 ≤ s.pendingOf r) ∧ (s.vectorHeld (s.get (R.RCP_CFG.VECTOR r)) = true) :=
  ⟨(wHost.put (R.MSIX_CTL.MASK 0) 1).setPendingOf 3 2, 3, by decide +kernel⟩
theorem wit_VectorsBusMasteringAndRings_1 : ∃ (s : State) (v : Nat), (v < 2048) ∧ (s.pcie.funcMask = false) ∧ (s.pcie.msixEnable = true) ∧ (s.canIssue = true) :=
  ⟨(wHost.put (R.MSIX_CTL.MASK 7) 1).pbaSet 7 true, 7, by decide +kernel⟩
theorem wit_VectorsBusMasteringAndRings_2 : ∃ (s : State), True :=
  ⟨{ State.reset with heldOut := [.hostRead 384 0 1024] }, by decide +kernel⟩
theorem wit_VectorsBusMasteringAndRings_3 : ∃ (s : State) (k : BusMasterLoss), True :=
  ⟨wHost, .d3hot, by decide +kernel⟩
theorem wit_VectorsBusMasteringAndRings_4 : ∃ (s : State) (r : Nat), (s.on (R.SUB_CFG.EN r) = false) ∧ (Sparse.rising s.subs = true) :=
  ⟨wRegs [(R.SUB_TAIL.TAIL 3, 9)], 3, by decide +kernel⟩
theorem wit_VectorsBusMasteringAndRings_5 : ∃ (s : State) (r : Nat), (Sparse.rising s.subs = true) :=
  ⟨wHost.setSub 3 ⟨[(4, wWaybill Op.MODE)], 0, false⟩, 3, by decide +kernel⟩
theorem wit_VectorsBusMasteringAndRings_6 : ∃ (s : State) (r : Nat), (s.on (R.RCP_CFG.EN r) = false) ∧ (s.on (R.RCP_CFG.DRAINING r) = false) :=
  ⟨wRegs [(R.RCP_TAIL.TAIL 3, 9)], 3, by decide +kernel⟩
theorem wit_VectorsBusMasteringAndRings_7 : ∃ (s : State) (r : Nat), (s.on (R.RCP_CFG.EN r) = false) ∧ (s.on (R.RCP_CFG.DRAINING r) = true) :=
  ⟨wRegs [(R.RCP_CFG.DRAINING 3, 1)], 3, by decide +kernel⟩
theorem wit_VectorsBusMasteringAndRings_8 : ∃ (s : State) (r : Nat), (s.on (R.RCP_CFG.EN r) = true) :=
  ⟨wRegs [(R.RCP_CFG.EN 3, 1), (R.RCP_STAT.RESERVED 3, 2)], 3, by decide +kernel⟩
theorem wit_ReadClassCommands_1 : ∃ (n : Nat) (s : State) (c : Cmd), (n < s.variant.bays) ∧ ((s.bay n).tags = [c]) ∧ ((s.bay n).waiting = []) ∧ (c.granted = false) ∧ (c.wb.opcode = Op.FLUSH ∨ s.grantStatus n c = 0) ∧ (c.isReplay = false) :=
  ⟨0, wTag BS.READY (wCmd Op.FLUSH []), wCmd Op.FLUSH [], by decide +kernel⟩
theorem wit_ReadClassCommands_2 : ∃ (n : Nat) (s : State) (c : Cmd), (n < s.variant.bays) ∧ ((s.bay n).tags = [c]) ∧ (c.wb.opcode = Op.READ) ∧ (c.granted = true) ∧ (c.discard = false) ∧ (c.wb.dform ≠ 3) ∧ (c.stop = none) ∧ (c.settled = true) :=
  ⟨0, wTagB BS.READY { wCmd Op.READ [] with granted := true } {  }, { wCmd Op.READ [] with granted := true }, by decide +kernel⟩
theorem wit_ReadClassCommands_3 : ∃ (n : Nat) (s : State) (c : Cmd), (n < s.variant.bays) ∧ ((s.bay n).tags = [c]) ∧ (c.wb.opcode = Op.VERIFY) ∧ (c.granted = true) ∧ (c.discard = false) ∧ (c.isReplay = false) ∧ (c.stop = none) ∧ (c.settled = true) :=
  ⟨0, wTagB BS.READY { wCmd Op.VERIFY [] with granted := true } {  }, { wCmd Op.VERIFY [] with granted := true }, by decide +kernel⟩
theorem wit_ReadClassCommands_4 : ∃ (n : Nat) (s : State) (c : Cmd) (e : JEntry) (full : Bool) (sectors : List Nat) (sysNext : Nat), (n < s.variant.bays) ∧ ((s.bay n).tags = [c]) ∧ (c.wb.opcode = Op.VERIFY) ∧ (c.granted = true) ∧ (c.discard = false) ∧ (c.isReplay = true) ∧ (c.stop = none) ∧ (c.settled = true) ∧ (s.jEntry n (c.wb.field 32 1) = some e) ∧ (e.kind = 1) ∧ (∀ i ∈ c.items, i.2.outcome ≠ outUncorrectable) ∧ ((s.bay n).writing.journal.rising = true) :=
  ⟨0, wTagB BS.READY { wJournalCmd with granted := true } { writing := { journal := [(0, ⟨0, 64, 64, 0, 3, 1, 0, 0, 1, false⟩)] } }, { wJournalCmd with granted := true }, ⟨0, 64, 64, 0, 3, 1, 0, 0, 1, false⟩, false, [], 0, by decide +kernel⟩
theorem wit_ReadClassCommands_5 : ∃ (n : Nat) (s : State) (c : Cmd), (n < s.variant.bays) ∧ ((s.bay n).tags = [c]) ∧ (c.wb.opcode = Op.MEDIA_SCAN) ∧ (c.granted = true) ∧ (c.discard = false) ∧ (c.stop = none) ∧ (c.scanX + 1 < c.wb.field 36 4) ∧ (((List.range 64).all fun p => c.items.has (64 * c.scanX + p)) = true) ∧ (c.wb.flag4 = false) :=
  ⟨0, wTagB BS.READY { wCmd Op.MEDIA_SCAN [0, 0, 0, 0, 5] with granted := true, items := wItems 64 } {  }, { wCmd Op.MEDIA_SCAN [0, 0, 0, 0, 5] with granted := true, items := wItems 64 }, by decide +kernel⟩
theorem wit_WriteClassCommands_1 : ∃ (n : Nat) (s : State) (c : Cmd) (written : List Nat) (reads : List (Nat × Nat × PosSeen)), (n < s.variant.bays) ∧ ((s.bay n).tags = [c]) ∧ (c.wb.opcode = Op.WRITE) ∧ (c.granted = true) ∧ (c.discard = false) ∧ (c.stage = 0) ∧ (c.stop = none) ∧ (c.wb.dform = 1) :=
  ⟨0, wTagB BS.READY { wCmd Op.WRITE [] with granted := true, wb := { wWaybill Op.WRITE with dform := 1, bay := 0 } } {  }, { wCmd Op.WRITE [] with granted := true, wb := { wWaybill Op.WRITE with dform := 1, bay := 0 } }, [], [], by decide +kernel⟩
theorem wit_WriteClassCommands_2 : ∃ (n : Nat) (s : State) (c : Cmd) (written : List Nat) (reads : List (Nat × Nat × PosSeen)), (n < s.variant.bays) ∧ ((s.bay n).tags = [c]) ∧ (c.wb.opcode = Op.CLOSE_EXTENT) ∧ (c.granted = true) ∧ (c.discard = false) ∧ (c.wb.flag4 = false) ∧ (c.stop = none) ∧ (c.staged.length = c.count) ∧ (s.tagWork n c.id = false) :=
  ⟨0, wTagB BS.READY { wCmd Op.CLOSE_EXTENT [] with granted := true } {  }, { wCmd Op.CLOSE_EXTENT [] with granted := true }, [], [], by decide +kernel⟩
theorem wit_WriteClassCommands_3 : ∃ (n : Nat) (s : State) (c : Cmd), (n < s.variant.bays) ∧ ((s.bay n).tags = [c]) ∧ (c.wb.opcode = Op.CLOSE_EXTENT) ∧ (c.granted = true) ∧ (c.discard = false) ∧ (c.wb.flag4 = true) :=
  ⟨0, wTagB BS.READY { wCmd Op.CLOSE_EXTENT [] with granted := true, wb := { wWaybill Op.CLOSE_EXTENT with flags := 16, bay := 0 } } {  }, { wCmd Op.CLOSE_EXTENT [] with granted := true, wb := { wWaybill Op.CLOSE_EXTENT with flags := 16, bay := 0 } }, by decide +kernel⟩
theorem wit_WriteClassCommands_4 : ∃ (n : Nat) (s : State) (c : Cmd) (full : Bool) (sectors : List Nat) (sysNext : Nat), (n < s.variant.bays) ∧ ((s.bay n).tags = [c]) ∧ (c.wb.opcode = Op.FLUSH) ∧ (c.granted = true) ∧ (c.discard = false) ∧ (c.waits = []) ∧ ((s.bay n).writing.staged = []) ∧ (c.failedWr = 0) :=
  ⟨0, wTagB BS.READY { wCmd Op.FLUSH [] with granted := true } {  }, { wCmd Op.FLUSH [] with granted := true }, false, [], 0, by decide +kernel⟩
theorem wit_WriteClassCommands_5 : ∃ (n : Nat) (s : State) (c : Cmd) (dirPsa : Nat) (sectors : List Nat) (sysNext : Nat), (n < s.variant.bays) ∧ ((s.bay n).tags = [c]) ∧ (c.wb.opcode = Op.PARTITION_CREATE) ∧ (c.granted = true) ∧ (c.discard = false) ∧ ((s.bay n).writing.staged = []) :=
  ⟨0, wTagB BS.READY { wCmd Op.PARTITION_CREATE [] with granted := true } {  }, { wCmd Op.PARTITION_CREATE [] with granted := true }, 5, [], 0, by decide +kernel⟩
theorem wit_WriteClassCommands_6 : ∃ (n : Nat) (s : State) (c : Cmd) (p : PartEntry) (dirPsa : Nat) (sectors : List Nat) (sysNext : Nat), (n < s.variant.bays) ∧ ((s.bay n).tags = [c]) ∧ (c.wb.opcode = Op.PARTITION_RETIRE) ∧ (c.granted = true) ∧ (c.discard = false) ∧ ((s.bay n).writing.staged = []) ∧ (s.partEntry n c = some p) :=
  ⟨0, wTagB BS.READY { wCmd Op.PARTITION_RETIRE [] with granted := true } { disc := { dir := [⟨1, 0, 0, 9, 0, 0, 0, 0, 0⟩] } }, { wCmd Op.PARTITION_RETIRE [] with granted := true }, ⟨1, 0, 0, 9, 0, 0, 0, 0, 0⟩, 5, [], 0, by decide +kernel⟩
theorem wit_WriteClassCommands_7 : ∃ (n : Nat) (s : State) (c : Cmd), (n < s.variant.bays) ∧ ((s.bay n).tags = [c]) ∧ (c.wb.opcode = Op.KEY_BIND) ∧ (c.granted = true) ∧ (c.discard = false) :=
  ⟨0, wTagB BS.READY { wCmd Op.KEY_BIND [] with granted := true } {  }, { wCmd Op.KEY_BIND [] with granted := true }, by decide +kernel⟩
theorem wit_MountUnmountAndRawSlots_1 : ∃ (n : Nat) (s : State) (c : Cmd) (copies anchors : List (Option (List Byte))) (dir : Option (List Byte)) (dl : List (Nat × Option (List Byte))), (n < s.variant.bays) ∧ ((s.bay n).tags = [c]) ∧ (c.wb.opcode = Op.MOUNT) ∧ (c.granted = true) ∧ (c.discard = false) ∧ ((s.bay n).disc.suspend = false) ∧ (c.stage = 2) ∧ (s.bayState n = BS.READY ∨ s.bayState n = BS.ACTIVE) ∧ (((s.bay n).disc.defects.length + 65535) / 65536 ≤ (s.bay n).disc.dlBufs.length) :=
  ⟨0, wTagB BS.READY { wCmd Op.MOUNT [] with granted := true, stage := 2 } {  }, { wCmd Op.MOUNT [] with granted := true, stage := 2 }, [], [], none, [], by decide +kernel⟩
theorem wit_MountUnmountAndRawSlots_2 : ∃ (n : Nat) (s : State) (c : Cmd) (copies anchors : List (Option (List Byte))) (dir : Option (List Byte)) (dl : List (Nat × Option (List Byte))), (n < s.variant.bays) ∧ ((s.bay n).tags = [c]) ∧ (c.wb.opcode = Op.MOUNT) ∧ (c.granted = true) ∧ (c.discard = false) ∧ ((s.bay n).disc.suspend = false) ∧ (c.stage = 0) ∧ (s.bayState n = BS.EMPTY) :=
  ⟨0, wTagB BS.EMPTY { wCmd Op.MOUNT [] with granted := true } {  }, { wCmd Op.MOUNT [] with granted := true }, [], [], none, [], by decide +kernel⟩
theorem wit_MountUnmountAndRawSlots_3 : ∃ (n : Nat) (s : State) (c : Cmd) (reads : List (Nat × Nat × PosSeen)) (full : Bool) (sectors : List Nat) (sysNext : Nat), (n < s.variant.bays) ∧ ((s.bay n).tags = [c]) ∧ (c.wb.opcode = Op.UNMOUNT) ∧ (c.granted = true) ∧ (c.discard = false) ∧ (c.stage = 2) ∧ (s.bayState n = BS.EMPTY ∨ s.bayState n = BS.OFF) :=
  ⟨0, wTagB BS.EMPTY { wCmd Op.UNMOUNT [] with granted := true, stage := 2 } { mounted := true }, { wCmd Op.UNMOUNT [] with granted := true, stage := 2 }, [], false, [], 0, by decide +kernel⟩
theorem wit_MountUnmountAndRawSlots_4 : ∃ (n : Nat) (s : State) (c : Cmd) (k : Nat) (l : List Byte), (n < s.variant.bays) ∧ ((s.bay n).tags = [c]) ∧ (c.wb.opcode = Op.TABLE_READ) ∧ (c.granted = true) ∧ (c.discard = false) ∧ (c.stage = 1) ∧ ((s.bay n).reading.raw = some (k, l)) :=
  ⟨0, wTagB BS.READY { wCmd Op.TABLE_READ [1] with granted := true, stage := 1 } { reading := { raw := some (0, []) } }, { wCmd Op.TABLE_READ [1] with granted := true, stage := 1 }, 0, [], by decide +kernel⟩
theorem wit_TableCommands_1 : ∃ (s : State) (c : Cmd) (data : List Byte) (seen : MemSeen), (s.units = [c]) ∧ (c.wb.opcode = Op.TABLE_LOAD) ∧ (c.discard = false) ∧ (c.wb.field 32 1 ≠ 1) ∧ (c.stage = 1) ∧ ((c.buf ++ data).length = (c.wb.field 48 4)) ∧ ((s.memWrite false idPorter (c.wb.field 40 8) (c.buf ++ data) seen).1 = .done []) ∧ (Memory.wf s.dram = true) :=
  ⟨wDram { wUnitIn { wCmd Op.TABLE_LOAD (wParam [(16, 4)]) with discard := false, stage := 1 } with pending := [] } 0 [], { wCmd Op.TABLE_LOAD (wParam [(16, 4)]) with discard := false, stage := 1 }, [1, 2, 3, 4], {}, by decide +kernel⟩
theorem wit_TableCommands_2 : ∃ (s : State) (c : Cmd) (data : List Byte) (seen : MemSeen), (s.units = [c]) ∧ (c.wb.opcode = Op.TABLE_LOAD) ∧ (c.wb.field 32 1 = 1) ∧ (c.stage = 1) ∧ ((c.buf ++ data).length < (c.wb.field 48 4)) :=
  ⟨{ wUnitIn { wCmd Op.TABLE_LOAD (wParam [(0, 1), (16, 4)]) with discard := false, stage := 1 } with pending := [] }, { wCmd Op.TABLE_LOAD (wParam [(0, 1), (16, 4)]) with discard := false, stage := 1 }, [1], {}, by decide +kernel⟩
theorem wit_TableCommands_3 : ∃ (s : State) (c : Cmd) (data : List Byte) (seen : MemSeen), (s.units = [c]) ∧ (c.wb.opcode = Op.TABLE_LOAD) ∧ (c.discard = false) ∧ (c.wb.field 32 1 = 1) ∧ (c.stage = 1) ∧ ((c.buf ++ data).length = (c.wb.field 48 4)) ∧ ((s.memWrite false idPorter (c.wb.field 40 8) (c.buf ++ data) seen).1 = .done []) ∧ (Memory.wf s.dram = true) :=
  ⟨wDram { wUnitIn { wCmd Op.TABLE_LOAD (wParam [(0, 1), (16, 4)]) with discard := false, stage := 1 } with pending := [] } 0 [], { wCmd Op.TABLE_LOAD (wParam [(0, 1), (16, 4)]) with discard := false, stage := 1 }, [1, 2, 3, 4], {}, by decide +kernel⟩
theorem wit_TableCommands_4 : ∃ (s : State) (c : Cmd) (seen : MemSeen) (l : List Byte) (a k : Nat) (rest : List (Nat × Nat)), (s.units = [c]) ∧ (c.wb.opcode = Op.TABLE_READ) ∧ (c.loc = (a, k) :: rest) ∧ (c.discard = false) ∧ (s.rangeOk (c.wb.field 40 8) (c.wb.field 48 4) = true) ∧ ((s.memRead false idPorter (c.wb.field 40 8) (c.wb.field 48 4) seen).1 = .done l) ∧ (s.canIssue = true) :=
  ⟨wDram { wUnitIn { wCmd Op.TABLE_READ (wParam [(16, 4)]) with discard := false, loc := [(0x5000, 4)] } with pending := [] } 0 [7], { wCmd Op.TABLE_READ (wParam [(16, 4)]) with discard := false, loc := [(0x5000, 4)] }, {}, [7, 0, 0, 0], 0x5000, 4, [], by decide +kernel⟩
theorem wit_StripeFixityAndTransfers_1 : ∃ (s : State) (c : Cmd), (s.units = [c]) ∧ (c.wb.opcode = Op.STRIPE_ENCODE) ∧ (c.stage = 0) ∧ (c.stripeFields = true) ∧ (s.canIssue = true) :=
  ⟨{ wUnitIn { wCmd Op.STRIPE_ENCODE [] with discard := false, wb := { wWaybill Op.STRIPE_ENCODE with dlen := 64, param := wParam [(0, 1), (1, 1), (5, 0x10)] } } with pending := [] }, { wCmd Op.STRIPE_ENCODE [] with discard := false, wb := { wWaybill Op.STRIPE_ENCODE with dlen := 64, param := wParam [(0, 1), (1, 1), (5, 0x10)] } }, by decide +kernel⟩
theorem wit_StripeFixityAndTransfers_2 : ∃ (s : State) (c : Cmd), (s.units = [c]) ∧ (c.wb.opcode = Op.STRIPE_REBUILD) ∧ (c.stage = 0) ∧ (c.stripeFields = true) ∧ (s.canIssue = true) :=
  ⟨{ wUnitIn { wCmd Op.STRIPE_REBUILD [] with discard := false, wb := { wWaybill Op.STRIPE_REBUILD with dlen := 64, param := wParam [(0, 1), (1, 1), (5, 0x10), (8, 1), (16, 2)] } } with pending := [] }, { wCmd Op.STRIPE_REBUILD [] with discard := false, wb := { wWaybill Op.STRIPE_REBUILD with dlen := 64, param := wParam [(0, 1), (1, 1), (5, 0x10), (8, 1), (16, 2)] } }, by decide +kernel⟩
theorem wit_StripeFixityAndTransfers_3 : ∃ (s : State) (c : Cmd) (data : List (Nat × List Byte)) (seen : MemSeen) (src : List (Nat × List Byte)), (s.units = [c]) ∧ (c.stage = 3) ∧ (s.channelHalted 385 = false) ∧ ((State.stripeRead c data seen c.sources s).1 = some src) :=
  ⟨wUnitIn { wCmd Op.STRIPE_ENCODE (wParam [(0, 1), (1, 1), (4, 8)]) with discard := false, stage := 3, buf := List.replicate 64 0 }, { wCmd Op.STRIPE_ENCODE (wParam [(0, 1), (1, 1), (4, 8)]) with discard := false, stage := 3, buf := List.replicate 64 0 }, [(0, [1, 2, 3, 4, 5, 6, 7, 8])], {}, [(0, [1, 2, 3, 4, 5, 6, 7, 8])], by decide +kernel⟩
theorem wit_StripeFixityAndTransfers_4 : ∃ (s : State) (c : Cmd) (data old : List Byte) (seen : MemSeen), (s.units = [c]) ∧ (c.wb.opcode = Op.FIXITY) ∧ (c.discard = false) ∧ (c.stage = 1) ∧ (s.channelHalted 386 = false) ∧ (c.wb.field 33 1 ≠ 1) ∧ (data.length = c.wb.field 40 8) ∧ (c.wb.flag4 = false) ∧ (s.canIssue = true) :=
  ⟨{ wUnitIn { wCmd Op.FIXITY (wParam [(0, 1), (8, 4)]) with discard := false, stage := 1 } with pending := [] }, { wCmd Op.FIXITY (wParam [(0, 1), (8, 4)]) with discard := false, stage := 1 }, [1, 2, 3, 4], [], {}, by decide +kernel⟩
theorem wit_StripeFixityAndTransfers_5 : ∃ (s : State) (c : Cmd) (data : List Byte) (seen : MemSeen), (s.units = [c]) ∧ (c.wb.opcode = Op.FABRIC_SEND) ∧ (c.stage = 0) ∧ (s.sendOk c = true) ∧ (c.wb.field 32 1 = 0) ∧ (s.fabCheck (c.wb.field 33 1) (c.wb.field 34 2) = 0) ∧ ((s.choosePort (c.wb.field 33 1) s.fab.xid).isSome = true) :=
  ⟨(((wUnitIn { wCmd Op.FABRIC_SEND (wParam [(2, 9), (13, 0x10)]) with discard := false, loc := [(0, 4096)] }).put R.MC_UID.VALID 1).put R.FAB_CTL.EN 3).put (R.FP_STAT.LINK 0) 1, { wCmd Op.FABRIC_SEND (wParam [(2, 9), (13, 0x10)]) with discard := false, loc := [(0, 4096)] }, [], {}, by decide +kernel⟩
theorem wit_KeysAndSecrets_1 : ∃ (s : State), (s.variant.crypto = true) ∧ (s.keyClosed = false) ∧ (s.keyData.take 32 ≠ s.keyData.drop 32) :=
  ⟨wRegs [(R.KEY_DATA.DATA 0, 5)], by decide +kernel⟩
theorem wit_KeysAndSecrets_2 : ∃ (s : State), (s.variant.crypto = true) ∧ (s.keyClosed = true ∨ s.keyData.take 32 = s.keyData.drop 32) :=
  ⟨wRegs [], by decide +kernel⟩
theorem wit_KeysAndSecrets_3 : ∃ (s : State), (s.variant.crypto = true) ∧ (s.keyClosed = false) ∧ (Sparse.rising s.keys = true) :=
  ⟨{ wRegs [] with keys := [(0, [1])] }, by decide +kernel⟩
theorem wit_KeysAndSecrets_4 : ∃ (s : State), (s.variant.crypto = true) ∧ (s.keyClosed = false) :=
  ⟨{ wRegs [] with keys := [(0, [1])] }, by decide +kernel⟩
theorem wit_SchedulerDecisions_1 : ∃ (n : Nat) (s : State), (n < s.variant.bays) ∧ (s.mode = 1) ∧ (s.pendMode = none) ∧ ((s.bay n).tags = []) ∧ ((s.bay n).cal.queue = []) ∧ ((s.bay n).cal.run = none) ∧ ((s.bay n).sched.seg = none) ∧ ((s.bay n).sched.dlDue = true) ∧ ((s.bay n).sched.dlUrg = false) ∧ (s.ms - (s.bay n).sched.dlBorn < s.ageLimit n 4) ∧ (s.bayState n = BS.READY) ∧ ((s.freeEntryIndex n).isSome = true) ∧ (s.on (R.SCHED_CTL.BG_EN n) = true) ∧ (s.dlRoom n = true) :=
  ⟨0, (wIn BS.READY { sched := { dlDue := true } }).put (R.SCHED_CTL.BG_EN 0) 1, by decide +kernel⟩
theorem wit_SchedulerDecisions_2 : ∃ (n : Nat) (s : State), (n < s.variant.bays) ∧ ((s.bay n).tags = []) ∧ ((s.bay n).sched.dlDue = true) ∧ ((s.bay n).sched.dlUrg = false) :=
  ⟨0, wIn BS.READY { sched := { dlDue := true } }, by decide +kernel⟩
theorem wit_SchedulerDecisions_3 : ∃ (n : Nat) (s : State), (n < s.variant.bays) ∧ (s.on (R.ANG_STAT.ALIGNED n) = false) ∧ (0 < (s.bay n).sched.gap) :=
  ⟨0, wIn BS.READY { sched := { gap := 1 } }, by decide +kernel⟩
theorem wit_SchedulerDecisions_4 : ∃ (n : Nat) (s : State) (c : Cmd) (g0 g1 g2 g3 : Nat), (n < s.variant.bays) ∧ ((s.bay n).tags = [c]) ∧ (isCustomerOp c.wb.opcode = true) ∧ (c.granted = true) ∧ (c.discard = false) ∧ ((s.bay n).move = none) ∧ (s.seqState (s.get (R.BAY_SEQ.CUR_SEQ n)) = SQ.RUN) ∧ (s.hookLoaded (s.get (R.BAY_SEQ.CUR_SEQ n)) (c.wb.opcode - 0xE0 + 16) = true) ∧ (bitAt g0 31 = false) ∧ (statusDefined (g0 % 65536) = true) :=
  ⟨0, ((wTag BS.READY { wCmd 0xE0 [] with granted := true }).put (R.SEQ_STAT.STATE 0) SQ.RUN).put (R.HOOK_LO.MASK 0 0) 0x10000, { wCmd 0xE0 [] with granted := true }, 0, 0, 0, 0, by decide +kernel⟩
theorem wit_DramTrainingAndFill_1 : ∃ (s : State), (((List.range 8).all fun ch => !bitAt (s.get R.DRAM_CTL.MASK) ch || (s.on (R.DRAM_CFG.PRESENT ch) && s.domain (dramDomain ch) == 2 &&
      [CH.UNUSED, CH.FAILED, CH.RETIRED, CH.RETAINED].contains (s.get (R.DRAM_STAT.STATE ch)))) = true) ∧ (s.curfewOrShutdown = false) :=
  ⟨((wBay {}).put R.DRAM_CTL.MASK 2).put (R.DRAM_CFG.PRESENT 1) 1 |>.put (R.PWR_STAT.STATE 154) 2, by decide +kernel⟩
theorem wit_DramTrainingAndFill_2 : ∃ (s : State), (((List.range 8).all fun ch => !bitAt (s.get R.DRAM_CTL.MASK) ch || (s.on (R.DRAM_CFG.PRESENT ch) && s.domain (dramDomain ch) == 2 &&
      [CH.UNUSED, CH.FAILED, CH.RETIRED, CH.RETAINED].contains (s.get (R.DRAM_STAT.STATE ch)))) = true) ∧ (s.curfewOrShutdown = false) :=
  ⟨((wBay {}).put R.DRAM_CTL.MASK 2).put (R.DRAM_CFG.PRESENT 1) 1 |>.put (R.PWR_STAT.STATE 154) 2 |>.put (R.DRAM_STAT.STATE 1) CH.RETAINED, by decide +kernel⟩
theorem wit_DramTrainingAndFill_3 : ∃ (s : State), (s.curfewOrShutdown = true) :=
  ⟨(wBay {}).put R.MODE_STAT.MODE 4, by decide +kernel⟩
theorem wit_DramTrainingAndFill_4 : ∃ (s : State) (ch : Nat), (ch < 8) ∧ (s.get (R.DRAM_STAT.STATE ch) = CH.TRAINING) ∧ (ch ∉ s.mem.resume) :=
  ⟨(wBay {}).put (R.DRAM_STAT.STATE 1) CH.TRAINING, 1, by decide +kernel⟩
theorem wit_DramTrainingAndFill_5 : ∃ (s : State) (ch : Nat), (ch < 8) ∧ (s.get (R.DRAM_STAT.STATE ch) = CH.TRAINING) ∧ (ch ∈ s.mem.resume) :=
  ⟨{ (wBay {}).put (R.DRAM_STAT.STATE 1) CH.TRAINING with mem := { resume := [1] } }, 1, by decide +kernel⟩
theorem wit_DramTrainingAndFill_6 : ∃ (s : State) (ch failed : Nat), (ch < 8) ∧ (s.get (R.DRAM_STAT.STATE ch) = CH.TRAINING) ∧ (ch ∉ s.mem.resume) ∧ (1 ≤ failed) ∧ (failed ≤ 5) ∧ (Memory.wf s.dram = true) :=
  ⟨(wDram (wBay {}) 5 [1]).put (R.DRAM_STAT.STATE 0) CH.TRAINING, 0, 3, by decide +kernel⟩
theorem wit_DramTrainingAndFill_7 : ∃ (s : State) (ch : Nat), (ch < 8) ∧ (s.get (R.DRAM_STAT.STATE ch) = CH.FILLING) :=
  ⟨(wDram (wBay {}) 5 [1]).put (R.DRAM_STAT.STATE 0) CH.FILLING, 0, by decide +kernel⟩
theorem wit_DramTrainingAndFill_8 : ∃ (s : State) (ch v : Nat), (ch < 8) ∧ (s.get (R.DRAM_STAT.STATE ch) = CH.UNUSED ∨ s.get (R.DRAM_STAT.STATE ch) = CH.RETAINED) :=
  ⟨wBay {}, 1, 0x80000000, by decide +kernel⟩
theorem wit_DramTrainingAndFill_9 : ∃ (s : State) (ch v : Nat), (ch < 8) ∧ (s.get (R.DRAM_STAT.STATE ch) = CH.READY) :=
  ⟨(wBay {}).put (R.DRAM_STAT.STATE 1) CH.READY, 1, 0x80000000, by decide +kernel⟩
theorem wit_RetirementAndScrub_1 : ∃ (s : State) (ch : Nat), (s.get R.DRAM_RETIRE.CHAN = ch) ∧ (s.on R.DRAM_RETIRE.GO = false) ∧ (s.retireReason ch = 0) :=
  ⟨((wDram (wBay {}) 5 [1]).put (R.DRAM_STAT.STATE 1) CH.READY).put R.DRAM_RETIRE.CHAN 1, 1, by decide +kernel⟩
theorem wit_RetirementAndScrub_2 : ∃ (s : State) (ch : Nat), (s.get R.DRAM_RETIRE.CHAN = ch) ∧ (s.on R.DRAM_RETIRE.GO = false) ∧ (s.retireReason ch ≠ 0) :=
  ⟨(wBay {}).put R.DRAM_RETIRE.CHAN 1, 1, by decide +kernel⟩
theorem wit_RetirementAndScrub_3 : ∃ (s : State) (ch : Nat), (s.get R.DRAM_RETIRE.CHAN = ch) ∧ (s.on R.DRAM_RETIRE.GO = true) ∧ (s.get (R.DRAM_STAT.STATE ch) = CH.RETIRING) :=
  ⟨((wDram (wBay {}) 5 [1]).put (R.DRAM_STAT.STATE 0) CH.RETIRING).put R.DRAM_RETIRE.GO 1, 0, by decide +kernel⟩
theorem wit_RetirementAndScrub_4 : ∃ (s : State), (s.scrubStart % 64 = 0) ∧ (s.scrubLast % 64 = 0) ∧ (s.scrubStart ≤ s.scrubLast) ∧ (s.scrubLast < 2 ^ 40) ∧ (s.on R.SCRUB_CTL.GO = false) ∧ (s.curfewOrShutdown = false) :=
  ⟨(wBay {}).put R.SCRUB_CORR.COUNT 5, by decide +kernel⟩
theorem wit_RetirementAndScrub_5 : ∃ (s : State) (pos : Nat) (o : MemSeen), (s.on R.SCRUB_CTL.GO = true) :=
  ⟨(wBay {}).put R.SCRUB_CTL.GO 1, 640, {}, by decide +kernel⟩
theorem wit_RetirementAndScrub_6 : ∃ (s : State) (o : MemSeen), (s.on R.SCRUB_CTL.GO = true) :=
  ⟨(wBay {}).put R.SCRUB_CTL.GO 1, {}, by decide +kernel⟩
theorem wit_CacheWaysAndScratch_1 : ∃ (s : State) (mask : Nat), (mask < 65536) ∧ (2 ≤ (s.openWays.filter fun w => bitAt mask w).length) :=
  ⟨(wBay {}).put R.CACHE_WAY_STAT.ACTIVE 0xFFFF, 0xFF, by decide +kernel⟩
theorem wit_CacheWaysAndScratch_2 : ∃ (s : State) (mask : Nat), (s.openWays = []) ∧ (mask = 1) :=
  ⟨((wBay {}).put R.CACHE_WAY_STAT.ACTIVE 0).put R.CACHE_WAY_EN.EN 0xFFFF, 1, by decide +kernel⟩
theorem wit_CacheWaysAndScratch_3 : ∃ (s : State) (w : Nat), (w < 16) ∧ (bitAt (s.get R.CACHE_WAY_STAT.CLEANING) w = true) ∧ (bitAt (s.get R.CACHE_WAY_EN.EN) w = false) :=
  ⟨((wBay {}).put R.CACHE_WAY_STAT.CLEANING 4).put R.CACHE_WAY_EN.EN 3, 2, by decide +kernel⟩
theorem wit_CacheWaysAndScratch_4 : ∃ (s : State) (k : Nat), (k < 8) ∧ (s.on (R.CACHE_SCRATCH.EN k) = false) ∧ (s.scratchOf (s.get (R.CACHE_SCRATCH.WAY k)) = none) ∧ (2 ≤ (s.openWays.filter (· != s.get (R.CACHE_SCRATCH.WAY k))).length) :=
  ⟨(wBay {}).put R.CACHE_WAY_STAT.ACTIVE 0xFFFF, 3, by decide +kernel⟩
theorem wit_CacheWaysAndScratch_5 : ∃ (s : State) (k : Nat), (k < 8) ∧ (s.on (R.CACHE_SCRATCH.EN k) = true) ∧ (s.on (R.CACHE_SCRATCH.READY k) = false) ∧ (bitAt (s.get R.CACHE_WAY_STAT.CLEANING) (s.get (R.CACHE_SCRATCH.WAY k)) = false) ∧ (Memory.wf s.dram = true) :=
  ⟨(wDram (wBay {}) (scratchBase 3) [1]).put (R.CACHE_SCRATCH.EN 3) 1, 3, by decide +kernel⟩
theorem wit_CacheWaysAndScratch_6 : ∃ (s : State) (k : Nat), (k < 8) ∧ (s.on (R.CACHE_SCRATCH.EN k) = true) ∧ (((List.range 16).any fun r => s.on (R.CADDY_RGN_CFG.EN r) && decide (scratchBase k ≤ s.rgnBase r) && decide (s.rgnBase r < scratchBase k + 0x600000)) = false) ∧ (Memory.wf s.dram = true) :=
  ⟨(wDram (wBay {}) (scratchBase 3) [1]).put (R.CACHE_SCRATCH.EN 3) 1, 3, by decide +kernel⟩
theorem wit_CacheWaysAndScratch_7 : ∃ (s : State), (s.mapped s.opAddr = true) ∧ (s.opAddr < 2 ^ 40) :=
  ⟨wDram (wBay {}) 5 [1], by decide +kernel⟩
theorem wit_CacheWaysAndScratch_8 : ∃ (s : State), (s.mapped s.opAddr = true) ∧ (s.opAddr < 2 ^ 40) ∧ (Sparse.rising s.mem.lines = true) :=
  ⟨wDram { wBay {} with mem := { lines := [(0, ⟨0, 1, 0, []⟩)] } } 5 [1], by decide +kernel⟩
theorem wit_CacheWaysAndScratch_9 : ∃ (s : State), (s.mapped s.opAddr = true) ∧ (Memory.wf s.dram = true) :=
  ⟨wDram (wBay {}) 5 [1], by decide +kernel⟩
theorem wit_CacheWaysAndScratch_10 : ∃ (s : State) (e : Nat × Nat × Sparse (List Byte)) (r : List (Nat × Nat × Sparse (List Byte))), (s.mem.evb = e :: r) ∧ (r.length ≤ 15) :=
  ⟨{ wBay {} with mem := { evb := [(3, 1, [])] } }, (3, 1, []), [], by decide +kernel⟩
theorem wit_CaddyBuffers_1 : ∃ (s : State), (s.caddy.waiting = []) :=
  ⟨wBay {}, by decide +kernel⟩
theorem wit_CaddyBuffers_2 : ∃ (s : State), (s.caddy.held = []) :=
  ⟨(wBay {}).put R.CADDY_CTL.EN 1, by decide +kernel⟩
theorem wit_CaddyBuffers_3 : ∃ (s : State) (r : Nat), (r < 16) ∧ (s.on (R.CADDY_RGN_CFG.EN r) = false) ∧ (s.regionOk r = true) :=
  ⟨(wDram (wBay {}) 5 [1]).put (R.CADDY_RGN_CFG.COUNT 2) 4, 2, by decide +kernel⟩
theorem wit_CaddyBuffers_4 : ∃ (s : State) (r : Nat), (r < 16) ∧ (s.on (R.CADDY_RGN_CFG.EN r) = false) ∧ (s.regionOk r = false) :=
  ⟨wBay {}, 2, by decide +kernel⟩
theorem wit_CaddyBuffers_5 : ∃ (s : State) (id c ptr : Nat), (s.caddy.waiting = []) ∧ (id < 256) ∧ (c < 4) ∧ ((s.caddyGrant id c).map (·.1) = some ptr) :=
  ⟨((wDram (wBay {}) 5 [1]).put R.CADDY_CTL.EN 1).put (R.CADDY_RGN_CFG.EN 0) 1 |>.put (R.CADDY_RGN_CFG.COUNT 0) 4 |>.put (R.CADDY_RGN_CFG.USERS 0) 0xFF |>.put (R.CADDY_QUOTA.Q4K 7) 255, 7, 0, 0, by decide +kernel⟩
theorem wit_CaddyBuffers_6 : ∃ (s : State) (id c ptr : Nat), (s.caddy.waiting = [(id, c, .port)]) ∧ ((s.caddyGrant id c).map (·.1) = some ptr) :=
  ⟨{ ((wDram (wBay {}) 5 [1]).put R.CADDY_CTL.EN 1).put (R.CADDY_RGN_CFG.EN 0) 1 |>.put (R.CADDY_RGN_CFG.COUNT 0) 4 |>.put (R.CADDY_RGN_CFG.USERS 0) 0xFF |>.put (R.CADDY_QUOTA.Q4K 7) 255 with caddy := { waiting := [(7, 0, .port)] } }, 7, 0, 0, by decide +kernel⟩
theorem wit_CaddyBuffers_7 : ∃ (s : State) (id new c ptr k : Nat) (h : HeldBuf), (id < 256) ∧ (new < 256) ∧ (c < 4) ∧ (ptr < 2 ^ 41) ∧ (s.tagAt c ptr = some k) ∧ (s.caddy.held.find? (fun e => e.1 == k) = some (k, h)) ∧ (id ∈ h.holders) ∧ (new ∉ h.holders) ∧ (h.holders.length < 8) :=
  ⟨{ ((wDram (wBay {}) 5 [1]).put R.CADDY_CTL.EN 1).put (R.CADDY_RGN_CFG.EN 0) 1 |>.put (R.CADDY_RGN_CFG.COUNT 0) 4 |>.put (R.CADDY_RGN_CFG.USERS 0) 0xFF |>.put (R.CADDY_QUOTA.Q4K 7) 255 with caddy := { held := [(0, ⟨[7], 7, 0⟩)] } }, 7, 9, 0, 0, 0, ⟨[7], 7, 0⟩, by decide +kernel⟩
theorem wit_CaddyBuffers_8 : ∃ (s : State) (id c ptr k : Nat) (h : HeldBuf), (id < 256) ∧ (c < 4) ∧ (ptr < 2 ^ 41) ∧ (s.tagAt c ptr = some k) ∧ (s.caddy.held.find? (fun e => e.1 == k) = some (k, h)) ∧ (h.holders = [id]) ∧ (s.caddy.waiting = []) :=
  ⟨{ ((wDram (wBay {}) 5 [1]).put R.CADDY_CTL.EN 1).put (R.CADDY_RGN_CFG.EN 0) 1 |>.put (R.CADDY_RGN_CFG.COUNT 0) 4 |>.put (R.CADDY_RGN_CFG.USERS 0) 0xFF |>.put (R.CADDY_QUOTA.Q4K 7) 255 with caddy := { held := [(0, ⟨[7], 7, 0⟩)] } }, 7, 0, 0, 0, ⟨[7], 7, 0⟩, by decide +kernel⟩
theorem wit_CaddyBuffers_9 : ∃ (s : State) (id : Nat), (s.get R.CADDY_RECLAIM.ID = id) ∧ (128 ≤ id) ∧ (s.idBusy id = false) ∧ (s.idHalted id = false) ∧ (s.caddy.waiting = []) ∧ (Sparse.rising s.caddy.held = true) :=
  ⟨{ (((wDram (wBay {}) 5 [1]).put R.CADDY_CTL.EN 1).put (R.CADDY_RGN_CFG.EN 0) 1 |>.put (R.CADDY_RGN_CFG.COUNT 0) 4 |>.put (R.CADDY_RGN_CFG.USERS 0) 0xFF |>.put (R.CADDY_QUOTA.Q4K 7) 255).put R.CADDY_RECLAIM.ID 164 with caddy := { held := [(0, ⟨[164], 164, 0⟩)] } }, 164, by decide +kernel⟩
theorem wit_MicrowordsCompute_1 : ∃ (s : State) (q w : Nat) (seen : MemSeen), (s.seqThere q = true) ∧ (s.seqState q = SQ.RUN) ∧ ((s.seq q).wait = none) ∧ ((s.seq q).hook = none) ∧ ((s.seq q).upc ∉ (s.bank (q / 8) (s.get (R.SEQ_STAT.BANK q))).bad) ∧ (w = (Sparse.get 0 (s.bank (q / 8) (s.get (R.SEQ_STAT.BANK q))).words (s.seq q).upc)) ∧ (MW.legal w = true) ∧ (MW.memOp w = 0) ∧ (MW.bayOp w = 0) ∧ (MW.cpOp w = 0) ∧ (MW.nac w ≤ 1) ∧ (MW.stk w = 0) ∧ (MW.tmr w = 0) ∧ (MW.ie w = false) ∧ (MW.ovt w = false) ∧ (MW.srcA w < 64) ∧ (MW.srcB w < 64) ∧ (MW.dest w < 64) ∧ (isCustomer (s.seq q).upc = false) ∧ (s.on (R.SEQ_CTL.HALT q) = false) ∧ ((s.seq q).g.rising = true) :=
  ⟨wSeqWord SQ.RUN, 0, wWord, {}, by decide +kernel⟩
theorem wit_MicrowordsCompute_2 : ∃ (s : State) (q w : Nat) (seen : MemSeen), (s.seqThere q = true) ∧ (s.seqState q = SQ.STOPPED) ∧ ((s.seq q).wait = none) ∧ ((s.seq q).hook = none) ∧ ((s.seq q).upc ∉ (s.bank (q / 8) (s.get (R.SEQ_STAT.BANK q))).bad) ∧ (w = (Sparse.get 0 (s.bank (q / 8) (s.get (R.SEQ_STAT.BANK q))).words (s.seq q).upc)) ∧ (MW.legal w = true) ∧ (MW.memOp w = 0) ∧ (MW.bayOp w = 0) ∧ (MW.cpOp w = 0) ∧ (MW.nac w ≤ 1) ∧ (MW.stk w = 0) ∧ (MW.tmr w = 0) ∧ (MW.ie w = false) ∧ (MW.ovt w = false) ∧ (MW.srcA w < 64) ∧ (MW.srcB w < 64) ∧ (MW.dest w < 64) ∧ (isCustomer (s.seq q).upc = false) ∧ (s.mode = 2) ∧ ((s.seq q).g.rising = true) :=
  ⟨(wSeqWord SQ.STOPPED).put R.MODE_STAT.MODE 2, 0, wWord, {}, by decide +kernel⟩
theorem wit_MicrowordsCompute_3 : ∃ (s : State) (q v : Nat), ((s.seq q).memAns = some (some v)) :=
  ⟨{ wSeq SQ.RUN with seqs := [(0, { memAns := some (some 9) })] }, 0, 9, by decide +kernel⟩
theorem wit_MicrowordsCompute_4 : ∃ (s : State) (q v : Nat), ((s.seq q).bayAns = some [v]) :=
  ⟨{ wSeq SQ.RUN with seqs := [(0, { bayAns := some [9] })] }, 0, 9, by decide +kernel⟩
theorem wit_MicrowordsCompute_5 : ∃ (s : State) (q v : Nat), ((s.seq q).cpBusy = true) ∧ ((s.seq q).cpAns = some (some v)) :=
  ⟨{ wSeq SQ.RUN with seqs := [(0, { cpBusy := true, cpAns := some (some 9) })] }, 0, 9, by decide +kernel⟩
theorem wit_SequencersStartAndStop_1 : ∃ (s : State) (q : Nat), (s.seqThere q = true) ∧ (s.seqState q = SQ.HELD) ∧ (s.get (fBank (q / 8) (bitsAt (s.get (R.USTORE_SEL.BANK (q / 8))) (q % 8) 1)) = 3) ∧ (s.curfewOrShutdown = false) :=
  ⟨(wSeq SQ.HELD).put (R.CS_STAT.STATE_A 0) 3, 0, by decide +kernel⟩
theorem wit_SequencersStartAndStop_2 : ∃ (s : State) (q : Nat), (s.seqThere q = true) ∧ (s.seqState q ≠ SQ.HELD) :=
  ⟨wSeq SQ.RUN, 0, by decide +kernel⟩
theorem wit_SequencersStartAndStop_3 : ∃ (s : State) (q : Nat), (s.seqThere q = true) ∧ (s.seqState q = SQ.HALTED ∨ s.seqState q = SQ.STOPPED) :=
  ⟨wSeq SQ.HALTED, 0, by decide +kernel⟩
theorem wit_SequencersStartAndStop_4 : ∃ (s : State) (q : Nat), (s.seqThere q = true) ∧ (s.seqState q = SQ.RUN) ∧ (s.mode = 2) ∧ ((s.seq q).wait = none) :=
  ⟨(wSeq SQ.RUN).put R.MODE_STAT.MODE 2, 0, by decide +kernel⟩
theorem wit_SequencersStartAndStop_5 : ∃ (s : State) (q : Nat), (s.seqThere q = true) ∧ (s.seqState q = SQ.STOPPED) ∧ (s.mode = 2) :=
  ⟨(wSeq SQ.STOPPED).put R.MODE_STAT.MODE 2, 0, by decide +kernel⟩
theorem wit_SequencersStartAndStop_6 : ∃ (s : State) (n : Nat), (n < s.variant.bays) ∧ ((s.bay n).tags = []) ∧ ((s.bay n).waiting = []) ∧ (s.on (R.SCHED_STAT.IDLE n) = true) ∧ (s.seqState (s.get (R.BAY_SEQ.SEQ n)) = SQ.RUN) ∧ (s.positionFree (s.get (R.BAY_SEQ.SEQ n)) (s.get (R.BAY_SEQ.POS n)) = true) ∧ (s.curfewOrShutdown = false) ∧ ((s.bay n).move = none) ∧ (s.seqState (s.get (R.BAY_SEQ.CUR_SEQ n)) = SQ.RUN) :=
  ⟨((((wSeq SQ.RUN).put (R.SCHED_STAT.IDLE 0) 1).put (R.BAY_SEQ.POS 0) 5).put (R.BAY_SEQ.CUR_POS 0) 4).put (R.BAY_SEQ.SEQ 0) 0 |>.put (R.SEQ_STAT.STATE 0) SQ.RUN, 0, by decide +kernel⟩
theorem wit_ControlStoreUpdates_1 : ∃ (s : State) (c : Nat) (b : Nat), (c < 4) ∧ (b = s.get (R.CS_CTL.BANK c)) ∧ (s.clusterPowered c = true) ∧ (s.csBusy c = false) ∧ (s.bankSelected c b = false) ∧ (s.get (R.CS_STAT.UPD c) = 0) :=
  ⟨wSeq SQ.HELD, 0, 0, by decide +kernel⟩
theorem wit_ControlStoreUpdates_2 : ∃ (s : State) (c : Nat) (b : Nat) (seen : MemSeen) (head body : List Byte) (k : Bank), (c < 4) ∧ ((s.cluster c).loading = some b) ∧ (b < 2) ∧ (((s.fresh 8).2.memRead true (s.fresh 8).1 (s.get (R.CS_SRC_LO.ADDR c) * 64 + 2 ^ 32 * s.get (R.CS_SRC_HI.ADDR c)) 64 seen).1 = .done head) ∧ (headOk head = true) ∧ ((((s.fresh 8).2.memRead true (s.fresh 8).1 (s.get (R.CS_SRC_LO.ADDR c) * 64 + 2 ^ 32 * s.get (R.CS_SRC_HI.ADDR c)) 64 seen).2.memRead true (s.fresh 8).1 ((s.get (R.CS_SRC_LO.ADDR c) * 64 + 2 ^ 32 * s.get (R.CS_SRC_HI.ADDR c)) + 64) (32 * headField head 14 2) {}).1 = .done body) ∧ (loadImage (s.bank c (1 - b)) (s.get (fBank c (1 - b)) == 3) head body = .inr k) :=
  ⟨{ ((wDram (wSeq SQ.HELD) 0 (wPatch ++ [5] ++ List.replicate 31 0)).put (R.CS_STAT.STATE_B 0) 3) with clusters := [(0, { loading := some 0 })] }, 0, 0, {}, wPatch, [5] ++ List.replicate 31 0, { words := [(0, 5)], bad := [], head := wPatch.take 60, crc := 0, recs := [0], resv := false, whole := true }, by decide +kernel⟩
theorem wit_ControlStoreUpdates_3 : ∃ (s : State) (c : Nat) (b : Nat), (c < 4) ∧ (b = s.get (R.CS_CTL.BANK c)) ∧ (s.clusterPowered c = true) ∧ (s.csBusy c = false) ∧ (s.get (fBank c b) = 2) :=
  ⟨(wSeq SQ.HELD).put (R.CS_STAT.STATE_A 0) 2, 0, 0, by decide +kernel⟩
theorem wit_ControlStoreUpdates_4 : ∃ (s : State) (c : Nat) (b : Nat), (c < 4) ∧ ((s.cluster c).verifying = some b) ∧ (b < 2) :=
  ⟨{ wSeq SQ.HELD with clusters := [(0, { verifying := some 0 })] }, 0, 0, by decide +kernel⟩
theorem wit_ControlStoreUpdates_5 : ∃ (s : State) (c : Nat) (b : Nat), (c < 4) ∧ (b = s.get (R.CS_CTL.BANK c)) ∧ (s.get (fBank c b) = 3) ∧ (s.bankSelected c b = false) ∧ (s.get (R.CS_STAT.UPD c) = 0) ∧ (s.csBusy c = false) ∧ (s.curfewOrShutdown = false) ∧ (s.get (R.STATE_FMT.FMT_A c) = s.get (R.STATE_FMT.FMT_B c)) :=
  ⟨((wSeq SQ.HELD).put (R.CS_STAT.STATE_B 0) 3).put (R.CS_CTL.BANK 0) 1, 0, 1, by decide +kernel⟩
theorem wit_ControlStoreUpdates_6 : ∃ (s : State) (c : Nat), (c < 4) ∧ (s.get (R.CS_STAT.UPD c) = 1) :=
  ⟨(wSeq SQ.HELD).put (R.CS_STAT.UPD 0) 1, 0, by decide +kernel⟩
theorem wit_ControlStoreUpdates_7 : ∃ (s : State) (c : Nat), (c < 4) ∧ (s.get (R.CS_STAT.UPD c) = 2) ∧ (s.curfewOrShutdown = false) :=
  ⟨(wSeq SQ.HELD).put (R.CS_STAT.UPD 0) 2, 0, by decide +kernel⟩
theorem wit_ControlStoreUpdates_8 : ∃ (s : State) (c : Nat), (c < 4) ∧ (s.get (R.CS_STAT.UPD c) = 2) ∧ (s.get (R.CS_STAT.SWITCHED c) = 0) :=
  ⟨(wSeq SQ.HELD).put (R.CS_STAT.UPD 0) 2, 0, by decide +kernel⟩
theorem wit_ControlStoreUpdates_9 : ∃ (s : State) (c : Nat), (c < 4) ∧ (s.get (R.CS_STAT.UPD c) = 2) ∧ (s.get (R.CS_STAT.SWITCHED c) = 0) :=
  ⟨(wSeq SQ.HELD).put (R.CS_STAT.UPD 0) 2, 0, by decide +kernel⟩
theorem wit_ControlStoreUpdates_10 : ∃ (s : State) (c : Nat) (b a v : Nat), (c < 4) ∧ (b < 2) ∧ (a < 32768) ∧ (s.clusterPowered c = true) ∧ (s.csBusy c = false) ∧ ((clusterSeqs c).all (fun q => s.seqState q == SQ.HELD) = true) ∧ (s.staged = []) ∧ (v < 2 ^ 32) ∧ ((s.bank c b).words.rising = true) :=
  ⟨wSeq SQ.HELD, 0, 0, 7, 99, by decide +kernel⟩
theorem wit_ControlStoreUpdates_11 : ∃ (s : State) (c : Nat) (v : Nat), (c < 4) ∧ (v < 256) ∧ (((List.range 8).all fun i => s.seqState (8 * c + i) == SQ.HELD) = true) :=
  ⟨wSeq SQ.HELD, 0, 0xA5, by decide +kernel⟩
theorem wit_FabricFramesOfTransfers_1 : ∃ (s : State) (p : Nat) (x : FabFrame) (f : StFrame) (seen : MemSeen), (s.portTakes p x = true) ∧ (x.packet.dport = s.acting R.FAB_UDP.DPORT 1024 65535) ∧ (s.parseFrame x.packet.payload = some f) ∧ (f.kind = kOpen) ∧ (s.authentic f x.packet.payload = true) ∧ (s.gate f = .take) ∧ (s.xfer? false f.src f.xid = none) ∧ (f.own = true) ∧ (s.inUse p < 256) ∧ (f.field 1 1 < 16) ∧ (s.on (R.FW_CFG.EN (f.field 1 1)) = true) ∧ (f.field 4 4 = s.get (R.FW_WKEY.WKEY (f.field 1 1))) ∧ (s.on (if f.field 0 1 = 1 then R.FW_CFG.GET (f.field 1 1) else R.FW_CFG.PUT (f.field 1 1)) = true) ∧ (f.field 8 8 % 4096 = 0) ∧ (f.field 16 8 % 4096 = 0) ∧ (f.field 16 8 ≠ 0) ∧ (f.field 8 8 + f.field 16 8 ≤ 4096 * s.get (R.FW_SIZE.PAGES (f.field 1 1))) :=
  ⟨((((wFab []).put (R.FW_CFG.EN 0) 1).put (R.FW_CFG.PUT 0) 1).put (R.FW_SIZE.PAGES 0) 4).put (R.FW_BASE_LO.ADDR 0) 16, 0, wFabFrame kOpen 1 (List.replicate 16 0 ++ [0, 0x10, 0, 0, 0, 0, 0, 0, 0, 0x10, 0, 0, 0, 0, 0, 0]), ⟨kOpen, 1, 7, 5, 4, 0, 0, (List.replicate 16 0 ++ [0, 0x10, 0, 0, 0, 0, 0, 0, 0, 0x10, 0, 0, 0, 0, 0, 0])⟩, {}, by decide +kernel⟩
theorem wit_FabricFramesOfTransfers_2 : ∃ (s : State) (p : Nat) (x : FabFrame) (f : StFrame) (y : Xfer) (seen : MemSeen), (s.portTakes p x = true) ∧ (x.packet.dport = s.acting R.FAB_UDP.DPORT 1024 65535) ∧ (s.parseFrame x.packet.payload = some f) ∧ (f.kind = kAccept) ∧ (s.authentic f x.packet.payload = true) ∧ (s.gate f = .take) ∧ (s.fab.xfers = [y]) ∧ (s.xfer? (!f.own) f.src f.xid = some y) ∧ (y.own = true) ∧ (y.get = true) :=
  ⟨wFab [wXfer true true], 0, wFabFrame kAccept 0 [], ⟨kAccept, 0, 7, 5, 4, 0, 0, []⟩, wXfer true true, {}, by decide +kernel⟩
theorem wit_FabricFramesOfTransfers_3 : ∃ (s : State) (p : Nat) (x : FabFrame) (f : StFrame) (y : Xfer), (s.portTakes p x = true) ∧ (x.packet.dport = s.acting R.FAB_UDP.DPORT 1024 65535) ∧ (s.parseFrame x.packet.payload = some f) ∧ (f.kind = kRefuse) ∧ (s.authentic f x.packet.payload = true) ∧ (s.gate f = .take) ∧ (s.xfer? (!f.own) f.src f.xid = some y) ∧ (y.own = true) ∧ (y.opened = false) ∧ (f.field 0 1 = 1) :=
  ⟨wFab [wXfer true true], 0, wFabFrame kRefuse 0 [1, 0, 0, 0], ⟨kRefuse, 0, 7, 5, 4, 0, 0, [1, 0, 0, 0]⟩, wXfer true true, by decide +kernel⟩
theorem wit_FabricFramesOfTransfers_4 : ∃ (s : State) (p : Nat) (x : FabFrame) (f : StFrame) (y : Xfer) (a : Nat), (s.portTakes p x = true) ∧ (x.packet.dport = s.acting R.FAB_UDP.DPORT 1024 65535) ∧ (s.parseFrame x.packet.payload = some f) ∧ (f.kind = kData) ∧ (s.authentic f x.packet.payload = true) ∧ (s.gate f = .take) ∧ (s.fab.xfers = [y]) ∧ (s.xfer? (!f.own) f.src f.xid = some y) ∧ (y.own = false) ∧ (y.port = p) ∧ (y.sends = false) ∧ (f.seq < y.frames) ∧ (f.offset = f.seq * y.seg) ∧ (f.payload.length = y.size f.seq) ∧ (y.done = false) ∧ (y.cum = f.seq) ∧ (y.marks = []) ∧ ((s.caddyGrant (portId p) 1).isSome = true) ∧ (s.channelHalted (387 + p) = false) ∧ (y.addr = some a) ∧ ((s.memWrite false (portId p) (a + f.seq * y.seg) f.payload {}).1 = .done []) :=
  ⟨((((wDram (wFab [{ wXfer false false with addr := some 64 }]) 5 [1]).put R.CADDY_CTL.EN 1).put (R.CADDY_RGN_CFG.EN 0) 1).put (R.CADDY_RGN_CFG.COUNT 0) 4).put (R.CADDY_RGN_CFG.CLASS 0) 1 |>.put (R.CADDY_RGN_CFG.USERS 0) 0xFFFF |>.put (R.CADDY_QUOTA.Q64K 162) 255, 0, wFabFrame kData 1 [1, 2, 3, 4], ⟨kData, 1, 7, 5, 4, 0, 0, [1, 2, 3, 4]⟩, { wXfer false false with addr := some 64 }, 64, by decide +kernel⟩
theorem wit_FabricFramesOfTransfers_5 : ∃ (s : State) (p : Nat) (x : FabFrame) (f : StFrame) (y : Xfer) (seen : MemSeen), (s.portTakes p x = true) ∧ (x.packet.dport = s.acting R.FAB_UDP.DPORT 1024 65535) ∧ (s.parseFrame x.packet.payload = some f) ∧ (f.kind = kAck) ∧ (s.authentic f x.packet.payload = true) ∧ (s.gate f = .take) ∧ (s.xfer? (!f.own) f.src f.xid = some y) ∧ (s.fab.xfers = [y]) ∧ (y.sends = true) ∧ (y.done = false) ∧ (bitAt (f.field 4 1) 0 = false) ∧ (f.field 8 8 = 0) ∧ (y.marks = []) ∧ (y.opened = false) :=
  ⟨wFab [{ wXfer true false with next := 2 }], 0, wFabFrame kAck 0 [1, 0, 0, 0, 0, 0, 0, 0, 0, 0, 0, 0, 0, 0, 0, 0], ⟨kAck, 0, 7, 5, 4, 0, 0, [1, 0, 0, 0, 0, 0, 0, 0, 0, 0, 0, 0, 0, 0, 0, 0]⟩, { wXfer true false with next := 2 }, {}, by decide +kernel⟩
theorem wit_FabricFramesOfTransfers_6 : ∃ (s : State) (p : Nat) (x : FabFrame) (f : StFrame) (y : Xfer), (s.portTakes p x = true) ∧ (x.packet.dport = s.acting R.FAB_UDP.DPORT 1024 65535) ∧ (s.parseFrame x.packet.payload = some f) ∧ (f.kind = kStale) ∧ (s.authentic f x.packet.payload = true) ∧ (s.gate f = .take) ∧ (s.fab.xfers = [y]) ∧ (s.xfer? (!f.own) f.src f.xid = some y) ∧ (y.own = false) ∧ (y.done = false) :=
  ⟨wFab [wXfer false false], 0, wFabFrame kStale 1 [4, 0, 0, 0], ⟨kStale, 1, 7, 5, 4, 0, 0, [4, 0, 0, 0]⟩, wXfer false false, by decide +kernel⟩
theorem wit_FabricFramesOfTransfers_7 : ∃ (s : State) (p : Nat) (x : FabFrame) (f : StFrame) (y : Xfer), (s.portTakes p x = true) ∧ (x.packet.dport = s.acting R.FAB_UDP.DPORT 1024 65535) ∧ (s.parseFrame x.packet.payload = some f) ∧ (f.kind = kAbort) ∧ (s.authentic f x.packet.payload = true) ∧ (s.gate f = .take) ∧ (s.fab.xfers = [y]) ∧ (s.xfer? (!f.own) f.src f.xid = some y) ∧ (y.own = false) :=
  ⟨wFab [wXfer false false], 0, wFabFrame kAbort 1 [1, 0, 0, 0], ⟨kAbort, 1, 7, 5, 4, 0, 0, [1, 0, 0, 0]⟩, wXfer false false, by decide +kernel⟩
theorem wit_FabricTimersAndLowerLayers_1 : ∃ (s : State) (y : Xfer) (seen : MemSeen), (s.fab.xfers = [y]) ∧ (s.holdsFrame y = false) ∧ (y.queued = false) ∧ (y.done = false) ∧ (y.own = true) ∧ (y.opened = false) ∧ (s.portUsable y.port = true) :=
  ⟨wFab [wXfer true true], wXfer true true, {}, by decide +kernel⟩
theorem wit_FabricTimersAndLowerLayers_2 : ∃ (s : State) (y : Xfer), (s.fab.xfers = [y]) ∧ (y.own = false) ∧ (y.sends = false) ∧ (0 < y.fresh) :=
  ⟨wFab [{ wXfer false false with fresh := 2 }], { wXfer false false with fresh := 2 }, by decide +kernel⟩
theorem wit_FabricTimersAndLowerLayers_3 : ∃ (s : State) (y : Xfer), (s.fab.xfers = [y]) ∧ (y.own = false) ∧ (s.holdsFrame y = false) :=
  ⟨wFab [wXfer false false], wXfer false false, by decide +kernel⟩
theorem wit_FabricTimersAndLowerLayers_4 : ∃ (s : State) (k : Nat) (h : HeldFrame), (s.fab.held[k]? = some h) ∧ (s.caddy.waiting = []) :=
  ⟨{ wFab [] with fab := { held := [⟨0, (wFabFrame kData 0 []).packet, 0⟩] } }, 0, ⟨0, (wFabFrame kData 0 []).packet, 0⟩, by decide +kernel⟩
theorem wit_FabricTimersAndLowerLayers_5 : ∃ (s : State) (p target : Nat) (x : FabFrame), (s.portTakes p x = true) ∧ (target = s.fabAddr p (s.get R.MC_UID.ID)) ∧ (s.portPaused p = false) :=
  ⟨wFab [], 0, (wFab []).fabAddr 0 3, wFabFrame kData 0 [], by decide +kernel⟩
theorem wit_FabricTimersAndLowerLayers_6 : ∃ (s : State) (p : Nat) (x : FabFrame), (s.portTakes p x = true) ∧ (x.packet.dstIp = s.fabAddr p (s.get R.MC_UID.ID)) ∧ (s.portPaused p = false) :=
  ⟨wFab [], 0, wFabFrame kData 0 [], by decide +kernel⟩
theorem wit_FabricTimersAndLowerLayers_7 : ∃ (s : State) (p : Nat) (b : Bool), (s.portOn p = true) ∧ (s.on R.FAB_NET.PFC_EN = true) :=
  ⟨(wFab []).put R.FAB_NET.PFC_EN 1, 0, true, by decide +kernel⟩
theorem wit_FabricPortsWindowsAndKeys_1 : ∃ (s : State) (p : Nat) (seen : MemSeen), (s.variant.fabric = true) ∧ (p < 2) ∧ (s.on (R.FP_STAT.LINK p) = false) :=
  ⟨wFab [], 1, {}, by decide +kernel⟩
theorem wit_FabricPortsWindowsAndKeys_2 : ∃ (s : State) (p : Nat) (seen : MemSeen), (s.variant.fabric = true) ∧ (p < 2) ∧ (s.on (R.FP_STAT.LINK p) = true) :=
  ⟨wFab [], 0, {}, by decide +kernel⟩
theorem wit_FabricPortsWindowsAndKeys_3 : ∃ (s : State) (mask : Nat), (s.variant.fabric = true) ∧ (mask < 4) ∧ (s.on R.MC_UID.VALID = true) ∧ (s.on R.EPOCH_CTL.VALID = true) :=
  ⟨wFab [], 3, by decide +kernel⟩
theorem wit_FabricPortsWindowsAndKeys_4 : ∃ (s : State) (w : Nat), (s.variant.fabric = true) ∧ (w < 16) :=
  ⟨(wFab []).put (R.FW_CFG.EN 2) 1, 2, by decide +kernel⟩
theorem wit_FabricPortsWindowsAndKeys_5 : ∃ (s : State) (w : Nat), (s.variant.fabric = true) ∧ (w < 16) ∧ (s.rangeOk (s.get (R.FW_BASE_LO.ADDR w) * 4096 + 2 ^ 32 * s.get (R.FW_BASE_HI.ADDR w)) (4096 * s.get (R.FW_SIZE.PAGES w)) = true) :=
  ⟨(wDram (wFab []) 5 [1]).put (R.FW_SIZE.PAGES 2) 1, 2, by decide +kernel⟩
theorem wit_FabricPortsWindowsAndKeys_6 : ∃ (s : State), (s.variant.fabric = true) ∧ (s.on R.MC_UID.VALID = true) :=
  ⟨wFab [], by decide +kernel⟩
theorem wit_FabricPortsWindowsAndKeys_7 : ∃ (s : State), (s.variant.fabric = true) ∧ (s.variant.crypto = true) ∧ (s.keyClosed = false) :=
  ⟨(wFab []).put (R.FAB_KEY_DATA.DATA 0) 9, by decide +kernel⟩
theorem wit_FabricPortsWindowsAndKeys_8 : ∃ (s : State), (s.variant.fabric = true) ∧ (s.variant.crypto = true) ∧ (s.keyClosed = false) ∧ (Sparse.rising s.fabKeys = true) :=
  ⟨{ wFab [] with fabKeys := [(0, [1])] }, by decide +kernel⟩
theorem wit_PowerDomainsChangeState_1 : ∃ (d : Nat) (s : State), (d < 163) ∧ (s.phaseOf d = .steady) ∧ (s.powerRefused d 2 = false) ∧ (s.domain d ≠ dOn) :=
  ⟨153, State.reset, by decide +kernel⟩
theorem wit_PowerDomainsChangeState_2 : ∃ (d : Nat) (s : State) (v : Nat), (d < 163) ∧ (v = 0 ∨ v = 1) ∧ (s.phaseOf d = .steady) ∧ (s.powerRefused d v = false) ∧ (s.domain d = dOn) :=
  ⟨150, wRegs [(R.PWR_STAT.STATE 150, 2)], 0, by decide +kernel⟩
theorem wit_PowerDomainsChangeState_3 : ∃ (d : Nat) (s : State) (v : Nat), (d < 163) ∧ (v < 3) ∧ (s.phaseOf d = .steady) ∧ (s.powerRefused d v = true) :=
  ⟨161, State.reset, 0, by decide +kernel⟩
theorem wit_PowerDomainsChangeState_4 : ∃ (d : Nat) (s : State) (e : DomEntry), (d < 163) ∧ (s.phaseOf d = .entering e) :=
  ⟨150, { State.reset with domPhase := [(150, .entering ⟨1, 0, false, none⟩)] }, ⟨1, 0, false, none⟩, by decide +kernel⟩
theorem wit_PowerDomainsChangeState_5 : ∃ (d : Nat) (s : State) (u : DomUp), (d < 163) ∧ (s.phaseOf d = .rising u) ∧ (u.stage < 4) :=
  ⟨150, { State.reset with domPhase := [(150, .rising ⟨2, false, none⟩)] }, ⟨2, false, none⟩, by decide +kernel⟩
theorem wit_PowerDomainsChangeState_6 : ∃ (d : Nat) (s : State) (u : DomUp), (d < 163) ∧ (s.phaseOf d = .rising u) ∧ (u.stage = 4) ∧ (u.queued = none) :=
  ⟨150, { State.reset with domPhase := [(150, .rising ⟨4, false, none⟩)] }, ⟨4, false, none⟩, by decide +kernel⟩
theorem wit_PowerDomainsChangeState_7 : ∃ (d : Nat) (s : State) (u : DomUp), (d < 163) ∧ (s.phaseOf d = .rising u) ∧ (u.stage < 8) :=
  ⟨150, { State.reset with domPhase := [(150, .rising ⟨2, false, none⟩)] }, ⟨2, false, none⟩, by decide +kernel⟩
theorem wit_PowerDomainsChangeState_8 : ∃ (d : Nat) (s : State) (e : DomEntry), (d < 163) ∧ (s.phaseOf d = .entering e) ∧ (e.wake = false) ∧ (e.point < 2) :=
  ⟨150, { State.reset with domPhase := [(150, .entering ⟨1, 0, false, none⟩)] }, ⟨1, 0, false, none⟩, by decide +kernel⟩
theorem wit_PowerDomainsChangeState_9 : ∃ (d : Nat) (s : State) (e : DomEntry), (d < 163) ∧ (s.phaseOf d = .entering e) ∧ (e.wake = true) ∧ (e.next = none) ∧ (Sparse.rising s.domPhase = true) :=
  ⟨150, { State.reset with domPhase := [(150, .entering ⟨1, 0, true, none⟩)] }, ⟨1, 0, true, none⟩, by decide +kernel⟩
theorem wit_PowerDomainsChangeState_10 : ∃ (d : Nat) (s : State) (e : DomEntry), (d < 163) ∧ (s.phaseOf d = .entering e) ∧ (e.wake = false) ∧ (e.next = none) ∧ (e.point = 2) ∧ (e.target < 2) :=
  ⟨150, { State.reset with domPhase := [(150, .entering ⟨1, 2, false, none⟩)] }, ⟨1, 2, false, none⟩, by decide +kernel⟩
theorem wit_MainSupplyAndLuggageSeal_1 : ∃ (s : State) (m : Bool), (m = false ∨ s.mode ≠ 5 ∨ s.on R.MODE_STAT.SD_DONE = true) ∧ (s.on R.LEDGER_CTL.EN = false) :=
  ⟨wBay {}, false, by decide +kernel⟩
theorem wit_MainSupplyAndLuggageSeal_2 : ∃ (s : State), (s.pendMode = none) :=
  ⟨wRegs [(R.CURFEW_CAUSE.CAUSE, 4)], by decide +kernel⟩
theorem wit_MainSupplyAndLuggageSeal_4 : ∃ (s : State), (s.on R.SUP_STAT.SRC = true) :=
  ⟨wRegs [(R.SUP_STAT.SRC, 1)], by decide +kernel⟩
theorem wit_MainSupplyAndLuggageSeal_5 : ∃ (s : State), (s.on R.SUP_STAT.SRC = false) :=
  ⟨State.reset, by decide +kernel⟩
theorem wit_MainSupplyAndLuggageSeal_6 : ∃ (s : State) (mv : Nat), True :=
  ⟨State.reset, 2699, by decide +kernel⟩
theorem wit_MainSupplyAndLuggageSeal_7 : ∃ (s : State) (mv : Nat), (mv < 2700) ∧ (s.on R.SUP_STAT.SRC = false) :=
  ⟨State.reset, 2699, by decide +kernel⟩
theorem wit_MainSupplyAndLuggageSeal_8 : ∃ (s : State) (mv : Nat), (2700 ≤ mv ∨ s.on R.SUP_STAT.SRC = true) :=
  ⟨State.reset, 2700, by decide +kernel⟩
theorem wit_MainSupplyAndLuggageSeal_9 : ∃ (s : State), True :=
  ⟨State.reset, by decide +kernel⟩
theorem wit_MainSupplyAndLuggageSeal_10 : ∃ (s : State), (s.sup.sealing = true) ∧ (s.sup.waiting = []) :=
  ⟨{ State.reset with sup := { State.reset.sup with sealing := true } }, by decide +kernel⟩
theorem wit_MainSupplyAndLuggageSeal_11 : ∃ (s : State), (s.mode = 4 ∨ s.mode = 5) ∧ (s.on R.LUG_CTL.SEALED = false) :=
  ⟨(wBay {}).put R.MODE_STAT.MODE 4, by decide +kernel⟩
theorem wit_MainSupplyAndLuggageSeal_12 : ∃ (s : State), True :=
  ⟨wRegs [(R.LUG_ADDR.ADDR, 0x40000)], by decide +kernel⟩
theorem wit_MainSupplyAndLuggageSeal_13 : ∃ (s : State) (v : Nat), (0x100000 ≤ 4 * s.get R.LUG_ADDR.ADDR) ∧ (s.sup.sealing = false) ∧ (s.on R.LUG_CTL.SEALED = false) ∧ (v < 2 ^ 32) :=
  ⟨wRegs [(R.LUG_ADDR.ADDR, 0x40000)], 0x12345678, by decide +kernel⟩
theorem wit_MainSupplyAndLuggageSeal_14 : ∃ (s : State) (v : Nat), (4 * s.get R.LUG_ADDR.ADDR < 0x100000) :=
  ⟨wRegs [(R.LUG_ADDR.ADDR, 5)], 7, by decide +kernel⟩
theorem wit_RealTimeClock_1 : ∃ (s : State), True :=
  ⟨wRegs [(R.RTC_SEC_LO.SEC, 0xFFFFFFFF)], by decide +kernel⟩
theorem wit_RealTimeClock_2 : ∃ (s : State), (2000 ≤ s.get R.CAL_SET_DATE.YEAR) ∧ (s.get R.CAL_SET_DATE.YEAR ≤ 2399) ∧ (1 ≤ s.get R.CAL_SET_DATE.MONTH) ∧ (s.get R.CAL_SET_DATE.MONTH ≤ 12) ∧ (1 ≤ s.get R.CAL_SET_DATE.DAY) ∧ (s.get R.CAL_SET_DATE.DAY ≤ monthDays (s.get R.CAL_SET_DATE.YEAR) (s.get R.CAL_SET_DATE.MONTH)) ∧ (s.get R.CAL_SET_TIME.HOUR ≤ 23) ∧ (s.get R.CAL_SET_TIME.MIN ≤ 59) ∧ (s.get R.CAL_SET_TIME.SEC ≤ 59) :=
  ⟨wRegs [(R.CAL_SET_DATE.YEAR, 2024), (R.CAL_SET_DATE.MONTH, 2), (R.CAL_SET_DATE.DAY, 29), (R.CAL_SET_TIME.HOUR, 23)], by decide +kernel⟩
theorem wit_RealTimeClock_3 : ∃ (s : State), (s.get R.CAL_SET_DATE.YEAR < 2000 ∨ 2399 < s.get R.CAL_SET_DATE.YEAR ∨ s.get R.CAL_SET_DATE.MONTH = 0 ∨ 12 < s.get R.CAL_SET_DATE.MONTH ∨ s.get R.CAL_SET_DATE.DAY = 0 ∨ monthDays (s.get R.CAL_SET_DATE.YEAR) (s.get R.CAL_SET_DATE.MONTH) < s.get R.CAL_SET_DATE.DAY ∨ 23 < s.get R.CAL_SET_TIME.HOUR ∨ 59 < s.get R.CAL_SET_TIME.MIN ∨ 59 < s.get R.CAL_SET_TIME.SEC) :=
  ⟨wRegs [(R.CAL_SET_DATE.YEAR, 2023), (R.CAL_SET_DATE.MONTH, 2), (R.CAL_SET_DATE.DAY, 29)], by decide +kernel⟩
theorem wit_RealTimeClock_4 : ∃ (s : State), True :=
  ⟨State.reset, by decide +kernel⟩
theorem wit_ResetsAndStarts_1 : ∃ (s : State) (m : Bool), True :=
  ⟨wUp, false, by decide +kernel⟩
theorem wit_ResetsAndStarts_2 : ∃ (s : State) (seen : StartSeen), (seen.intlkLow = false) ∧ (seen.aonLost = false) :=
  ⟨State.reset, {}, by decide +kernel⟩
theorem wit_ResetsAndStarts_3 : ∃ (s : State) (seen : StartSeen), (s.mode = 0) ∧ (∀ ch ∈ dramChannels, s.get (R.DRAM_STAT.STATE ch) = CH.UNUSED) :=
  ⟨State.reset, {}, by decide +kernel⟩
theorem wit_ResetsAndStarts_4 : ∃ (s : State) (seen : StartSeen), (s.mode ≠ 0 ∨ ¬ ∀ ch ∈ dramChannels, s.get (R.DRAM_STAT.STATE ch) = CH.UNUSED) :=
  ⟨wBay {}, {}, by decide +kernel⟩
theorem wit_ResetsAndStarts_5 : ∃ (s : State), True :=
  ⟨wBay { link := { lasers := 7 } }, by decide +kernel⟩
theorem wit_SelftestTestAccessAndBayEnable_1 : ∃ (s : State) (seen : TestSeen), (s.mode = 5) ∧ (s.on R.MODE_STAT.SD_DONE = false) ∧ (s.sup.sealing = false) :=
  ⟨wRegs [(R.MODE_STAT.MODE, 5)], {}, by decide +kernel⟩
theorem wit_SelftestTestAccessAndBayEnable_2 : ∃ (s : State) (seen : TestSeen), (s.mode = 5) ∧ (s.on R.MODE_STAT.SD_DONE = false) ∧ ((s.envFails seen.running seen.vdd seen.ref seen.temp).any (· == true) = false) :=
  ⟨{ wRegs [(R.MODE_STAT.MODE, 5)] with keys := [(1, [1])] }, {}, by decide +kernel⟩
theorem wit_SelftestTestAccessAndBayEnable_3 : ∃ (s : State) (seen : TestSeen), (s.mode ≠ 5 ∨ s.on R.MODE_STAT.SD_DONE = true) :=
  ⟨State.reset, {}, by decide +kernel⟩
theorem wit_SelftestTestAccessAndBayEnable_4 : ∃ (s : State), True :=
  ⟨wUp, by decide +kernel⟩
theorem wit_SelftestTestAccessAndBayEnable_6 : ∃ (s : State) (n : Nat), (n < s.variant.bays) ∧ (s.get (R.STATE.STATE n) = BS.BRINGUP) ∧ (s.bayMissing n = 0) ∧ (s.on (R.BAY_CTL.SUSP n) = false) :=
  ⟨(((((((wSeq SQ.RUN).put (R.STATE.STATE 0) BS.BRINGUP).put R.CADDY_CTL.EN 1).put (R.RC_CTL.ZT_OK 0) 1).put (R.SPIN_CTL.PARAMS_OK 0) 1).put (R.FT_CTL.TABLES_OK 0) 1).put (R.SRV_STAT.REC_VALID 0) 255), 0, by decide +kernel⟩
theorem wit_SelftestTestAccessAndBayEnable_7 : ∃ (s : State) (n : Nat), (n < s.variant.bays) ∧ (s.get (R.STATE.STATE n) ≠ BS.BRINGUP ∨ s.bayMissing n ≠ 0) :=
  ⟨State.reset, 3, by decide +kernel⟩
theorem wit_LedgerAndGlobalTraceControl_1 : ∃ (s : State), (s.flushing = []) ∧ (s.ledger.earlyLost = 0) ∧ (s.ledger.nextSafety = none) ∧ (s.ledger.drops = 0) ∧ (s.ledger.held = none) ∧ (s.ledger.coal = none) ∧ (s.ledger.slots = []) :=
  ⟨{ State.reset with ledger := { writing := true } }, by decide +kernel⟩
theorem wit_LedgerAndGlobalTraceControl_2 : ∃ (s : State) (e : Event), (s.on R.LEDGER_CTL.EN = true) ∧ (s.ledgerFree ≤ 16) ∧ (s.ledger.held = some e) :=
  ⟨{ wRegs [(R.LEDGER_CTL.EN, 1), (R.LEDGER_TAIL.TAIL, 250)] with ledger := { writing := true, held := some ⟨167, 0x1203, 2, 255, 0, 0, 0, 0, [1]⟩ } }, ⟨167, 0x1203, 2, 255, 0, 0, 0, 0, [1]⟩, by decide +kernel⟩
theorem wit_LedgerAndGlobalTraceControl_3 : ∃ (s : State), (s.on R.LEDGER_CTL.EN = false ∨ 16 < s.ledgerFree) :=
  ⟨State.reset, by decide +kernel⟩
theorem wit_LedgerAndGlobalTraceControl_4 : ∃ (s : State) (h : Nat), (h < s.ledgerSize) :=
  ⟨State.reset, 255, by decide +kernel⟩
theorem wit_LedgerAndGlobalTraceControl_5 : ∃ (s : State) (h : Nat), (s.ledgerSize ≤ h) ∧ (h < 2 ^ 20) :=
  ⟨State.reset, 256, by decide +kernel⟩
theorem wit_LedgerAndGlobalTraceControl_6 : ∃ (s : State), (s.on R.LEDGER_CTL.EN = false) ∧ (s.ledger.flush = []) ∧ (s.ledger.early = []) ∧ (s.ledger.writing = true) :=
  ⟨{ State.reset with ledger := { writing := true } }, by decide +kernel⟩
theorem wit_LedgerAndGlobalTraceControl_7 : ∃ (s : State) (r : Record) (rest : List Record), (s.on R.LEDGER_CTL.EN = false) ∧ (s.ledger.flush = []) ∧ (s.ledger.early = r :: rest) ∧ (s.ledger.writing = true) :=
  ⟨{ State.reset with ledger := { writing := true, early := [⟨1, ⟨167, 0x1203, 2, 255, 0, 0, 0, 0, [1]⟩⟩] } }, ⟨1, ⟨167, 0x1203, 2, 255, 0, 0, 0, 0, [1]⟩⟩, [], by decide +kernel⟩
theorem wit_LedgerAndGlobalTraceControl_8 : ∃ (s : State), (s.on R.LEDGER_CTL.EN = true) :=
  ⟨wRegs [(R.LEDGER_CTL.EN, 1)], by decide +kernel⟩
theorem wit_LedgerAndGlobalTraceControl_9 : ∃ (s : State), True :=
  ⟨State.reset, by decide +kernel⟩
theorem wit_LedgerAndGlobalTraceControl_10 : ∃ (s : State), (s.on R.GTRC_STAT.ACTIVE = false ∨ s.on R.GTRC_STAT.TRIGGERED = false) :=
  ⟨State.reset, by decide +kernel⟩
theorem wit_LedgerAndGlobalTraceControl_11 : ∃ (s : State), (s.on R.GTRC_STAT.ACTIVE = true) ∧ (s.on R.GTRC_STAT.TRIGGERED = true) :=
  ⟨wRegs [(R.GTRC_STAT.ACTIVE, 1), (R.GTRC_STAT.TRIGGERED, 1)], by decide +kernel⟩
theorem wit_LedgerAndGlobalTraceControl_12 : ∃ (s : State), (s.on R.GTRC_STAT.ACTIVE = true) ∧ (s.on R.GTRC_STAT.TRIGGERED = true) ∧ (traceSize ≤ s.gtrc.buf.length) :=
  ⟨{ wRegs [(R.GTRC_STAT.ACTIVE, 1), (R.GTRC_STAT.TRIGGERED, 1)] with gtrc := { buf := List.replicate traceSize ⟨0, 0, 0, 0, 0, 0, 0⟩ } }, by decide +kernel⟩
theorem wit_ReservedOffsetsReadZero_1 : ∃ (off : Nat) (s : State), (reservedOffset off = true) ∧ (s.sup.inReset = false) ∧ (off % 4 = 0) :=
  ⟨0x14, State.reset, by decide +kernel⟩
theorem wit_ReservedOffsetsReadZero_2 : ∃ (off : Nat) (s : State) (v : Nat), (reservedOffset off = true) ∧ (s.sup.inReset = false) ∧ (off % 4 = 0) :=
  ⟨0x14, State.reset, 9, by decide +kernel⟩
theorem wit_ReservedOffsetsReadZero_3 : ∃ (off : Nat) (s : State) (w : Nat), (reservedOffset off = true) ∧ (s.sup.inReset = false) ∧ (w ≠ 4 ∨ off % 4 ≠ 0) ∧ (0x40000 ≤ off) :=
  ⟨0x4FFF0, State.reset, 2, by decide +kernel⟩
theorem wit_ReservedOffsetsReadZero_4 : ∃ (off : Nat) (s : State) (w : Nat), (reservedOffset off = true) ∧ (s.sup.inReset = false) ∧ (w ≠ 4 ∨ off % 4 ≠ 0) ∧ (0x40000 ≤ off) :=
  ⟨0x4FFF0, State.reset, 2, by decide +kernel⟩
theorem wit_KeyDataRegisters_1 : ∃ (w : Nat) (s : State), (w < 16) ∧ (s.sup.inReset = false) :=
  ⟨15, State.reset, by decide +kernel⟩
theorem wit_KeyDataRegisters_2 : ∃ (w : Nat) (s : State) (v : Nat), (w < 16) ∧ (s.sup.inReset = false) ∧ (s.variant.crypto = true) ∧ (v < 2 ^ 32) :=
  ⟨15, State.reset, 0xFFFFFFFF, by decide +kernel⟩
theorem wit_KeyDataRegisters_3 : ∃ (w : Nat) (s : State) (v : Nat), (w < 16) ∧ (s.sup.inReset = false) ∧ (s.variant.crypto = false) :=
  ⟨0, { State.reset with variant := .ky8032e }, 1, by decide +kernel⟩
theorem wit_KeyDataRegisters_4 : ∃ (w : Nat) (s : State), (w < 16) ∧ (s.sup.inReset = false) :=
  ⟨15, State.reset, by decide +kernel⟩
theorem wit_RegisterPairsAndReadClears_1 : ∃ (s : State) (v : Nat), (s.sup.inReset = false) ∧ (s.on R.PORTER_CTL.ENABLE = false) :=
  ⟨State.reset, 0x5000, by decide +kernel⟩
theorem wit_RegisterPairsAndReadClears_2 : ∃ (s : State) (v lo : Nat), (s.sup.inReset = false) ∧ (s.on R.PORTER_CTL.ENABLE = false) ∧ (s.staged.find? (fun e => e.1 == 0x10004) = some (0x10004, lo)) ∧ (v < 2 ^ 32) :=
  ⟨{ State.reset with staged := [(0x10004, 0x5000)] }, 7, 0x5000, by decide +kernel⟩
theorem wit_RegisterPairsAndReadClears_3 : ∃ (s : State) (v : Nat), (s.sup.inReset = false) ∧ (s.on R.PORTER_CTL.ENABLE = true) :=
  ⟨wHost, 7, by decide +kernel⟩
theorem wit_RegisterPairsAndReadClears_4 : ∃ (s : State), (s.sup.inReset = false) :=
  ⟨wRegs [(R.DB_BASE_LO.ADDR, 5)], by decide +kernel⟩
theorem wit_RegisterPairsAndReadClears_5 : ∃ (s : State) (v : Nat), (s.sup.inReset = false) ∧ (v < 2 ^ 32) :=
  ⟨State.reset, 0x00640014, by decide +kernel⟩
theorem wit_RegisterPairsAndReadClears_6 : ∃ (s : State) (off : Nat), (s.sup.inReset = false) ∧ ((regAt off).isSome = true) ∧ (s.hidden off = false) ∧ (off < 0x800000 ∨ 0x1000000 ≤ off) ∧ (pairOf true off = none) ∧ (pairOf false off = none) ∧ (off ≠ 0xA0100) ∧ (off ≠ 0xA0010) :=
  ⟨wRegs [(R.CRYPTO_CNT.MISSING, 9)], 0x80148, by decide +kernel⟩

end Sys2Proof.Tests
end

section
/-!
SUPPORT. What a command leaves alone (`Leaves`), one law per state operation of the register file: writing a field, staging and latching
a half of a pair, an output that is no request, and the clearing of RC fields.
-/

namespace Sys2Proof.Machine

/-! ## What a command leaves alone -/

theorem Leaves.refl (s : State) (fs : List Field) (bs : List Nat) : Leaves s s fs bs :=
  ⟨fun _ _ => rfl, fun _ _ => rfl, ⟨rfl, rfl, rfl, rfl, rfl⟩, ⟨rfl, rfl, rfl, rfl, rfl, rfl, rfl, rfl, rfl, rfl, rfl, rfl, rfl⟩⟩

section
variable {s t : State} {fs : List Field} {bs : List Nat} (h : Leaves s t fs bs)
include h

/-- A field that is listed may be written. -/
theorem Leaves.put {f : Field} (hf : f ∈ fs) (v : Nat) : Leaves s (t.put f v) fs bs :=
  { h with regs := fun g hg => (State.get_put_other t f g v (hg f hf)).trans (h.regs g hg) }

theorem Leaves.withStaged (m : Sparse Nat) : Leaves s { t with staged := m } fs bs := { h with }

theorem Leaves.withLatched (m : Sparse Nat) : Leaves s { t with latched := m } fs bs := { h with }

theorem Leaves.withOut (l : List Emission) : Leaves s { t with out := l } fs bs := { h with }

end

/-! ## The value of a read leaves -/

/-- The value of a read is no request on the PCI Express link, so it leaves at once. -/
theorem State.emit_readData (s : State) (off v : Nat) : s.emit (.readData off v) = { s with out := .readData off v :: s.out } := rfl

/-! ## RC fields (R13) -/

/-- The fields of a register that a read of it clears. -/
def rcRows (off : Nat) : List FieldRow := ((regAt off).getD []).filter fun r => r.acc == .rc

/-- The state with the fields of all these rows cleared. -/
def State.clearRows (s : State) (l : List FieldRow) : State := l.foldl (fun s r => s.zero r.field) s

theorem mem_rcRows {off : Nat} {r : FieldRow} : r ∈ rcRows off ↔ r ∈ (regAt off).getD [] ∧ r.acc = .rc := by
  simp [rcRows]

@[simp] theorem State.clearRows_nil (s : State) : s.clearRows [] = s := rfl

@[simp] theorem State.clearRows_cons (s : State) (r : FieldRow) (l : List FieldRow) :
    s.clearRows (r :: l) = (s.zero r.field).clearRows l := rfl

@[simp] theorem State.get_zero_same (s : State) (f : Field) : (s.zero f).get f = 0 := by
  simp [State.zero]

/-- A field that is clear stays clear when any field is cleared, at the same place or not. -/
theorem State.get_zero_of_get_eq_zero {s : State} {f : Field} (h : s.get f = 0) (g : Field) : (s.zero g).get f = 0 := by
  by_cases hk : f.key = g.key
  · simp [State.get, State.zero, State.put, hk, Sparse.get_put_same]
  · exact (s.get_put_other g f 0 hk).trans h

theorem State.get_clearRows_of_get_eq_zero {f : Field} (l : List FieldRow) {s : State} (h : s.get f = 0) :
    (s.clearRows l).get f = 0 := by
  induction l generalizing s with
  | nil => exact h
  | cons r l ih => exact ih (State.get_zero_of_get_eq_zero h r.field)

/-- Every row's field is clear afterwards. -/
theorem State.get_clearRows_of_mem {r : FieldRow} {l : List FieldRow} (s : State) (hr : r ∈ l) : (s.clearRows l).get r.field = 0 := by
  induction l generalizing s with
  | nil => cases hr
  | cons q l ih =>
    rcases List.mem_cons.mp hr with rfl | hr
    · exact State.get_clearRows_of_get_eq_zero l (s.get_zero_same r.field)
    · exact ih (s.zero q.field) hr

@[simp] theorem State.clearRows_out (s : State) (l : List FieldRow) : (s.clearRows l).out = s.out := by
  induction l generalizing s with
  | nil => rfl
  | cons r l ih => exact ih (s.zero r.field)

theorem Leaves.clearRows {s : State} {fs : List Field} {bs : List Nat} (l : List FieldRow) {t : State} (h : Leaves s t fs bs)
    (hl : ∀ r ∈ l, r.field ∈ fs) : Leaves s (t.clearRows l) fs bs := by
  induction l generalizing t with
  | nil => exact h
  | cons r l ih =>
    exact ih (h.put (hl r (List.mem_cons_self ..)) 0) fun q hq => hl q (List.mem_cons_of_mem r hq)

/-- Clearing rows leaves every field at another place alone. -/
theorem State.leaves_clearRows (s : State) (l : List FieldRow) : Leaves s (s.clearRows l) (l.map (·.field)) [] :=
  (Leaves.refl s _ _).clearRows l fun _ hr => List.mem_map_of_mem hr

end Sys2Proof.Machine
end

section
/-!
SUPPORT. What the register file's reads and writes do: a register that is no pair, each half of a pair, and a field of access RW (R12,
R13).  The offset is one that no block hides and that is not in the control stores' windows.
-/

namespace Sys2Proof.Machine

variable {s : State} {off : Nat}

/-! ## The commands of the register file -/

/-- What a command does is what holds of the state that it leads to. -/
theorem does_iff {c : Instr} {s t : State} {P : State → Prop} (h : exec c s = .next t) : Does c s P ↔ P t := by
  simp [Does, h]

theorem exec_rcFieldRead (s : State) (off : Nat) : exec (.rcFieldRead off) s = .next (s.hostRead off) := rfl

theorem exec_registerWrite (s : State) (off v : Nat) : exec (.registerWrite off v) s = .next (s.regWrite true off v) := rfl

theorem exec_pairLoRead {p : Nat × Nat} (h : pairOf true off = some p) : exec (.pairLoRead off) s = .next (s.hostRead off) := by
  simp [exec, execPairLoRead, h]

theorem exec_pairLoWrite {p : Nat × Nat} (v : Nat) (h : pairOf true off = some p) :
    exec (.pairLoWrite off v) s = .next (s.regWrite true off v) := by
  simp [exec, execPairLoWrite, h]

theorem exec_pairHiWrite {p : Nat × Nat} (v : Nat) (h : pairOf false off = some p) :
    exec (.pairHiWrite off v) s = .next (s.regWrite true off v) := by
  simp [exec, execPairHiWrite, h]

/-! ## Reads -/

/-- A read of a register that is no half of a pair and has no effect of its own. -/
theorem State.hostRead_of_no_pair (hr : s.sup.inReset = false) (hh : s.hidden off = false) (hw : off < 0x800000 ∨ 0x1000000 ≤ off)
    (hlo : pairOf true off = none) (hhi : pairOf false off = none) (hrtc : off ≠ 0xA0100) (hlug : off ≠ 0xA0010) :
    s.hostRead off = (s.clearRows (rcRows off)).emit (.readData off (s.regValue off)) := by
  have hw' : ¬(0x800000 ≤ off ∧ off < 0x1000000) := by omega
  simp only [State.hostRead, State.regRead, hr, hh, hw', hlo, hhi, hrtc, hlug, State.clearRows, rcRows, if_false, Bool.false_eq_true]

/-- A read of the low half of a pair, other than the clock's, latches the high half. -/
theorem State.hostRead_of_pairLo {lo hi : Nat} (hr : s.sup.inReset = false) (hh : s.hidden off = false)
    (hw : off < 0x800000 ∨ 0x1000000 ≤ off) (hlo : pairOf true off = some (lo, hi)) (hhi : pairOf false off = none)
    (hrtc : off ≠ 0xA0100) (hlug : off ≠ 0xA0010) :
    s.hostRead off = (({ s with latched := s.latched.put lo (s.regValue hi) } : State).clearRows (rcRows off)).emit
      (.readData off (s.regValue off)) := by
  have hw' : ¬(0x800000 ≤ off ∧ off < 0x1000000) := by omega
  simp only [State.hostRead, State.regRead, hr, hh, hw', hlo, hhi, hrtc, hlug, State.clearRows, rcRows, if_false, Bool.false_eq_true]

/-! ## Writes -/

/-- A write of a register that is no half of a pair. -/
theorem State.regWrite_of_no_pair (host : Bool) (v : Nat) (hr : s.sup.inReset = false) (hh : s.hidden off = false)
    (hw : off < 0x800000 ∨ 0x1000000 ≤ off) (hlo : pairOf true off = none) (hhi : pairOf false off = none) :
    s.regWrite host off v = s.writeWord host off v := by
  have hw' : ¬(0x800000 ≤ off ∧ off < 0x1000000) := by omega
  simp [State.regWrite, hr, hh, hw', hlo, hhi]

/-- A write of the low half of a pair is staged. -/
theorem State.regWrite_of_pairLo {lo hi : Nat} (host : Bool) (v : Nat) (hr : s.sup.inReset = false) (hh : s.hidden off = false)
    (hw : off < 0x800000 ∨ 0x1000000 ≤ off) (hlo : pairOf true off = some (lo, hi)) (hg : s.guard host off 0 false v = none) :
    s.regWrite host off v = { s with staged := s.staged.put lo (v % 2 ^ 32) } := by
  have hw' : ¬(0x800000 ≤ off ∧ off < 0x1000000) := by omega
  simp [State.regWrite, hr, hh, hw', hlo, hg]

/-- A write of the high half of a pair ends the latch and puts the staged low half and itself in use. -/
theorem State.regWrite_of_pairHi {lo hi x : Nat} (host : Bool) (v : Nat) (hr : s.sup.inReset = false) (hh : s.hidden off = false)
    (hw : off < 0x800000 ∨ 0x1000000 ≤ off) (hlo : pairOf true off = none) (hhi : pairOf false off = some (lo, hi))
    (hg : s.guard host off 0 false v = none) (hs : s.staged.find? (fun e => e.1 == lo) = some (lo, x)) :
    s.regWrite host off v =
      (({ s with latched := s.latched.erase lo, staged := s.staged.erase lo } : State).writeWord host lo x).writeWord host hi v := by
  have hw' : ¬(0x800000 ≤ off ∧ off < 0x1000000) := by omega
  simp [State.regWrite, hr, hh, hw', hlo, hhi, hg, hs]

/-- A write of the high half of a pair that its block ignores sets the flag of that block alone. -/
theorem State.regWrite_of_pairHi_refused {lo hi : Nat} {flag : Field} (host : Bool) (v : Nat) (hr : s.sup.inReset = false)
    (hh : s.hidden off = false) (hw : off < 0x800000 ∨ 0x1000000 ≤ off) (hlo : pairOf true off = none)
    (hhi : pairOf false off = some (lo, hi)) (hg : s.guard host off 0 false v = some (some flag)) :
    s.regWrite host off v = s.raise flag := by
  have hw' : ¬(0x800000 ≤ off ∧ off < 0x1000000) := by omega
  simp [State.regWrite, hr, hh, hw', hlo, hhi, hg]

/-- A word written to a register outside the bays' loop records has no reserved bits (R14). -/
theorem recordMask_of_lt (h : off < 0x1000000) : recordMask off = 0xFFFFFFFF := by
  have : ¬ 0x1000000 ≤ off := by omega
  simp [recordMask, this]

/-- The bits of a 32-bit register are those of the word's lowest 32. -/
theorem bitsAt_and_word (v : Nat) {lo w : Nat} (h : lo + w ≤ 32) : bitsAt (v &&& 0xFFFFFFFF) lo w = v / 2 ^ lo % 2 ^ w := by
  have hm : v &&& 0xFFFFFFFF = v % 2 ^ 32 := Nat.and_two_pow_sub_one_eq_mod v 32
  apply Nat.eq_of_testBit_eq
  intro i
  simp only [bitsAt, hm, Nat.testBit_mod_two_pow, Nat.testBit_div_two_pow]
  by_cases hi : i < w
  · have : i + lo < 32 := by omega
    simp [hi, this]
  · simp [hi]

/-- A write of a field of access RW that no block ignores puts the field's bits of the word. -/
theorem State.writeField_rw (host : Bool) (v : Nat) {f : Field} (ho : off < 0x1000000) (hf : f.key % 32 + f.width ≤ 32)
    (hg : ∀ same, s.guard host off (f.key % 32) same v = none) :
    s.writeField host off v ⟨f, .rw, []⟩ = s.put f (v / 2 ^ (f.key % 32) % 2 ^ f.width) := by
  simp [State.writeField, State.storeField, hg, recordMask_of_lt ho, bitsAt_and_word v hf]

theorem State.writeWord_of_regAt (host : Bool) (v : Nat) {l : List FieldRow} (h : regAt off = some l) :
    s.writeWord host off v = (l.foldl (fun s r => s.writeField host off v r) s).afterWrite off := by
  simp [State.writeWord, h]

/-- Writes below the receipt rings set nothing going in other blocks. -/
theorem State.afterWrite_of_lt (s : State) (h : off < 0x13000) : s.afterWrite off = s := by
  have hkey : R.KEY_CTL.SLOT.key / 32 = 0x80140 := rfl
  unfold State.afterWrite
  rw [hkey]
  repeat rw [if_neg (by omega)]

/-- No block below the Caddy's is ever hidden. -/
theorem State.hidden_of_lt (s : State) (h : off < 0x41000) : s.hidden off = false := by
  unfold State.hidden
  dsimp only
  repeat rw [if_neg (by simp; omega)]

end Sys2Proof.Machine
end

section
/-!
SUPPORT. The registers of Porter that the statement about pairs names: where the map has them, and when the block ignores their writes
(R362 to R364).
-/

namespace Sys2Proof.Machine

theorem regAt_dbBaseLo : regAt 0x10004 = some [⟨R.DB_BASE_LO.ADDR, .rw, []⟩] := rfl
theorem regAt_dbBaseHi : regAt 0x10008 = some [⟨R.DB_BASE_HI.ADDR, .rw, []⟩] := rfl
theorem regAt_poll : regAt 0x10010 = some [⟨R.POLL.IDLE, .rw, []⟩, ⟨R.POLL.BUSY, .rw, []⟩] := rfl

theorem pairOf_true_dbBaseLo : pairOf true 0x10004 = some (0x10004, 0x10008) := by decide
theorem pairOf_false_dbBaseLo : pairOf false 0x10004 = none := by decide
theorem pairOf_true_dbBaseHi : pairOf true 0x10008 = none := by decide
theorem pairOf_false_dbBaseHi : pairOf false 0x10008 = some (0x10004, 0x10008) := by decide
theorem pairOf_true_poll : pairOf true 0x10010 = none := by decide
theorem pairOf_false_poll : pairOf false 0x10010 = none := by decide

variable (s : State)

/-- Porter ignores a write of the doorbell base while it is on. -/
theorem State.guard_dbBase (host : Bool) {off : Nat} (ho : off = 0x10004 ∨ off = 0x10008) (bit : Nat) (same : Bool) (v : Nat) :
    s.guard host off bit same v = if s.on R.PORTER_CTL.ENABLE then some (some R.PORTER_STAT.CFG_REJ) else none := by
  rcases ho with rfl | rfl <;> rfl

theorem State.guard_poll (host : Bool) (bit : Nat) (same : Bool) (v : Nat) : s.guard host 0x10010 bit same v = none := rfl

/-- A word written to the low half of the doorbell base, Porter being off. -/
theorem State.writeWord_dbBaseLo (host : Bool) (v : Nat) (h : s.on R.PORTER_CTL.ENABLE = false) :
    s.writeWord host 0x10004 v = s.put R.DB_BASE_LO.ADDR (v / 2 ^ 12 % 2 ^ 20) := by
  rw [State.writeWord_of_regAt host v regAt_dbBaseLo, State.afterWrite_of_lt _ (by decide), List.foldl_cons, List.foldl_nil]
  exact State.writeField_rw host v (by decide) (by decide) fun same => by simp [s.guard_dbBase host (.inl rfl), h]

/-- A word written to the high half of the doorbell base, Porter being off. -/
theorem State.writeWord_dbBaseHi (host : Bool) (v : Nat) (h : s.on R.PORTER_CTL.ENABLE = false) :
    s.writeWord host 0x10008 v = s.put R.DB_BASE_HI.ADDR (v % 2 ^ 32) := by
  rw [State.writeWord_of_regAt host v regAt_dbBaseHi, State.afterWrite_of_lt _ (by decide), List.foldl_cons, List.foldl_nil,
    State.writeField_rw host v (by decide) (by decide) fun same => by simp [s.guard_dbBase host (.inr rfl), h]]
  simp [R.DB_BASE_HI.ADDR]

/-- A word written to `POLL`. -/
theorem State.writeWord_poll (host : Bool) (v : Nat) :
    s.writeWord host 0x10010 v = (s.put R.POLL.IDLE (v / 2 ^ 16 % 2 ^ 16)).put R.POLL.BUSY (v % 2 ^ 16) := by
  rw [State.writeWord_of_regAt host v regAt_poll, State.afterWrite_of_lt _ (by decide), List.foldl_cons, List.foldl_cons, List.foldl_nil,
    State.writeField_rw host v (by decide) (by decide) fun same => s.guard_poll host _ same v,
    State.writeField_rw host v (by decide) (by decide) fun same => State.guard_poll _ host _ same v]
  simp [R.POLL.IDLE, R.POLL.BUSY]

/-- Both halves of the doorbell base, written one after the other, Porter being off. -/
theorem State.writeWord_dbBase (host : Bool) (x v : Nat) (h : s.on R.PORTER_CTL.ENABLE = false) :
    (s.writeWord host 0x10004 x).writeWord host 0x10008 v =
      (s.put R.DB_BASE_LO.ADDR (x / 2 ^ 12 % 2 ^ 20)).put R.DB_BASE_HI.ADDR (v % 2 ^ 32) := by
  have h' : (s.put R.DB_BASE_LO.ADDR (x / 2 ^ 12 % 2 ^ 20)).on R.PORTER_CTL.ENABLE = false := by
    rw [State.on, State.get_put_other _ _ _ _ (by decide)]
    exact h
  rw [State.writeWord_dbBaseLo s host x h, State.writeWord_dbBaseHi _ host v h']

theorem State.regValue_dbBaseLo : s.regValue 0x10004 = 4096 * s.get R.DB_BASE_LO.ADDR := by
  have h : s.regValue 0x10004 = 0 + s.get R.DB_BASE_LO.ADDR * 4096 := rfl
  omega

theorem State.regValue_dbBaseHi : s.regValue 0x10008 = s.get R.DB_BASE_HI.ADDR := by
  have h : s.regValue 0x10008 = 0 + s.get R.DB_BASE_HI.ADDR * 1 := rfl
  omega

end Sys2Proof.Machine
end

section
/-!
PROOF. A pair is written by its halves, a read of a low half latches, and an RC field is cleared by its read (R12, R13, R362 to R364).
-/

namespace Sys2Proof.Machine

variable {s : State}

theorem does_pairLoWrite_dbBase (hr : s.sup.inReset = false) (v : Nat) (he : s.on R.PORTER_CTL.ENABLE = false) :
    Does (.pairLoWrite 0x10004 v) s fun t => t.staged = s.staged.put 0x10004 (v % 2 ^ 32) ∧ Leaves s t [] [] := by
  have hg : s.guard true 0x10004 0 false v = none := by simp [s.guard_dbBase true (.inl rfl), he]
  have hw := State.regWrite_of_pairLo true v hr (s.hidden_of_lt (by decide)) (.inl (by decide)) pairOf_true_dbBaseLo hg
  rw [does_iff (exec_pairLoWrite v pairOf_true_dbBaseLo), hw]
  exact ⟨rfl, (Leaves.refl s _ _).withStaged _⟩

theorem does_pairHiWrite_dbBase (hr : s.sup.inReset = false) (v lo : Nat) (he : s.on R.PORTER_CTL.ENABLE = false)
    (hs : s.staged.find? (fun e => e.1 == 0x10004) = some (0x10004, lo)) (hv : v < 2 ^ 32) :
    Does (.pairHiWrite 0x10008 v) s fun t => t.get R.DB_BASE_LO.ADDR = lo / 2 ^ 12 % 2 ^ 20 ∧ t.get R.DB_BASE_HI.ADDR = v ∧
      Leaves s t [R.DB_BASE_LO.ADDR, R.DB_BASE_HI.ADDR] [] := by
  have hg : s.guard true 0x10008 0 false v = none := by simp [s.guard_dbBase true (.inr rfl), he]
  have hw := State.regWrite_of_pairHi true v hr (s.hidden_of_lt (by decide)) (.inl (by decide)) pairOf_true_dbBaseHi
    pairOf_false_dbBaseHi hg hs
  rw [does_iff (exec_pairHiWrite v pairOf_false_dbBaseHi), hw, State.writeWord_dbBase (h := by exact he)]
  refine ⟨?_, ?_, ?_⟩
  · rw [State.get_put_other _ _ _ _ (by decide), State.get_put_same, R.DB_BASE_LO.ADDR, Nat.mod_mod]
  · rw [State.get_put_same, R.DB_BASE_HI.ADDR, Nat.mod_mod, Nat.mod_eq_of_lt hv]
  · have hstage := ((Leaves.refl s [R.DB_BASE_LO.ADDR, R.DB_BASE_HI.ADDR] []).withLatched (s.latched.erase 0x10004)).withStaged
      (s.staged.erase 0x10004)
    exact (hstage.put (by simp) _).put (by simp) _

theorem does_pairHiWrite_dbBase_refused (hr : s.sup.inReset = false) (v : Nat) (he : s.on R.PORTER_CTL.ENABLE = true) :
    Does (.pairHiWrite 0x10008 v) s fun t => t = s.raise R.PORTER_STAT.CFG_REJ := by
  have hg : s.guard true 0x10008 0 false v = some (some R.PORTER_STAT.CFG_REJ) := by simp [s.guard_dbBase true (.inr rfl), he]
  have hw := State.regWrite_of_pairHi_refused true v hr (s.hidden_of_lt (by decide)) (.inl (by decide)) pairOf_true_dbBaseHi
    pairOf_false_dbBaseHi hg
  rw [does_iff (exec_pairHiWrite v pairOf_false_dbBaseHi), hw]

theorem does_pairLoRead_dbBase (hr : s.sup.inReset = false) :
    Does (.pairLoRead 0x10004) s fun t => t.out = .readData 0x10004 (4096 * s.get R.DB_BASE_LO.ADDR) :: s.out ∧
      t.latched = s.latched.put 0x10004 (s.get R.DB_BASE_HI.ADDR) ∧ Leaves s t [] [] := by
  have hrc : rcRows 0x10004 = [] := by simp [rcRows, regAt_dbBaseLo]
  have hw := State.hostRead_of_pairLo hr (s.hidden_of_lt (by decide)) (.inl (by decide)) pairOf_true_dbBaseLo pairOf_false_dbBaseLo
    (by decide) (by decide)
  rw [does_iff (exec_pairLoRead pairOf_true_dbBaseLo), hw, hrc, State.clearRows_nil, s.regValue_dbBaseLo, s.regValue_dbBaseHi,
    State.emit_readData]
  exact ⟨rfl, rfl, ((Leaves.refl s _ _).withLatched _).withOut _⟩

theorem does_registerWrite_poll (hr : s.sup.inReset = false) (v : Nat) (hv : v < 2 ^ 32) :
    Does (.registerWrite 0x10010 v) s fun t => t.get R.POLL.IDLE = v / 2 ^ 16 ∧ t.get R.POLL.BUSY = v % 2 ^ 16 ∧
      Leaves s t [R.POLL.IDLE, R.POLL.BUSY] [] := by
  have hw := State.regWrite_of_no_pair true v hr (s.hidden_of_lt (by decide)) (.inl (by decide)) pairOf_true_poll pairOf_false_poll
  rw [does_iff (exec_registerWrite s _ v), hw, State.writeWord_poll]
  refine ⟨?_, ?_, ?_⟩
  · rw [State.get_put_other _ _ _ _ (by decide), State.get_put_same, R.POLL.IDLE, Nat.mod_mod, Nat.mod_eq_of_lt (by omega)]
  · rw [State.get_put_same, R.POLL.BUSY, Nat.mod_mod]
  · exact ((Leaves.refl s _ _).put (by simp) _).put (by simp) _

theorem does_rcFieldRead (hr : s.sup.inReset = false) {off : Nat} (hh : s.hidden off = false) (hw : off < 0x800000 ∨ 0x1000000 ≤ off)
    (hlo : pairOf true off = none) (hhi : pairOf false off = none) (hrtc : off ≠ 0xA0100) (hlug : off ≠ 0xA0010) :
    Does (.rcFieldRead off) s fun t => t.out = .readData off (s.regValue off) :: s.out ∧
      (∀ r ∈ (regAt off).getD [], r.acc = .rc → t.get r.field = 0) ∧ Leaves s t ((rcRows off).map (·.field)) [] := by
  rw [does_iff (exec_rcFieldRead s off), State.hostRead_of_no_pair hr hh hw hlo hhi hrtc hlug, State.emit_readData,
    State.clearRows_out]
  refine ⟨rfl, fun r hmem hacc => ?_, (s.leaves_clearRows _).withOut _⟩
  exact s.get_clearRows_of_mem (mem_rcRows.mpr ⟨hmem, hacc⟩)

/-- Settles O57: each clause is one read or write of the register file, its value and its frame. -/
theorem registerPairsAndReadClears : Obligations.RegisterPairsAndReadClears := by
  unfold Obligations.RegisterPairsAndReadClears
  intro s hr
  refine ⟨fun v => does_pairLoWrite_dbBase hr v, fun v lo => does_pairHiWrite_dbBase hr v lo,
    fun v => does_pairHiWrite_dbBase_refused hr v, does_pairLoRead_dbBase hr, fun v => does_registerWrite_poll hr v, ?_⟩
  intro off _ hh hw hlo hhi hrtc hlug
  exact does_rcFieldRead hr hh hw hlo hhi hrtc hlug

end Sys2Proof.Machine
end

section
/-!
SUPPORT. What a bay's writing, journal and buffer operations leave of its defect list: the records staged and committed, the Anchor in
force, why writes are refused, and the segment in progress (R304, R305, R309, R312, R382, R465).
-/

namespace Sys2Proof.Machine

variable (s : State)

/-! ## Present bays, and a bay's parts -/

/-- An effect on a present bay is carried out. -/
theorem State.onBay_of_present {s : State} {n : Nat} (h : n < s.variant.bays) (f : State → State) : s.onBay n f = .next (f s) := by
  simp [State.onBay, State.bayPresent, h]

@[simp] theorem State.bay_onWrite_same (n : Nat) (f : WriteS → WriteS) :
    (s.onWrite n f).bay n = { s.bay n with writing := f (s.bay n).writing } := State.bay_setBay_same ..
@[simp] theorem State.bay_onDisc_same (n : Nat) (f : DiscS → DiscS) :
    (s.onDisc n f).bay n = { s.bay n with disc := f (s.bay n).disc } := State.bay_setBay_same ..
@[simp] theorem State.bay_onSched_same (n : Nat) (f : Sched → Sched) :
    (s.onSched n f).bay n = { s.bay n with sched := f (s.bay n).sched } := State.bay_setBay_same ..

@[simp] theorem State.get_onWrite (n : Nat) (f : WriteS → WriteS) (g : Field) : (s.onWrite n f).get g = s.get g := rfl
@[simp] theorem State.get_onDisc (n : Nat) (f : DiscS → DiscS) (g : Field) : (s.onDisc n f).get g = s.get g := rfl

/-- Steps that each leave a thing as it is leave it so together. -/
theorem State.foldl_same {α β : Type} (p : State → β) {f : State → α → State} (hf : ∀ t x, p (f t x) = p t) (l : List α) (s : State) :
    p (l.foldl f s) = p s := by
  induction l generalizing s with
  | nil => rfl
  | cons x l ih => exact (ih (f s x)).trans (hf s x)

/-- A change of the hidden state of a listed bay leaves the rest alone. -/
theorem Leaves.setBay {s t : State} {fs : List Field} {bs : List Nat} (h : Leaves s t fs bs) {n : Nat} (hn : n ∈ bs) (b : Bay) :
    Leaves s (t.setBay n b) fs bs :=
  { h with bays := fun m hm => (State.bay_setBay_other t n m b fun e => hm (e ▸ hn)).trans (h.bays m hm) }

/-! ## The defect list of a bay -/

/-- The defect list as the controller holds it: the records staged with the journal entry of each, those committed, the SEQ of
the Anchor in force, why every write fails, and the segment in progress. -/
structure DefectView where
  staged  : List (DefectRec × Nat)
  defects : List DefectRec
  seq     : Option Nat
  refuse  : Nat
  seg     : Option Work

def Bay.defectView (b : Bay) : DefectView := ⟨b.writing.staged, b.disc.defects, b.disc.anchor.map (·.seq), b.disc.refuse, b.sched.seg⟩

/-- `t` holds the defect list of every bay as `s` does. -/
def SameDefects (s t : State) : Prop := ∀ m, (t.bay m).defectView = (s.bay m).defectView

variable {s} {t u : State}

theorem SameDefects.refl (s : State) : SameDefects s s := fun _ => rfl

theorem SameDefects.trans (h : SameDefects s t) (k : SameDefects t u) : SameDefects s u := fun m => (k m).trans (h m)

theorem SameDefects.of_bays (h : t.bays = s.bays) : SameDefects s t := fun m => by simp [State.bay, h]

theorem SameDefects.bays_eq (h : SameDefects s t) (e : u.bays = t.bays) : SameDefects s u := h.trans (.of_bays e)

theorem SameDefects.setBay (h : SameDefects s t) {n : Nat} {b : Bay} (hb : b.defectView = (t.bay n).defectView) :
    SameDefects s (t.setBay n b) := fun m => by
  by_cases hm : m = n
  · rw [hm, State.bay_setBay_same, hb, h n]
  · rw [State.bay_setBay_other t n m b hm, h m]

/-- What the writing side holds but for the records staged may change. -/
theorem SameDefects.onWrite (h : SameDefects s t) {n : Nat} {f : WriteS → WriteS}
    (hf : (f (t.bay n).writing).staged = (t.bay n).writing.staged) : SameDefects s (t.onWrite n f) :=
  h.setBay (by simp [Bay.defectView, hf])

/-- What the scheduler holds but for the segment in progress may change. -/
theorem SameDefects.onSched (h : SameDefects s t) {n : Nat} {f : Sched → Sched} (hf : (f (t.bay n).sched).seg = (t.bay n).sched.seg) :
    SameDefects s (t.onSched n f) :=
  h.setBay (by simp [Bay.defectView, hf])

theorem SameDefects.onRead (h : SameDefects s t) (n : Nat) (f : ReadS → ReadS) : SameDefects s (t.onRead n f) := h.setBay rfl

theorem SameDefects.setTag (h : SameDefects s t) (n : Nat) (c : Cmd) : SameDefects s (t.setTag n c) := h.setBay rfl

theorem SameDefects.foldl {α : Type} {f : State → α → State} (hf : ∀ t x, SameDefects t (f t x)) (l : List α) (s : State) :
    SameDefects s (l.foldl f s) := fun m => State.foldl_same (fun t => (t.bay m).defectView) (fun t x => hf t x m) l s

variable (s)

theorem State.bays_showWrite (n : Nat) : (s.showWrite n).bays = s.bays := rfl

theorem State.bays_showJournal (n : Nat) : (s.showJournal n).bays = s.bays := rfl

/-! ## The journal (R309) -/

theorem sameDefects_putEntry (n i : Nat) (e : Option JEntry) : SameDefects s (s.putEntry n i e) := by
  unfold State.putEntry
  have hlug := fun l => (SameDefects.refl s).bays_eq (s.lugWrite_bays (2048 * n + 32 * i) l)
  exact ((hlug _).onWrite rfl).bays_eq (State.bays_showJournal ..)

theorem sameDefects_advanceEntry (n i st : Nat) : SameDefects s (s.advanceEntry n i st) := by
  unfold State.advanceEntry
  split
  · split
    · exact .refl s
    · exact sameDefects_putEntry s n i _
  · exact .refl s

theorem sameDefects_entryDone (n i : Nat) : SameDefects s (s.entryDone n i) := by
  unfold State.entryDone
  split
  · exact .refl s
  · split
    · split
      · exact .refl s
      · exact sameDefects_advanceEntry s n i 0
    · exact .refl s

/-! ## Commands and sectors that fail (R312) -/

theorem sameDefects_dropSector (n : Nat) (x : WSector) : SameDefects s (s.dropSector n x) := by
  unfold State.dropSector
  exact ((SameDefects.refl s).onWrite rfl).trans (sameDefects_entryDone _ n x.entry)

theorem sameDefects_onTag (n t : Nat) (f : Cmd → Cmd) : SameDefects s (s.onTag n t f) := by
  unfold State.onTag
  split
  · exact .refl s
  · exact (SameDefects.refl s).setTag n _

theorem sameDefects_setItem (n t i fail : Nat) : SameDefects s (s.setItem n t i fail) := sameDefects_onTag s n t _

theorem sameDefects_stopTag (n t status : Nat) : SameDefects s (s.stopTag n t status) := sameDefects_onTag s n t _

theorem sameDefects_failWrite (n t i status : Nat) : SameDefects s (s.failWrite n t i status) := by
  unfold State.failWrite
  have hdrop := SameDefects.foldl fun u y => sameDefects_dropSector u n y
  exact ((hdrop _ s).trans (sameDefects_setItem _ n t i status)).trans (sameDefects_stopTag _ n t status)

theorem sameDefects_failRun (n status : Nat) : SameDefects s (s.failRun n status) := by
  unfold State.failRun
  have hfail := SameDefects.foldl fun u (y : WSector) => sameDefects_failWrite u n y.tag y.item status
  have hitem := SameDefects.foldl fun u (y : WSector) => sameDefects_setItem u n y.tag y.item status
  exact ((hfail _ s).trans (hitem _ _)).onWrite rfl

/-! ## Buffers (R465) -/

theorem State.bays_caddyShow : s.caddyShow.bays = s.bays := by
  unfold State.caddyShow
  rw [State.put_bays]
  refine State.foldl_same State.bays (fun u r => ?_) _ s
  split <;> rfl

theorem State.bays_takeBuffer (r : Nat) : (s.takeBuffer r).2.bays = s.bays := by
  unfold State.takeBuffer
  split <;> rfl

variable {s} in
/-- A grant touches the Caddy alone; what it is for gets the buffer when it is delivered. -/
theorem State.bays_caddyGrant {id c ptr : Nat} (h : s.caddyGrant id c = some (ptr, t)) : t.bays = s.bays := by
  unfold State.caddyGrant at h
  dsimp only at h
  split at h
  · cases h
  · split at h
    · cases h
    · next r _ =>
      cases h
      rw [State.bays_caddyShow]
      exact s.bays_takeBuffer r

theorem sameDefects_pumpRungs (n : Nat) : SameDefects s (s.pumpRungs n) := by
  unfold State.pumpRungs
  have hqueue := (SameDefects.refl s).onRead n fun r => { r with ladder := queueRungs 8 r.ladder }
  exact hqueue.bays_eq rfl

theorem sameDefects_caddyDeliver (id ptr : Nat) (purpose : CaddyUse) : SameDefects s (s.caddyDeliver id ptr purpose) := by
  unfold State.caddyDeliver
  cases purpose with
  | port => exact .of_bays rfl
  | capture n psa => exact ((SameDefects.refl s).onRead n _).trans (sameDefects_pumpRungs _ n)
  | parity n x => exact ((SameDefects.refl s).onWrite rfl).bays_eq (State.bays_showWrite ..)
  | defects n => exact (SameDefects.refl s).setBay rfl
  | seq q => exact .of_bays rfl

theorem sameDefects_caddyServe : SameDefects s s.caddyServe := by
  unfold State.caddyServe
  refine (SameDefects.foldl (fun u w => ?_) _ s).bays_eq (State.bays_caddyShow _)
  split
  · next ptr v hgrant =>
    have hv : SameDefects u v := .of_bays (State.bays_caddyGrant hgrant)
    exact (hv.bays_eq rfl).trans (sameDefects_caddyDeliver _ w.1 ptr w.2.2)
  · exact .refl u

theorem sameDefects_caddyRequest (id c : Nat) (purpose : CaddyUse) : SameDefects s (s.caddyRequest id c purpose) := by
  unfold State.caddyRequest
  exact ((SameDefects.refl s).bays_eq (State.onCaddy_bays s _)).trans (sameDefects_caddyServe _)

end Sys2Proof.Machine
end

section
/-!
SUPPORT. The registers that a bay's journal shows itself in, and that the operations on its entries and sectors change no other (R309,
R312, R317).
-/

namespace Sys2Proof.Machine

variable (s : State)

/-- The fields that show bay `n`'s journal. -/
def journalFields (n : Nat) : List Field :=
  [R.WJ_STAT.LIVE n, R.WJ_STAT.STALE n, R.WJ_STAT.FREE n, R.WJ_STALE_LO.STALE n, R.WJ_STALE_HI.STALE n]

/-- A field that neither the ledger nor the journal of bay `n` writes. -/
structure Field.BesideJournal (g : Field) (n : Nat) : Prop where
  recorder : g.recorder = false
  journal  : ∀ f ∈ journalFields n, g.key ≠ f.key

@[simp] theorem State.get_onTag (n t : Nat) (f : Cmd → Cmd) (g : Field) : (s.onTag n t f).get g = s.get g := by
  unfold State.onTag
  split <;> rfl

@[simp] theorem State.get_setItem (n t i fail : Nat) (g : Field) : (s.setItem n t i fail).get g = s.get g := s.get_onTag ..

@[simp] theorem State.get_stopTag (n t status : Nat) (g : Field) : (s.stopTag n t status).get g = s.get g := s.get_onTag ..

variable {g : Field} {n : Nat} (hg : g.BesideJournal n)
include hg

theorem State.get_showJournal : (s.showJournal n).get g = s.get g := by
  obtain ⟨-, hj⟩ := hg
  simp only [journalFields, List.forall_mem_cons] at hj
  obtain ⟨hlive, hstale, hfree, hlo, hhi, -⟩ := hj
  unfold State.showJournal
  rw [State.get_put_other _ _ _ _ hhi, State.get_put_other _ _ _ _ hlo, State.get_put_other _ _ _ _ hfree,
    State.get_put_other _ _ _ _ hstale, State.get_put_other _ _ _ _ hlive]

theorem State.get_putEntry (i : Nat) (e : Option JEntry) : (s.putEntry n i e).get g = s.get g := by
  unfold State.putEntry
  rw [State.get_showJournal _ hg, State.get_onWrite, State.get_lugWrite _ _ _ _ hg.recorder]

theorem State.get_advanceEntry (i st : Nat) : (s.advanceEntry n i st).get g = s.get g := by
  unfold State.advanceEntry
  split
  · split
    · rfl
    · exact s.get_putEntry hg i _
  · rfl

theorem State.get_entryDone (i : Nat) : (s.entryDone n i).get g = s.get g := by
  unfold State.entryDone
  split
  · rfl
  · split
    · split
      · rfl
      · exact s.get_advanceEntry hg i 0
    · rfl

theorem State.get_dropSector (x : WSector) : (s.dropSector n x).get g = s.get g := by
  rw [State.dropSector, State.get_entryDone _ hg, State.get_onWrite]

theorem State.get_failWrite (t i status : Nat) : (s.failWrite n t i status).get g = s.get g := by
  rw [State.failWrite, State.get_stopTag, State.get_setItem]
  exact State.foldl_same (·.get g) (fun u y => u.get_dropSector hg y) _ s

theorem State.get_failRun (status : Nat) : (s.failRun n status).get g = s.get g := by
  have hfail : ∀ (u : State) (y : WSector), (u.failWrite n y.tag y.item status).get g = u.get g := fun u y =>
    u.get_failWrite hg y.tag y.item status
  have hitem : ∀ (u : State) (y : WSector), (u.setItem n y.tag y.item status).get g = u.get g := fun u y => u.get_setItem ..
  rw [State.failRun, State.get_onWrite]
  exact (State.foldl_same (·.get g) hitem _ _).trans (State.foldl_same (·.get g) hfail _ s)

end Sys2Proof.Machine
end

section
/-!
PROOF. A defect-list commit: when it falls due, and what it leaves when it ends written or failed (R51, R56, R305).
-/

namespace Sys2Proof.Machine

variable {s : State} {n : Nat}

/-! ## A commit falls due -/

theorem exec_dlCommitAgeTimer (hn : n < s.variant.bays) (hs : (s.bay n).writing.staged.isEmpty = false) :
    exec (.dlCommitAgeTimer n) s = .next (s.wantCommit n false) := by
  have harm : exec (.dlCommitAgeTimer n) s = execDlCommitAgeTimer n s := rfl
  rw [harm, execDlCommitAgeTimer, State.onBay_of_present hn, hs]
  rfl

theorem does_dlCommitAgeTimer (hn : n < s.variant.bays) (hs : (s.bay n).writing.staged.isEmpty = false) :
    Does (.dlCommitAgeTimer n) s fun t => (t.bay n).sched.dlDue = true ∧ Leaves s t [] [n] := by
  rw [does_iff (exec_dlCommitAgeTimer hn hs)]
  exact ⟨by simp [State.wantCommit], (Leaves.refl s _ _).setBay (by simp) _⟩

/-- A refusal for the quota that the list now fits is forgotten (R382). -/
def State.quotaRetried (s : State) (n : Nat) : State :=
  s.onDisc n fun d => { d with refuse := if d.refuse = ST.DL_QUOTA ∧ s.dlRoom n then 0 else d.refuse }

theorem exec_dlCommitRequest (hn : n < s.variant.bays) (hs : (s.bay n).writing.staged.isEmpty = false) :
    exec (.dlCommitRequest n) s = .next (((s.quotaRetried n).wantCommit n false).raise (R.DL_CTL.COMMIT n)) := by
  have harm : exec (.dlCommitRequest n) s = execDlCommitRequest n s := rfl
  rw [harm, execDlCommitRequest, State.onBay_of_present hn, hs]
  rfl

theorem does_dlCommitRequest (hn : n < s.variant.bays) (hs : (s.bay n).writing.staged.isEmpty = false) :
    Does (.dlCommitRequest n) s fun t => (t.bay n).sched.dlDue = true ∧ t.get (R.DL_CTL.COMMIT n) = 1 ∧
      Leaves s t [R.DL_CTL.COMMIT n] [n] := by
  rw [does_iff (exec_dlCommitRequest hn hs)]
  refine ⟨by simp [State.raise, State.wantCommit], by simp [State.raise, R.DL_CTL.COMMIT], ?_⟩
  have hretry : Leaves s (s.quotaRetried n) [R.DL_CTL.COMMIT n] [n] := (Leaves.refl s _ _).setBay (by simp) _
  exact (hretry.setBay (by simp) _).put (by simp) _

/-! ## The end of a commit -/

variable (s n)

theorem State.commit_commitEnds : (s.commitEnds n).get (R.DL_CTL.COMMIT n) = 0 :=
  State.get_zero_of_get_eq_zero (s.get_zero_same _) _

theorem State.busy_commitEnds : (s.commitEnds n).get (R.DL_CTL.BUSY n) = 0 := State.get_zero_same _ _

theorem State.fail_commitEnds : (s.commitEnds n).get (R.DL_CTL.FAIL n) = s.get (R.DL_CTL.FAIL n) := by
  have hcommit : (R.DL_CTL.FAIL n).key ≠ (R.DL_CTL.COMMIT n).key := by simp [R.DL_CTL.FAIL, R.DL_CTL.COMMIT]
  have hbusy : (R.DL_CTL.FAIL n).key ≠ (R.DL_CTL.BUSY n).key := by simp [R.DL_CTL.FAIL, R.DL_CTL.BUSY]
  exact (State.get_put_other _ _ _ _ hbusy).trans (State.get_put_other _ _ _ _ hcommit)

theorem State.dlDue_commitEnds : ((s.commitEnds n).bay n).sched.dlDue = false := by simp [State.commitEnds]

theorem sameDefects_commitEnds : SameDefects s (s.commitEnds n) := by
  unfold State.commitEnds
  have hzero : SameDefects s ((s.zero (R.DL_CTL.COMMIT n)).zero (R.DL_CTL.BUSY n)) := .of_bays rfl
  exact (hzero.onWrite (n := n) (f := fun w => { w with commit := none }) rfl).onSched rfl

/-! ## Written -/

/-- A commit written leaves no record staged, the list lengthened by those that were, and an Anchor of the next SEQ. -/
theorem State.defectView_commitDone (sectors : List Nat) (sysNext : Nat) :
    ((s.commitDone n sectors sysNext).bay n).defectView =
      ⟨[], ((s.bay n).writing.staged.map (·.1)).reverse ++ (s.bay n).disc.defects,
        some (((s.bay n).disc.anchor.map (·.seq)).getD 0 + 1), (s.bay n).disc.refuse, (s.bay n).sched.seg⟩ := by
  delta State.commitDone
  extract_lets +lift w k seq s1 s2 s3 need s4
  have hretire : SameDefects s1 s2 := SameDefects.foldl (fun u e => by
    split
    · exact sameDefects_advanceEntry u n e.2 0
    · exact .refl u) _ s1
  have hbuffer : SameDefects s3 s4 := by
    unfold s4
    split
    · exact sameDefects_caddyRequest s3 n 2 _
    · exact .refl s3
  have hrecord : SameDefects s4 (if k = 0 then s4 else s4.recordBay n 0x0A05 [k, seq]) := by
    split
    · exact .refl s4
    · exact .of_bays (s4.recordBay_bays ..)
  have hstage : (s3.bay n).defectView = { (s2.bay n).defectView with staged := [] } := by
    simp [s3, Bay.defectView, State.showWrite]
  rw [((hbuffer.trans hrecord).trans (sameDefects_commitEnds _ n)) n, hstage, hretire n]
  cases ha : (s.bay n).disc.anchor <;> simp [s1, w, seq, ha, Bay.defectView]

/-! ## Failed -/

theorem Field.besideJournal_fail : (R.DL_CTL.FAIL n).BesideJournal n := by
  constructor
  · have hledger : ¬ (R.DL_CTL.FAIL n).key < 32 * 0xD0000 := by simp only [R.DL_CTL.FAIL]; omega
    have hpending : ¬ (R.DL_CTL.FAIL n).key < 32 * 0x40000 := by simp only [R.DL_CTL.FAIL]; omega
    have hsealed : (R.DL_CTL.FAIL n).key ≠ R.LUG_CTL.SEALED.key := by simp only [R.DL_CTL.FAIL, R.LUG_CTL.SEALED]; omega
    simp [Field.recorder, hledger, hpending, hsealed]
  · simp only [journalFields, List.forall_mem_cons, R.DL_CTL.FAIL, R.WJ_STAT.LIVE, R.WJ_STAT.STALE, R.WJ_STAT.FREE, R.WJ_STALE_LO.STALE,
      R.WJ_STALE_HI.STALE]
    refine ⟨?_, ?_, ?_, ?_, ?_, by simp⟩ <;> omega

theorem State.fail_showWrite : (s.showWrite n).get (R.DL_CTL.FAIL n) = s.get (R.DL_CTL.FAIL n) := by
  have hopen : (R.DL_CTL.FAIL n).key ≠ (R.WR_STAT.OPEN n).key := by simp only [R.DL_CTL.FAIL, R.WR_STAT.OPEN]; omega
  have hpend : (R.DL_CTL.FAIL n).key ≠ (R.WR_STAT.RELOC_PEND n).key := by simp only [R.DL_CTL.FAIL, R.WR_STAT.RELOC_PEND]; omega
  have hstaged : (R.DL_CTL.FAIL n).key ≠ (R.WR_STAT.DL_STAGED n).key := by simp only [R.DL_CTL.FAIL, R.WR_STAT.DL_STAGED]; omega
  unfold State.showWrite
  rw [State.get_put_other _ _ _ _ hstaged, State.get_put_other _ _ _ _ hpend, State.get_put_other _ _ _ _ hopen]

/-- A commit that fails leaves the defect list as it was, and the status for every later write. -/
theorem State.defectView_commitFail (status : Nat) :
    ((s.commitFail n status).bay n).defectView = { (s.bay n).defectView with refuse := status } := by
  have hrun := fun t => (sameDefects_failRun t n status).bays_eq (State.bays_showWrite _ n)
  unfold State.commitFail
  rw [((hrun _).trans (sameDefects_commitEnds _ n)) n]
  simp [Bay.defectView, State.raise]

theorem State.fail_commitFail (status : Nat) : (s.commitFail n status).get (R.DL_CTL.FAIL n) = 1 := by
  have hbeside := Field.besideJournal_fail n
  unfold State.commitFail
  rw [State.fail_commitEnds, State.fail_showWrite, State.get_failRun _ hbeside, State.get_onDisc,
    State.get_recordBay _ _ _ _ _ hbeside.recorder, State.raise, State.get_put_same]
  rfl

/-! ## What the command does -/

variable {s n}

/-- The commit in progress ends, and no segment with it: none was serving it. -/
theorem exec_dlCommitDone (hn : n < s.variant.bays) (hb : s.on (R.DL_CTL.BUSY n) = true) (full : Bool) (sectors : List Nat)
    (sysNext : Nat) {t : State} (ht : t = if full then s.commitFail n ST.MEDIA_SYSTEM_FULL else s.commitDone n sectors sysNext)
    (hseg : (t.bay n).sched.seg ≠ some .commit) : exec (.dlCommitDone n full sectors sysNext) s = .next t := by
  have harm : exec (.dlCommitDone n full sectors sysNext) s = execDlCommitDone n full sectors sysNext s := rfl
  rw [harm, execDlCommitDone, State.onBay_of_present hn, if_pos hb, ← ht]
  simp only [if_neg hseg]

theorem does_dlCommitDone_written (hn : n < s.variant.bays) (sectors : List Nat) (sysNext : Nat)
    (hb : s.on (R.DL_CTL.BUSY n) = true) (hseg : (s.bay n).sched.seg ≠ some .commit) :
    Does (.dlCommitDone n false sectors sysNext) s fun t => (t.bay n).writing.staged = [] ∧
      (t.bay n).disc.defects = ((s.bay n).writing.staged.map (·.1)).reverse ++ (s.bay n).disc.defects ∧
      (t.bay n).disc.anchor.map (·.seq) = some ((((s.bay n).disc.anchor.map (·.seq)).getD 0) + 1) ∧
      t.get (R.DL_CTL.BUSY n) = 0 ∧ t.get (R.DL_CTL.COMMIT n) = 0 ∧ (t.bay n).sched.dlDue = false := by
  have hview := s.defectView_commitDone n sectors sysNext
  simp only [Bay.defectView, DefectView.mk.injEq] at hview
  obtain ⟨hstaged, hdefects, hanchor, -, hseg'⟩ := hview
  rw [does_iff (exec_dlCommitDone hn hb false sectors sysNext rfl (by simpa [hseg'] using hseg))]
  exact ⟨hstaged, hdefects, hanchor, State.busy_commitEnds _ n, State.commit_commitEnds _ n, State.dlDue_commitEnds _ n⟩

theorem does_dlCommitDone_full (hn : n < s.variant.bays) (sectors : List Nat) (sysNext : Nat)
    (hb : s.on (R.DL_CTL.BUSY n) = true) (hseg : (s.bay n).sched.seg ≠ some .commit) :
    Does (.dlCommitDone n true sectors sysNext) s fun t => t.get (R.DL_CTL.FAIL n) = 1 ∧ t.get (R.DL_CTL.BUSY n) = 0 ∧
      t.get (R.DL_CTL.COMMIT n) = 0 ∧ (t.bay n).writing.staged = (s.bay n).writing.staged ∧
      (t.bay n).disc.refuse = ST.MEDIA_SYSTEM_FULL := by
  have hview := s.defectView_commitFail n ST.MEDIA_SYSTEM_FULL
  simp only [Bay.defectView, DefectView.mk.injEq] at hview
  obtain ⟨hstaged, -, -, hrefuse, hseg'⟩ := hview
  rw [does_iff (exec_dlCommitDone hn hb true sectors sysNext rfl (by simpa [hseg'] using hseg))]
  exact ⟨s.fail_commitFail n _, State.busy_commitEnds _ n, State.commit_commitEnds _ n, hstaged, hrefuse⟩

/-- Settles O24: a commit falls due by its timer or its request, and its end, written or failed, is read off the defect list that it
leaves. -/
theorem defectListCommits : Obligations.DefectListCommits := by
  unfold Obligations.DefectListCommits
  intro n s hn
  exact ⟨does_dlCommitAgeTimer hn, does_dlCommitRequest hn, does_dlCommitDone_written hn, does_dlCommitDone_full hn⟩

end Sys2Proof.Machine
end

section
/-!
SUPPORT. Frames (`Leaves`, `LeavesRec`) of the operations that the Bay Link's commands are written with: an output, a change of the
link's hidden state, a count, a frame taken (R63) and a ledger record.
-/

namespace Sys2Proof.Machine

/-! ## Reading a field past the link's operations -/

section
variable (s : State) (n : Nat)

@[simp] theorem State.get_raise_same (f : Field) : (s.raise f).get f = 1 % 2 ^ f.width := s.get_put_same f 1

/-- An output changes no register. -/
@[simp] theorem State.get_emit_any (e : Emission) (g : Field) : (s.emit e).get g = s.get g := by
  unfold State.emit
  split <;> rfl

@[simp] theorem State.get_onLink (f : Link → Link) (g : Field) : (s.onLink n f).get g = s.get g := rfl

@[simp] theorem State.bay_onLink_same (f : Link → Link) : (s.onLink n f).bay n = { s.bay n with link := f (s.bay n).link } :=
  State.bay_setBay_same ..

@[simp] theorem State.get_send (typ arg : Nat) (data : List (BitVec 64)) (g : Field) : (s.send n typ arg data).get g = s.get g := by
  unfold State.send
  dsimp only
  split
  · rfl
  · exact State.get_emit_any ..

/-- Sending a frame advances the SEQ of its type and nothing else of the link. -/
@[simp] theorem State.cfg_send (typ arg : Nat) (data : List (BitVec 64)) :
    ((s.send n typ arg data).bay n).link.cfg = (s.bay n).link.cfg := by
  unfold State.send
  dsimp only
  split
  · rfl
  · simp

end

/-! ## What a command leaves alone -/

section
variable {s t : State} {fs : List Field} {bs : List Nat} (h : Leaves s t fs bs)
include h

theorem Leaves.emit (e : Emission) : Leaves s (t.emit e) fs bs := by
  unfold State.emit
  split <;> exact { h with }

theorem Leaves.raise {f : Field} (hf : f ∈ fs) : Leaves s (t.raise f) fs bs := h.put hf 1

theorem Leaves.zero {f : Field} (hf : f ∈ fs) : Leaves s (t.zero f) fs bs := h.put hf 0

theorem Leaves.onLink {n : Nat} (hn : n ∈ bs) (f : Link → Link) : Leaves s (t.onLink n f) fs bs := h.setBay hn _

theorem Leaves.send {n : Nat} (hn : n ∈ bs) (typ arg : Nat) (data : List (BitVec 64)) : Leaves s (t.send n typ arg data) fs bs := by
  unfold State.send
  dsimp only
  split
  · exact h
  · exact (h.setBay hn _).emit _

/-- A command that writes no record leaves what one that does may leave. -/
theorem Leaves.toRec : LeavesRec s t fs bs := by
  obtain ⟨hregs, hbays, ⟨hdram, hmem, -, hkeys, hfab⟩, hunits⟩ := h
  exact ⟨fun g hg _ => hregs g hg, hbays, ⟨hdram, hmem, hkeys, hfab⟩, hunits⟩

end

section
variable {s t : State} {fs : List Field} {bs : List Nat} (h : LeavesRec s t fs bs)
include h

theorem LeavesRec.zero {f : Field} (hf : f ∈ fs) : LeavesRec s (t.zero f) fs bs :=
  { h with regs := fun g hg hr => (State.get_put_other t f g 0 (hg f hf)).trans (h.regs g hg hr) }

theorem LeavesRec.onLink {n : Nat} (hn : n ∈ bs) (f : Link → Link) : LeavesRec s (t.onLink n f) fs bs :=
  { h with bays := fun m hm => (State.bay_setBay_other t n m _ fun e => hm (e ▸ hn)).trans (h.bays m hm) }

/-- A record, whoever writes it, leaves all but the recorder's registers alone. -/
theorem LeavesRec.records {u : State} (k : Records t u) : LeavesRec s u fs bs := by
  obtain ⟨hregs, hbays, ⟨hdram, hmem, hkeys, hfab⟩,
    hcaddy, hporter, hsubs, hrcps, hchannels, hunits, hseqs, hbanks, hclusters, hfabS, hchain, hmode, hdom⟩ := h
  exact ⟨fun g hg hr => (k.get g hr).trans (hregs g hg hr), fun m hm => by rw [← hbays m hm, State.bay, State.bay, k.bays],
    ⟨k.dram.trans hdram, k.mem.trans hmem, k.keys.trans hkeys, k.fabKeys.trans hfab⟩,
    k.caddy.trans hcaddy, k.porter.trans hporter, k.subs.trans hsubs, k.rcps.trans hrcps, k.channels.trans hchannels,
    k.units.trans hunits, k.seqs.trans hseqs, k.banks.trans hbanks, k.clusters.trans hclusters, k.fab.trans hfabS,
    k.chain.trans hchain, k.pendMode.trans hmode, k.domPhase.trans hdom⟩

end

/-! ## A good frame (R63) -/

section
variable {s : State} {n typ : Nat} {f : UpFrame} (hf : frameGood typ f = true)
include hf

/-- A good frame counts the frames missing before it, and holds its place in its type's series. -/
theorem State.takeFrame_good : s.takeFrame n typ f =
    (s.count (R.LINK_ERR.SEQ_GAP n) (s.seqGap n typ f.seq)).onLink n fun l => { l with upSeq := l.upSeq.put typ ((f.seq + 1) % 256) } :=
  if_pos hf

theorem State.bay_takeFrame_good : (s.takeFrame n typ f).bay n =
    { s.bay n with link := { (s.bay n).link with upSeq := (s.bay n).link.upSeq.put typ ((f.seq + 1) % 256) } } := by
  rw [State.takeFrame_good hf, State.bay_onLink_same]
  rfl

theorem State.get_takeFrame_good {g : Field} (hg : g.key ≠ (R.LINK_ERR.SEQ_GAP n).key) : (s.takeFrame n typ f).get g = s.get g := by
  rw [State.takeFrame_good hf, State.get_onLink, State.count, State.get_put_other _ _ _ _ hg]

theorem Leaves.takeFrame {t : State} {fs : List Field} {bs : List Nat} (h : Leaves s t fs bs) (hn : n ∈ bs)
    (hgap : R.LINK_ERR.SEQ_GAP n ∈ fs) : Leaves s (t.takeFrame n typ f) fs bs := by
  rw [State.takeFrame_good hf]
  exact (h.put hgap _).onLink hn _

end

end Sys2Proof.Machine
end

section
/-!
PROOF. Training failures (R76), and loss of block lock and of the link (R85).
-/

namespace Sys2Proof.Machine

variable {s : State} {n : Nat}

/-! ## Where a training failure leaves the link (R76) -/

/-- Reset is low, there is no block lock, and training waits to restart. -/
def TrainingFailed (n : Nat) (t : State) : Prop :=
  (t.bay n).link.rstHigh = false ∧ (t.bay n).link.phase = .retryWait ∧ t.get (R.LINK_STAT.BLOCK_LOCK n) = 0

theorem State.trainingFailed_trainFail (s : State) (n step value : Nat) : TrainingFailed n (s.trainFail n step value) :=
  ⟨by simp [State.trainFail], by simp [State.trainFail], State.get_zero_same _ _⟩

theorem LeavesRec.trainFail {t : State} (h : LeavesRec s t [R.LINK_STAT.BLOCK_LOCK n] [n]) (step value : Nat) :
    LeavesRec s (t.trainFail n step value) [R.LINK_STAT.BLOCK_LOCK n] [n] :=
  ((h.records (records_recordBay (Records.refl t))).zero (by simp)).onLink (by simp) _

/-! ## What makes training fail -/

/-- Out of time, training fails at the step in progress. -/
theorem exec_trainTimeout (hn : n < s.variant.bays)
    (hp : (s.bay n).link.phase = .awaitLock ∨ (s.bay n).link.phase = .echo ∨ (s.bay n).link.phase = .feId) :
    ∃ step value, exec (.trainTimeout n) s = .next (s.trainFail n step value) := by
  have harm : exec (.trainTimeout n) s = execTrainTimeout n s := rfl
  rw [harm, execTrainTimeout, State.onBay_of_present hn]
  obtain hp | hp | hp := hp
  · exact ⟨3, 0, by rw [hp]⟩
  · exact ⟨4, s.get (R.LINK_RTT.RTT n), by rw [hp]⟩
  · exact ⟨5, 0, by rw [hp]⟩

theorem does_trainTimeout (hn : n < s.variant.bays)
    (hp : (s.bay n).link.phase = .awaitLock ∨ (s.bay n).link.phase = .echo ∨ (s.bay n).link.phase = .feId) :
    Does (.trainTimeout n) s fun t => TrainingFailed n t ∧ LeavesRec s t [R.LINK_STAT.BLOCK_LOCK n] [n] := by
  obtain ⟨step, value, hexec⟩ := exec_trainTimeout hn hp
  rw [does_iff hexec]
  exact ⟨s.trainingFailed_trainFail n step value, (Leaves.refl s _ _).toRec.trainFail step value⟩

/-- Block lock lost in training: it fails at the step in progress. -/
theorem exec_upstreamBlockLockLoss_training (hn : n < s.variant.bays)
    (hp : (s.bay n).link.phase = .echo ∨ (s.bay n).link.phase = .feId) :
    ∃ step value, exec (.upstreamBlockLockLoss n) s = .next ((s.zero (R.LINK_STAT.BLOCK_LOCK n)).trainFail n step value) := by
  have harm : exec (.upstreamBlockLockLoss n) s = execUpstreamBlockLockLoss n s := rfl
  have hbay : (s.zero (R.LINK_STAT.BLOCK_LOCK n)).bay n = s.bay n := rfl
  rw [harm, execUpstreamBlockLockLoss, State.onBay_of_present hn]
  obtain hp | hp := hp
  · exact ⟨4, (s.zero (R.LINK_STAT.BLOCK_LOCK n)).get (R.LINK_RTT.RTT n), by simp only [hbay, hp]⟩
  · exact ⟨5, 0, by simp only [hbay, hp]⟩

theorem does_upstreamBlockLockLoss_training (hn : n < s.variant.bays)
    (hp : (s.bay n).link.phase = .echo ∨ (s.bay n).link.phase = .feId) :
    Does (.upstreamBlockLockLoss n) s fun t => TrainingFailed n t ∧ LeavesRec s t [R.LINK_STAT.BLOCK_LOCK n] [n] := by
  obtain ⟨step, value, hexec⟩ := exec_upstreamBlockLockLoss_training hn hp
  rw [does_iff hexec]
  exact ⟨State.trainingFailed_trainFail _ n step value, ((Leaves.refl s _ _).zero (by simp)).toRec.trainFail step value⟩

theorem does_upstreamBlockLockLoss_up (hn : n < s.variant.bays) (hp : (s.bay n).link.phase = .up) :
    Does (.upstreamBlockLockLoss n) s fun t => t = s.zero (R.LINK_STAT.BLOCK_LOCK n) := by
  have harm : exec (.upstreamBlockLockLoss n) s = execUpstreamBlockLockLoss n s := rfl
  have hbay : (s.zero (R.LINK_STAT.BLOCK_LOCK n)).bay n = s.bay n := rfl
  refine ⟨_, ?_, rfl⟩
  rw [harm, execUpstreamBlockLockLoss, State.onBay_of_present hn]
  simp only [hbay, hp]

/-- A round trip above 280 ns: what the register kept before can only make it longer. -/
theorem exec_echoResponseReceive_slow (hn : n < s.variant.bays) {f : UpFrame} {ps : Nat} (hp : (s.bay n).link.phase = .echo)
    (hf : frameGood 0x08 f = true) (hps : 280000 < ps) :
    ∃ u value, exec (.echoResponseReceive n f ps) s = .next (State.trainFail u n 4 value) := by
  have harm : exec (.echoResponseReceive n f ps) s = execEchoResponseReceive n f ps s := rfl
  have hslow : 280000 < max ((s.takeFrame n 0x08 f).get (R.LINK_RTT.RTT n)) (min ps 0xFFFFF) := by omega
  rw [harm, execEchoResponseReceive, State.onBay_of_present hn]
  simp only [if_pos hp, if_pos hf, if_pos hslow]
  exact ⟨_, _, rfl⟩

theorem does_echoResponseReceive_slow (hn : n < s.variant.bays) (f : UpFrame) (ps : Nat) (hp : (s.bay n).link.phase = .echo)
    (hf : frameGood 0x08 f = true) (hps : 280000 < ps) : Does (.echoResponseReceive n f ps) s (TrainingFailed n) := by
  obtain ⟨u, value, hexec⟩ := exec_echoResponseReceive_slow hn hp hf hps
  rw [does_iff hexec]
  exact u.trainingFailed_trainFail n 4 value

/-- A front-end whose FE_ID has another part code. -/
theorem does_cfgRspReceive_badPart (hn : n < s.variant.bays) (f : UpFrame) (hp : (s.bay n).link.phase = .feId)
    (hc : (s.bay n).link.cfg = .feId) (hf : frameGood 0x07 f = true)
    (hpart : bitsAt ((f.data.getD 0 0).toNat) 16 32 / 2 ^ 16 ≠ 0x4B33) : Does (.cfgRspReceive n f) s (TrainingFailed n) := by
  have harm : exec (.cfgRspReceive n f) s = execCfgRspReceive n f s := rfl
  have hcfg : ((s.takeFrame n 0x07 f).bay n).link.cfg = .feId := by rw [State.bay_takeFrame_good hf]; exact hc
  have hexec : exec (.cfgRspReceive n f) s =
      .next ((s.takeFrame n 0x07 f).trainFail n 5 (bitsAt ((f.data.getD 0 0).toNat) 16 32)) := by
    rw [harm, execCfgRspReceive, State.onBay_of_present hn]
    simp only [if_pos (Or.inr hp), if_pos hf, hcfg, if_neg hpart]
  rw [does_iff hexec]
  exact State.trainingFailed_trainFail _ n 5 _

/-- Settles O8: each cause ends in the failure of R76, but for block lock lost with the link up. -/
theorem linkTrainingFailureHoldsReset : Obligations.LinkTrainingFailureHoldsReset := by
  unfold Obligations.LinkTrainingFailureHoldsReset
  intro n s hn
  exact ⟨does_trainTimeout hn, does_upstreamBlockLockLoss_training hn, does_upstreamBlockLockLoss_up hn,
    does_echoResponseReceive_slow hn, does_cfgRspReceive_badPart hn⟩

/-! ## Loss of the link (R85) -/

/-- The link is down and training stands at step 1: reset is low and no alert is remembered. -/
def TrainingStarted (n : Nat) (t : State) : Prop :=
  t.get (R.LINK_STAT.UP n) = 0 ∧ t.get (R.LINK_STAT.BLOCK_LOCK n) = 0 ∧ (t.bay n).link.rstHigh = false ∧
    (t.bay n).link.phase = .resetHold ∧ (t.bay n).link.alerts = 0

theorem State.trainingStarted_trainStart (s : State) (n : Nat) : TrainingStarted n (s.trainStart n) :=
  ⟨State.get_zero_of_get_eq_zero (s.get_zero_same _) _, State.get_zero_same _ _, by simp [State.trainStart], by simp [State.trainStart],
    by simp [State.trainStart]⟩

/-- Whatever else a loss ends, training starts last. -/
theorem State.trainingStarted_linkLoss (hup : s.on (R.LINK_STAT.UP n) = true) (cause : Nat) : TrainingStarted n (s.linkLoss n cause) := by
  unfold State.linkLoss
  rw [hup]
  exact State.trainingStarted_trainStart _ n

theorem State.linkLoss_of_down (hdown : s.on (R.LINK_STAT.UP n) = false) (cause : Nat) : s.linkLoss n cause = s := by
  simp [State.linkLoss, hdown]

theorem exec_linkLossSyncErrors (hn : n < s.variant.bays) : exec (.linkLossSyncErrors n) s = .next (s.linkLoss n 1) := by
  have harm : exec (.linkLossSyncErrors n) s = execLinkLossSyncErrors n s := rfl
  rw [harm, execLinkLossSyncErrors, State.onBay_of_present hn]

theorem exec_linkLossStatusTimeout (hn : n < s.variant.bays) : exec (.linkLossStatusTimeout n) s = .next (s.linkLoss n 2) := by
  have harm : exec (.linkLossStatusTimeout n) s = execLinkLossStatusTimeout n s := rfl
  rw [harm, execLinkLossStatusTimeout, State.onBay_of_present hn]

/-- Settles O9: a link that is up is lost by either cause, and one that is down stays as it is. -/
theorem linkLossRestartsTraining : Obligations.LinkLossRestartsTraining := by
  unfold Obligations.LinkLossRestartsTraining
  intro n s hn
  dsimp only
  rw [does_iff (exec_linkLossSyncErrors hn), does_iff (exec_linkLossStatusTimeout hn), does_iff (exec_linkLossSyncErrors hn),
    does_iff (exec_linkLossStatusTimeout hn)]
  exact ⟨fun hup => State.trainingStarted_linkLoss hup 1, fun hup => State.trainingStarted_linkLoss hup 2,
    fun hdown => State.linkLoss_of_down hdown 1, fun hdown => State.linkLoss_of_down hdown 2⟩

end Sys2Proof.Machine
end

section
/-!
PROOF. A drain that leaves its bay powered: the last clause of the statement about resets and withdrawals speaks of every state, also of
one whose Caddy names a requester that R463 does not have.
-/

namespace Sys2Proof.Machine

/-- Bay 0 drains, its domain `ON` and no disc mounted, and holds the buffer of tag 0, which is charged to requester 0x3EFB00.  Requester
IDs end at 255 (R463), but nothing bounds those of a state, and the `CADDY_HELD` of this one lies where bay 0's `STATE` does. -/
def strayHolding : State :=
  (({ State.reset with caddy := { held := [(0, ⟨[0], 0x3EFB00, 0⟩)] } } : State).put (R.STATE.STATE 0) BS.DRAINING).put
    (R.PWR_STAT.STATE 0) 2

/-- Releasing the bay's buffer shows a charge of 0 in the place of the bay's state, so the drain's end finds a bay that does not drain
and leaves its domain `ON`. -/
theorem exec_drainTimeout_strayHolding :
    ∃ t, exec (.drainTimeout 0) strayHolding = .next t ∧ t.bayState 0 = BS.ABSENT ∧ t.get (R.PWR_STAT.STATE 0) = 2 :=
  ⟨_, rfl, by decide +kernel, by decide +kernel⟩

/-- Refutes O10: in `strayHolding` the drain time ends with no disc mounted and no gate run, and the bay's domain stays `ON`. -/
theorem not_bayHostResetAndWithdrawal : ¬ Obligations.BayHostResetAndWithdrawal := by
  unfold Obligations.BayHostResetAndWithdrawal
  intro h
  have hdraining : strayHolding.bayState 0 = BS.DRAINING := by decide +kernel
  obtain ⟨-, -, -, hdrain⟩ := h 0 strayHolding (by decide)
  obtain ⟨t, hexec, hoff, -⟩ := hdrain hdraining rfl rfl
  obtain ⟨u, hu, -, hon⟩ := exec_drainTimeout_strayHolding
  have htu : t = u := Host.Outcome.next.inj (hexec.symm.trans hu)
  rw [htu, hon] at hoff
  exact absurd hoff (by decide)

end Sys2Proof.Machine
end

section
/-!
PROOF. Front-end access (R81), STATUS and ALERT frames (R68, R80, R84), and laser-off (R82).
-/

namespace Sys2Proof.Machine

variable {s : State} {n : Nat}

/-! ## Front-end access (R81) -/

/-- The state with the host's access sent and running. -/
def State.accessSent (s : State) (n : Nat) : State :=
  ((s.raise (R.FE_ACC.GO n)).onLink n fun l => { l with cfg := .hostAccess }).sendCfg n false (s.get (R.FE_ACC.ADDR n))
    (s.get (R.FE_DATA.DATA n))

theorem exec_feAccessGo_up (hn : n < s.variant.bays) (hgo : s.on (R.FE_ACC.GO n) = false) (hup : s.on (R.LINK_STAT.UP n) = true)
    (hread : s.on (R.FE_ACC.WRITE n) = false) : exec (.feAccessGo n) s = .next (s.accessSent n) := by
  have harm : exec (.feAccessGo n) s = execFeAccessGo n s := rfl
  rw [harm, execFeAccessGo, State.onBay_of_present hn]
  simp [hgo, hup, hread, State.accessSent]

theorem does_feAccessGo_up (hn : n < s.variant.bays) (hgo : s.on (R.FE_ACC.GO n) = false) (hup : s.on (R.LINK_STAT.UP n) = true)
    (hread : s.on (R.FE_ACC.WRITE n) = false) :
    Does (.feAccessGo n) s fun t => t.get (R.FE_ACC.GO n) = 1 ∧ (t.bay n).link.cfg = .hostAccess ∧
      Leaves s t [R.FE_ACC.GO n] [n] := by
  rw [does_iff (exec_feAccessGo_up hn hgo hup hread)]
  refine ⟨by simp [State.accessSent, State.sendCfg, R.FE_ACC.GO], by simp [State.accessSent, State.sendCfg], ?_⟩
  exact (((Leaves.refl s _ _).raise (by simp)).onLink (by simp) _).send (by simp) ..

theorem does_feAccessGo_down (hn : n < s.variant.bays) (hgo : s.on (R.FE_ACC.GO n) = false) (hdown : s.on (R.LINK_STAT.UP n) = false) :
    Does (.feAccessGo n) s fun t => t = s.raise (R.FE_ACC.ERR n) := by
  have harm : exec (.feAccessGo n) s = execFeAccessGo n s := rfl
  refine ⟨_, ?_, rfl⟩
  rw [harm, execFeAccessGo, State.onBay_of_present hn]
  simp [hgo, hdown]

/-- The state with the host's access answered. -/
def State.accessAnswered (s : State) (n : Nat) (f : UpFrame) : State :=
  (((s.takeFrame n 0x07 f).put (R.FE_DATA.DATA n) (bitsAt ((f.data.getD 0 0).toNat) 16 32)).zero (R.FE_ACC.GO n)).onLink n fun l =>
    { l with cfg := .none }

theorem exec_cfgRspReceive_access (hn : n < s.variant.bays) {f : UpFrame} (hp : (s.bay n).link.phase = .up)
    (hc : (s.bay n).link.cfg = .hostAccess) (hf : frameGood 0x07 f = true) :
    exec (.cfgRspReceive n f) s = .next (s.accessAnswered n f) := by
  have harm : exec (.cfgRspReceive n f) s = execCfgRspReceive n f s := rfl
  have hcfg : ((s.takeFrame n 0x07 f).bay n).link.cfg = .hostAccess := by rw [State.bay_takeFrame_good hf]; exact hc
  rw [harm, execCfgRspReceive, State.onBay_of_present hn]
  simp only [if_pos (Or.inl hp), if_pos hf, hcfg, State.accessAnswered]

theorem does_cfgRspReceive_access (hn : n < s.variant.bays) (f : UpFrame) (hp : (s.bay n).link.phase = .up)
    (hc : (s.bay n).link.cfg = .hostAccess) (hf : frameGood 0x07 f = true) :
    Does (.cfgRspReceive n f) s fun t =>
      t.get (R.FE_DATA.DATA n) = bitsAt ((f.data.getD 0 0).toNat) 16 32 ∧ t.get (R.FE_ACC.GO n) = 0 ∧ (t.bay n).link.cfg = .none ∧
      Leaves s t [R.FE_DATA.DATA n, R.FE_ACC.GO n, R.LINK_ERR.SEQ_GAP n] [n] := by
  have hkey : (R.FE_DATA.DATA n).key ≠ (R.FE_ACC.GO n).key := by simp only [R.FE_DATA.DATA, R.FE_ACC.GO]; omega
  rw [does_iff (exec_cfgRspReceive_access hn hp hc hf)]
  refine ⟨?_, State.get_zero_same _ _, by simp [State.accessAnswered], ?_⟩
  · rw [State.accessAnswered, State.get_onLink, State.zero, State.get_put_other _ _ _ _ hkey, State.get_put_same, R.FE_DATA.DATA,
      bitsAt, Nat.mod_mod]
  · exact ((((Leaves.refl s _ _).takeFrame hf (by simp) (by simp)).put (by simp) _).zero (by simp)).onLink (by simp) _

/-- The state with the host's access given up. -/
def State.accessFailed (s : State) (n : Nat) : State :=
  ((s.zero (R.FE_ACC.GO n)).raise (R.FE_ACC.ERR n)).onLink n fun l => { l with cfg := .none }

theorem exec_feAccessTimeout (hn : n < s.variant.bays) (hgo : s.on (R.FE_ACC.GO n) = true) :
    exec (.feAccessTimeout n) s = .next (s.accessFailed n) := by
  have harm : exec (.feAccessTimeout n) s = execFeAccessTimeout n s := rfl
  rw [harm, execFeAccessTimeout, State.onBay_of_present hn, if_pos hgo, State.accessFailed]

theorem does_feAccessTimeout (hn : n < s.variant.bays) (hgo : s.on (R.FE_ACC.GO n) = true) :
    Does (.feAccessTimeout n) s fun t => t.get (R.FE_ACC.GO n) = 0 ∧ t.get (R.FE_ACC.ERR n) = 1 ∧ (t.bay n).link.cfg = .none ∧
      Leaves s t [R.FE_ACC.GO n, R.FE_ACC.ERR n] [n] := by
  have hkey : (R.FE_ACC.GO n).key ≠ (R.FE_ACC.ERR n).key := by simp only [R.FE_ACC.GO, R.FE_ACC.ERR]; omega
  rw [does_iff (exec_feAccessTimeout hn hgo)]
  refine ⟨?_, by simp [State.accessFailed, R.FE_ACC.ERR], by simp [State.accessFailed], ?_⟩
  · exact (State.get_put_other _ _ _ _ hkey).trans (s.get_zero_same _)
  · exact (((Leaves.refl s _ _).zero (by simp)).raise (by simp)).onLink (by simp) _

/-! ## STATUS frames (R68, R80) -/

/-- The state with a STATUS frame's temperature and laser-off latch taken. -/
def State.statusTaken (s : State) (n : Nat) (f : UpFrame) : State :=
  (((((s.takeFrame n 0x05 f).raise (R.FE_TEMP.VALID n)).onCal n fun c => { c with temps := (toInt 16 (UpFrame16 f 0) :: c.temps).take 16 }).put
    (R.FE_TEMP.TEMP n) (UpFrame16 f 0)).put (R.LINK_STAT.LOFF n) (UpFrame16 f 3 % 2)).onLink n fun l =>
      { l with alerts := UpFrame16 f 2 % 4096 }

theorem UpFrame16_lt (f : UpFrame) (i : Nat) : UpFrame16 f i < 2 ^ 16 := Nat.mod_lt _ (by decide)

theorem exec_statusFrameReceive (hn : n < s.variant.bays) {f : UpFrame} (hup : s.on (R.LINK_STAT.UP n) = true)
    (hf : frameGood 0x05 f = true) (hread : (s.bay n).link.alertRead = false) :
    exec (.statusFrameReceive n f) s = .next (s.statusTaken n f) := by
  have harm : exec (.statusFrameReceive n f) s = execStatusFrameReceive n f s := rfl
  have hbay : ((s.takeFrame n 0x05 f).bay n).link.alertRead = false := by rw [State.bay_takeFrame_good hf]; exact hread
  rw [harm, execStatusFrameReceive, State.onBay_of_present hn, if_pos hup]
  simp [hf, hbay, State.onCal, State.raise, State.statusTaken]

theorem does_statusFrameReceive (hn : n < s.variant.bays) (f : UpFrame) (hup : s.on (R.LINK_STAT.UP n) = true)
    (hf : frameGood 0x05 f = true) (hread : (s.bay n).link.alertRead = false) :
    Does (.statusFrameReceive n f) s fun t =>
      t.get (R.FE_TEMP.VALID n) = 1 ∧ t.get (R.FE_TEMP.TEMP n) = UpFrame16 f 0 ∧ t.get (R.LINK_STAT.LOFF n) = UpFrame16 f 3 % 2 ∧
      (t.bay n).link.alerts = UpFrame16 f 2 % 4096 ∧
      Leaves s t [R.FE_TEMP.VALID n, R.FE_TEMP.TEMP n, R.LINK_STAT.LOFF n, R.LINK_ERR.SEQ_GAP n] [n] := by
  have hvt : (R.FE_TEMP.VALID n).key ≠ (R.FE_TEMP.TEMP n).key := by simp only [R.FE_TEMP.VALID, R.FE_TEMP.TEMP]; omega
  have hvl : (R.FE_TEMP.VALID n).key ≠ (R.LINK_STAT.LOFF n).key := by simp only [R.FE_TEMP.VALID, R.LINK_STAT.LOFF]; omega
  have htl : (R.FE_TEMP.TEMP n).key ≠ (R.LINK_STAT.LOFF n).key := by simp only [R.FE_TEMP.TEMP, R.LINK_STAT.LOFF]; omega
  rw [does_iff (exec_statusFrameReceive hn hup hf hread), State.statusTaken]
  refine ⟨?_, ?_, ?_, by simp, ?_⟩
  · rw [State.get_onLink, State.get_put_other _ _ _ _ hvl, State.get_put_other _ _ _ _ hvt, State.onCal, State.get_setBay,
      State.get_raise_same, R.FE_TEMP.VALID, Nat.pow_one]
  · rw [State.get_onLink, State.get_put_other _ _ _ _ htl, State.get_put_same, R.FE_TEMP.TEMP, Nat.mod_eq_of_lt (UpFrame16_lt f 0)]
  · rw [State.get_onLink, State.get_put_same, R.LINK_STAT.LOFF, Nat.pow_one, Nat.mod_mod]
  · exact ((((((Leaves.refl s _ _).takeFrame hf (by simp) (by simp)).raise (by simp)).setBay (by simp) _).put (by simp) _).put
      (by simp) _).onLink (by simp) _

/-- A temperature that has not been renewed is no longer valid. -/
theorem does_feTempValidExpire (hn : n < s.variant.bays) : Does (.feTempValidExpire n) s fun t => t = s.zero (R.FE_TEMP.VALID n) := by
  have harm : exec (.feTempValidExpire n) s = execFeTempValidExpire n s := rfl
  refine ⟨_, ?_, rfl⟩
  rw [harm, execFeTempValidExpire, State.onBay_of_present hn]

/-! ## Alerts (R84) -/

/-- DS_CRC_BURST. -/
def crcBurst : Nat := 0x400

/-- The state with DS_CRC_BURST joined to the alerts shown and remembered, and recorded. -/
def State.crcBurstTaken (s : State) (n : Nat) : State :=
  ((s.put (R.FE_ALERT.ALERT n) (s.get (R.FE_ALERT.ALERT n) ||| crcBurst)).onLink n fun l =>
    { l with alerts := (s.bay n).link.alerts ||| crcBurst }).recordCls 0 n 0x0203 n [crcBurst, (s.bay n).link.alerts ||| crcBurst]

/-- DS_CRC_BURST alone stops nothing: no laser is off, no gate run ends, and the bay does not go to `FAULT`. -/
theorem State.takeAlert_crcBurst (s : State) (n : Nat) : s.takeAlert n crcBurst = s.crcBurstTaken n := by
  have hbits : bitAt crcBurst 0 = false ∧ bitAt crcBurst 1 = false ∧ bitAt crcBurst 2 = false ∧ bitAt crcBurst 3 = false ∧
      bitAt crcBurst 7 = false ∧ bitAt crcBurst 9 = false ∧ faultAlerts.any (bitAt crcBurst) = false := by decide
  obtain ⟨h0, h1, h2, h3, h7, h9, hfault⟩ := hbits
  simp [State.takeAlert, State.crcBurstTaken, h0, h1, h2, h3, h7, h9, hfault, b2n]

theorem Field.recorder_alert (n : Nat) : (R.FE_ALERT.ALERT n).recorder = false := by
  have hledger : ¬ (R.FE_ALERT.ALERT n).key < 32 * 0xD0000 := by simp only [R.FE_ALERT.ALERT]; omega
  have hpending : ¬ (R.FE_ALERT.ALERT n).key < 32 * 0x40000 := by simp only [R.FE_ALERT.ALERT]; omega
  have hsealed : (R.FE_ALERT.ALERT n).key ≠ R.LUG_CTL.SEALED.key := by simp only [R.FE_ALERT.ALERT, R.LUG_CTL.SEALED]; omega
  simp [Field.recorder, hledger, hpending, hsealed]

theorem exec_alertFrameReceive_crcBurst (hn : n < s.variant.bays) {f : UpFrame} (hup : s.on (R.LINK_STAT.UP n) = true)
    (hf : frameGood 0x06 f = true) (hbits : f.arg % 4096 = crcBurst) :
    exec (.alertFrameReceive n f) s = .next ((s.takeFrame n 0x06 f).crcBurstTaken n) := by
  have harm : exec (.alertFrameReceive n f) s = execAlertFrameReceive n f s := rfl
  rw [harm, execAlertFrameReceive, State.onBay_of_present hn, if_pos hup]
  simp only [if_pos hf, hbits, State.takeAlert_crcBurst]

theorem does_alertFrameReceive_crcBurst (hn : n < s.variant.bays) (f : UpFrame) (hup : s.on (R.LINK_STAT.UP n) = true)
    (hf : frameGood 0x06 f = true) (hbits : f.arg % 4096 = crcBurst) :
    Does (.alertFrameReceive n f) s fun t =>
      t.get (R.FE_ALERT.ALERT n) = (s.get (R.FE_ALERT.ALERT n) ||| crcBurst) % 2 ^ (R.FE_ALERT.ALERT n).width ∧
      (t.bay n).link.alerts = ((s.bay n).link.alerts ||| crcBurst) ∧
      LeavesRec s t [R.FE_ALERT.ALERT n, R.LINK_ERR.SEQ_GAP n] [n] := by
  have hkey : (R.FE_ALERT.ALERT n).key ≠ (R.LINK_ERR.SEQ_GAP n).key := by simp only [R.FE_ALERT.ALERT, R.LINK_ERR.SEQ_GAP]; omega
  rw [does_iff (exec_alertFrameReceive_crcBurst hn hup hf hbits), State.crcBurstTaken]
  refine ⟨?_, ?_, ?_⟩
  · rw [State.get_recordCls _ _ _ _ _ _ _ (Field.recorder_alert n), State.get_onLink,
      State.get_put_same, State.get_takeFrame_good hf hkey]
  · rw [State.bay_recordCls, State.bay_onLink_same, State.bay_takeFrame_good hf]
  · exact ((((Leaves.refl s _ _).takeFrame hf (by simp) (by simp)).put (by simp) _).onLink (by simp) _).toRec.records
      (records_recordCls (Records.refl _))

theorem does_alertPinTimeout (hn : n < s.variant.bays) (hup : s.on (R.LINK_STAT.UP n) = true) :
    Does (.alertPinTimeout n) s fun t => (t.bay n).link.alertRead = true ∧ Leaves s t [] [n] := by
  have harm : exec (.alertPinTimeout n) s = execAlertPinTimeout n s := rfl
  have hexec : exec (.alertPinTimeout n) s = .next (s.onLink n fun l => { l with alertRead := true }) := by
    rw [harm, execAlertPinTimeout, State.onBay_of_present hn, if_pos hup]
  rw [does_iff hexec]
  exact ⟨by simp, (Leaves.refl s _ _).onLink (by simp) _⟩

/-! ## Laser-off (R82) -/

/-- A LOFF block is no request on the PCI Express link, so each leaves at once. -/
theorem State.length_out_foldl_loff (l : List Nat) (s : State) :
    (l.foldl (fun s m => s.emit (.loff m)) s).out.length = s.out.length + l.length := by
  induction l generalizing s with
  | nil => rfl
  | cons m l ih =>
    have hout : (s.emit (.loff m)).out = .loff m :: s.out := rfl
    rw [List.foldl_cons, ih, hout, List.length_cons, List.length_cons]
    omega

theorem Leaves.foldl_loff (l : List Nat) {t : State} (h : Leaves s t [] []) :
    Leaves s (l.foldl (fun s m => s.emit (.loff m)) t) [] [] := by
  induction l generalizing t with
  | nil => exact h
  | cons m l ih => exact ih (h.emit _)

theorem does_loffRepeat (hcause : s.on R.CURFEW_CAUSE.CAUSE = true) :
    Does .loffRepeat s fun t => t.out.length = s.out.length + s.variant.bays ∧ Leaves s t [] [] := by
  have harm : exec .loffRepeat s = execLoffRepeat s := rfl
  have hexec : exec .loffRepeat s = .next s.loffAll := by rw [harm, execLoffRepeat, if_pos hcause]
  rw [does_iff hexec, State.loffAll]
  exact ⟨by rw [State.length_out_foldl_loff, List.length_range], (Leaves.refl s _ _).foldl_loff _⟩

/-- Settles O11: each clause is one command of the Bay Link on a link as its hypotheses give it, its effect and its frame. -/
theorem frontEndAccessAndStatus : Obligations.FrontEndAccessAndStatus := by
  unfold Obligations.FrontEndAccessAndStatus
  intro n s hn
  exact ⟨does_feAccessGo_up hn, does_feAccessGo_down hn, does_cfgRspReceive_access hn, does_feAccessTimeout hn,
    does_statusFrameReceive hn, does_alertFrameReceive_crcBurst hn, does_alertPinTimeout hn, does_feTempValidExpire hn, does_loffRepeat⟩

end Sys2Proof.Machine
end

section
/-!
SUPPORT. The bits of a register field, a range of registers returned to reset, and what the servo engine's operations leave of a bay
(R114, R119, R122, R124).
-/

namespace Sys2Proof.Machine

/-! ## Bits of a field -/

theorem bitAt_eq_testBit (v i : Nat) : bitAt v i = v.testBit i := by
  rw [bitAt, Nat.testBit_eq_decide_div_mod_eq]
  rfl

@[simp] theorem bitAt_zero (i : Nat) : bitAt 0 i = false := by simp [bitAt_eq_testBit]

/-- Around bit `i`, a number is the bits above, the bit, and the bits below; `setBit` exchanges the bit. -/
theorem setBit_eq (v i : Nat) (b : Bool) : setBit v i b = 2 ^ i * (2 * (v / 2 ^ i / 2) + b2n b) + v % 2 ^ i := by
  have hbit : b2n (bitAt v i) = v / 2 ^ i % 2 := by
    rcases Nat.mod_two_eq_zero_or_one (v / 2 ^ i) with h | h <;> simp [bitAt, h, b2n]
  have hsplit : v = 2 ^ i * (2 * (v / 2 ^ i / 2)) + v / 2 ^ i % 2 * 2 ^ i + v % 2 ^ i := by
    calc v = 2 ^ i * (v / 2 ^ i) + v % 2 ^ i := (Nat.div_add_mod v (2 ^ i)).symm
      _ = 2 ^ i * (2 * (v / 2 ^ i / 2) + v / 2 ^ i % 2) + v % 2 ^ i := by rw [Nat.div_add_mod (v / 2 ^ i) 2]
      _ = _ := by rw [Nat.mul_add, Nat.mul_comm (2 ^ i) (v / 2 ^ i % 2)]
  rw [setBit, hbit, Nat.mul_add, Nat.mul_comm (2 ^ i) (b2n b)]
  omega

theorem bitAt_setBit (v i j : Nat) (b : Bool) : bitAt (setBit v i b) j = if j = i then b else bitAt v j := by
  have hlow : v % 2 ^ i < 2 ^ i := Nat.mod_lt _ (Nat.two_pow_pos i)
  simp only [bitAt_eq_testBit, setBit_eq, Nat.testBit_two_pow_mul_add _ hlow, Nat.testBit_mod_two_pow]
  rcases Nat.lt_trichotomy j i with h | rfl | h
  · rw [if_pos h, if_neg (Nat.ne_of_lt h), decide_eq_true h, Bool.true_and]
  · cases b <;> simp [b2n, Nat.testBit_zero, Nat.add_mod]
  · obtain ⟨d, rfl⟩ : ∃ d, j = i + (d + 1) := ⟨j - i - 1, by omega⟩
    have habove : (2 * (v / 2 ^ i / 2) + b2n b) / 2 = v / 2 ^ i / 2 := by
      cases b
      · simp [b2n]
      · simp only [b2n, if_true]
        omega
    have hv : v.testBit (i + (d + 1)) = (v / 2 ^ i / 2).testBit d := by
      rw [← Nat.testBit_succ, Nat.testBit_div_two_pow, Nat.add_comm]
    rw [if_neg (by omega), if_neg (by omega), hv, Nat.add_sub_cancel_left, Nat.testBit_succ, habove]

section
variable (s : State)

theorem State.bitOf_setBitOf {f : Field} (i : Nat) (b : Bool) {j : Nat} (hj : j < f.width) :
    (s.setBitOf f i b).bitOf f j = if j = i then b else s.bitOf f j := by
  rw [State.bitOf, State.bitOf, ← bitAt_setBit, State.setBitOf, State.get_put_same, bitAt_eq_testBit, bitAt_eq_testBit,
    Nat.testBit_mod_two_pow]
  simp [hj]

theorem State.bitOf_setBitOf_false {f : Field} (i : Nat) {j : Nat} (hj : j < f.width) :
    (s.setBitOf f i false).bitOf f j = (j != i && s.bitOf f j) := by
  rw [s.bitOf_setBitOf i false hj]
  by_cases hji : j = i <;> simp [hji]

variable {s} in
/-- To clear a bit that is clear changes no bit. -/
theorem State.bitOf_of_clear {f : Field} {i : Nat} (h : s.bitOf f i = false) (j : Nat) :
    s.bitOf f j = (j != i && s.bitOf f j) := by
  by_cases hji : j = i <;> simp [hji, h]

/-- A field whose bits are all clear reads 0. -/
theorem State.get_eq_zero_of_bitOf {f : Field} (h : ∀ j < f.width, s.bitOf f j = false) : s.get f = 0 := by
  refine Nat.eq_of_testBit_eq fun j => ?_
  rw [Nat.zero_testBit]
  by_cases hj : j < f.width
  · rw [← bitAt_eq_testBit]
    exact h j hj
  · exact Nat.testBit_lt_two_pow (Nat.lt_of_lt_of_le (s.get_lt f) (Nat.pow_le_pow_right Nat.two_pos (by omega)))

end

/-- Steps that each clear one bit of a field and leave its others alone clear the field, when every bit has its step. -/
theorem State.get_foldl_clear {f : Field} {step : State → Nat → State}
    (hstep : ∀ s k j, j < f.width → (step s k).bitOf f j = (j != k && s.bitOf f j)) {l : List Nat} (hl : ∀ j < f.width, j ∈ l)
    (s : State) : (l.foldl step s).get f = 0 := by
  have hbits : ∀ (l : List Nat) (s : State) (j : Nat), j < f.width → (j ∈ l ∨ s.bitOf f j = false) →
      (l.foldl step s).bitOf f j = false := by
    intro l
    induction l with
    | nil => intro s j _ h; simpa using h
    | cons k l ih =>
      intro s j hj h
      refine ih (step s k) j hj ?_
      rw [hstep s k j hj]
      rcases h with h | h
      · rcases List.mem_cons.mp h with rfl | h
        · simp
        · exact .inl h
      · simp [h]
  exact State.get_eq_zero_of_bitOf _ fun j hj => hbits l s j hj (.inl (hl j hj))

/-! ## Registers returned to reset -/

theorem Sparse.get_clear_of_mem {α : Type} (d : α) (m : Sparse α) {lo hi k : Nat} (hlo : lo ≤ k) (hhi : k < hi) :
    Sparse.get d (Sparse.clear m lo hi) k = d := by
  induction m with
  | nil => rfl
  | cons e r ih =>
    obtain ⟨j, u⟩ := e
    unfold Sparse.clear at ih ⊢
    rw [List.filter_cons]
    split
    · next hj =>
      have hne : j ≠ k := by rintro rfl; simp at hj; omega
      rw [Sparse.get, if_neg hne, ih]
    · exact ih

theorem State.get_resetRegs_of_mem (s : State) {lo hi : Nat} {f : Field} (hlo : 32 * lo ≤ f.key) (hhi : f.key < 32 * hi) :
    (s.resetRegs lo hi).get f = f.reset % 2 ^ f.width := by
  rw [State.get, State.resetRegs, Sparse.get_clear_of_mem _ _ hlo hhi]

/-- The recorder writes no register of a bay's block. -/
theorem Field.recorder_of_bayBlock {f : Field} (h : 32 * 0x1000000 ≤ f.key) : f.recorder = false := by
  have hsealed : R.LUG_CTL.SEALED.key < 32 * 0x1000000 := by decide
  have hledger : ¬ f.key < 32 * 0xD0000 := by omega
  have hpending : ¬ f.key < 32 * 0x40000 := by omega
  have hne : f.key ≠ R.LUG_CTL.SEALED.key := by omega
  simp [Field.recorder, hledger, hpending, hne]

/-! ## The servo part of a bay -/

section
variable (s : State) (n : Nat)

@[simp] theorem State.get_onServo (f : Servo → Servo) (g : Field) : (s.onServo n f).get g = s.get g := rfl

@[simp] theorem State.bay_onServo_same (f : Servo → Servo) : (s.onServo n f).bay n = { s.bay n with servo := f (s.bay n).servo } :=
  State.bay_setBay_same ..

@[simp] theorem State.loop_setLoop_same (k : Nat) (l : LoopState) : (s.setLoop n k l).loop n k = l := by
  simp [State.loop, State.setLoop, Sparse.get_put_same]

/-- Sending a frame leaves all but the link of the bay alone. -/
@[simp] theorem State.servo_send (typ arg : Nat) (data : List (BitVec 64)) : ((s.send n typ arg data).bay n).servo = (s.bay n).servo := by
  unfold State.send
  dsimp only
  split
  · rfl
  · simp

@[simp] theorem State.get_infuseStop (k cause : Nat) (g : Field) : (s.infuseStop n k cause).get g = s.get g := by
  unfold State.infuseStop
  split
  · split <;> rfl
  · rfl

/-- Where no Infusion runs there is none to stop. -/
theorem State.infuseStop_of_none {s : State} {n : Nat} (h : (s.bay n).servo.infuse = none) (k cause : Nat) :
    s.infuseStop n k cause = s := by
  simp [State.infuseStop, h]

/-! ## Enables and modes (R119) -/

/-- Clearing EN of one loop. -/
theorem State.bitOf_setEn_false (k : Nat) {j : Nat} (hj : j < 8) :
    (s.setEn n k false).bitOf (R.SRV_CTL.EN n) j = (j != k && s.bitOf (R.SRV_CTL.EN n) j) := by
  unfold State.setEn
  split
  · next hclear => exact State.bitOf_of_clear hclear j
  · rw [if_neg (by simp), ← s.bitOf_setBitOf_false k (f := R.SRV_CTL.EN n) hj, State.bitOf, State.get_infuseStop]
    rfl

/-- Clearing AUTO of one loop; the output it may copy into `SRV_MAN` lies in another register. -/
theorem State.bitOf_setAuto_false (k : Nat) {j : Nat} (hj : j < 8) :
    (s.setAuto n k false).bitOf (R.SRV_CTL.AUTO n) j = (j != k && s.bitOf (R.SRV_CTL.AUTO n) j) := by
  have hman : (R.SRV_CTL.AUTO n).key ≠ (R.SRV_MAN.Q n k).key := by simp only [R.SRV_CTL.AUTO, R.SRV_MAN.Q]; omega
  unfold State.setAuto
  split
  · next hclear => exact State.bitOf_of_clear hclear j
  · rw [if_neg (by simp), ← s.bitOf_setBitOf_false k (f := R.SRV_CTL.AUTO n) hj]
    split <;> simp [State.bitOf, State.putS, State.get_put_other _ _ _ _ hman]

end

end Sys2Proof.Machine
end

section
/-!
SUPPORT. One update of a loop of the servo engine: what it leaves of the samples that wait and of the trace, and its output in manual
(R117, R119, R121, R122, R126).
-/

namespace Sys2Proof.Machine

/-! ## Number formats (R112) -/

/-- A 32-bit value is in range for Q0.31. -/
theorem satQ31_toInt (v : Nat) : satQ31 (toInt 32 v) = toInt 32 v := by
  have hlt : v % 2 ^ 32 < 2 ^ 32 := Nat.mod_lt _ (by decide)
  have hlow : -(2 ^ 31) ≤ toInt 32 v := by unfold toInt; split <;> omega
  have hhigh : toInt 32 v ≤ 2 ^ 31 - 1 := by unfold toInt; split <;> omega
  rw [satQ31, clampInt, if_neg (by omega), if_neg (by omega)]

/-! ## What an update leaves -/

/-- `t` has the samples of bay `n` that wait, and its capture running or not, as `s` does. -/
structure SameQueue (n : Nat) (s t : State) : Prop where
  queue   : (t.bay n).servo.queue = (s.bay n).servo.queue
  capture : t.get (R.TRC_STAT.ACTIVE n) = s.get (R.TRC_STAT.ACTIVE n)

theorem SameQueue.refl (n : Nat) (s : State) : SameQueue n s s := ⟨rfl, rfl⟩

theorem SameQueue.ite {n : Nat} {s t u : State} {c : Prop} [Decidable c] (h : SameQueue n s t) (k : SameQueue n s u) :
    SameQueue n s (if c then t else u) := by
  split
  · exact h
  · exact k

section
variable {n : Nat} {s t : State} (h : SameQueue n s t)
include h

theorem SameQueue.put {f : Field} (hf : (R.TRC_STAT.ACTIVE n).key ≠ f.key) (v : Nat) : SameQueue n s (t.put f v) :=
  ⟨h.queue, (State.get_put_other _ _ _ _ hf).trans h.capture⟩

theorem SameQueue.onServo {f : Servo → Servo} (hf : (f (t.bay n).servo).queue = (t.bay n).servo.queue) : SameQueue n s (t.onServo n f) :=
  ⟨by rw [State.bay_onServo_same]; exact hf.trans h.queue, h.capture⟩

theorem SameQueue.setLoop (k : Nat) (l : LoopState) : SameQueue n s (t.setLoop n k l) :=
  h.onServo (f := fun v => { v with loops := Sparse.put v.loops k l }) rfl

theorem SameQueue.send (typ arg : Nat) (data : List (BitVec 64)) : SameQueue n s (t.send n typ arg data) :=
  ⟨by rw [State.servo_send]; exact h.queue, by rw [State.get_send]; exact h.capture⟩

theorem SameQueue.recordBay (b code : Nat) (detail : List Nat) : SameQueue n s (t.recordBay b code detail) :=
  ⟨by rw [State.bay_recordBay]; exact h.queue,
    by rw [State.get_recordBay _ _ _ _ _ (Field.recorder_of_bayBlock (by simp only [R.TRC_STAT.ACTIVE]; omega))]; exact h.capture⟩

theorem SameQueue.learnTable (w : Nat) (e : Int) : SameQueue n s (t.learnTable n w e).1 := by
  refine h.put ?_ _
  simp only [R.TRC_STAT.ACTIVE, R.REP.DATA]
  omega

theorem SameQueue.nodeFlags (k flags : Nat) : SameQueue n s (t.nodeFlags n k flags) := by
  have hput := h.put (f := R.SRV_NODE_SAT.FLAGS n) (by simp only [R.TRC_STAT.ACTIVE, R.SRV_NODE_SAT.FLAGS]; omega)
  unfold State.nodeFlags
  dsimp only
  split
  · exact h
  · split
    · exact (hput _).recordBay ..
    · exact hput _

theorem SameQueue.loopOutput (k : Nat) (u : Int) : SameQueue n s (t.loopOutput n k u) := by
  have hloop := h.setLoop k { t.loop n k with lastU := u }
  unfold State.loopOutput
  dsimp only
  split
  · have hsent := hloop.send 0x12 0
    split
    · exact (hsent _).onServo rfl
    · exact hsent _
  · exact hloop

end

/-- The output handed on is the one a loop keeps. -/
theorem State.lastU_loopOutput (s : State) (n k : Nat) (u : Int) : ((s.loopOutput n k u).loop n k).lastU = u := by
  have hloop := s.loop_setLoop_same n k { s.loop n k with lastU := u }
  have hkeep : ((s.loopOutput n k u).bay n).servo.loops = ((s.setLoop n k { s.loop n k with lastU := u }).bay n).servo.loops := by
    unfold State.loopOutput
    dsimp only
    split
    · split <;> simp [State.sendAct]
    · rfl
  rw [State.loop, hkeep]
  exact congrArg LoopState.lastU hloop

/-- With no capture running there is nothing to record. -/
theorem State.trcRecord_of_inactive {s : State} {n : Nat} (h : s.get (R.TRC_STAT.ACTIVE n) = 0) (k : Nat) (m : Nodes)
    (start missed stepped : Bool) : s.trcRecord n k m start missed stepped = s := by
  simp [State.trcRecord, State.on, h]

/-! ## An update in manual -/

/-- With the defect flag low no hold starts; the update of slot 0 notes that the flag is low. -/
theorem State.defectStart_of_low {s : State} {n : Nat} (hflag : (s.bay n).servo.defFlag = false) (k : Nat) :
    s.defectStart n k = (if k = 0 then s.onServo n fun v => { v with defLow := true } else s, false) := by
  simp only [State.defectStart, hflag, Bool.and_false, Bool.false_and, Bool.false_eq_true, if_false, Bool.not_false, and_true]
  split <;> rfl

theorem State.defectStart_quiet {s : State} {n k : Nat} (hflag : (s.bay n).servo.defFlag = false)
    (hinf : (s.bay n).servo.infuse = none) : ∃ t, s.defectStart n k = (t, false) ∧ t.regs = s.regs ∧ (t.bay n).servo.infuse = none ∧
      SameQueue n s t := by
  rw [State.defectStart_of_low hflag]
  refine ⟨_, rfl, ?_⟩
  split
  · exact ⟨rfl, by simpa using hinf, (SameQueue.refl n s).onServo rfl⟩
  · exact ⟨rfl, hinf, SameQueue.refl n s⟩

/-- An update of a loop in manual on a measured sample hands on the manual output within the record's limits, in a state that has
the queue and the capture as they were. -/
theorem State.updateLoop_manual {s : State} {n k : Nat} {x : Sample} {inp : Int} (hx : x.input = some inp)
    (hinf : (s.bay n).servo.infuse = none) (hflag : (s.bay n).servo.defFlag = false)
    (hauto : s.bitOf (R.SRV_CTL.AUTO n) k = false) (hhold : s.on (R.SRV_STAT.DEF_HOLD n) = false)
    (htrc : s.on (R.TRC_STAT.ACTIVE n) = false) :
    ∃ t, SameQueue n s t ∧ s.updateLoop n k x =
      t.loopOutput n k (clampInt (recInt (s.activeRec n k) 116) (recInt (s.activeRec n k) 112) (s.getS (R.SRV_MAN.Q n k))) := by
  obtain ⟨s0, hstart, hregs, hinf0, hs0⟩ := State.defectStart_quiet (k := k) hflag hinf
  have hget : ∀ f, s0.get f = s.get f := fun f => by rw [State.get, hregs]; rfl
  have hheld : s0.defectHeld n k = false := by
    have : s0.on (R.SRV_STAT.DEF_HOLD n) = false := by rw [State.on, hget]; exact hhold
    simp [State.defectHeld, this]
  unfold State.updateLoop
  extract_lets +onlyGivenNames r
  rw [hstart]
  dsimp -zeta only
  extract_lets +onlyGivenNames auto l large sf man rr running
  have hauto0 : auto = false := by rw [← hauto]; simp only [auto, State.bitOf, hget]
  have hman : man = s.getS (R.SRV_MAN.Q n k) := by simp only [man, State.getS, hget]
  have hnone : running = none := by simp [running, hinf0]
  clear_value auto man running
  subst hauto0 hman hnone
  dsimp -zeta only
  simp -zeta only [hheld, hx, Bool.false_eq_true, if_false, Bool.false_and]
  -- Of the nodes of R117 only those that the output in manual is formed from get a name.
  extract_lets inj _ atV _ e _ _ _ _ _ _ _ _ _ _ _ _ lo hi want u _ m s2 s3 s4 flags s6 s7 s8
  have hu : u = clampInt (recInt r 116) (recInt r 112) (s.getS (R.SRV_MAN.Q n k)) := by
    have hwant : want = s.getS (R.SRV_MAN.Q n k) := by
      simp only [want, atV, inj, ite_self, Int.add_zero]
      exact satQ31_toInt _
    rw [← hwant]
  have hs2 : SameQueue n s s2 := (hs0.put (by simp only [R.TRC_STAT.ACTIVE, R.SRV_STAT.HELD]; omega) _).setLoop k _
  have hs3 : SameQueue n s s3 := .ite (hs2.put (by simp only [R.TRC_STAT.ACTIVE, R.SRV_STAT.OUT_SAT]; omega) _) hs2
  have hs4 : SameQueue n s s4 := hs3
  have hlearn (c : Bool) : SameQueue n s (if c then s4.learnTable n x.wedge e else (s4, false)).1 := by
    split
    · exact hs4.learnTable x.wedge e
    · exact hs4
  have hs6 : SameQueue n s s6 := .ite ((hlearn _).nodeFlags k flags) (hlearn _)
  have hoff : s8.get (R.TRC_STAT.ACTIVE n) = 0 := by
    rw [(hs6.loopOutput k u).capture]
    simpa [State.on] using htrc
  exact ⟨s6, hs6, (State.trcRecord_of_inactive hoff ..).trans (congrArg (s6.loopOutput n k) hu)⟩

end Sys2Proof.Machine
end

section
/-!
PROOF. Commits of loop records (R114), the host's writes of enables, modes and manual outputs (R115, R119), updates of one sample (R111,
R117), the repetitive table's clearing (R122) and the end of a defect hold (R124).
-/

namespace Sys2Proof.Machine

variable {s : State} {n : Nat}

/-! ## Commits (R114) -/

/-- A mask of one bit asks for one slot. -/
theorem filter_bitAt_two_pow : ∀ k < 8, ((List.range 8).filter fun j => bitAt (2 ^ k) j) = [k] := by decide

theorem exec_loopCommit (hn : n < s.variant.bays) {k : Nat} (hk : k < 8) : exec (.loopCommit n (2 ^ k)) s = .next (s.commitCheck n k) := by
  have harm : exec (.loopCommit n (2 ^ k)) s = execLoopCommit n (2 ^ k) s := rfl
  rw [harm, execLoopCommit, State.onBay_of_present hn, ← List.foldl_filter, filter_bitAt_two_pow k hk, List.foldl_cons, List.foldl_nil]

theorem does_loopCommit (hn : n < s.variant.bays) (k : Nat) (hk : k < 8) (hrec : recFailure (s.shadowRec n k) = 0) :
    Does (.loopCommit n (2 ^ k)) s fun t => t.bitOf (R.SRV_CTL.COMMIT n) k = true ∧ Leaves s t [R.SRV_CTL.COMMIT n] [] := by
  have hpass : s.commitCheck n k = s.setBitOf (R.SRV_CTL.COMMIT n) k true := by simp [State.commitCheck, hrec]
  rw [does_iff (exec_loopCommit hn hk), hpass]
  exact ⟨by rw [s.bitOf_setBitOf k true hk, if_pos rfl], (Leaves.refl s _ _).put (by simp) _⟩

/-- The state after the copy of slot `k`'s record. -/
def State.recordCopied (s : State) (n k : Nat) : State :=
  ((s.onServo n fun v => { v with active := v.active.put k (s.shadowRec n k) }).setBitOf (R.SRV_CTL.COMMIT n) k false).setBitOf
    (R.SRV_STAT.REC_VALID n) k true

theorem exec_loopCommitApply (hn : n < s.variant.bays) {k : Nat} (hk : k < 8) (hc : s.bitOf (R.SRV_CTL.COMMIT n) k = true)
    (hinf : (s.bay n).servo.infuse = none) : exec (.loopCommitApply n k) s = .next (s.recordCopied n k) := by
  have harm : exec (.loopCommitApply n k) s = execLoopCommitApply n k s := rfl
  have hidle : ((s.recordCopied n k).bay n).servo.infuse = none := by
    simpa [State.recordCopied, State.setBitOf] using hinf
  rw [harm, execLoopCommitApply, State.onBay_of_present hn, if_pos ⟨hk, hc⟩]
  exact congrArg Host.Outcome.next (State.infuseStop_of_none hidle k 3)

theorem does_loopCommitApply (hn : n < s.variant.bays) (k : Nat) (hk : k < 8) (hc : s.bitOf (R.SRV_CTL.COMMIT n) k = true)
    (hinf : (s.bay n).servo.infuse = none) :
    Does (.loopCommitApply n k) s fun t => t.bitOf (R.SRV_CTL.COMMIT n) k = false ∧ t.bitOf (R.SRV_STAT.REC_VALID n) k = true ∧
      Sparse.get [] (t.bay n).servo.active k = s.shadowRec n k ∧ Leaves s t [R.SRV_CTL.COMMIT n, R.SRV_STAT.REC_VALID n] [n] := by
  have hkey : (R.SRV_CTL.COMMIT n).key ≠ (R.SRV_STAT.REC_VALID n).key := by simp only [R.SRV_CTL.COMMIT, R.SRV_STAT.REC_VALID]; omega
  rw [does_iff (exec_loopCommitApply hn hk hc hinf), State.recordCopied]
  refine ⟨?_, ?_, ?_, ?_⟩
  · rw [State.bitOf, State.setBitOf, State.get_put_other _ _ _ _ hkey]
    exact (State.bitOf_setBitOf _ k false hk).trans (if_pos rfl)
  · rw [State.bitOf_setBitOf _ k true hk, if_pos rfl]
  · simp [State.setBitOf, Sparse.get_put_same]
  · exact (((Leaves.refl s _ _).setBay (by simp) _).put (by simp) _).put (by simp) _

/-! ## Writes of the host (R115, R119) -/

theorem exec_srvEnWrite (hn : n < s.variant.bays) (mask : Nat) : exec (.srvEnWrite n mask) s = .next
    (if s.loopWriteAllowed n then (List.range 8).foldl (fun s k => s.hostEn n k (bitAt mask k)) s else s.raise (R.SRV_STAT.EN_REJ n)) := by
  have harm : exec (.srvEnWrite n mask) s = execSrvEnWrite n mask s := rfl
  rw [harm, execSrvEnWrite, State.onBay_of_present hn]

theorem exec_srvAutoWrite (hn : n < s.variant.bays) (mask : Nat) : exec (.srvAutoWrite n mask) s = .next
    (if s.loopWriteAllowed n then (List.range 8).foldl (fun s k => s.setAuto n k (bitAt mask k)) s else s.raise (R.SRV_STAT.EN_REJ n)) := by
  have harm : exec (.srvAutoWrite n mask) s = execSrvAutoWrite n mask s := rfl
  rw [harm, execSrvAutoWrite, State.onBay_of_present hn]

theorem exec_srvManWrite (hn : n < s.variant.bays) (k v : Nat) : exec (.srvManWrite n k v) s = .next
    (if s.loopWriteAllowed n then (if k < 8 then s.put (R.SRV_MAN.Q n k) v else s) else s.raise (R.SRV_STAT.EN_REJ n)) := by
  have harm : exec (.srvManWrite n k v) s = execSrvManWrite n k v s := rfl
  rw [harm, execSrvManWrite, State.onBay_of_present hn]

/-- To clear EN no loop needs a valid record. -/
theorem State.hostEn_false (s : State) (n k : Nat) : s.hostEn n k false = s.setEn n k false := by simp [State.hostEn]

theorem does_srvEnWrite_zero (hn : n < s.variant.bays) (ha : s.loopWriteAllowed n = true) :
    Does (.srvEnWrite n 0) s fun t => t.get (R.SRV_CTL.EN n) = 0 := by
  rw [does_iff (exec_srvEnWrite hn 0), if_pos ha]
  refine State.get_foldl_clear (fun u k j hj => ?_) (fun j hj => List.mem_range.mpr hj) s
  rw [bitAt_zero, State.hostEn_false, u.bitOf_setEn_false n k hj]

theorem does_srvAutoWrite_zero (hn : n < s.variant.bays) (ha : s.loopWriteAllowed n = true) :
    Does (.srvAutoWrite n 0) s fun t => t.get (R.SRV_CTL.AUTO n) = 0 := by
  rw [does_iff (exec_srvAutoWrite hn 0), if_pos ha]
  refine State.get_foldl_clear (fun u k j hj => ?_) (fun j hj => List.mem_range.mpr hj) s
  rw [bitAt_zero, u.bitOf_setAuto_false n k hj]

theorem does_srvManWrite (hn : n < s.variant.bays) (k v : Nat) (ha : s.loopWriteAllowed n = true) (hk : k < 8) :
    Does (.srvManWrite n k v) s fun t => t = s.put (R.SRV_MAN.Q n k) v := by
  rw [does_iff (exec_srvManWrite hn k v), if_pos ha, if_pos hk]

theorem does_srvEnWrite_refused (hn : n < s.variant.bays) (mask : Nat) (ha : s.loopWriteAllowed n = false) :
    Does (.srvEnWrite n mask) s fun t => t = s.raise (R.SRV_STAT.EN_REJ n) := by
  rw [does_iff (exec_srvEnWrite hn mask), if_neg (by simp [ha])]

theorem does_srvAutoWrite_refused (hn : n < s.variant.bays) (mask : Nat) (ha : s.loopWriteAllowed n = false) :
    Does (.srvAutoWrite n mask) s fun t => t = s.raise (R.SRV_STAT.EN_REJ n) := by
  rw [does_iff (exec_srvAutoWrite hn mask), if_neg (by simp [ha])]

theorem does_srvManWrite_refused (hn : n < s.variant.bays) (k v : Nat) (ha : s.loopWriteAllowed n = false) :
    Does (.srvManWrite n k v) s fun t => t = s.raise (R.SRV_STAT.EN_REJ n) := by
  rw [does_iff (exec_srvManWrite hn k v), if_neg (by simp [ha])]

/-! ## Samples (R111, R117) -/

/-- The bay with no sample waiting in any slot. -/
def State.queueEmptied (s : State) (n : Nat) : State := s.onServo n fun v => { v with queue := [] }

/-- The only sample that waits is taken from the queue, and updates its loop if that is enabled. -/
theorem exec_servoUpdate_single (hn : n < s.variant.bays) {k : Nat} {x : Sample} (hq : (s.bay n).servo.queue = [(k, [x])]) :
    exec (.servoUpdate n k) s =
      .next (if s.bitOf (R.SRV_CTL.EN n) k then (s.queueEmptied n).updateLoop n k x else s.queueEmptied n) := by
  have harm : exec (.servoUpdate n k) s = execServoUpdate n k s := rfl
  have hsample : Sparse.get [] (s.bay n).servo.queue k = [x] := by simp [hq, Sparse.get]
  have htaken : (s.onServo n fun v => { v with queue := v.queue.erase k }) = s.queueEmptied n := by
    simp [State.queueEmptied, State.onServo, hq, Sparse.erase]
  rw [harm, execServoUpdate, State.onBay_of_present hn]
  simp only [hsample, if_true, htaken]
  rfl

theorem does_servoUpdate_manual (hn : n < s.variant.bays) (k : Nat) (x : Sample) (hq : (s.bay n).servo.queue = [(k, [x])])
    (hx : x.input.isSome = true) (hinf : (s.bay n).servo.infuse = none) (hflag : (s.bay n).servo.defFlag = false)
    (hen : s.bitOf (R.SRV_CTL.EN n) k = true) (hauto : s.bitOf (R.SRV_CTL.AUTO n) k = false)
    (hhold : s.on (R.SRV_STAT.DEF_HOLD n) = false) (htrc : s.on (R.TRC_STAT.ACTIVE n) = false) :
    Does (.servoUpdate n k) s fun t => (t.loop n k).lastU =
        clampInt (recInt (s.activeRec n k) 116) (recInt (s.activeRec n k) 112) (s.getS (R.SRV_MAN.Q n k)) ∧
      (t.bay n).servo.queue = [] := by
  obtain ⟨inp, hinp⟩ := Option.isSome_iff_exists.mp hx
  have hbay : (s.queueEmptied n).bay n = { s.bay n with servo := { (s.bay n).servo with queue := [] } } := s.bay_onServo_same ..
  have hrec : (s.queueEmptied n).activeRec n k = s.activeRec n k := by rw [State.activeRec, hbay, State.activeRec]
  obtain ⟨t, ht, hupdate⟩ := State.updateLoop_manual (s := s.queueEmptied n) hinp (by rw [hbay]; exact hinf) (by rw [hbay]; exact hflag)
    hauto hhold htrc
  have hsame := ht.loopOutput k (clampInt (recInt (s.activeRec n k) 116) (recInt (s.activeRec n k) 112) (s.getS (R.SRV_MAN.Q n k)))
  rw [does_iff (exec_servoUpdate_single hn hq), if_pos hen, hupdate, hrec]
  exact ⟨State.lastU_loopOutput .., hsame.queue.trans (by rw [hbay])⟩

theorem does_servoUpdate_disabled (hn : n < s.variant.bays) (k : Nat) (x : Sample) (hq : (s.bay n).servo.queue = [(k, [x])])
    (hen : s.bitOf (R.SRV_CTL.EN n) k = false) :
    Does (.servoUpdate n k) s fun t => (t.bay n).servo.queue = [] ∧ Leaves s t [] [n] := by
  rw [does_iff (exec_servoUpdate_single hn hq), if_neg (by simp [hen])]
  exact ⟨by simp [State.queueEmptied], (Leaves.refl s _ _).setBay (by simp) _⟩

/-! ## The repetitive table and the defect hold (R122, R124) -/

theorem does_repTableClear (hn : n < s.variant.bays) :
    Does (.repTableClear n) s fun t => (∀ k ∈ List.range 1024, t.get (R.REP.DATA n k) = 0) ∧ t.get (R.SRV_REP_CTL.CLEAR n) = 0 := by
  have harm : exec (.repTableClear n) s = execRepTableClear n s := rfl
  have hexec : exec (.repTableClear n) s = .next (s.clearTable n) := by rw [harm, execRepTableClear, State.onBay_of_present hn]
  rw [does_iff hexec]
  refine ⟨fun k hk => State.get_zero_of_get_eq_zero ?_ _, State.get_zero_same _ _⟩
  have hlt : k < 1024 := List.mem_range.mp hk
  rw [State.get_resetRegs_of_mem]
  · rfl
  · simp only [bayBase, R.REP.DATA]; omega
  · simp only [bayBase, R.REP.DATA]; omega

theorem does_defectHoldOverrun (hn : n < s.variant.bays) (hhold : s.on (R.SRV_STAT.DEF_HOLD n) = true) :
    Does (.defectHoldOverrun n) s fun t => t.get (R.SRV_STAT.DEF_HOLD n) = 0 ∧ t.get (R.SRV_STAT.DEF_OVR n) = 1 ∧
      (t.bay n).intr = true ∧ LeavesRec s t [R.SRV_STAT.DEF_HOLD n, R.SRV_STAT.DEF_OVR n] [n] := by
  have harm : exec (.defectHoldOverrun n) s = execDefectHoldOverrun n s := rfl
  have hkey : (R.SRV_STAT.DEF_HOLD n).key ≠ (R.SRV_STAT.DEF_OVR n).key := by simp only [R.SRV_STAT.DEF_HOLD, R.SRV_STAT.DEF_OVR]; omega
  have hexec : exec (.defectHoldOverrun n) s = .next ((((s.zero (R.SRV_STAT.DEF_HOLD n)).raise (R.SRV_STAT.DEF_OVR n)).attend n).recordBay n
      0x0401 [(s.bay n).servo.defRise, s.get (R.ANG_STAT.LAYER n), 0]) := by
    rw [harm, execDefectHoldOverrun, State.onBay_of_present hn, if_pos hhold]
  rw [does_iff hexec]
  refine ⟨?_, ?_, ?_, ?_⟩
  · rw [State.get_recordBay _ _ _ _ _ (Field.recorder_of_bayBlock (by simp only [R.SRV_STAT.DEF_HOLD]; omega)), State.attend,
      State.get_setBay, State.raise, State.get_put_other _ _ _ _ hkey, State.get_zero_same]
  · rw [State.get_recordBay _ _ _ _ _ (Field.recorder_of_bayBlock (by simp only [R.SRV_STAT.DEF_OVR]; omega)), State.attend,
      State.get_setBay, State.get_raise_same]
    rfl
  · simp [State.attend]
  · have hflags : Leaves s ((s.zero (R.SRV_STAT.DEF_HOLD n)).raise (R.SRV_STAT.DEF_OVR n))
        [R.SRV_STAT.DEF_HOLD n, R.SRV_STAT.DEF_OVR n] [n] :=
      ((Leaves.refl s _ _).zero (by simp)).raise (by simp)
    exact (hflags.setBay (by simp) _).toRec.records (records_recordBay (Records.refl _))

/-- Settles O17: each clause is one command of the servo engine, its effect and its frame. -/
theorem servoEngineCommands : Obligations.ServoEngineCommands := by
  unfold Obligations.ServoEngineCommands
  intro n s hn
  exact ⟨does_loopCommit hn, does_loopCommitApply hn, does_srvEnWrite_zero hn, does_srvAutoWrite_zero hn, does_srvManWrite hn,
    does_srvEnWrite_refused hn, does_srvAutoWrite_refused hn, does_srvManWrite_refused hn,
    fun k x hq hx hinf hflag _ => does_servoUpdate_manual hn k x hq hx hinf hflag,
    does_servoUpdate_disabled hn, does_repTableClear hn, does_defectHoldOverrun hn⟩

end Sys2Proof.Machine
end

section
/-!
SUPPORT. The focus part of a bay: what a change of it leaves, and the operations of the loops, the steppers and the bay's state that leave
the focus part and the bay's state as they are (R24, R119, R207 to R213).
-/

namespace Sys2Proof.Machine

/-! ## Numbers -/

/-- A two's complement representation has no more bits than its width. -/
theorem ofInt_mod (w : Nat) (x : Int) : ofInt w x % 2 ^ w = ofInt w x := by
  refine Nat.mod_eq_of_lt ?_
  have hpos : (0 : Int) < ((2 ^ w : Nat) : Int) := by exact_mod_cast Nat.two_pow_pos w
  have hnonneg := Int.emod_nonneg x (Int.ne_of_gt hpos)
  have hlt := Int.emod_lt_of_pos x hpos
  unfold ofInt
  omega

/-- To take away the bits inside a mask halves with the number and the mask. -/
theorem sub_and_div_two (v m : Nat) : (v - (v &&& m)) / 2 = v / 2 - (v / 2 &&& m / 2) := by
  have hhalf : (v &&& m) / 2 = v / 2 &&& m / 2 := Nat.and_div_two
  have hbit : (v &&& m) % 2 = 1 ↔ v % 2 = 1 ∧ m % 2 = 1 := Nat.and_mod_two_eq_one
  have hle : v &&& m ≤ v := Nat.and_le_left
  omega

/-- The bits of a number outside a mask. -/
theorem bitAt_sub_and (v m i : Nat) : bitAt (v - (v &&& m)) i = (bitAt v i && !bitAt m i) := by
  simp only [bitAt_eq_testBit]
  induction i generalizing v m with
  | zero =>
    have hbit : (v &&& m) % 2 = 1 ↔ v % 2 = 1 ∧ m % 2 = 1 := Nat.and_mod_two_eq_one
    have hle : v &&& m ≤ v := Nat.and_le_left
    have hodd : (v - (v &&& m)) % 2 = 1 ↔ v % 2 = 1 ∧ ¬ m % 2 = 1 := by omega
    rw [Nat.testBit_zero, Nat.testBit_zero, Nat.testBit_zero, ← decide_not, ← Bool.decide_and]
    exact decide_eq_decide.mpr hodd
  | succ i ih => rw [Nat.testBit_succ, Nat.testBit_succ, Nat.testBit_succ, sub_and_div_two, ih]

/-! ## A change of the focus part -/

section
variable (s : State) (n : Nat)

@[simp] theorem State.get_onFocus (f : Focus → Focus) (g : Field) : (s.onFocus n f).get g = s.get g := rfl

@[simp] theorem State.bay_onFocus_same (f : Focus → Focus) : (s.onFocus n f).bay n = { s.bay n with focus := f (s.bay n).focus } :=
  State.bay_setBay_same ..

@[simp] theorem State.acting_onFocus (f : Focus → Focus) (g : Field) (lo hi : Nat) : (s.onFocus n f).acting g lo hi = s.acting g lo hi :=
  rfl

theorem Leaves.onFocus {s t : State} {fs : List Field} {bs : List Nat} (h : Leaves s t fs bs) {n : Nat} (hn : n ∈ bs)
    (f : Focus → Focus) : Leaves s (t.onFocus n f) fs bs :=
  h.setBay hn _

/-- The manual output of a loop reads back as the bits of what was written. -/
@[simp] theorem State.get_setMan_same (k : Nat) (v : Int) : (s.setMan n k v).get (R.SRV_MAN.Q n k) = ofInt 32 v :=
  (State.get_put_same ..).trans (ofInt_mod 32 v)

@[simp] theorem State.bay_setMan (k : Nat) (v : Int) (m : Nat) : (s.setMan n k v).bay m = s.bay m := rfl

theorem Leaves.setMan {s t : State} {fs : List Field} {bs : List Nat} (h : Leaves s t fs bs) {n k : Nat} (hk : R.SRV_MAN.Q n k ∈ fs)
    (v : Int) : Leaves s (t.setMan n k v) fs bs :=
  h.put hk _

/-- A present bay is in the state that its register shows (R24). -/
theorem State.bayState_of_present {s : State} {n : Nat} (h : n < s.variant.bays) : s.bayState n = s.get (R.STATE.STATE n) := by
  simp [State.bayState, State.bayPresent, h]

end

/-! ## What leaves the focus part and the bay's state -/

/-- `t` has the focus part of bay `n`, and the bay's state, as `s` does. -/
structure SameFocus (n : Nat) (s t : State) : Prop where
  focus : (t.bay n).focus = (s.bay n).focus
  state : t.get (R.STATE.STATE n) = s.get (R.STATE.STATE n)

theorem SameFocus.refl (n : Nat) (s : State) : SameFocus n s s := ⟨rfl, rfl⟩

section
variable {n : Nat} {s t : State} (h : SameFocus n s t)
include h

theorem SameFocus.ite {u : State} {c : Prop} [Decidable c] (k : SameFocus n s u) : SameFocus n s (if c then t else u) := by
  split
  · exact h
  · exact k

/-- Every register of the bay but the one at the start of its block may be written. -/
theorem SameFocus.put {f : Field} (hf : (R.STATE.STATE n).key < f.key) (v : Nat) : SameFocus n s (t.put f v) :=
  ⟨h.focus, (State.get_put_other _ _ _ _ (Nat.ne_of_lt hf)).trans h.state⟩

theorem SameFocus.setBay {b : Bay} (hb : b.focus = (t.bay n).focus) : SameFocus n s (t.setBay n b) :=
  ⟨by rw [State.bay_setBay_same]; exact hb.trans h.focus, h.state⟩

theorem SameFocus.records {u : State} (k : Records t u) : SameFocus n s u :=
  ⟨by rw [← h.focus, State.bay, State.bay, k.bays],
    (k.get _ (Field.recorder_of_bayBlock (by simp only [R.STATE.STATE]; omega))).trans h.state⟩

theorem SameFocus.send (typ arg : Nat) (data : List (BitVec 64)) : SameFocus n s (t.send n typ arg data) := by
  unfold State.send
  dsimp only
  split
  · exact h
  · refine (SameFocus.setBay h ?_).records (records_emit (Records.refl _))
    rfl

theorem SameFocus.infuseStop (k cause : Nat) : SameFocus n s (t.infuseStop n k cause) := by
  unfold State.infuseStop
  split
  · refine SameFocus.ite (h.setBay ?_) h
    rfl
  · exact h

theorem SameFocus.setMan (k : Nat) (v : Int) : SameFocus n s (t.setMan n k v) :=
  h.put (by simp only [R.STATE.STATE, R.SRV_MAN.Q]; omega) _

theorem SameFocus.setLearn (b : Bool) : SameFocus n s (t.setLearn n b) :=
  h.put (by simp only [R.STATE.STATE, R.SRV_REP_CTL.LEARN]; omega) _

theorem SameFocus.setAuto (k : Nat) (b : Bool) : SameFocus n s (t.setAuto n k b) := by
  have hstopped : SameFocus n s ((t.setBitOf (R.SRV_CTL.AUTO n) k b).infuseStop n k 4) :=
    (h.put (by simp only [R.STATE.STATE, R.SRV_CTL.AUTO]; omega) _).infuseStop k 4
  unfold State.setAuto
  exact SameFocus.ite h (SameFocus.ite hstopped (SameFocus.ite (hstopped.setMan k _) hstopped))

/-! ### The SA lens (R207 to R213) -/

theorem SameFocus.setStepper (sa : Bool) (p : Stepper) : SameFocus n s (t.setStepper sa n p) :=
  h.setBay (by cases sa <;> rfl)

theorem SameFocus.putMode (sa : Bool) (m : Nat) : SameFocus n s (t.put (fMode sa n) m) :=
  h.put (by cases sa <;> simp [fMode, R.STATE.STATE, R.STEP_CTL.SA_MODE, R.STEP_CTL.SLED_MODE]; omega) m

theorem SameFocus.putGo (sa : Bool) (v : Nat) : SameFocus n s (t.put (fGo sa n) v) :=
  h.put (by cases sa <;> simp [fGo, R.STATE.STATE, R.SA_TGT.GO, R.SLED_TGT.GO] <;> omega) v

theorem SameFocus.putArrived (sa : Bool) (v : Nat) : SameFocus n s (t.put (fArrived sa n) v) :=
  h.put (by cases sa <;> simp [fArrived, R.STATE.STATE, R.STEP_STAT.SA_ARRIVED, R.STEP_STAT.SLED_ARRIVED] <;> omega) v

theorem SameFocus.stepFinal (sa : Bool) : SameFocus n s (t.stepFinal sa n) := by
  unfold State.stepFinal State.stepArrive
  exact SameFocus.ite ((((h.setStepper sa _).putArrived sa 1).putGo sa 0).putMode sa _) (h.setStepper sa _)

theorem SameFocus.stepPlan (sa : Bool) (target : Int) (vmax : Nat) : SameFocus n s (t.stepPlan sa n target vmax) := by
  unfold State.stepPlan
  exact SameFocus.ite (((h.setStepper sa _).setStepper sa _).stepFinal sa) (h.setStepper sa _)

theorem SameFocus.stepRequest_move (sa : Bool) (target : Int) : SameFocus n s (t.stepRequest sa n (.move target)) := by
  unfold State.stepRequest State.stepBegin
  exact SameFocus.ite (h.setStepper sa _)
    (SameFocus.ite (h.setStepper sa _) (((h.setStepper sa _).putMode sa 2).stepPlan sa target _))

/-- A move of the SA lens. -/
theorem SameFocus.stepGo_sa (target : Int) : SameFocus n s (t.stepGo true n target) := by
  have hlim : SameFocus n s (t.raise (fLim true n)) :=
    h.put (by simp only [fLim, if_true, R.STATE.STATE, R.STEP_STAT.SA_LIM]; omega) 1
  have hgo {u : State} (hu : SameFocus n s u) (v : Nat) :
      SameFocus n s (((u.put (fPos true n) v).zero (fArrived true n)).raise (fGo true n)) :=
    ((hu.put (by simp only [fPos, if_true, R.STATE.STATE, R.SA_TGT.POS]; omega) v).putArrived true 0).putGo true 1
  have hclamped (detail : List Nat) : SameFocus n s ((t.raise (fLim true n)).recordBay n 0x0703 detail) :=
    hlim.records (records_recordBay (Records.refl _))
  unfold State.stepGo
  dsimp only
  rw [if_pos rfl]
  exact (((hgo (SameFocus.ite h (hclamped _)) _).setStepper true _).putMode true 2).stepRequest_move true _

theorem SameFocus.sendPower (lasers : Nat) (rearm : Bool) : SameFocus n s (t.sendPower n lasers rearm) := by
  unfold State.sendPower
  refine SameFocus.send (h.setBay ?_) ..
  rfl

end

/-! ## A change of the bay's state -/

section
variable {s : State} {n : Nat}

theorem State.get_setBayState_same (hn : n < s.variant.bays) {new : Nat} (hnew : new < 2 ^ 8) (kind value : Nat) :
    (s.setBayState n new kind value).get (R.STATE.STATE n) = new := by
  have hrec : (R.STATE.STATE n).recorder = false := Field.recorder_of_bayBlock (by simp only [R.STATE.STATE]; omega)
  have hcount : (R.STATE.STATE n).key ≠ (R.STATE.CHG_COUNT n).key := by simp only [R.STATE.STATE, R.STATE.CHG_COUNT]; omega
  have hdraw : (R.STATE.STATE n).key ≠ (R.LINK_CTL.WITHDRAW n).key := by simp only [R.STATE.STATE, R.LINK_CTL.WITHDRAW]; omega
  have hput (u : State) (k : Nat) : ((u.put (R.STATE.STATE n) new).put (R.STATE.CHG_COUNT n) k).get (R.STATE.STATE n) = new := by
    rw [State.get_put_other _ _ _ _ hcount, State.get_put_same]
    exact Nat.mod_eq_of_lt hnew
  unfold State.setBayState
  dsimp only
  split
  · next hold => exact (State.bayState_of_present hn).symm.trans hold
  · rw [State.get_trace _ _ _ _ _ _ _ _ hrec, State.get_recordBay _ _ _ _ _ hrec]
    split <;> split <;> simp only [State.zero, State.attend, State.get_setBay, State.get_put_other _ _ _ _ hdraw, hput]

end

end Sys2Proof.Machine
end

section
/-!
PROOF. Focus acquisition (R151 to R153), and `RECOVERY` that takes too long (R163).
-/

namespace Sys2Proof.Machine

variable {s : State} {n : Nat}

/-! ## A failed attempt (R153) -/

/-- The state with an attempt failed in steps 6 and on, and the layer probed again. -/
def State.probeAgain (s : State) (n : Nat) : State :=
  ((s.onFocus n fun f => { f with fails := f.fails + 1, fail35 := 0, probing := false }).onFocus n fun f =>
    { f with acq := .probe }).beginProbe n

/-- With attempts left, a failure in step 6 or later goes back to the probe. -/
theorem State.acqFail_of_late {step : Nat} (hstep : 5 < step)
    (htries : (s.bay n).focus.fails + 1 < s.acting (R.FOC_ACQ.TRIES n) 1 8) : s.acqFail n step = s.probeAgain n := by
  have hlate : ¬ step ≤ 5 := by omega
  have hleft : ¬ s.acting (R.FOC_ACQ.TRIES n) 1 8 ≤ (s.bay n).focus.fails + 1 := by omega
  simp only [State.acqFail, State.acqFailFuel, if_neg hlate, State.acting_onFocus, if_neg hleft]
  rfl

theorem State.focus_probeAgain (s : State) (n : Nat) : ((s.probeAgain n).bay n).focus =
    { (s.bay n).focus with fails := (s.bay n).focus.fails + 1, fail35 := 0, acq := .probe, probing := true, probeN := 0 } := by
  simp [State.probeAgain, State.beginProbe]

theorem Leaves.probeAgain {t : State} {fs : List Field} {bs : List Nat} (h : Leaves s t fs bs) (hn : n ∈ bs) :
    Leaves s (t.probeAgain n) fs bs := by
  unfold State.probeAgain State.beginProbe
  exact ((h.onFocus hn _).onFocus hn _).onFocus hn _

/-! ## Sweep and capture (R151 steps 3 and 4) -/

/-- A ramp begins at its start, and counts no attempt. -/
theorem State.focus_beginRamp (s : State) (n : Nat) (stage : AcqStage) :
    ((s.beginRamp n stage).bay n).focus.acq = stage ∧ ((s.beginRamp n stage).bay n).focus.ramp = 0 ∧
      ((s.beginRamp n stage).bay n).focus.fails = (s.bay n).focus.fails ∧
      ((s.beginRamp n stage).bay n).focus.fail35 = (s.bay n).focus.fail35 := by
  have hauto : ((s.setAuto n 0 false).bay n).focus = (s.bay n).focus := ((SameFocus.refl n s).setAuto 0 false).focus
  simp only [State.beginRamp, State.bay_onFocus_same, State.bay_put, State.bay_setMan, hauto]
  split
  · exact ⟨rfl, rfl, rfl, rfl⟩
  · exact ⟨rfl, rfl, rfl, rfl⟩

theorem State.get_focus_beginRamp (s : State) (n : Nat) (stage : AcqStage) : (s.beginRamp n stage).get (R.FT_STAT.FOCUS n) = 1 := by
  simp [State.beginRamp, R.FT_STAT.FOCUS]

theorem Leaves.setAuto {t : State} {fs : List Field} {bs : List Nat} (h : Leaves s t fs bs) (hn : n ∈ bs) {k : Nat}
    (hauto : R.SRV_CTL.AUTO n ∈ fs) (hman : R.SRV_MAN.Q n k ∈ fs) (b : Bool) : Leaves s (t.setAuto n k b) fs bs := by
  have hstopped : Leaves s ((t.setBitOf (R.SRV_CTL.AUTO n) k b).infuseStop n k 4) fs bs := by
    have hset := h.put hauto (setBit (t.get (R.SRV_CTL.AUTO n)) k b)
    unfold State.infuseStop
    split
    · split
      · exact hset.setBay hn _
      · exact hset
    · exact hset
  unfold State.setAuto
  split
  · exact h
  · dsimp only
    split
    · exact hstopped
    · split
      · exact hstopped.put hman _
      · exact hstopped

/-- A ramp puts the focus loop in manual and drives it; it writes no other register. -/
theorem State.leaves_beginRamp (s : State) (n : Nat) (stage : AcqStage) :
    Leaves s (s.beginRamp n stage) [R.SRV_CTL.AUTO n, R.SRV_MAN.Q n 0, R.FT_STAT.FOCUS n] [n] := by
  unfold State.beginRamp
  exact ((((Leaves.refl s _ _).setAuto (by simp) (by simp) (by simp) false).setMan (by simp) _).put (by simp) 1).onFocus (by simp) _

theorem State.getS_beginRamp (stage : AcqStage) {g : Field} (hauto : g.key ≠ (R.SRV_CTL.AUTO n).key)
    (hman : g.key ≠ (R.SRV_MAN.Q n 0).key) (hfocus : g.key ≠ (R.FT_STAT.FOCUS n).key) : (s.beginRamp n stage).getS g = s.getS g := by
  rw [State.getS, (s.leaves_beginRamp n stage).regs g (by simp [hauto, hman, hfocus]), State.getS]

/-- The state with a first attempt failed in steps 3 to 5. -/
def State.earlyFailed (s : State) (n : Nat) : State :=
  s.onFocus n fun f => { f with fails := f.fails + 1, fail35 := 1, probing := false }

/-- With attempts left and a range to sweep, a first failure in steps 3 to 5 sweeps again. -/
theorem State.acqFail_of_early {step : Nat} (hstep : step ≤ 5)
    (htries : (s.bay n).focus.fails + 1 < s.acting (R.FOC_ACQ.TRIES n) 1 8) (hfirst : (s.bay n).focus.fail35 = 0)
    (hrange : s.getS (R.FOC_SRCH.SRCH_LO n) < s.getS (R.FOC_SRCH.SRCH_HI n)) :
    s.acqFail n step = (s.earlyFailed n).beginRamp n .sweep := by
  have hleft : ¬ (s.earlyFailed n).acting (R.FOC_ACQ.TRIES n) 1 8 ≤ (s.bay n).focus.fails + 1 := Nat.not_le_of_lt htries
  have hfailed : (s.onFocus n fun f => { f with fails := (s.bay n).focus.fails + 1, fail35 := 1, probing := false }) = s.earlyFailed n :=
    rfl
  have hlo : ((s.earlyFailed n).beginRamp n .sweep).getS (R.FOC_SRCH.SRCH_LO n) = s.getS (R.FOC_SRCH.SRCH_LO n) :=
    State.getS_beginRamp .sweep (by simp only [R.FOC_SRCH.SRCH_LO, R.SRV_CTL.AUTO]; omega)
      (by simp only [R.FOC_SRCH.SRCH_LO, R.SRV_MAN.Q]; omega) (by simp only [R.FOC_SRCH.SRCH_LO, R.FT_STAT.FOCUS]; omega)
  have hhi : ((s.earlyFailed n).beginRamp n .sweep).getS (R.FOC_SRCH.SRCH_HI n) = s.getS (R.FOC_SRCH.SRCH_HI n) :=
    State.getS_beginRamp .sweep (by simp only [R.FOC_SRCH.SRCH_HI, R.SRV_CTL.AUTO]; omega)
      (by simp only [R.FOC_SRCH.SRCH_HI, R.SRV_MAN.Q]; omega) (by simp only [R.FOC_SRCH.SRCH_HI, R.FT_STAT.FOCUS]; omega)
  have hsweep : ¬ ((s.earlyFailed n).beginRamp n .sweep).getS (R.FOC_SRCH.SRCH_HI n) ≤
      ((s.earlyFailed n).beginRamp n .sweep).getS (R.FOC_SRCH.SRCH_LO n) := by
    rw [hlo, hhi]
    omega
  have hrun : ¬ 2 ≤ 0 + 1 := by decide
  simp only [State.acqFail, State.acqFailFuel, if_pos hstep, hfirst, Nat.zero_add, hfailed, if_neg hleft, if_neg hrun,
    if_neg hsweep]

theorem does_focusSweepEnd_curve (hn : n < s.variant.bays) (hacq : (s.bay n).focus.acq = .sweep) (hcurves : 0 < (s.bay n).focus.curves) :
    Does (.focusSweepEnd n) s fun t => (t.bay n).focus.acq = .capture ∧ (t.bay n).focus.ramp = 0 ∧ t.get (R.FT_STAT.FOCUS n) = 1 := by
  have harm : exec (.focusSweepEnd n) s = execFocusSweepEnd n s := rfl
  have hexec : exec (.focusSweepEnd n) s = .next (s.beginRamp n .capture) := by
    rw [harm, execFocusSweepEnd, State.onBay_of_present hn]
    simp only [hacq, if_pos hcurves]
  obtain ⟨hstage, hramp, -, -⟩ := s.focus_beginRamp n .capture
  rw [does_iff hexec]
  exact ⟨hstage, hramp, s.get_focus_beginRamp n .capture⟩

theorem does_focusSweepEnd_uncaught (hn : n < s.variant.bays) (hacq : (s.bay n).focus.acq = .capture)
    (htries : (s.bay n).focus.fails + 1 < s.acting (R.FOC_ACQ.TRIES n) 1 8) (hfirst : (s.bay n).focus.fail35 = 0)
    (hrange : s.getS (R.FOC_SRCH.SRCH_LO n) < s.getS (R.FOC_SRCH.SRCH_HI n)) :
    Does (.focusSweepEnd n) s fun t => (t.bay n).focus.acq = .sweep ∧ (t.bay n).focus.fails = (s.bay n).focus.fails + 1 ∧
      (t.bay n).focus.fail35 = 1 := by
  have harm : exec (.focusSweepEnd n) s = execFocusSweepEnd n s := rfl
  have hexec : exec (.focusSweepEnd n) s = .next ((s.earlyFailed n).beginRamp n .sweep) := by
    rw [harm, execFocusSweepEnd, State.onBay_of_present hn]
    simp only [hacq, State.acqFail_of_early (by decide : 4 ≤ 5) htries hfirst hrange]
  obtain ⟨hstage, -, hfails, hrun⟩ := (s.earlyFailed n).focus_beginRamp n .sweep
  rw [does_iff hexec, hfails, hrun]
  exact ⟨hstage, by simp [State.earlyFailed], by simp [State.earlyFailed]⟩

/-! ## Settle, probe and tracking (R151 steps 5 to 7, R152) -/

theorem does_focusSettleEnd (hn : n < s.variant.bays) (hacq : (s.bay n).focus.acq = .settle) :
    Does (.focusSettleEnd n) s fun t => (t.bay n).focus.acq = .probe ∧ (t.bay n).focus.probing = true ∧ (t.bay n).focus.probeN = 0 ∧
      Leaves s t [] [n] := by
  have harm : exec (.focusSettleEnd n) s = execFocusSettleEnd n s := rfl
  have hexec : exec (.focusSettleEnd n) s = .next ((s.onFocus n fun f => { f with acq := .probe, fail35 := 0 }).beginProbe n) := by
    rw [harm, execFocusSettleEnd, State.onBay_of_present hn, if_pos hacq]
  rw [does_iff hexec, State.beginProbe]
  exact ⟨by simp, by simp, by simp, ((Leaves.refl s _ _).onFocus (by simp) _).onFocus (by simp) _⟩

theorem does_layerProbeFail (hn : n < s.variant.bays) (hprobing : (s.bay n).focus.probing = true) (hjump : (s.bay n).focus.jump = .off)
    (hacq : (s.bay n).focus.acq = .probe) (htries : (s.bay n).focus.fails + 1 < s.acting (R.FOC_ACQ.TRIES n) 1 8) :
    Does (.layerProbeFail n) s fun t => (t.bay n).focus.acq = .probe ∧ (t.bay n).focus.probing = true ∧
      (t.bay n).focus.fails = (s.bay n).focus.fails + 1 ∧ Leaves s t [] [n] := by
  have harm : exec (.layerProbeFail n) s = execLayerProbeFail n s := rfl
  have hnojump : ¬ (s.bay n).focus.jump = .probe := by simp [hjump]
  have hexec : exec (.layerProbeFail n) s = .next (s.probeAgain n) := by
    rw [harm, execLayerProbeFail, State.onBay_of_present hn]
    simp only [if_pos hprobing, if_neg hnojump, if_pos hacq, State.acqFail_of_late (by decide : 5 < 6) htries]
  rw [does_iff hexec, State.focus_probeAgain]
  exact ⟨rfl, rfl, rfl, (Leaves.refl s _ _).probeAgain (by simp)⟩

theorem does_trackingCloseTimeout (hn : n < s.variant.bays) (hacq : (s.bay n).focus.acq = .track) (hstate : s.bayState n = BS.FOCUSING)
    (htries : (s.bay n).focus.fails + 1 < s.acting (R.FOC_ACQ.TRIES n) 1 8) :
    Does (.trackingCloseTimeout n) s fun t => (t.bay n).focus.acq = .probe ∧ (t.bay n).focus.fails = (s.bay n).focus.fails + 1 ∧
      Leaves s t [] [n] := by
  have harm : exec (.trackingCloseTimeout n) s = execTrackingCloseTimeout n s := rfl
  have hexec : exec (.trackingCloseTimeout n) s = .next (s.probeAgain n) := by
    rw [harm, execTrackingCloseTimeout, State.onBay_of_present hn, if_pos ⟨.inl hacq, hstate⟩,
      State.acqFail_of_late (by decide : 5 < 7) htries]
  rw [does_iff hexec, State.focus_probeAgain]
  exact ⟨rfl, rfl, (Leaves.refl s _ _).probeAgain (by simp)⟩

/-! ## `RECOVERY` that takes too long (R163) -/

/-- The state with the lasers on and the SA move of step 2 to begin. -/
def State.lensAwaited (s : State) (n : Nat) : State :=
  ((s.sendPower n 7 (s.on (R.LINK_STAT.LOFF n))).zero (R.STEP_STAT.SA_ARRIVED n)).onFocus n fun f => { f with acq := .saMove }

/-- Step 1 of R151 changes the stage alone of what the focus chapter holds, and not the bay's state. -/
theorem State.acqStep1_keeps (s : State) (n : Nat) : (s.acqStep1 n).get (R.STATE.STATE n) = s.get (R.STATE.STATE n) ∧
    ∃ stage, ((s.acqStep1 n).bay n).focus = { (s.bay n).focus with acq := stage } := by
  have hlit : SameFocus n s ((s.sendPower n 7 (s.on (R.LINK_STAT.LOFF n))).zero (R.STEP_STAT.SA_ARRIVED n)) :=
    ((SameFocus.refl n s).sendPower 7 _).putArrived true 0
  have hgone (target : Int) : SameFocus n (s.lensAwaited n)
      (if (s.lensAwaited n).on (R.STEP_STAT.SA_HOMED n) then (s.lensAwaited n).stepGo true n target else s.lensAwaited n) :=
    SameFocus.ite ((SameFocus.refl n _).stepGo_sa target) (SameFocus.refl n _)
  unfold State.acqStep1
  split
  · refine ⟨(hgone _).state.trans hlit.state, .saMove, (hgone _).focus.trans ?_⟩
    rw [State.lensAwaited, State.bay_onFocus_same, hlit.focus]
  · exact ⟨rfl, .blocked, by rw [State.bay_onFocus_same]⟩

/-- The state with focus, tracking and tilt in manual, tracking and tilt at 0, and nothing learnt. -/
def State.loopsOpened (s : State) (n : Nat) : State :=
  ((((((s.setLearn n false).setAuto n 0 false).setAuto n 1 false).setAuto n 2 false).setMan n 1 0).setMan n 2 0).onServo n fun v =>
    { v with rampOff := none }

theorem State.sameFocus_loopsOpened (s : State) (n : Nat) : SameFocus n s (s.loopsOpened n) := by
  refine SameFocus.setBay ?_ rfl
  exact ((((((SameFocus.refl n s).setLearn false).setAuto 0 false).setAuto 1 false).setAuto 2 false).setMan 1 0).setMan 2 0

/-- The state in `FOCUSING` on a layer, with step 1 of R151 to come. -/
def State.focusingEntered (s : State) (n layer kind value : Nat) : State :=
  (((s.dropMotion n).setBayState n BS.FOCUSING kind value).loopsOpened n).onFocus n fun f =>
    { f with target := layer, fails := 0, fail35 := 0 }

/-- `FOCUSING` begins on its layer with no attempt counted. -/
theorem State.startFocusing_begins (hn : n < s.variant.bays) (layer kind value : Nat) :
    (s.startFocusing n layer kind value).get (R.STATE.STATE n) = BS.FOCUSING ∧
      ((s.startFocusing n layer kind value).bay n).focus.target = layer ∧
      ((s.startFocusing n layer kind value).bay n).focus.fails = 0 := by
  have hstart : s.startFocusing n layer kind value = (s.focusingEntered n layer kind value).acqStep1 n := rfl
  have hchanged : ((s.dropMotion n).setBayState n BS.FOCUSING kind value).get (R.STATE.STATE n) = BS.FOCUSING :=
    State.get_setBayState_same (s := s.dropMotion n) hn (by decide) kind value
  have hstate : (s.focusingEntered n layer kind value).get (R.STATE.STATE n) = BS.FOCUSING :=
    (State.sameFocus_loopsOpened _ n).state.trans hchanged
  obtain ⟨hkept, stage, hfocus⟩ := (s.focusingEntered n layer kind value).acqStep1_keeps n
  rw [hstart, hkept, hfocus]
  exact ⟨hstate, by simp [State.focusingEntered], by simp [State.focusingEntered]⟩

theorem does_recoveryTimeout (hn : n < s.variant.bays) (hstate : s.bayState n = BS.RECOVERY) :
    Does (.recoveryTimeout n) s fun t => t.get (R.STATE.STATE n) = BS.FOCUSING ∧
      (t.bay n).focus.target = (s.bay n).focus.retLayer ∧ (t.bay n).focus.fails = 0 := by
  have harm : exec (.recoveryTimeout n) s = execRecoveryTimeout n s := rfl
  have hexec : exec (.recoveryTimeout n) s = .next (s.startFocusing n (s.bay n).focus.retLayer Why.sequence 0) := by
    rw [harm, execRecoveryTimeout, State.onBay_of_present hn, if_pos hstate]
  rw [does_iff hexec]
  exact State.startFocusing_begins hn ..

/-- Settles O19: each clause is the end of one stage, and the stage it leads to. -/
theorem focusAcquisitionStages : Obligations.FocusAcquisitionStages := by
  unfold Obligations.FocusAcquisitionStages
  intro n s hn
  exact ⟨does_focusSweepEnd_curve hn, does_focusSweepEnd_uncaught hn, does_focusSettleEnd hn, does_layerProbeFail hn,
    does_trackingCloseTimeout hn, does_recoveryTimeout hn⟩

end Sys2Proof.Machine
end

section
/-!
PROOF. Layer jumps (R154, R155), fine jumps (R156) and the fallback's register (R160).
-/

namespace Sys2Proof.Machine

variable {s : State} {n : Nat}

/-! ## Layer jumps (R154, R155) -/

/-- The drive of loop `k` put to a value, and the focus part taken on: what the end of a kick or a brake does. -/
theorem State.setMan_onFocus (s : State) (n k : Nat) (v : Int) (f : Focus → Focus) :
    ((s.setMan n k v).onFocus n f).get (R.SRV_MAN.Q n k) = ofInt 32 v ∧
      (((s.setMan n k v).onFocus n f).bay n).focus = f (s.bay n).focus ∧
      Leaves s ((s.setMan n k v).onFocus n f) [R.SRV_MAN.Q n k] [n] :=
  ⟨s.get_setMan_same n k v, by simp, ((Leaves.refl s _ _).setMan (by simp) v).onFocus (by simp) f⟩

theorem does_ljKickEnd (hn : n < s.variant.bays) (hjump : (s.bay n).focus.jump = .kick) :
    Does (.ljKickEnd n) s fun t => t.get (R.SRV_MAN.Q n 0) = ofInt 32 (s.bay n).focus.jumpBase ∧ (t.bay n).focus.jump = .leaving ∧
      Leaves s t [R.SRV_MAN.Q n 0] [n] := by
  have harm : exec (.ljKickEnd n) s = execLjKickEnd n s := rfl
  have hexec : exec (.ljKickEnd n) s =
      .next ((s.setMan n 0 (s.bay n).focus.jumpBase).onFocus n fun f => { f with jump := .leaving }) := by
    rw [harm, execLjKickEnd, State.onBay_of_present hn]
    simp only [if_pos hjump]
  obtain ⟨hdrive, hfocus, hleaves⟩ := s.setMan_onFocus n 0 (s.bay n).focus.jumpBase fun f => { f with jump := .leaving }
  rw [does_iff hexec, hfocus]
  exact ⟨hdrive, rfl, hleaves⟩

theorem does_ljBrakeEnd (hn : n < s.variant.bays) (hjump : (s.bay n).focus.jump = .brake) :
    Does (.ljBrakeEnd n) s fun t => t.get (R.SRV_MAN.Q n 0) = ofInt 32 (s.bay n).focus.jumpBase ∧ (t.bay n).focus.jump = .close ∧
      Leaves s t [R.SRV_MAN.Q n 0] [n] := by
  have harm : exec (.ljBrakeEnd n) s = execLjBrakeEnd n s := rfl
  have hexec : exec (.ljBrakeEnd n) s =
      .next ((s.setMan n 0 (s.bay n).focus.jumpBase).onFocus n fun f => { f with jump := .close }) := by
    rw [harm, execLjBrakeEnd, State.onBay_of_present hn]
    simp only [if_pos hjump]
  obtain ⟨hdrive, hfocus, hleaves⟩ := s.setMan_onFocus n 0 (s.bay n).focus.jumpBase fun f => { f with jump := .close }
  rw [does_iff hexec, hfocus]
  exact ⟨hdrive, rfl, hleaves⟩

theorem State.focus_closeBridge (s : State) (n : Nat) : ((s.closeBridge n).bay n).focus = (s.bay n).focus := by
  unfold State.closeBridge
  split
  · simp [State.onTracker, State.zero]
  · rfl

theorem State.get_closeBridge {g : Field} (hbridge : g.key ≠ (R.ANG_STAT.BRIDGE n).key) (hrun : g.key ≠ (R.ANG_STAT.MISS_RUN n).key) :
    (s.closeBridge n).get g = s.get g := by
  unfold State.closeBridge
  split
  · exact (State.get_put_other _ _ _ _ hrun).trans (State.get_put_other _ _ _ _ hbridge)
  · rfl

/-- The state with a failed jump recorded and given up. -/
def State.jumpDropped (s : State) (n found : Nat) : State :=
  (s.recordFocus n 0x0508 [(s.bay n).focus.jumpEnd, found]).onFocus n fun f => { f with jump := .off, probing := false }

theorem State.focus_jumpDropped (s : State) (n found : Nat) :
    ((s.jumpDropped n found).bay n).focus = { (s.bay n).focus with jump := .off, probing := false } := by
  simp [State.jumpDropped, State.recordFocus]

theorem State.get_jumpDropped (s : State) (n found : Nat) {g : Field} (hg : g.recorder = false) :
    (s.jumpDropped n found).get g = s.get g :=
  s.get_recordBay _ _ _ g hg

theorem State.bayState_jumpDropped (hn : n < s.variant.bays) (found : Nat) : (s.jumpDropped n found).bayState n = s.bayState n := by
  have hvariant : (s.jumpDropped n found).variant = s.variant := s.recordBay_variant ..
  rw [State.bayState_of_present (hvariant ▸ hn), State.bayState_of_present hn,
    s.get_jumpDropped n found (Field.recorder_of_bayBlock (by simp only [R.STATE.STATE]; omega))]

/-- In acquisition, with attempts left, a jump that fails goes back to the probe. -/
theorem State.jumpFail_of_focusing (hn : n < s.variant.bays) (hstate : s.bayState n = BS.FOCUSING)
    (htries : (s.bay n).focus.fails + 1 < s.acting (R.FOC_ACQ.TRIES n) 1 8) (found : Nat) :
    s.jumpFail n found = ((s.jumpDropped n found).closeBridge n).probeAgain n := by
  have hget : ((s.jumpDropped n found).closeBridge n).get (R.FOC_ACQ.TRIES n) = s.get (R.FOC_ACQ.TRIES n) := by
    rw [State.get_closeBridge (by simp only [R.FOC_ACQ.TRIES, R.ANG_STAT.BRIDGE]; omega)
      (by simp only [R.FOC_ACQ.TRIES, R.ANG_STAT.MISS_RUN]; omega),
      s.get_jumpDropped n found (Field.recorder_of_bayBlock (by simp only [R.FOC_ACQ.TRIES]; omega))]
  have hleft : (((s.jumpDropped n found).closeBridge n).bay n).focus.fails + 1 <
      ((s.jumpDropped n found).closeBridge n).acting (R.FOC_ACQ.TRIES n) 1 8 := by
    rw [State.focus_closeBridge, State.focus_jumpDropped, State.acting, hget]
    exact htries
  have hfocusing : (s.jumpDropped n found).bayState n = BS.FOCUSING := (State.bayState_jumpDropped hn found).trans hstate
  exact (if_pos hfocusing).trans (State.acqFail_of_late (by decide) hleft)

theorem does_ljCloseTimeout (hn : n < s.variant.bays) (hjump : (s.bay n).focus.jump = .close) (hstate : s.bayState n = BS.FOCUSING)
    (htries : (s.bay n).focus.fails + 1 < s.acting (R.FOC_ACQ.TRIES n) 1 8) :
    Does (.ljCloseTimeout n) s fun t => (t.bay n).focus.jump = .off ∧ (t.bay n).focus.acq = .probe ∧
      (t.bay n).focus.fails = (s.bay n).focus.fails + 1 := by
  have harm : exec (.ljCloseTimeout n) s = execLjCloseTimeout n s := rfl
  have hexec : exec (.ljCloseTimeout n) s = .next (((((s.fresh 8).2.jumpDropped n (s.fresh 8).1).closeBridge n)).probeAgain n) := by
    rw [harm, execLjCloseTimeout, State.onBay_of_present hn, if_pos hjump]
    exact congrArg Host.Outcome.next (State.jumpFail_of_focusing (s := (s.fresh 8).2) hn hstate htries _)
  rw [does_iff hexec, State.focus_probeAgain, State.focus_closeBridge, State.focus_jumpDropped]
  exact ⟨rfl, rfl, rfl⟩

theorem does_ljSettleEnd (hn : n < s.variant.bays) (hjump : (s.bay n).focus.jump = .settle)
    (hlast : (s.bay n).focus.jumpTo = (s.bay n).focus.jumpEnd) (harrived : s.on (R.STEP_STAT.SA_ARRIVED n) = true)
    (hidle : (s.bay n).focus.probing = false) :
    Does (.ljSettleEnd n) s fun t => (t.bay n).focus.jump = .probe ∧ (t.bay n).focus.probing = true ∧ Leaves s t [] [n] := by
  have harm : exec (.ljSettleEnd n) s = execLjSettleEnd n s := rfl
  have hbegin : (s.onFocus n fun f => { f with jump := .probe }).jumpProceed n =
      (s.onFocus n fun f => { f with jump := .probe }).beginProbe n := by
    have hon : (s.onFocus n fun f => { f with jump := .probe }).on (R.STEP_STAT.SA_ARRIVED n) = true := harrived
    simp [State.jumpProceed, hon, hidle]
  have hexec : exec (.ljSettleEnd n) s = .next ((s.onFocus n fun f => { f with jump := .probe }).beginProbe n) := by
    rw [harm, execLjSettleEnd, State.onBay_of_present hn]
    simp only [if_pos hjump, if_pos hlast, hbegin]
  rw [does_iff hexec, State.beginProbe]
  exact ⟨by simp, by simp, ((Leaves.refl s _ _).onFocus (by simp) _).onFocus (by simp) _⟩

/-! ## Fine jumps (R156) -/

/-- The opposite drive of a fine jump: the table's amplitude for its number of tracks, against its direction. -/
def State.fineBrakeDrive (s : State) (n : Nat) : Int :=
  satQ31 ((s.bay n).focus.fineBase - (s.bay n).focus.fineD.sign *
    ((2 ^ 23 * s.get (R.TJ_TAB.AMP n (clampNat 1 16 (s.bay n).focus.fineD.natAbs - 1)) : Nat) : Int))

theorem does_tjKickEnd (hn : n < s.variant.bays) (hfine : (s.bay n).focus.fine = .kick) :
    Does (.tjKickEnd n) s fun t => (t.bay n).focus.fine = .brake ∧ Leaves s t [R.SRV_MAN.Q n 1] [n] ∧
      t.get (R.SRV_MAN.Q n 1) = ofInt 32 (s.fineBrakeDrive n) := by
  have harm : exec (.tjKickEnd n) s = execTjKickEnd n s := rfl
  have hamp (a : Nat) : ((2 ^ 23 * a : Nat) : Int) = 2 ^ 23 * (a : Int) := by omega
  have hexec : exec (.tjKickEnd n) s = .next ((s.setMan n 1 (s.fineBrakeDrive n)).onFocus n fun f => { f with fine := .brake }) := by
    rw [harm, execTjKickEnd, State.onBay_of_present hn]
    simp only [if_pos hfine, State.fineBrakeDrive, hamp]
  obtain ⟨hdrive, hfocus, hleaves⟩ := s.setMan_onFocus n 1 (s.fineBrakeDrive n) fun f => { f with fine := .brake }
  rw [does_iff hexec, hfocus]
  exact ⟨rfl, hleaves, hdrive⟩

theorem does_tjBrakeEnd (hn : n < s.variant.bays) (hfine : (s.bay n).focus.fine = .brake) :
    Does (.tjBrakeEnd n) s fun t => t.get (R.SRV_MAN.Q n 1) = ofInt 32 (s.bay n).focus.fineBase ∧ (t.bay n).focus.fine = .settle ∧
      Leaves s t [R.SRV_MAN.Q n 1] [n] := by
  have harm : exec (.tjBrakeEnd n) s = execTjBrakeEnd n s := rfl
  have hexec : exec (.tjBrakeEnd n) s =
      .next ((s.setMan n 1 (s.bay n).focus.fineBase).onFocus n fun f => { f with fine := .settle }) := by
    rw [harm, execTjBrakeEnd, State.onBay_of_present hn]
    simp only [if_pos hfine]
  obtain ⟨hdrive, hfocus, hleaves⟩ := s.setMan_onFocus n 1 (s.bay n).focus.fineBase fun f => { f with fine := .settle }
  rw [does_iff hexec, hfocus]
  exact ⟨hdrive, rfl, hleaves⟩

theorem does_tjSettleEnd (hn : n < s.variant.bays) (hfine : (s.bay n).focus.fine = .settle) :
    Does (.tjSettleEnd n) s fun t => (t.bay n).focus.fine = .confirm ∧ Leaves s t [] [n] := by
  have harm : exec (.tjSettleEnd n) s = execTjSettleEnd n s := rfl
  have hexec : exec (.tjSettleEnd n) s = .next (s.onFocus n fun f => { f with fine := .confirm }) := by
    rw [harm, execTjSettleEnd, State.onBay_of_present hn, if_pos hfine]
  rw [does_iff hexec]
  exact ⟨by simp, (Leaves.refl s _ _).onFocus (by simp) _⟩

/-! ## The fallback's register (R160) -/

theorem does_fallbackClearWrite (hn : n < s.variant.bays) (m : Nat) :
    Does (.fallbackClearWrite n m) s fun t =>
      (∀ i ∈ List.range 8, t.bitOf (R.TRK_FALLBACK.LAYERS n) i = (s.bitOf (R.TRK_FALLBACK.LAYERS n) i && !bitAt m i)) ∧
      Leaves s t [R.TRK_FALLBACK.LAYERS n] [] := by
  have harm : exec (.fallbackClearWrite n m) s = execFallbackClearWrite n m s := rfl
  have hexec : exec (.fallbackClearWrite n m) s =
      .next (s.put (R.TRK_FALLBACK.LAYERS n) (s.get (R.TRK_FALLBACK.LAYERS n) - (s.get (R.TRK_FALLBACK.LAYERS n) &&& m))) := by
    rw [harm, execFallbackClearWrite, State.onBay_of_present hn]
  have hfits : s.get (R.TRK_FALLBACK.LAYERS n) - (s.get (R.TRK_FALLBACK.LAYERS n) &&& m) < 2 ^ (R.TRK_FALLBACK.LAYERS n).width :=
    Nat.lt_of_le_of_lt (Nat.sub_le ..) (s.get_lt _)
  rw [does_iff hexec]
  refine ⟨fun i _ => ?_, (Leaves.refl s _ _).put (by simp) _⟩
  rw [State.bitOf, State.get_put_same, Nat.mod_eq_of_lt hfits, bitAt_sub_and, State.bitOf]

/-- Settles O20: each clause is the end of one stage of a jump, its drive and its frame. -/
theorem layerAndTrackJumps : Obligations.LayerAndTrackJumps := by
  unfold Obligations.LayerAndTrackJumps
  intro n s hn
  exact ⟨does_ljKickEnd hn, does_ljBrakeEnd hn, does_ljCloseTimeout hn, does_ljSettleEnd hn, does_tjKickEnd hn, does_tjBrakeEnd hn,
    does_tjSettleEnd hn, does_fallbackClearWrite hn⟩

end Sys2Proof.Machine
end

section
/-!
PROOF. A spindle fault whose bay does not stay in `FAULT`: the statement's clause about regulation (R192) fixes the bay's own hidden state
and leaves the Caddy's open, so a charge to a requester that R463 does not have can lie over the bay's `STATE`, as in `strayHolding`.
-/

namespace Sys2Proof.Machine

/-- Bay 0 of `strayHolding`, now `READY` with its spindle in closed loop: all of the bay's hidden state is that of reset, and tag 0 of
the Caddy is held for it on the charge whose `CADDY_HELD` lies where bay 0's `STATE` does. -/
def strayRegulation : State := (strayHolding.put (R.STATE.STATE 0) BS.READY).put (R.SPIN_STAT.PHASE 0) 3

/-- `FAULT` is entered and then releases the bay's buffer (R469), which shows a charge of 0 over the `STATE` just written. -/
theorem exec_speedRegulationTimeout_strayRegulation :
    ∃ t, exec (.speedRegulationTimeout 0) strayRegulation = .next t ∧ t.get (R.STATE.STATE 0) = BS.ABSENT :=
  ⟨_, rfl, by decide +kernel⟩

/-- Refutes O15: in `strayRegulation` the regulation of a `READY` bay times out in closed loop, and the bay's `STATE` reads `ABSENT`. -/
theorem not_spindleStartAndStop : ¬ Obligations.SpindleStartAndStop := by
  unfold Obligations.SpindleStartAndStop
  intro h
  have hclosed : strayRegulation.get (R.SPIN_STAT.PHASE 0) = 3 := by decide +kernel
  have hready : strayRegulation.bayState 0 = BS.READY := by decide +kernel
  obtain ⟨-, -, -, -, -, -, -, hregulation, -⟩ := h 0 strayRegulation (by decide)
  obtain ⟨t, hexec, habsent⟩ := exec_speedRegulationTimeout_strayRegulation
  obtain ⟨hfault, -⟩ := (does_iff hexec).mp (hregulation hclosed hready rfl)
  rw [habsent] at hfault
  exact absurd hfault (by decide)

end Sys2Proof.Machine
end

section
/-!
SUPPORT. The steppers of a bay: what the operations of the interpolator (R203, R207 to R213) and of the encoder (R215 to R218) leave of
the bay and of its registers, a counter that saturates, and a move that nothing waits for.
-/

namespace Sys2Proof.Machine

/-! ## A counter that saturates -/

theorem satAdd_lt (w a b : Nat) : satAdd w a b < 2 ^ w := by
  have hpos := Nat.two_pow_pos w
  unfold satAdd
  split <;> omega

/-- A saturating counter reads back as what was counted. -/
theorem State.get_count_same (s : State) (f : Field) (k : Nat) : (s.count f k).get f = satAdd f.width (s.get f) k :=
  (s.get_put_same f _).trans (Nat.mod_eq_of_lt (satAdd_lt ..))

/-! ## A change of a stepper or of the encoder -/

section
variable (s : State) (n : Nat)

@[simp] theorem State.get_setStepper (sa : Bool) (p : Stepper) (g : Field) : (s.setStepper sa n p).get g = s.get g := rfl

@[simp] theorem State.stepper_setStepper_same (sa : Bool) (p : Stepper) : (s.setStepper sa n p).stepper sa n = p := by
  cases sa <;> simp [State.stepper, State.setStepper]

@[simp] theorem State.stepper_put (f : Field) (v : Nat) (sa : Bool) : (s.put f v).stepper sa n = s.stepper sa n := rfl

@[simp] theorem State.enc_setStepper (sa : Bool) (p : Stepper) : ((s.setStepper sa n p).bay n).enc = (s.bay n).enc := by
  cases sa <;> simp [State.setStepper]

@[simp] theorem State.get_onEnc (f : Encoder → Encoder) (g : Field) : (s.onEnc n f).get g = s.get g := rfl

@[simp] theorem State.bay_onEnc_same (f : Encoder → Encoder) : (s.onEnc n f).bay n = { s.bay n with enc := f (s.bay n).enc } :=
  State.bay_setBay_same ..

@[simp] theorem State.stepper_onEnc (f : Encoder → Encoder) (sa : Bool) : (s.onEnc n f).stepper sa n = s.stepper sa n := by
  simp [State.stepper]

theorem Leaves.setStepper {s t : State} {fs : List Field} {bs : List Nat} (h : Leaves s t fs bs) {n : Nat} (hn : n ∈ bs) (sa : Bool)
    (p : Stepper) : Leaves s (t.setStepper sa n p) fs bs :=
  h.setBay hn _

theorem Leaves.onEnc {s t : State} {fs : List Field} {bs : List Nat} (h : Leaves s t fs bs) {n : Nat} (hn : n ∈ bs)
    (f : Encoder → Encoder) : Leaves s (t.onEnc n f) fs bs :=
  h.setBay hn _

end

/-! ## Registers of a stepper -/

theorem fArrived_key_ne_fGo (sa : Bool) (n : Nat) : (fArrived sa n).key ≠ (fGo sa n).key := by
  cases sa <;> simp [fArrived, fGo, R.STEP_STAT.SA_ARRIVED, R.SA_TGT.GO, R.STEP_STAT.SLED_ARRIVED, R.SLED_TGT.GO] <;> omega

theorem fArrived_key_ne_fMode (sa : Bool) (n : Nat) : (fArrived sa n).key ≠ (fMode sa n).key := by
  cases sa <;> simp [fArrived, fMode, R.STEP_STAT.SA_ARRIVED, R.STEP_CTL.SA_MODE, R.STEP_STAT.SLED_ARRIVED, R.STEP_CTL.SLED_MODE] <;> omega

theorem fGo_key_ne_fMode (sa : Bool) (n : Nat) : (fGo sa n).key ≠ (fMode sa n).key := by
  cases sa <;> simp [fGo, fMode, R.SA_TGT.GO, R.STEP_CTL.SA_MODE, R.SLED_TGT.GO, R.STEP_CTL.SLED_MODE] <;> omega

/-- ARRIVED is one bit wide. -/
theorem State.get_raise_fArrived (s : State) (sa : Bool) (n : Nat) : (s.raise (fArrived sa n)).get (fArrived sa n) = 1 :=
  (s.get_raise_same _).trans (by cases sa <;> rfl)

/-- HOLD is a value that MODE can hold. -/
theorem State.get_put_fMode_hold (s : State) (sa : Bool) (n : Nat) : (s.put (fMode sa n) 1).get (fMode sa n) = 1 :=
  (s.get_put_same _ 1).trans (by cases sa <;> rfl)

/-- Where CMD of a stepper is shown (R225). -/
def fCmd (sa : Bool) (n : Nat) : Field := if sa then R.SA_POS.CMD n else R.SLED_POS.CMD n

/-- Where VEL of a stepper is shown (R225). -/
def fVel (sa : Bool) (n : Nat) : Field := if sa then R.SA_POS.VEL n else R.SLED_POS.VEL n

/-! ## Free values and outputs -/

section
variable (s : State) (n : Nat)

@[simp] theorem State.get_fresh (w : Nat) (g : Field) : (s.fresh w).2.get g = s.get g := rfl

@[simp] theorem State.get_roundOpen (num : Int) (den : Nat) (g : Field) : (s.roundOpen num den).2.get g = s.get g := by
  unfold State.roundOpen
  dsimp only
  split <;> rfl

@[simp] theorem State.bay_roundOpen (num : Int) (den m : Nat) : (s.roundOpen num den).2.bay m = s.bay m := by
  unfold State.roundOpen
  dsimp only
  split <;> rfl

/-- Sending a frame changes the bay's link alone. -/
theorem State.bay_send (typ arg : Nat) (data : List (BitVec 64)) :
    ∃ l, (s.send n typ arg data).bay n = { s.bay n with link := l } := by
  unfold State.send
  dsimp only
  split
  · exact ⟨(s.bay n).link, rfl⟩
  · exact ⟨_, (State.bay_emit ..).trans (State.bay_setBay_same ..)⟩

/-! ## What a stepper shows (R225) -/

@[simp] theorem State.bay_stepShow (sa : Bool) (m : Nat) : (s.stepShow sa n).bay m = s.bay m := s.bay_roundOpen _ _ m

theorem State.get_stepShow_cmd (sa : Bool) : (s.stepShow sa n).get (fCmd sa n) = ofInt 16 (microIndex (s.stepper sa n).pos) := by
  have hkey : (fCmd sa n).key ≠ (fVel sa n).key := by
    cases sa <;> simp [fCmd, fVel, R.SA_POS.CMD, R.SA_POS.VEL, R.SLED_POS.CMD, R.SLED_POS.VEL]
  have hwidth : (fCmd sa n).width = 16 := by cases sa <;> rfl
  refine (State.get_put_other _ _ _ _ hkey).trans ((State.get_put_same ..).trans ?_)
  rw [ofInt_mod]
  exact congrArg (fun w => ofInt w _) hwidth

theorem State.get_stepShow_other (sa : Bool) {g : Field} (hcmd : g.key ≠ (fCmd sa n).key) (hvel : g.key ≠ (fVel sa n).key) :
    (s.stepShow sa n).get g = s.get g :=
  (State.get_put_other _ _ _ _ hvel).trans ((State.get_put_other _ _ _ _ hcmd).trans (s.get_roundOpen _ _ g))

end

/-- The registers that show a stepper lie above the bay's state. -/
theorem SameFocus.stepShow {n : Nat} {s t : State} (h : SameFocus n s t) (sa : Bool) : SameFocus n s (t.stepShow sa n) := by
  have hcmd : (R.STATE.STATE n).key < (fCmd sa n).key := by
    cases sa <;> simp [fCmd, R.STATE.STATE, R.SA_POS.CMD, R.SLED_POS.CMD] <;> omega
  have hvel : (R.STATE.STATE n).key < (fVel sa n).key := by
    cases sa <;> simp [fVel, R.STATE.STATE, R.SA_POS.VEL, R.SLED_POS.VEL]
  exact ⟨by rw [State.bay_stepShow]; exact h.focus,
    (t.get_stepShow_other n sa (Nat.ne_of_lt hcmd) (Nat.ne_of_lt hvel)).trans h.state⟩

/-! ## A move that nothing waits for -/

theorem SameFocus.bayState {n : Nat} {s t : State} (h : SameFocus n s t) (hvariant : t.variant = s.variant) :
    t.bayState n = s.bayState n := by
  rw [State.bayState, State.bayState, h.state, State.bayPresent, State.bayPresent, hvariant]

theorem State.parkEnd_of_not_parking {s : State} {n : Nat} (hpark : s.bayState n ≠ BS.PARKING) : s.parkEnd n = s :=
  if_neg fun h => hpark h.1

/-- With no acquisition and no layer jump, and the bay not parking, nothing waits for a move (R151, R154, R383); nor does anything after
an operation that leaves the focus part and the bay's state as they were. -/
theorem State.moveProceed_of_sameFocus {s t : State} {n : Nat} (hfocus : (s.bay n).focus = {}) (hpark : s.bayState n ≠ BS.PARKING)
    (h : SameFocus n s t) (hvariant : t.variant = s.variant) : t.moveProceed n = t := by
  have hidle : (t.bay n).focus = {} := h.focus.trans hfocus
  have hacq : t.acqProceed n = t := by simp [State.acqProceed, hidle]
  have hjump : t.jumpProceed n = t := by simp [State.jumpProceed, hidle]
  rw [State.moveProceed, hacq, hjump, State.parkEnd_of_not_parking (by rw [h.bayState hvariant]; exact hpark)]

end Sys2Proof.Machine
end

section
/-!
SUPPORT. A planner tick of steppers that stand (R209), what a stall wait that resumes nothing leaves (R218), and what a frame of the
encoder gives (R63, R215 to R217).
-/

namespace Sys2Proof.Machine

variable {s : State} {n : Nat}

/-! ## A planner tick (R209) -/

theorem State.get_offerSample (s : State) (n k : Nat) (x : Sample) (g : Field) : (s.offerSample n k x).get g = s.get g := by
  unfold State.offerSample
  split <;> rfl

/-- A sample offered changes the samples that wait, and nothing else of the bay. -/
theorem State.bay_offerSample (s : State) (n k : Nat) (x : Sample) :
    ∃ q, (s.offerSample n k x).bay n = { s.bay n with servo := { (s.bay n).servo with queue := q } } := by
  unfold State.offerSample
  split
  · exact ⟨_, State.bay_onServo_same ..⟩
  · exact ⟨_, rfl⟩

/-- The samples of a tick go to slots 4 and 5, from a state that has the registers and the bays as they were. -/
theorem State.stepSamples_offers (s : State) (n : Nat) :
    ∃ (u : State) (x y : Sample), (∀ g, u.get g = s.get g) ∧ u.bay n = s.bay n ∧
      s.stepSamples n = ((u.onServo n fun v => { v with sumU := 0, numU := 0 }).offerSample n 4 x).offerSample n 5 y := by
  unfold State.stepSamples
  dsimp only
  split
  · exact ⟨_, _, _, fun g => s.get_fresh 32 g, rfl, rfl⟩
  · exact ⟨_, _, _, fun g => s.get_roundOpen _ _ g, s.bay_roundOpen _ _ n, rfl⟩

theorem State.get_stepSamples (s : State) (n : Nat) (g : Field) : (s.stepSamples n).get g = s.get g := by
  obtain ⟨u, x, y, hget, -, hoffers⟩ := s.stepSamples_offers n
  rw [hoffers, State.get_offerSample, State.get_offerSample, State.get_onServo, hget]

/-- The samples of a tick use up those of slot 4's mean, and change nothing of the bay beyond the servo part. -/
theorem State.bay_stepSamples (s : State) (n : Nat) :
    ∃ v, (s.stepSamples n).bay n = { s.bay n with servo := v } ∧ v.numU = 0 ∧ v.sumU = 0 := by
  obtain ⟨u, x, y, -, hbay, hoffers⟩ := s.stepSamples_offers n
  obtain ⟨q, hq⟩ := (u.onServo n fun v => { v with sumU := 0, numU := 0 }).bay_offerSample n 4 x
  obtain ⟨r, hr⟩ := ((u.onServo n fun v => { v with sumU := 0, numU := 0 }).offerSample n 4 x).bay_offerSample n 5 y
  rw [hoffers, hr, hq, State.bay_onServo_same, hbay]
  exact ⟨_, rfl, rfl, rfl⟩

/-- A stepper without a plan that does not follow stays where it stands. -/
theorem State.stepTick_of_standing {sa : Bool} (hplan : (s.stepper sa n).plan = none) (hmode : s.get (fMode sa n) ≠ 3) :
    s.stepTick sa n = s := by
  simp [State.stepTick, hplan, hmode]

theorem microEvents_same (sa : Bool) (a : Int) : microEvents sa a a = [] := by simp [microEvents]

theorem State.get_stepDueBy (s : State) (n : Nat) (i j t : Int) (g : Field) : (s.stepDueBy n i j t).get g = s.get g := by
  unfold State.stepDueBy
  split
  · split
    · exact State.get_send ..
    · rfl
  · rfl

/-- Frames that are due change the bay's link and when the next is due. -/
theorem State.bay_stepDueBy (s : State) (n : Nat) (i j t : Int) :
    ∃ l d k, (s.stepDueBy n i j t).bay n = { s.bay n with link := l, stepDue := d, stepLast := k } := by
  unfold State.stepDueBy
  split
  · next d _ =>
    split
    · obtain ⟨l, hl⟩ := (s.setBay n { s.bay n with stepDue := none, stepLast := d }).bay_send n 0x13 0 _
      exact ⟨l, none, d, hl.trans (by rw [State.bay_setBay_same])⟩
    · exact ⟨_, _, _, rfl⟩
  · exact ⟨_, _, _, rfl⟩

theorem State.get_stepEvents_nil (s : State) (n : Nat) (i j : Int) (g : Field) : (State.stepEvents n [] i j s).get g = s.get g :=
  s.get_stepDueBy n i j 65537 g

theorem State.bay_stepEvents_nil (s : State) (n : Nat) (i j : Int) :
    ∃ l d k, (State.stepEvents n [] i j s).bay n = { s.bay n with link := l, stepDue := d, stepLast := k } := by
  obtain ⟨l, d, k, h⟩ := s.bay_stepDueBy n i j 65537
  exact ⟨l, _, _, (State.bay_setBay_same ..).trans (by rw [h])⟩

/-- The state of a tick in which both steppers stand, before their positions are shown. -/
def State.tickedStanding (s : State) (n : Nat) : State :=
  State.stepEvents n [] (microIndex (s.stepper false n).pos) (microIndex (s.stepper true n).pos) (s.stepSamples n)

theorem State.get_tickedStanding (s : State) (n : Nat) (g : Field) : (s.tickedStanding n).get g = s.get g :=
  ((s.stepSamples n).get_stepEvents_nil n _ _ g).trans (s.get_stepSamples n g)

/-- Of the bay, such a tick changes the samples, the link, and when STEP frames go. -/
theorem State.bay_tickedStanding (s : State) (n : Nat) : ∃ v l d k,
    (s.tickedStanding n).bay n = { s.bay n with servo := v, link := l, stepDue := d, stepLast := k } ∧ v.numU = 0 ∧ v.sumU = 0 := by
  obtain ⟨v, hsamples, hnum, hsum⟩ := s.bay_stepSamples n
  obtain ⟨l, d, k, hevents⟩ := (s.stepSamples n).bay_stepEvents_nil n (microIndex (s.stepper false n).pos)
    (microIndex (s.stepper true n).pos)
  exact ⟨v, l, d, k, by rw [State.tickedStanding, hevents, hsamples], hnum, hsum⟩

/-- A tick of two steppers that stand changes no position and sends no microstep. -/
theorem State.plannerTick_of_standing (hsled : (s.bay n).sled.plan = none) (hsa : (s.bay n).sa.plan = none)
    (hsledMode : s.get (R.STEP_CTL.SLED_MODE n) ≠ 3) (hsaMode : s.get (R.STEP_CTL.SA_MODE n) ≠ 3) :
    s.plannerTick n = ((s.tickedStanding n).stepShow false n).stepShow true n := by
  obtain ⟨v, hbay, -⟩ := s.bay_stepSamples n
  have hstepper (sa : Bool) : (s.stepSamples n).stepper sa n = s.stepper sa n := by rw [State.stepper, hbay, State.stepper]
  have hstands (sa : Bool) : (s.stepSamples n).stepTick sa n = s.stepSamples n := by
    refine State.stepTick_of_standing ?_ ?_
    · rw [hstepper]
      cases sa
      · exact hsled
      · exact hsa
    · rw [State.get_stepSamples]
      cases sa
      · exact hsledMode
      · exact hsaMode
  simp only [State.plannerTick, hstands, hstepper, microEvents_same, List.foldl_nil, State.tickedStanding]

/-! ## The end of a stall wait (R218) -/

/-- With nothing to resume, the end of a stall wait leaves no check of the encoder outstanding. -/
theorem State.enc_stallResume_of_none (hresume : (s.stepper false n).resume = .none) :
    ((s.stallResume n).bay n).enc = { (s.bay n).enc with stalled := false, devRun := 0 } := by
  simp [State.stallResume, hresume, State.stepBegin]

/-! ## The encoder (R63, R215 to R217) -/

/-- A corrupt frame is counted, and holds the place of one frame of its type (R63). -/
theorem State.takeFrame_corrupt {typ : Nat} {f : UpFrame} (hf : frameGood typ f = false) :
    ∃ g, s.takeFrame n typ f = (s.count (R.LINK_ERR.CRC_UP n) 1).onLink n g :=
  ⟨_, if_neg (by simp [hf])⟩

/-- The state with the encoder's fault cleared, the count set from the position, and nothing decoded. -/
def State.encRestarted (s : State) (n : Nat) : State :=
  ((s.zero (R.STEP_STAT.ENC_FAULT n)).setCount n (sledMicrons (s.stepper false n).pos)).onEnc n fun e =>
    { e with last := none, illegal := [], devRun := 0, still := 0 }

/-- What the decoding of a frame starts from. -/
def State.encStart (s : State) (n : Nat) : EncRun :=
  ⟨(s.bay n).enc.last, s.getS (R.ENC_POS.COUNT n), (s.bay n).enc.illegal, 0, (s.bay n).enc.still, false⟩

/-- The state with what a frame gave taken over: the count, the illegal transitions and the place of decoding. -/
def State.encDecoded (s : State) (n : Nat) (r : EncRun) : State :=
  ((s.setCount n r.count).count (R.ENC_COUNT.ILLEGAL n) r.fresh).onEnc n fun e =>
    { e with last := r.last, illegal := r.illegal, still := r.still }

theorem State.get_encDecoded_other {g : Field} (hcount : g.key ≠ (R.ENC_POS.COUNT n).key)
    (hillegal : g.key ≠ (R.ENC_COUNT.ILLEGAL n).key) (r : EncRun) : (s.encDecoded n r).get g = s.get g :=
  (State.get_put_other _ _ _ _ hillegal).trans (State.get_put_other _ _ _ _ hcount)

theorem State.get_encDecoded_count (r : EncRun) : (s.encDecoded n r).get (R.ENC_POS.COUNT n) =
    ofInt (R.ENC_POS.COUNT n).width (clampInt (-524288) 524287 r.count) := by
  have hkey : (R.ENC_POS.COUNT n).key ≠ (R.ENC_COUNT.ILLEGAL n).key := by simp only [R.ENC_POS.COUNT, R.ENC_COUNT.ILLEGAL]; omega
  exact (State.get_put_other _ _ _ _ hkey).trans ((State.get_put_same ..).trans (ofInt_mod ..))

theorem State.enc_encDecoded (r : EncRun) :
    ((s.encDecoded n r).bay n).enc = { (s.bay n).enc with last := r.last, illegal := r.illegal, still := r.still } := by
  rw [State.encDecoded, State.bay_onEnc_same]
  rfl

/-- A frame without an illegal transition, of a sled that is neither homed nor homing, is decoded and nothing more (R217, R218). -/
theorem State.encTake_of_clean {f : UpFrame} {r : EncRun} (hfault : s.on (R.STEP_STAT.ENC_FAULT n) = false)
    (hhomed : s.on (R.STEP_STAT.SLED_HOMED n) = false) (hhome : (s.bay n).sled.home = .off)
    (hr : r = encFrame (s.on (R.STEP_CTL.ENC_DIR n)) f (s.encStart n)) (hclean : r.fault = false) (hfresh : r.fresh = 0) :
    s.encTake n f = s.encDecoded n r := by
  have hunhomed : (s.encDecoded n r).on (R.STEP_STAT.SLED_HOMED n) = false := by
    rw [State.on, State.get_encDecoded_other (by simp only [R.STEP_STAT.SLED_HOMED, R.ENC_POS.COUNT]; omega)
      (by simp only [R.STEP_STAT.SLED_HOMED, R.ENC_COUNT.ILLEGAL]; omega)]
    exact hhomed
  have hstands : ((s.encDecoded n r).stepper false n).home = .off := by
    rw [State.encDecoded, State.stepper_onEnc]
    exact hhome
  unfold State.encTake
  rw [if_neg (by simp [hfault])]
  extract_lets e q s1 s2
  have hq : q = r := hr.symm
  clear_value q
  subst hq
  have hdecoded : s2 = s.encDecoded n q := if_neg (by rw [hfresh]; decide)
  rw [hdecoded, if_neg (by simp [hclean]), if_neg (by simp [hstands]), State.devCheck, if_neg (by simp [hunhomed])]

end Sys2Proof.Machine
end

section
/-!
PROOF. The ends of moves and of the homing hold (R212, R213), planner ticks of steppers that stand (R209), the end of a stall wait (R218)
and of coasting (R190), and the encoder (R215 to R217).
-/

namespace Sys2Proof.Machine

variable {s : State} {n : Nat}

/-! ## The ends of moves (R212, R213) -/

theorem does_stepperArrived (hn : n < s.variant.bays) (sa : Bool) (hfocus : (s.bay n).focus = {}) (hpark : s.bayState n ≠ BS.PARKING)
    (hsettling : (s.stepper sa n).settling = true) (hhold : (s.stepper sa n).toFollow = false) :
    Does (.stepperArrived n sa) s fun t => t.get (fArrived sa n) = 1 ∧ t.get (fGo sa n) = 0 ∧ t.get (fMode sa n) = 1 ∧
      (t.stepper sa n).settling = false ∧ Leaves s t [fArrived sa n, fGo sa n, fMode sa n] [n] := by
  have harm : exec (.stepperArrived n sa) s = execStepperArrived n sa s := rfl
  have hsame : SameFocus n s (s.stepArrive sa n) :=
    ((((SameFocus.refl n s).setStepper sa _).putArrived sa 1).putGo sa 0).putMode sa _
  have hexec : exec (.stepperArrived n sa) s = .next (s.stepArrive sa n) := by
    rw [harm, execStepperArrived, State.onBay_of_present hn, if_pos hsettling, State.moveProceed_of_sameFocus hfocus hpark hsame rfl]
  rw [does_iff hexec, State.stepArrive, hhold, if_neg Bool.false_ne_true]
  refine ⟨?_, ?_, ?_, ?_, ?_⟩
  · exact (State.get_put_other _ _ _ _ (fArrived_key_ne_fMode sa n)).trans
      ((State.get_put_other _ _ _ _ (fArrived_key_ne_fGo sa n)).trans (State.get_raise_fArrived _ sa n))
  · exact (State.get_put_other _ _ _ _ (fGo_key_ne_fMode sa n)).trans (State.get_zero_same _ _)
  · exact State.get_put_fMode_hold _ sa n
  · simp [State.raise, State.zero]
  · exact ((((Leaves.refl s _ _).setStepper (by simp) sa _).raise (by simp)).zero (by simp)).put (by simp) 1

theorem does_homeHoldEnd_inward (hn : n < s.variant.bays) (sa : Bool) (hfocus : (s.bay n).focus = {}) (hpark : s.bayState n ≠ BS.PARKING)
    (hhome : (s.stepper sa n).home = .holdIn) :
    Does (.homeHoldEnd n sa) s fun t => (t.stepper sa n).home = .outward ∧ (t.stepper sa n).plan.isSome = true ∧ Leaves s t [] [n] := by
  have harm : exec (.homeHoldEnd n sa) s = execHomeHoldEnd n sa s := rfl
  obtain ⟨m, hm⟩ : ∃ m, s.homeHoldEnd sa n = s.setStepper sa n { s.stepper sa n with plan := some m, home := .outward } :=
    ⟨_, by rw [State.homeHoldEnd, hhome]⟩
  have hexec : exec (.homeHoldEnd n sa) s = .next (s.setStepper sa n { s.stepper sa n with plan := some m, home := .outward }) := by
    rw [harm, execHomeHoldEnd, State.onBay_of_present hn, hm,
      State.moveProceed_of_sameFocus hfocus hpark ((SameFocus.refl n s).setStepper sa _) rfl]
  rw [does_iff hexec, State.stepper_setStepper_same]
  exact ⟨rfl, rfl, (Leaves.refl s _ _).setStepper (by simp) sa _⟩

/-! ## A planner tick (R209) -/

theorem does_plannerTick_standing (hn : n < s.variant.bays) (hfocus : (s.bay n).focus = {}) (hpark : s.bayState n ≠ BS.PARKING)
    (hsled : (s.bay n).sled = {}) (hsa : (s.bay n).sa = {}) (hsledMode : s.get (R.STEP_CTL.SLED_MODE n) = 1)
    (hsaMode : s.get (R.STEP_CTL.SA_MODE n) = 1) :
    Does (.plannerTick n) s fun t => t.get (R.SLED_POS.CMD n) = 0 ∧ t.get (R.SA_POS.CMD n) = 0 ∧ (t.bay n).servo.numU = 0 ∧
      (t.bay n).servo.sumU = 0 := by
  have harm : exec (.plannerTick n) s = execPlannerTick n s := rfl
  have htick : s.plannerTick n = ((s.tickedStanding n).stepShow false n).stepShow true n :=
    State.plannerTick_of_standing (by rw [hsled]) (by rw [hsa]) (by rw [hsledMode]; decide) (by rw [hsaMode]; decide)
  obtain ⟨v, l, d, k, hbay, hnum, hsum⟩ := s.bay_tickedStanding n
  have hsame : SameFocus n s (s.plannerTick n) := by
    rw [htick]
    exact (SameFocus.stepShow ⟨by rw [hbay], s.get_tickedStanding n _⟩ false).stepShow true
  have hexec : exec (.plannerTick n) s = .next (s.plannerTick n) := by
    rw [harm, execPlannerTick, State.onBay_of_present hn,
      State.moveProceed_of_sameFocus hfocus hpark hsame (keeps_plannerTick (Keeps.refl s)).variant]
  have hsledCmd : (R.SLED_POS.CMD n).key ≠ (R.SA_POS.CMD n).key := by simp only [R.SLED_POS.CMD, R.SA_POS.CMD]; omega
  have hsledVel : (R.SLED_POS.CMD n).key ≠ (R.SA_POS.VEL n).key := by simp only [R.SLED_POS.CMD, R.SA_POS.VEL]; omega
  have hzero (sa : Bool) : ((s.tickedStanding n).stepper sa n).pos = 0 := by
    rw [State.stepper, hbay]
    cases sa <;> simp [hsled, hsa]
  rw [does_iff hexec, htick, State.bay_stepShow, State.bay_stepShow, hbay]
  refine ⟨?_, ?_, hnum, hsum⟩
  · refine (State.get_stepShow_other _ n true hsledCmd hsledVel).trans ((State.get_stepShow_cmd _ n false).trans ?_)
    rw [hzero]
    rfl
  · refine (State.get_stepShow_cmd _ n true).trans ?_
    rw [State.stepper, State.bay_stepShow, ← State.stepper, hzero]
    rfl

/-! ## The end of a stall wait (R218) -/

theorem does_stallResync (hn : n < s.variant.bays) (hstalled : (s.bay n).enc.stalled = true) (hresume : (s.bay n).sled.resume = .none) :
    Does (.stallResync n) s fun t => (t.bay n).enc.stalled = false ∧ (t.bay n).enc.devRun = 0 := by
  have harm : exec (.stallResync n) s = execStallResync n s := rfl
  obtain ⟨pos, hpos⟩ : ∃ pos, s.stallResync n =
      ((s.setStepper false n { s.stepper false n with pos := pos }).stepShow false n).stallResume n := ⟨_, if_pos hstalled⟩
  have hexec : exec (.stallResync n) s =
      .next (((s.setStepper false n { s.stepper false n with pos := pos }).stepShow false n).stallResume n) := by
    rw [harm, execStallResync, State.onBay_of_present hn, hpos]
  rw [does_iff hexec, State.enc_stallResume_of_none]
  · exact ⟨rfl, rfl⟩
  · rw [State.stepper, State.bay_stepShow, ← State.stepper, State.stepper_setStepper_same]
    exact hresume

/-! ## The encoder (R215 to R217) -/

theorem does_encFaultClear (hn : n < s.variant.bays) (hfault : s.on (R.STEP_STAT.ENC_FAULT n) = true) :
    Does (.encFaultClear n) s fun t => t.get (R.STEP_STAT.ENC_FAULT n) = 0 ∧ (t.bay n).enc.last = none ∧ (t.bay n).enc.illegal = [] ∧
      Leaves s t [R.STEP_STAT.ENC_FAULT n, R.ENC_POS.COUNT n] [n] := by
  have harm : exec (.encFaultClear n) s = execEncFaultClear n s := rfl
  have hkey : (R.STEP_STAT.ENC_FAULT n).key ≠ (R.ENC_POS.COUNT n).key := by simp only [R.STEP_STAT.ENC_FAULT, R.ENC_POS.COUNT]; omega
  have hexec : exec (.encFaultClear n) s = .next (s.encRestarted n) := by
    rw [harm, execEncFaultClear, State.onBay_of_present hn, if_pos hfault, State.encRestarted]
  rw [does_iff hexec]
  refine ⟨?_, by simp [State.encRestarted], by simp [State.encRestarted], ?_⟩
  · exact (State.get_put_other _ _ _ _ hkey).trans (s.get_zero_same _)
  · exact (((Leaves.refl s _ _).zero (by simp)).put (by simp) _).onEnc (by simp) _

theorem exec_encoderFrameReceive_good (hn : n < s.variant.bays) {f : UpFrame} (hf : frameGood 0x04 f = true) :
    exec (.encoderFrameReceive n f) s = .next ((s.takeFrame n 0x04 f).encTake n f) := by
  have harm : exec (.encoderFrameReceive n f) s = execEncoderFrameReceive n f s := rfl
  rw [harm, execEncoderFrameReceive, State.onBay_of_present hn]
  simp only [if_pos hf]

theorem does_encoderFrameReceive_good (hn : n < s.variant.bays) (f : UpFrame) (r : EncRun)
    (hfault : s.on (R.STEP_STAT.ENC_FAULT n) = false) (hhomed : s.on (R.STEP_STAT.SLED_HOMED n) = false)
    (hhome : (s.bay n).sled.home = .off) (hf : frameGood 0x04 f = true)
    (hr : r = encFrame (s.on (R.STEP_CTL.ENC_DIR n)) f (s.encStart n)) (hclean : r.fault = false) (hfresh : r.fresh = 0) :
    Does (.encoderFrameReceive n f) s fun t => t.get (R.ENC_POS.COUNT n) =
        ofInt (R.ENC_POS.COUNT n).width (clampInt (-524288) 524287 r.count) ∧
      (t.bay n).enc.last = r.last ∧ (t.bay n).enc.still = r.still := by
  have hget {g : Field} (hg : (R.LINK_ERR.SEQ_GAP n).key < g.key) : (s.takeFrame n 0x04 f).get g = s.get g :=
    State.get_takeFrame_good hf (Nat.ne_of_gt hg)
  have hbay := State.bay_takeFrame_good (s := s) (n := n) hf
  have hstart : (s.takeFrame n 0x04 f).encStart n = s.encStart n := by
    rw [State.encStart, State.getS, hget (by simp only [R.LINK_ERR.SEQ_GAP, R.ENC_POS.COUNT]; omega), hbay, State.encStart, State.getS]
  have htake : (s.takeFrame n 0x04 f).encTake n f = (s.takeFrame n 0x04 f).encDecoded n r := by
    refine State.encTake_of_clean ?_ ?_ (by rw [hbay]; exact hhome) ?_ hclean hfresh
    · rw [State.on, hget (by simp only [R.LINK_ERR.SEQ_GAP, R.STEP_STAT.ENC_FAULT]; omega)]
      exact hfault
    · rw [State.on, hget (by simp only [R.LINK_ERR.SEQ_GAP, R.STEP_STAT.SLED_HOMED]; omega)]
      exact hhomed
    · rw [hstart, State.on, hget (by simp only [R.LINK_ERR.SEQ_GAP, R.STEP_CTL.ENC_DIR]; omega)]
      exact hr
  rw [does_iff (exec_encoderFrameReceive_good hn hf), htake, State.enc_encDecoded]
  exact ⟨State.get_encDecoded_count r, rfl, rfl⟩

theorem does_encoderFrameReceive_corrupt (hn : n < s.variant.bays) (f : UpFrame) (hf : frameGood 0x04 f = false) :
    Does (.encoderFrameReceive n f) s fun t =>
      t.get (R.LINK_ERR.CRC_UP n) = satAdd (R.LINK_ERR.CRC_UP n).width (s.get (R.LINK_ERR.CRC_UP n)) 1 ∧
      Leaves s t [R.LINK_ERR.CRC_UP n] [n] := by
  have harm : exec (.encoderFrameReceive n f) s = execEncoderFrameReceive n f s := rfl
  obtain ⟨g, hg⟩ := State.takeFrame_corrupt (s := s) (n := n) hf
  have hexec : exec (.encoderFrameReceive n f) s = .next ((s.count (R.LINK_ERR.CRC_UP n) 1).onLink n g) := by
    rw [harm, execEncoderFrameReceive, State.onBay_of_present hn]
    simp only [hf, Bool.false_eq_true, if_false, hg]
  rw [does_iff hexec]
  exact ⟨s.get_count_same _ 1, ((Leaves.refl s _ _).put (by simp) _).onLink (by simp) g⟩

/-! ## The end of coasting (R190) -/

theorem does_coastStoppedTimeout (hn : n < s.variant.bays) (hcoast : s.get (R.SPIN_STAT.PHASE n) = 6)
    (hpark : s.bayState n ≠ BS.PARKING) :
    Does (.coastStoppedTimeout n) s fun t => t.get (R.SPIN_STAT.STOPPED n) = 1 ∧ t.get (R.SPIN_STAT.PHASE n) = 0 ∧
      Leaves s t [R.SPIN_STAT.STOPPED n, R.SPIN_STAT.PHASE n] [] := by
  have harm : exec (.coastStoppedTimeout n) s = execCoastStoppedTimeout n s := rfl
  have hkey : (R.SPIN_STAT.STOPPED n).key ≠ (R.SPIN_STAT.PHASE n).key := by simp only [R.SPIN_STAT.STOPPED, R.SPIN_STAT.PHASE]; omega
  have hsame : SameFocus n s ((s.raise (R.SPIN_STAT.STOPPED n)).zero (R.SPIN_STAT.PHASE n)) :=
    ((SameFocus.refl n s).put (by simp only [R.STATE.STATE, R.SPIN_STAT.STOPPED]; omega) 1).put
      (by simp only [R.STATE.STATE, R.SPIN_STAT.PHASE]; omega) 0
  have hexec : exec (.coastStoppedTimeout n) s = .next ((s.raise (R.SPIN_STAT.STOPPED n)).zero (R.SPIN_STAT.PHASE n)) := by
    rw [harm, execCoastStoppedTimeout, State.onBay_of_present hn, if_pos hcoast,
      State.parkEnd_of_not_parking (by rw [hsame.bayState rfl]; exact hpark)]
  rw [does_iff hexec]
  refine ⟨?_, State.get_zero_same _ _, ((Leaves.refl s _ _).raise (by simp)).zero (by simp)⟩
  exact (State.get_put_other _ _ _ _ hkey).trans (s.get_raise_same _)

/-- Settles O13: each clause is one event of the steppers, the encoder or the spindle, its effect and its frame. -/
theorem stepperMotionEvents : Obligations.StepperMotionEvents := by
  unfold Obligations.StepperMotionEvents
  intro n s hn
  exact ⟨does_stepperArrived hn, does_homeHoldEnd_inward hn, does_plannerTick_standing hn, does_stallResync hn, does_encFaultClear hn,
    does_encoderFrameReceive_good hn, does_encoderFrameReceive_corrupt hn, does_coastStoppedTimeout hn⟩

end Sys2Proof.Machine
end

section
/-!
SUPPORT. The reading side of a bay: a read of memory leaves every bay alone (R445 to R460), and the frames of a bay that reads one
sector (R234, R235, R262).
-/

namespace Sys2Proof.Machine

/-! ## A read of memory leaves the bays alone (R445 to R460) -/

section
variable (s : State)

theorem State.bays_memCorrected (a dev : Nat) : (s.memCorrected a dev).bays = s.bays := by
  unfold State.memCorrected
  extract_lets ch counted now
  split
  show (ite _ _ _ : State).bays = s.bays
  split
  · exact State.record_bays ..
  · rfl

theorem State.bays_memUncorr (a id : Nat) : (s.memUncorr a id).bays = s.bays := by
  simp only [State.memUncorr, State.record_bays]
  split <;> rfl

theorem State.bays_memHold (ch id : Nat) : (s.memHold ch id).bays = s.bays := by
  unfold State.memHold
  split
  · rfl
  · exact State.record_bays ..

theorem State.bays_cacheUncorr (b : Nat) : (s.cacheUncorr b).bays = s.bays := by
  unfold State.cacheUncorr
  extract_lets
  split
  · split
    · exact State.record_bays ..
    · rfl
  · split
    · exact State.record_bays ..
    · rfl

theorem State.bays_memSeen (o : MemSeen) : (s.memSeen o).bays = s.bays := by
  have hcorrected (l : List (Nat × Nat)) (t : State) : (l.foldl (fun t e => t.memCorrected e.1 e.2) t).bays = t.bays := by
    refine State.foldl_same State.bays (fun t e => ?_) l t
    exact t.bays_memCorrected e.1 e.2
  have hcache (l : List Nat) (t : State) : (l.foldl (fun t a => t.cacheUncorr (a / 64)) t).bays = t.bays :=
    State.foldl_same State.bays (fun t a => t.bays_cacheUncorr (a / 64)) l t
  rw [State.memSeen, State.onMem_bays, hcache, hcorrected]
  rfl

theorem State.bays_evbShow : s.evbShow.bays = s.bays := rfl

theorem State.bays_evbDrain : s.evbDrain.bays = s.bays := by
  unfold State.evbDrain
  split <;> rfl

theorem State.bays_evict (line : Nat) (l : CacheLine) : (s.evict line l).bays = s.bays := by
  unfold State.evict State.evbPut
  split
  · rfl
  · rw [State.bays_evbShow, State.onMem_bays]
    split
    · exact State.bays_evbDrain _
    · rfl

theorem State.bays_chooseWay (line : Nat) : (s.chooseWay line).2.bays = s.bays := by
  unfold State.chooseWay
  extract_lets
  split
  · rfl
  · dsimp only
    split
    · exact State.bays_evict ..
    · rfl

theorem State.bays_allocTouch (wr : Bool) (b : Nat) : (s.allocTouch wr b).bays = s.bays := by
  unfold State.allocTouch
  split
  · rfl
  · extract_lets
    split
    · rfl
    · exact State.bays_chooseWay ..

theorem State.bays_streamTouch (wr : Bool) (b : Nat) : (s.streamTouch wr b).bays = s.bays := by
  unfold State.streamTouch
  split
  · rfl
  · extract_lets
    split
    · split <;> rfl
    · rfl

/-- However a read of memory ends, no bay's hidden state changes. -/
theorem State.bays_memRead (alloc : Bool) (id a k : Nat) (o : MemSeen) : (s.memRead alloc id a k o).2.bays = s.bays := by
  unfold State.memRead
  extract_lets bursts seen
  have hseen : seen.bays = s.bays := s.bays_memSeen o
  split
  · exact s.bays_memHold ..
  split
  · exact State.record_bays ..
  split
  · exact (seen.bays_memUncorr ..).trans hseen
  refine (State.foldl_same State.bays (fun t b => ?_) bursts seen).trans hseen
  cases alloc
  · exact t.bays_streamTouch false b
  · exact t.bays_allocTouch false b

theorem State.bay_memRead (alloc : Bool) (id a k : Nat) (o : MemSeen) (n : Nat) : (s.memRead alloc id a k o).2.bay n = s.bay n := by
  rw [State.bay, State.bays_memRead, State.bay]

end

/-! ## The frames of a bay -/

section
variable (s : State) (n : Nat)

@[simp] theorem State.bay_onRead_same (f : ReadS → ReadS) : (s.onRead n f).bay n = { s.bay n with reading := f (s.bay n).reading } :=
  State.bay_setBay_same ..

@[simp] theorem State.get_onRead (f : ReadS → ReadS) (g : Field) : (s.onRead n f).get g = s.get g := rfl

/-- The state in which the bay's frames are these. -/
def State.withFrames (l : List Frame) : State := s.onRead n fun r => { r with frames := l }

@[simp] theorem State.reading_withFrames (l : List Frame) :
    ((s.withFrames n l).bay n).reading = { (s.bay n).reading with frames := l } := by
  simp [State.withFrames]

variable {s n}

theorem State.onFrames_eq_withFrames {l : List Frame} (hl : (s.bay n).reading.frames = l) (f : List Frame → List Frame) :
    s.onFrames n f = s.withFrames n (f l) := by
  rw [State.withFrames, State.onFrames, State.onRead, State.onRead, hl]

theorem Leaves.onRead {t : State} {fs : List Field} {bs : List Nat} (h : Leaves s t fs bs) (hn : n ∈ bs) (f : ReadS → ReadS) :
    Leaves s (t.onRead n f) fs bs :=
  h.setBay hn _

/-- A change of the bay's frames alone. -/
theorem State.leaves_withFrames (l : List Frame) : Leaves s (s.withFrames n l) [] [n] :=
  (Leaves.refl s [] [n]).onRead (List.mem_singleton_self n) fun r => { r with frames := l }

end

/-! ## RC_STAT (R262) -/

/-- The fields of RC_STAT. -/
def rcStatFields (n : Nat) : List Field :=
  [R.RC_STAT.ENTRY n, R.RC_STAT.ENTRY_STATE n, R.RC_STAT.ENTRY_OK n, R.RC_STAT.GEN n, R.RC_STAT.FRAMING n, R.RC_STAT.VERIFY n]

/-- The state in which the frame `f`, which begins with the entry `e`, is the bay's only one and `e` is held and shown (R234, R262). -/
def State.beginFrame (s : State) (n : Nat) (f : Frame) (e : List Byte) : State :=
  (((s.withFrames n [f]).onRead n fun r => { r with held := some (f.idx, e, true) }).showEntry n).showFraming n

section
variable {s : State} {n : Nat}

/-- What frames is shown in FRAMING and VERIFY; no other field changes. -/
theorem State.get_showFraming_other {g : Field} (hframing : g.key ≠ (R.RC_STAT.FRAMING n).key)
    (hverify : g.key ≠ (R.RC_STAT.VERIFY n).key) : (s.showFraming n).get g = s.get g :=
  (State.get_put_other _ _ _ _ hverify).trans (State.get_put_other _ _ _ _ hframing)

@[simp] theorem State.bay_showFraming (m : Nat) : (s.showFraming n).bay m = s.bay m := rfl

theorem Leaves.showFraming {t : State} {bs : List Nat} (h : Leaves s t (rcStatFields n) bs) :
    Leaves s (t.showFraming n) (rcStatFields n) bs :=
  (h.put (by simp [rcStatFields]) _).put (by simp [rcStatFields]) _

/-- A held entry that passed R235 is shown with its index, its state and its generation. -/
theorem State.showEntry_of_held {i : Nat} {e : List Byte} (hheld : (s.bay n).reading.held = some (i, e, true)) : s.showEntry n =
    (((s.put (R.RC_STAT.ENTRY n) i).put (R.RC_STAT.ENTRY_STATE n) (zU e 2 1)).putB (R.RC_STAT.ENTRY_OK n) true).put (R.RC_STAT.GEN n)
      (zU e 10 2) := by
  rw [State.showEntry, hheld]

theorem Leaves.showEntry_of_held {t : State} {bs : List Nat} (h : Leaves s t (rcStatFields n) bs) {i : Nat} {e : List Byte}
    (hheld : (t.bay n).reading.held = some (i, e, true)) : Leaves s (t.showEntry n) (rcStatFields n) bs := by
  rw [State.showEntry_of_held hheld]
  exact (((h.put (by simp [rcStatFields]) _).put (by simp [rcStatFields]) _).put (by simp [rcStatFields]) _).put (by simp [rcStatFields]) _

section
variable {i : Nat} {e : List Byte} (hheld : (s.bay n).reading.held = some (i, e, true))
include hheld

theorem State.bay_showEntry_of_held (m : Nat) : (s.showEntry n).bay m = s.bay m := by
  rw [State.showEntry_of_held hheld]
  rfl

theorem State.get_entry_showEntry_of_held : (s.showEntry n).get (R.RC_STAT.ENTRY n) = i % 2 ^ 9 := by
  rw [State.showEntry_of_held hheld, State.get_put_other _ _ _ _ (by simp [R.RC_STAT.ENTRY, R.RC_STAT.GEN]), State.putB,
    State.get_put_other _ _ _ _ (by simp [R.RC_STAT.ENTRY, R.RC_STAT.ENTRY_OK]),
    State.get_put_other _ _ _ _ (by simp [R.RC_STAT.ENTRY, R.RC_STAT.ENTRY_STATE])]
  exact State.get_put_same ..

theorem State.get_entryOk_showEntry_of_held : (s.showEntry n).get (R.RC_STAT.ENTRY_OK n) = 1 := by
  rw [State.showEntry_of_held hheld, State.get_put_other _ _ _ _ (by simp [R.RC_STAT.ENTRY_OK, R.RC_STAT.GEN])]
  exact State.get_put_same ..

theorem State.get_gen_showEntry_of_held : (s.showEntry n).get (R.RC_STAT.GEN n) = zU e 10 2 % 65536 := by
  rw [State.showEntry_of_held hheld]
  exact State.get_put_same ..

end

variable (s n) (f : Frame) (e : List Byte)

/-- Beginning a frame makes it the bay's only one, and its entry the held one; what is shown of them changes no bay. -/
theorem State.reading_beginFrame :
    ((s.beginFrame n f e).bay n).reading = { (s.bay n).reading with frames := [f], held := some (f.idx, e, true) } := by
  rw [State.beginFrame, State.bay_showFraming, State.bay_showEntry_of_held (by rw [State.bay_onRead_same]), State.bay_onRead_same,
    State.reading_withFrames]

theorem State.get_beginFrame_entry : (s.beginFrame n f e).get (R.RC_STAT.ENTRY n) = f.idx % 2 ^ 9 :=
  (State.get_showFraming_other (by simp [R.RC_STAT.ENTRY, R.RC_STAT.FRAMING]) (by simp [R.RC_STAT.ENTRY, R.RC_STAT.VERIFY])).trans
    (State.get_entry_showEntry_of_held (by rw [State.bay_onRead_same]))

theorem State.get_beginFrame_entryOk : (s.beginFrame n f e).get (R.RC_STAT.ENTRY_OK n) = 1 :=
  (State.get_showFraming_other (by simp [R.RC_STAT.ENTRY_OK, R.RC_STAT.FRAMING]) (by simp [R.RC_STAT.ENTRY_OK, R.RC_STAT.VERIFY])).trans
    (State.get_entryOk_showEntry_of_held (by rw [State.bay_onRead_same]))

theorem State.get_beginFrame_gen : (s.beginFrame n f e).get (R.RC_STAT.GEN n) = zU e 10 2 % 65536 :=
  (State.get_showFraming_other (by simp [R.RC_STAT.GEN, R.RC_STAT.FRAMING]) (by simp [R.RC_STAT.GEN, R.RC_STAT.VERIFY])).trans
    (State.get_gen_showEntry_of_held (by rw [State.bay_onRead_same]))

theorem State.leaves_beginFrame : Leaves s (s.beginFrame n f e) (rcStatFields n) [n] := by
  have hn : n ∈ [n] := List.mem_singleton_self n
  have hframes : Leaves s (s.withFrames n [f]) (rcStatFields n) [n] := (Leaves.refl s _ _).onRead hn _
  exact ((hframes.onRead hn _).showEntry_of_held (by rw [State.bay_onRead_same])).showFraming

end

end Sys2Proof.Machine
end

section
/-!
PROOF. One sector frame: the end of its entry's fetch (R235), its preamble (R234, R262), and the detector passes (R249 to R252) and
on-the-fly decodes (R270) of its members.
-/

namespace Sys2Proof.Machine

variable {s : State} {n : Nat}

/-! ## The end of an entry's fetch (R235) -/

/-- The state with an entry that passed R235 in the bay's only frame. -/
def State.entryTaken (s : State) (n : Nat) (f : Frame) (e : List Byte) : State :=
  (s.onRead n fun r => { r with badSeen := r.badSeen.filter (· != f.idx) }).withFrames n [{ f with fetch := .good e }]

theorem exec_zoneEntryFetchDone_good (hn : n < s.variant.bays) {f : Frame} {o : MemSeen} {e : List Byte}
    (hframes : (s.bay n).reading.frames = [f]) (hfetch : f.fetch = .running)
    (hread : (s.memRead true n (s.ztAddr n f.idx) 256 o).1 = .done e)
    (hgood : (s.memRead true n (s.ztAddr n f.idx) 256 o).2.entryFault n f.idx e = 0) :
    exec (.zoneEntryFetchDone n o) s = .next ((s.memRead true n (s.ztAddr n f.idx) 256 o).2.entryTaken n f e) := by
  have harm : exec (.zoneEntryFetchDone n o) s = execZoneEntryFetchDone n o s := rfl
  have hfind : [f].find? (fun g => g.fetch == .running) = some f := by simp [hfetch]
  obtain ⟨t, hanswer⟩ : ∃ t, s.memRead true n (s.ztAddr n f.idx) 256 o = (.done e, t) := ⟨_, Prod.ext hread rfl⟩
  have hbay : t.bay n = s.bay n := by
    have h := s.bay_memRead true n (s.ztAddr n f.idx) 256 o n
    rwa [hanswer] at h
  rw [hanswer] at hgood ⊢
  have hone : ((t.onRead n fun r => { r with badSeen := r.badSeen.filter (· != f.idx) }).bay n).reading.frames = [f] := by
    rw [State.bay_onRead_same, hbay]
    exact hframes
  rw [harm, execZoneEntryFetchDone, State.onBay_of_present hn, hframes]
  simp [hfind, hanswer, hgood, State.entryTaken, State.onFrames_eq_withFrames hone, hfetch]

theorem does_zoneEntryFetchDone_good (hn : n < s.variant.bays) (f : Frame) (o : MemSeen) (e : List Byte)
    (hframes : (s.bay n).reading.frames = [f]) (hfetch : f.fetch = .running)
    (hread : (s.memRead true n (s.ztAddr n f.idx) 256 o).1 = .done e)
    (hgood : (s.memRead true n (s.ztAddr n f.idx) 256 o).2.entryFault n f.idx e = 0) :
    Does (.zoneEntryFetchDone n o) s fun t => (t.bay n).reading.frames = [{ f with fetch := .good e }] ∧
      (t.bay n).reading.badSeen = (s.bay n).reading.badSeen.filter (· != f.idx) := by
  rw [does_iff (exec_zoneEntryFetchDone_good hn hframes hfetch hread hgood), State.entryTaken, State.reading_withFrames,
    State.bay_onRead_same, State.bay_memRead]
  exact ⟨rfl, rfl⟩

/-! ## The preamble (R234, R239, R262) -/

/-- A frame begun with the entry `e`: each member's first preamble period stands where `pos` says, and its periods follow at `step`. -/
def Frame.begun (f : Frame) (e : List Byte) (pos : List Int) (step : Int) : Frame :=
  { f with started := true, late := false, entry := e, members := f.members.map fun m => { m with pos := pos.getD m.beam 0, step := step } }

theorem exec_sectorPreambleStart_good (hn : n < s.variant.bays) {f : Frame} {e : List Byte} (pos : List Int)
    (hframes : (s.bay n).reading.frames = [f]) (hstarted : f.started = false) (hfetch : f.fetch = .good e) :
    exec (.sectorPreambleStart n pos) s = .next (s.beginFrame n (f.begun e pos
      (nominalStep (s.get (R.LINK_CTL.ADC_RATE n)) (s.get (R.ANG_RATE.RATE n)) (zoneOfTrack f.at_.track))) e) := by
  have harm : exec (.sectorPreambleStart n pos) s = execSectorPreambleStart n pos s := rfl
  have hfind : [f].find? (fun g => !g.started) = some f := by simp [hstarted]
  rw [harm, execSectorPreambleStart, State.onBay_of_present hn, hframes]
  simp [hfind, hfetch, State.onFrames_eq_withFrames hframes, hstarted, State.beginFrame, Frame.begun]

theorem does_sectorPreambleStart_good (hn : n < s.variant.bays) (f : Frame) (e : List Byte) (pos : List Int)
    (hframes : (s.bay n).reading.frames = [f]) (hstarted : f.started = false) (hfetch : f.fetch = .good e) (hidx : f.idx < 512) :
    Does (.sectorPreambleStart n pos) s fun t => ((t.bay n).reading.frames.map fun g => (g.started, g.entry)) = [(true, e)] ∧
      (t.bay n).reading.held = some (f.idx, e, true) ∧ t.get (R.RC_STAT.ENTRY n) = f.idx ∧ t.get (R.RC_STAT.ENTRY_OK n) = 1 ∧
      t.get (R.RC_STAT.GEN n) = zU e 10 2 % 65536 ∧ Leaves s t (rcStatFields n) [n] := by
  rw [does_iff (exec_sectorPreambleStart_good hn pos hframes hstarted hfetch), State.reading_beginFrame]
  exact ⟨rfl, rfl, (State.get_beginFrame_entry ..).trans (Nat.mod_eq_of_lt hidx), State.get_beginFrame_entryOk ..,
    State.get_beginFrame_gen .., State.leaves_beginFrame ..⟩

theorem does_sectorPreambleStart_bad (hn : n < s.variant.bays) (f : Frame) (pos : List Int) (hframes : (s.bay n).reading.frames = [f])
    (hstarted : f.started = false) (hfetch : f.fetch = .bad) :
    Does (.sectorPreambleStart n pos) s fun t => (t.bay n).reading.frames = [] ∧ Leaves s t [] [n] := by
  have harm : exec (.sectorPreambleStart n pos) s = execSectorPreambleStart n pos s := rfl
  have hfind : [f].find? (fun g => !g.started) = some f := by simp [hstarted]
  have hexec : exec (.sectorPreambleStart n pos) s = .next (s.withFrames n []) := by
    rw [harm, execSectorPreambleStart, State.onBay_of_present hn, hframes]
    simp [hfind, hfetch, State.onFrames_eq_withFrames hframes, hstarted]
  rw [does_iff hexec, State.reading_withFrames]
  exact ⟨rfl, State.leaves_withFrames _⟩

/-! ## Detector passes (R249 to R252) -/

theorem does_detectorPassDone (hn : n < s.variant.bays) (f : Frame) (hframes : (s.bay n).reading.frames = [f]) (hready : f.ready = true) :
    Does (.detectorPassDone n) s fun t =>
      (t.bay n).reading.frames = [{ f with members := f.members.map fun m => if m.done then m else f.pass (s.on (R.RC_CTL.SIDE_EN n)) m }] ∧
      Leaves s t [] [n] := by
  have harm : exec (.detectorPassDone n) s = execDetectorPassDone n s := rfl
  have hfind : [f].find? (·.ready) = some f := by simp [hready]
  have hexec : exec (.detectorPassDone n) s = .next (s.withFrames n
      [{ f with members := f.members.map fun m => if m.done then m else f.pass (s.on (R.RC_CTL.SIDE_EN n)) m }]) := by
    rw [harm, execDetectorPassDone, State.onBay_of_present hn, hframes]
    simp [hfind, State.onFrames_eq_withFrames hframes, hready]
  rw [does_iff hexec, State.reading_withFrames]
  exact ⟨rfl, State.leaves_withFrames _⟩

/-! ## On-the-fly decodes (R270) -/

/-- A member after an on-the-fly decode with the bay's settings: iterations up to OTF_ITER, and OTF_XCH + 1 passes. -/
def State.otfMember (s : State) (n : Nat) (m : Member) : Member :=
  m.otf (min 7 (s.get (R.DEC_CTL.OFFSET n))) (s.acting (R.DEC_CTL.OTF_ITER n) 1 6) (min 2 (s.get (R.DEC_CTL.OTF_XCH n)) + 1)

theorem does_otfDecodeDone_unfinished (hn : n < s.variant.bays) (f : Frame) (m : Member) (hframes : (s.bay n).reading.frames = [f])
    (hstarted : f.started = true) (hmembers : f.members = [m]) (hframed : m.framed = true) (hundone : m.done = false)
    (hpasses : m.decoded < m.passes) (hunfinished : (s.otfMember n m).done = false) :
    Does (.otfDecodeDone n) s fun t => Leaves s t [] [n] ∧ (t.bay n).reading.frames = [{ f with members := [s.otfMember n m] }] := by
  have harm : exec (.otfDecodeDone n) s = execOtfDecodeDone n s := rfl
  have hexec : exec (.otfDecodeDone n) s = .next (s.withFrames n [{ f with members := [s.otfMember n m] }]) := by
    rw [State.otfMember] at hunfinished
    rw [harm, execOtfDecodeDone, State.onBay_of_present hn, hframes]
    simp [hstarted, hmembers, hframed, hundone, hpasses, hunfinished, State.onFrames_eq_withFrames hframes, State.otfMember]
  rw [does_iff hexec, State.reading_withFrames]
  exact ⟨State.leaves_withFrames _, rfl⟩

/-- Settles O21: each clause is one event of a frame's reading, from the end of its entry's fetch to a decode of its member. -/
theorem sectorFramesAreReadInStages : Obligations.SectorFramesAreReadInStages := by
  unfold Obligations.SectorFramesAreReadInStages
  intro n s hn
  exact ⟨does_zoneEntryFetchDone_good hn, does_sectorPreambleStart_good hn, does_sectorPreambleStart_bad hn, does_detectorPassDone hn,
    does_otfDecodeDone_unfinished hn⟩

end Sys2Proof.Machine
end

section
/-!
SUPPORT. The rungs of a bay (R274, R285): a bay with a single rung, what a change of its ladder and a ledger record leave of the ladder's
conditions, and one climb to a step that is open.
-/

namespace Sys2Proof.Machine

variable {s : State} {n : Nat}

/-! ## The ladder of a bay -/

/-- The state in which the bay's ladder holds these rungs. -/
def State.withLadder (s : State) (n : Nat) (l : List Rung) : State := s.onRead n fun r => { r with ladder := l }

@[simp] theorem State.bay_withLadder (s : State) (n : Nat) (l : List Rung) :
    (s.withLadder n l).bay n = { s.bay n with reading := { (s.bay n).reading with ladder := l } } := State.bay_onRead_same ..

@[simp] theorem State.get_withLadder (s : State) (n : Nat) (l : List Rung) (g : Field) : (s.withLadder n l).get g = s.get g := rfl

theorem State.rung?_of_ladder_singleton {g : Rung} (hladder : (s.bay n).reading.ladder = [g]) : s.rung? n g.tag g.item = some g := by
  simp [State.rung?, hladder]

theorem State.onRung_of_ladder_singleton {g : Rung} (hladder : (s.bay n).reading.ladder = [g]) (f : Rung → Rung) :
    s.onRung n g.tag g.item f = s.withLadder n [f g] := by
  rw [State.onRung, State.withLadder, State.onRead, State.onRead, hladder]
  simp

@[simp] theorem State.ladder_pumpRungs (s : State) (n : Nat) :
    ((s.pumpRungs n).bay n).reading.ladder = queueRungs 8 (s.bay n).reading.ladder := by
  simp [State.pumpRungs]

/-! ## Whether a step is open (R274, R277) -/

theorem State.extentOpen_withLadder (s : State) (n : Nat) (l : List Rung) (x : Nat) :
    (s.withLadder n l).extentOpen n x = s.extentOpen n x := by
  simp [State.extentOpen, State.extentClosed, State.recordOf, State.discId]

theorem State.extentOpen_recordBay (s : State) (n b code : Nat) (detail : List Nat) (x : Nat) :
    (s.recordBay b code detail).extentOpen n x = s.extentOpen n x := by
  simp [State.extentOpen, State.extentClosed, State.recordOf, State.discId]

/-- Step 5 is open to a rung where it is enabled and the rung's home slot is of an extent not known to be open. -/
theorem State.stepOpen_five_iff {g : Rung} : s.stepOpen n 5 g = true ↔
    bitAt (s.get (R.DR_CTL.STEP_EN n)) 5 = true ∧ ∃ x p, homeExtent g.home = some (x, p) ∧ s.extentOpen n x = false := by
  cases hhome : homeExtent g.home with
  | none => simp [State.stepOpen, hhome]
  | some place => simp [State.stepOpen, hhome, Prod.ext_iff]

/-! ## The limit of a command, and the hook (R281, R501) -/

/-- The highest ladder step that the command of a tag allows; 6 where no command has the tag. -/
def State.stepLimit (s : State) (n t : Nat) : Nat := match s.tag? n t with | some c => c.maxStep | none => 6

theorem State.stepLimit_congr {t : State} (htags : (t.bay n).tags = (s.bay n).tags) (tag : Nat) :
    t.stepLimit n tag = s.stepLimit n tag := by
  rw [State.stepLimit, State.tag?, htags]
  rfl

theorem State.le_stepLimit {k tag : Nat} (hk : k ≤ 6)
    (hallowed : (match s.tag? n tag with | some c => decide (k ≤ c.maxStep) | none => true) = true) : k ≤ s.stepLimit n tag := by
  unfold State.stepLimit
  cases htag : s.tag? n tag with
  | none => exact hk
  | some c => simpa [htag] using hallowed

/-- A bay that no sequencer serves is between the two idle boundaries of a move (R485). -/
theorem State.servingSeq_eq_none_iff : s.servingSeq n = none ↔ ∃ q p, (s.bay n).move = some (q, p, true) := by
  unfold State.servingSeq
  split
  · next q p hmove => simp [hmove]
  · next hmove => simpa using fun q p h => hmove q p h

theorem State.hookStep_of_unserved (hserving : s.servingSeq n = none) (p : Nat) (g : Rung) : s.hookStep n p g = (p, s) := by
  simp [State.hookStep, State.callHook, hserving]

/-! ## A climb to an open step (R274) -/

theorem State.proposed_five {g : Rung} (hopen : s.stepOpen n 5 g = true) : s.proposed n g 5 = 5 := by
  simp [State.proposed, List.range_succ, hopen]

/-- A rung as it enters step `k`: its capture stands for step 0 only. -/
def Rung.entering (g : Rung) (k : Nat) : Rung :=
  { g with step := k, reads := 0, top := if g.top = 0xFF then k else max k g.top, entered := setBit g.entered k true,
           capture := if k = 0 then g.capture else none }

theorem State.climbFrom_of_open {g : Rung} {k fuel : Nat} (e : Nat) (hladder : (s.bay n).reading.ladder = [g]) (hcapture : g.capture = none)
    (hk : k ≤ 5) (hlimit : k ≤ s.stepLimit n g.tag) (hopen : s.stepOpen n k g = true) :
    State.climbFrom n g.tag g.item e (fuel + 1) k s = (s.withLadder n [g.entering k]).pumpRungs n := by
  have hlast : ¬ 6 ≤ k := by omega
  have hallowed : ¬ (k ≤ 5 ∧ s.stepLimit n g.tag < k) := by omega
  rw [State.climbFrom, State.rung?_of_ladder_singleton hladder]
  refine (if_neg hallowed).trans ?_
  simp only [hlast, hopen, hcapture, if_false, if_true, Option.isSome_none, Bool.false_eq_true, false_and, and_false]
  rw [State.onRung_of_ladder_singleton hladder, Rung.entering, hcapture]

theorem State.climb_of_five_open {g : Rung} {fuel : Nat} (e : Nat) (hladder : (s.bay n).reading.ladder = [g]) (hcapture : g.capture = none)
    (hserving : s.servingSeq n = none) (hlimit : 5 ≤ s.stepLimit n g.tag) (hopen : s.stepOpen n 5 g = true) :
    s.climb n g.tag g.item e (fuel + 1) 5 = (s.withLadder n [g.entering 5]).pumpRungs n := by
  rw [State.climb, State.rung?_of_ladder_singleton hladder]
  simp only [State.proposed_five hopen, State.hookStep_of_unserved hserving]
  exact State.climbFrom_of_open e hladder hcapture (Nat.le_refl 5) hlimit hopen

end Sys2Proof.Machine
end

section
/-!
PROOF. The end of an extent's rebuild (R279, R280), which leaves none of its shadowed slots waiting, and the end of DR_TMO (R285), which
takes an item to step 5 at once.
-/

namespace Sys2Proof.Machine

variable {s : State} {n : Nat}

/-! ## A rebuild of an extent -/

/-- Whether a home slot belongs to extent `x`. -/
def inExtent (x home : Nat) : Bool := match homeExtent home with | some (y, _) => y == x | none => false

theorem inExtent_of_homeExtent {x p home : Nat} (h : homeExtent home = some (x, p)) : inExtent x home = true := by
  simp [inExtent, h]

/-- The state in which no shadowed slot of extent `x` waits any more. -/
def State.shadowsResolved (s : State) (n x : Nat) : State :=
  s.onRead n fun r => { r with shadows := r.shadows.filter fun h => !inExtent x h }

theorem State.shadows_shadowsResolved (s : State) (n x : Nat) :
    ((s.shadowsResolved n x).bay n).reading.shadows = (s.bay n).reading.shadows.filter fun h => !inExtent x h := by
  simp [State.shadowsResolved]

theorem State.reading_learnClosed (s : State) (n x : Nat) (reads : List (Nat × PosSeen)) :
    ((s.learnClosed n x reads).bay n).reading = (s.bay n).reading := by
  unfold State.learnClosed
  split
  · simp [State.markClosed]
  · rfl

/-- Every way a rebuild ends: with nothing done where no shadowed slot of the extent waits, else with those slots resolved last. -/
theorem exec_extentReconDone_cases (hn : n < s.variant.bays) (x : Nat) (reads : List (Nat × PosSeen)) :
    (exec (.extentReconDone n x reads) s = .next s ∧ (s.bay n).reading.shadows.filter (inExtent x) = []) ∨
      ∃ u : State, exec (.extentReconDone n x reads) s = .next (u.shadowsResolved n x) := by
  have harm : exec (.extentReconDone n x reads) s = execExtentReconDone n x reads s := rfl
  rw [harm, execExtentReconDone, State.onBay_of_present hn]
  dsimp only
  split
  · next hnone =>
    rw [Bool.and_eq_true, List.isEmpty_iff, State.reading_learnClosed] at hnone
    exact .inl ⟨rfl, hnone.2⟩
  · right
    split
    · exact ⟨_, rfl⟩
    · split
      · exact ⟨_, rfl⟩
      · split
        · exact ⟨_, rfl⟩
        · exact ⟨_, rfl⟩

theorem does_extentReconDone (hn : n < s.variant.bays) (x : Nat) (reads : List (Nat × PosSeen)) :
    Does (.extentReconDone n x reads) s fun t =>
      ∀ h ∈ (t.bay n).reading.shadows, ∀ p ∈ List.range 64, homeExtent h ≠ some (x, p) := by
  rcases exec_extentReconDone_cases hn x reads with ⟨hexec, hnone⟩ | ⟨u, hexec⟩
  · rw [does_iff hexec]
    intro h hshadow p _ hhome
    exact List.filter_eq_nil_iff.mp hnone h hshadow (inExtent_of_homeExtent hhome)
  · rw [does_iff hexec, State.shadows_shadowsResolved]
    intro h hshadow p _ hhome
    have hout := (List.mem_filter.mp hshadow).2
    simp [inExtent_of_homeExtent hhome] at hout

/-! ## DR_TMO -/

/-- A rung whose step in progress is abandoned: its capture and its place in the queue are given up. -/
def Rung.abandoned (g : Rung) : Rung := { g with capture := none, queued := false, running := false }

/-- The state in which the time limit of the bay's only rung is recorded and its step abandoned. -/
def State.timedOut (s : State) (n : Nat) (g : Rung) : State :=
  (s.recordBay n 0x0904 [g.step, g.home]).withLadder n [g.abandoned]

theorem State.bay_timedOut (s : State) (n : Nat) (g : Rung) :
    (s.timedOut n g).bay n = { s.bay n with reading := { (s.bay n).reading with ladder := [g.abandoned] } } := by
  rw [State.timedOut, State.bay_withLadder, State.bay_recordBay]

theorem State.stepOpen_five_timedOut {g : Rung} (hopen : s.stepOpen n 5 g = true) : (s.timedOut n g).stepOpen n 5 g.abandoned = true := by
  obtain ⟨henabled, x, p, hhome, hextent⟩ := State.stepOpen_five_iff.mp hopen
  have hrecorder : (R.DR_CTL.STEP_EN n).recorder = false := Field.recorder_of_bayBlock (by simp only [R.DR_CTL.STEP_EN]; omega)
  refine State.stepOpen_five_iff.mpr ⟨?_, x, p, hhome, ?_⟩
  · rwa [State.timedOut, State.get_withLadder, State.get_recordBay _ _ _ _ _ hrecorder]
  · rwa [State.timedOut, State.extentOpen_withLadder, State.extentOpen_recordBay]

theorem exec_ladderTimeout_before_five (hn : n < s.variant.bays) {g : Rung} (hladder : (s.bay n).reading.ladder = [g]) (hstep : g.step < 5) :
    exec (.ladderTimeout n g.tag g.item) s = .next ((s.timedOut n g).climb n g.tag g.item 0xFF 8 5) := by
  have harm : exec (.ladderTimeout n g.tag g.item) s = execLadderTimeout n g.tag g.item s := rfl
  have hrecorded : ((s.recordBay n 0x0904 [g.step, g.home]).bay n).reading.ladder = [g] := by rw [State.bay_recordBay, hladder]
  rw [harm, execLadderTimeout, State.onBay_of_present hn, State.rung?_of_ladder_singleton hladder]
  simp only [Nat.not_le.mpr hstep, if_false]
  rw [State.onRung_of_ladder_singleton hrecorded]
  rfl

theorem does_ladderTimeout (hn : n < s.variant.bays) (g : Rung) (hladder : (s.bay n).reading.ladder = [g]) (hstep : g.step < 5)
    (hserving : s.servingSeq n = none) (hopen : s.stepOpen n 5 g = true)
    (hallowed : (match s.tag? n g.tag with | some c => decide (5 ≤ c.maxStep) | none => true) = true) :
    Does (.ladderTimeout n g.tag g.item) s fun t => (t.bay n).reading.ladder = queueRungs 8 [g.abandoned.entering 5] := by
  have hbay := s.bay_timedOut n g
  have hunserved : (s.timedOut n g).servingSeq n = none := by
    rw [State.servingSeq_eq_none_iff, hbay]
    exact State.servingSeq_eq_none_iff.mp hserving
  have hlimit : 5 ≤ (s.timedOut n g).stepLimit n g.tag := by
    rw [State.stepLimit_congr (s := s) (by rw [hbay])]
    exact State.le_stepLimit (by omega) hallowed
  have hclimb : (s.timedOut n g).climb n g.tag g.item 0xFF 8 5 = ((s.timedOut n g).withLadder n [g.abandoned.entering 5]).pumpRungs n :=
    State.climb_of_five_open (g := g.abandoned) 0xFF (by rw [hbay]) rfl hunserved hlimit (State.stepOpen_five_timedOut hopen)
  rw [does_iff (exec_ladderTimeout_before_five hn hladder hstep), hclimb, State.ladder_pumpRungs, State.bay_withLadder]

/-- Settles O23: a rebuild ends with its extent's shadowed slots resolved, and the end of DR_TMO is a climb from step 5 on. -/
theorem extentRebuildAndLadderTimeout : Obligations.ExtentRebuildAndLadderTimeout := by
  unfold Obligations.ExtentRebuildAndLadderTimeout
  intro n s hn
  exact ⟨does_extentReconDone hn, does_ladderTimeout hn⟩

end Sys2Proof.Machine
end

section
/-!
PROOF. A receipt whose ring loses its tail: the statement's clause about the oldest receipt (R353) speaks of every state, also of one that
holds a receipt of a ring that the doorbell page has no head for (R342).
-/

namespace Sys2Proof.Machine

/-- Requests may issue, and a receipt of ring 4736 is the oldest.  Receipt rings end at 255 (R342), but nothing bounds the ring of a
receipt held, and the `RCP_TAIL` of this one lies where the pending bits of vectors 160 to 191 do; its `VECTOR` is 165, and messages are
off. -/
def strayReceipt : State :=
  ({ State.reset with
      pcie := { busMaster := true }
      porter := { receipts := [⟨4736, 5, 0, 0, 0xFF, 0, 0, 0, 0, 0, 0, 0, false⟩] } } : State).put (R.RCP_CFG.VECTOR 4736) 165

/-- The tail moves on to 1, and then the ring's message is held in the PBA: bit 5 is set over the `TAIL` just written. -/
theorem exec_receiptWrite_strayReceipt : ∃ t, exec .receiptWrite strayReceipt = .next t ∧ t.get (R.RCP_TAIL.TAIL 4736) = 33 :=
  ⟨_, rfl, by decide +kernel⟩

/-- Refutes O30: in `strayReceipt` the oldest receipt is written from tail 0 of a ring of 16 entries, and its ring's `TAIL` reads 33. -/
theorem not_haltsReceiptsAndMessages : ¬ Obligations.HaltsReceiptsAndMessages := by
  unfold Obligations.HaltsReceiptsAndMessages
  intro h
  have hfirst : strayReceipt.get (R.RCP_TAIL.TAIL 4736) = 0 := by decide +kernel
  have hsize : strayReceipt.rcpSize 4736 = 16 := by decide +kernel
  obtain ⟨-, -, -, -, -, -, hreceipt, -⟩ := h strayReceipt
  obtain ⟨t, hexec, htail⟩ := exec_receiptWrite_strayReceipt
  obtain ⟨-, -, hmoved⟩ := (does_iff hexec).mp (hreceipt _ [] rfl rfl)
  rw [hfirst, hsize, if_neg (by decide)] at hmoved
  obtain ⟨hone, -⟩ := hmoved
  rw [htail] at hone
  exact absurd hone (by decide)

end Sys2Proof.Machine
end

section
/-!
SUPPORT. The pending bits of MSI-X vectors (R620), and what releasing the messages held in them does (R340, R359): a vector at a time,
its bit goes and its message leaves, unless the vector is held.
-/

namespace Sys2Proof.Machine

section
variable (s : State)

/-! ## Pending bits (R620) -/

theorem State.get_pbaSet (v : Nat) (b : Bool) {g : Field} (hg : g.key ≠ (R.MSIX_PBA.PEND (v / 32)).key) :
    (s.pbaSet v b).get g = s.get g :=
  s.get_put_other _ _ _ hg

theorem State.pbaPending_pbaSet (v w : Nat) (b : Bool) : (s.pbaSet v b).pbaPending w = if w = v then b else s.pbaPending w := by
  have hw : w % 32 < 32 := Nat.mod_lt _ (by decide)
  by_cases hword : w / 32 = v / 32
  · have hbit : (s.pbaSet v b).pbaPending w = if w % 32 = v % 32 then b else s.pbaPending w := by
      rw [State.pbaPending, State.pbaPending, hword]
      exact State.bitOf_setBitOf s (f := R.MSIX_PBA.PEND (v / 32)) (v % 32) b hw
    have hsame : w % 32 = v % 32 ↔ w = v := by omega
    simp only [hbit, hsame]
  · have hkey : (R.MSIX_PBA.PEND (w / 32)).key ≠ (R.MSIX_PBA.PEND (v / 32)).key := by
      simp only [R.MSIX_PBA.PEND]
      omega
    have hne : w ≠ v := fun e => hword (by rw [e])
    rw [if_neg hne, State.pbaPending, s.get_pbaSet v b hkey, State.pbaPending]

/-- The MASK of a vector is no word of pending bits. -/
theorem mask_key_ne_pend {v : Nat} (hv : v < 2048) (j : Nat) : (R.MSIX_CTL.MASK v).key ≠ (R.MSIX_PBA.PEND j).key := by
  simp only [R.MSIX_CTL.MASK, R.MSIX_PBA.PEND]
  omega

/-! ## Messages -/

/-- A message is no request to host memory, so it leaves at once. -/
theorem State.sendMsix_eq (v : Nat) : s.sendMsix v =
    { s with out := .msix (s.get (R.MSIX_ADDR_LO.ADDR v) + 2 ^ 32 * s.get (R.MSIX_ADDR_HI.ADDR v)) (s.get (R.MSIX_DATA.DATA v)) :: s.out } :=
  rfl

/-- The rings of vector `v` have no pending receipts any more. -/
def State.clearRingsOf (s : State) (v : Nat) : State :=
  (List.range 256).foldl (fun s r => if s.get (R.RCP_CFG.VECTOR r) = v then s.setPendingOf r 0 else s) s

theorem State.clearRingsOf_eq (v : Nat) : ∃ m, s.clearRingsOf v = { s with rcps := m } := by
  unfold State.clearRingsOf
  generalize List.range 256 = l
  induction l generalizing s with
  | nil => exact ⟨s.rcps, rfl⟩
  | cons r l ih =>
    rw [List.foldl_cons]
    split
    · exact ih (s.setPendingOf r 0)
    · exact ih s

/-- The message held for vector `v` is sent, if there is one and nothing holds it longer. -/
def State.releaseVector (s : State) (v : Nat) : State :=
  if s.pbaPending v && !s.vectorHeld v then ((s.sendMsix v).pbaSet v false).clearRingsOf v else s

theorem State.releaseVectors_eq : s.releaseVectors = (List.range 2048).foldl State.releaseVector s := rfl

/-- A release leaves the state alone, where the vector has no message or is held; or it sends one message and clears its bit. -/
theorem State.releaseVector_cases (v : Nat) :
    (s.releaseVector v = s ∧ (s.pbaPending v = true → s.vectorHeld v = true)) ∨
    ∃ e m, s.releaseVector v = { s.pbaSet v false with out := e :: s.out, rcps := m } := by
  unfold State.releaseVector
  split
  · obtain ⟨m, hm⟩ := ((s.sendMsix v).pbaSet v false).clearRingsOf_eq v
    exact .inr ⟨_, m, hm⟩
  · next hnot =>
    refine .inl ⟨rfl, fun hpending => ?_⟩
    simpa [hpending] using hnot

/-! ## What a release leaves -/

theorem State.pcie_releaseVector (v : Nat) : (s.releaseVector v).pcie = s.pcie := by
  obtain ⟨h, -⟩ | ⟨e, m, h⟩ := s.releaseVector_cases v <;> rw [h]
  rfl

theorem State.heldOut_releaseVector (v : Nat) : (s.releaseVector v).heldOut = s.heldOut := by
  obtain ⟨h, -⟩ | ⟨e, m, h⟩ := s.releaseVector_cases v <;> rw [h]
  rfl

theorem State.out_subset_releaseVector (v : Nat) : s.out ⊆ (s.releaseVector v).out := by
  obtain ⟨h, -⟩ | ⟨e, m, h⟩ := s.releaseVector_cases v <;> rw [h]
  · exact List.Subset.refl _
  · exact List.subset_cons_self e s.out

theorem State.mask_releaseVector {v : Nat} (hv : v < 2048) (w : Nat) :
    (s.releaseVector w).get (R.MSIX_CTL.MASK v) = s.get (R.MSIX_CTL.MASK v) := by
  obtain ⟨h, -⟩ | ⟨e, m, h⟩ := s.releaseVector_cases w <;> rw [h]
  exact s.get_pbaSet w false (mask_key_ne_pend hv _)

theorem State.vectorHeld_releaseVector {v : Nat} (hv : v < 2048) (w : Nat) : (s.releaseVector w).vectorHeld v = s.vectorHeld v := by
  rw [State.vectorHeld, State.vectorHeld, State.on, State.on, s.mask_releaseVector hv w, s.pcie_releaseVector w]

variable {s}

theorem State.pbaPending_releaseVector_same {v : Nat} (hfree : s.vectorHeld v = false) : (s.releaseVector v).pbaPending v = false := by
  obtain ⟨h, hheld⟩ | ⟨e, m, h⟩ := s.releaseVector_cases v <;> rw [h]
  · simpa [hfree] using hheld
  · exact (s.pbaPending_pbaSet v v false).trans (if_pos rfl)

/-- A release sets no pending bit. -/
theorem State.pbaPending_releaseVector_of_clear {v : Nat} (hclear : s.pbaPending v = false) (w : Nat) :
    (s.releaseVector w).pbaPending v = false := by
  obtain ⟨h, -⟩ | ⟨e, m, h⟩ := s.releaseVector_cases w <;> rw [h]
  · exact hclear
  · refine (s.pbaPending_pbaSet w v false).trans ?_
    rw [hclear, ite_self]

/-! ## The release of all vectors -/

variable (s)

theorem State.pcie_releaseVectors : s.releaseVectors.pcie = s.pcie := State.foldl_same State.pcie State.pcie_releaseVector _ s

theorem State.heldOut_releaseVectors : s.releaseVectors.heldOut = s.heldOut :=
  State.foldl_same State.heldOut State.heldOut_releaseVector _ s

theorem State.mask_releaseVectors {v : Nat} (hv : v < 2048) : s.releaseVectors.get (R.MSIX_CTL.MASK v) = s.get (R.MSIX_CTL.MASK v) :=
  State.foldl_same (·.get (R.MSIX_CTL.MASK v)) (fun t w => t.mask_releaseVector hv w) _ s

theorem State.out_subset_releaseVectors : s.out ⊆ s.releaseVectors.out := by
  rw [State.releaseVectors_eq]
  generalize List.range 2048 = l
  induction l generalizing s with
  | nil => exact List.Subset.refl _
  | cons v l ih => exact List.Subset.trans (s.out_subset_releaseVector v) (ih (s.releaseVector v))

/-- A vector that is not held is pending no longer once its turn has come. -/
theorem State.pbaPending_foldl_releaseVector {v : Nat} (hv : v < 2048) (l : List Nat) (hfree : s.vectorHeld v = false)
    (hturn : v ∈ l ∨ s.pbaPending v = false) : (l.foldl State.releaseVector s).pbaPending v = false := by
  induction l generalizing s with
  | nil => simpa using hturn
  | cons w l ih =>
    refine ih (s.releaseVector w) ((s.vectorHeld_releaseVector hv w).trans hfree) ?_
    rcases hturn with hmem | hclear
    · rcases List.mem_cons.mp hmem with rfl | hlater
      · exact .inr (State.pbaPending_releaseVector_same hfree)
      · exact .inl hlater
    · exact .inr (State.pbaPending_releaseVector_of_clear hclear w)

theorem State.pbaPending_releaseVectors {v : Nat} (hv : v < 2048) (hfree : s.vectorHeld v = false) :
    s.releaseVectors.pbaPending v = false :=
  s.pbaPending_foldl_releaseVector hv _ hfree (.inl (List.mem_range.mpr hv))

end

end Sys2Proof.Machine
end

section
/-!
PROOF. Vectors, bus mastering and rings are switched on and off (R340, R359, R361, R367, R368).
-/

namespace Sys2Proof.Machine

variable {s : State}

/-! ## Vectors and bus mastering (R340, R359) -/

theorem does_vectorUnmask (v : Nat) (hv : v < 2048) (hfunc : s.pcie.funcMask = false) (hmsix : s.pcie.msixEnable = true)
    (hissue : s.canIssue = true) :
    Does (.vectorUnmask (.vector v)) s fun t => t.get (R.MSIX_CTL.MASK v) = 0 ∧ t.pbaPending v = false := by
  have hexec : exec (.vectorUnmask (.vector v)) s = .next (s.zero (R.MSIX_CTL.MASK v)).releaseVectors := rfl
  have hmask : (s.zero (R.MSIX_CTL.MASK v)).get (R.MSIX_CTL.MASK v) = 0 := s.get_zero_same _
  have hpcie : (s.zero (R.MSIX_CTL.MASK v)).pcie = s.pcie := rfl
  have hfree : (s.zero (R.MSIX_CTL.MASK v)).vectorHeld v = false := by
    simp only [State.canIssue, Bool.and_eq_true, Bool.not_eq_true'] at hissue
    obtain ⟨hbus, hd3⟩ := hissue
    simp [State.vectorHeld, State.on, hmask, hpcie, hfunc, hmsix, hbus, hd3]
  rw [does_iff hexec]
  exact ⟨(State.mask_releaseVectors _ hv).trans hmask, State.pbaPending_releaseVectors _ hv hfree⟩

/-- Every held request has left, and nothing holds requests any more; held messages follow. -/
def State.heldIssued (s : State) : State :=
  { s with pcie := { s.pcie with busMaster := true, d3hot := false }, out := s.heldOut.reverse ++ s.out, heldOut := [] }

theorem does_busMasterEnable : Does .busMasterEnable s fun t => t.canIssue = true ∧ t.heldOut = [] ∧ ∀ e ∈ s.heldOut, e ∈ t.out := by
  have hexec : exec .busMasterEnable s = .next s.heldIssued.releaseVectors := rfl
  rw [does_iff hexec]
  refine ⟨?_, s.heldIssued.heldOut_releaseVectors, fun e he => s.heldIssued.out_subset_releaseVectors ?_⟩
  · rw [State.canIssue, State.pcie_releaseVectors]
    rfl
  · exact List.mem_append_left _ (List.mem_reverse.mpr he)

/-- What a command leaves alone does not speak of the PCI Express configuration. -/
theorem Leaves.withPcie {t : State} {fs : List Field} {bs : List Nat} (h : Leaves s t fs bs) (c : PcieCfg) :
    Leaves s { t with pcie := c } fs bs :=
  { h with }

theorem does_busMasterEnableClear (k : BusMasterLoss) :
    Does (.busMasterEnableClear k) s fun t => t.canIssue = false ∧ t.out = s.out ∧ Leaves s t [] [] := by
  cases k with
  | busMasterEnable => exact ⟨_, rfl, rfl, rfl, (Leaves.refl s _ _).withPcie _⟩
  | d3hot => exact ⟨_, rfl, Bool.and_false _, rfl, (Leaves.refl s _ _).withPcie _⟩

/-! ## Submit rings (R361, R367) -/

/-- The staging side of a submit ring, once one is replaced. -/
theorem State.sub_setSub (s : State) (r q : Nat) (x : SubRing) (hs : Sparse.rising s.subs = true) :
    (s.setSub r x).sub q = if q = r then x else s.sub q :=
  Sparse.get_putNorm _ s.subs r q x hs

theorem does_subRingEnable (r : Nat) (hoff : s.on (R.SUB_CFG.EN r) = false) (hs : Sparse.rising s.subs = true) :
    Does (.subRingEnable r) s fun t => t.get (R.SUB_CFG.EN r) = 1 ∧ t.get (R.SUB_HEAD.HEAD r) = 0 ∧ t.get (R.SUB_TAIL.TAIL r) = 0 ∧
      t.sub r = {} ∧ ∀ q ∈ List.range 256, q ≠ r → t.sub q = s.sub q := by
  have hexec : exec (.subRingEnable r) s =
      .next ((((s.raise (R.SUB_CFG.EN r)).zero (R.SUB_HEAD.HEAD r)).zero (R.SUB_TAIL.TAIL r)).setSub r {}) := by
    simp [exec, execSubRingEnable, hoff]
  have henHead : (R.SUB_CFG.EN r).key ≠ (R.SUB_HEAD.HEAD r).key := by
    simp only [R.SUB_CFG.EN, R.SUB_HEAD.HEAD]
    omega
  have henTail : (R.SUB_CFG.EN r).key ≠ (R.SUB_TAIL.TAIL r).key := by
    simp only [R.SUB_CFG.EN, R.SUB_TAIL.TAIL]
    omega
  rw [does_iff hexec]
  refine ⟨?_, State.get_zero_of_get_eq_zero (State.get_zero_same _ _) _, State.get_zero_same _ _,
    (State.sub_setSub _ r r {} hs).trans (if_pos rfl), fun q _ hq => (State.sub_setSub _ r q {} hs).trans (if_neg hq)⟩
  rw [State.get_setSub, State.zero, State.get_put_other _ _ _ _ henTail, State.zero, State.get_put_other _ _ _ _ henHead,
    State.get_raise_same]
  rfl

theorem does_subRingDisable (r : Nat) (hs : Sparse.rising s.subs = true) :
    Does (.subRingDisable r) s fun t => t.get (R.SUB_CFG.EN r) = 0 ∧ t.get (R.SUB_STAT.STALLED r) = 0 ∧ t.sub r = {} := by
  have hexec : exec (.subRingDisable r) s = .next (((s.zero (R.SUB_CFG.EN r)).zero (R.SUB_STAT.STALLED r)).setSub r {}) := rfl
  rw [does_iff hexec]
  exact ⟨State.get_zero_of_get_eq_zero (State.get_zero_same _ _) _, State.get_zero_same _ _,
    (State.sub_setSub _ r r {} hs).trans (if_pos rfl)⟩

/-! ## Receipt rings (R361, R368) -/

theorem does_rcpRingEnable (r : Nat) (hoff : s.on (R.RCP_CFG.EN r) = false) (hidle : s.on (R.RCP_CFG.DRAINING r) = false) :
    Does (.rcpRingEnable r) s fun t => t.get (R.RCP_CFG.EN r) = 1 ∧ t.get (R.RCP_TAIL.TAIL r) = 0 ∧ t.get (R.RCP_TAIL.PHASE r) = 1 ∧
      t.get (R.RCP_HEAD.HEAD r) = 0 := by
  have hexec : exec (.rcpRingEnable r) s = .next (((((s.raise (R.RCP_CFG.EN r)).zero (R.RCP_TAIL.TAIL r)).raise
      (R.RCP_TAIL.PHASE r)).zero (R.RCP_HEAD.HEAD r)).setPendingOf r 0) := by
    simp [exec, execRcpRingEnable, hoff, hidle]
  have hkeys : (R.RCP_CFG.EN r).key ≠ (R.RCP_TAIL.TAIL r).key ∧ (R.RCP_CFG.EN r).key ≠ (R.RCP_TAIL.PHASE r).key ∧
      (R.RCP_CFG.EN r).key ≠ (R.RCP_HEAD.HEAD r).key ∧ (R.RCP_TAIL.TAIL r).key ≠ (R.RCP_TAIL.PHASE r).key ∧
      (R.RCP_TAIL.PHASE r).key ≠ (R.RCP_HEAD.HEAD r).key := by
    simp only [R.RCP_CFG.EN, R.RCP_TAIL.TAIL, R.RCP_TAIL.PHASE, R.RCP_HEAD.HEAD]
    omega
  obtain ⟨henTail, henPhase, henHead, htailPhase, hphaseHead⟩ := hkeys
  rw [does_iff hexec]
  simp only [State.get_setPendingOf]
  refine ⟨?_, State.get_zero_of_get_eq_zero ?_ _, ?_, State.get_zero_same _ _⟩
  · rw [State.zero, State.get_put_other _ _ _ _ henHead, State.raise, State.get_put_other _ _ _ _ henPhase, State.zero,
      State.get_put_other _ _ _ _ henTail, State.get_raise_same]
    rfl
  · rw [State.raise, State.get_put_other _ _ _ _ htailPhase, State.get_zero_same]
  · rw [State.zero, State.get_put_other _ _ _ _ hphaseHead, State.get_raise_same]
    rfl

theorem does_rcpRingEnable_draining (r : Nat) (hoff : s.on (R.RCP_CFG.EN r) = false) (hdrain : s.on (R.RCP_CFG.DRAINING r) = true) :
    Does (.rcpRingEnable r) s fun t => t = s.raise (R.RCP_STAT.CFG_REJ r) := by
  have hexec : exec (.rcpRingEnable r) s = .next (s.raise (R.RCP_STAT.CFG_REJ r)) := by simp [exec, execRcpRingEnable, hoff, hdrain]
  exact (does_iff hexec).mpr rfl

theorem does_rcpRingDisable (r : Nat) (hon : s.on (R.RCP_CFG.EN r) = true) :
    Does (.rcpRingDisable r) s fun t => t.get (R.RCP_CFG.EN r) = 0 ∧
      t.get (R.RCP_CFG.DRAINING r) = b2n (s.get (R.RCP_STAT.RESERVED r) != 0) ∧
      Leaves s t [R.RCP_CFG.EN r, R.RCP_CFG.DRAINING r] [] := by
  have hexec : exec (.rcpRingDisable r) s =
      .next ((s.zero (R.RCP_CFG.EN r)).putB (R.RCP_CFG.DRAINING r) (s.get (R.RCP_STAT.RESERVED r) != 0)) := by
    simp [exec, execRcpRingDisable, hon]
  have hkey : (R.RCP_CFG.EN r).key ≠ (R.RCP_CFG.DRAINING r).key := by
    simp only [R.RCP_CFG.EN, R.RCP_CFG.DRAINING]
    omega
  rw [does_iff hexec]
  refine ⟨?_, ?_, ((Leaves.refl s _ _).zero (by simp)).put (by simp) _⟩
  · rw [State.putB, State.get_put_other _ _ _ _ hkey, State.get_zero_same]
  · rw [State.putB, State.get_put_same]
    cases s.get (R.RCP_STAT.RESERVED r) != 0 <;> rfl

/-- Settles O31: each clause is one switch of a vector, of bus mastering or of a ring, its effect and its frame. -/
theorem vectorsBusMasteringAndRings : Obligations.VectorsBusMasteringAndRings := by
  unfold Obligations.VectorsBusMasteringAndRings
  intro s
  exact ⟨does_vectorUnmask, does_busMasterEnable, does_busMasterEnableClear, does_subRingEnable, does_subRingDisable,
    does_rcpRingEnable, does_rcpRingEnable_draining, does_rcpRingDisable⟩

end Sys2Proof.Machine
end

section
/-!
PROOF. What a step is: a command taken off the front of the queue, or one cycle; every step goes on, keeps the part and keeps the stores
canonical.
-/

namespace Sys2Proof.Machine

/-! ## Every command has a next state -/

/-- An outcome chosen between two that go on goes on. -/
theorem exists_next_ite {p : Prop} [Decidable p] {a b : Host.Outcome State Fault Refusal} (ha : ∃ t, a = .next t) (hb : ∃ t, b = .next t) :
    ∃ t, (if p then a else b) = .next t := by
  split
  · exact ha
  · exact hb

/-- All but the commands named here are `.next` of a state whatever they meet; these choose between such outcomes. -/
theorem exists_exec_eq_next (c : Instr) (s : State) : ∃ t, exec c s = .next t := by
  cases c
  case keyLoad | keyClear | keyClearAll | dramRetire | caddyEnable | caddyRegionEnable =>
    exact exists_next_ite ⟨_, rfl⟩ (exists_next_ite ⟨_, rfl⟩ ⟨_, rfl⟩)
  case dramTrainDone | dramCfgWrite | scratchEnable | scratchDisable =>
    exact exists_next_ite (exists_next_ite ⟨_, rfl⟩ ⟨_, rfl⟩) ⟨_, rfl⟩
  case dramFillDone | dramRetireDone | scrubGo | cacheWayDisable | cacheWayCleanDone | scratchFillDone | caddyReclaim | calRequest |
      calTempCheck =>
    exact exists_next_ite ⟨_, rfl⟩ ⟨_, rfl⟩
  case calTimeout n =>
    refine exists_next_ite ?_ ⟨_, rfl⟩
    cases (s.bay n).cal.run <;> exact ⟨_, rfl⟩
  all_goals exact ⟨_, rfl⟩

/-- Settles O6: an idle step is a cycle, and the command at the front of the queue has a next state. -/
theorem noStepFaultsOrRefuses : Obligations.NoStepFaultsOrRefuses := by
  unfold Obligations.NoStepFaultsOrRefuses
  intro s
  unfold step
  split
  · exact ⟨_, rfl⟩
  · exact exists_exec_eq_next _ _

/-! ## The two kinds of step -/

/-- Settles O1: a step of a state with a command waiting is by definition that command's. -/
theorem stepRunsFrontCommand : Obligations.StepRunsFrontCommand := by
  unfold Obligations.StepRunsFrontCommand
  intro c r s hpending
  simp only [step, hpending]

/-- With no change pending a cycle applies none. -/
theorem State.modePoll_of_none {s : State} (h : s.pendMode = none) : s.modePoll = s := by
  simp only [State.modePoll, h]

/-- Settles O2: a step with nothing waiting is a cycle, at whose end no mode change is due. -/
theorem idleStepPassesOneCycle : Obligations.IdleStepPassesOneCycle := by
  unfold Obligations.IdleStepPassesOneCycle
  intro s hpending hmode
  have hcycle : step s = .next s.tick := by simp only [step, hpending]
  exact hcycle.trans (congrArg Host.Outcome.next (State.modePoll_of_none hmode))

/-- Settles O3: after reset nothing is stored, nothing waits, and no register differs from its reset value. -/
theorem resetIsCanonical : Obligations.ResetIsCanonical := ⟨rfl, rfl, rfl⟩

/-! ## What every step keeps -/

/-- Settles O5: a cycle keeps queue and part, and so does a command on the queue without its front. -/
theorem everyStepTakesOneCommandAndKeepsThePart : Obligations.EveryStepTakesOneCommandAndKeepsThePart := by
  unfold Obligations.EveryStepTakesOneCommandAndKeepsThePart
  intro s t hstep
  rcases step_cases hstep with ⟨hempty, rfl⟩ | ⟨c, r, hfront, hexec⟩
  · have hkeeps := keeps_tick (Keeps.refl s)
    exact ⟨by rw [hkeeps.pending, hempty, List.drop_nil], hkeeps.variant, hkeeps.stepping⟩
  · have hkeeps := keeps_of_exec hexec
    exact ⟨by rw [hkeeps.pending, hfront, List.drop_one, List.tail_cons], hkeeps.variant, hkeeps.stepping⟩

/-- Settles O4: the canonical form speaks of no queue, and cycles and commands keep it. -/
theorem everyStepKeepsCanonicalStores : Obligations.EveryStepKeepsCanonicalStores := by
  unfold Obligations.EveryStepKeepsCanonicalStores
  intro s t hcanonical hstep
  rcases step_cases hstep with ⟨-, rfl⟩ | ⟨c, r, -, hexec⟩
  · exact (keeps_tick (Keeps.refl s)).canonical hcanonical
  · exact (keeps_of_exec hexec).canonical hcanonical

end Sys2Proof.Machine
end

section
/-!
PROOF. The registers that hold key bytes (R441): where the map has them, what their block ignores, and what a write and a read do.
-/

namespace Sys2Proof.Machine

/-- An index of `KEY_DATA` is one of sixteen. -/
theorem keyDataCases {motive : (w : Nat) → w < 16 → Prop} (w : Nat) (hw : w < 16)
    (all : motive 0 (by decide) ∧ motive 1 (by decide) ∧ motive 2 (by decide) ∧ motive 3 (by decide) ∧ motive 4 (by decide) ∧
      motive 5 (by decide) ∧ motive 6 (by decide) ∧ motive 7 (by decide) ∧ motive 8 (by decide) ∧ motive 9 (by decide) ∧
      motive 10 (by decide) ∧ motive 11 (by decide) ∧ motive 12 (by decide) ∧ motive 13 (by decide) ∧ motive 14 (by decide) ∧
      motive 15 (by decide)) : motive w hw := by
  obtain ⟨h0, h1, h2, h3, h4, h5, h6, h7, h8, h9, h10, h11, h12, h13, h14, h15⟩ := all
  match w, hw with
  | 0, _ | 1, _ | 2, _ | 3, _ | 4, _ | 5, _ | 6, _ | 7, _ | 8, _ | 9, _ | 10, _ | 11, _ | 12, _ | 13, _ | 14, _ | 15, _ => assumption
  | n + 16, h => exact absurd h (by omega)

/-- The offset of `KEY_DATA[w]` (R441). -/
def keyDataOffset (w : Nat) : Nat := 0x80100 + 4 * w

section
variable {w : Nat} (hw : w < 16)
include hw

theorem regAt_keyData : regAt (keyDataOffset w) = some [⟨R.KEY_DATA.DATA w, .wo, []⟩] := by
  induction w, hw using keyDataCases with
  | all => exact ⟨rfl, rfl, rfl, rfl, rfl, rfl, rfl, rfl, rfl, rfl, rfl, rfl, rfl, rfl, rfl, rfl⟩

theorem pairOf_keyData (lo : Bool) : pairOf lo (keyDataOffset w) = none := by
  revert w
  cases lo <;> decide

theorem State.guard_keyData (s : State) (host : Bool) (bit : Nat) (same : Bool) (v : Nat) :
    s.guard host (keyDataOffset w) bit same v = none := by
  induction w, hw using keyDataCases with
  | all => exact ⟨rfl, rfl, rfl, rfl, rfl, rfl, rfl, rfl, rfl, rfl, rfl, rfl, rfl, rfl, rfl, rfl⟩

theorem State.afterWrite_keyData (s : State) : s.afterWrite (keyDataOffset w) = s := by
  induction w, hw using keyDataCases with
  | all => exact ⟨rfl, rfl, rfl, rfl, rfl, rfl, rfl, rfl, rfl, rfl, rfl, rfl, rfl, rfl, rfl, rfl⟩

theorem State.hidden_keyData (s : State) : s.hidden (keyDataOffset w) = !s.variant.crypto := by
  induction w, hw using keyDataCases with
  | all => exact ⟨rfl, rfl, rfl, rfl, rfl, rfl, rfl, rfl, rfl, rfl, rfl, rfl, rfl, rfl, rfl, rfl⟩

theorem State.regValue_keyData (s : State) : s.regValue (keyDataOffset w) = 0 := by
  induction w, hw using keyDataCases with
  | all => exact ⟨rfl, rfl, rfl, rfl, rfl, rfl, rfl, rfl, rfl, rfl, rfl, rfl, rfl, rfl, rfl, rfl⟩

end

/-- A write of a field of access WO that no block ignores puts the field's bits of the word, as for access RW. -/
theorem State.writeField_wo {off : Nat} (s : State) (host : Bool) (v : Nat) {f : Field} (ho : off < 0x1000000)
    (hf : f.key % 32 + f.width ≤ 32) (hg : ∀ same, s.guard host off (f.key % 32) same v = none) :
    s.writeField host off v ⟨f, .wo, []⟩ = s.put f (v / 2 ^ (f.key % 32) % 2 ^ f.width) :=
  State.writeField_rw host v ho hf hg

section
variable {s : State} {w : Nat} (hw : w < 16) (hr : s.sup.inReset = false)
include hw hr

/-- On a part with a crypto unit a write puts the word; without one the block is absent and ignores it (R4). -/
theorem State.regWrite_keyData (v : Nat) :
    s.regWrite true (keyDataOffset w) v = if s.variant.crypto then s.put (R.KEY_DATA.DATA w) v else s := by
  have hlow : keyDataOffset w < 0x800000 := by unfold keyDataOffset; omega
  cases hc : s.variant.crypto with
  | false => simp [State.regWrite, State.hidden_keyData hw, hc]
  | true =>
    have hseen : s.hidden (keyDataOffset w) = false := by rw [State.hidden_keyData hw, hc]; rfl
    have hbit : (R.KEY_DATA.DATA w).key % 32 = 0 := by simp only [R.KEY_DATA.DATA]; omega
    rw [State.regWrite_of_no_pair true v hr hseen (.inl hlow) (pairOf_keyData hw true) (pairOf_keyData hw false),
      State.writeWord_of_regAt true v (regAt_keyData hw), State.afterWrite_keyData hw, List.foldl_cons, List.foldl_nil,
      s.writeField_wo true v (by omega) (by rw [hbit]; exact Nat.le_refl 32) fun same => State.guard_keyData hw s true _ same v, hbit]
    simp [State.put, R.KEY_DATA.DATA]

/-- A read gives zero, whether the block is there (R13) or absent (R4). -/
theorem State.hostRead_keyData : s.hostRead (keyDataOffset w) = s.emit (.readData (keyDataOffset w) 0) := by
  have hlow : keyDataOffset w < 0x80140 := by unfold keyDataOffset; omega
  cases hc : s.variant.crypto with
  | false => simp [State.hostRead, State.regRead, hr, State.hidden_keyData hw, hc]
  | true =>
    have hseen : s.hidden (keyDataOffset w) = false := by rw [State.hidden_keyData hw, hc]; rfl
    have hrc : rcRows (keyDataOffset w) = [] := by simp [rcRows, regAt_keyData hw]
    rw [State.hostRead_of_no_pair hr hseen (.inl (by omega)) (pairOf_keyData hw true) (pairOf_keyData hw false) (by omega) (by omega),
      hrc, State.clearRows_nil, State.regValue_keyData hw]

end

/-- Settles O56: what a write and a read of `KEY_DATA[w]` come to, with a crypto unit and without. -/
theorem keyDataRegisters : Obligations.KeyDataRegisters := by
  unfold Obligations.KeyDataRegisters
  intro w s hw hr
  refine ⟨rfl, fun v hc hv => ?_, fun v hc => ?_, ?_⟩
  · rw [does_iff (exec_registerWrite s _ v), ← keyDataOffset, State.regWrite_keyData hw hr, hc, if_pos rfl]
    exact ⟨(State.get_put_same ..).trans (Nat.mod_eq_of_lt hv), (Leaves.refl s _ _).put (by simp) v⟩
  · rw [does_iff (exec_registerWrite s _ v), ← keyDataOffset, State.regWrite_keyData hw hr, hc]
    rfl
  · rw [does_iff (exec_rcFieldRead s _), ← keyDataOffset, State.hostRead_keyData hw hr]

end Sys2Proof.Machine
end

section
/-!
PROOF. Reserved offsets (R618): the offsets that a read or write treats apart (halves of pairs, latched words, a bay's `STAT`) are all
mapped, so what is left for a reserved one is the value zero and a discarded write.
-/

namespace Sys2Proof.Machine

/-! ## Arrays of the register map -/

/-- An index that a row's array of stride `k` gives for an offset `k * i` beyond its start: the same one, but that with stride 0 every
index is 0. -/
theorem arrayStep {k i n : Nat} (hi : i < n) : (if k = 0 then 0 else k * i / k) < n ∧ k * (if k = 0 then 0 else k * i / k) = k * i := by
  split
  case isTrue hk => exact ⟨by omega, by rw [hk, Nat.zero_mul, Nat.zero_mul]⟩
  case isFalse hk => rw [Nat.mul_div_cancel_left i (by omega)]; exact ⟨hi, rfl⟩

/-- A row has a register at each place of its array whose second index stays within the first one's stride. -/
theorem RegRow.isSome_at? {r : RegRow} {i j : Nat} (hi : i < r.count1) (hj : j < r.count2)
    (hrow : r.stride1 = 0 ∨ r.stride2 * j < r.stride1) : (r.at? (r.base + (r.stride1 * i + r.stride2 * j))).isSome = true := by
  have hdiv : (if r.stride1 = 0 then 0 else (r.stride1 * i + r.stride2 * j) / r.stride1) =
      if r.stride1 = 0 then 0 else r.stride1 * i / r.stride1 := by
    split
    · rfl
    · rw [Nat.mul_div_cancel_left i (by omega), Nat.mul_add_div (by omega), Nat.div_eq_of_lt (by omega), Nat.add_zero]
  obtain ⟨hi', hbase⟩ := arrayStep (k := r.stride1) hi
  obtain ⟨hj', hstep⟩ := arrayStep (k := r.stride2) hj
  simp only [RegRow.at?, Nat.add_sub_cancel_left, hdiv, hbase, hstep, hi', hj']
  simp

/-- Whether a row has a register at each of the `count` offsets `base`, `base + stride`, … -/
def RegRow.covers (r : RegRow) (base stride count : Nat) : Bool :=
  (List.range r.count2).any fun j =>
    r.base + r.stride2 * j == base && (r.stride1 == 0 || decide (r.stride2 * j < r.stride1)) &&
      ((count == 1 && decide (0 < r.count1)) || (r.stride1 == stride && decide (count ≤ r.count1)))

theorem RegRow.isSome_at?_of_covers {r : RegRow} {base stride count i : Nat} (h : r.covers base stride count = true) (hi : i < count) :
    (r.at? (base + stride * i)).isSome = true := by
  simp only [RegRow.covers, List.any_eq_true, List.mem_range, Bool.and_eq_true, Bool.or_eq_true, beq_iff_eq, decide_eq_true_eq] at h
  obtain ⟨j, hj, ⟨rfl, hrow⟩, ⟨rfl, hpos⟩ | ⟨rfl, hcount⟩⟩ := h
  · have hfirst := RegRow.isSome_at? hpos hj hrow
    rw [Nat.mul_zero, Nat.zero_add] at hfirst
    rwa [Nat.lt_one_iff.mp hi, Nat.mul_zero, Nat.add_zero]
  · rw [Nat.add_assoc, Nat.add_comm (r.stride2 * j)]
    exact RegRow.isSome_at? (by omega) hj hrow

/-- The offsets that a read or write treats apart, as arrays (first offset, stride, count): the halves of the 64-bit pairs, the words
of R2, R572 and R581 that no field holds, and a bay's `STAT`. -/
def specialArrays : List (Nat × Nat × Nat) :=
  (regPairs.map fun p => (p.1, p.2.2)) ++ (regPairs.map fun p => (p.2.1, p.2.2)) ++
    ([0x10, 0xA0010, 0xA0100, 0xA0104, 0xA0108, 0xA010C, 0xA0110, 0x91000].map fun off => (off, 4, 1)) ++ [(0x1000004, 0x10000, 128)]

theorem specialArrays_covered : (specialArrays.all fun a => regRows.any fun r => r.covers a.1 a.2.1 a.2.2) = true := by
  decide +kernel

theorem isSome_regAt_of_special {a : Nat × Nat × Nat} (ha : a ∈ specialArrays) {i : Nat} (hi : i < a.2.2) :
    (regAt (a.1 + a.2.1 * i)).isSome = true := by
  obtain ⟨r, hr, hcovers⟩ := List.any_eq_true.mp (List.all_eq_true.mp specialArrays_covered a ha)
  exact List.findSome?_isSome_iff.mpr ⟨r, hr, RegRow.isSome_at?_of_covers hcovers hi⟩

theorem eq_add_of_arrayIndex {base stride count off i : Nat} (h : arrayIndex base stride count off = some i) :
    off = base + stride * i ∧ i < count := by
  simp only [arrayIndex, Option.ite_none_right_eq_some, Option.some.injEq] at h
  obtain ⟨⟨hbase, hstep, hcount⟩, rfl⟩ := h
  have := Nat.mul_div_cancel' (Nat.dvd_of_mod_eq_zero hstep)
  exact ⟨by omega, hcount⟩

/-- Both halves of every pair are mapped. -/
theorem isSome_regAt_of_pairOf {lo : Bool} {off : Nat} {p : Nat × Nat} (h : pairOf lo off = some p) : (regAt off).isSome = true := by
  obtain ⟨⟨l, u, stride, count⟩, hmem, hindex⟩ := List.exists_of_findSome?_eq_some h
  obtain ⟨i, hi, -⟩ := Option.map_eq_some_iff.mp hindex
  obtain ⟨hoff, hcount⟩ := eq_add_of_arrayIndex hi
  have hspecial : (if lo then l else u, stride, count) ∈ specialArrays := by
    simp only [specialArrays, List.mem_append, List.mem_map]
    cases lo with
    | true => exact .inl (.inl (.inl ⟨_, hmem, rfl⟩))
    | false => exact .inl (.inl (.inr ⟨_, hmem, rfl⟩))
  rw [hoff]
  exact isSome_regAt_of_special hspecial hcount

section
variable {off : Nat} (h : reservedOffset off = true)
include h

/-! ## What a reserved offset is not -/

theorem regAt_of_reserved : regAt off = none := by
  simp only [reservedOffset, Bool.and_eq_true, Option.isNone_iff_eq_none] at h
  obtain ⟨⟨⟨hnone, -⟩, -⟩, -⟩ := h
  exact hnone

theorem pairOf_of_reserved (lo : Bool) : pairOf lo off = none := by
  cases hp : pairOf lo off with
  | none => rfl
  | some p => simpa [regAt_of_reserved h] using isSome_regAt_of_pairOf hp

theorem ne_of_reserved {a : Nat × Nat × Nat} (ha : a ∈ specialArrays) {i : Nat} (hi : i < a.2.2) : off ≠ a.1 + a.2.1 * i := by
  rintro rfl
  simpa [regAt_of_reserved h] using isSome_regAt_of_special ha hi

theorem ne_single_of_reserved (a : Nat) (ha : (a, 4, 1) ∈ specialArrays) : off ≠ a := by
  simpa using ne_of_reserved h ha (i := 0) Nat.one_pos

/-- None of the windows of the control stores, the global trace and the bays' traces holds a reserved offset. -/
theorem windows_of_reserved : ¬(0x800000 ≤ off ∧ off < 0x1000000) ∧ ¬(0xC8000 ≤ off ∧ off < 0xD0000) ∧
    ¬(0x1000000 ≤ off ∧ off < 0x1800000 ∧ 0x3000 ≤ off % 0x10000 ∧ off % 0x10000 < 0x4000) := by
  simp only [reservedOffset, Bool.and_eq_true, Bool.not_eq_true', Bool.and_eq_false_iff, decide_eq_false_iff_not] at h
  omega

/-- The one register that a bay's block reads apart is its `STAT`, which every block has. -/
theorem not_bayStat_of_reserved : ¬(0x1000000 ≤ off ∧ off < 0x1800000 ∧ off % 0x10000 = 4) := by
  rintro ⟨hlo, hhi, hmod⟩
  have hbay : (off - 0x1000004) / 0x10000 < 128 := by omega
  have hstat : off ≠ 0x1000004 + 0x10000 * ((off - 0x1000004) / 0x10000) :=
    ne_of_reserved h (a := (0x1000004, 0x10000, 128)) (by decide) hbay
  omega

/-! ## Reads and writes -/

theorem State.regValue_of_reserved (s : State) : s.regValue off = 0 := by
  obtain ⟨-, htrace, hservo⟩ := windows_of_reserved h
  have hword := ne_single_of_reserved h
  simp only [State.regValue, regAt_of_reserved h, hword 0x10 (by decide), hword 0xA0104 (by decide), hword 0xA0108 (by decide),
    hword 0xA010C (by decide), hword 0xA0110 (by decide), hword 0xA0010 (by decide), hword 0x91000 (by decide), htrace, hservo,
    not_bayStat_of_reserved h, if_false, false_and]

theorem State.hostRead_of_reserved {s : State} (hr : s.sup.inReset = false) : s.hostRead off = s.emit (.readData off 0) := by
  obtain ⟨hstore, -, -⟩ := windows_of_reserved h
  have hrc : rcRows off = [] := by simp [rcRows, regAt_of_reserved h]
  cases hh : s.hidden off with
  | true => simp [State.hostRead, State.regRead, hr, hh]
  | false =>
    rw [State.hostRead_of_no_pair hr hh (by omega) (pairOf_of_reserved h true) (pairOf_of_reserved h false)
      (ne_single_of_reserved h _ (by decide)) (ne_single_of_reserved h _ (by decide)), hrc, State.clearRows_nil,
      State.regValue_of_reserved h]

theorem State.regWrite_of_reserved {s : State} (hr : s.sup.inReset = false) (v : Nat) : s.regWrite true off v = s := by
  obtain ⟨hstore, -, -⟩ := windows_of_reserved h
  cases hh : s.hidden off with
  | true => simp [State.regWrite, hh]
  | false =>
    rw [State.regWrite_of_no_pair true v hr hh (by omega) (pairOf_of_reserved h true) (pairOf_of_reserved h false)]
    simp [State.writeWord, regAt_of_reserved h]

end

/-- An access that is not an aligned one of 32 bits, above the MSI-X table and PBA. -/
theorem exec_badWidthAccess {s : State} (hr : s.sup.inReset = false) {off w : Nat} (hw : w ≠ 4 ∨ off % 4 ≠ 0) (hoff : 0x40000 ≤ off)
    (write : Bool) : exec (.badWidthAccess write off w) s =
      .next (if write then s.record srcRegs 0x1501 [off, w, 0] else s.emit (.readData off (2 ^ (8 * w) - 1))) := by
  have hmsix : msixWide off w = false := by
    have : ¬ off < 0x40000 := by omega
    simp [msixWide, this]
  have hbad : (w == 4 && off % 4 == 0) = false := by
    rw [Bool.and_eq_false_iff, beq_eq_false_iff_ne, beq_eq_false_iff_ne]
    exact hw
  simp only [exec, execBadWidthAccess, hr, hmsix, hbad, Bool.or_self, Bool.false_eq_true, if_false]

/-- Settles O55: a reserved offset has no register, so its read gives zero and its write does nothing; a bad width is met before that. -/
theorem reservedOffsetsReadZero : Obligations.ReservedOffsetsReadZero := by
  unfold Obligations.ReservedOffsetsReadZero
  intro off s hres hr
  refine ⟨fun _ => ?_, fun v _ => ?_, fun w hw hoff => ?_, fun w hw hoff => ?_⟩
  · rw [does_iff (exec_rcFieldRead s off), State.hostRead_of_reserved hres hr]
  · rw [does_iff (exec_registerWrite s off v), State.regWrite_of_reserved hres hr]
  · exact (does_iff (exec_badWidthAccess hr hw hoff false)).mpr rfl
  · exact (does_iff (exec_badWidthAccess hr hw hoff true)).mpr rfl

end Sys2Proof.Machine
end

section
/-!
PROOF. A change to `MAINTENANCE` that ends in `CURFEW`: the clause of the statement about MODE (R397) speaks of every state in `SERVICE`,
also of one whose heartbeat has expired without the unit having entered `CURFEW` (R561).
-/

namespace Sys2Proof.Machine

/-- A MODE command that asks for `MAINTENANCE` in this unit alone (R397). -/
def maintenanceCmd : Cmd :=
  { id := 0, sring := 0, rring := 0
    wb := { opcode := Op.MODE, flags := 0, prio := 0, bay := 0xFF, cid := 0, rring := 0, dform := 0, daddr := 0, dlen := 0, rcap := 0,
            raddr := 0, param := [2, 0] } }

/-- The unit is in `SERVICE` with HEARTBEAT set.  A run does not come there: the heartbeat's expiry in `SERVICE` and the entry to `SERVICE`
with that bit set are entries to `CURFEW` (R561). -/
def strayHeartbeat : State :=
  (({ State.reset with variant := .ky8032e, units := [maintenanceCmd] } : State).put R.MODE_STAT.MODE 1).put R.CURFEW_CAUSE.CAUSE 8

/-- The change applies and then HEARTBEAT takes the unit to `CURFEW`. -/
theorem exec_mode_strayHeartbeat : ∃ t, exec (.mode 0) strayHeartbeat = .next t ∧ t.mode = 4 :=
  ⟨_, rfl, by decide +kernel⟩

/-- Refutes O26: in `strayHeartbeat` a MODE from `SERVICE` to `MAINTENANCE` leaves the unit in `CURFEW`. -/
theorem not_modeCommandsAndProposals : ¬ Obligations.ModeCommandsAndProposals := by
  unfold Obligations.ModeCommandsAndProposals
  intro h
  obtain ⟨hmode, -⟩ := h strayHeartbeat
  obtain ⟨t, hexec, hcurfew⟩ := exec_mode_strayHeartbeat
  obtain ⟨hmaintenance, -⟩ :=
    (does_iff hexec).mp (hmode maintenanceCmd rfl rfl (by decide) (by decide) rfl rfl (by decide +kernel))
  rw [hcurfew] at hmaintenance
  exact absurd hmaintenance (by decide)

end Sys2Proof.Machine
end

section
/-!
PROOF. A domain that fails by a stage and shows none: the clause of the statement about missed stages (R565) speaks of every state, also of
one whose Caddy names a requester that R463 does not have.
-/

namespace Sys2Proof.Machine

/-- Bay 0's domain awaits its first stage, and its bay holds the 16 MiB buffer of tag 0, which is charged to requester 0x18000.  Requester
IDs end at 255 (R463), but nothing bounds those of a state, and the `CADDY_HELD.H16M` of this one lies where the domain's `FAIL_STAGE`
does. -/
def strayCharge : State :=
  { State.reset with caddy := { held := [(0, ⟨[0], 0x18000, 3⟩)] }, domPhase := [(0, .rising ⟨1, false, none⟩)] }

/-- `FAIL_STAGE` becomes 1, and then the bay, which goes `OFF`, releases its buffer: a charge of 0 is shown over it. -/
theorem exec_powerStageTimeout_strayCharge :
    ∃ t, exec (.powerStageTimeout 0) strayCharge = .next t ∧ t.get (R.PWR_STAT.FAIL_STAGE 0) = 0 :=
  ⟨_, rfl, by decide +kernel⟩

/-- Refutes O49: in `strayCharge` domain 0 misses stage 1, and its `FAIL_STAGE` reads 0. -/
theorem not_powerDomainsChangeState : ¬ Obligations.PowerDomainsChangeState := by
  unfold Obligations.PowerDomainsChangeState
  intro h
  obtain ⟨-, -, -, -, -, -, htimeout, -⟩ := h 0 strayCharge (by decide)
  obtain ⟨t, hexec, hzero⟩ := exec_powerStageTimeout_strayCharge
  obtain ⟨-, hstage, -⟩ := (does_iff hexec).mp (htimeout ⟨1, false, none⟩ rfl (by decide))
  rw [hzero] at hstage
  exact absurd hstage (by decide)

end Sys2Proof.Machine
end

section
/-!
PROOF. The real-time clock (R573, R574, R581): what setting the counter leaves, and the three commands of the clock.
-/

namespace Sys2Proof.Machine

variable {s : State}

/-! ## Setting the counter -/

/-- Where the instant the present second began is kept is no register. -/
theorem State.get_withRtcS (s : State) (r : RtcS) (g : Field) : ({ s with rtcS := r } : State).get g = s.get g := rfl

/-- Setting the clock puts the counter, and the calendar registers that stand for it. -/
theorem State.get_setRtc (t : Nat) {g : Field} (hg : g.key < 32 * 0xA0108 ∨ 32 * 0xA0114 ≤ g.key) :
    (s.setRtc t).get g = ((s.put R.RTC_SEC_LO.SEC (t % 2 ^ 32)).put R.RTC_SEC_HI.SEC (t / 2 ^ 32)).get g := by
  have hother (u : State) (f : Field) (v : Nat) (hf : 32 * 0xA0108 ≤ f.key ∧ f.key < 32 * 0xA0114) : (u.put f v).get g = u.get g :=
    u.get_put_other f g v (by omega)
  unfold State.setRtc
  dsimp only
  rw [State.get_withRtcS, hother _ R.RTC_TIME.SEC _ (by decide), hother _ R.RTC_TIME.MIN _ (by decide),
    hother _ R.RTC_TIME.HOUR _ (by decide), hother _ R.RTC_DATE.WDAY _ (by decide), hother _ R.RTC_DATE.DAY _ (by decide),
    hother _ R.RTC_DATE.MONTH _ (by decide), hother _ R.RTC_DATE.YEAR _ (by decide)]

/-- The counter reads back as it was set, as far as its 40 bits hold. -/
theorem State.rtc_setRtc {t : Nat} (ht : t < 2 ^ 40) : (s.setRtc t).rtc = t := by
  rw [State.rtc, State.get_setRtc t (by decide), State.get_setRtc t (by decide), State.get_put_other _ _ _ _ (by decide),
    State.get_put_same, State.get_put_same]
  simp only [R.RTC_SEC_LO.SEC, R.RTC_SEC_HI.SEC]
  omega

/-- Besides the counter and the calendar registers every field is left as it is. -/
theorem State.get_setRtc_other (t : Nat) {g : Field} (hg : g.key < 32 * 0xA0100 ∨ 32 * 0xA0114 ≤ g.key) :
    (s.setRtc t).get g = s.get g := by
  have hlo : R.RTC_SEC_LO.SEC.key = 32 * 0xA0100 := rfl
  have hhi : R.RTC_SEC_HI.SEC.key = 32 * 0xA0104 := rfl
  rw [State.get_setRtc t (by omega), State.get_put_other _ _ _ _ (by omega), State.get_put_other _ _ _ _ (by omega)]

/-- The flags of the clock stand beside the counter. -/
theorem State.rtc_put_stat (s : State) {f : Field} (hf : 32 * 0xA0108 ≤ f.key) (v : Nat) : (s.put f v).rtc = s.rtc := by
  have hlo : R.RTC_SEC_LO.SEC.key = 32 * 0xA0100 := rfl
  have hhi : R.RTC_SEC_HI.SEC.key = 32 * 0xA0104 := rfl
  rw [State.rtc, State.rtc, State.get_put_other _ _ _ _ (by omega), State.get_put_other _ _ _ _ (by omega)]

theorem State.rtc_withRtcS (s : State) (r : RtcS) : ({ s with rtcS := r } : State).rtc = s.rtc := rfl

theorem State.rtc_record (s : State) (a b : Nat) (l : List Nat) : (s.record a b l).rtc = s.rtc := by
  rw [State.rtc, State.rtc, State.get_record _ _ _ _ _ (by decide), State.get_record _ _ _ _ _ (by decide)]

/-! ## A second passes (R573) -/

theorem does_rtcSecond : Does .rtcSecond s fun t => t.rtc = min 12622780799 (s.rtc + 1) ∧ t.get R.RTC_STAT.RUNNING = 1 := by
  have hlast : min rtcLast (s.rtc + 1) < 2 ^ 40 := Nat.lt_of_le_of_lt (Nat.min_le_left ..) (by decide)
  have hrunning : ((s.raise R.RTC_STAT.RUNNING).setRtc (min rtcLast (s.rtc + 1))).get R.RTC_STAT.RUNNING = 1 :=
    (State.get_setRtc_other _ (by decide)).trans (State.get_raise_same ..)
  refine ⟨_, rfl, ?_⟩
  dsimp only
  split
  · exact ⟨(State.rtc_put_stat _ (by decide) 1).trans (State.rtc_setRtc hlast), (State.get_put_other _ _ _ _ (by decide)).trans hrunning⟩
  · exact ⟨State.rtc_setRtc hlast, hrunning⟩

/-! ## The clock is set (R574) -/

theorem monthDays_le (y m : Nat) : monthDays y m ≤ 31 := by
  unfold monthDays
  split
  · split <;> decide
  · split <;> decide

theorem yearDays_lt {y : Nat} (hy : y ≤ 2399) : yearDays y < 150000 := by
  unfold yearDays leapsTo
  omega

theorem sum_map_monthDays_le (y : Nat) (l : List Nat) : (l.map fun k => monthDays y (k + 1)).sum ≤ 31 * l.length := by
  induction l with
  | nil => exact Nat.le_refl 0
  | cons k l ih =>
    have hmonth := monthDays_le y (k + 1)
    rw [List.map_cons, List.sum_cons, List.length_cons]
    omega

/-- The days of the months before the `m`-th. -/
theorem sum_monthDays_le {y m : Nat} (hm : m ≤ 12) : ((List.range (m - 1)).map fun k => monthDays y (k + 1)).sum ≤ 341 := by
  have hsum := sum_map_monthDays_le y (List.range (m - 1))
  rw [List.length_range] at hsum
  omega

/-- Whether the date and time in `CAL_SET_DATE` and `CAL_SET_TIME` are none. -/
def State.calInvalid (s : State) : Prop :=
  s.get R.CAL_SET_DATE.YEAR < 2000 ∨ 2399 < s.get R.CAL_SET_DATE.YEAR ∨ s.get R.CAL_SET_DATE.MONTH = 0 ∨ 12 < s.get R.CAL_SET_DATE.MONTH ∨
    s.get R.CAL_SET_DATE.DAY = 0 ∨ monthDays (s.get R.CAL_SET_DATE.YEAR) (s.get R.CAL_SET_DATE.MONTH) < s.get R.CAL_SET_DATE.DAY ∨
    23 < s.get R.CAL_SET_TIME.HOUR ∨ 59 < s.get R.CAL_SET_TIME.MIN ∨ 59 < s.get R.CAL_SET_TIME.SEC

/-- The seconds from 2000-01-01 to the date and time in `CAL_SET_DATE` and `CAL_SET_TIME`. -/
def State.calSeconds (s : State) : Nat :=
  86400 * (yearDays (s.get R.CAL_SET_DATE.YEAR) +
    ((List.range (s.get R.CAL_SET_DATE.MONTH - 1)).map fun k => monthDays (s.get R.CAL_SET_DATE.YEAR) (k + 1)).sum +
    (s.get R.CAL_SET_DATE.DAY - 1)) + 3600 * s.get R.CAL_SET_TIME.HOUR + 60 * s.get R.CAL_SET_TIME.MIN + s.get R.CAL_SET_TIME.SEC

theorem State.calSeconds_lt (h : ¬ s.calInvalid) : s.calSeconds < 2 ^ 40 := by
  simp only [State.calInvalid, not_or] at h
  have hdays := yearDays_lt (y := s.get R.CAL_SET_DATE.YEAR) (by omega)
  have hmonths := sum_monthDays_le (y := s.get R.CAL_SET_DATE.YEAR) (m := s.get R.CAL_SET_DATE.MONTH) (by omega)
  have hmonth := monthDays_le (s.get R.CAL_SET_DATE.YEAR) (s.get R.CAL_SET_DATE.MONTH)
  unfold State.calSeconds
  omega

/-- The state with the clock set and its flags with it. -/
def State.clockSet (s : State) : State :=
  ((s.setRtc s.calSeconds).raise R.RTC_STAT.VALID).putB R.RTC_STAT.CAL_LIMIT (s.calSeconds == rtcLast)

theorem State.rtc_clockSet (h : ¬ s.calInvalid) : s.clockSet.rtc = s.calSeconds := by
  rw [State.clockSet, State.putB, State.rtc_put_stat _ (by decide), State.raise, State.rtc_put_stat _ (by decide),
    State.rtc_setRtc (State.calSeconds_lt h)]

theorem State.valid_clockSet : s.clockSet.get R.RTC_STAT.VALID = 1 := by
  rw [State.clockSet, State.putB, State.get_put_other _ _ _ _ (by decide), State.get_raise_same]
  rfl

theorem exec_rtcCalCommit (h : ¬ s.calInvalid) : exec .rtcCalCommit s =
    .next (({ s.clockSet with rtcS := { s.clockSet.rtcS with latch := none } } : State).record srcPower 0x120A [s.rtc, s.calSeconds]) := by
  unfold State.calInvalid at h
  simp only [exec, execRtcCalCommit, if_neg h, State.clockSet, State.calSeconds]

theorem does_rtcCalCommit (h : ¬ s.calInvalid) :
    Does .rtcCalCommit s fun t => t.rtc = s.calSeconds ∧ t.get R.RTC_STAT.VALID = 1 ∧ t.rtcS.latch = none := by
  rw [does_iff (exec_rtcCalCommit h), State.rtc_record, State.get_record _ _ _ _ _ (by decide), State.record_rtcS, State.rtc_withRtcS,
    State.get_withRtcS]
  exact ⟨State.rtc_clockSet h, State.valid_clockSet, rfl⟩

theorem does_rtcCalCommit_invalid (h : s.calInvalid) : Does .rtcCalCommit s fun t => t = s.raise R.RTC_STAT.CAL_REJECT :=
  ⟨_, congrArg Host.Outcome.next (if_pos h), rfl⟩

/-! ## The clock is read (R581) -/

theorem Leaves.withRtcS {t : State} {fs : List Field} {bs : List Nat} (h : Leaves s t fs bs) (r : RtcS) :
    Leaves s { t with rtcS := r } fs bs := { h with }

theorem does_rtcSecLoRead : Does .rtcSecLoRead s fun t => t.out = .readData 0xA0100 (s.get R.RTC_SEC_LO.SEC) :: s.out ∧
    t.rtcS.latch = some (s.get R.RTC_SEC_HI.SEC, s.rtcDateWord, s.rtcTimeWord, s.rtcSub) ∧ Leaves s t [] [] :=
  ⟨_, rfl, rfl, rfl, ((Leaves.refl s [] []).withRtcS _).emit _⟩

/-- Settles O51: a second, a setting that is valid or not, and a read that latches. -/
theorem realTimeClock : Obligations.RealTimeClock := by
  unfold Obligations.RealTimeClock
  intro s
  refine ⟨does_rtcSecond, fun _ _ _ _ _ _ _ _ _ => does_rtcCalCommit ?_, does_rtcCalCommit_invalid, does_rtcSecLoRead⟩
  simp only [State.calInvalid]
  omega

end Sys2Proof.Machine
end

section
/-!
PROOF. Frames of the management chain (R526, R528, R540, R541, R545): what a frame that is taken does first, and then each type of frame.
-/

namespace Sys2Proof.Machine

variable {s : State}

/-! ## Signals (R545, R620) -/

/-- A signalled vector touches its pending bit at most. -/
theorem State.get_signal (s : State) {v : Nat} (hv : v < 2048) {g : Field} (hg : g.key < 32 * 0x38000 ∨ 32 * 0x38100 ≤ g.key) :
    (s.signal v).get g = s.get g := by
  unfold State.signal
  split
  · exact s.get_pbaSet v true (by simp only [R.MSIX_PBA.PEND]; omega)
  · rfl

theorem State.pendMode_signal (s : State) (v : Nat) : (s.signal v).pendMode = s.pendMode := by
  unfold State.signal
  split <;> rfl

theorem State.out_subset_signal (s : State) (v : Nat) : s.out ⊆ (s.signal v).out := by
  unfold State.signal
  split
  · exact fun _ h => h
  · exact List.subset_cons_self ..

/-! ## A frame is taken (R526) -/

/-- The frame `f` is remembered as seen. -/
def State.sawFrame (s : State) (f : ChainFrame) : State :=
  s.onChain fun c =>
    { c with seen := (chainField f 0 2, chainField f 2 1) ::
               c.seen.filter fun e => e.1 != chainField f 0 2 || decide ((chainField f 2 1 + 256 - e.2) % 256 ≤ 128) }

/-- A good frame of its type that was not seen before is remembered, passed on and acted on. -/
theorem State.chainTake_fresh {f : ChainFrame} {typ : Nat} (hgood : chainGood f = true) (htype : (f.getD 0 0).toNat = typ)
    (hhead : typ = 2 → chainField f 0 2 ≠ 0xFFFF) (hnew : (chainField f 0 2, chainField f 2 1) ∉ s.chain.seen) (act : State → State) :
    s.chainTake typ f act = act ((s.sawFrame f).emit (.chainFrame f)) := by
  have hnot : (typ == 2 && chainField f 0 2 == 0xFFFF) = false := by
    rw [Bool.and_eq_false_imp, beq_iff_eq]
    exact fun h => beq_false_of_ne (hhead h)
  have hcontains : s.chain.seen.contains (chainField f 0 2, chainField f 2 1) = false := by
    rw [List.contains_eq_mem]
    exact decide_eq_false hnew
  unfold State.chainTake
  dsimp only
  rw [hgood, hnot, hcontains, if_neg (by decide), if_neg (not_not_intro htype), if_neg (by decide), if_neg (by decide)]
  rfl

/-! ## A proposal (R541) -/

/-- The change that the proposal of frame `f` makes pending. -/
def proposedChange (s : State) (f : ChainFrame) : PendingMode :=
  ⟨3, none, some (chainField f 0 2, chainField f 4 4), 2 + 65536 * chainField f 0 2, s.bayWait 3, false⟩

/-- A change to `QUIESCE` that is proposed in `SERVICE` becomes pending. -/
theorem State.takeProposal_quiesce {origin e : Nat} (hfree : s.pendMode = none) (hmode : s.mode = 1)
    (hnewer : epochNewer e (s.get R.EPOCH.EPOCH) = true) :
    s.takeProposal origin 3 e =
      ((s.setPend (some ⟨3, none, some (origin, e), 2 + 65536 * origin, s.bayWait 3, false⟩)).signal (s.get R.MC_CTL.VECTOR)).modePoll := by
  have hne : e ≠ s.get R.EPOCH.EPOCH := by
    rintro rfl
    simp [epochNewer] at hnewer
  have hstatus : s.modeStatus 3 = 0 := by
    simp [State.modeStatus, hmode]
  unfold State.takeProposal
  simp [hfree, hne, hnewer, hstatus, ST.MODE_TRANSITION]

/-- What a pending proposal shows of itself. -/
theorem State.get_setPend_proposal (p : PendingMode) {o e : Nat} (hp : p.proposal = some (o, e)) {g : Field}
    (hg : g.key ∉ [R.MODE_STAT.PENDING.key, R.MODE_STAT.TARGET.key, R.EPOCH_CTL.PENDING.key, R.EPOCH_CTL.PEND_TARGET.key, R.EPOCH_PEND.E.key]) :
    (s.setPend (some p)).get g = s.get g := by
  simp only [List.mem_cons, List.not_mem_nil, or_false, not_or] at hg
  obtain ⟨hpending, htarget, hepending, hetarget, he⟩ := hg
  simp only [State.setPend, State.showPend, hp]
  rw [State.get_put_other _ _ _ _ he, State.get_put_other _ _ _ _ hetarget, State.raise, State.get_put_other _ _ _ _ hepending,
    State.get_put_other _ _ _ _ htarget, State.raise, State.get_put_other _ _ _ _ hpending]
  rfl

theorem State.epochPending_setPend_proposal (p : PendingMode) {o e : Nat} (hp : p.proposal = some (o, e)) :
    (s.setPend (some p)).get R.EPOCH_CTL.PENDING = 1 := by
  simp only [State.setPend, State.showPend, hp]
  rw [State.get_put_other _ _ _ _ (by decide), State.get_put_other _ _ _ _ (by decide), State.get_raise_same]
  rfl

theorem State.out_setPend_proposal (p : PendingMode) {o e : Nat} (hp : p.proposal = some (o, e)) :
    (s.setPend (some p)).out = s.out := by
  simp only [State.setPend, State.showPend, hp]
  rfl

theorem State.pendMode_setPend_proposal (p : PendingMode) {o e : Nat} (hp : p.proposal = some (o, e)) :
    (s.setPend (some p)).pendMode = some p := by
  simp only [State.setPend, State.showPend, hp]
  rfl

/-- A change that waits for a bay does not apply yet. -/
theorem State.modePoll_of_waiting {p : PendingMode} (hpend : s.pendMode = some p) (htarget : p.target = 3) (hmode : s.mode = 1)
    (hbays : p.bays ≠ []) : s.modePoll = s := by
  have hnot : s.modeReady p = false := by
    rw [State.modeReady, if_pos ⟨htarget, .inl hmode⟩, List.isEmpty_eq_false_iff]
    exact hbays
  simp only [State.modePoll, hpend, hnot]
  rfl

/-- What follows the pending change: the state in which it is signalled. -/
theorem does_modeProposeReceive {f : ChainFrame} (hgood : chainGood f = true) (htype : (f.getD 0 0).toNat = 2)
    (hnew : (chainField f 0 2, chainField f 2 1) ∉ s.chain.seen) (hhead : chainField f 0 2 ≠ 0xFFFF) (hfree : s.pendMode = none)
    (hmode : s.mode = 1) (hnewer : epochNewer (chainField f 4 4) (s.get R.EPOCH.EPOCH) = true) (htarget : chainField f 3 1 = 3)
    (hwait : s.bayWait 3 ≠ []) :
    Does (.modeProposeReceive f) s fun t => t.pendMode = some (proposedChange s f) ∧ t.get R.EPOCH_CTL.PENDING = 1 ∧ t.mode = 1 ∧
      .chainFrame f ∈ t.out := by
  have hvector : s.get R.MC_CTL.VECTOR < 2048 := State.get_lt ..
  have hp : (proposedChange s f).proposal = some (chainField f 0 2, chainField f 4 4) := rfl
  let u := (s.sawFrame f).emit (.chainFrame f)
  let t := (u.setPend (some (proposedChange s f))).signal (s.get R.MC_CTL.VECTOR)
  have htpend : t.pendMode = some (proposedChange s f) :=
    (State.pendMode_signal ..).trans (State.pendMode_setPend_proposal _ hp)
  have htmode : t.mode = 1 :=
    ((State.get_signal _ hvector (by decide)).trans (State.get_setPend_proposal _ hp (by decide))).trans hmode
  have hexec : exec (.modeProposeReceive f) s = .next t := by
    have htake : s.chainTake 2 f (fun s => s.takeProposal (chainField f 0 2) (chainField f 3 1) (chainField f 4 4)) = t.modePoll := by
      rw [State.chainTake_fresh hgood htype (fun _ => hhead) hnew, htarget]
      exact State.takeProposal_quiesce (s := u) hfree hmode hnewer
    simp only [exec, execModeProposeReceive]
    rw [htake, State.modePoll_of_waiting htpend rfl htmode hwait]
  rw [does_iff hexec]
  refine ⟨htpend, ?_, htmode, State.out_subset_signal _ _ ?_⟩
  · exact (State.get_signal _ hvector (by decide)).trans (State.epochPending_setPend_proposal _ hp)
  · rw [State.out_setPend_proposal _ hp]
    exact List.mem_cons_self ..

/-! ## An acknowledgement (R540) and an alert (R526) -/

/-- Where `MC_UNITS` does not say how many units there are, no proposal has all its acknowledgements. -/
theorem State.countAck_of_no_units (hunits : s.get R.MC_UNITS.UNITS = 0) (unit res e : Nat) :
    s.countAck unit res e = s.onChain fun c => { c with props := c.props.map fun x => if x.epoch = e then x.count unit res else x } := by
  have hnone (u : State) (hu : u.get R.MC_UNITS.UNITS = 0) (x : Proposer) : u.proposerDone x = false := by
    simp [State.proposerDone, hu]
  unfold State.countAck
  dsimp only
  rw [List.filter_eq_nil_iff.mpr, List.foldl_nil]
  intro x _
  simp [hnone (s.onChain fun c => { c with props := c.props.map fun x => if x.epoch = e then x.count unit res else x }) hunits x]

theorem does_modeAckReceive {f : ChainFrame} {x : Proposer} (hgood : chainGood f = true) (htype : (f.getD 0 0).toNat = 3)
    (hnew : (chainField f 0 2, chainField f 2 1) ∉ s.chain.seen) (hprops : s.chain.props = [x]) (hepoch : x.epoch = chainField f 4 4)
    (hunits : s.get R.MC_UNITS.UNITS = 0) :
    Does (.modeAckReceive f) s fun t => t.chain.props = [x.count (chainField f 0 2) (chainField f 3 1)] ∧
      t.chain.seen.head? = some (chainField f 0 2, chainField f 2 1) ∧ t.out = .chainFrame f :: s.out := by
  have hexec : exec (.modeAckReceive f) s = .next (((s.sawFrame f).emit (.chainFrame f)).onChain fun c =>
      { c with props := c.props.map fun x => if x.epoch = chainField f 4 4 then x.count (chainField f 0 2) (chainField f 3 1) else x }) := by
    simp only [exec, execModeAckReceive]
    rw [State.chainTake_fresh hgood htype (fun h => absurd h (by decide)) hnew]
    exact congrArg _ (State.countAck_of_no_units (s := (s.sawFrame f).emit (.chainFrame f)) hunits _ _ _)
  rw [does_iff hexec]
  refine ⟨?_, rfl, rfl⟩
  have hmap : (((s.sawFrame f).emit (.chainFrame f)).onChain fun c =>
      { c with props := c.props.map fun x => if x.epoch = chainField f 4 4 then x.count (chainField f 0 2) (chainField f 3 1) else x }).chain.props =
      s.chain.props.map fun x => if x.epoch = chainField f 4 4 then x.count (chainField f 0 2) (chainField f 3 1) else x := rfl
  rw [hmap, hprops, List.map_singleton, if_pos hepoch]

theorem does_chainAlertReceive {f : ChainFrame} (hgood : chainGood f = true) (htype : (f.getD 0 0).toNat = 4)
    (hnew : (chainField f 0 2, chainField f 2 1) ∉ s.chain.seen) :
    Does (.chainAlertReceive f) s fun t => t.out = .chainFrame f :: s.out ∧
      t.chain.seen.head? = some (chainField f 0 2, chainField f 2 1) ∧ t.regs = s.regs :=
  ⟨_, congrArg Host.Outcome.next (State.chainTake_fresh hgood htype (fun h => absurd h (by decide)) hnew _), rfl, rfl, rfl⟩

/-! ## The line itself (R526, R545) -/

/-- A count in a field stops at the field's largest value. -/
theorem satAdd_eq_min (w a b : Nat) : satAdd w a b = min (2 ^ w - 1) (a + b) := by
  have hpos := Nat.two_pow_pos w
  unfold satAdd
  split <;> omega

theorem does_chainFrameBadCrc : Does .chainFrameBadCrc s fun t =>
    t.get R.MC_STAT.CRC_ERR = min (2 ^ R.MC_STAT.CRC_ERR.width - 1) (s.get R.MC_STAT.CRC_ERR + 1) ∧ Leaves s t [R.MC_STAT.CRC_ERR] [] :=
  ⟨_, rfl, (State.get_count_same ..).trans (satAdd_eq_min ..), (Leaves.refl s _ _).put (by decide) _⟩

theorem does_mcInSymbolLock (lock : Bool) :
    Does (.mcInSymbolLock lock) s fun t => t.get R.MC_STAT.LOCK = b2n lock ∧ Leaves s t [R.MC_STAT.LOCK] [] := by
  refine ⟨_, rfl, ?_, (Leaves.refl s _ _).put (by decide) _⟩
  rw [State.putB, State.get_put_same]
  cases lock <;> rfl

/-! ## A roll call (R528) -/

/-- The open number of a previous ID, and the ID taken and recorded. -/
def State.idTaken (s : State) (id roll : Nat) : State :=
  (((s.fresh 16).2.raise R.MC_UID.VALID).put R.MC_UID.ID id).record srcChain 0x1101 [id, (s.fresh 16).1, roll]

/-- A unit without an ID takes one. -/
theorem State.takeId_of_none (hnone : s.on R.MC_UID.VALID = false) (id roll : Nat) :
    s.takeId id roll = (s.idTaken id roll).signal ((s.idTaken id roll).get R.MC_CTL.VECTOR) := by
  unfold State.takeId
  simp only [hnone]
  rfl

theorem State.get_takeId {id : Nat} (hid : id < 65536) (roll : Nat) :
    ((s.idTaken id roll).signal ((s.idTaken id roll).get R.MC_CTL.VECTOR)).get R.MC_UID.VALID = 1 ∧
      ((s.idTaken id roll).signal ((s.idTaken id roll).get R.MC_CTL.VECTOR)).get R.MC_UID.ID = id := by
  rw [State.get_signal _ (State.get_lt ..) (by decide), State.get_signal _ (State.get_lt ..) (by decide), State.idTaken,
    State.get_record _ _ _ _ _ (by decide), State.get_record _ _ _ _ _ (by decide), State.get_put_same,
    State.get_put_other _ _ _ _ (by decide), State.get_raise_same]
  exact ⟨rfl, Nat.mod_eq_of_lt hid⟩

theorem chainField_one_lt (f : ChainFrame) (o : Nat) : chainField f o 1 < 256 := by
  unfold chainField
  rcases (f.drop (2 + o)) with _ | ⟨b, r⟩
  · exact Nat.zero_lt_succ _
  · have hb := b.isLt
    simpa [ofBytesLE] using hb

theorem does_rollCallReceive {f : ChainFrame} (hgood : chainGood f = true) (htype : (f.getD 0 0).toNat = 1)
    (hcount : chainField f 2 2 < 256) (henabled : s.on R.MC_CTL.ROLL_EN = true) (hnone : s.on R.MC_UID.VALID = false) :
    Does (.rollCallReceive f) s fun t => t.get R.MC_UID.VALID = 1 ∧ t.get R.MC_UID.ID = 256 * chainField f 0 1 + chainField f 2 2 ∧
      .chainFrame (chainBytes 1 (bytesLE 1 (chainField f 0 1) ++ bytesLE 1 (chainField f 1 1) ++ bytesLE 2 (chainField f 2 2 + 1) ++
        bytesLE 2 (chainField f 4 2))) ∈ t.out := by
  have hprefix := chainField_one_lt f 0
  have hmin : min 0xFFFF (chainField f 2 2 + 1) = chainField f 2 2 + 1 := by omega
  have hexec : exec (.rollCallReceive f) s =
      .next ((s.takeId (256 * chainField f 0 1 + chainField f 2 2) (chainField f 4 2)).chainOut 1
        (bytesLE 1 (chainField f 0 1) ++ bytesLE 1 (chainField f 1 1) ++ bytesLE 2 (chainField f 2 2 + 1) ++ bytesLE 2 (chainField f 4 2))) := by
    simp only [exec, execRollCallReceive, hgood, htype, henabled, hnone, hmin, Nat.not_le.mpr hcount]
    rfl
  obtain ⟨hvalid, hid⟩ := State.get_takeId (s := s) (id := 256 * chainField f 0 1 + chainField f 2 2) (by omega) (chainField f 4 2)
  rw [does_iff hexec, State.takeId_of_none hnone, State.chainOut, State.get_emit_any, State.get_emit_any]
  exact ⟨hvalid, hid, List.mem_cons_self ..⟩

/-- Settles O27: each type of frame by its lemma, after `State.chainTake_fresh`. -/
theorem managementChainFrames : Obligations.ManagementChainFrames := by
  unfold Obligations.ManagementChainFrames
  intro s
  exact ⟨fun _ => does_modeProposeReceive, fun _ _ => does_modeAckReceive, fun _ => does_chainAlertReceive, does_chainFrameBadCrc,
    does_mcInSymbolLock, fun _ => does_rollCallReceive⟩

end Sys2Proof.Machine
end

section
/-!
SUPPORT. What the ledger's writer leaves of its own registers: it moves the series number and the ring's tail, and shows its state; EN, HEAD,
the dropped events' flag and the global trace's registers are none of its.
-/

namespace Sys2Proof.Machine

/-- The fields that the writer, the bank's writer and a message change none of (R603 to R607). -/
def Field.writerLeaves (g : Field) : Bool :=
  decide (g.key ∉ [R.LEDGER_SEQ.SEQ.key, R.LEDGER_TAIL.TAIL.key, R.LEDGER_TAIL.PHASE.key, R.LEDGER_STAT.SLOTS.key, R.LEDGER_STAT.FULL.key,
    R.LEDGER_STAT.EARLY_LOST.key, R.LUG_CTL.SEALED.key]) && (decide (g.key < 32 * 0x38000) || decide (32 * 0x38100 ≤ g.key))

/-- The writer's fields are none that it leaves. -/
theorem Field.key_ne_of_writerLeaves {g f : Field} (hg : g.writerLeaves = true)
    (hf : f.key ∈ [R.LEDGER_SEQ.SEQ.key, R.LEDGER_TAIL.TAIL.key, R.LEDGER_TAIL.PHASE.key, R.LEDGER_STAT.SLOTS.key, R.LEDGER_STAT.FULL.key,
      R.LEDGER_STAT.EARLY_LOST.key, R.LUG_CTL.SEALED.key]) : g.key ≠ f.key := by
  simp only [Field.writerLeaves, Bool.and_eq_true, decide_eq_true_eq] at hg
  exact fun e => hg.1 (e ▸ hf)

/-- `t` has come from `s` by operations of the writer that take no slot. -/
structure WriterKeeps (s t : State) : Prop where
  get : ∀ g : Field, g.writerLeaves = true → t.get g = s.get g
  slots : t.ledger.slots = s.ledger.slots

section
variable {s t : State} (e : Event) (r : Record)

theorem WriterKeeps.refl (s : State) : WriterKeeps s s := ⟨fun _ _ => rfl, rfl⟩

theorem WriterKeeps.put (h : WriterKeeps s t) {f : Field}
    (hf : f.key ∈ [R.LEDGER_SEQ.SEQ.key, R.LEDGER_TAIL.TAIL.key, R.LEDGER_TAIL.PHASE.key, R.LEDGER_STAT.SLOTS.key, R.LEDGER_STAT.FULL.key,
      R.LEDGER_STAT.EARLY_LOST.key, R.LUG_CTL.SEALED.key]) (v : Nat) : WriterKeeps s (t.put f v) :=
  ⟨fun g hg => (t.get_put_other _ _ _ (Field.key_ne_of_writerLeaves hg hf)).trans (h.get g hg), h.slots⟩

theorem WriterKeeps.withLedger (h : WriterKeeps s t) {l : Ledger} (hl : l.slots = t.ledger.slots) : WriterKeeps s (t.setLedger l) :=
  ⟨h.get, hl.trans h.slots⟩

theorem WriterKeeps.emit (h : WriterKeeps s t) (o : Emission) : WriterKeeps s (t.emit o) := by
  unfold State.emit
  split <;> exact ⟨h.get, h.slots⟩

theorem WriterKeeps.signal (h : WriterKeeps s t) {v : Nat} (hv : v < 2048) : WriterKeeps s (t.signal v) := by
  unfold State.signal
  split
  · refine ⟨fun g hg => ?_, h.slots⟩
    have hpba : g.key ≠ (R.MSIX_PBA.PEND (v / 32)).key := by
      simp only [Field.writerLeaves, Bool.and_eq_true, Bool.or_eq_true, decide_eq_true_eq] at hg
      simp only [R.MSIX_PBA.PEND]
      omega
    exact (t.get_put_other _ _ _ hpba).trans (h.get g hg)
  · exact h.emit _

theorem WriterKeeps.lugWrite (h : WriterKeeps s t) (off : Nat) (l : List Byte) : WriterKeeps s (t.lugWrite off l) := by
  have hsealed : WriterKeeps s ((t.lugStore lugSeal (bytesLE 4 0)).zero R.LUG_CTL.SEALED) :=
    WriterKeeps.put (t := t.lugStore lugSeal (bytesLE 4 0)) ⟨h.get, h.slots⟩ (by decide) 0
  unfold State.lugWrite
  split
  · exact ⟨h.get, h.slots⟩
  · dsimp only
    split
    · exact ⟨hsealed.get, hsealed.slots⟩
    · exact ⟨h.get, h.slots⟩

theorem WriterKeeps.tailWrite (h : WriterKeeps s t) : WriterKeeps s (t.tailWrite r) := by
  unfold State.tailWrite
  split
  · exact h.lugWrite _ _
  · exact h

theorem WriterKeeps.ringWrite (h : WriterKeeps s t) : WriterKeeps s (t.ringWrite r) := by
  unfold State.ringWrite
  dsimp only
  apply WriterKeeps.tailWrite
  have hsent := (h.emit (.hostWrite (t.get R.LEDGER_BASE_LO.ADDR * 4096 + 2 ^ 32 * t.get R.LEDGER_BASE_HI.ADDR +
    64 * t.get R.LEDGER_TAIL.TAIL + 4) ((recordBytes (t.get R.LEDGER_TAIL.PHASE) r).drop 4))).emit
    (.hostWrite (t.get R.LEDGER_BASE_LO.ADDR * 4096 + 2 ^ 32 * t.get R.LEDGER_BASE_HI.ADDR + 64 * t.get R.LEDGER_TAIL.TAIL)
      ((recordBytes (t.get R.LEDGER_TAIL.PHASE) r).take 4))
  have hwrap := WriterKeeps.put (f := R.LEDGER_TAIL.PHASE) (hsent.put (f := R.LEDGER_TAIL.TAIL) (by decide) 0) (by decide)
  have hnext := hsent.put (f := R.LEDGER_TAIL.TAIL) (by decide) (t.get R.LEDGER_TAIL.TAIL + 1)
  have hvector (u : State) : u.get R.LEDGER_CTL.VECTOR < 2048 := u.get_lt _
  by_cases hfull : t.get R.LEDGER_TAIL.TAIL + 1 = t.ledgerSize
  · simp only [if_pos hfull]
    split
    · exact (hwrap _).signal (hvector _)
    · exact hwrap _
  · simp only [if_neg hfull]
    split
    · exact hnext.signal (hvector _)
    · exact hnext

theorem WriterKeeps.nextRecord (h : WriterKeeps s t) : WriterKeeps s (t.nextRecord e).2 := h.put (by decide) _

theorem WriterKeeps.earlyPut (h : WriterKeeps s t) : WriterKeeps s (t.earlyPut e) := by
  unfold State.earlyPut
  dsimp only
  split
  · exact (h.nextRecord _).withLedger rfl
  · exact WriterKeeps.put (h.withLedger (by rfl)) (by decide) 1

theorem WriterKeeps.writerTake (h : WriterKeeps s t) : WriterKeeps s (t.writerTake e) := by
  unfold State.writerTake
  dsimp only
  split
  · exact ((h.nextRecord e).ringWrite _).withLedger rfl
  · exact (h.earlyPut e).withLedger rfl

theorem WriterKeeps.writerOrdinary (h : WriterKeeps s t) : WriterKeeps s (t.writerOrdinary e) := by
  unfold State.writerOrdinary
  split
  · exact h.writerTake e
  · exact h.withLedger rfl

theorem WriterKeeps.ledgerStat (h : WriterKeeps s t) : WriterKeeps s t.ledgerStat :=
  WriterKeeps.put (h.put (by decide) _) (by decide) _

/-- A record that is dropped still takes its number and reaches the tail. -/
theorem WriterKeeps.dropRecord (h : WriterKeeps s t) : WriterKeeps s (t.dropRecord e) := (h.nextRecord e).tailWrite _

/-- What the writer takes next leaves its place, which takes no slot that is empty; the rest is the writer's. -/
theorem exists_writerKeeps_ledgerPump (t : State) :
    ∃ l : Ledger, (t.ledger.slots = [] → l.slots = []) ∧ WriterKeeps (t.setLedger l) t.ledgerPump := by
  have hafter {l : Ledger} {u : State} (hu : WriterKeeps (t.setLedger l) u) (hl : l.slots = t.ledger.slots) :
      ∃ l : Ledger, (t.ledger.slots = [] → l.slots = []) ∧ WriterKeeps (t.setLedger l) u := ⟨l, hl.trans, hu⟩
  have hsame := hafter (WriterKeeps.refl t) rfl
  unfold State.ledgerPump
  dsimp only
  split
  · exact hsame
  split
  · split
    · exact hafter (.ringWrite _ (.refl _)) rfl
    · exact hsame
  split
  · split
    · exact hafter (.writerTake _ (.refl _)) rfl
    · exact hsame
  split
  · exact hafter (.writerTake _ (.refl _)) rfl
  split
  · split
    · exact hafter (.writerTake _ (.refl _)) rfl
    · exact hsame
  split
  · split
    · exact hafter (.writerTake _ (.refl _)) rfl
    · exact hsame
  split
  · exact hafter (.writerOrdinary _ (.refl _)) rfl
  split
  next hslot =>
    refine ⟨_, fun hempty => ?_, .writerOrdinary _ (.refl _)⟩
    simp [Ledger.nextSlot, hempty] at hslot
  · exact hafter (.refl _) rfl

theorem State.get_ledgerPump (s : State) {g : Field} (hg : g.writerLeaves = true) : s.ledgerPump.get g = s.get g := by
  obtain ⟨l, -, hkeeps⟩ := exists_writerKeeps_ledgerPump s
  exact hkeeps.get g hg

theorem State.slots_ledgerPump (hslots : s.ledger.slots = []) : s.ledgerPump.ledger.slots = [] := by
  obtain ⟨l, hl, hkeeps⟩ := exists_writerKeeps_ledgerPump s
  exact hkeeps.slots.trans (hl hslots)

theorem State.get_ledgerStat (s : State) {g : Field} (hg : g.writerLeaves = true) : s.ledgerStat.get g = s.get g :=
  (WriterKeeps.refl s).ledgerStat.get g hg

/-- An event that the global trace does not take is the writer's, or dropped, or counted. -/
theorem State.get_offer_of_idle (hidle : s.on R.GTRC_STAT.ACTIVE = false) {g : Field} (hg : g.writerLeaves = true)
    (hdrop : g.key ∉ [R.LEDGER_DROPS.DROPS.key, R.LEDGER_STAT.OVERRUN.key, R.LEDGER_COAL.COAL.key]) : (s.offer e).get g = s.get g := by
  simp only [List.mem_cons, List.not_mem_nil, or_false, not_or] at hdrop
  obtain ⟨hdrops, hoverrun, hcoal⟩ := hdrop
  have htrace (a b c d e f : Nat) : s.trace a b c d e f = s := by simp [State.trace, hidle]
  have htake := (WriterKeeps.refl s).writerTake e
  have hordinary := (WriterKeeps.refl s).writerOrdinary e
  have hdropped (a b : Nat) : ((s.countDrop 1 a b).dropRecord e).get g = s.get g := by
    rw [(WriterKeeps.dropRecord e (.refl _)).get g hg, State.countDrop, State.raise, State.get_put_other _ _ _ _ hoverrun, State.count,
      State.get_put_other _ _ _ _ hdrops]
    rfl
  unfold State.offer
  dsimp only
  rw [htrace, State.get_ledgerStat _ hg]
  split
  · split
    · exact htake.get g hg
    split
    · rfl
    · exact hdropped _ _
  split
  · exact hordinary.get g hg
  split
  · exact State.get_put_other _ _ _ _ hcoal
  · rfl

end

end Sys2Proof.Machine
end

section
/-!
PROOF. The commands of the ledger engine and of the global trace (R603 to R606, R610), over what the writer leaves.
-/

namespace Sys2Proof.Machine

section
variable {s : State}

/-! ## The writer is free (R603) -/

/-- With nothing behind the record, the writer only begins a new round. -/
theorem State.ledgerPump_of_idle (hwriting : s.ledger.writing = false) (hflush : s.flushing = []) (hlost : s.ledger.earlyLost = 0)
    (hsafety : s.ledger.nextSafety = none) (hdrops : s.ledger.drops = 0) (hheld : s.ledger.held = none) (hcoal : s.ledger.coal = none)
    (hslots : s.ledger.slots = []) : s.ledgerPump = s.setLedger { s.ledger with round := 0 } := by
  have hslot : s.ledger.nextSlot = none := by simp [Ledger.nextSlot, hslots]
  unfold State.ledgerPump
  simp only [hwriting, hflush, hlost, hsafety, hdrops, hheld, hcoal, hslot, Nat.lt_irrefl, false_and, if_false, Bool.false_eq_true]

theorem does_ledgerWriteDone (hflush : s.flushing = []) (hlost : s.ledger.earlyLost = 0) (hsafety : s.ledger.nextSafety = none)
    (hdrops : s.ledger.drops = 0) (hheld : s.ledger.held = none) (hcoal : s.ledger.coal = none) (hslots : s.ledger.slots = []) :
    Does .ledgerWriteDone s fun t => t.ledger.writing = false ∧ LeavesRec s t [] [] := by
  have hleaves := (Leaves.refl s [] []).toRec
  by_cases hwriting : s.ledger.writing = true
  · have hexec : exec .ledgerWriteDone s = .next s.writerFree := congrArg Host.Outcome.next (if_pos hwriting)
    rw [does_iff hexec]
    refine ⟨?_, hleaves.records (records_writerFree (.refl s))⟩
    have hpump := State.ledgerPump_of_idle (s := s.setLedger { s.ledger with writing := false }) rfl hflush hlost hsafety hdrops hheld
      hcoal hslots
    rw [State.writerFree, hpump]
    rfl
  · have hexec : exec .ledgerWriteDone s = .next s := congrArg Host.Outcome.next (if_neg hwriting)
    rw [does_iff hexec]
    exact ⟨Bool.eq_false_iff.mpr hwriting, hleaves⟩

/-! ## HOLD (R605) -/

/-- No slot is occupied, and dropped events are shown. -/
structure State.AllDropped (s : State) : Prop where
  slots : s.ledger.slots = []
  overrun : s.get R.LEDGER_STAT.OVERRUN = 1

theorem WriterKeeps.allDropped {t : State} (h : WriterKeeps s t) (hs : s.AllDropped) : t.AllDropped :=
  ⟨h.slots.trans hs.slots, (h.get _ (by decide)).trans hs.overrun⟩

theorem State.AllDropped.countDrop (hslots : s.ledger.slots = []) (n a b : Nat) : (s.countDrop n a b).AllDropped :=
  ⟨hslots, State.get_raise_same ..⟩

theorem State.AllDropped.dropSlot (h : s.AllDropped) (c : CountSlot) : (s.dropSlot c).AllDropped :=
  (WriterKeeps.dropRecord c.first (.refl _)).allDropped (.countDrop h.slots ..)

theorem State.AllDropped.ledgerPump (h : s.AllDropped) : s.ledgerPump.AllDropped :=
  ⟨State.slots_ledgerPump h.slots, (s.get_ledgerPump (by decide)).trans h.overrun⟩

theorem State.AllDropped.ledgerStat (h : s.AllDropped) : s.ledgerStat.AllDropped := (WriterKeeps.refl s).ledgerStat.allDropped h

theorem State.AllDropped.dropSlots (h : s.AllDropped) (l : List CountSlot) : (l.foldl State.dropSlot s).AllDropped := by
  induction l generalizing s with
  | nil => exact h
  | cons c l ih => exact ih (h.dropSlot c)

theorem records_dropSlots {s0 : State} (h : Records s0 s) (l : List CountSlot) : Records s0 (l.foldl State.dropSlot s) := by
  induction l generalizing s with
  | nil => exact h
  | cons c l ih => exact ih (records_dropRecord (records_countDrop h))

/-- The slots, youngest first event first. -/
def Ledger.youngestFirst (l : Ledger) : List CountSlot :=
  (l.slots.map (·.2)).mergeSort fun a b =>
    decide (b.first.sec < a.first.sec) || (b.first.sec == a.first.sec && decide (b.first.sub ≤ a.first.sub))

/-- The held record `e` is dropped. -/
def State.heldDropped (s : State) (e : Event) : State :=
  ((s.setLedger { s.ledger with held := none }).countDrop 1 (s.rtc + 2 ^ 40 * s.rtcSub) (s.rtc + 2 ^ 40 * s.rtcSub)).dropRecord e

/-- The state once the held record `e` and every slot are dropped. -/
def State.holdDropped (s : State) (e : Event) : State :=
  (s.heldDropped e).ledger.youngestFirst.foldl State.dropSlot ((s.heldDropped e).setLedger { (s.heldDropped e).ledger with slots := [] })

theorem State.allDropped_holdDropped (e : Event) : (s.holdDropped e).AllDropped := by
  refine State.AllDropped.dropSlots ⟨rfl, ?_⟩ _
  exact ((WriterKeeps.dropRecord e (.refl _)).get _ (by decide)).trans (State.get_raise_same ..)

theorem records_holdDropped (e : Event) : Records s (s.holdDropped e) :=
  records_dropSlots (records_setLedger (records_dropRecord (records_countDrop (records_setLedger (.refl s))))) _

theorem does_ledgerHoldExpire {e : Event} (hen : s.on R.LEDGER_CTL.EN = true) (hfull : s.ledgerFree ≤ 16) (hheld : s.ledger.held = some e) :
    Does .ledgerHoldExpire s fun t => t.ledger.slots = [] ∧ t.get R.LEDGER_STAT.OVERRUN = 1 ∧ LeavesRec s t [] [] := by
  have hexec : exec .ledgerHoldExpire s = .next (s.holdDropped e).ledgerPump.ledgerStat := by
    simp only [exec, execLedgerHoldExpire, hen, hheld, Nat.not_lt.mpr hfull]
    rfl
  rw [does_iff hexec]
  obtain ⟨hslots, hoverrun⟩ := (State.allDropped_holdDropped e (s := s)).ledgerPump.ledgerStat
  exact ⟨hslots, hoverrun, (Leaves.refl s [] []).toRec.records (records_ledgerStat (records_ledgerPump (records_holdDropped e)))⟩

theorem does_ledgerHoldExpire_of_room (h : s.on R.LEDGER_CTL.EN = false ∨ 16 < s.ledgerFree) : Does .ledgerHoldExpire s fun t => t = s := by
  have hroom : (!s.on R.LEDGER_CTL.EN || decide (16 < s.ledgerFree)) = true := by simpa using h
  exact ⟨s, congrArg Host.Outcome.next (if_pos hroom), rfl⟩

/-! ## HEAD (R604) -/

theorem State.ledgerSize_le (s : State) : s.ledgerSize ≤ 2 ^ 20 := by
  unfold State.ledgerSize clampNat
  split
  · omega
  · split <;> omega

theorem does_ledgerHeadWrite {h : Nat} (hsize : h < s.ledgerSize) :
    Does (.ledgerHeadWrite h) s fun t => t.get R.LEDGER_HEAD.HEAD = h ∧ LeavesRec s t [] [] := by
  have hmod : h % 2 ^ 20 = h := Nat.mod_eq_of_lt (Nat.lt_of_lt_of_le hsize s.ledgerSize_le)
  have hexec : exec (.ledgerHeadWrite h) s = .next (s.put R.LEDGER_HEAD.HEAD h).ledgerPump.ledgerStat := by
    simp only [exec, execLedgerHeadWrite, hmod, Nat.not_le.mpr hsize, if_false]
  rw [does_iff hexec, State.get_ledgerStat _ (by decide), State.get_ledgerPump _ (by decide), State.get_put_same]
  exact ⟨hmod, (Leaves.refl s [] []).toRec.records (records_ledgerStat (records_ledgerPump (.put (.refl s) (by decide))))⟩

theorem does_ledgerHeadWrite_bad {h : Nat} (hsize : s.ledgerSize ≤ h) (hlt : h < 2 ^ 20) :
    Does (.ledgerHeadWrite h) s fun t => t = s.raise R.LEDGER_STAT.BAD_HEAD := by
  refine ⟨_, congrArg Host.Outcome.next (if_pos ?_), rfl⟩
  rw [Nat.mod_eq_of_lt hlt]
  exact hsize

/-! ## EN (R604, R606) -/

/-- The ring enabled, at its first slot. -/
def State.ringStarted (s : State) : State := ((s.raise R.LEDGER_CTL.EN).zero R.LEDGER_TAIL.TAIL).put R.LEDGER_TAIL.PHASE 1

/-- The engine with its early records before the ring's. -/
def Ledger.started (l : Ledger) : Ledger := { l with flush := l.flush ++ l.early, early := [], enabledOnce := true }

/-- A writer that is busy takes nothing more. -/
theorem State.ledgerPump_of_writing (hwriting : s.ledger.writing = true) : s.ledgerPump = s := if_pos hwriting

theorem exec_ledgerEnable (hen : s.on R.LEDGER_CTL.EN = false) (hwriting : s.ledger.writing = true) :
    exec .ledgerEnable s = .next (s.ringStarted.setLedger s.ledger.started).ledgerStat := by
  have hpump : (s.ringStarted.setLedger s.ledger.started).ledgerPump = s.ringStarted.setLedger s.ledger.started :=
    State.ledgerPump_of_writing hwriting
  simp only [exec, execLedgerEnable, hen, Bool.false_eq_true, if_false]
  exact congrArg (fun t : State => Host.Outcome.next t.ledgerStat) hpump

theorem State.get_ringStarted : s.ringStarted.get R.LEDGER_CTL.EN = 1 ∧ s.ringStarted.get R.LEDGER_TAIL.TAIL = 0 ∧
    s.ringStarted.get R.LEDGER_TAIL.PHASE = 1 := by
  refine ⟨?_, ?_, State.get_put_same ..⟩
  · rw [State.ringStarted, State.get_put_other _ _ _ _ (by decide), State.zero, State.get_put_other _ _ _ _ (by decide),
      State.get_raise_same]
    rfl
  · rw [State.ringStarted, State.get_put_other _ _ _ _ (by decide), State.get_zero_same]

/-- Showing the slots and the limit changes those fields alone. -/
theorem State.get_ledgerStat_of_ne {g : Field} (hslots : g.key ≠ R.LEDGER_STAT.SLOTS.key) (hfull : g.key ≠ R.LEDGER_STAT.FULL.key) :
    s.ledgerStat.get g = s.get g :=
  (State.get_put_other _ _ _ _ hfull).trans (State.get_put_other _ _ _ _ hslots)

theorem does_ledgerEnable (hen : s.on R.LEDGER_CTL.EN = false) (hwriting : s.ledger.writing = true) :
    Does .ledgerEnable s fun t => t.get R.LEDGER_CTL.EN = 1 ∧ t.get R.LEDGER_TAIL.TAIL = 0 ∧ t.get R.LEDGER_TAIL.PHASE = 1 ∧
      t.ledger = s.ledger.started ∧ LeavesRec s t [] [] := by
  obtain ⟨hon, htail, hphase⟩ := s.get_ringStarted
  rw [does_iff (exec_ledgerEnable hen hwriting), State.get_ledgerStat_of_ne (by decide) (by decide),
    State.get_ledgerStat_of_ne (by decide) (by decide), State.get_ledgerStat_of_ne (by decide) (by decide)]
  have hrecords : Records s s.ringStarted := .put (records_zero (records_raise (.refl s) (by decide)) (by decide)) (by decide)
  exact ⟨hon, htail, hphase, rfl, (Leaves.refl s [] []).toRec.records (records_ledgerStat (records_setLedger hrecords))⟩

theorem does_ledgerDisable (hen : s.on R.LEDGER_CTL.EN = true) : Does .ledgerDisable s fun t => t.get R.LEDGER_CTL.EN = 0 := by
  have hexec : exec .ledgerDisable s = .next (s.zero R.LEDGER_CTL.EN).ledgerPump.ledgerStat := congrArg Host.Outcome.next (if_pos hen)
  rw [does_iff hexec, State.get_ledgerStat _ (by decide), State.get_ledgerPump _ (by decide), State.get_zero_same]

/-! ## The global trace (R610) -/

/-- The flags of a capture that has started. -/
def State.captureStarted (s : State) : State :=
  (((((s.raise R.GTRC_STAT.ACTIVE).zero R.GTRC_STAT.TRIGGERED).zero R.GTRC_STAT.DONE).zero R.GTRC_ARM.TRIG_MASK).zero R.GTRC_STAT.FIRST).zero
    R.GTRC_STAT.TRIG_IDX

theorem State.get_captureStarted_of_ne {g : Field} (hmask : g.key ≠ R.GTRC_ARM.TRIG_MASK.key)
    (hindex : g.key ∉ [R.GTRC_STAT.FIRST.key, R.GTRC_STAT.TRIG_IDX.key]) :
    s.captureStarted.get g = (((s.raise R.GTRC_STAT.ACTIVE).zero R.GTRC_STAT.TRIGGERED).zero R.GTRC_STAT.DONE).get g := by
  simp only [List.mem_cons, List.not_mem_nil, or_false, not_or] at hindex
  exact (State.get_put_other _ _ _ _ hindex.2).trans <| (State.get_put_other _ _ _ _ hindex.1).trans (State.get_put_other _ _ _ _ hmask)

theorem Leaves.withGtrc {t : State} {fs : List Field} {bs : List Nat} (h : Leaves s t fs bs) (g : GlobalTrace) :
    Leaves s { t with gtrc := g } fs bs := { h with }

theorem does_gtrcArm : Does .gtrcArm s fun t => t.get R.GTRC_STAT.ACTIVE = 1 ∧ t.get R.GTRC_STAT.TRIGGERED = 0 ∧
    t.get R.GTRC_STAT.DONE = 0 ∧ t.gtrc.buf = [] ∧ Leaves s t [R.GTRC_STAT.ACTIVE, R.GTRC_STAT.TRIGGERED, R.GTRC_STAT.DONE,
      R.GTRC_ARM.TRIG_MASK, R.GTRC_STAT.FIRST, R.GTRC_STAT.TRIG_IDX] [] := by
  refine ⟨{ s.captureStarted with gtrc := { s.captureStarted.gtrc with buf := [], base := 0 } }, rfl, ?_, ?_, ?_, rfl,
    Leaves.withGtrc ?_ _⟩
  · exact (State.get_captureStarted_of_ne (by decide) (by decide)).trans <| (State.get_put_other _ _ _ _ (by decide)).trans
      ((State.get_put_other _ _ _ _ (by decide)).trans (State.get_raise_same ..))
  · exact (State.get_captureStarted_of_ne (by decide) (by decide)).trans <| (State.get_put_other _ _ _ _ (by decide)).trans
      (State.get_zero_same ..)
  · exact (State.get_captureStarted_of_ne (by decide) (by decide)).trans (State.get_zero_same ..)
  · exact ((((((Leaves.refl s _ _).raise (by decide)).zero (by decide)).zero (by decide)).zero (by decide)).zero (by decide)).zero
      (by decide)

theorem does_gtrcForce (h : s.on R.GTRC_STAT.ACTIVE = false ∨ s.on R.GTRC_STAT.TRIGGERED = false) :
    Does .gtrcForce s fun t => t.get R.GTRC_ARM.FORCE = 1 ∧ Leaves s t [R.GTRC_ARM.FORCE] [] := by
  have hnot : ¬ (s.on R.GTRC_STAT.ACTIVE && s.on R.GTRC_STAT.TRIGGERED) = true := by
    rw [Bool.and_eq_true]
    rcases h with h | h <;> simp [h]
  exact ⟨s.raise R.GTRC_ARM.FORCE, congrArg Host.Outcome.next (if_neg hnot), State.get_raise_same .., (Leaves.refl s _ _).raise (by decide)⟩

theorem does_gtrcForce_triggered (hactive : s.on R.GTRC_STAT.ACTIVE = true) (htriggered : s.on R.GTRC_STAT.TRIGGERED = true) :
    Does .gtrcForce s fun t => t = s :=
  ⟨s, congrArg Host.Outcome.next (if_pos (by rw [hactive, htriggered]; rfl)), rfl⟩

/-- The capture ended. -/
def State.captureEnded (s : State) : State := (s.zero R.GTRC_STAT.ACTIVE).raise R.GTRC_STAT.DONE

theorem does_gtrcCaptureDone (hactive : s.on R.GTRC_STAT.ACTIVE = true) (htriggered : s.on R.GTRC_STAT.TRIGGERED = true)
    (hfull : traceSize ≤ s.gtrc.buf.length) : Does .gtrcCaptureDone s fun t => t.get R.GTRC_STAT.ACTIVE = 0 ∧
      t.get R.GTRC_STAT.DONE = 1 ∧ LeavesRec s t [] [] := by
  have hexec : exec .gtrcCaptureDone s = .next (s.captureEnded.record srcLedger 0x1404 [s.captureEnded.gtrcStat]) := by
    simp only [exec, execGtrcCaptureDone, hactive, htriggered, decide_eq_true hfull]
    rfl
  have hinactive : s.captureEnded.get R.GTRC_STAT.ACTIVE = 0 :=
    (State.get_put_other _ _ _ _ (by decide)).trans (State.get_zero_same ..)
  have hidle : s.captureEnded.on R.GTRC_STAT.ACTIVE = false := by
    rw [State.on, hinactive]
    rfl
  have hget {g : Field} (hg : g.writerLeaves = true)
      (hdrop : g.key ∉ [R.LEDGER_DROPS.DROPS.key, R.LEDGER_STAT.OVERRUN.key, R.LEDGER_COAL.COAL.key]) :
      (s.captureEnded.record srcLedger 0x1404 [s.captureEnded.gtrcStat]).get g = s.captureEnded.get g :=
    State.get_offer_of_idle _ hidle hg hdrop
  rw [does_iff hexec, hget (by decide) (by decide), hget (by decide) (by decide)]
  exact ⟨hinactive, State.get_raise_same ..,
    (Leaves.refl s [] []).toRec.records (records_record (records_raise (records_zero (.refl s) (by decide)) (by decide)))⟩

end

/-- Settles O54: each command by its lemmas, over what the writer leaves. -/
theorem ledgerAndGlobalTraceControl : Obligations.LedgerAndGlobalTraceControl := by
  unfold Obligations.LedgerAndGlobalTraceControl
  intro s
  refine ⟨does_ledgerWriteDone, fun _ => does_ledgerHoldExpire, does_ledgerHoldExpire_of_room, fun _ => does_ledgerHeadWrite,
    fun _ => does_ledgerHeadWrite_bad, fun hen hflush hearly hwriting => ?_, fun r rest hen hflush hearly hwriting => ?_,
    does_ledgerDisable, does_gtrcArm, does_gtrcForce, does_gtrcForce_triggered, does_gtrcCaptureDone⟩
  · obtain ⟨t, hexec, hon, htail, hphase, hledger, hleaves⟩ := does_ledgerEnable hen hwriting
    exact ⟨t, hexec, hon, htail, hphase, by rw [hledger]; rfl, hleaves⟩
  · obtain ⟨t, hexec, hon, -, -, hledger, -⟩ := does_ledgerEnable hen hwriting
    refine ⟨t, hexec, hon, by rw [hledger]; rfl, ?_⟩
    rw [hledger, Ledger.started, hflush, hearly]
    rfl

end Sys2Proof.Machine
end

section
/-!
SUPPORT. Lists of rising keys: which entries a write and a removal leave.
-/

namespace Sys2Proof.Machine

section
variable {α : Type} {m : Sparse α} {k : Nat} {e : Nat × α}

theorem Sparse.lt_of_above (h : Sparse.above k m = true) (he : e ∈ m) : k < e.1 := by
  induction m with
  | nil => cases he
  | cons x m ih =>
    simp only [Sparse.above, Bool.and_eq_true, decide_eq_true_eq] at h
    rcases List.mem_cons.mp he with rfl | he
    · exact h.1
    · exact ih h.2 he

theorem Sparse.mem_put (h : m.rising = true) {v : α} (he : e ∈ m.put k v) : e = (k, v) ∨ e ∈ m ∧ e.1 ≠ k := by
  induction m with
  | nil => exact .inl (List.mem_singleton.mp he)
  | cons x m ih =>
    simp only [Sparse.rising, Bool.and_eq_true] at h
    have htail {y : Nat × α} (hy : y ∈ m) : x.1 < y.1 := Sparse.lt_of_above h.1 hy
    simp only [Sparse.put] at he
    split at he
    next hlt =>
      rcases List.mem_cons.mp he with rfl | he
      · exact .inl rfl
      · refine .inr ⟨he, ?_⟩
        rcases List.mem_cons.mp he with rfl | he
        · exact Nat.ne_of_gt hlt
        · have := htail he
          omega
    split at he
    next heq =>
      rcases List.mem_cons.mp he with rfl | he
      · exact .inl rfl
      · have := htail he
        exact .inr ⟨List.mem_cons_of_mem _ he, by omega⟩
    next hne =>
      rcases List.mem_cons.mp he with rfl | he
      · exact .inr ⟨List.mem_cons_self .., fun e => hne e.symm⟩
      · exact (ih h.2 he).imp_right fun ⟨hmem, hne⟩ => ⟨List.mem_cons_of_mem _ hmem, hne⟩

theorem Sparse.mem_erase (h : m.rising = true) (he : e ∈ m.erase k) : e ∈ m ∧ e.1 ≠ k := by
  induction m with
  | nil => cases he
  | cons x m ih =>
    simp only [Sparse.rising, Bool.and_eq_true] at h
    simp only [Sparse.erase] at he
    split at he
    next heq =>
      have := Sparse.lt_of_above h.1 he
      exact ⟨List.mem_cons_of_mem _ he, by omega⟩
    next hother =>
      rcases List.mem_cons.mp he with rfl | he
      · exact ⟨List.mem_cons_self .., hother⟩
      · obtain ⟨hmem, hne⟩ := ih h.2 he
        exact ⟨List.mem_cons_of_mem _ hmem, hne⟩

theorem Sparse.rising_erase (h : m.rising = true) : (m.erase k).rising = true := by
  induction m with
  | nil => rfl
  | cons x m ih =>
    simp only [Sparse.rising, Bool.and_eq_true] at h
    simp only [Sparse.erase]
    split
    · exact h.2
    · simp only [Sparse.rising, Bool.and_eq_true]
      exact ⟨Sparse.above_erase m _ k h.1, ih h.2⟩

end

end Sys2Proof.Machine
end

section
/-!
PROOF. The Caddy (R464 to R470, R481): what it shows and serves, then its operations.
-/

namespace Sys2Proof.Machine

section
variable {s t : State}

/-! ## What the Caddy shows (R481, R482) -/

theorem State.caddy_caddyShow (s : State) : s.caddyShow.caddy = s.caddy := by
  unfold State.caddyShow
  rw [State.put_caddy]
  refine State.foldl_same State.caddy (fun u r => ?_) _ s
  split <;> rfl

/-- What is shown: the regions' HELD and FREE, and WAITING. -/
theorem State.get_caddyShow (s : State) {g : Field} (hwaiting : g.key ≠ R.CADDY_STAT.WAITING.key)
    (hregion : ∀ r < 16, g.key ≠ (R.CADDY_RGN_HELD.HELD r).key ∧ g.key ≠ (R.CADDY_RGN_FREE.FREE r).key) : s.caddyShow.get g = s.get g := by
  unfold State.caddyShow
  rw [State.get_put_other _ _ _ _ hwaiting]
  have hall : ∀ r ∈ List.range 16, g.key ≠ (R.CADDY_RGN_HELD.HELD r).key ∧ g.key ≠ (R.CADDY_RGN_FREE.FREE r).key :=
    fun r hr => hregion r (List.mem_range.mp hr)
  generalize List.range 16 = l at hall ⊢
  induction l generalizing s with
  | nil => rfl
  | cons r l ih =>
    obtain ⟨hheld, hfree⟩ := hall r (List.mem_cons_self ..)
    rw [List.foldl_cons, ih _ fun q hq => hall q (List.mem_cons_of_mem _ hq)]
    split
    · rw [State.get_put_other _ _ _ _ hfree, State.get_put_other _ _ _ _ hheld]
    · rfl

/-! ## Waiting requests are served (R465) -/

/-- With none waiting, serving only shows. -/
theorem State.caddyServe_of_idle (h : s.caddy.waiting = []) : s.caddyServe = s.caddyShow := by
  unfold State.caddyServe
  rw [h]
  rfl

/-- The state in which the buffer of tag `k`, taken from its region as `s` says, is held by `id`. -/
def State.withHolder (s : State) (id c k : Nat) : State :=
  ((s.onCaddy fun x => { x with held := x.held.put k ⟨[id], id, c⟩ }).chargeShow c id).caddyShow

/-- Whether a requester may be granted no buffer of a class. -/
def State.grantBarred (s : State) (id c : Nat) : Bool :=
  !s.on R.CADDY_CTL.EN || s.idAbsent id || (s.get (fQuota c id) != 255 && decide (s.get (fQuota c id) ≤ s.charged c id))

/-- A grant that is not barred takes a buffer of the best region. -/
theorem State.caddyGrant_eq (s : State) (id c : Nat) :
    s.caddyGrant id c = if s.grantBarred id c then none else
      (s.bestRegion c id).map fun r => ((s.takeBuffer r).2.ptrOf (s.takeBuffer r).1, (s.takeBuffer r).2.withHolder id c (s.takeBuffer r).1) := by
  unfold State.caddyGrant State.grantBarred
  dsimp only
  split
  · rfl
  · cases s.bestRegion c id <;> rfl

theorem State.regs_takeBuffer (s : State) (r : Nat) : (s.takeBuffer r).2.regs = s.regs := by
  unfold State.takeBuffer
  split <;> rfl

theorem State.caddy_takeBuffer (s : State) (r : Nat) :
    (s.takeBuffer r).2.caddy.waiting = s.caddy.waiting ∧ (s.takeBuffer r).2.caddy.answers = s.caddy.answers := by
  unfold State.takeBuffer
  split <;> exact ⟨rfl, rfl⟩

/-- Which buffer is taken does not depend on what waits. -/
theorem State.takeBuffer_waiting (s : State) (w : List (Nat × Nat × CaddyUse)) (r : Nat) :
    ((s.onCaddy fun k => { k with waiting := w }).takeBuffer r).1 = (s.takeBuffer r).1 := by
  unfold State.takeBuffer
  dsimp only [State.onCaddy]
  split <;> rfl

/-- An address is a matter of the regions' registers. -/
theorem State.ptrOf_congr (h : t.regs = s.regs) (k : Nat) : t.ptrOf k = s.ptrOf k := by
  have hget (g : Field) : t.get g = s.get g := by simp only [State.get, h]
  simp only [State.ptrOf, State.regionOfTag, State.rgnFirst, State.rgnCount, State.rgnBase, State.on, hget]
  rfl

theorem State.caddy_withHolder (s : State) (id c k : Nat) :
    (s.withHolder id c k).caddy = { s.caddy with held := s.caddy.held.put k ⟨[id], id, c⟩ } := by
  rw [State.withHolder, State.caddy_caddyShow]
  rfl

/-- A grant answers with a pointer that does not depend on what waits, and leaves what waits and what is answered. -/
theorem State.caddyGrant_waiting {id c ptr : Nat} (h : (s.caddyGrant id c).map (·.1) = some ptr) (w : List (Nat × Nat × CaddyUse)) :
    ∃ u, (s.onCaddy fun k => { k with waiting := w }).caddyGrant id c = some (ptr, u) ∧ u.caddy.waiting = w ∧
      u.caddy.answers = s.caddy.answers := by
  rw [State.caddyGrant_eq] at h
  have hbarred : (s.onCaddy fun k => { k with waiting := w }).grantBarred id c = s.grantBarred id c := rfl
  have hregion : (s.onCaddy fun k => { k with waiting := w }).bestRegion c id = s.bestRegion c id := rfl
  rw [State.caddyGrant_eq, hbarred, hregion]
  cases hb : s.grantBarred id c with
  | true => simp [hb] at h
  | false =>
    cases hr : s.bestRegion c id with
    | none => simp [hb, hr] at h
    | some r =>
      simp only [hb, hr, Bool.false_eq_true, if_false, Option.map_some, Option.some.injEq] at h ⊢
      obtain ⟨hwaiting, hanswers⟩ := (s.onCaddy fun k => { k with waiting := w }).caddy_takeBuffer r
      refine ⟨_, Prod.ext ?_ rfl, ?_, ?_⟩
      · rw [State.takeBuffer_waiting, ← h, State.ptrOf_congr (State.regs_takeBuffer ..), State.ptrOf_congr (State.regs_takeBuffer ..)]
        exact State.ptrOf_congr rfl _
      · rw [State.caddy_withHolder]
        exact hwaiting
      · rw [State.caddy_withHolder]
        exact hanswers

/-- A port's request that waits alone and may be granted is answered. -/
theorem State.caddyServe_single {id c ptr : Nat} (hwaiting : s.caddy.waiting = [(id, c, .port)])
    (h : (s.caddyGrant id c).map (·.1) = some ptr) :
    s.caddyServe.caddy.waiting = [] ∧ s.caddyServe.caddy.answers = (id, caddyWord 0 1 ptr) :: s.caddy.answers := by
  obtain ⟨u, hgrant, huwaiting, huanswers⟩ := State.caddyGrant_waiting h s.caddy.waiting
  have hserve : s.caddyServe = ((u.onCaddy fun c' => { c' with waiting := c'.waiting.erase (id, c, .port) }).caddyDeliver id ptr .port).caddyShow := by
    unfold State.caddyServe
    rw [hwaiting, List.foldl_cons, List.foldl_nil]
    have hgrant' : s.caddyGrant id c = some (ptr, u) := hgrant
    simp only [hgrant']
  rw [hserve, State.caddy_caddyShow]
  refine ⟨?_, ?_⟩
  · have : u.caddy.waiting.erase (id, c, .port) = [] := by rw [huwaiting, hwaiting, List.erase_cons_head]
    exact this
  · have : (id, caddyWord 0 1 ptr) :: u.caddy.answers = (id, caddyWord 0 1 ptr) :: s.caddy.answers := by rw [huanswers]
    exact this

theorem does_caddyRequest {id c ptr : Nat} (hidle : s.caddy.waiting = []) (hid : id < 256) (hc : c < 4)
    (h : (s.caddyGrant id c).map (·.1) = some ptr) :
    Does (.caddyRequest id c) s fun t => t.caddy.waiting = [] ∧ t.caddy.answers = (id, caddyWord 0 1 ptr) :: s.caddy.answers := by
  have hexec : exec (.caddyRequest id c) s = .next (s.onCaddy fun k => { k with waiting := [(id, c, .port)] }).caddyServe := by
    simp only [exec, execCaddyRequest, State.caddyRequest, Nat.mod_eq_of_lt hid, Nat.mod_eq_of_lt hc, State.onCaddy, hidle, List.nil_append]
  obtain ⟨u, hgrant, -, -⟩ := State.caddyGrant_waiting h [(id, c, .port)]
  rw [does_iff hexec]
  exact State.caddyServe_single rfl (by rw [hgrant]; rfl)

theorem does_caddyGrant {id c ptr : Nat} (hwaiting : s.caddy.waiting = [(id, c, .port)]) (h : (s.caddyGrant id c).map (·.1) = some ptr) :
    Does .caddyGrant s fun t => t.caddy.waiting = [] ∧ t.caddy.answers = (id, caddyWord 0 1 ptr) :: s.caddy.answers :=
  ⟨_, rfl, State.caddyServe_single hwaiting h⟩

/-! ## EN (R464, R465) -/

theorem does_caddyEnable (hidle : s.caddy.waiting = []) :
    Does (.caddyEnable true) s fun t => t.get R.CADDY_CTL.EN = 1 ∧ t.caddy = s.caddy := by
  have hexec : exec (.caddyEnable true) s = .next (s.raise R.CADDY_CTL.EN).caddyShow :=
    congrArg Host.Outcome.next (State.caddyServe_of_idle (s := s.raise R.CADDY_CTL.EN) hidle)
  rw [does_iff hexec, State.get_caddyShow _ (by decide) (by decide), State.caddy_caddyShow]
  exact ⟨State.get_raise_same .., rfl⟩

theorem does_caddyDisable (hfree : s.caddy.held = []) :
    Does (.caddyEnable false) s fun t => t.get R.CADDY_CTL.EN = 0 ∧ Leaves s t [R.CADDY_CTL.EN] [] := by
  have hexec : exec (.caddyEnable false) s = .next (s.zero R.CADDY_CTL.EN) := by
    simp only [exec, execCaddyEnable, hfree]
    rfl
  rw [does_iff hexec]
  exact ⟨State.get_zero_same .., (Leaves.refl s _ _).zero (by decide)⟩

theorem key_ne_fHeld {g : Field} (hlow : g.key < 32 * 0x41400) {c id : Nat} : g.key ≠ (fHeld c id).key := by
  unfold fHeld
  split <;> simp only [R.CADDY_HELD.H4K, R.CADDY_HELD.H64K, R.CADDY_HELD.H1M, R.CADDY_HELD.H16M] <;> omega

/-- What asked for a buffer shows it, if at all, in its bay's registers. -/
theorem State.get_caddyDeliver (s : State) (id ptr : Nat) {g : Field} (hlow : g.key < 32 * 0x1000000) (purpose : CaddyUse) :
    (s.caddyDeliver id ptr purpose).get g = s.get g := by
  unfold State.caddyDeliver
  cases purpose with
  | port => rfl
  | capture n psa =>
    simp only [State.pumpRungs]
    rw [State.get_put_other _ _ _ _ (by simp only [R.DEC_RQ.LADDER]; omega), State.get_put_other _ _ _ _ (by simp only [R.DEC_RQ.QUEUED]; omega)]
    rfl
  | parity n x =>
    simp only [State.showWrite]
    rw [State.get_put_other _ _ _ _ (by simp only [R.WR_STAT.DL_STAGED]; omega),
      State.get_put_other _ _ _ _ (by simp only [R.WR_STAT.RELOC_PEND]; omega), State.get_put_other _ _ _ _ (by simp only [R.WR_STAT.OPEN]; omega)]
    rfl
  | defects n => rfl
  | seq q => rfl

/-- What is granted and delivered shows in the charges, at 0x41400 and above, and in the bays' registers. -/
theorem State.get_caddyServe (s : State) {g : Field} (hlow : g.key < 32 * 0x41400) (hwaiting : g.key ≠ R.CADDY_STAT.WAITING.key)
    (hregion : ∀ r < 16, g.key ≠ (R.CADDY_RGN_HELD.HELD r).key ∧ g.key ≠ (R.CADDY_RGN_FREE.FREE r).key) : s.caddyServe.get g = s.get g := by
  have hshow (u : State) : u.caddyShow.get g = u.get g := u.get_caddyShow hwaiting hregion
  have hgrant {u v : State} {id c ptr : Nat} (h : u.caddyGrant id c = some (ptr, v)) : v.get g = u.get g := by
    rw [State.caddyGrant_eq] at h
    split at h
    · cases h
    · obtain ⟨r, -, hr⟩ := Option.map_eq_some_iff.mp h
      cases hr
      rw [State.withHolder, hshow, State.chargeShow, State.get_put_other _ _ _ _ (key_ne_fHeld hlow)]
      simp only [State.get, State.onCaddy_regs, State.regs_takeBuffer]
  unfold State.caddyServe
  rw [hshow]
  refine State.foldl_same (fun u => u.get g) (fun u w => ?_) _ s
  split
  next ptr v h => rw [State.get_caddyDeliver _ _ _ (by omega), State.get_onCaddy, hgrant h]
  · rfl

theorem does_caddyRegionEnable {r : Nat} (hr : r < 16) (hoff : s.on (R.CADDY_RGN_CFG.EN r) = false) (hok : s.regionOk r = true) :
    Does (.caddyRegionEnable r) s fun t => t.get (R.CADDY_RGN_CFG.EN r) = 1 := by
  have hnot : ¬ (16 ≤ r ∨ s.on (R.CADDY_RGN_CFG.EN r) = true) :=
    not_or.mpr ⟨Nat.not_le.mpr hr, by rw [hoff]; exact Bool.false_ne_true⟩
  refine ⟨_, (if_neg hnot).trans (if_pos hok), ?_⟩
  dsimp only
  rw [State.get_caddyServe _ (by simp only [R.CADDY_RGN_CFG.EN]; omega) (by simp only [R.CADDY_RGN_CFG.EN, R.CADDY_STAT.WAITING]; omega)
    (fun q hq => by simp only [R.CADDY_RGN_CFG.EN, R.CADDY_RGN_HELD.HELD, R.CADDY_RGN_FREE.FREE]; omega)]
  exact State.get_raise_same s (R.CADDY_RGN_CFG.EN r)

theorem does_caddyRegionEnable_bad {r : Nat} (hr : r < 16) (hoff : s.on (R.CADDY_RGN_CFG.EN r) = false) (hbad : s.regionOk r = false) :
    Does (.caddyRegionEnable r) s fun t => t = s.raise (R.CADDY_RGN_FLAGS.CFG_REJ r) := by
  have hnot : ¬ (16 ≤ r ∨ s.on (R.CADDY_RGN_CFG.EN r) = true) :=
    not_or.mpr ⟨Nat.not_le.mpr hr, by rw [hoff]; exact Bool.false_ne_true⟩
  exact ⟨_, (if_neg hnot).trans (if_neg (by rw [hbad]; decide)), rfl⟩

/-! ## Shares and releases (R467) -/

theorem does_caddyShare {id new c ptr k : Nat} {h : HeldBuf} (hid : id < 256) (hnew : new < 256) (hc : c < 4) (hptr : ptr < 2 ^ 41)
    (htag : s.tagAt c ptr = some k) (hheld : s.caddy.held.find? (fun e => e.1 == k) = some (k, h)) (hholds : id ∈ h.holders)
    (hfresh : new ∉ h.holders) (hroom : h.holders.length < 8) :
    Does (.caddyShare id new c ptr) s fun t => t.caddy.held = s.caddy.held.put k { h with holders := h.holders ++ [new] } ∧
      t.caddy.answers = (id, caddyWord 0 (h.holders.length + 1) ptr) :: s.caddy.answers ∧ t.regs = s.regs := by
  have hshare : s.caddyShare id new c ptr =
      (0, h.holders.length + 1, s.onCaddy fun x => { x with held := x.held.put k { h with holders := h.holders ++ [new] } }) := by
    simp only [State.caddyShare, htag, hheld, List.contains_eq_mem, decide_eq_true hholds, decide_eq_false hfresh, Nat.not_le.mpr hroom]
    rfl
  refine ⟨State.caddyAnswer id ptr (s.caddyShare id new c ptr), ?_, ?_⟩
  · simp only [exec, execCaddyShare, Nat.mod_eq_of_lt hid, Nat.mod_eq_of_lt hnew, Nat.mod_eq_of_lt hc, Nat.mod_eq_of_lt hptr]
  · rw [hshare]
    exact ⟨rfl, rfl, rfl⟩

/-- The last holder's buffer is free. -/
theorem State.caddy_dropHolder_last {k id : Nat} {h : HeldBuf} (hheld : s.caddy.held.find? (fun e => e.1 == k) = some (k, h))
    (hlast : (h.holders.filter (· != id)).isEmpty = true) :
    (s.dropHolder k id).caddy.held = s.caddy.held.erase k ∧ (s.dropHolder k id).caddy.waiting = s.caddy.waiting ∧
      (s.dropHolder k id).caddy.answers = s.caddy.answers := by
  unfold State.dropHolder
  simp only [hheld, hlast, if_true]
  rw [State.caddy_caddyShow]
  exact ⟨rfl, rfl, rfl⟩

theorem does_caddyRelease {id c ptr k : Nat} {h : HeldBuf} (hid : id < 256) (hc : c < 4) (hptr : ptr < 2 ^ 41)
    (htag : s.tagAt c ptr = some k) (hheld : s.caddy.held.find? (fun e => e.1 == k) = some (k, h)) (hholder : h.holders = [id])
    (hidle : s.caddy.waiting = []) :
    Does (.caddyRelease id c ptr) s fun t => t.caddy.held = s.caddy.held.erase k ∧
      t.caddy.answers = (id, caddyWord 0 0 ptr) :: s.caddy.answers := by
  have hrelease : s.caddyRelease id c ptr = (0, 0, (s.dropHolder k id).caddyServe) := by
    simp [State.caddyRelease, htag, hheld, hholder]
  obtain ⟨herase, hwaiting, hanswers⟩ := State.caddy_dropHolder_last (id := id) hheld (by simp [hholder])
  refine ⟨State.caddyAnswer id ptr (s.caddyRelease id c ptr), ?_, ?_⟩
  · simp only [exec, execCaddyRelease, Nat.mod_eq_of_lt hid, Nat.mod_eq_of_lt hc, Nat.mod_eq_of_lt hptr]
  · rw [hrelease, State.caddyServe_of_idle (hwaiting.trans hidle)]
    have hcaddy : (State.caddyAnswer id ptr (0, 0, (s.dropHolder k id).caddyShow)).caddy =
        { (s.dropHolder k id).caddyShow.caddy with
          answers := (id, caddyWord 0 0 ptr) :: (s.dropHolder k id).caddyShow.caddy.answers } := rfl
    dsimp only
    rw [hcaddy, State.caddy_caddyShow]
    refine ⟨herase, ?_⟩
    dsimp only
    rw [hanswers]

/-! ## Reclaiming (R470) -/

/-- Nothing waits, the buffers' tags rise, and those that `id` still holds are among `l`. -/
structure State.Reclaiming (s : State) (id : Nat) (l : List (Nat × HeldBuf)) : Prop where
  idle : s.caddy.waiting = []
  rising : Sparse.rising s.caddy.held = true
  left : ∀ e ∈ s.caddy.held, id ∈ e.2.holders → ∃ x ∈ l, x.1 = e.1

theorem State.Reclaiming.dropHolder {id : Nat} {x : Nat × HeldBuf} {l : List (Nat × HeldBuf)} (h : s.Reclaiming id (x :: l)) :
    (s.dropHolder x.1 id).Reclaiming id l := by
  have hleft {e : Nat × HeldBuf} (he : e ∈ s.caddy.held) (hne : e.1 ≠ x.1) (hid : id ∈ e.2.holders) : ∃ y ∈ l, y.1 = e.1 := by
    obtain ⟨y, hy, hye⟩ := h.left e he hid
    rcases List.mem_cons.mp hy with rfl | hy
    · exact absurd hye.symm hne
    · exact ⟨y, hy, hye⟩
  cases hfind : s.caddy.held.find? fun e => e.1 == x.1 with
  | none =>
    have hsame : s.dropHolder x.1 id = s := by
      unfold State.dropHolder
      rw [hfind]
    rw [hsame]
    refine ⟨h.idle, h.rising, fun e he hid => hleft he (fun hne => ?_) hid⟩
    have := List.find?_eq_none.mp hfind e he
    simp [hne] at this
  | some b =>
    have hkey : b.1 = x.1 := by simpa using List.find?_some hfind
    obtain ⟨k, b⟩ := b
    obtain rfl : k = x.1 := hkey
    cases hempty : (b.holders.filter (· != id)).isEmpty with
    | true =>
      obtain ⟨herase, hwaiting, -⟩ := State.caddy_dropHolder_last hfind hempty
      refine ⟨hwaiting.trans h.idle, ?_, fun e he hid => ?_⟩
      · rw [herase]
        exact Sparse.rising_erase h.rising
      · rw [herase] at he
        obtain ⟨he, hne⟩ := Sparse.mem_erase h.rising he
        exact hleft he hne hid
    | false =>
      have hheld : (s.dropHolder x.1 id) =
          s.onCaddy fun c => { c with held := c.held.put x.1 { b with holders := b.holders.filter (· != id) } } := by
        unfold State.dropHolder
        simp only [hfind, hempty, Bool.false_eq_true, if_false]
      rw [hheld]
      refine ⟨h.idle, Sparse.rising_put _ _ _ h.rising, fun e he hid => ?_⟩
      rcases Sparse.mem_put h.rising he with rfl | ⟨he, hne⟩
      · simp at hid
      · exact hleft he hne hid

theorem State.Reclaiming.dropHolders {id : Nat} {l : List (Nat × HeldBuf)} (h : s.Reclaiming id l) :
    (l.foldl (fun s e => s.dropHolder e.1 id) s).Reclaiming id [] := by
  induction l generalizing s with
  | nil => exact h
  | cons x l ih => exact ih h.dropHolder

theorem does_caddyReclaim {id : Nat} (hid : s.get R.CADDY_RECLAIM.ID = id) (hunit : 128 ≤ id) (hbusy : s.idBusy id = false)
    (hhalted : s.idHalted id = false) (hidle : s.caddy.waiting = []) (hrising : Sparse.rising s.caddy.held = true) :
    Does .caddyReclaim s fun t => ∀ e ∈ t.caddy.held, id ∉ e.2.holders := by
  have hexec : exec .caddyReclaim s =
      .next ((s.dropHoldings id []).2.record srcCaddy 0x0F0A [id, (s.dropHoldings id []).1]) := by
    simp only [exec, execCaddyReclaim, hid, hbusy, hhalted, decide_eq_false (Nat.not_lt.mpr hunit), if_neg (Nat.not_lt.mpr hunit)]
    rfl
  have hmine : s.Reclaiming id (s.caddy.held.filter fun e => e.2.holders.contains id && !([] : List Nat).contains (s.ptrOf e.1)) := by
    refine ⟨hidle, hrising, fun e he hid => ⟨e, List.mem_filter.mpr ⟨he, ?_⟩, rfl⟩⟩
    simpa using hid
  obtain ⟨hwaiting, -, hleft⟩ := hmine.dropHolders
  rw [does_iff hexec, State.record_caddy, State.dropHoldings]
  dsimp only
  rw [State.caddyServe_of_idle hwaiting, State.caddy_caddyShow]
  intro e he hholds
  obtain ⟨x, hx, -⟩ := hleft e he hholds
  exact absurd hx List.not_mem_nil

end

/-- Settles O42: each operation by its lemma. -/
theorem caddyBuffers : Obligations.CaddyBuffers := by
  unfold Obligations.CaddyBuffers
  intro s
  exact ⟨does_caddyEnable, does_caddyDisable, fun _ => does_caddyRegionEnable, fun _ => does_caddyRegionEnable_bad,
    fun _ _ _ => does_caddyRequest, fun _ _ _ => does_caddyGrant, fun _ _ _ _ _ _ => does_caddyShare,
    fun _ _ _ _ _ => does_caddyRelease, fun _ => does_caddyReclaim⟩

end Sys2Proof.Machine
end

section
/-!
PROOF. A stripe segment that does not count: the clause of the statement about STRIPE_BYTES speaks of every state, also of one in which two
transfers have one name and whose Caddy names a requester that R463 does not have.
-/

namespace Sys2Proof.Machine

/-- A STRIPE_ENCODE in progress (R425) of one source in host memory, shard 0, and one remote output, shard 1.  Its segment is empty. -/
def emptyStripe : Cmd :=
  { id := 1, sring := 0, rring := 0, stage := 3
    wb := { opcode := Op.STRIPE_ENCODE, flags := 0, prio := 0, bay := 0xFF, cid := 0, rring := 0, dform := 0, daddr := 0, dlen := 0, rcap := 0,
            raddr := 0, param := [1, 1] }
    buf := List.replicate 32 0 ++ [2] }

/-- A READ of bay 0 whose data goes to a remote locator (R537). -/
def remoteRead : Cmd :=
  { id := 0, sring := 0, rring := 0
    wb := { opcode := Op.READ, flags := 0, prio := 0, bay := 0, cid := 0, rring := 0, dform := 3, daddr := 0, dlen := 0, rcap := 0, raddr := 0,
            param := [] } }

/-- The transfer of `remoteRead`, whose frame has been sent more often than any RETRY_MAX allows (R533). -/
def lostTransfer : Xfer :=
  { port := 0, auto := false, own := true, peer := 1, xid := 0, get := false, win := 0, wkey := 0, wofs := 0, len := 1, seg := 1,
    use := .tag 0 0, opened := true, data := [0], tries := [(0, 64)] }

/-- The transfer of the stripe's output has the name of `lostTransfer`, so that one is found in its stead; and a rung of `remoteRead` has
the buffer of tag 0, charged to requester 0xBB02.  No run gives two transfers one name (R530), and requester IDs end at 255 (R463), but
nothing bounds those of a state, and the `CADDY_HELD.H4K` of this one lies where STRIPE_BYTES does. -/
def strayTransfers : State :=
  (({ State.reset with
      variant := .ky8064
      units := [emptyStripe]
      caddy := { held := [(0, ⟨[0], 0xBB02, 0⟩)] }
      bays := [(0, { reading := { ladder := [{ tag := 0, item := 0, home := 0, psa := 0, capPtr := some 0 }] }, tags := [remoteRead] })]
      fab := { xfers := [lostTransfer, { lostTransfer with use := .shard 1 1 }] } } : State).put R.FAB_CTL.EN 1).put (R.FP_STAT.LINK 0) 1
    |>.put R.STRIPE_BYTES_LO.BYTES 5

/-- The peer counts as lost, the READ ends and its rung's buffer is released: a charge of 0 is shown over STRIPE_BYTES. -/
theorem exec_stripeSegmentDone_strayTransfers :
    ∃ t, exec (.stripeSegmentDone 1 [(0, [])] {}) strayTransfers = .next t ∧
      t.get R.STRIPE_BYTES_LO.BYTES + 2 ^ 32 * t.get R.STRIPE_BYTES_HI.BYTES = 0 :=
  ⟨_, rfl, by decide +kernel⟩

/-- Refutes O36: in `strayTransfers` a segment of no bytes is done, STRIPE_BYTES was 5 and reads 0. -/
theorem not_stripeFixityAndTransfers : ¬ Obligations.StripeFixityAndTransfers := by
  unfold Obligations.StripeFixityAndTransfers
  intro h
  obtain ⟨-, -, hsegment, -⟩ := h strayTransfers
  obtain ⟨t, hexec, hzero⟩ := exec_stripeSegmentDone_strayTransfers
  have hbytes := (does_iff hexec).mp (hsegment emptyStripe [(0, [])] {} [(0, [])] rfl rfl (by decide +kernel) (by decide +kernel))
  rw [hzero] at hbytes
  exact absurd hbytes (by decide +kernel)

end Sys2Proof.Machine
end

section
/-!
PROOF. A link that goes down and shows no fall: the clause of the statement about a falling link (R524) speaks of every state, also of one
whose Caddy names a requester that R463 does not have.
-/

namespace Sys2Proof.Machine

/-- An empty packet. -/
def emptyPacket : FabPacket := ⟨0, 0, none, 0, 0, 0, 0, 0, 0, 0, 0, []⟩

/-- Port 0 has its link and holds a frame (R542) in the buffer of tag 0, which is charged to requester 0x13F46.  Requester IDs end at 255
(R463), but nothing bounds those of a state, and the `CADDY_HELD.H4K` of this one lies where port 0's `LINK_DOWNS` does. -/
def strayHeldFrame : State :=
  ({ State.reset with
      variant := .ky8064
      caddy := { held := [(0, ⟨[portId 0], 0x13F46, 0⟩)] }
      fab := { held := [⟨0, emptyPacket, 0⟩] } } : State).put (R.FP_STAT.LINK 0) 1

/-- The fall is counted, and then the held frame is discarded and its buffer released: a charge of 0 is shown over the count. -/
theorem exec_fabricLinkChange_strayHeldFrame :
    ∃ t, exec (.fabricLinkChange 0 false {}) strayHeldFrame = .next t ∧ t.get (R.FP_STAT.LINK_DOWNS 0) = 0 :=
  ⟨_, rfl, by decide +kernel⟩

/-- Refutes O48: in `strayHeldFrame` port 0's link goes down, and its `LINK_DOWNS` reads 0. -/
theorem not_fabricPortsWindowsAndKeys : ¬ Obligations.FabricPortsWindowsAndKeys := by
  unfold Obligations.FabricPortsWindowsAndKeys
  intro h
  obtain ⟨-, hfall, -⟩ := h strayHeldFrame rfl
  obtain ⟨t, hexec, hzero⟩ := exec_fabricLinkChange_strayHeldFrame
  obtain ⟨-, hdowns⟩ := (does_iff hexec).mp (hfall 0 {} (by decide) (by decide +kernel))
  rw [hzero] at hdowns
  exact absurd hdowns (by decide +kernel)

end Sys2Proof.Machine
end

section
/-!
PROOF. A byte that an internal scan leaves: the clause of the statement about the test access port (R593) speaks of every state, also of
one that lists a byte where no memory is.
-/

namespace Sys2Proof.Machine

/-- A state with a byte at 2^41.  Controller addresses end below it (R445), so no write makes one there, but nothing bounds the addresses
that a state lists. -/
def strayByte : State := { State.reset with dram := [(2 ^ 41, 1)] }

/-- The scan clears the memory up to 2^41, and no further. -/
theorem exec_tapInternalScan_strayByte : ∃ t, exec .tapInternalScan strayByte = .next t ∧ t.dram ≠ [] :=
  ⟨_, rfl, by decide +kernel⟩

/-- Refutes O53: an internal scan in `strayByte` leaves memory content. -/
theorem not_selftestTestAccessAndBayEnable : ¬ Obligations.SelftestTestAccessAndBayEnable := by
  unfold Obligations.SelftestTestAccessAndBayEnable
  intro h
  obtain ⟨-, -, -, hscan, -⟩ := h strayByte
  obtain ⟨t, hexec, hleft⟩ := exec_tapInternalScan_strayByte
  obtain ⟨-, -, hempty, -⟩ := (does_iff hexec).mp hscan
  exact hleft hempty

end Sys2Proof.Machine
end

section
/-!
PROOF. A microword that computes (R487 to R489, R491, R493): no wait, no trap, no port; its effects; then the two commands that run it.
-/

namespace Sys2Proof.Machine

/-- A legal word that computes on general registers and goes on or jumps. -/
structure MW.Computes (w : Nat) : Prop where
  legal : MW.legal w = true
  memOp : MW.memOp w = 0
  bayOp : MW.bayOp w = 0
  cpOp : MW.cpOp w = 0
  nac : MW.nac w ≤ 1
  stk : MW.stk w = 0
  tmr : MW.tmr w = 0
  ie : MW.ie w = false
  ovt : MW.ovt w = false
  srcA : MW.srcA w < 64
  srcB : MW.srcB w < 64
  dest : MW.dest w < 64

/-- What the word's ALU gives. -/
def Seq.aluOf (x : Seq) (w : Nat) : AluOut :=
  alu (MW.aluOp w) (x.reg (MW.srcA w)) (shiftB (MW.shKind w) (MW.shAmount w) (x.reg (MW.srcB w)))

/-- Where the word goes on. -/
def Seq.goesTo (x : Seq) (w : Nat) : Nat := if MW.nac w = 1 then MW.next w else (x.upc + 1) % 2 ^ 15

/-- The sequencer after the word. -/
def Seq.computed (x : Seq) (w : Nat) : Seq := { x.writeDest w (x.aluOf w) with memAns := x.memAns, upc := x.goesTo w, hook := none }

section
variable {s : State} {q w : Nat}

/-! ## A sequencer's hidden state -/

theorem State.seq_onSeq (s : State) (q : Nat) (f : Seq → Seq) : (s.onSeq q f).seq q = f (s.seq q) := Sparse.get_put_same ..

theorem State.onSeq_onSeq_eq (s : State) (q : Nat) (f g : Seq → Seq) :
    ((s.onSeq q f).onSeq q g).seq q = g (f (s.seq q)) ∧ ((s.onSeq q f).onSeq q g).regs = s.regs ∧
      ((s.onSeq q f).onSeq q g).dram = s.dram ∧ ((s.onSeq q f).onSeq q g).bays = s.bays := by
  rw [State.seq_onSeq, State.seq_onSeq]
  exact ⟨rfl, rfl, rfl, rfl⟩

/-! ## No wait, no trap, no port -/

theorem MW.Computes.not_held (hw : MW.Computes w) (x : Seq) : x.held w = false := by
  obtain ⟨-, hmem, hbay, hcp, -, -, -, -, -, hA, hB, -⟩ := hw
  have hport (v : Nat) (hv : 64 ≤ v) : (MW.srcA w == v || MW.srcB w == v) = false := by
    simp only [Bool.or_eq_false_iff, beq_eq_false_iff_ne]
    omega
  simp [Seq.held, hmem, hbay, hcp, hport]

theorem State.operand_of_lt {v : Nat} (hv : v < 64) (s : State) (q w : Nat) : s.operand q w v = ((s.seq q).reg v, s) := if_pos hv

theorem MW.Computes.nextAddress (hw : MW.Computes w) (x : Seq) (a top mret : Nat) (taken : Bool) :
    nextAddress w x.upc a top mret taken = x.goesTo w := by
  have hnac := hw.nac
  unfold Machine.nextAddress Seq.goesTo
  obtain hnac | hnac : MW.nac w = 0 ∨ MW.nac w = 1 := by omega
  · simp [hnac]
  · simp [hnac]

/-- The bay and Caddy ports are not used. -/
theorem MW.Computes.portsPermit (hw : MW.Computes w) (s : State) (q : Nat) : s.portsPermit q w = true := by
  simp [State.portsPermit, hw.bayOp, hw.cpOp]

theorem MW.Computes.wordFault (hw : MW.Computes w) (hvendor : isCustomer (s.seq q).upc = false) (nxt : Nat) (cond v : Bool) :
    s.wordFault q w nxt cond v = none := by
  have hnac := hw.nac
  have hret : MW.nac w ≠ 6 ∧ MW.nac w ≠ 8 := by omega
  simp [State.wordFault, pushes, hret, hw.stk, hvendor, hw.ovt, hw.portsPermit, hw.memOp, hw.cpOp]

theorem MW.Computes.bayIssue (hw : MW.Computes w) (s : State) (q r : Nat) (g : Nat → Nat) : s.bayIssue q w r g = s := by
  unfold State.bayIssue
  rw [hw.bayOp]
  split <;> rfl

theorem MW.Computes.cpIssue (hw : MW.Computes w) (s : State) (q r0 r1 : Nat) : s.cpIssue q w r0 r1 = s := by
  unfold State.cpIssue
  rw [hw.cpOp]
  rfl

/-! ## The word's effects (R493) -/

theorem MW.Computes.endWord (hw : MW.Computes w) (busy : Bool) (hgoes : s.on (R.SEQ_CTL.HALT q) = false ∨ s.seqState q ≠ SQ.RUN) :
    s.endWord q w busy = s := by
  have hstay : ¬ (s.on (R.SEQ_CTL.HALT q) = true ∧ s.seqState q = SQ.RUN) := by
    rintro ⟨hhalt, hrun⟩
    rcases hgoes with h | h
    · rw [hhalt] at h
      cases h
    · exact h hrun
  simp only [State.endWord, hw.ie, Bool.false_and, Bool.false_eq_true, if_false, if_neg hstay]

theorem MW.Computes.wordEffects (hw : MW.Computes w) (hhook : (s.seq q).hook = none)
    (hgoes : s.on (R.SEQ_CTL.HALT q) = false ∨ s.seqState q ≠ SQ.RUN) (a : Nat) (r : AluOut) (cond : Bool) (m : Option Nat) :
    s.wordEffects q w ((s.seq q).goesTo w) a r cond m =
      (s.onSeq q fun y => { y.writeDest w r with memAns := y.memAns }).onSeq q fun y =>
        { y with upc := (s.seq q).goesTo w, hook := none } := by
  have hnac := hw.nac
  have hother : MW.nac w ≠ 6 ∧ MW.nac w ≠ 7 ∧ MW.nac w ≠ 8 := by omega
  have hlit : ¬ (0 : Nat) = 1 ∧ ¬ (0 : Nat) = 2 ∧ ¬ (0 : Nat) = 3 := by decide
  have hpush : pushes w cond = false := by simp [pushes, hw.stk]
  have hnext (sp nxt : Nat) : nextHook (s.seq q) w sp nxt false = none := by simp [nextHook, hother, hhook]
  unfold State.wordEffects
  simp only [hw.memOp, if_true, hw.bayIssue, hw.cpIssue, hpush, hw.stk, hw.tmr, hother, false_and, if_false, hnext, Bool.false_eq_true,
    hlit]
  exact hw.endWord _ hgoes

/-- A word that computes runs to its effects. -/
theorem MW.Computes.runWord (hw : MW.Computes w) (hhook : (s.seq q).hook = none) (hvendor : isCustomer (s.seq q).upc = false)
    (hgoes : s.on (R.SEQ_CTL.HALT q) = false ∨ s.seqState q ≠ SQ.RUN) (seen : MemSeen) :
    s.runWord q w false seen =
      (s.onSeq q fun y => { y.writeDest w ((s.seq q).aluOf w) with memAns := y.memAns }).onSeq q fun y =>
        { y with upc := (s.seq q).goesTo w, hook := none } := by
  have hmem : s.memIssue q w seen = (.done [], none, s) := by
    unfold State.memIssue
    rw [hw.memOp]
    rfl
  unfold State.runWord
  simp only [hw.legal, hw.not_held, State.operand_of_lt hw.srcA, State.operand_of_lt hw.srcB, hw.nextAddress, hw.wordFault hvendor, hmem,
    Bool.not_true, Bool.false_eq_true, if_false]
  exact hw.wordEffects hhook hgoes _ _ _ _

/-- The hook call in progress counts a cycle (R501). -/
def Seq.counted (x : Seq) : Seq := { x with hook := x.hook.map fun h => { h with cycles := h.cycles + 1 } }

theorem Seq.counted_of_no_hook {x : Seq} (h : x.hook = none) : x.counted = x := by
  cases x
  cases h
  rfl

/-- A cycle of a sequencer that waits for nothing and has no hook call fetches a good word and runs it. -/
theorem State.seqCycle_clean (hwait : (s.seq q).wait = none) (hhook : (s.seq q).hook = none)
    (hgood : (s.seq q).upc ∉ (s.bank (q / 8) (s.get (R.SEQ_STAT.BANK q))).bad) (seen : MemSeen) :
    s.seqCycle q .clean seen = (s.onSeq q Seq.counted).runWord q
      (Sparse.get 0 (s.bank (q / 8) (s.get (R.SEQ_STAT.BANK q))).words (s.seq q).upc) false seen := by
  have hseq : (s.onSeq q fun x => { x with hook := x.hook.map fun h => { h with cycles := h.cycles + 1 } }).seq q = s.seq q :=
    (State.seq_onSeq s q Seq.counted).trans (Seq.counted_of_no_hook hhook)
  unfold State.seqCycle
  simp only [hseq, hwait, hhook, List.contains_eq_mem, hgood, decide_false, Bool.false_eq_true, reduceCtorEq, or_self, if_false]
  rfl

/-- What a cycle with a word that computes does. -/
theorem MW.Computes.seqCycle (hw : MW.Computes w) (hwait : (s.seq q).wait = none) (hhook : (s.seq q).hook = none)
    (hgood : (s.seq q).upc ∉ (s.bank (q / 8) (s.get (R.SEQ_STAT.BANK q))).bad)
    (hfetch : w = Sparse.get 0 (s.bank (q / 8) (s.get (R.SEQ_STAT.BANK q))).words (s.seq q).upc)
    (hvendor : isCustomer (s.seq q).upc = false) (hgoes : s.on (R.SEQ_CTL.HALT q) = false ∨ s.seqState q ≠ SQ.RUN) (seen : MemSeen) :
    (s.seqCycle q .clean seen).seq q = (s.seq q).computed w ∧ (s.seqCycle q .clean seen).regs = s.regs ∧
      (s.seqCycle q .clean seen).dram = s.dram ∧ (s.seqCycle q .clean seen).bays = s.bays := by
  let u := s.onSeq q Seq.counted
  have hseq : u.seq q = s.seq q := (State.seq_onSeq ..).trans (Seq.counted_of_no_hook hhook)
  rw [State.seqCycle_clean hwait hhook hgood, ← hfetch,
    hw.runWord (s := u) (by rw [hseq, hhook]) (by rw [hseq, hvendor]) hgoes]
  obtain ⟨hresult, hregs, hdram, hbays⟩ := u.onSeq_onSeq_eq q (fun y => { y.writeDest w ((u.seq q).aluOf w) with memAns := y.memAns })
    fun y => { y with upc := (u.seq q).goesTo w, hook := none }
  refine ⟨?_, hregs, hdram, hbays⟩
  rw [hresult, hseq]
  rfl

/-! ## What the word writes (R488) -/

theorem Seq.reg_setReg {x : Seq} (hg : x.g.rising = true) (k v j : Nat) : (x.setReg k v).reg j = if j = k then v % 2 ^ 64 else x.reg j :=
  Sparse.get_putNorm _ _ _ _ _ hg

theorem Seq.reg_computed {x : Seq} (hw : MW.Computes w) (hg : x.g.rising = true) (j : Nat) :
    (x.computed w).reg j = if j = MW.dest w then (x.aluOf w).result % 2 ^ 64 else x.reg j := by
  have hdest : (x.computed w).reg j = (x.setReg (MW.dest w) (x.aluOf w).result).reg j := by
    simp only [Seq.computed, Seq.writeDest, if_pos hw.dest]
    split <;> rfl
  rw [hdest, Seq.reg_setReg hg]

theorem Seq.flags_computed {x : Seq} (hw : MW.Computes w) (hflg : MW.flg w = true) :
    (x.computed w).flags = x.flags / 16 * 16 + (x.aluOf w).flags := by
  simp only [Seq.computed, Seq.writeDest, if_pos hw.dest, if_pos hflg]
  rfl

theorem Seq.upc_computed (x : Seq) (w : Nat) : (x.computed w).upc = x.goesTo w := rfl

theorem Seq.goesTo_lt (x : Seq) (w : Nat) : x.goesTo w < 2 ^ 15 := by
  unfold Seq.goesTo MW.next bitsAt
  split
  · exact Nat.mod_lt _ (by decide)
  · exact Nat.mod_lt _ (by decide)

/-- The sequencer's part of both clauses about a word that computes. -/
theorem Seq.computed_spec {x y : Seq} (hw : MW.Computes w) (hg : x.g.rising = true) (hy : y = x.computed w) :
    y.reg (MW.dest w) = (x.aluOf w).result % 2 ^ 64 ∧ y.upc = x.goesTo w ∧
      (MW.flg w = true → y.flags = x.flags / 16 * 16 + (x.aluOf w).flags) ∧ ∀ k ∈ List.range 64, k ≠ MW.dest w → y.reg k = x.reg k := by
  subst hy
  exact ⟨(Seq.reg_computed hw hg _).trans (if_pos rfl), rfl, Seq.flags_computed hw,
    fun k _ hk => (Seq.reg_computed hw hg k).trans (if_neg hk)⟩

end

/-- Settles O43: the two runs of a word that computes over `MW.Computes.seqCycle`, and the ports' answers. -/
theorem microwordsCompute : Obligations.MicrowordsCompute := by
  unfold Obligations.MicrowordsCompute
  intro s
  refine ⟨?_, ?_, ?_, ?_, ?_⟩
  · intro q w seen hthere hrun hwait hhook hgood hfetch hlegal hmem hbay hcp hnac hstk htmr hie hovt hA hB hdest hvendor hhalt hg
    have hw : MW.Computes w := ⟨hlegal, hmem, hbay, hcp, hnac, hstk, htmr, hie, hovt, hA, hB, hdest⟩
    obtain ⟨hseq, hregs, hdram, hbays⟩ := hw.seqCycle hwait hhook hgood hfetch hvendor (.inl hhalt) seen
    have hexec : exec (.microwordExecute q .clean seen) s = .next (s.seqCycle q .clean seen) := by
      simp only [exec, execMicrowordExecute, hthere, hrun]
      rfl
    rw [does_iff hexec]
    exact ⟨Seq.computed_spec hw hg hseq, hregs, hdram, hbays⟩
  · intro q w seen hthere hstopped hwait hhook hgood hfetch hlegal hmem hbay hcp hnac hstk htmr hie hovt hA hB hdest hvendor hmode hg
    have hw : MW.Computes w := ⟨hlegal, hmem, hbay, hcp, hnac, hstk, htmr, hie, hovt, hA, hB, hdest⟩
    have hnotRun : s.seqState q ≠ SQ.RUN := by
      rw [hstopped]
      decide
    obtain ⟨hseq, -, hdram, -⟩ := hw.seqCycle hwait hhook hgood hfetch hvendor (.inr hnotRun) seen
    have hexec : exec (.seqStep q .clean seen) s =
        .next ((s.seqCycle q .clean seen).put (R.SEQ_STAT.UPC q) ((s.seqCycle q .clean seen).seq q).upc) := by
      simp only [exec, execSeqStep, hthere, hstopped, hmode]
      rfl
    rw [does_iff hexec]
    refine ⟨Seq.computed_spec hw hg hseq, ?_, hdram⟩
    rw [State.get_put_same, hseq]
    exact Nat.mod_eq_of_lt (Seq.goesTo_lt ..)
  · intro q v hans
    have hexec : exec (.memPortAnswer q) s = .next (s.onSeq q fun x => { x with memAns := none, memData := v }) := by
      simp only [exec, execMemPortAnswer, hans]
      rfl
    rw [does_iff hexec]
    exact ⟨State.seq_onSeq .., rfl, rfl⟩
  · intro q v hans
    have hexec : exec (.bayPortAnswer q) s = .next (s.onSeq q fun x => { x with bayAns := none, bayData := v }) := by
      simp only [exec, execBayPortAnswer, hans]
    rw [does_iff hexec]
    exact ⟨State.seq_onSeq .., rfl, rfl⟩
  · intro q v hbusy hans
    have hexec : exec (.cpPortAnswer q) s = .next (s.onSeq q fun x => { x with cpBusy := false, cpAns := none, cpResp := v }) := by
      simp only [exec, execCpPortAnswer, hbusy, hans]
      rfl
    rw [does_iff hexec]
    exact ⟨State.seq_onSeq .., rfl, rfl⟩

end Sys2Proof.Machine
end

section
/-!
SUPPORT. What the checks of a memory access and its way through the cache change: the error registers of the channels, the cache's
registers, the hidden state of memory, and what a record may change; no byte of DRAM and no bank of microcode (R449 to R451, R458, R459).
-/

namespace Sys2Proof.Machine

/-- The registers that the checkers and the cache write: `DRAM_ECC`, `DRAM_DEV` and the cache block. -/
def Field.ofChecks (g : Field) : Bool :=
  (decide (32 * 0x50050 ≤ g.key) && decide (g.key < 32 * 0x50090)) || (decide (32 * 0x60000 ≤ g.key) && decide (g.key < 32 * 0x70000))

theorem Field.ofChecks_of_channel {g : Field} (hlo : 32 * 0x50050 ≤ g.key) (hhi : g.key < 32 * 0x50090) : g.ofChecks = true := by
  simp [Field.ofChecks, hlo, hhi]

/-- `t` has come from `s` by checks, by the cache's operations and by records. -/
structure Checked (s t : State) : Prop where
  get : ∀ g : Field, g.recorder = false → g.ofChecks = false → t.get g = s.get g
  dram : t.dram = s.dram
  banks : t.banks = s.banks
  clusters : t.clusters = s.clusters

section
variable {s0 s t : State}

theorem Checked.refl (s : State) : Checked s s := ⟨fun _ _ _ => rfl, rfl, rfl, rfl⟩

theorem Checked.trans (h : Checked s0 s) (k : Checked s t) : Checked s0 t :=
  ⟨fun g hr hc => (k.get g hr hc).trans (h.get g hr hc), k.dram.trans h.dram, k.banks.trans h.banks, k.clusters.trans h.clusters⟩

theorem Checked.put (h : Checked s0 s) {f : Field} (hf : f.ofChecks = true) (v : Nat) : Checked s0 (s.put f v) := by
  refine { h with get := fun g hr hc => ?_ }
  have hkey : g.key ≠ f.key := by
    intro e
    simp only [Field.ofChecks, e] at hc hf
    rw [hf] at hc
    cases hc
  exact (s.get_put_other _ _ _ hkey).trans (h.get g hr hc)

theorem Checked.records (h : Checked s0 s) (k : Records s t) : Checked s0 t :=
  ⟨fun g hr hc => (k.get g hr).trans (h.get g hr hc), k.dram.trans h.dram, k.banks.trans h.banks, k.clusters.trans h.clusters⟩

theorem Checked.onMem (h : Checked s0 s) (f : MemS → MemS) : Checked s0 (s.onMem f) := ⟨h.get, h.dram, h.banks, h.clusters⟩

theorem Checked.fresh (h : Checked s0 s) (w : Nat) : Checked s0 (s.fresh w).2 := ⟨h.get, h.dram, h.banks, h.clusters⟩

theorem Checked.foldl {α : Type} {f : State → α → State} (hf : ∀ u a, Checked u (f u a)) (l : List α) (s : State) :
    Checked s (l.foldl f s) := by
  induction l generalizing s with
  | nil => exact .refl s
  | cons a l ih => exact (hf s a).trans (ih (f s a))

/-! ## The checkers (R450, R451, R459) -/

/-- The error registers of a channel. -/
theorem ofChecks_channel (a : Nat) :
    (R.DRAM_ECC.CORR (a / 2 ^ 37 % 8)).ofChecks = true ∧ (R.DRAM_ECC.UNCORR (a / 2 ^ 37 % 8)).ofChecks = true ∧
      (R.DRAM_DEV.VALID (a / 2 ^ 37 % 8)).ofChecks = true ∧ (R.DRAM_DEV.SUB (a / 2 ^ 37 % 8)).ofChecks = true ∧
      (R.DRAM_DEV.RANK (a / 2 ^ 37 % 8)).ofChecks = true ∧ (R.DRAM_DEV.DEV (a / 2 ^ 37 % 8)).ofChecks = true := by
  have hch : a / 2 ^ 37 % 8 < 8 := Nat.mod_lt _ (by decide)
  generalize a / 2 ^ 37 % 8 = ch at hch
  refine ⟨?_, ?_, ?_, ?_, ?_, ?_⟩ <;> apply Field.ofChecks_of_channel <;>
    simp only [R.DRAM_ECC.CORR, R.DRAM_ECC.UNCORR, R.DRAM_DEV.VALID, R.DRAM_DEV.SUB, R.DRAM_DEV.RANK, R.DRAM_DEV.DEV] <;> omega

theorem Checked.memCorrected (s : State) (a dev : Nat) : Checked s (s.memCorrected a dev) := by
  obtain ⟨hcorr, -, hvalid, hsub, hrank, hdev⟩ := ofChecks_channel a
  unfold State.memCorrected
  extract_lets ch counted now
  have hcounted : Checked s counted := ((((Checked.refl s).put hcorr _).put hvalid 1).put hsub _).put hrank _ |>.put hdev _
  split
  dsimp only
  split
  · split
    · exact (hcounted.onMem _).records (records_record (.refl _))
    · exact hcounted.onMem _
  · split
    · exact (hcounted.onMem _).records (records_record (.refl _))
    · exact hcounted.onMem _

theorem Checked.memUncorr (s : State) (a id : Nat) : Checked s (s.memUncorr a id) := by
  obtain ⟨-, huncorr, -⟩ := ofChecks_channel a
  unfold State.memUncorr
  dsimp only
  split
  · exact ((Checked.refl s).put huncorr _).records (records_record (.refl _))
  · exact (Checked.refl s).records (records_record (.refl _))

theorem Checked.cacheUncorr (s : State) (b : Nat) : Checked s (s.cacheUncorr b) := by
  have hcount : Checked s (s.count R.CACHE_ECC.UNCORR 1) := (Checked.refl s).put (by decide) _
  unfold State.cacheUncorr
  dsimp only
  split
  · split
    · exact (hcount.onMem _).records (records_record (.refl _))
    · exact hcount.onMem _
  · split
    · exact (hcount.onMem _).records (records_record (.refl _))
    · exact hcount

theorem Checked.memSeen (s : State) (o : MemSeen) : Checked s (s.memSeen o) := by
  have hcount : Checked s (s.count R.CACHE_ECC.CORR o.cacheCorr) := (Checked.refl s).put (by decide) _
  have hcorrected (l : List (Nat × Nat)) (u : State) : Checked u (l.foldl (fun u e => u.memCorrected e.1 e.2) u) := by
    refine Checked.foldl (fun u e => ?_) l u
    exact Checked.memCorrected u e.1 e.2
  have hcached (l : List Nat) (u : State) : Checked u (l.foldl (fun u a => u.cacheUncorr (a / 64)) u) := by
    refine Checked.foldl (fun u a => ?_) l u
    exact Checked.cacheUncorr u (a / 64)
  rw [State.memSeen]
  exact ((hcount.trans (hcorrected ..)).trans (hcached ..)).onMem _

/-! ## The cache (R458, R460) -/

theorem Checked.evbShow (h : Checked s0 s) : Checked s0 s.evbShow := (h.put (by decide) _).put (by decide) _

theorem Checked.evbDrain (s : State) : Checked s s.evbDrain := by
  unfold State.evbDrain
  split
  · exact .refl s
  · exact (((Checked.refl s).onMem _).put (by decide) _).evbShow

theorem Checked.evict (s : State) (line : Nat) (l : CacheLine) : Checked s (s.evict line l) := by
  have herase : Checked s (s.onMem fun m => { m with lines := m.lines.erase line }) := (Checked.refl s).onMem _
  unfold State.evict State.evbPut
  split
  · exact herase
  · dsimp only
    split
    · exact ((herase.trans (Checked.evbDrain _)).onMem _).evbShow
    · exact (herase.onMem _).evbShow

theorem Checked.chooseWay (s : State) (line : Nat) : Checked s (s.chooseWay line).2 := by
  unfold State.chooseWay
  extract_lets
  split
  · exact .refl s
  · dsimp only
    split
    · exact ((Checked.refl s).fresh 4).trans (Checked.evict ..)
    · exact (Checked.refl s).fresh 4

/-- A hit or a miss is counted. -/
theorem Checked.countTouch (s : State) (hit : Bool) :
    Checked s (s.count (if hit then R.CACHE_HIT.COUNT else R.CACHE_MISS.COUNT) 1) :=
  (Checked.refl s).put (by cases hit <;> decide) _

theorem Checked.allocTouch (s : State) (wr : Bool) (b : Nat) : Checked s (s.allocTouch wr b) := by
  unfold State.allocTouch
  split
  · exact .refl s
  · extract_lets
    split
    · exact (Checked.countTouch s _).onMem _
    · exact ((Checked.countTouch s _).trans (Checked.chooseWay ..)).onMem _

/-- A read that is answered has checked its bursts and touched the cache. -/
theorem Checked.memRead_alloc {id a k : Nat} {o : MemSeen} {l : List Byte} (h : (s.memRead true id a k o).1 = .done l) :
    Checked s (s.memRead true id a k o).2 := by
  revert h
  unfold State.memRead
  extract_lets bursts seen
  split
  · exact fun h => nomatch h
  split
  · exact fun h => nomatch h
  split
  · exact fun h => nomatch h
  · refine fun _ => (Checked.memSeen s o).trans (Checked.foldl (fun u b => ?_) bursts seen)
    exact Checked.allocTouch u false b

end

end Sys2Proof.Machine
end

section
/-!
PROOF. A channel's retirement (R456) and a scrub pass (R454, R455).
-/

namespace Sys2Proof.Machine

section
variable {s : State}

/-! ## Retirement (R456) -/

/-- Forgetting cache lines shows in the eviction buffer's registers. -/
theorem State.get_cacheForget (s : State) (lo hi : Nat) {g : Field} (hfill : g.key ≠ R.CACHE_EVB.FILL.key)
    (hpeak : g.key ≠ R.CACHE_EVB.PEAK.key) : (s.cacheForget lo hi).get g = s.get g := by
  unfold State.cacheForget State.evbShow
  dsimp only
  rw [State.get_put_other _ _ _ _ hpeak, State.get_put_other _ _ _ _ hfill]
  simp only [State.get, State.onMem_regs]

theorem does_dramRetire {ch : Nat} (hch : s.get R.DRAM_RETIRE.CHAN = ch) (hoff : s.on R.DRAM_RETIRE.GO = false)
    (hreason : s.retireReason ch = 0) :
    Does .dramRetire s fun t => t.get R.DRAM_RETIRE.GO = 1 ∧ t.get (R.DRAM_STAT.STATE ch) = CH.RETIRING := by
  have hlt : ch < 8 := hch ▸ State.get_lt ..
  have hexec : exec .dramRetire s = .next (((s.raise R.DRAM_RETIRE.GO).put (R.DRAM_STAT.STATE ch) CH.RETIRING).cacheForget
      (2 ^ 37 * ch) (2 ^ 37 * (ch + 1))) := by
    simp only [exec, execDramRetire, hoff, hch, hreason, Bool.false_eq_true, if_false, ne_eq, not_true_eq_false]
  rw [does_iff hexec, State.get_cacheForget _ _ _ (by decide) (by decide),
    State.get_cacheForget _ _ _ (by simp only [R.DRAM_STAT.STATE, R.CACHE_EVB.FILL]; omega)
      (by simp only [R.DRAM_STAT.STATE, R.CACHE_EVB.PEAK]; omega),
    State.get_put_other _ _ _ _ (by simp only [R.DRAM_STAT.STATE, R.DRAM_RETIRE.GO]; omega), State.get_raise_same, State.get_put_same]
  exact ⟨rfl, rfl⟩

theorem State.retireReason_le (s : State) (ch : Nat) : s.retireReason ch ≤ 5 := by
  unfold State.retireReason
  repeat' split
  all_goals decide

theorem does_dramRetire_refused {ch : Nat} (hch : s.get R.DRAM_RETIRE.CHAN = ch) (hoff : s.on R.DRAM_RETIRE.GO = false)
    (hreason : s.retireReason ch ≠ 0) :
    Does .dramRetire s fun t => t.get R.DRAM_RETIRE.REJ = 1 ∧ t.get R.DRAM_RETIRE.REASON = s.retireReason ch ∧
      Leaves s t [R.DRAM_RETIRE.REJ, R.DRAM_RETIRE.REASON] [] := by
  have hexec : exec .dramRetire s = .next ((s.raise R.DRAM_RETIRE.REJ).put R.DRAM_RETIRE.REASON (s.retireReason ch)) := by
    simp only [exec, execDramRetire, hoff, hch, Bool.false_eq_true, if_false, if_pos hreason]
  rw [does_iff hexec, State.get_put_same, State.get_put_other _ _ _ _ (by decide), State.get_raise_same]
  refine ⟨rfl, Nat.mod_eq_of_lt ?_, ((Leaves.refl s _ _).raise (by decide)).put (by decide) _⟩
  exact Nat.lt_of_le_of_lt (s.retireReason_le ch) (by decide)

/-- The domain of channel `ch` is `OFF`. -/
def State.domainDropped (s : State) (ch : Nat) : State :=
  (((s.put (R.PWR_STAT.STATE (dramDomain ch)) 0).put (R.PWR_REQ.REQ (dramDomain ch)) 0).put (R.PWR_STAT.RDY (dramDomain ch)) 0).trace 3
    srcPower 2 (dramDomain ch) 2 0

/-- No record changes the state of a channel's domain. -/
theorem State.recorder_domain {ch : Nat} (hch : ch < 8) : (R.PWR_STAT.STATE (dramDomain ch)).recorder = false := by
  have hkey : (R.PWR_STAT.STATE (dramDomain ch)).key = 32 * (0xA1400 + 4 * (153 + ch)) + 30 := rfl
  have hseal : R.LUG_CTL.SEALED.key = 0x140011e := rfl
  simp only [Field.recorder, hkey, hseal, Bool.or_eq_false_iff, Bool.and_eq_false_iff, decide_eq_false_iff_not]
  omega

theorem State.state_domainDropped (s : State) (ch : Nat) (hch : ch < 8) :
    (s.domainDropped ch).get (R.PWR_STAT.STATE (dramDomain ch)) = 0 := by
  rw [State.domainDropped, State.get_trace _ _ _ _ _ _ _ _ (State.recorder_domain hch),
    State.get_put_other _ _ _ _ (by simp only [R.PWR_STAT.STATE, R.PWR_STAT.RDY]; omega),
    State.get_put_other _ _ _ _ (by simp only [R.PWR_STAT.STATE, R.PWR_REQ.REQ]; omega), State.get_put_same]
  rfl

theorem Sparse.filter_clear {α : Type} (m : Sparse α) (lo hi : Nat) :
    (Sparse.clear m lo hi).filter (fun e => decide (lo ≤ e.1) && decide (e.1 < hi)) = [] := by
  rw [Sparse.clear, List.filter_filter, List.filter_eq_nil_iff]
  intro e _
  simp only [Bool.and_eq_true, Bool.or_eq_true, decide_eq_true_eq]
  omega

theorem does_dramRetireDone {ch : Nat} (hch : s.get R.DRAM_RETIRE.CHAN = ch) (hgo : s.on R.DRAM_RETIRE.GO = true)
    (hretiring : s.get (R.DRAM_STAT.STATE ch) = CH.RETIRING) :
    Does .dramRetireDone s fun t => t.get R.DRAM_RETIRE.GO = 0 ∧ t.get (R.DRAM_STAT.STATE ch) = CH.RETIRED ∧
      t.get (R.PWR_STAT.STATE (dramDomain ch)) = 0 ∧
      (t.dram.filter fun e => decide (2 ^ 37 * ch ≤ e.1) && decide (e.1 < 2 ^ 37 * (ch + 1))) = [] := by
  have hlt : ch < 8 := hch ▸ State.get_lt ..
  let u := ((s.domainDropped ch).zero R.DRAM_RETIRE.GO).put (R.DRAM_STAT.STATE ch) CH.RETIRED
  have hexec : exec .dramRetireDone s = .next ((u.memClear (2 ^ 37 * ch) (2 ^ 37 * (ch + 1))).record srcMem 0x0F07 [ch]) := by
    simp only [exec, execDramRetireDone, hch]
    exact if_pos ⟨hgo, hretiring⟩
  have hget (lo hi : Nat) (g : Field) : (u.memClear lo hi).get g = u.get g := by
    simp only [State.get, State.memClear, State.onMem_regs]
  have hdram (lo hi : Nat) : (u.memClear lo hi).dram = Sparse.clear u.dram lo hi := rfl
  have hstate : (R.DRAM_STAT.STATE ch).recorder = false := by
    have hkey : (R.DRAM_STAT.STATE ch).key = 32 * (0x50030 + 4 * ch) + 28 := rfl
    have hseal : R.LUG_CTL.SEALED.key = 0x140011e := rfl
    simp only [Field.recorder, hkey, hseal, Bool.or_eq_false_iff, Bool.and_eq_false_iff, decide_eq_false_iff_not]
    omega
  rw [does_iff hexec, State.get_record _ _ _ _ _ (by decide), State.get_record _ _ _ _ _ hstate,
    State.get_record _ _ _ _ _ (State.recorder_domain hlt), State.record_dram, hget, hget, hget, hdram]
  refine ⟨?_, State.get_put_same .., ?_, Sparse.filter_clear _ _ _⟩
  · exact (State.get_put_other _ _ _ _ (by simp only [R.DRAM_STAT.STATE, R.DRAM_RETIRE.GO]; omega)).trans (State.get_zero_same ..)
  · refine ((State.get_put_other _ _ _ _ ?_).trans (State.get_put_other _ _ _ _ ?_)).trans (s.state_domainDropped ch hlt)
    · simp only [R.PWR_STAT.STATE, R.DRAM_STAT.STATE]
      omega
    · simp only [R.PWR_STAT.STATE, R.DRAM_RETIRE.GO]
      omega

/-! ## Addresses in pairs of registers -/

theorem State.get_putPair_other (s : State) {lo hi g : Field} (v : Nat) (hlo : g.key ≠ lo.key) (hhi : g.key ≠ hi.key) :
    (s.putPair lo hi v).get g = s.get g :=
  (State.get_put_other _ _ _ _ hhi).trans (State.get_put_other _ _ _ _ hlo)

theorem State.dram_putPair (s : State) (lo hi : Field) (v : Nat) : (s.putPair lo hi v).dram = s.dram := rfl

theorem State.pair_putPair (s : State) {lo hi : Field} {v : Nat} (hne : lo.key ≠ hi.key) (hlow : lo.width = 32)
    (hv : v / 2 ^ 32 < 2 ^ hi.width) : (s.putPair lo hi v).get lo + 2 ^ 32 * (s.putPair lo hi v).get hi = v := by
  have hget : (s.putPair lo hi v).get lo = v % 2 ^ 32 := by
    rw [State.putPair, State.get_put_other _ _ _ _ hne, State.get_put_same, hlow, Nat.mod_mod]
  have hhigh : (s.putPair lo hi v).get hi = v / 2 ^ 32 := (State.get_put_same ..).trans (Nat.mod_eq_of_lt hv)
  rw [hget, hhigh]
  omega

/-! ## A pass begins (R454, R455) -/

/-- The pass shown from its first burst. -/
def State.scrubStarted (s : State) : State :=
  (((((s.raise R.SCRUB_CTL.GO).zero R.SCRUB_CORR.COUNT).zero R.SCRUB_UNCORR.COUNT).putPair R.SCRUB_FIRST_UC_LO.ADDR R.SCRUB_FIRST_UC_HI.ADDR
    0x1FFFFFFFFFF).putPair R.SCRUB_LAST_UC_LO.ADDR R.SCRUB_LAST_UC_HI.ADDR 0x1FFFFFFFFFF).putPair R.SCRUB_POS_LO.ADDR R.SCRUB_POS_HI.ADDR
    s.scrubStart

/-- What the addresses of a pass leave. -/
theorem State.get_scrubStarted (s : State) {g : Field} (hg : g.key ∉ [R.SCRUB_FIRST_UC_LO.ADDR.key, R.SCRUB_FIRST_UC_HI.ADDR.key,
    R.SCRUB_LAST_UC_LO.ADDR.key, R.SCRUB_LAST_UC_HI.ADDR.key, R.SCRUB_POS_LO.ADDR.key, R.SCRUB_POS_HI.ADDR.key]) :
    s.scrubStarted.get g = (((s.raise R.SCRUB_CTL.GO).zero R.SCRUB_CORR.COUNT).zero R.SCRUB_UNCORR.COUNT).get g := by
  simp only [List.mem_cons, List.not_mem_nil, or_false, not_or] at hg
  obtain ⟨hfirst, hfirst', hlast, hlast', hpos, hpos'⟩ := hg
  rw [State.scrubStarted, State.get_putPair_other _ _ hpos hpos', State.get_putPair_other _ _ hlast hlast',
    State.get_putPair_other _ _ hfirst hfirst']

theorem does_scrubGo (hstart : s.scrubStart % 64 = 0) (hlast : s.scrubLast % 64 = 0) (hle : s.scrubStart ≤ s.scrubLast)
    (hlt : s.scrubLast < 2 ^ 40) (hoff : s.on R.SCRUB_CTL.GO = false) (hmode : s.curfewOrShutdown = false) :
    Does .scrubGo s fun t => t.get R.SCRUB_CTL.GO = 1 ∧ t.get R.SCRUB_CORR.COUNT = 0 ∧ t.get R.SCRUB_UNCORR.COUNT = 0 ∧
      t.get R.SCRUB_TIME.COUNT = 0 ∧ t.get R.SCRUB_POS_LO.ADDR + 2 ^ 32 * t.get R.SCRUB_POS_HI.ADDR = s.scrubStart := by
  have hok : ¬ (s.scrubStart % 64 ≠ 0 ∨ s.scrubLast % 64 ≠ 0 ∨ 2 ^ 40 ≤ s.scrubStart ∨ 2 ^ 40 ≤ s.scrubLast ∨ s.scrubLast < s.scrubStart ∨
      s.on R.SCRUB_CTL.GO ∨ s.curfewOrShutdown) := by
    simp only [hstart, hlast, hoff, hmode, ne_eq, not_true_eq_false, Bool.false_eq_true, or_false, false_or]
    omega
  have hexec : exec .scrubGo s = .next ((s.scrubStarted.zero R.SCRUB_TIME.COUNT).onMem fun m => { m with scrubAt := s.cycle }) := if_neg hok
  have hget (g : Field) : ((s.scrubStarted.zero R.SCRUB_TIME.COUNT).onMem fun m => { m with scrubAt := s.cycle }).get g =
      (s.scrubStarted.zero R.SCRUB_TIME.COUNT).get g := rfl
  have hother {g : Field} (hg : g.key ≠ R.SCRUB_TIME.COUNT.key) : (s.scrubStarted.zero R.SCRUB_TIME.COUNT).get g = s.scrubStarted.get g :=
    State.get_put_other _ _ _ _ hg
  have hbegun {g : Field} (htime : g.key ≠ R.SCRUB_TIME.COUNT.key) (hg : g.key ∉ [R.SCRUB_FIRST_UC_LO.ADDR.key, R.SCRUB_FIRST_UC_HI.ADDR.key,
      R.SCRUB_LAST_UC_LO.ADDR.key, R.SCRUB_LAST_UC_HI.ADDR.key, R.SCRUB_POS_LO.ADDR.key, R.SCRUB_POS_HI.ADDR.key]) :
      (s.scrubStarted.zero R.SCRUB_TIME.COUNT).get g = (((s.raise R.SCRUB_CTL.GO).zero R.SCRUB_CORR.COUNT).zero R.SCRUB_UNCORR.COUNT).get g :=
    (hother htime).trans (s.get_scrubStarted hg)
  rw [does_iff hexec]
  simp only [hget]
  refine ⟨(hbegun (by decide) (by decide)).trans ?_, (hbegun (by decide) (by decide)).trans ?_,
    (hbegun (by decide) (by decide)).trans (State.get_zero_same ..), State.get_zero_same .., ?_⟩
  · exact (State.get_put_other _ _ _ _ (by decide)).trans ((State.get_put_other _ _ _ _ (by decide)).trans (State.get_raise_same ..))
  · exact (State.get_put_other _ _ _ _ (by decide)).trans (State.get_zero_same ..)
  · rw [hother (g := R.SCRUB_POS_LO.ADDR) (by decide), hother (g := R.SCRUB_POS_HI.ADDR) (by decide)]
    refine State.pair_putPair _ (by decide) rfl ?_
    simp only [R.SCRUB_POS_HI.ADDR]
    omega

/-! ## A pass reads and ends (R454) -/

/-- Uncorrectable bursts are recorded, each for an open command. -/
theorem Checked.foldl_memUncorr (l : List Nat) (s : State) :
    Checked s (l.foldl (fun s b => let (id, t) := s.fresh 8; t.memUncorr (64 * b) id) s) := by
  refine Checked.foldl (fun u b => ?_) l s
  exact ((Checked.refl u).fresh 8).trans (Checked.memUncorr (u.fresh 8).2 (64 * b) (u.fresh 8).1)

/-- What a pass reads changes no byte, and of the scrub registers only its counts and addresses. -/
theorem State.scrubTake_spec (s : State) (pos : Nat) (o : MemSeen) :
    (s.scrubTake pos o).dram = s.dram ∧
      ∀ g : Field, g.recorder = false → g.ofChecks = false → g.key < R.SCRUB_POS_LO.ADDR.key → (s.scrubTake pos o).get g = s.get g := by
  unfold State.scrubTake
  extract_lets lo s1 uc s2 s3 hi first old s4
  have hseen : Checked s s2 := (Checked.memSeen s o).trans (Checked.foldl_memUncorr uc s1)
  have hpos : R.SCRUB_POS_LO.ADDR.key = 0xa01680 := rfl
  have hcounted (g : Field) (hg : g.key < 0xa01680) : s3.get g = s2.get g := by
    simp only [s3, State.count]
    rw [State.get_put_other _ _ _ _ (by simp only [R.SCRUB_UNCORR.COUNT]; omega),
      State.get_put_other _ _ _ _ (by simp only [R.SCRUB_CORR.COUNT]; omega)]
  have hplaced (g : Field) (hg : g.key < 0xa01680) : s4.get g = s3.get g := by
    simp only [s4]
    split
    · rfl
    · rw [State.get_putPair_other _ _ (by simp only [R.SCRUB_LAST_UC_LO.ADDR]; omega) (by simp only [R.SCRUB_LAST_UC_HI.ADDR]; omega),
        State.get_putPair_other _ _ (by simp only [R.SCRUB_FIRST_UC_LO.ADDR]; omega) (by simp only [R.SCRUB_FIRST_UC_HI.ADDR]; omega)]
  have hdram : s4.dram = s3.dram := by
    simp only [s4]
    split
    · rfl
    · rw [State.dram_putPair, State.dram_putPair]
  have hkept : s3.dram = s2.dram := by simp only [s3, State.count, State.put_dram]
  refine ⟨by rw [State.dram_putPair, hdram, hkept, hseen.dram], fun g hr hc hg => ?_⟩
  rw [hpos] at hg
  rw [State.get_putPair_other _ _ (by simp only [R.SCRUB_POS_LO.ADDR]; omega) (by simp only [R.SCRUB_POS_HI.ADDR]; omega), hplaced g hg,
    hcounted g hg]
  exact hseen.get g hr hc

/-- The summary of a pass that has ended. -/
def State.scrubSummary (s : State) : State :=
  (((s.zero R.SCRUB_CTL.GO).zero R.SCRUB_CTL.STOP).raise R.SCRUB_CTL.DONE).put R.SCRUB_TIME.COUNT
    (min (2 ^ 32 - 1) ((s.cycle - s.mem.scrubAt) / 1000))

theorem records_scrubEnd (hgo : s.on R.SCRUB_CTL.GO = true) (cause : Nat) : Records s.scrubSummary (s.scrubEnd cause) := by
  unfold State.scrubEnd
  rw [if_pos hgo]
  dsimp only
  split
  · exact records_signal (records_record (.refl _)) (State.get_lt ..)
  · exact records_record (.refl _)

theorem State.scrubEnd_spec (hgo : s.on R.SCRUB_CTL.GO = true) (cause : Nat) :
    (s.scrubEnd cause).get R.SCRUB_CTL.GO = 0 ∧ (s.scrubEnd cause).get R.SCRUB_CTL.DONE = 1 ∧ (s.scrubEnd cause).get R.SCRUB_CTL.STOP = 0 ∧
      (s.scrubEnd cause).dram = s.dram := by
  have hrec := records_scrubEnd hgo cause
  have htime {g : Field} (hg : g.key ≠ R.SCRUB_TIME.COUNT.key) :
      s.scrubSummary.get g = (((s.zero R.SCRUB_CTL.GO).zero R.SCRUB_CTL.STOP).raise R.SCRUB_CTL.DONE).get g :=
    State.get_put_other _ _ _ _ hg
  refine ⟨(hrec.get _ (by decide)).trans ((htime (by decide)).trans ?_), (hrec.get _ (by decide)).trans ((htime (by decide)).trans ?_),
    (hrec.get _ (by decide)).trans ((htime (by decide)).trans ?_), hrec.dram⟩
  · exact (State.get_put_other _ _ _ _ (by decide)).trans ((State.get_put_other _ _ _ _ (by decide)).trans (State.get_zero_same ..))
  · exact State.get_raise_same ..
  · exact (State.get_put_other _ _ _ _ (by decide)).trans (State.get_zero_same ..)

/-- A pass that has read up to `pos` and ends. -/
theorem State.scrubPass_spec (hgo : s.on R.SCRUB_CTL.GO = true) (pos : Nat) (o : MemSeen) (cause : Nat) :
    ((s.scrubTake pos o).scrubEnd cause).get R.SCRUB_CTL.GO = 0 ∧ ((s.scrubTake pos o).scrubEnd cause).get R.SCRUB_CTL.DONE = 1 ∧
      ((s.scrubTake pos o).scrubEnd cause).get R.SCRUB_CTL.STOP = 0 ∧ ((s.scrubTake pos o).scrubEnd cause).dram = s.dram := by
  obtain ⟨hdram, hget⟩ := s.scrubTake_spec pos o
  have hgo' : (s.scrubTake pos o).on R.SCRUB_CTL.GO = true := by
    rw [State.on, hget _ (by decide) (by decide) (by decide)]
    exact hgo
  obtain ⟨hoff, hdone, hstop, hkept⟩ := State.scrubEnd_spec hgo' cause
  exact ⟨hoff, hdone, hstop, hkept.trans hdram⟩

theorem does_scrubStop (pos : Nat) (o : MemSeen) (hgo : s.on R.SCRUB_CTL.GO = true) :
    Does (.scrubStop pos o) s fun t => t.get R.SCRUB_CTL.GO = 0 ∧ t.get R.SCRUB_CTL.DONE = 1 ∧ t.get R.SCRUB_CTL.STOP = 0 ∧
      t.dram = s.dram :=
  ⟨_, congrArg Host.Outcome.next (if_pos hgo), State.scrubPass_spec hgo pos o 1⟩

theorem does_scrubPassEnd (o : MemSeen) (hgo : s.on R.SCRUB_CTL.GO = true) :
    Does (.scrubPassEnd o) s fun t => t.get R.SCRUB_CTL.GO = 0 ∧ t.get R.SCRUB_CTL.DONE = 1 ∧ t.dram = s.dram := by
  obtain ⟨hoff, hdone, -, hdram⟩ := State.scrubPass_spec hgo (s.scrubLast + 64) o 0
  exact ⟨_, congrArg Host.Outcome.next (if_pos hgo), hoff, hdone, hdram⟩

end

/-- Settles O40: each command by its lemma. -/
theorem retirementAndScrub : Obligations.RetirementAndScrub := by
  unfold Obligations.RetirementAndScrub
  intro s
  exact ⟨fun _ => does_dramRetire, fun _ => does_dramRetire_refused, fun _ => does_dramRetireDone, does_scrubGo, does_scrubStop,
    does_scrubPassEnd⟩

end Sys2Proof.Machine
end

section
/-!
SUPPORT. The registers of a cluster: what a change of a bank or of the update stage changes, and how far the switches of an update have
come (R505, R510, R511).
-/

namespace Sys2Proof.Machine

section
variable {s t : State} {c b q : Nat}

/-! ## A bank's state and the update stage (R511, R521) -/

/-- The registers of the control stores and the sequencers are no recorder's. -/
theorem recorder_of_sequencers {g : Field} (hg : 32 * 0xD0000 ≤ g.key) : g.recorder = false := by
  have hseal : R.LUG_CTL.SEALED.key = 0x140011e := rfl
  simp only [Field.recorder, hseal, Bool.or_eq_false_iff, Bool.and_eq_false_iff, decide_eq_false_iff_not]
  omega

theorem State.get_csUpdate (s : State) (c b v reason : Nat) {g : Field} (hg : 32 * 0xD0000 ≤ g.key) :
    (s.csUpdate c b v reason).get g = s.get g := State.get_record _ _ _ _ _ (recorder_of_sequencers hg)

theorem fBank_key (c b : Nat) : (fBank c b).key = 32 * (0xD000C + 0x100 * c) + if b = 0 then 26 else 29 := by
  unfold fBank
  split <;> rfl

theorem fBank_width (c b : Nat) : (fBank c b).width = 3 := by
  unfold fBank
  split <;> rfl

theorem State.get_setBank_same (s : State) (c b v reason : Nat) : (s.setBank c b v reason).get (fBank c b) = v % 8 := by
  have hkey := fBank_key c b
  calc (s.setBank c b v reason).get (fBank c b)
      _ = (s.put (fBank c b) v).get (fBank c b) := State.get_csUpdate _ _ _ _ _ (by omega)
      _ = v % 2 ^ (fBank c b).width := State.get_put_same ..
      _ = v % 8 := congrArg (v % 2 ^ ·) (fBank_width c b)

theorem State.get_setBank_other (s : State) (c b v reason : Nat) {g : Field} (hg : 32 * 0xD0000 ≤ g.key) (hne : g.key ≠ (fBank c b).key) :
    (s.setBank c b v reason).get g = s.get g := (State.get_csUpdate _ _ _ _ _ hg).trans (State.get_put_other _ _ _ _ hne)

theorem State.banks_setBank (s : State) (c b v reason : Nat) : (s.setBank c b v reason).banks = s.banks := State.record_banks ..

theorem State.clusters_setBank (s : State) (c b v reason : Nat) : (s.setBank c b v reason).clusters = s.clusters := State.record_clusters ..

theorem State.bank_onBank_same (s : State) (c b : Nat) (f : Bank → Bank) : (s.onBank c b f).bank c b = f (s.bank c b) := Sparse.get_put_same ..

theorem State.cluster_onCluster_same (s : State) (c : Nat) (f : Cluster → Cluster) : (s.onCluster c f).cluster c = f (s.cluster c) :=
  Sparse.get_put_same ..

theorem State.bank_congr (h : t.banks = s.banks) (c b : Nat) : t.bank c b = s.bank c b := by rw [State.bank, h, State.bank]

theorem State.cluster_congr (h : t.clusters = s.clusters) (c : Nat) : t.cluster c = s.cluster c := by rw [State.cluster, h, State.cluster]

theorem State.get_setStage_same (s : State) (c v reason : Nat) : (s.setStage c v reason).get (R.CS_STAT.UPD c) = v % 4 := by
  rw [State.setStage, State.get_csUpdate _ _ _ _ _ (by simp only [R.CS_STAT.UPD]; omega), State.get_put_same]
  rfl

theorem State.get_setStage_other (s : State) (c v reason : Nat) {g : Field} (hg : 32 * 0xD0000 ≤ g.key)
    (hne : g.key ≠ (R.CS_STAT.UPD c).key) : (s.setStage c v reason).get g = s.get g :=
  (State.get_csUpdate _ _ _ _ _ hg).trans (State.get_put_other _ _ _ _ hne)

theorem State.seqs_setStage (s : State) (c v reason : Nat) : (s.setStage c v reason).seqs = s.seqs := State.record_seqs ..

theorem State.clusters_setStage (s : State) (c v reason : Nat) : (s.setStage c v reason).clusters = s.clusters := State.record_clusters ..

/-! ## Switches of an update (R510) -/

/-- Whether a sequencer of the cluster still has a switch to make. -/
def State.switching (s : State) (c : Nat) : Bool := (clusterSeqs c).any fun q => (s.seq q).switch.isSome

theorem State.switching_congr (h : t.seqs = s.seqs) (c : Nat) : t.switching c = s.switching c := by
  simp only [State.switching, State.seq, h]

/-- `t` has come from `s` by switches of cluster `c`: of the control stores' registers only its selection and its update's stage changed. -/
structure Switched (c : Nat) (s t : State) : Prop where
  get : ∀ g : Field, 32 * 0xD0000 ≤ g.key → g.key < 32 * 0xD1000 →
    g.key ∉ [(R.USTORE_SEL.BANK c).key, (R.CS_STAT.SWITCHED c).key, (R.CS_STAT.UPD c).key, (R.CS_STAT.REVERTED c).key] → t.get g = s.get g
  clusters : t.clusters = s.clusters

theorem Switched.refl (c : Nat) (s : State) : Switched c s s := ⟨fun _ _ _ _ => rfl, rfl⟩

theorem Switched.trans {u : State} (h : Switched c s t) (k : Switched c t u) : Switched c s u :=
  ⟨fun g hlo hhi hg => (k.get g hlo hhi hg).trans (h.get g hlo hhi hg), k.clusters.trans h.clusters⟩

theorem Switched.foldl {f : State → Nat → State} {l : List Nat} (hf : ∀ u, ∀ q ∈ l, Switched c u (f u q)) (s : State) :
    Switched c s (l.foldl f s) := by
  induction l generalizing s with
  | nil => exact .refl c s
  | cons q l ih => exact (hf s q (List.mem_cons_self ..)).trans (ih (fun u r hr => hf u r (List.mem_cons_of_mem _ hr)) _)

theorem Switched.setStage (s : State) (c v reason : Nat) : Switched c s (s.setStage c v reason) := by
  refine ⟨fun g hlo _ hg => ?_, State.clusters_setStage ..⟩
  simp only [List.mem_cons, List.not_mem_nil, or_false, not_or] at hg
  obtain ⟨-, -, hupd, -⟩ := hg
  exact s.get_setStage_other c v reason hlo hupd

theorem Switched.raiseReverted (s : State) (c : Nat) : Switched c s (s.raise (R.CS_STAT.REVERTED c)) := by
  refine ⟨fun g _ _ hg => ?_, rfl⟩
  simp only [List.mem_cons, List.not_mem_nil, or_false, not_or] at hg
  obtain ⟨-, -, -, hreverted⟩ := hg
  exact s.get_put_other _ _ _ hreverted

theorem Switched.updStep (s : State) (c : Nat) : Switched c s (s.updStep c) := by
  unfold State.updStep
  split
  · exact .refl c s
  split
  · exact .setStage ..
  split
  · split
    · exact .setStage ..
    · exact (Switched.raiseReverted s c).trans (.setStage ..)
  · exact .refl c s

/-- Sequencer `q` has made its switch to bank `b`; the update has not gone on yet. -/
def State.switchMade (s : State) (q b : Nat) : State :=
  let s1 := (s.put (R.SEQ_STAT.BANK q) b).onSeq q fun x => { x with switch := none }
  let s2 := s1.put (R.USTORE_SEL.BANK (q / 8)) (setBit (s1.get (R.USTORE_SEL.BANK (q / 8))) (q % 8) (b == 1))
  s2.put (R.CS_STAT.SWITCHED (q / 8)) (setBit (s2.get (R.CS_STAT.SWITCHED (q / 8))) (q % 8) (s2.get (R.CS_STAT.UPD (q / 8)) == 1))

theorem State.applySwitch_of_none (h : (s.seq q).switch = none) : s.applySwitch q = s := by rw [State.applySwitch, h]

theorem State.applySwitch_of_some (h : (s.seq q).switch = some b) : s.applySwitch q = (s.switchMade q b).updStep (q / 8) := by
  rw [State.applySwitch, h]
  rfl

theorem State.get_switchMade (s : State) (q b : Nat) {g : Field} (hseq : g.key ≠ (R.SEQ_STAT.BANK q).key)
    (hsel : g.key ≠ (R.USTORE_SEL.BANK (q / 8)).key) (hswitched : g.key ≠ (R.CS_STAT.SWITCHED (q / 8)).key) :
    (s.switchMade q b).get g = s.get g := by
  unfold State.switchMade
  extract_lets s1 s2
  exact (s2.get_put_other _ _ _ hswitched).trans ((s1.get_put_other _ _ _ hsel).trans (s.get_put_other _ _ _ hseq))

theorem State.clusters_switchMade (s : State) (q b : Nat) : (s.switchMade q b).clusters = s.clusters := rfl

theorem State.seqs_switchMade (s : State) (q b : Nat) : (s.switchMade q b).seqs = (s.onSeq q fun x => { x with switch := none }).seqs := rfl

theorem Switched.applySwitch (s : State) (hq : q / 8 = c) : Switched c s (s.applySwitch q) := by
  cases hswitch : (s.seq q).switch with
  | none =>
    rw [State.applySwitch_of_none hswitch]
    exact .refl c s
  | some b =>
    rw [State.applySwitch_of_some hswitch, hq]
    refine Switched.trans ⟨fun g _ hhi hg => ?_, s.clusters_switchMade q b⟩ (.updStep ..)
    simp only [List.mem_cons, List.not_mem_nil, or_false, not_or] at hg
    obtain ⟨hsel, hswitched, -, -⟩ := hg
    exact s.get_switchMade q b (by simp only [R.SEQ_STAT.BANK]; omega) (hq ▸ hsel) (hq ▸ hswitched)

theorem mem_clusterSeqs {c q : Nat} : q ∈ clusterSeqs c ↔ q / 8 = c := by
  simp only [clusterSeqs, List.mem_map, List.mem_range]
  constructor
  · rintro ⟨i, hi, rfl⟩
    omega
  · intro h
    exact ⟨q % 8, by omega, by omega⟩

theorem Switched.switchAll (s : State) (c : Nat) (dest : Nat → Option Nat) : Switched c s (s.switchAll c dest) := by
  unfold State.switchAll
  refine Switched.trans (Switched.trans (Switched.foldl (fun u q _ => ?_) s) (Switched.foldl (fun u q hq => ?_) _)) (.updStep ..)
  · exact ⟨fun _ _ _ _ => rfl, rfl⟩
  · exact .applySwitch u (mem_clusterSeqs.mp (List.mem_filter.mp hq).1)

/-! ## Which switches wait -/

theorem State.seqs_updStep (s : State) (c : Nat) : (s.updStep c).seqs = s.seqs := by
  unfold State.updStep
  split
  · rfl
  split
  · exact State.seqs_setStage ..
  split
  · rw [State.seqs_setStage]
    split <;> rfl
  · rfl

theorem State.seq_congr (h : t.seqs = s.seqs) (q : Nat) : t.seq q = s.seq q := by rw [State.seq, h, State.seq]

theorem State.seq_onSeq_other (s : State) {q r : Nat} (f : Seq → Seq) (h : r ≠ q) : (s.onSeq q f).seq r = s.seq r :=
  Sparse.get_put_other _ _ _ _ _ h

/-- A sequencer that has made its switch has none to make. -/
theorem State.switch_applySwitch (s : State) (q r : Nat) :
    ((s.applySwitch q).seq r).switch = if r = q then none else (s.seq r).switch := by
  cases hswitch : (s.seq q).switch with
  | none =>
    rw [State.applySwitch_of_none hswitch]
    split
    next heq => rw [heq, hswitch]
    · rfl
  | some b =>
    rw [State.applySwitch_of_some hswitch, State.seq_congr (State.seqs_updStep ..), State.seq_congr (s.seqs_switchMade q b)]
    split
    next heq => rw [heq, State.seq_onSeq]
    next hne => rw [State.seq_onSeq_other _ _ hne]

theorem State.switch_foldl_applySwitch (l : List Nat) (s : State) (r : Nat) :
    ((l.foldl (fun s q => s.applySwitch q) s).seq r).switch = if r ∈ l then none else (s.seq r).switch := by
  induction l generalizing s with
  | nil => rfl
  | cons q l ih =>
    rw [List.foldl_cons, ih, State.switch_applySwitch]
    by_cases hrq : r = q <;> by_cases hrl : r ∈ l <;> simp [hrq, hrl]

/-- A sequencer is told where to switch to. -/
def State.tell (dest : Nat → Option Nat) (s : State) (q : Nat) : State := s.onSeq q fun x => { x with switch := dest q }

/-- Every sequencer of the cluster is told where to switch to. -/
def State.told (s : State) (c : Nat) (dest : Nat → Option Nat) : State := (clusterSeqs c).foldl (State.tell dest) s

theorem State.switch_told (s : State) {c r : Nat} (hr : r ∈ clusterSeqs c) (dest : Nat → Option Nat) :
    ((s.told c dest).seq r).switch = dest r := by
  have hfold (l : List Nat) (u : State) : ((l.foldl (State.tell dest) u).seq r).switch =
      if r ∈ l then dest r else (u.seq r).switch := by
    induction l generalizing u with
    | nil => rfl
    | cons q l ih =>
      rw [List.foldl_cons, ih, State.tell]
      by_cases hrl : r ∈ l
      · simp [hrl]
      · by_cases hrq : r = q
        · subst hrq
          simp [hrl, State.seq_onSeq]
        · simp [hrl, hrq, State.seq_onSeq_other]
  rw [State.told, hfold, if_pos hr]

theorem State.regs_told (s : State) (c : Nat) (dest : Nat → Option Nat) : (s.told c dest).regs = s.regs := by
  unfold State.told
  exact State.foldl_same (f := State.tell dest) State.regs (fun _ _ => rfl) _ s

theorem State.get_told (s : State) (c : Nat) (dest : Nat → Option Nat) (g : Field) : (s.told c dest).get g = s.get g := by
  rw [State.get, State.regs_told, State.get]

theorem State.clusters_told (s : State) (c : Nat) (dest : Nat → Option Nat) : (s.told c dest).clusters = s.clusters := by
  unfold State.told
  exact State.foldl_same (f := State.tell dest) State.clusters (fun _ _ => rfl) _ s

/-! ## How far the update has come -/

/-- The stage `x` stays until every switch is made, and is then `y`: an activation, or a way back (R510, R511). -/
structure State.Stages (s : State) (c x y : Nat) : Prop where
  kind : x = 1 ∧ y = 2 ∨ x = 3 ∧ y = 0
  now : s.get (R.CS_STAT.UPD c) = x ∨ s.get (R.CS_STAT.UPD c) = y ∧ s.switching c = false

theorem State.updStep_of_switching (h : s.switching c = true) : s.updStep c = s := if_pos h

theorem State.Stages.now_of_switching {x y : Nat} (h : s.Stages c x y) (hswitching : s.switching c = true) :
    s.get (R.CS_STAT.UPD c) = x := by
  rcases h.now with hnow | ⟨-, hdone⟩
  · exact hnow
  · rw [hswitching] at hdone
    cases hdone

/-- With no switch left the stage is the later one. -/
theorem State.Stages.updStep_done {x y : Nat} (h : s.Stages c x y) (hdone : s.switching c = false) :
    (s.updStep c).get (R.CS_STAT.UPD c) = y := by
  have hnot : ¬ ((clusterSeqs c).any fun q => (s.seq q).switch.isSome) = true := by
    rw [Bool.not_eq_true]
    exact hdone
  unfold State.updStep
  rw [if_neg hnot]
  obtain ⟨⟨rfl, rfl⟩ | ⟨rfl, rfl⟩, hnow | ⟨hnow, -⟩⟩ := h <;> simp [hnow, State.get_setStage_same]

theorem State.Stages.updStep {x y : Nat} (h : s.Stages c x y) : (s.updStep c).Stages c x y := by
  cases hswitching : s.switching c with
  | true =>
    rw [State.updStep_of_switching hswitching]
    exact h
  | false =>
    exact ⟨h.kind, .inr ⟨h.updStep_done hswitching, (State.switching_congr (s.seqs_updStep c) c).trans hswitching⟩⟩

theorem State.Stages.applySwitch {x y : Nat} (h : s.Stages c x y) (hq : q / 8 = c) : (s.applySwitch q).Stages c x y := by
  cases hsome : (s.seq q).switch with
  | none =>
    rw [State.applySwitch_of_none hsome]
    exact h
  | some b =>
    have hswitching : s.switching c = true := by
      rw [State.switching, List.any_eq_true]
      exact ⟨q, mem_clusterSeqs.mpr hq, by rw [hsome]; rfl⟩
    rw [State.applySwitch_of_some hsome, hq]
    refine State.Stages.updStep ⟨h.kind, .inl ?_⟩
    rw [s.get_switchMade q b (by simp only [R.CS_STAT.UPD, R.SEQ_STAT.BANK]; omega)
      (by simp only [R.CS_STAT.UPD, R.USTORE_SEL.BANK]; omega) (by simp only [R.CS_STAT.UPD, R.CS_STAT.SWITCHED]; omega)]
    exact h.now_of_switching hswitching

theorem State.Stages.foldl_applySwitch {x y : Nat} {l : List Nat} (hl : ∀ q ∈ l, q / 8 = c) (h : s.Stages c x y) :
    (l.foldl (fun s q => s.applySwitch q) s).Stages c x y := by
  induction l generalizing s with
  | nil => exact h
  | cons q l ih => exact ih (fun r hr => hl r (List.mem_cons_of_mem _ hr)) (h.applySwitch (hl q (List.mem_cons_self ..)))

/-- Once the switches are asked for, the stage is the earlier one exactly while a running sequencer has one to make (R510, R511). -/
theorem State.upd_switchAll {x y : Nat} (hkind : x = 1 ∧ y = 2 ∨ x = 3 ∧ y = 0) (hx : s.get (R.CS_STAT.UPD c) = x) (dest : Nat → Option Nat) :
    (s.switchAll c dest).get (R.CS_STAT.UPD c) =
      if (clusterSeqs c).any (fun q => s.seqState q == SQ.RUN && (dest q).isSome) then x else y := by
  have hstages : (s.told c dest).Stages c x y := ⟨hkind, .inl ((s.get_told c dest _).trans hx)⟩
  have hall : s.switchAll c dest = (((clusterSeqs c).filter fun q => (s.told c dest).seqState q != SQ.RUN).foldl
      (fun s q => s.applySwitch q) (s.told c dest)).updStep c := rfl
  have hstate (q : Nat) : (s.told c dest).seqState q = s.seqState q := s.get_told c dest _
  simp only [hstate] at hall
  have hlast := hstages.foldl_applySwitch (l := (clusterSeqs c).filter fun q => s.seqState q != SQ.RUN)
    fun q hq => mem_clusterSeqs.mp (List.mem_filter.mp hq).1
  have hswitch := State.switch_foldl_applySwitch ((clusterSeqs c).filter fun q => s.seqState q != SQ.RUN) (s.told c dest)
  rw [hall]
  generalize ((clusterSeqs c).filter fun q => s.seqState q != SQ.RUN).foldl (fun s q => s.applySwitch q) (s.told c dest) = u at hlast hswitch ⊢
  have hswitching : u.switching c = (clusterSeqs c).any fun q => s.seqState q == SQ.RUN && (dest q).isSome := by
    rw [State.switching, Bool.eq_iff_iff, List.any_eq_true, List.any_eq_true]
    refine exists_congr fun q => and_congr_right fun hq => ?_
    rw [hswitch, s.switch_told hq]
    by_cases hrun : s.seqState q = SQ.RUN <;> simp [hq, hrun]
  rw [← hswitching]
  split
  next hwaits =>
    rw [State.updStep_of_switching hwaits]
    exact hlast.now_of_switching hwaits
  next hnone => exact hlast.updStep_done (by simpa using hnone)

/-- Where no sequencer switches, only the stage may go on. -/
theorem State.switchAll_of_none {dest : Nat → Option Nat} (hdest : ∀ q, dest q = none) :
    s.switchAll c dest = (s.told c dest).updStep c := by
  have hfold (l : List Nat) (hl : ∀ q ∈ l, ((s.told c dest).seq q).switch = none) :
      l.foldl (fun s q => s.applySwitch q) (s.told c dest) = s.told c dest := by
    induction l with
    | nil => rfl
    | cons q l ih =>
      rw [List.foldl_cons, State.applySwitch_of_none (hl q (List.mem_cons_self ..))]
      exact ih fun r hr => hl r (List.mem_cons_of_mem _ hr)
  have hall : s.switchAll c dest = (((clusterSeqs c).filter fun q => (s.told c dest).seqState q != SQ.RUN).foldl
      (fun s q => s.applySwitch q) (s.told c dest)).updStep c := rfl
  rw [hall, hfold]
  intro q hq
  rw [s.switch_told (List.mem_filter.mp hq).1, hdest]

end

end Sys2Proof.Machine
end

section
/-!
PROOF. Control store images are loaded, verified, activated, confirmed and taken back, and words are written through the window: settles
O45 (R505 to R507, R510, R511, R516).
-/

namespace Sys2Proof.Machine

section
variable {s t : State} {c b : Nat}

/-! ## Loads and checks (R505, R506) -/

/-- A register of the control stores outside the bits of `CS_STAT` that show the banks. -/
theorem State.get_setBank_of_key (s : State) (c b v reason : Nat) {g : Field} (hg : 32 * 0xD0000 ≤ g.key)
    (hne : g.key < 32 * (0xD000C + 0x100 * c) + 26 ∨ 32 * (0xD000C + 0x100 * c) + 32 ≤ g.key) :
    (s.setBank c b v reason).get g = s.get g := by
  refine s.get_setBank_other c b v reason hg ?_
  rw [fBank_key]
  split <;> omega

theorem State.get_csRefuse_reason (s : State) (c reason : Nat) : (s.csRefuse c reason).get (R.CS_STAT.REASON c) = reason % 32 :=
  State.get_put_same ..

theorem State.get_csRefuse_rej (s : State) (c reason : Nat) : (s.csRefuse c reason).get (R.CS_STAT.REJ c) = 1 := by
  rw [State.csRefuse, State.get_put_other _ _ _ _ (by simp only [R.CS_STAT.REJ, R.CS_STAT.REASON]; omega), State.get_raise_same]
  rfl

theorem State.get_csRefuse_other (s : State) (c reason : Nat) {g : Field} (hrej : g.key ≠ (R.CS_STAT.REJ c).key)
    (hreason : g.key ≠ (R.CS_STAT.REASON c).key) : (s.csRefuse c reason).get g = s.get g := by
  rw [State.csRefuse, State.get_put_other _ _ _ _ hreason, State.raise, State.get_put_other _ _ _ _ hrej]

theorem does_csLoad (hc : c < 4) (hb : b = s.get (R.CS_CTL.BANK c)) (hpower : s.clusterPowered c = true) (hbusy : s.csBusy c = false)
    (hselected : s.bankSelected c b = false) (hupd : s.get (R.CS_STAT.UPD c) = 0) :
    Does (.csLoad c) s fun t => (t.cluster c).loading = some b ∧ t.get (fBank c b) = 1 ∧ t.get (R.CS_CTL.LOAD c) = 1 ∧ t.banks = s.banks := by
  have hexec : exec (.csLoad c) s =
      .next (((s.raise (R.CS_CTL.LOAD c)).onCluster c fun k => { k with loading := some b }).setBank c b 1 0) := by
    subst hb
    simp [exec, execCsLoad, Nat.not_le.mpr hc, hpower, hbusy, hselected, hupd]
  rw [does_iff hexec]
  refine ⟨?_, State.get_setBank_same .., ?_, State.banks_setBank ..⟩
  · rw [State.cluster_congr (State.clusters_setBank ..), State.cluster_onCluster_same]
  · rw [State.get_setBank_of_key _ _ _ _ _ (by simp only [R.CS_CTL.LOAD]; omega) (by simp only [R.CS_CTL.LOAD]; omega), State.get_onCluster,
      State.get_raise_same]
    rfl

/-- The load of a cluster is at an end. -/
def State.loadEnded (s : State) (c : Nat) : State := (s.zero (R.CS_CTL.LOAD c)).onCluster c fun k => { k with loading := none }

/-- Image `k` becomes bank `b`, `LOADED`. -/
def State.bankLoaded (s : State) (c b : Nat) (k : Bank) : State :=
  (((s.loadEnded c).onBank c b fun _ => k).showBank c b).setBank c b 2 0

theorem State.get_showBank (s : State) (c b : Nat) {g : Field} (hlo : 32 * (0xD0000 + 0x100 * c) ≤ g.key)
    (hhi : g.key < 32 * (0xD0020 + 0x100 * c)) : (s.showBank c b).get g = s.get g := by
  unfold State.showBank
  rw [State.get_put_other, State.get_put_other, State.get_put_other, State.get_put_other]
  · simp only [R.HOOK_LO.MASK]
    omega
  · simp only [R.HOOK_HI.MASK]
    omega
  · simp only [R.VREV.VENDOR_REV]
    omega
  · split
    · simp only [R.STATE_FMT.FMT_A]
      omega
    · simp only [R.STATE_FMT.FMT_B]
      omega

theorem State.banks_showBank (s : State) (c b : Nat) : (s.showBank c b).banks = s.banks := by rw [State.showBank]; rfl

theorem State.clusters_showBank (s : State) (c b : Nat) : (s.showBank c b).clusters = s.clusters := by rw [State.showBank]; rfl

theorem State.loading_loadEnded (s : State) (c : Nat) : ((s.loadEnded c).cluster c).loading = none := by
  rw [State.loadEnded, State.cluster_onCluster_same]

theorem State.cluster_bankLoaded (s : State) (c b : Nat) (k : Bank) : ((s.bankLoaded c b k).cluster c).loading = none := by
  rw [State.bankLoaded, State.cluster_congr (State.clusters_setBank ..)]
  rw [State.cluster_congr (State.clusters_showBank ..)]
  exact s.loading_loadEnded c

theorem State.bank_bankLoaded (s : State) (c b : Nat) (k : Bank) : (s.bankLoaded c b k).bank c b = k := by
  rw [State.bankLoaded, State.bank_congr (State.banks_setBank ..)]
  rw [State.bank_congr (State.banks_showBank ..), State.bank_onBank_same]

/-- Of the cluster's registers up to `USTORE_SEL`, only the bank's state and `LOAD` change. -/
theorem State.get_bankLoaded (s : State) (c b : Nat) (k : Bank) {g : Field} (hlo : 32 * (0xD0000 + 0x100 * c) ≤ g.key)
    (hhi : g.key < 32 * (0xD000C + 0x100 * c) + 26) : (s.bankLoaded c b k).get g = (s.zero (R.CS_CTL.LOAD c)).get g := by
  rw [State.bankLoaded, State.get_setBank_of_key _ _ _ _ _ (by omega) (.inl hhi), State.get_showBank _ _ _ hlo (by omega), State.get_onBank,
    State.loadEnded, State.get_onCluster]

/-- The address of the image that a cluster loads. -/
def State.imageAddr (s : State) (c : Nat) : Nat := s.get (R.CS_SRC_LO.ADDR c) * 64 + 2 ^ 32 * s.get (R.CS_SRC_HI.ADDR c)

/-- The read of an image's header. -/
def State.headRead (s : State) (c : Nat) (seen : MemSeen) : MemAns × State :=
  (s.fresh 8).2.memRead true (s.fresh 8).1 (s.imageAddr c) 64 seen

/-- The read of the records behind the header `head`. -/
def State.bodyRead (s : State) (c : Nat) (seen : MemSeen) (head : List Byte) : MemAns × State :=
  (s.headRead c seen).2.memRead true (s.fresh 8).1 (s.imageAddr c + 64) (32 * headField head 14 2) {}

theorem exec_csLoadDone {seen : MemSeen} {head body : List Byte} {k : Bank} (hloading : (s.cluster c).loading = some b)
    (hread : (s.headRead c seen).1 = .done head) (hhead : headOk head = true) (hrest : (s.bodyRead c seen head).1 = .done body)
    (himage : loadImage ((s.bodyRead c seen head).2.bank c (1 - b)) ((s.bodyRead c seen head).2.get (fBank c (1 - b)) == 3) head body =
      .inr k) :
    exec (.csLoadDone c seen) s = .next ((s.bodyRead c seen head).2.bankLoaded c b k) := by
  simp only [State.bodyRead, State.headRead, State.imageAddr] at hread hrest himage ⊢
  simp only [exec, execCsLoadDone, hloading, State.bankLoaded, State.loadEnded]
  generalize s.fresh 8 = p at *
  obtain ⟨id, s0⟩ := p
  dsimp only at *
  generalize s0.memRead true id _ 64 seen = p at *
  obtain ⟨r, s1⟩ := p
  dsimp only at *
  subst hread
  simp only [hhead, Bool.not_true, Bool.false_eq_true, if_false]
  generalize s1.memRead true id _ _ {} = p at *
  obtain ⟨r, s2⟩ := p
  dsimp only at *
  subst hrest
  simp only [himage]

theorem does_csLoadDone (hc : c < 4) {seen : MemSeen} {head body : List Byte} {k : Bank} (hloading : (s.cluster c).loading = some b)
    (hread : (s.headRead c seen).1 = .done head) (hhead : headOk head = true) (hrest : (s.bodyRead c seen head).1 = .done body)
    (himage : loadImage (s.bank c (1 - b)) (s.get (fBank c (1 - b)) == 3) head body = .inr k) :
    Does (.csLoadDone c seen) s fun t => t.bank c b = k ∧ t.get (fBank c b) = 2 ∧ t.get (R.CS_CTL.LOAD c) = 0 ∧
      (t.cluster c).loading = none ∧ t.get (R.CS_STAT.REASON c) = s.get (R.CS_STAT.REASON c) := by
  have hchecked : Checked s (s.bodyRead c seen head).2 :=
    ((Checked.refl s).fresh 8).trans ((Checked.memRead_alloc hread).trans (Checked.memRead_alloc hrest))
  have hget {g : Field} (hlo : 32 * 0xD0000 ≤ g.key) : (s.bodyRead c seen head).2.get g = s.get g := by
    refine hchecked.get g (recorder_of_sequencers hlo) ?_
    simp only [Field.ofChecks, Bool.or_eq_false_iff, Bool.and_eq_false_iff, decide_eq_false_iff_not]
    omega
  have hkl : (R.CS_CTL.LOAD c).key = 32 * (0xD0000 + 0x100 * c) + 31 := rfl
  have hkr : (R.CS_STAT.REASON c).key = 32 * (0xD000C + 0x100 * c) + 16 := rfl
  have hkb := fBank_key c (1 - b)
  rw [does_iff (exec_csLoadDone hloading hread hhead hrest
    (by rwa [State.bank_congr hchecked.banks, hget (by omega)]))]
  have hload := (s.bodyRead c seen head).2.get_bankLoaded c b k (g := R.CS_CTL.LOAD c) (by omega) (by omega)
  have hreason := (s.bodyRead c seen head).2.get_bankLoaded c b k (g := R.CS_STAT.REASON c) (by omega) (by omega)
  refine ⟨State.bank_bankLoaded .., State.get_setBank_same .., hload.trans (State.get_put_same ..), State.cluster_bankLoaded .., ?_⟩
  rw [hreason, State.zero, State.get_put_other _ _ _ _ (by omega), hget (by omega)]

theorem does_csVerify (hc : c < 4) (hb : b = s.get (R.CS_CTL.BANK c)) (hpower : s.clusterPowered c = true) (hbusy : s.csBusy c = false)
    (hloaded : s.get (fBank c b) = 2) :
    Does (.csVerify c) s fun t => (t.cluster c).verifying = some b ∧ t.get (R.CS_CTL.VERIFY c) = 1 ∧
      Leaves { s with clusters := t.clusters } t [R.CS_CTL.VERIFY c] [] := by
  have hexec : exec (.csVerify c) s =
      .next ((s.raise (R.CS_CTL.VERIFY c)).onCluster c fun k => { k with verifying := some b }) := by
    subst hb
    simp [exec, execCsVerify, Nat.not_le.mpr hc, hpower, hbusy, hloaded]
  rw [does_iff hexec]
  refine ⟨?_, State.get_raise_same .., ?_⟩
  · rw [State.cluster_onCluster_same]
  · exact (Leaves.refl { s with clusters := _ } _ _).raise (List.mem_singleton_self _)

theorem Bank.verify_le (k : Bank) : k.verify ≤ 10 := by
  unfold Bank.verify
  repeat' split
  all_goals decide

theorem State.clusters_csFail (s : State) (c b reason : Nat) : (s.csFail c b reason).clusters = s.clusters :=
  (State.clusters_setBank (s.csRefuse c reason) c b 4 reason).trans rfl

theorem State.get_csFail (s : State) (c b reason : Nat) {g : Field} (hg : 32 * 0xD0000 ≤ g.key) (hne : g.key < 32 * (0xD000C + 0x100 * c) + 26) :
    (s.csFail c b reason).get g = (s.csRefuse c reason).get g := State.get_setBank_of_key _ _ _ _ _ hg (.inl hne)

/-- The check of bank `b` is at an end; its result does not show yet. -/
def State.verifyEnded (s : State) (c b : Nat) : State :=
  ((s.zero (R.CS_CTL.VERIFY c)).onCluster c fun k => { k with verifying := none }).onBank c b fun k => k

theorem State.cluster_verifyEnded (s : State) (c b : Nat) : (s.verifyEnded c b).cluster c = { s.cluster c with verifying := none } :=
  (s.zero (R.CS_CTL.VERIFY c)).cluster_onCluster_same c fun k => { k with verifying := none }

theorem does_csVerifyDone (hverifying : (s.cluster c).verifying = some b) :
    Does (.csVerifyDone c []) s fun t => t.get (R.CS_CTL.VERIFY c) = 0 ∧ (t.cluster c).verifying = none ∧
      t.get (R.CS_STAT.REASON c) = (if (s.bank c b).verify = 0 then s.get (R.CS_STAT.REASON c) else (s.bank c b).verify) ∧
      t.get (fBank c b) = if (s.bank c b).verify = 0 then 3 else 4 := by
  have hexec : exec (.csVerifyDone c []) s = .next (if (s.bank c b).verify = 0 then (s.verifyEnded c b).setBank c b 3 0
      else (s.verifyEnded c b).csFail c b (s.bank c b).verify) := by
    have hbank : (s.verifyEnded c b).bank c b = s.bank c b := State.bank_onBank_same ..
    rw [← hbank]
    simp only [exec, execCsVerifyDone, hverifying]
    rfl
  have hverify : (s.verifyEnded c b).get (R.CS_CTL.VERIFY c) = 0 := State.get_put_same ..
  have hreason : (s.verifyEnded c b).get (R.CS_STAT.REASON c) = s.get (R.CS_STAT.REASON c) :=
    s.get_put_other _ _ _ (by simp only [R.CS_STAT.REASON, R.CS_CTL.VERIFY]; omega)
  have hcluster : ((s.verifyEnded c b).cluster c).verifying = none := congrArg Cluster.verifying (s.cluster_verifyEnded c b)
  rw [does_iff hexec]
  generalize s.verifyEnded c b = u at hverify hreason hcluster
  have hle := (s.bank c b).verify_le
  generalize (s.bank c b).verify = r at hle
  have hkv : (R.CS_CTL.VERIFY c).key = 32 * (0xD0000 + 0x100 * c) + 30 := rfl
  have hkr : (R.CS_STAT.REASON c).key = 32 * (0xD000C + 0x100 * c) + 16 := rfl
  have hkj : (R.CS_STAT.REJ c).key = 32 * (0xD000C + 0x100 * c) + 21 := rfl
  by_cases hr : r = 0
  · rw [if_pos hr, if_pos hr, if_pos hr, u.get_setBank_of_key c b 3 0 (by omega) (by omega), u.get_setBank_of_key c b 3 0 (by omega) (by omega),
      State.cluster_congr (u.clusters_setBank c b 3 0)]
    exact ⟨hverify, hcluster, hreason, u.get_setBank_same c b 3 0⟩
  · rw [if_neg hr, if_neg hr, if_neg hr, u.get_csFail c b r (by omega) (by omega), u.get_csFail c b r (by omega) (by omega),
      State.cluster_congr (u.clusters_csFail c b r), u.get_csRefuse_reason,
      u.get_csRefuse_other c r (by omega) (by omega)]
    exact ⟨hverify, hcluster, Nat.mod_eq_of_lt (by omega), State.get_setBank_same ..⟩

/-! ## Live updates (R510, R511) -/

/-- The activation of bank `b`, before any sequencer is asked to switch: the old selection is in `PREV`. -/
def State.activating (s : State) (c b : Nat) : State :=
  (((s.put (R.USTORE_SEL.PREV c) (s.get (R.USTORE_SEL.BANK c))).zero (R.CS_STAT.SWITCHED c)).onCluster c
    fun k => { k with target := b, late := false }).setStage c 1 0

theorem State.get_activating (s : State) (c b : Nat) {g : Field} (hg : 32 * 0xD0000 ≤ g.key) (hprev : g.key ≠ (R.USTORE_SEL.PREV c).key)
    (hswitched : g.key ≠ (R.CS_STAT.SWITCHED c).key) (hupd : g.key ≠ (R.CS_STAT.UPD c).key) : (s.activating c b).get g = s.get g := by
  rw [State.activating, State.get_setStage_other _ _ _ _ hg hupd, State.get_onCluster, State.zero, State.get_put_other _ _ _ _ hswitched,
    State.get_put_other _ _ _ _ hprev]

theorem State.seqState_activating (s : State) (c b q : Nat) : (s.activating c b).seqState q = s.seqState q := by
  have hkey : (R.SEQ_STAT.STATE q).key = 32 * (0xD1004 + 0x80 * q) + 30 := rfl
  refine s.get_activating c b (by omega) ?_ ?_ ?_ <;>
    simp only [hkey, R.USTORE_SEL.PREV, R.CS_STAT.SWITCHED, R.CS_STAT.UPD] <;> omega

theorem State.prev_activating (s : State) (c b : Nat) :
    (s.activating c b).get (R.USTORE_SEL.PREV c) = s.get (R.USTORE_SEL.BANK c) := by
  have hkp : (R.USTORE_SEL.PREV c).key = 32 * (0xD0010 + 0x100 * c) + 8 := rfl
  have hks : (R.CS_STAT.SWITCHED c).key = 32 * (0xD000C + 0x100 * c) + 8 := rfl
  have hku : (R.CS_STAT.UPD c).key = 32 * (0xD000C + 0x100 * c) + 24 := rfl
  rw [State.activating, State.get_setStage_other _ _ _ _ (by omega) (by omega), State.get_onCluster, State.zero,
    State.get_put_other _ _ _ _ (by omega), State.get_put_same]
  exact Nat.mod_eq_of_lt (State.get_lt _ (R.USTORE_SEL.BANK c))

theorem State.target_activating (s : State) (c b : Nat) : ((s.activating c b).cluster c).target = b := by
  rw [State.activating, State.cluster_congr (State.clusters_setStage ..), State.cluster_onCluster_same]

theorem does_csActivate (hc : c < 4) (hb : b = s.get (R.CS_CTL.BANK c)) (hverified : s.get (fBank c b) = 3)
    (hselected : s.bankSelected c b = false) (hupd : s.get (R.CS_STAT.UPD c) = 0) (hbusy : s.csBusy c = false)
    (hmode : s.curfewOrShutdown = false) (hformat : s.get (R.STATE_FMT.FMT_A c) = s.get (R.STATE_FMT.FMT_B c)) :
    Does (.csActivate c) s fun t => t.get (R.USTORE_SEL.PREV c) = s.get (R.USTORE_SEL.BANK c) ∧ (t.cluster c).target = b ∧
      t.get (R.CS_STAT.UPD c) = if (clusterSeqs c).any (fun q => s.seqState q == SQ.RUN) then 1 else 2 := by
  have hexec : exec (.csActivate c) s = .next ((s.activating c b).switchAll c fun _ => some b) := by
    subst hb
    simp [exec, execCsActivate, State.activating, Nat.not_le.mpr hc, hverified, hselected, hupd, hbusy, hmode, hformat]
  rw [does_iff hexec]
  have hswitched := Switched.switchAll (s.activating c b) c fun _ => some b
  refine ⟨?_, ?_, ?_⟩
  · rw [hswitched.get, s.prev_activating]
    · simp only [R.USTORE_SEL.PREV]
      omega
    · simp only [R.USTORE_SEL.PREV]
      omega
    · simp only [R.USTORE_SEL.PREV, R.USTORE_SEL.BANK, R.CS_STAT.SWITCHED, R.CS_STAT.UPD, R.CS_STAT.REVERTED, List.mem_cons,
        List.not_mem_nil, or_false, not_or]
      omega
  · rw [State.cluster_congr hswitched.clusters, s.target_activating]
  · rw [State.upd_switchAll (.inl ⟨rfl, rfl⟩) (State.get_setStage_same ..)]
    simp only [s.seqState_activating, Option.isSome_some, Bool.and_true]

/-- The way back, before any sequencer is asked to switch. -/
def State.goingBack (s : State) (c : Nat) (late : Bool) : State :=
  (s.onCluster c fun k => { k with late := late }).setStage c 3 (if late then 14 else 0)

theorem State.get_goingBack (s : State) (c : Nat) (late : Bool) {g : Field} (hg : 32 * 0xD0000 ≤ g.key) (hupd : g.key ≠ (R.CS_STAT.UPD c).key) :
    (s.goingBack c late).get g = s.get g := by
  rw [State.goingBack, State.get_setStage_other _ _ _ _ hg hupd, State.get_onCluster]

/-- Where a sequencer goes back to, if it has switched (R511). -/
def State.backTo (s : State) (c q : Nat) : Option Nat :=
  if bitAt (s.get (R.CS_STAT.SWITCHED c)) (q % 8) then some (bitsAt (s.get (R.USTORE_SEL.PREV c)) (q % 8) 1) else none

theorem State.csBack_eq (s : State) (c : Nat) (late : Bool) : s.csBack c late = (s.goingBack c late).switchAll c (s.backTo c) := rfl

theorem does_activateTimeout (hc : c < 4) (hupd : s.get (R.CS_STAT.UPD c) = 1) :
    Does (.activateTimeout c) s fun t => (t.get (R.CS_STAT.UPD c) = 3 ∨ t.get (R.CS_STAT.UPD c) = 0) ∧ t.get (R.CS_STAT.REJ c) = 1 ∧
      t.get (R.CS_STAT.REASON c) = 14 := by
  have hexec : exec (.activateTimeout c) s = .next ((s.csRefuse c 14).csBack c true) := by
    simp only [exec, execActivateTimeout, hc, hupd, and_self, if_true]
  rw [does_iff hexec, State.csBack_eq]
  have hswitched := Switched.switchAll ((s.csRefuse c 14).goingBack c true) c ((s.csRefuse c 14).backTo c)
  have hks : (R.CS_STAT.SWITCHED c).key = 32 * (0xD000C + 0x100 * c) + 8 := rfl
  have hku : (R.CS_STAT.UPD c).key = 32 * (0xD000C + 0x100 * c) + 24 := rfl
  have hkv : (R.CS_STAT.REVERTED c).key = 32 * (0xD000C + 0x100 * c) + 22 := rfl
  have hkb : (R.USTORE_SEL.BANK c).key = 32 * (0xD0010 + 0x100 * c) := rfl
  have hframe {g : Field} (hlo : 32 * (0xD000C + 0x100 * c) + 16 ≤ g.key) (hhi : g.key < 32 * (0xD000C + 0x100 * c) + 22) :
      (((s.csRefuse c 14).goingBack c true).switchAll c ((s.csRefuse c 14).backTo c)).get g = (s.csRefuse c 14).get g := by
    rw [hswitched.get g (by omega) (by omega), State.get_goingBack _ _ _ (by omega) (by omega)]
    simp only [List.mem_cons, List.not_mem_nil, or_false, not_or]
    omega
  refine ⟨?_, ?_, ?_⟩
  · rw [State.upd_switchAll (.inr ⟨rfl, rfl⟩) (State.get_setStage_same ..)]
    split
    · exact .inl rfl
    · exact .inr rfl
  · rw [hframe (by simp only [R.CS_STAT.REJ]; omega) (by simp only [R.CS_STAT.REJ]; omega), State.get_csRefuse_rej]
  · rw [hframe (by simp only [R.CS_STAT.REASON]; omega) (by simp only [R.CS_STAT.REASON]; omega), State.get_csRefuse_reason]

theorem LeavesRec.put {fs : List Field} {bs : List Nat} (h : LeavesRec s t fs bs) {f : Field} (hf : f ∈ fs) (v : Nat) :
    LeavesRec s (t.put f v) fs bs :=
  { h with regs := fun g hg hr => (State.get_put_other t f g v (hg f hf)).trans (h.regs g hg hr) }

theorem does_csConfirm (hc : c < 4) (hupd : s.get (R.CS_STAT.UPD c) = 2) (hmode : s.curfewOrShutdown = false) :
    Does (.csConfirm c) s fun t => t.get (R.CS_STAT.CONFIRMED c) = 1 ∧ t.get (R.CS_STAT.UPD c) = 0 ∧
      LeavesRec s t [R.CS_STAT.CONFIRMED c, R.CS_STAT.UPD c] [] := by
  have hexec : exec (.csConfirm c) s = .next ((s.raise (R.CS_STAT.CONFIRMED c)).setStage c 0 0) := by
    simp [exec, execCsConfirm, Nat.not_le.mpr hc, hupd, hmode]
  rw [does_iff hexec]
  have hkc : (R.CS_STAT.CONFIRMED c).key = 32 * (0xD000C + 0x100 * c) + 23 := rfl
  have hku : (R.CS_STAT.UPD c).key = 32 * (0xD000C + 0x100 * c) + 24 := rfl
  refine ⟨?_, State.get_setStage_same .., ?_⟩
  · rw [State.get_setStage_other _ _ _ _ (by omega) (by omega), State.get_raise_same]
    rfl
  · exact ((((Leaves.refl s _ _).raise (by simp)).toRec).put (by simp) 0).records (records_record (.refl _))

/-- With no sequencer switched, the way back is at its end at once (R511). -/
theorem State.csBack_of_unswitched (hswitched : s.get (R.CS_STAT.SWITCHED c) = 0) :
    s.csBack c false = (((s.goingBack c false).told c (s.backTo c)).raise (R.CS_STAT.REVERTED c)).setStage c 0 0 := by
  have hnone (q : Nat) : s.backTo c q = none := by
    rw [State.backTo, hswitched, bitAt_zero]
    rfl
  have hupd : ((s.goingBack c false).told c (s.backTo c)).get (R.CS_STAT.UPD c) = 3 := by
    rw [State.get_told]
    exact State.get_setStage_same ..
  have hlate : (((s.goingBack c false).told c (s.backTo c)).cluster c).late = false := by
    rw [State.cluster_congr (State.clusters_told ..), State.goingBack, State.cluster_congr (State.clusters_setStage ..),
      State.cluster_onCluster_same]
  have hswitching : ¬ (clusterSeqs c).any (fun q => (((s.goingBack c false).told c (s.backTo c)).seq q).switch.isSome) = true := by
    rw [List.any_eq_true]
    rintro ⟨q, hq, hsome⟩
    rw [State.switch_told _ hq, hnone] at hsome
    cases hsome
  rw [State.csBack_eq, State.switchAll_of_none hnone, State.updStep, if_neg hswitching, hupd, hlate,
    if_neg (by decide), if_pos rfl, if_neg Bool.false_ne_true, if_neg Bool.false_ne_true]

theorem State.get_csBack_of_unswitched (hswitched : s.get (R.CS_STAT.SWITCHED c) = 0) :
    (s.csBack c false).get (R.CS_STAT.UPD c) = 0 ∧ (s.csBack c false).get (R.CS_STAT.REVERTED c) = 1 := by
  have hkv : (R.CS_STAT.REVERTED c).key = 32 * (0xD000C + 0x100 * c) + 22 := rfl
  have hku : (R.CS_STAT.UPD c).key = 32 * (0xD000C + 0x100 * c) + 24 := rfl
  rw [State.csBack_of_unswitched hswitched, State.get_setStage_same, State.get_setStage_other _ _ _ _ (by omega) (by omega),
    State.get_raise_same]
  exact ⟨rfl, rfl⟩

theorem does_csRevert (hc : c < 4) (hupd : s.get (R.CS_STAT.UPD c) = 2) (hswitched : s.get (R.CS_STAT.SWITCHED c) = 0) :
    Does (.csRevert c) s fun t => t.get (R.CS_STAT.UPD c) = 0 ∧ t.get (R.CS_STAT.REVERTED c) = 1 := by
  have hexec : exec (.csRevert c) s = .next (s.csBack c false) := by
    simp [exec, execCsRevert, Nat.not_le.mpr hc, hupd]
  rw [does_iff hexec]
  exact State.get_csBack_of_unswitched hswitched

theorem does_confirmTimeout (hc : c < 4) (hupd : s.get (R.CS_STAT.UPD c) = 2) (hswitched : s.get (R.CS_STAT.SWITCHED c) = 0) :
    Does (.confirmTimeout c) s fun t => t.get (R.CS_STAT.UPD c) = 0 ∧ t.get (R.CS_STAT.REVERTED c) = 1 := by
  have hexec : exec (.confirmTimeout c) s = .next (s.csBack c false) := by
    simp only [exec, execConfirmTimeout, hc, hupd, and_self, if_true]
  rw [does_iff hexec]
  exact State.get_csBack_of_unswitched hswitched

/-! ## The window and bank selection (R507, R516) -/

/-- A bank from which only held sequencers would fetch is not selected. -/
theorem bankSelected_of_held (hheld : (clusterSeqs c).all (fun q => s.seqState q == SQ.HELD) = true) (b : Nat) : s.bankSelected c b = false := by
  rw [State.bankSelected, List.any_eq_false]
  intro q hq
  have hstate : s.seqState q = SQ.HELD := by simpa using List.all_eq_true.mp hheld q hq
  rw [hstate]
  simp [SQ.HELD, SQ.RUN, SQ.STOPPED]

/-- The lowest `n` words of 32 bits, put together again. -/
theorem sum_words (v n : Nat) : (List.range n).foldl (fun w j => w + 2 ^ (32 * j) * bitsAt v (32 * j) 32) 0 = v % 2 ^ (32 * n) := by
  induction n with
  | zero => simp [Nat.mod_one]
  | succ n ih =>
    rw [List.range_succ, List.foldl_append, ih, Nat.mul_succ, Nat.pow_add, Nat.mod_mul]
    rfl

/-- The word of a window write with nothing staged: the word's own low 160 bits below the new ones. -/
def windowWord (old v : Nat) : Nat := old % 2 ^ 160 + 2 ^ 160 * (v % 2 ^ 32)

theorem bitsAt_windowWord_high (old : Nat) {v : Nat} (hv : v < 2 ^ 32) : bitsAt (windowWord old v) 160 32 = v := by
  rw [bitsAt, windowWord, Nat.add_mul_div_left _ _ (Nat.two_pow_pos 160), Nat.div_eq_of_lt (Nat.mod_lt _ (Nat.two_pow_pos 160)), Nat.zero_add,
    Nat.mod_mod, Nat.mod_eq_of_lt hv]

theorem bitsAt_windowWord_low (old v : Nat) : bitsAt (windowWord old v) 0 160 = bitsAt old 0 160 := by
  rw [bitsAt, bitsAt, windowWord, Nat.pow_zero, Nat.div_one, Nat.div_one, Nat.add_mul_mod_self_left, Nat.mod_mod]

/-- Word `a` of bank `b` becomes `w`; the bank is checked no more. -/
def State.wordWritten (s : State) (c b a w : Nat) : State :=
  ({ s with staged := Sparse.clear s.staged (windowBase c b a) (windowBase c b a + 20) }.onBank c b
    fun k => { k with words := Sparse.putNorm 0 k.words a w, bad := k.bad.filter (· != a), whole := false }).setBank c b 2 0

theorem State.bank_wordWritten (s : State) (c b a w : Nat) : (s.wordWritten c b a w).bank c b =
    { s.bank c b with words := Sparse.putNorm 0 (s.bank c b).words a w, bad := (s.bank c b).bad.filter (· != a), whole := false } := by
  rw [State.wordWritten, State.bank_congr (State.banks_setBank ..), State.bank_onBank_same]
  rfl

theorem exec_csWindowWrite {a v : Nat} (hc : c < 4) (hb : b < 2) (ha : a < 32768) (hpower : s.clusterPowered c = true)
    (hbusy : s.csBusy c = false) (hheld : (clusterSeqs c).all (fun q => s.seqState q == SQ.HELD) = true) (hstaged : s.staged = []) :
    exec (.csWindowWrite c b a v) s = .next (s.wordWritten c b a (windowWord (Sparse.get 0 (s.bank c b).words a) v)) := by
  obtain ⟨hloading, hverifying⟩ : (s.cluster c).loading = none ∧ (s.cluster c).verifying = none := by
    simpa [State.csBusy] using hbusy
  have hlow (old : Nat) : (List.range 5).foldl
      (fun w j => w + 2 ^ (32 * j) * Sparse.get (bitsAt old (32 * j) 32) s.staged (windowBase c b a + 4 * j)) 0 = old % 2 ^ 160 := by
    rw [hstaged]
    exact sum_words old 5
  simp only [exec, execCsWindowWrite, hlow, hpower, hloading, hverifying, hheld, bankSelected_of_held hheld, Nat.not_le.mpr hc,
    Nat.not_le.mpr hb, Nat.not_le.mpr ha]
  simp [State.wordWritten, windowWord]

theorem does_csWindowWrite {a v : Nat} (hc : c < 4) (hb : b < 2) (ha : a < 32768) (hpower : s.clusterPowered c = true)
    (hbusy : s.csBusy c = false) (hheld : (clusterSeqs c).all (fun q => s.seqState q == SQ.HELD) = true) (hstaged : s.staged = [])
    (hv : v < 2 ^ 32) (hwords : (s.bank c b).words.rising = true) :
    Does (.csWindowWrite c b a v) s fun t => bitsAt (Sparse.get 0 (t.bank c b).words a) 160 32 = v ∧
      bitsAt (Sparse.get 0 (t.bank c b).words a) 0 160 = bitsAt (Sparse.get 0 (s.bank c b).words a) 0 160 ∧
      t.get (fBank c b) = 2 ∧ a ∉ (t.bank c b).bad := by
  rw [does_iff (exec_csWindowWrite hc hb ha hpower hbusy hheld hstaged), State.bank_wordWritten]
  refine ⟨?_, ?_, State.get_setBank_same .., by simp⟩
  · rw [Sparse.get_putNorm _ _ _ _ _ hwords, if_pos rfl, bitsAt_windowWord_high _ hv]
  · rw [Sparse.get_putNorm _ _ _ _ _ hwords, if_pos rfl, bitsAt_windowWord_low]

/-- Each bit taken in turn is replaced, no other. -/
theorem bitAt_foldl_setBit (v : Nat) (l : List Nat) (m i : Nat) :
    bitAt (l.foldl (fun m i => setBit m i (bitAt v i)) m) i = if i ∈ l then bitAt v i else bitAt m i := by
  induction l generalizing m with
  | nil => rfl
  | cons j l ih =>
    rw [List.foldl_cons, ih, bitAt_setBit]
    by_cases hj : i = j
    · simp [hj]
    · simp [hj]

/-- With all eight bits replaced the value is the new one. -/
theorem foldl_setBit_eq {v m : Nat} (hv : v < 256) (hm : m < 256) : (List.range 8).foldl (fun m i => setBit m i (bitAt v i)) m = v := by
  refine Nat.eq_of_testBit_eq fun i => ?_
  rw [← bitAt_eq_testBit, ← bitAt_eq_testBit, bitAt_foldl_setBit]
  split
  · rfl
  next hi =>
    have hpow : 2 ^ 8 ≤ 2 ^ i := Nat.pow_le_pow_right (by decide) (by simpa using hi)
    rw [bitAt_eq_testBit, bitAt_eq_testBit, Nat.testBit_lt_two_pow (by omega), Nat.testBit_lt_two_pow (by omega)]

theorem does_ustoreSelWrite (hc : c < 4) {v : Nat} (hv : v < 256)
    (hheld : ((List.range 8).all fun i => s.seqState (8 * c + i) == SQ.HELD) = true) :
    Does (.ustoreSelWrite c v) s fun t => t.get (R.USTORE_SEL.BANK c) = v ∧ Leaves s t [R.USTORE_SEL.BANK c] [] := by
  have hstate {i : Nat} (hi : i ∈ List.range 8) : (s.seqState (8 * c + i) == SQ.HELD) = true := List.all_eq_true.mp hheld i hi
  have hnew : (List.range 8).foldl (fun m i => if (s.seqState (8 * c + i) == SQ.HELD) = true then setBit m i (bitAt v i) else m)
      (s.get (R.USTORE_SEL.BANK c)) = v := by
    refine Eq.trans (List.foldl_rel (r := Eq) rfl fun i hi m m' hm => ?_) (foldl_setBit_eq hv (State.get_lt _ (R.USTORE_SEL.BANK c)))
    rw [if_pos (hstate hi), hm]
  have hkept : ¬ ((List.range 8).any fun i => !(s.seqState (8 * c + i) == SQ.HELD) &&
      bitAt v i != bitAt (s.get (R.USTORE_SEL.BANK c)) i) = true := by
    rw [List.any_eq_true]
    rintro ⟨i, hi, hlost⟩
    rw [hstate hi] at hlost
    cases hlost
  have hexec : exec (.ustoreSelWrite c v) s = .next (s.put (R.USTORE_SEL.BANK c) v) := by
    simp only [exec, execUstoreSelWrite, if_neg (Nat.not_le.mpr hc), hnew, if_neg hkept]
  rw [does_iff hexec]
  refine ⟨?_, (Leaves.refl s _ _).put (List.mem_singleton_self _) v⟩
  rw [State.get_put_same]
  exact Nat.mod_eq_of_lt hv

end

/-- Settles O45: a bank's registers show what a load or check found, since both reads of an image leave the control stores alone; and the
stage of an update is the earlier one exactly while a running sequencer still has its switch to make (`State.upd_switchAll`). -/
theorem controlStoreUpdates : Obligations.ControlStoreUpdates := by
  unfold Obligations.ControlStoreUpdates
  intro s c hc
  refine ⟨?load, ?loadDone, ?verify, ?verifyDone, ?activate, does_activateTimeout hc, does_csConfirm hc, does_csRevert hc,
    does_confirmTimeout hc, ?window, fun v => does_ustoreSelWrite hc⟩
  case load =>
    intro b hb hpower hbusy hselected hupd
    exact does_csLoad hc hb hpower hbusy hselected hupd
  case loadDone =>
    intro b seen head body k hloading _ hread hhead hrest himage
    exact does_csLoadDone hc hloading hread hhead hrest himage
  case verify =>
    intro b hb hpower hbusy hloaded
    exact does_csVerify hc hb hpower hbusy hloaded
  case verifyDone =>
    intro b hverifying _
    exact does_csVerifyDone hverifying
  case activate =>
    intro b hb hverified hselected hupd hbusy hmode hformat
    exact does_csActivate hc hb hverified hselected hupd hbusy hmode hformat
  case window =>
    intro b a v hb ha hpower hbusy hheld hstaged hv hwords
    exact does_csWindowWrite hc hb ha hpower hbusy hheld hstaged hv hwords

end Sys2Proof.Machine
end

section
/-!
SUPPORT. A decision of the angle tracker on a bay with nothing in hand: what the operations that follow it leave of the bay and of the
tracker's counts (R92, R93, R96, R97).
-/

namespace Sys2Proof.Machine

/-! ## The bay that a decision finds -/

/-- The part of a bay that the wedges a decision serves are read off: the wedge expected next, the armed events, the write path, the
calibration, and the scheduler's segment and gap. -/
structure Books where
  expectW : Nat
  events  : List TimelineEntry
  writing : WriteS
  cal     : CalS
  seg     : Option Work
  gap     : Nat

def Bay.books (b : Bay) : Books := ⟨b.tracker.expectW, b.tracker.events, b.writing, b.cal, b.sched.seg, b.sched.gap⟩

/-- The books of a bay with nothing in hand, whose tracker expects wedge `w`. -/
def idleBooks (w : Nat) : Books := ({ tracker := { expectW := w } } : Bay).books

/-- A spindle in no step of its start, with no overspeed counted and no back-EMF sampled. -/
structure Spin.Calm (p : Spin) : Prop where
  step    : p.step = 0
  overRun : p.overRun = 0
  keNum   : p.keNum = 0

/-- A focus part with no acquisition, jump or seek in progress and no slip remembered. -/
structure Focus.AtRest (f : Focus) : Prop where
  acq      : f.acq = .off
  jump     : f.jump = .off
  fine     : f.fine = .off
  seekTo   : f.seekTo = none
  coarseOn : f.coarseOn = false
  offRun   : f.offRun = 0
  slips    : f.slips = []

/-- A field other than the three that show what a decision was: `LAST_W`, `MISS_RUN` and `MISSED`. -/
def Field.BesideDecision (n : Nat) (f : Field) : Prop :=
  f.key ≠ (R.ANG_STAT.LAST_W n).key ∧ f.key ≠ (R.ANG_STAT.MISS_RUN n).key ∧ f.key ≠ (R.ANG_MISS.MISSED n).key

/-- Past the angle tracker's registers a field lies beside a decision's. -/
theorem Field.besideDecision_of_ge {n : Nat} {f : Field} (h : 32 * (0x1000100 + 0x10000 * n) ≤ f.key) : f.BesideDecision n := by
  simp only [Field.BesideDecision, R.ANG_STAT.LAST_W, R.ANG_STAT.MISS_RUN, R.ANG_MISS.MISSED]
  omega

/-- The other fields that a decision writes below those: the bay's state and the angle's own. -/
def decisionFields (n : Nat) : List Field :=
  [R.STATE.PREV n, R.STATE.STATE n, R.STATE.CHG_COUNT n, R.LINK_CTL.WITHDRAW n, R.ANG_STAT.STATE n, R.ANG_STAT.ALIGNED n, R.ANG_STAT.ACQ n,
    R.ANG_STAT.BRIDGE n, R.ANG_STAT.LAYER n, R.ANG_NOW.REV n, R.ANG_NOW.ANGLE n, R.ANG_RATE.RATE n, R.ANG_ERR.PEAK n, R.ANG_ERR.LAST n]

theorem Field.besideDecision_of_mem {n : Nat} {f : Field} (h : f ∈ decisionFields n) : f.BesideDecision n := by
  simp only [decisionFields, List.mem_cons, List.not_mem_nil, or_false] at h
  rcases h with rfl | rfl | rfl | rfl | rfl | rfl | rfl | rfl | rfl | rfl | rfl | rfl | rfl | rfl <;>
    simp only [Field.BesideDecision, R.STATE.PREV, R.STATE.STATE, R.STATE.CHG_COUNT, R.LINK_CTL.WITHDRAW, R.ANG_STAT.STATE,
      R.ANG_STAT.ALIGNED, R.ANG_STAT.ACQ, R.ANG_STAT.BRIDGE, R.ANG_STAT.LAYER, R.ANG_NOW.REV, R.ANG_NOW.ANGLE, R.ANG_RATE.RATE,
      R.ANG_ERR.PEAK, R.ANG_ERR.LAST, R.ANG_STAT.LAST_W, R.ANG_STAT.MISS_RUN, R.ANG_MISS.MISSED] <;>
    omega

/-- From `s`, where a decision has been counted, the rest of the command has come to `t`: bay `n` has nothing in hand and expects wedge
`w`, `A` holds of its spindle and `B` of its focus part, and the registers show the same decision. -/
structure Deciding (A : Spin → Prop) (B : Focus → Prop) (n w : Nat) (s t : State) : Prop where
  books   : (t.bay n).books = idleBooks w
  spin    : A (t.bay n).spin
  focus   : B (t.bay n).focus
  lastW   : t.get (R.ANG_STAT.LAST_W n) = s.get (R.ANG_STAT.LAST_W n)
  missRun : s.get (R.ANG_STAT.MISS_RUN n) = 0 → t.get (R.ANG_STAT.MISS_RUN n) = 0
  missed  : t.get (R.ANG_MISS.MISSED n) = s.get (R.ANG_MISS.MISSED n)

/-- Of a part of the bay nothing is asked. -/
def Anyhow {α : Type} (_ : α) : Prop := True

section
variable {A A' : Spin → Prop} {B B' : Focus → Prop} {n w : Nat} {s t : State} (h : Deciding A B n w s t)
include h

theorem Deciding.expectW : (t.bay n).tracker.expectW = w := congrArg Books.expectW h.books

theorem Deciding.events : (t.bay n).tracker.events = [] := congrArg Books.events h.books

theorem Deciding.writing : (t.bay n).writing = {} := congrArg Books.writing h.books

theorem Deciding.cal : (t.bay n).cal = {} := congrArg Books.cal h.books

theorem Deciding.seg : (t.bay n).sched.seg = none := congrArg Books.seg h.books

theorem Deciding.gap : (t.bay n).sched.gap = 0 := congrArg Books.gap h.books

theorem Deciding.mono (ha : ∀ p, A p → A' p) (hb : ∀ f, B f → B' f) : Deciding A' B' n w s t :=
  { h with spin := ha _ h.spin, focus := hb _ h.focus }

theorem Deciding.ite {u : State} {c : Prop} [Decidable c] (k : Deciding A B n w s u) : Deciding A B n w s (if c then t else u) := by
  split
  · exact h
  · exact k

/-! ## A write, a part of the bay, a record -/

theorem Deciding.put {f : Field} (hf : f.BesideDecision n) (v : Nat) : Deciding A B n w s (t.put f v) := by
  obtain ⟨hlast, hrun, hmissed⟩ := hf
  exact ⟨h.books, h.spin, h.focus, (State.get_put_other _ _ _ _ hlast.symm).trans h.lastW,
    fun hs => (State.get_put_other _ _ _ _ hrun.symm).trans (h.missRun hs), (State.get_put_other _ _ _ _ hmissed.symm).trans h.missed⟩

/-- What leaves the bay and every register of bay blocks as they are. -/
theorem Deciding.congr {u : State} (hbay : u.bay n = t.bay n) (hget : ∀ g : Field, g.recorder = false → u.get g = t.get g) :
    Deciding A B n w s u := by
  have hbeside {g : Field} (hg : 32 * 0x1000000 ≤ g.key) : u.get g = t.get g := hget g (Field.recorder_of_bayBlock hg)
  exact ⟨by rw [hbay]; exact h.books, by rw [hbay]; exact h.spin, by rw [hbay]; exact h.focus,
    (hbeside (by simp only [R.ANG_STAT.LAST_W]; omega)).trans h.lastW,
    fun hs => (hbeside (by simp only [R.ANG_STAT.MISS_RUN]; omega)).trans (h.missRun hs),
    (hbeside (by simp only [R.ANG_MISS.MISSED]; omega)).trans h.missed⟩

theorem Deciding.records {u : State} (k : Records t u) : Deciding A B n w s u :=
  h.congr (by rw [State.bay, State.bay, k.bays]) k.get

theorem Deciding.fresh (width : Nat) : Deciding A B n w s (t.fresh width).2 := h.congr rfl fun _ _ => rfl

theorem Deciding.roundOpen (num : Int) (den : Nat) : Deciding A B n w s (t.roundOpen num den).2 :=
  h.congr (t.bay_roundOpen num den n) fun g _ => t.get_roundOpen num den g

theorem Deciding.recordBay (code : Nat) (detail : List Nat) : Deciding A B n w s (t.recordBay n code detail) :=
  h.records (records_recordBay (Records.refl _))

theorem Deciding.emit (e : Emission) : Deciding A B n w s (t.emit e) := h.records (records_emit (Records.refl _))

theorem Deciding.setBay {b : Bay} (hbooks : b.books = (t.bay n).books) (hspin : A' b.spin) (hfocus : B' b.focus) :
    Deciding A' B' n w s (t.setBay n b) := by
  refine ⟨?_, ?_, ?_, h.lastW, h.missRun, h.missed⟩ <;> rw [State.bay_setBay_same]
  · exact hbooks.trans h.books
  · exact hspin
  · exact hfocus

theorem Deciding.onServo (f : Servo → Servo) : Deciding A B n w s (t.onServo n f) := h.setBay rfl h.spin h.focus

theorem Deciding.onRead (f : ReadS → ReadS) : Deciding A B n w s (t.onRead n f) := h.setBay rfl h.spin h.focus

theorem Deciding.onSpin {f : Spin → Spin} (hf : A' (f (t.bay n).spin)) : Deciding A' B n w s (t.onSpin n f) := h.setBay rfl hf h.focus

theorem Deciding.onFocus {f : Focus → Focus} (hf : B' (f (t.bay n).focus)) : Deciding A B' n w s (t.onFocus n f) :=
  h.setBay rfl h.spin hf

/-- A change of the tracker that keeps the wedge expected and arms nothing. -/
theorem Deciding.onTracker {f : Tracker → Tracker} (hwedge : ∀ k, (f k).expectW = k.expectW)
    (hevents : ∀ k, k.events = [] → (f k).events = []) : Deciding A B n w s (t.onTracker n f) := by
  refine h.setBay ?_ h.spin h.focus
  simp only [Bay.books, hwedge, hevents _ h.events, h.events]

theorem Deciding.attend : Deciding A B n w s (t.attend n) := h.setBay rfl h.spin h.focus

theorem Deciding.send (typ arg : Nat) (data : List (BitVec 64)) : Deciding A B n w s (t.send n typ arg data) := by
  unfold State.send
  dsimp only
  split
  · exact h
  · refine Deciding.emit (Deciding.setBay h ?_ ?_ ?_) _
    exacts [rfl, h.spin, h.focus]

/-! ## The loops (R119, R123) -/

theorem Deciding.infuseStop (k cause : Nat) : Deciding A B n w s (t.infuseStop n k cause) := by
  unfold State.infuseStop
  split
  · refine Deciding.ite (Deciding.setBay h ?_ ?_ ?_) h
    exacts [rfl, h.spin, h.focus]
  · exact h

theorem Deciding.setMan (k : Nat) (v : Int) : Deciding A B n w s (t.setMan n k v) :=
  h.put (Field.besideDecision_of_ge (by simp only [R.SRV_MAN.Q]; omega)) _

theorem Deciding.setLearn (b : Bool) : Deciding A B n w s (t.setLearn n b) :=
  h.put (Field.besideDecision_of_ge (by simp only [R.SRV_REP_CTL.LEARN]; omega)) _

theorem Deciding.setAuto (k : Nat) (b : Bool) : Deciding A B n w s (t.setAuto n k b) := by
  have hstopped : Deciding A B n w s ((t.setBitOf (R.SRV_CTL.AUTO n) k b).infuseStop n k 4) :=
    (h.put (Field.besideDecision_of_ge (by simp only [R.SRV_CTL.AUTO]; omega)) _).infuseStop k 4
  unfold State.setAuto
  exact Deciding.ite h (Deciding.ite hstopped (Deciding.ite (hstopped.setMan k _) hstopped))

theorem Deciding.offerSample (k : Nat) (x : Sample) : Deciding A B n w s (t.offerSample n k x) := by
  unfold State.offerSample
  exact Deciding.ite (h.onServo _) h

theorem Deciding.speedFactor : Deciding A B n w s (t.speedFactor n) := by
  unfold State.speedFactor
  exact Deciding.ite h (((h.roundOpen _ _).roundOpen _ _).onServo _)

theorem Deciding.wobble (ab : Int × Int) : Deciding A B n w s (t.wobble ab).2 := by
  unfold State.wobble
  split
  · exact h
  · exact h.roundOpen _ _

/-! ## The tracker (R94, R96) -/

theorem Deciding.setTracker (st : Nat) : Deciding A B n w s (t.setTracker n st) :=
  h.put (Field.besideDecision_of_mem (by simp [decisionFields])) st

/-- The end of a bridge clears `MISS_RUN`. -/
theorem Deciding.closeBridge : Deciding A B n w s (t.closeBridge n) := by
  have hbridge : Deciding A B n w s (t.zero (R.ANG_STAT.BRIDGE n)) :=
    h.put (Field.besideDecision_of_mem (by simp [decisionFields])) 0
  have hcleared : Deciding A B n w s ((t.zero (R.ANG_STAT.BRIDGE n)).zero (R.ANG_STAT.MISS_RUN n)) :=
    { hbridge with
      lastW := (State.get_put_other _ _ _ _ (by simp only [R.ANG_STAT.LAST_W, R.ANG_STAT.MISS_RUN]; omega)).trans hbridge.lastW
      missRun := fun _ => State.get_zero_same _ _
      missed := (State.get_put_other _ _ _ _ (by simp only [R.ANG_MISS.MISSED, R.ANG_STAT.MISS_RUN]; omega)).trans hbridge.missed }
  unfold State.closeBridge
  refine Deciding.ite (Deciding.onTracker hcleared ?_ ?_) h
  · exact fun _ => rfl
  · exact fun _ hk => hk

theorem Deciding.openBridge (wedges layer : Nat) : Deciding A B n w s (t.openBridge n wedges layer) := by
  unfold State.openBridge
  refine ((h.put ?_ 1).put ?_ layer).onTracker (fun _ => rfl) fun _ hk => hk <;>
    exact Field.besideDecision_of_mem (by simp [decisionFields])

theorem Deciding.alignedFall : Deciding A B n w s (t.alignedFall n) := by
  have hquiet : ¬ (t.bay n).tracker.events.any (fun e => e.cls != 0) = true := by simp [h.events]
  unfold State.alignedFall
  dsimp only
  rw [if_neg hquiet]
  refine ((h.put (Field.besideDecision_of_mem ?_) 0).put (Field.besideDecision_of_ge ?_) 0).onTracker (fun _ => rfl) fun k hk => ?_
  · simp [decisionFields]
  · simp only [R.SRV_STAT.DEF_HOLD]
    omega
  · simp [hk]

theorem Deciding.startAcq : Deciding A B n w s (t.startAcq n) := by
  unfold State.startAcq
  exact h.ite ((h.put (Field.besideDecision_of_mem (by simp [decisionFields])) 1).onTracker (fun _ => rfl) fun _ hk => hk)

theorem Deciding.dropEvents : Deciding A B n w s (t.dropEvents n) := by
  have hquiet : ¬ (t.bay n).tracker.events.any (fun e => e.cls != 0) = true := by simp [h.events]
  unfold State.dropEvents
  rw [if_neg hquiet]
  exact h

/-! ## The SA lens (R207 to R213) -/

theorem Deciding.setStepper (sa : Bool) (p : Stepper) : Deciding A B n w s (t.setStepper sa n p) := by
  cases sa <;> exact h.setBay rfl h.spin h.focus

theorem Deciding.stepArrive : Deciding A B n w s (t.stepArrive true n) := by
  unfold State.stepArrive
  refine ((((h.setStepper true _).put ?_ 1).put ?_ 0).put ?_ _) <;>
    refine Field.besideDecision_of_ge ?_ <;> simp only [fArrived, fGo, fMode, if_true, R.STEP_STAT.SA_ARRIVED, R.SA_TGT.GO, R.STEP_CTL.SA_MODE] <;>
    omega

theorem Deciding.putMode (m : Nat) : Deciding A B n w s (t.put (fMode true n) m) :=
  h.put (Field.besideDecision_of_ge (by simp only [fMode, if_true, R.STEP_CTL.SA_MODE]; omega)) m

theorem Deciding.stepPlan (target : Int) (vmax : Nat) : Deciding A B n w s (t.stepPlan true n target vmax) := by
  have hfinal {u : State} (hu : Deciding A B n w s u) : Deciding A B n w s (u.stepFinal true n) := by
    unfold State.stepFinal
    exact hu.stepArrive.ite (hu.setStepper true _)
  unfold State.stepPlan
  exact (hfinal ((h.setStepper true _).setStepper true _)).ite (h.setStepper true _)

theorem Deciding.stepRequest_move (target : Int) : Deciding A B n w s (t.stepRequest true n (.move target)) := by
  unfold State.stepRequest State.stepBegin
  exact (h.setStepper true _).ite ((h.setStepper true _).ite (((h.setStepper true _).putMode 2).stepPlan target _))

/-- A move of the SA lens. -/
theorem Deciding.stepGo_sa (target : Int) : Deciding A B n w s (t.stepGo true n target) := by
  have hclamped (detail : List Nat) : Deciding A B n w s ((t.raise (fLim true n)).recordBay n 0x0703 detail) :=
    (h.put (Field.besideDecision_of_ge (by simp only [fLim, if_true, R.STEP_STAT.SA_LIM]; omega)) 1).recordBay _ _
  have hgo {u : State} (hu : Deciding A B n w s u) (v : Nat) :
      Deciding A B n w s (((u.put (fPos true n) v).zero (fArrived true n)).raise (fGo true n)) := by
    refine (((hu.put ?_ v).put ?_ 0).put ?_ 1) <;>
      refine Field.besideDecision_of_ge ?_ <;> simp only [fArrived, fGo, fPos, if_true, R.STEP_STAT.SA_ARRIVED, R.SA_TGT.GO, R.SA_TGT.POS] <;>
      omega
  unfold State.stepGo
  dsimp only
  rw [if_pos rfl]
  exact (((hgo (h.ite (hclamped _)) _).setStepper true _).putMode 2).stepRequest_move _

end

end Sys2Proof.Machine
end

section
/-!
SUPPORT. The stages of a wedge decision on a bay with nothing in hand, in the order of the command (R17, R92 to R99, R110, R147, R157, R161,
R162, R191).
-/

namespace Sys2Proof.Machine

/-- A value that acts is at least the least that may act. -/
theorem State.le_acting (s : State) (f : Field) {lo hi : Nat} (h : lo ≤ hi) : lo ≤ s.acting f lo hi := by
  unfold State.acting clampNat
  split
  · exact Nat.le_refl lo
  · split <;> omega

section
variable {A : Spin → Prop} {B : Focus → Prop} {n w : Nat} {s t : State}

/-! ## The angle moves on (R92, R93, R96) -/

theorem Deciding.setAcc (h : Deciding A B n w s t) (at_ : Nat) (raw : Int) : Deciding A B n w s (t.setAcc n at_ raw) := by
  have hangle : (R.ANG_NOW.ANGLE n).BesideDecision n := Field.besideDecision_of_mem (by simp [decisionFields])
  have hrev : (R.ANG_NOW.REV n).BesideDecision n := Field.besideDecision_of_mem (by simp [decisionFields])
  have hmoved := (h.onTracker (f := fun k => { k with acc := (raw % (2 ^ 54 : Int)).toNat, at64 := at_ % instantMod })
    (fun _ => rfl) fun _ hk => hk).put hangle ((raw % (2 ^ 54 : Int)).toNat / 2 ^ 30)
  unfold State.setAcc
  dsimp only
  split
  · exact hmoved.put hrev _
  · exact hmoved

theorem Deciding.phaseUpdate (h : Deciding A B n w s t) (at_ : Nat) (phi : Int) (kp ki num den : Nat) :
    Deciding A B n w s (t.phaseUpdate n at_ phi kp ki num den) := by
  have hshown {u : State} (hu : Deciding A B n w s u) (v peak : Nat) (last : Int) :
      Deciding A B n w s (((u.put (R.ANG_RATE.RATE n) v).putS (R.ANG_ERR.LAST n) last).put (R.ANG_ERR.PEAK n) peak) := by
    refine ((hu.put ?_ v).put ?_ _).put ?_ peak <;> exact Field.besideDecision_of_mem (by simp [decisionFields])
  unfold State.phaseUpdate
  dsimp only
  split
  · exact hshown ((h.setAcc _ _).roundOpen _ _) ..
  · exact hshown (((h.setAcc _ _).roundOpen _ _).fresh 32) ..

/-- A wedge accepted begins a decision: the bay has moved on by the loop's update alone. -/
theorem Deciding.wedgeAccept (h : Deciding A B n w s t) (v tau now : Nat) :
    Deciding A B n w (t.wedgeAccept n v tau now) (t.wedgeAccept n v tau now) := by
  have hupdated := h.phaseUpdate now (wrap24 (16384 * (v : Int) - (t.angAt n tau : Int))) (t.wedgeShifts n).1 (t.wedgeShifts n).2 16384 1
  have hbay : (t.wedgeAccept n v tau now).bay n = (t.phaseUpdate n now (wrap24 (16384 * (v : Int) - (t.angAt n tau : Int)))
      (t.wedgeShifts n).1 (t.wedgeShifts n).2 16384 1).bay n := by
    simp [State.wedgeAccept, State.count, State.zero]
  exact ⟨by rw [hbay]; exact hupdated.books, by rw [hbay]; exact hupdated.spin, by rw [hbay]; exact hupdated.focus, rfl, id, rfl⟩

/-- A wedge missed begins a decision: the bay has moved on with the clock alone. -/
theorem Deciding.wedgeMiss (h : Deciding A B n w s t) (now : Nat) :
    Deciding A B n w ((t.runTo n now).wedgeMiss n) ((t.runTo n now).wedgeMiss n) := by
  have hrun : Deciding A B n w s (t.runTo n now) := h.setAcc now _
  have hbay : ((t.runTo n now).wedgeMiss n).bay n = (t.runTo n now).bay n := by
    unfold State.wedgeMiss
    dsimp only
    split <;> rfl
  exact ⟨by rw [hbay]; exact hrun.books, by rw [hbay]; exact hrun.spin, by rw [hbay]; exact hrun.focus, rfl, id, rfl⟩

theorem State.get_wedgeAccept (t : State) (n v tau now : Nat) :
    (t.wedgeAccept n v tau now).get (R.ANG_STAT.LAST_W n) = v % 1024 ∧ (t.wedgeAccept n v tau now).get (R.ANG_STAT.MISS_RUN n) = 0 := by
  unfold State.wedgeAccept
  refine ⟨State.get_put_same .., ?_⟩
  rw [State.get_put_other _ _ _ _ (by simp only [R.ANG_STAT.LAST_W, R.ANG_STAT.MISS_RUN]; omega), State.count,
    State.get_put_other _ _ _ _ (by simp only [R.ANG_STAT.GOOD_RUN, R.ANG_STAT.MISS_RUN]; omega), State.get_zero_same]

theorem State.get_wedgeMiss (t : State) (n : Nat) :
    (t.wedgeMiss n).get (R.ANG_MISS.MISSED n) = satAdd (R.ANG_MISS.MISSED n).width (t.get (R.ANG_MISS.MISSED n)) 1 := by
  have hcounted : ((t.count (R.ANG_MISS.MISSED n) 1).zero (R.ANG_STAT.GOOD_RUN n)).get (R.ANG_MISS.MISSED n) =
      satAdd (R.ANG_MISS.MISSED n).width (t.get (R.ANG_MISS.MISSED n)) 1 := by
    rw [State.zero, State.get_put_other _ _ _ _ (by simp only [R.ANG_STAT.GOOD_RUN, R.ANG_MISS.MISSED]; omega), State.get_count_same]
  unfold State.wedgeMiss
  dsimp only
  split
  · exact hcounted
  · rw [State.get_put_other _ _ _ _ (by simp only [R.ANG_STAT.MISS_RUN, R.ANG_MISS.MISSED]; omega), hcounted]

/-! ## The tracker's state after the decision (R96, R97) -/

theorem Deciding.acqComplete (h : Deciding A Focus.AtRest n w s t) : Deciding A Focus.AtRest n w s (t.acqComplete n) := by
  have hacq : (R.ANG_STAT.ACQ n).BesideDecision n := Field.besideDecision_of_mem (by simp [decisionFields])
  have hdone := ((h.setTracker 2).put hacq 0).onTracker (f := fun k => { k with candidate := false }) (fun _ => rfl) fun _ hk => hk
  unfold State.acqComplete
  refine hdone.onFocus ?_
  rw [if_neg]
  · exact hdone.focus
  · rw [hdone.focus.acq]
    decide

theorem Deciding.acceptState (h : Deciding A Focus.AtRest n w s t) : Deciding A Focus.AtRest n w s (t.acceptState n) := by
  unfold State.acceptState
  exact Deciding.ite (Deciding.ite (h.setTracker 2).acqComplete (h.setTracker 2)) (Deciding.ite h.acqComplete h)

/-! ## `LOST` and the recovery it begins (R96, R163) -/

theorem Deciding.abandonReads (h : Deciding A B n w s t) : Deciding A B n w s (t.abandonReads n) := by
  have hcounted (l : List Member) {u : State} (hu : Deciding A B n w s u) :
      Deciding A B n w s (l.foldl (fun s m => s.count (R.RC_MISC_CNT.ABANDON n m.beam) 1) u) := by
    induction l generalizing u with
    | nil => exact hu
    | cons m l ih => exact ih (hu.put (Field.besideDecision_of_ge (by simp only [R.RC_MISC_CNT.ABANDON]; omega)) _)
  unfold State.abandonReads
  exact ((hcounted _ h).onRead _).put (Field.besideDecision_of_ge (by simp only [R.RC_STAT.FRAMING]; omega)) 0

theorem Deciding.setBayState (h : Deciding A B n w s t) (new kind value : Nat) : Deciding A B n w s (t.setBayState n new kind value) := by
  have hshown (prev count : Nat) : Deciding A B n w s
      (((t.put (R.STATE.PREV n) prev).put (R.STATE.STATE n) new).put (R.STATE.CHG_COUNT n) count) :=
    ((h.put (Field.besideDecision_of_mem (by simp [decisionFields])) _).put (Field.besideDecision_of_mem (by simp [decisionFields])) _).put
      (Field.besideDecision_of_mem (by simp [decisionFields])) _
  have hattended (prev count : Nat) := Deciding.ite (c := new = BS.FAULT ∨ new = BS.BAY_CURFEW ∨ new = BS.DRAINING)
    (hshown prev count).attend (hshown prev count)
  unfold State.setBayState
  refine Deciding.ite h ((Deciding.recordBay ?_ _ _).records (records_trace (Records.refl _)))
  exact Deciding.ite ((hattended _ _).put (Field.besideDecision_of_mem (by simp [decisionFields])) 0) (hattended _ _)

theorem Deciding.acqStep1 (h : Deciding A B n w s t) : Deciding A Anyhow n w s (t.acqStep1 n) := by
  have hpowered : Deciding A B n w s (t.sendPower n 7 (t.on (R.LINK_STAT.LOFF n))) := by
    unfold State.sendPower
    refine Deciding.send (Deciding.setBay h ?_ ?_ ?_) _ _ _
    exacts [rfl, h.spin, h.focus]
  have hawaited := (hpowered.put (Field.besideDecision_of_ge (f := R.STEP_STAT.SA_ARRIVED n)
    (by simp only [R.STEP_STAT.SA_ARRIVED]; omega)) 0).onFocus (B' := Anyhow) (f := fun f => { f with acq := .saMove }) trivial
  unfold State.acqStep1
  exact Deciding.ite (Deciding.ite (hawaited.stepGo_sa _) hawaited) (h.onFocus trivial)

theorem Deciding.startFocusing (h : Deciding A B n w s t) (layer kind value : Nat) :
    Deciding A Anyhow n w s (t.startFocusing n layer kind value) := by
  have hdropped : Deciding A Anyhow n w s (t.dropMotion n) := h.onFocus trivial
  have hopened := (((((((hdropped.setBayState BS.FOCUSING kind value).setLearn false).setAuto 0 false).setAuto 1 false).setAuto 2 false).setMan
    1 0).setMan 2 0).onServo fun v => { v with rampOff := none }
  unfold State.startFocusing
  exact (hopened.onFocus (B' := Anyhow) trivial).acqStep1

/-- A bay with no calibration has none to drop. -/
theorem Deciding.dropCal_eq (h : Deciding A B n w s t) : t.dropCal n true = t := by
  simp [State.dropCal, h.cal]

/-- With no earlier entry remembered, this one is below `REC_MAX` (R163). -/
theorem Deciding.enterRecovery (h : Deciding A (fun f => f.recTimes = []) n w s t) (code layer : Nat) :
    Deciding A Anyhow n w s (t.enterRecovery n code false layer) := by
  have hentered := h.abandonReads
  rw [← hentered.dropCal_eq] at hentered
  have hstopped : Deciding A Anyhow n w s
      ((((((t.abandonReads n).dropCal n true).setBayState n BS.RECOVERY Why.event code).dropMotion n).setLearn n false).setAuto n 1 false) :=
    (((hentered.setBayState BS.RECOVERY Why.event code).onFocus (B' := Anyhow) trivial).setLearn false).setAuto 1 false
  have hkept {g : Focus → Focus} : Deciding A Anyhow n w s ((State.closeBridge (State.dropEvents
      ((((((t.abandonReads n).dropCal n true).setBayState n BS.RECOVERY Why.event code).dropMotion n).setLearn n false).setAuto n 1 false)
      n) n).onFocus n g) :=
    hstopped.dropEvents.closeBridge.onFocus trivial
  have hfirst : (t.bay n).focus.recTimes = [] := h.focus
  unfold State.enterRecovery
  simp only [hfirst, List.filter_nil, List.length_singleton]
  split
  · exact h.mono (fun _ => id) fun _ _ => trivial
  · rw [if_neg (Nat.not_lt.mpr (State.le_acting _ _ (by decide)))]
    exact Deciding.ite (hkept.startFocusing ..) (Deciding.ite (hkept.onFocus trivial) (hkept.startAcq.onFocus trivial))

theorem Deciding.angLost (h : Deciding A (fun f => f.recTimes = []) n w s t) : Deciding A Anyhow n w s (t.angLost n) := by
  have hlost (detail : List Nat) := ((((h.setTracker 4).closeBridge).alignedFall).recordBay 0x0301 detail).abandonReads
  unfold State.angLost
  exact Deciding.ite ((hlost _).startAcq.mono (fun _ => id) fun _ _ => trivial) ((hlost _).enterRecovery _ _)

theorem Deciding.missState (h : Deciding A (fun f => f.recTimes = []) n w s t) : Deciding A Anyhow n w s (t.missState n) := by
  have hanyhow {u : State} (hu : Deciding A (fun f => f.recTimes = []) n w s u) : Deciding A Anyhow n w s u :=
    hu.mono (fun _ => id) fun _ _ => trivial
  have hflywheel := Deciding.ite (c := t.get (R.ANG_STAT.STATE n) = 2) (h.setTracker 3) h
  unfold State.missState
  exact Deciding.ite (hanyhow h.alignedFall) (Deciding.ite hflywheel.angLost (hanyhow hflywheel))

/-! ## The loops' samples (R17, R99, R110, R184) -/

theorem Deciding.speedSample (h : Deciding Spin.Calm B n w s t) (om : Nat) : Deciding (·.keNum = 0) B n w s (t.speedSample n om) := by
  have hput {A : Spin → Prop} {u : State} (hu : Deciding A B n w s u) {f : Field}
      (hf : f = R.SPIN_RPM.RPM n ∨ f = R.SPIN_RPM.REF n ∨ f = R.SPIN_STAT.AT_SPEED n ∨ f = R.SPIN_STAT.WR_OK n) (v : Nat) :
      Deciding A B n w s (u.put f v) := by
    refine hu.put (Field.besideDecision_of_ge ?_) v
    rcases hf with rfl | rfl | rfl | rfl <;> simp only [R.SPIN_RPM.RPM, R.SPIN_RPM.REF, R.SPIN_STAT.AT_SPEED, R.SPIN_STAT.WR_OK] <;> omega
  have hshow {A : Spin → Prop} {u : State} (hu : Deciding A B n w s u) : Deciding A B n w s (u.showSpeed n) := by
    unfold State.showSpeed
    exact hput (hput ((hu.roundOpen _ _).roundOpen _ _) (by simp) _) (by simp) _
  have hflags {A : Spin → Prop} {u : State} (hu : Deciding A B n w s u) : Deciding A B n w s (u.speedFlags n) := by
    unfold State.speedFlags
    exact hput (hput hu (by simp) _) (by simp) _
  have hjudged {u v v' : State} (hu : Deciding (fun p => p.step = 0 ∧ p.overRun ≤ 1 ∧ p.keNum = 0) B n w s u) :
      Deciding (·.keNum = 0) B n w s (if 4 ≤ (u.bay n).spin.overRun then v
        else if (u.bay n).spin.step = 4 ∧ u.on (R.SPIN_STAT.AT_SPEED n) = true then v' else u) := by
    obtain ⟨hstep, hover, -⟩ := hu.spin
    rw [if_neg (by omega), if_neg (by omega)]
    exact hu.mono (fun _ hp => hp.2.2) fun _ => id
  unfold State.speedSample
  dsimp only
  refine hjudged (hflags (((hshow (h.onSpin ⟨h.spin.step, ?_, h.spin.keNum⟩)).roundOpen _ _).offerSample _ _))
  dsimp only
  rw [h.spin.overRun]
  split <;> omega

theorem Deciding.wedgeSamples (h : Deciding Spin.Calm B n w s t) (v : Nat) (q : Option Int) (accepted : Bool) :
    Deciding (·.keNum = 0) B n w s (t.wedgeSamples n v q accepted) := by
  have htilt {u : State} (hu : Deciding Spin.Calm B n w s u) (x : Sample) :
      Deciding Spin.Calm B n w s ((u.offerSample n 2 x).onServo n fun v => { v with tiltSum := 0, tiltNum := 0 }) :=
    (hu.offerSample 2 x).onServo _
  have hmean {u : State} (hu : Deciding Spin.Calm B n w s u) {c : Prop} [Decidable c] {x : Nat} {num : Int} {den : Nat} :
      Deciding Spin.Calm B n w s (if c then u.fresh 32 else (x, (u.roundOpen num den).2)).2 := by
    split
    · exact hu.fresh 32
    · exact hu.roundOpen num den
  have hspeed {u : State} (hu : Deciding Spin.Calm B n w s u) :
      Deciding (·.keNum = 0) B n w s (if v % 32 = 0 then u.speedSample n (rateOmega (u.get (R.ANG_RATE.RATE n))) else u) :=
    Deciding.ite (hu.speedSample _) (hu.mono (fun _ hp => hp.keNum) fun _ => id)
  unfold State.wedgeSamples
  dsimp only
  split
  · exact h.mono (fun _ hp => hp.keNum) fun _ => id
  · exact hspeed (Deciding.ite (htilt (hmean (h.offerSample 1 _)) _) (h.offerSample 1 _))

/-! ## The side beams and the track (R156, R157, R160 to R162) -/

/-- What a wedge's wobble on side beam `beam` brings. -/
def State.sideBeam (s : State) (n : Nat) (wob : List (Int × Int)) (beam : Nat) : State :=
  match (s.wobble (wob.getD beam (0, 0))).1 with
  | some q =>
    let s1 := (s.wobble (wob.getD beam (0, 0))).2
    let d := s1.radial n q
    let s2 := s1.putS (if beam = 0 then R.TRK_SIDE_OFS.D_I n else R.TRK_SIDE_OFS.D_O n) (d / 2 ^ 31)
    if s2.bitOf (R.SRV_CTL.AUTO n) 1 && !s2.on (R.ANG_STAT.BRIDGE n) then
      s2.sideCount n beam (decide (2 ^ 31 * (s2.acting (R.TRK_SIDE.SIDE_LIM n) 10 120 : Int) < d.natAbs)) (d / 2 ^ 31)
    else s2
  | none => (s.wobble (wob.getD beam (0, 0))).2

theorem State.sideWedge_eq (s : State) (n : Nat) (wob : List (Int × Int)) :
    s.sideWedge n wob = (s.sideBeam n wob 0).sideBeam n wob 2 := rfl

theorem Deciding.sideCount (h : Deciding A Focus.AtRest n w s t) (beam : Nat) (wide : Bool) (ofs : Int) :
    Deciding A Focus.AtRest n w s (t.sideCount n beam wide ofs) := by
  obtain ⟨hacq, hjump, hfine, hseek, hcoarse, hoff, hslips⟩ := h.focus
  have hcounted {c : Nat} : Deciding A Focus.AtRest n w s
      (t.onFocus n fun f => if beam = 0 then { f with sideI := c } else { f with sideO := c }) := by
    refine h.onFocus ?_
    split <;> exact ⟨hacq, hjump, hfine, hseek, hcoarse, hoff, hslips⟩
  unfold State.sideCount
  refine Deciding.ite (Deciding.recordBay (Deciding.put hcounted ?_ _) _ _) hcounted
  exact Field.besideDecision_of_ge (by simp only [R.TRK_FALLBACK.LAYERS]; omega)

theorem Deciding.sideBeam (h : Deciding A Focus.AtRest n w s t) (wob : List (Int × Int)) (beam : Nat) :
    Deciding A Focus.AtRest n w s (t.sideBeam n wob beam) := by
  have hofs : (if beam = 0 then R.TRK_SIDE_OFS.D_I n else R.TRK_SIDE_OFS.D_O n).BesideDecision n := by
    refine Field.besideDecision_of_ge ?_
    split <;> simp only [R.TRK_SIDE_OFS.D_I, R.TRK_SIDE_OFS.D_O] <;> omega
  have hshown := fun x => (h.wobble (wob.getD beam (0, 0))).put hofs x
  unfold State.sideBeam
  split
  · exact Deciding.ite ((hshown _).sideCount beam _ _) (hshown _)
  · exact h.wobble _

theorem Deciding.sideWedge (h : Deciding A Focus.AtRest n w s t) (wob : List (Int × Int)) :
    Deciding A Focus.AtRest n w s (t.sideWedge n wob) := by
  rw [State.sideWedge_eq]
  exact (h.sideBeam wob 0).sideBeam wob 2

theorem Deciding.readWedge (h : Deciding A B n w s t) (v : Nat) (d : List Int) : Deciding A B n w s (t.readWedge n v d) := by
  unfold State.readWedge State.onFrames
  exact (h.onRead _).onRead _

/-- With no slip remembered this one is followed by a jump back. -/
theorem Deciding.slip (h : Deciding A Focus.AtRest n w s t) (expected found : Int) : Deciding A Anyhow n w s (t.slip n expected found) := by
  have hgate : t.endGateRun n 4 = t := by simp [State.endGateRun, h.writing]
  have hback {u : State} (hu : Deciding A Anyhow n w s u) (d : Int) : Deciding A Anyhow n w s (u.fineJump n d) := by
    unfold State.fineJump
    exact Deciding.ite hu (hu.onFocus trivial)
  have hjudged {u v v' : State} {x d : Int} (hu : Deciding A (fun f => f.fineSlips = 0 ∧ f.slips = [0]) n w s u) :
      Deciding A Anyhow n w s (if 3 ≤ (u.bay n).focus.fineSlips then v else if 4 ≤ (u.bay n).focus.slips.length then v'
        else (u.onFocus n fun f => { f with expTrack := x }).fineJump n d) := by
    obtain ⟨hfine, hslips⟩ := hu.focus
    rw [if_neg (by omega), if_neg (by rw [hslips]; decide)]
    exact hback (hu.onFocus trivial) d
  have hcounted (detail : List Nat) : Deciding A Focus.AtRest n w s ((t.count (R.FT_COUNT.SLIP n) 1).recordBay n 0x0504 detail) :=
    (h.put (Field.besideDecision_of_ge (by simp only [R.FT_COUNT.SLIP]; omega)) _).recordBay _ _
  unfold State.slip State.recordFocus
  rw [hgate]
  refine hjudged ((hcounted _).onFocus ⟨?_, congrArg _ (hcounted _).focus.slips⟩)
  simp [h.focus.seekTo, h.focus.fine]

theorem Deciding.trackWedge (h : Deciding A Focus.AtRest n w s t) (v : Nat) (d : Option Int) (track : Int) :
    Deciding A Anyhow n w s (t.trackWedge n v d track) := by
  obtain ⟨hacq, hjump, hfine, -, hcoarse, hoff, -⟩ := h.focus
  have hshown : Deciding A Focus.AtRest n w s ((t.putS (R.FT_STAT.TRACK n) track).showWcal n) :=
    (h.put (Field.besideDecision_of_ge (by simp only [R.FT_STAT.TRACK]; omega)) _).put
      (Field.besideDecision_of_ge (by simp only [R.CAL_STAT.W_CAL]; omega)) _
  have hanyhow : Deciding A Anyhow n w s t := h.mono (fun _ => id) fun _ _ => trivial
  have hjudged {run : Nat} (hrun : run ≤ 1) {off : Bool} {v₁ v₂ v₃ : State} {f : Focus → Focus} :
      Deciding A Anyhow n w s (if 2 ≤ run then v₁
        else if (((((t.putS (R.FT_STAT.TRACK n) track).showWcal n).onFocus n f).gateRunning n) && off) = true then v₂
        else if (t.bay n).focus.acq = .tilt ∧ v % 16 = 0 then v₃ else ((t.putS (R.FT_STAT.TRACK n) track).showWcal n).onFocus n f) := by
    have hcounted : Deciding A Anyhow n w s (((t.putS (R.FT_STAT.TRACK n) track).showWcal n).onFocus n f) := hshown.onFocus trivial
    rw [if_neg (by omega), if_neg (by simp [State.gateRunning, hshown.writing]), if_neg (by simp [hacq])]
    exact hcounted
  have hone (c : Bool) : (if c then 0 + 1 else 0) ≤ 1 := by cases c <;> decide
  unfold State.trackWedge
  dsimp only
  rw [if_neg (by rw [hfine]; decide), if_neg (by simp [hacq, hjump, hcoarse])]
  split
  · refine Deciding.ite (hshown.slip _ _) (hjudged ?_)
    rw [hoff]
    exact hone _
  · exact hanyhow

/-! ## Bridges and fine jumps (R94, R156) -/

theorem Deciding.fineKick (h : Deciding A B n w s t) (d : Int) : Deciding A Anyhow n w s (t.fineKick n d) := by
  unfold State.fineKick
  exact ((((h.setLearn false).setAuto 1 false).openBridge _ _).setMan 1 _).onFocus trivial

/-! ## Gates, the turn of the disc and the segment (R162, R191, R299 to R301, R407) -/

theorem Deciding.readMiss (h : Deciding A B n w s t) (v : Nat) : Deciding A B n w s (t.readMiss n v) := by
  unfold State.readMiss State.onFrames
  exact h.onRead _

theorem Deciding.gateMiss_eq (h : Deciding A B n w s t) (v now : Nat) : t.gateMiss n v now = t := by
  simp [State.gateMiss, h.writing]

theorem Deciding.gateCommits_eq (h : Deciding A B n w s t) (v now : Nat) : t.gateCommits n v now = t := by
  simp [State.gateCommits, h.events]

theorem Deciding.gateRelease_eq (h : Deciding A B n w s t) (v : Nat) : t.gateRelease n v = t := by
  simp [State.gateRelease, h.writing]

/-- With no back-EMF sampled a revolution averages none. -/
theorem Deciding.keRevolution (h : Deciding (·.keNum = 0) B n w s t) : Deciding (·.keNum = 0) B n w s (t.keRevolution n) := by
  have hnone : (t.bay n).spin.keNum = 0 := h.spin
  unfold State.keRevolution
  dsimp only
  rw [if_pos (.inr (.inl hnone))]
  exact h.onSpin rfl

theorem Deciding.gapRevolution_eq (h : Deciding A B n w s t) : t.gapRevolution n = t := by
  simp [State.gapRevolution, h.gap]

theorem Deciding.wedgeZero (h : Deciding (·.keNum = 0) B n w s t) (v : Nat) : Deciding (·.keNum = 0) Anyhow n w s (t.wedgeZero n v) := by
  have haged : Deciding (·.keNum = 0) Anyhow n w s
      (t.onFocus n fun f => { f with slips := (f.slips.map (· + 1)).filter (· < 1024) }) := h.onFocus trivial
  have hturned : Deciding (·.keNum = 0) Anyhow n w s
      (((t.onFocus n fun f => { f with slips := (f.slips.map (· + 1)).filter (· < 1024) }).keRevolution n).onSched n fun c =>
        { c with revs := if c.begun && !c.writes then c.revs + 1 else c.revs }) := by
    refine Deciding.setBay haged.keRevolution ?_ ?_ ?_
    exacts [rfl, haged.keRevolution.spin, trivial]
  unfold State.wedgeZero
  refine Deciding.ite ?_ haged
  dsimp only
  rw [hturned.gapRevolution_eq]
  exact hturned

theorem Deciding.segmentPoll_eq (h : Deciding A B n w s t) : t.segmentPoll n = t := by
  have hbatch : t.acting (R.WR_CTL.RELOC_BATCH n) 1 32 ≠ 0 := Nat.ne_of_gt (State.le_acting _ _ (by decide))
  simp [State.segmentPoll, State.runHere, State.armWrites, h.writing, h.seg, hbatch]

end

end Sys2Proof.Machine
end

section
/-!
PROOF. The angle tracker's events: wedges detected and decided, teeth, the time limit of acquisition and the end of a bridge (R89, R92 to R97):
settles O16.
-/

namespace Sys2Proof.Machine

variable {s : State} {n : Nat}

@[simp] theorem State.get_onTracker (s : State) (n : Nat) (f : Tracker → Tracker) (g : Field) : (s.onTracker n f).get g = s.get g := rfl

@[simp] theorem State.bay_onTracker_same (s : State) (n : Nat) (f : Tracker → Tracker) :
    (s.onTracker n f).bay n = { s.bay n with tracker := f (s.bay n).tracker } :=
  State.bay_setBay_same ..

theorem Leaves.onTracker {t : State} {fs : List Field} {bs : List Nat} (h : Leaves s t fs bs) (hn : n ∈ bs) (f : Tracker → Tracker) :
    Leaves s (t.onTracker n f) fs bs :=
  h.setBay hn _

/-! ## Detections (R92, R97) -/

/-- A detection seen, counted if acquisition is in progress. -/
def State.detected (s : State) (n : Nat) : State :=
  s.onTracker n fun k => { k with detSeen := if s.on (R.ANG_STAT.ACQ n) then k.detSeen + 1 else k.detSeen }

/-- Without a probe in progress a detection is only seen. -/
theorem State.probeDetection_of_idle (hprobe : (s.bay n).focus.probing = false) (layer : Nat) : s.probeDetection n layer = s := by
  simp [State.probeDetection, hprobe]

theorem exec_wedgeDetection (hn : n < s.variant.bays) (tau bits : Nat) (wob : List (Int × Int))
    (haligned : s.on (R.ANG_STAT.ALIGNED n) = false) (hprobe : (s.bay n).focus.probing = false) :
    exec (.wedgeDetection n tau bits wob) s = .next (if s.on (R.ANG_STAT.ACQ n) = true ∧ (decodeWedge bits).parity = true ∧
        (decodeWedge bits).layer = s.get (R.ANG_STAT.LAYER n) then
      (s.detected n).takeCandidate n (decodeWedge bits).wedge tau tau else (s.detected n).count (R.ANG_MISS.FALSE n) 1) := by
  have harm : exec (.wedgeDetection n tau bits wob) s = execWedgeDetection n tau bits wob s := rfl
  have hon (g : Field) : (s.detected n).on g = s.on g := rfl
  have hget (g : Field) : (s.detected n).get g = s.get g := rfl
  rw [harm, execWedgeDetection, State.onBay_of_present hn]
  have hseen : (s.onTracker n fun k => { k with detSeen := if s.on (R.ANG_STAT.ACQ n) then k.detSeen + 1 else k.detSeen }) = s.detected n :=
    rfl
  simp only [State.probeDetection_of_idle hprobe, ite_self, hseen, hon, hget, haligned]
  by_cases hacq : s.on (R.ANG_STAT.ACQ n) = true
  · simp [hacq]
  · simp [hacq]

/-- The candidate of an acquisition (R97 step 1). -/
theorem State.takeCandidate_takes (s : State) (n v tau now : Nat) : (s.takeCandidate n v tau now).get (R.ANG_STAT.ALIGNED n) = 1 ∧
    ((s.takeCandidate n v tau now).bay n).tracker.candidate = true ∧ (s.takeCandidate n v tau now).get (R.ANG_STAT.GOOD_RUN n) = 1 ∧
      (s.takeCandidate n v tau now).get (R.ANG_STAT.MISS_RUN n) = 0 ∧
      (s.takeCandidate n v tau now).get (R.ANG_STAT.LAST_W n) = v % 1024 ∧
      ((s.takeCandidate n v tau now).bay n).tracker.expectW = (v + 1) % 1024 := by
  unfold State.takeCandidate
  refine ⟨?_, by simp [State.raise, State.zero], ?_, ?_, ?_, by simp [State.raise, State.zero]⟩ <;>
    simp (disch := simp only [R.ANG_STAT.ALIGNED, R.ANG_STAT.GOOD_RUN, R.ANG_STAT.MISS_RUN, R.ANG_STAT.LAST_W, R.ANG_NOW.ANGLE]; omega) only
      [State.raise, State.zero, State.get_put_same, State.get_put_other] <;>
    rfl

theorem does_wedgeDetection_candidate (hn : n < s.variant.bays) (tau bits : Nat) (wob : List (Int × Int))
    (hacq : s.on (R.ANG_STAT.ACQ n) = true) (haligned : s.on (R.ANG_STAT.ALIGNED n) = false)
    (hprobe : (s.bay n).focus.probing = false) (hparity : (decodeWedge bits).parity = true)
    (hlayer : (decodeWedge bits).layer = s.get (R.ANG_STAT.LAYER n)) :
    Does (.wedgeDetection n tau bits wob) s fun t => t.get (R.ANG_STAT.ALIGNED n) = 1 ∧ (t.bay n).tracker.candidate = true ∧
      t.get (R.ANG_STAT.GOOD_RUN n) = 1 ∧ t.get (R.ANG_STAT.MISS_RUN n) = 0 ∧
      t.get (R.ANG_STAT.LAST_W n) = (decodeWedge bits).wedge % 1024 ∧
      (t.bay n).tracker.expectW = ((decodeWedge bits).wedge + 1) % 1024 := by
  rw [does_iff (exec_wedgeDetection hn tau bits wob haligned hprobe), if_pos ⟨hacq, hparity, hlayer⟩]
  exact State.takeCandidate_takes ..

theorem does_wedgeDetection_false (hn : n < s.variant.bays) (tau bits : Nat) (wob : List (Int × Int))
    (hacq : s.on (R.ANG_STAT.ACQ n) = false) (haligned : s.on (R.ANG_STAT.ALIGNED n) = false)
    (hprobe : (s.bay n).focus.probing = false) :
    Does (.wedgeDetection n tau bits wob) s fun t =>
      t.get (R.ANG_MISS.FALSE n) = satAdd (R.ANG_MISS.FALSE n).width (s.get (R.ANG_MISS.FALSE n)) 1 ∧
      Leaves s t [R.ANG_MISS.FALSE n] [n] := by
  rw [does_iff (exec_wedgeDetection hn tau bits wob haligned hprobe), if_neg (by simp [hacq])]
  exact ⟨State.get_count_same .., ((Leaves.refl s _ _).onTracker (by simp) _).put (by simp) _⟩

/-! ## Decisions (R92, R93, R96) -/

/-- The wedge expected is the next one, and no detection is held. -/
def State.windowClosed (s : State) (n : Nat) : State :=
  s.onTracker n fun k => { k with hit := none, expectW := ((s.bay n).tracker.expectW + 1) % 1024, bridge := k.bridge - 1 }

/-- Before a decision a bay whose other hidden state is that of reset has nothing in hand. -/
theorem deciding_windowClosed {k : Tracker} (hbay : s.bay n = { tracker := k }) (hevents : k.events = []) :
    Deciding Spin.Calm (fun f => f.AtRest ∧ f.recTimes = []) n ((k.expectW + 1) % 1024) (s.windowClosed n) (s.windowClosed n) := by
  have hclosed : (s.windowClosed n).bay n =
      { tracker := { k with hit := none, expectW := (k.expectW + 1) % 1024, bridge := k.bridge - 1 } } := by
    simp [State.windowClosed, hbay]
  refine ⟨?_, ?_, ?_, rfl, id, rfl⟩ <;> rw [hclosed]
  · simp [Bay.books, idleBooks, hevents]
  · exact ⟨rfl, rfl, rfl⟩
  · exact ⟨⟨rfl, rfl, rfl, rfl, rfl, rfl, rfl⟩, rfl⟩

/-- The end of a decision changes none of the books. -/
theorem Deciding.decisionEnd {B : Focus → Prop} {w : Nat} {t : State} (h : Deciding (·.keNum = 0) B n w s t) (v now : Nat) :
    Deciding (·.keNum = 0) Anyhow n w s ((((t.gateCommits n v now).gateRelease n v).wedgeZero n v).segmentPoll n) := by
  rw [h.gateCommits_eq, h.gateRelease_eq, (h.wedgeZero v).segmentPoll_eq]
  exact h.wedgeZero v

/-- All that follows a miss keeps the bay's books and the count as the miss left them. -/
theorem exec_wedgeDecision_missed (hn : n < s.variant.bays) (haligned : s.on (R.ANG_STAT.ALIGNED n) = true) {k : Tracker}
    (hbay : s.bay n = { tracker := k }) (hhit : k.hit = none) (hevents : k.events = []) (now : Nat) :
    ∃ t, exec (.wedgeDecision n now) s = .next t ∧
      Deciding (·.keNum = 0) Anyhow n ((k.expectW + 1) % 1024) (((s.windowClosed n).runTo n now).wedgeMiss n) t := by
  have harm : exec (.wedgeDecision n now) s = execWedgeDecision n now s := rfl
  have hnone : (s.bay n).tracker.hit = none := by rw [hbay]; exact hhit
  have hmissed := ((deciding_windowClosed hbay hevents).mono (fun _ => id) fun _ hf => hf.2).wedgeMiss now
  have hsampled := hmissed.missState.speedFactor.wedgeSamples (s.bay n).tracker.expectW none false
  have hended {u : State} (hu : Deciding (·.keNum = 0) Anyhow n ((k.expectW + 1) % 1024) (((s.windowClosed n).runTo n now).wedgeMiss n) u)
      (v : Nat) : Deciding (·.keNum = 0) Anyhow n ((k.expectW + 1) % 1024) (((s.windowClosed n).runTo n now).wedgeMiss n)
        ((((((u.gateMiss n v now).readMiss n v).gateCommits n v now).gateRelease n v).wedgeZero n v).segmentPoll n) := by
    rw [hu.gateMiss_eq]
    exact (hu.readMiss v).decisionEnd v now
  rw [harm, execWedgeDecision, State.onBay_of_present hn]
  refine ⟨_, rfl, ?_⟩
  simp only [haligned, hnone, Bool.not_true, Bool.false_eq_true, if_false]
  refine hended (Deciding.ite (Deciding.fineKick (B := Anyhow) ?_ _) ?_) _
  · exact Deciding.ite (hsampled.setAuto 1 true) hsampled
  · exact Deciding.ite (hsampled.setAuto 1 true) hsampled

/-- All that follows a detection taken keeps the bay's books and the tracker's registers as the wedge accepted left them. -/
theorem exec_wedgeDecision_taken (hn : n < s.variant.bays) (haligned : s.on (R.ANG_STAT.ALIGNED n) = true) {k : Tracker}
    (hbay : s.bay n = { tracker := k }) {h : Detection} (hhit : k.hit = some h) (hevents : k.events = []) (now : Nat) :
    ∃ t, exec (.wedgeDecision n now) s = .next t ∧
      Deciding (·.keNum = 0) Anyhow n ((k.expectW + 1) % 1024) ((s.windowClosed n).wedgeAccept n k.expectW h.tau now) t := by
  have harm : exec (.wedgeDecision n now) s = execWedgeDecision n now s := rfl
  have hsome : (s.bay n).tracker.hit = some h := by rw [hbay]; exact hhit
  have hwedge : (s.bay n).tracker.expectW = k.expectW := by rw [hbay]
  have haccepted := ((deciding_windowClosed hbay hevents).mono (fun _ => id) fun _ hf => hf.1).wedgeAccept k.expectW h.tau now
  rw [← hwedge] at haccepted ⊢
  have hside (q : Option Int) := (((haccepted.acceptState.speedFactor.wobble (h.wob.getD 1 (0, 0))).wedgeSamples (s.bay n).tracker.expectW q
    true).sideWedge h.wob)
  rw [harm, execWedgeDecision, State.onBay_of_present hn]
  refine ⟨_, rfl, ?_⟩
  simp only [haligned, hsome, Bool.not_true, Bool.false_eq_true, if_false]
  refine Deciding.decisionEnd (Deciding.ite (Deciding.fineKick (B := Anyhow) ?_ _) ?_) _ now
  · exact ((hside _).readWedge _ _).trackWedge _ _ _
  · exact ((hside _).readWedge _ _).trackWedge _ _ _

theorem does_wedgeDecision_missed (hn : n < s.variant.bays) (k : Tracker) (now : Nat) (haligned : s.on (R.ANG_STAT.ALIGNED n) = true)
    (hbay : s.bay n = { tracker := k }) (hhit : k.hit = none) (hevents : k.events = []) :
    Does (.wedgeDecision n now) s fun t => (t.bay n).tracker.expectW = (k.expectW + 1) % 1024 ∧
      t.get (R.ANG_MISS.MISSED n) = satAdd (R.ANG_MISS.MISSED n).width (s.get (R.ANG_MISS.MISSED n)) 1 := by
  have hopen := (deciding_windowClosed hbay hevents).mono (fun _ => id) fun _ hf => hf.2
  have hclock : ((s.windowClosed n).runTo n now).get (R.ANG_MISS.MISSED n) = s.get (R.ANG_MISS.MISSED n) := (hopen.setAcc now _).missed
  obtain ⟨t, hexec, hserved⟩ := exec_wedgeDecision_missed hn haligned hbay hhit hevents now
  rw [does_iff hexec]
  exact ⟨hserved.expectW, by rw [hserved.missed, State.get_wedgeMiss, hclock]⟩

theorem does_wedgeDecision_taken (hn : n < s.variant.bays) (k : Tracker) (h : Detection) (now : Nat)
    (haligned : s.on (R.ANG_STAT.ALIGNED n) = true) (hbay : s.bay n = { tracker := k }) (hhit : k.hit = some h) (hevents : k.events = [])
    (hwedge : k.expectW < 1024) :
    Does (.wedgeDecision n now) s fun t => (t.bay n).tracker.expectW = (k.expectW + 1) % 1024 ∧ t.get (R.ANG_STAT.LAST_W n) = k.expectW ∧
      t.get (R.ANG_STAT.MISS_RUN n) = 0 := by
  have hopen := (deciding_windowClosed hbay hevents).mono (fun _ => id) fun _ hf => hf.1
  obtain ⟨hlast, hrun⟩ := (s.windowClosed n).get_wedgeAccept n k.expectW h.tau now
  obtain ⟨t, hexec, hserved⟩ := exec_wedgeDecision_taken hn haligned hbay hhit hevents now
  rw [does_iff hexec]
  exact ⟨hserved.expectW, hserved.lastW.trans (hlast.trans (Nat.mod_eq_of_lt hwedge)), hserved.missRun hrun⟩

/-! ## Teeth (R95) -/

/-- No tooth agrees or disagrees with a forced angle outside the start's second step. -/
theorem State.observerTooth_of_phase (hphase : s.get (R.SPIN_STAT.PHASE n) ≠ 2) (agrees : Bool) : s.observerTooth n agrees = s := by
  simp [State.observerTooth, hphase]

theorem does_toothReport_first (hn : n < s.variant.bays) (tau : Nat) (agrees : Bool) (hstate : s.get (R.ANG_STAT.STATE n) = 0)
    (hfirst : (s.bay n).tracker.seekTeeth = 0) (hphase : s.get (R.SPIN_STAT.PHASE n) ≠ 2) :
    Does (.toothReport n tau agrees) s fun t => (t.bay n).tracker.seekTeeth = 1 ∧ (t.bay n).tracker.toothAt = tau % 2 ^ 38 ∧
      Leaves s t [] [n] := by
  have harm : exec (.toothReport n tau agrees) s = execToothReport n tau agrees s := rfl
  have hseek : s.toothSeek n tau = s.onTracker n fun k => { k with seekTeeth := 1, toothAt := tau % instantMod } := by
    simp only [State.toothSeek, if_pos hfirst]
  have hexec : exec (.toothReport n tau agrees) s =
      .next (s.onTracker n fun k => { k with seekTeeth := 1, toothAt := tau % instantMod }) := by
    rw [harm, execToothReport, State.onBay_of_present hn]
    simp only [State.observerTooth_of_phase hphase, hstate, hseek, State.get_onTracker, if_true]
    rfl
  rw [does_iff hexec]
  exact ⟨by simp, by simp [instantMod], (Leaves.refl s _ _).onTracker (by simp) _⟩

theorem does_toothReport_short (hn : n < s.variant.bays) (tau : Nat) (agrees : Bool) (hstate : s.get (R.ANG_STAT.STATE n) = 1)
    (hphase : s.get (R.SPIN_STAT.PHASE n) ≠ 2)
    (hshort : toothClass (s.get (R.ANG_RATE.RATE n)) (elapsed (s.bay n).tracker.toothAt tau) = 0) :
    Does (.toothReport n tau agrees) s fun t =>
      t.get (R.ANG_TOOTH.SHORT n) = satAdd (R.ANG_TOOTH.SHORT n).width (s.get (R.ANG_TOOTH.SHORT n)) 1 ∧
      Leaves s t [R.ANG_TOOTH.SHORT n] [n] := by
  have harm : exec (.toothReport n tau agrees) s = execToothReport n tau agrees s := rfl
  have hjudge : State.toothJudge n tau 8 s = s.count (R.ANG_TOOTH.SHORT n) 1 := by simp only [State.toothJudge, hshort]
  have hexec : exec (.toothReport n tau agrees) s = .next (s.count (R.ANG_TOOTH.SHORT n) 1) := by
    rw [harm, execToothReport, State.onBay_of_present hn]
    simp only [State.observerTooth_of_phase hphase, hstate, hjudge]
    rfl
  rw [does_iff hexec]
  exact ⟨State.get_count_same .., (Leaves.refl s _ _).put (by simp) _⟩

/-- While it is not aligned the counter turns without counting revolutions. -/
theorem State.runTo_of_unaligned (haligned : s.on (R.ANG_STAT.ALIGNED n) = false) (now : Nat) : ∃ acc at_,
    s.runTo n now = (s.onTracker n fun k => { k with acc := acc, at64 := at_ }).put (R.ANG_NOW.ANGLE n) (acc / 2 ^ 30) :=
  ⟨_, _, by simp only [State.runTo, State.setAcc, haligned, Bool.false_eq_true, if_false]; rfl⟩

theorem does_toothSynthesis (hn : n < s.variant.bays) (now : Nat) (hstate : s.get (R.ANG_STAT.STATE n) = 1)
    (haligned : s.on (R.ANG_STAT.ALIGNED n) = false) (hsynth : (s.bay n).tracker.synth < 3) :
    Does (.toothSynthesis n now) s fun t =>
      t.get (R.ANG_TOOTH.SYNTH n) = satAdd (R.ANG_TOOTH.SYNTH n).width (s.get (R.ANG_TOOTH.SYNTH n)) 1 ∧
      (t.bay n).tracker.synth = (s.bay n).tracker.synth + 1 ∧ Leaves s t [R.ANG_TOOTH.SYNTH n, R.ANG_NOW.ANGLE n] [n] := by
  have harm : exec (.toothSynthesis n now) s = execToothSynthesis n now s := rfl
  obtain ⟨acc, at_, hrun⟩ := State.runTo_of_unaligned haligned now
  have hbay : (((s.runTo n now).toothInsert n).bay n).tracker.synth = (s.bay n).tracker.synth + 1 := by
    rw [hrun]
    simp [State.toothInsert, State.count]
  have hexec : exec (.toothSynthesis n now) s = .next ((s.runTo n now).toothInsert n) := by
    rw [harm, execToothSynthesis, State.onBay_of_present hn]
    simp only [hstate, State.toothMissing, hbay]
    rw [if_neg (by decide), if_neg (by omega)]
  rw [does_iff hexec]
  refine ⟨?_, hbay, ?_⟩
  · rw [State.toothInsert, State.get_onTracker, State.get_count_same, hrun,
      State.get_put_other _ _ _ _ (by simp only [R.ANG_TOOTH.SYNTH, R.ANG_NOW.ANGLE]; omega), State.get_onTracker]
  · rw [hrun]
    exact ((((Leaves.refl s _ _).onTracker (by simp) _).put (by simp) _).put (by simp) _).onTracker (by simp) _

/-! ## The time limit of acquisition and the end of a bridge (R94, R97) -/

theorem State.get_alignedFall (t : State) (n : Nat) : (t.alignedFall n).get (R.ANG_STAT.ALIGNED n) = 0 ∧
    ((t.alignedFall n).bay n).tracker.candidate = false ∧ (t.alignedFall n).variant = t.variant ∧
      ∀ g : Field, g.key ≠ (R.ANG_STAT.ALIGNED n).key → g.key ≠ (R.SRV_STAT.DEF_HOLD n).key → (t.alignedFall n).get g = t.get g := by
  have hapart : (R.ANG_STAT.ALIGNED n).key ≠ (R.SRV_STAT.DEF_HOLD n).key := by
    simp only [R.ANG_STAT.ALIGNED, R.SRV_STAT.DEF_HOLD]
    omega
  unfold State.alignedFall
  dsimp only
  refine ⟨?_, by simp, ?_, fun g haligned hhold => ?_⟩
  · rw [State.get_onTracker, State.zero, State.get_put_other _ _ _ _ hapart, State.get_zero_same]
  · split <;> rfl
  · rw [State.get_onTracker, State.zero, State.get_put_other _ _ _ _ hhold, State.zero, State.get_put_other _ _ _ _ haligned]
    split <;> rfl

/-- The time limit as recorded: acquisition is over, and its candidate is still held. -/
def State.acqOver (s : State) (n : Nat) : State :=
  (s.zero (R.ANG_STAT.ACQ n)).recordBay n 0x0302 [n, s.get (R.ANG_STAT.LAYER n), (s.bay n).tracker.detSeen]

theorem State.get_acqOver (s : State) {n : Nat} {g : Field} (hg : 32 * 0x1000000 ≤ g.key) :
    (s.acqOver n).get g = (s.zero (R.ANG_STAT.ACQ n)).get g :=
  State.get_recordBay _ _ _ _ _ (Field.recorder_of_bayBlock hg)

theorem does_acqTimeout (hn : n < s.variant.bays) (hacq : s.on (R.ANG_STAT.ACQ n) = true) (hcandidate : (s.bay n).tracker.candidate = true)
    (hstate : s.bayState n ≠ BS.FOCUSING) :
    Does (.acqTimeout n) s fun t => t.get (R.ANG_STAT.ACQ n) = 0 ∧ t.get (R.ANG_STAT.ALIGNED n) = 0 ∧
      (t.bay n).tracker.candidate = false := by
  have harm : exec (.acqTimeout n) s = execAcqTimeout n s := rfl
  obtain ⟨haligned, hdropped, hvariant, hget⟩ := (s.acqOver n).get_alignedFall n
  have hheld : ((s.acqOver n).bay n).tracker.candidate = true := by
    rw [State.acqOver, State.bay_recordBay]
    exact hcandidate
  have hkept : ((s.acqOver n).alignedFall n).bayState n = s.bayState n := by
    have hover : (s.acqOver n).variant = s.variant := State.recordBay_variant ..
    rw [State.bayState_of_present (by rw [hvariant, hover]; exact hn), State.bayState_of_present hn,
      hget _ (by simp only [R.STATE.STATE, R.ANG_STAT.ALIGNED]; omega) (by simp only [R.STATE.STATE, R.SRV_STAT.DEF_HOLD]; omega),
      s.get_acqOver (by simp only [R.STATE.STATE]; omega), State.zero,
      State.get_put_other _ _ _ _ (by simp only [R.STATE.STATE, R.ANG_STAT.ACQ]; omega)]
  have hexec : exec (.acqTimeout n) s = .next ((s.acqOver n).alignedFall n) := by
    have hover : (s.zero (R.ANG_STAT.ACQ n)).recordBay n 0x0302 [n, s.get (R.ANG_STAT.LAYER n), (s.bay n).tracker.detSeen] = s.acqOver n := rfl
    rw [harm, execAcqTimeout, State.onBay_of_present hn, if_pos hacq]
    simp only [hover, if_pos hheld, hkept, if_neg hstate]
  rw [does_iff hexec]
  refine ⟨?_, haligned, hdropped⟩
  rw [hget _ (by simp only [R.ANG_STAT.ACQ, R.ANG_STAT.ALIGNED]; omega) (by simp only [R.ANG_STAT.ACQ, R.SRV_STAT.DEF_HOLD]; omega),
    s.get_acqOver (by simp only [R.ANG_STAT.ACQ]; omega), State.get_zero_same]

theorem does_bridgeExpire (hn : n < s.variant.bays) (hbridge : s.on (R.ANG_STAT.BRIDGE n) = true) :
    Does (.bridgeExpire n) s fun t => t.get (R.ANG_STAT.BRIDGE n) = 0 ∧ t.get (R.ANG_STAT.MISS_RUN n) = 0 ∧
      (t.bay n).tracker.bridge = 0 ∧ Leaves s t [R.ANG_STAT.BRIDGE n, R.ANG_STAT.MISS_RUN n] [n] := by
  have harm : exec (.bridgeExpire n) s = execBridgeExpire n s := rfl
  have hexec : exec (.bridgeExpire n) s =
      .next (((s.zero (R.ANG_STAT.BRIDGE n)).zero (R.ANG_STAT.MISS_RUN n)).onTracker n fun k => { k with bridge := 0 }) := by
    rw [harm, execBridgeExpire, State.onBay_of_present hn, State.closeBridge, if_pos hbridge]
  rw [does_iff hexec]
  refine ⟨?_, ?_, by simp, (((Leaves.refl s _ _).zero (by simp)).zero (by simp)).onTracker (by simp) _⟩
  · rw [State.get_onTracker, State.zero, State.get_put_other _ _ _ _ (by simp only [R.ANG_STAT.BRIDGE, R.ANG_STAT.MISS_RUN]; omega),
      State.get_zero_same]
  · rw [State.get_onTracker, State.get_zero_same]

/-- Settles O16: each clause is one event of the angle tracker; a decision's rest keeps what its wedge was (`Deciding`). -/
theorem angleTrackerEvents : Obligations.AngleTrackerEvents := by
  unfold Obligations.AngleTrackerEvents
  intro n s hn
  exact ⟨does_wedgeDetection_candidate hn, does_wedgeDetection_false hn, does_wedgeDecision_missed hn, does_wedgeDecision_taken hn,
    does_toothReport_first hn, does_toothReport_short hn, does_toothSynthesis hn, does_acqTimeout hn, does_bridgeExpire hn⟩

end Sys2Proof.Machine
end
